-- ==== Sys2Proof/Word.lean ====
section
/-!
DEFINITION. The word types of the model and their plainest arithmetic: bytes, 32-bit registers,
64-bit handles, byte strings, and the crossing stamp of R25.
-/

namespace Sys2Proof

/-- One byte. -/
abbrev Byte := BitVec 8

/-- One register (R11: a register is 32 bits). -/
abbrev Reg := BitVec 32

/-- A byte string, first byte first. -/
abbrev Bytes := List Byte

/-- A crossing stamp (R25): TAI seconds and the index of the crossing within the second. -/
structure Stamp where
  sec : Nat
  idx : Nat
  deriving DecidableEq, Repr

/-- The 64-bit value of a stamp: seconds in [63:16], index in [15:0] (R25). -/
def Stamp.bits (t : Stamp) : Nat := t.sec * 65536 + t.idx

/-- The stamp a 64-bit value names (R25). -/
def Stamp.ofBits (n : Nat) : Stamp := ⟨n / 65536 % 2 ^ 48, n % 65536⟩

/-- A stamp and its nanosecond offset (R26). -/
structure Instant where
  stamp : Stamp
  ns : Nat
  deriving DecidableEq, Repr

end Sys2Proof
end

