-- ==== Sys2Proof/Syntax.lean ====
section
/-!
DEFINITION. The commands the block takes, one constructor of `Instr` per row of spec/opcode_table.json, with the
operands each takes, and the small record types those operands use.
-/

namespace Sys2Proof

/-- Engine classes, with the codes of R83. -/
inductive EngClass where
  | pe | me | ce | bne | hse | de | sse
  deriving DecidableEq, Repr

/-- A time source of the timebase, in the priority order of R61. -/
inductive TimeSource where
  | ptpPrimary | ptpBackup | ppsIrig | irigOnly
  deriving DecidableEq, Repr

/-- A path between twins (R562). -/
inductive TwinPath where
  | plA | plB | mgmt
  deriving DecidableEq, Repr

/-- One LVU instruction as issued: the fields of R360 but LOP, the microword's IMM (R370), the port addresses of the
same nanoword (R373), and the read errors the engine's checkers raise on it: pairs of a cause (1 or 3 of R366) and the
element it hit. -/
structure LvuOp where
  vd : Nat
  va : Nat
  vb : Nat
  pred : Nat
  grp : Nat
  w32 : Bool
  rnd : Nat
  sat : Bool
  aux : Nat
  imm : Nat
  portA : Nat
  portB : Nat
  uaddr : Nat
  hw : List (Nat × Nat)
  deriving DecidableEq, Repr

/-- The kinds of PTP message the slave-only client acts on (R61, R62). -/
inductive PtpKind where
  | announce (clockClass : Nat) (utcOffset : Nat)
  | sync (offsetNs : Int)
  | peerDelay
  deriving DecidableEq, Repr

/-- A PTP message as it arrives (R62): its domain and what it says. -/
structure PtpMessage where
  domain : Nat
  kind : PtpKind
  deriving DecidableEq, Repr

/-- Where a management client connects (R135): the module's port, and the TCP port. -/
structure MgmtEndpoint where
  port : Nat
  tcp : Nat
  deriving DecidableEq, Repr

/-- A tree of a stateful key: the key's node, and the level counted from the top (R285). -/
structure KeyTree where
  node : Nat
  level : Nat
  deriving DecidableEq, Repr

/-- An optics module in a cage, and whether it is a narrow one of four lanes (R500, R650). -/
structure CageModule where
  cage : Nat
  narrow : Bool
  deriving DecidableEq, Repr

/-- A coded fault message as a block sends it (R589), before the fault collector stamps and classes it. `fatal` is the
condition R592 leaves to the sender where the table names one (kind 0x24, R145). -/
structure FaultMsg where
  source : Nat
  access : Nat
  kind : Nat
  master : Nat
  address : Nat
  fatal : Bool
  deriving DecidableEq, Repr

/-- A frame that arrives on a lane, with the fields the classifier and the stream SEs read (R502, R513 to R519). The
counters are smpCnt for SV, stNum and sqNum for GOOSE (R518). `seqTag` is the redundancy trailer or tag number.
Mark: DESIGN CHOICE (log entry 88). -/
structure Frame where
  lane : Nat
  src : Nat
  dst : Nat
  vid : Nat
  appid : Nat
  routable : Bool
  eapol : Bool
  secTag : Option (Nat × Nat × Nat × Bool)
  wireLen : Nat
  declaredLen : Nat
  receivedLen : Nat
  authLen : Nat
  seqTag : Option Nat
  forModule : Bool
  keyId : Nat
  smpCnt : Nat
  stNum : Nat
  sqNum : Nat
  tag : Bytes
  body : Bytes
  deriving DecidableEq, Repr

/-- A heartbeat body (R566). Mark: DESIGN CHOICE (log entry 88). -/
structure Heartbeat where
  role : Nat
  state : Nat
  fault : Bool
  mpRun : Bool
  castleGo : Bool
  parity : Nat
  stamp : Stamp
  mseqAcked : Nat
  updCounter : Nat
  deriving DecidableEq, Repr

/-- What the partner sends in a handshake (R567). Mark: DESIGN CHOICE (log entry 88). -/
inductive HandshakeMsg where
  | hello (loPl hiPl fwMajor role rate : Nat) (mid nonce : Bytes) (partnerOf : Bytes)
  | proof (response : Bytes)
  | keyx (material : Bytes)
  deriving DecidableEq, Repr

/-- A parsed TLV: type and value (R115). -/
structure Tlv where
  type : Nat
  val : Bytes
  deriving DecidableEq, Repr

/-- The commands of the block. Rows that are Tredy opcodes take the number of a job the XS or the MP is running, and
the bytes DMA reads from its input fragments where the opcode takes a message. Mark: DESIGN CHOICE (log entry 91). -/
inductive Instr where
  -- administration (R148)
  | hello (j : Nat) | caps (j : Nat) | readyQuery (j : Nat) | fwStatus (j : Nat)
  -- manifest (R85)
  | manifestLoad (j : Nat) | manifestActivate (j : Nat) | manifestQuery (j : Nat)
  -- keys (R471)
  | keyDerive (j : Nat) | keyInstantiate (j : Nat) | keyReserve (j : Nat) | keyInvalidate (j : Nat)
  | keyRelease (j : Nat) | keyInfo (j : Nat) | keyUpdateApply (j : Nat) | challengeRespond (j : Nat)
  | keyImportWrapped (j : Nat) | keyGenerate (j : Nat) | keyAttest (j : Nat) | keyExportPublic (j : Nat)
  -- lattice (R220)
  | mlkemKeygen (j : Nat) | mlkemEncaps (j : Nat) | mlkemDecaps (j : Nat) | mldsaKeygen (j : Nat)
  | mldsaSign (j : Nat) (data : Bytes) | mldsaVerify (j : Nat) (data : Bytes) | fndsaVerify (j : Nat) (data : Bytes)
  | hybridKemEncaps (j : Nat) | hybridKemDecaps (j : Nat)
  | compositeSign (j : Nat) (data : Bytes) | compositeVerify (j : Nat) (data : Bytes)
  -- hash-based (R289)
  | slhdsaKeygen (j : Nat) | slhdsaSign (j : Nat) (data : Bytes) | slhdsaVerify (j : Nat) (data : Bytes)
  | lmsKeygen (j : Nat) | lmsSign (j : Nat) (data : Bytes) | lmsVerify (j : Nat) (data : Bytes)
  | xmssKeygen (j : Nat) | xmssSign (j : Nat) (data : Bytes) | xmssVerify (j : Nat) (data : Bytes)
  | hbsReserveStatus (j : Nat)
  -- code-based (R320)
  | mceKeygen (j : Nat) | mceEncaps (j : Nat) | mceDecaps (j : Nat)
  | hqcKeygen (j : Nat) | hqcEncaps (j : Nat) | hqcDecaps (j : Nat)
  -- classical (R342)
  | bnModexp (j : Nat) | bnModmul (j : Nat) | bnModinv (j : Nat)
  | rsaKeygen (j : Nat) | rsaPrivate (j : Nat) | rsaPublic (j : Nat)
  | ecKeygen (j : Nat) | ecdsaSign (j : Nat) (data : Bytes) | ecdsaVerify (j : Nat) (data : Bytes)
  | ecdh (j : Nat) | x25519 (j : Nat) | x448 (j : Nat)
  | eddsaSign (j : Nat) (data : Bytes) | eddsaVerify (j : Nat) (data : Bytes)
  -- cipher and digest (R423)
  | aesGcmEnc (j : Nat) (data : Bytes) | aesGcmDec (j : Nat) (data : Bytes) | aesCtr (j : Nat) (data : Bytes)
  | aesCbcEnc (j : Nat) (data : Bytes) | aesCbcDec (j : Nat) (data : Bytes)
  | aesXtsEnc (j : Nat) (data : Bytes) | aesXtsDec (j : Nat) (data : Bytes)
  | aesCmac (j : Nat) (data : Bytes) | aesGmac (j : Nat) (data : Bytes)
  | digestUpdate (j : Nat) (data : Bytes) | digestRelease (j : Nat) | digestFinal (j : Nat) (data : Bytes)
  | macVerify (j : Nat) (data : Bytes) | digestSave (j : Nat) | digestRestore (j : Nat)
  | digestOneshot (j : Nat) (data : Bytes)
  -- random (R497)
  | rngGet (j : Nat) | rngStatus (j : Nat)
  -- ports and streams (R536)
  | streamCreate (j : Nat) | streamModify (j : Nat) | streamDelete (j : Nat) | streamStats (j : Nat)
  | portConfig (j : Nat) | macsecSaInstall (j : Nat) | eventSignPolicy (j : Nat)
  -- instances (R560)
  | instanceCreate (j : Nat) | instanceShareSet (j : Nat) | instanceQuiesce (j : Nat) | instanceResume (j : Nat)
  | instanceReset (j : Nat) | instanceRemove (j : Nat)
  -- twin (R583)
  | pairEstablish (j : Nat) | pairDissolve (j : Nat) | castle (j : Nat) | pairStatus (j : Nat)
  -- faults and microcode (R621, R383)
  | faultLogRead (j : Nat) | faultClear (j : Nat) | selftest (j : Nat) | microcodeLoad (j : Nat)
  -- LVU instructions (R361)
  | vnop (pe : Nat) (o : LvuOp) | vld (pe : Nat) (o : LvuOp) | vst (pe : Nat) (o : LvuOp)
  | vgather (pe : Nat) (o : LvuOp) | vscatter (pe : Nat) (o : LvuOp) | vmov (pe : Nat) (o : LvuOp)
  | vbcast (pe : Nat) (o : LvuOp) | vrand (pe : Nat) (o : LvuOp) | vsetq (pe : Nat) (o : LvuOp)
  | vmadd (pe : Nat) (o : LvuOp) | vmsub (pe : Nat) (o : LvuOp) | vmmul (pe : Nat) (o : LvuOp)
  | vreduce (pe : Nat) (o : LvuOp) | vadd (pe : Nat) (o : LvuOp) | vsub (pe : Nat) (o : LvuOp)
  | vsadd (pe : Nat) (o : LvuOp) | vssub (pe : Nat) (o : LvuOp) | vmulhr (pe : Nat) (o : LvuOp)
  | vshrr (pe : Nat) (o : LvuOp) | vshl (pe : Nat) (o : LvuOp) | vand (pe : Nat) (o : LvuOp)
  | vor (pe : Nat) (o : LvuOp) | vxor (pe : Nat) (o : LvuOp) | vcompress (pe : Nat) (o : LvuOp)
  | vdecompress (pe : Nat) (o : LvuOp) | vp2r (pe : Nat) (o : LvuOp) | vdecompose (pe : Nat) (o : LvuOp)
  | vhighbits (pe : Nat) (o : LvuOp) | vcmp (pe : Nat) (o : LvuOp) | vsel (pe : Nat) (o : LvuOp)
  | vany (pe : Nat) (o : LvuOp) | vperm (pe : Nat) (o : LvuOp) | vdeint (pe : Nat) (o : LvuOp)
  -- microwords (R370): the engine whose sequencer fetches it, NPTR and IMM
  | uwNext (cls : EngClass) (eng nptr imm : Nat) | uwJump (cls : EngClass) (eng nptr imm : Nat)
  | uwBranch (cls : EngClass) (eng nptr imm : Nat) | uwLoop (cls : EngClass) (eng nptr imm : Nat)
  | uwCall (cls : EngClass) (eng nptr imm : Nat) | uwReturn (cls : EngClass) (eng nptr imm : Nat)
  | uwYield (cls : EngClass) (eng nptr imm : Nat) | uwEnd (cls : EngClass) (eng nptr imm : Nat)
  -- microcode events
  | lvuRestart (pe : Nat) (hw : List (Nat × Nat)) | sequencerGuardExpiry (cls : EngClass) (eng : Nat)
  | mcodeParity (cls : EngClass) (eng addr : Nat) | segmentReloadDone (k : Nat) (ok : Bool)
  | microcodeDrainEnd (k : Nat) (ok : Bool) | startupMicrocodeLoad (k : Nat)
  -- register accesses (R15 to R20); `fn` is 0 for the physical function and n for virtual function n (R47)
  | cfgCommit (v : Reg) | cfgCancel (v : Reg) | cfgRevert (v : Reg)
  | shadowWrite (off : Nat) (v : Reg) | registerWrite (fn off : Nat) (v : Reg) | latchingReadLo (fn off : Nat)
  | xsTimeSet (v : Reg) | dbSqTail (fn pair : Nat) (v : Reg) | dbCqHead (fn pair : Nat) (v : Reg)
  | tenantEnableRequest (fn pair : Nat) (v : Reg) | tenantDisableRequest (fn pair : Nat) (v : Reg)
  | tenantInterruptChange (fn pair : Nat) (vector : Bool) (v : Reg)
  | peKcFlush (v : Reg) | mpSlowqHwmClr (v : Reg) | mpMgmtEn (v : Reg) | rngRetest (v : Reg) | rngData (fn : Nat)
  | ptFifoFlush (v : Reg) | fcFecValid (v : Reg) | mcLvuFlt0Release (v : Reg) | fcRelease (v : Reg)
  | pwrReset (v : Reg)
  -- queues and jobs
  | entryFetch (q : Nat) (entry : Bytes) (params : Option Bytes) (table : Option Bytes)
  | sqReadFailed (q : Nat) | phasePoll (q : Nat) (unit : Bytes) | fenceRelease (j : Nat)
  | jobGrant (cls : EngClass) (eng : Nat) | mpCommandStart
  | jobComplete (j ns failedChecks : Nat) (dmaFault : Option Nat)
  | deadlineMissed (j : Nat) | rngWaitExpiry (j : Nat) | reserveWaitExpiry (j : Nat) | moderationDue (q : Nat)
  | linkL0Reached | d0Return (fn : Nat) | functionLevelReset (n : Nat) | vfDisable (enable : Bool) (numVfs : Nat)
  | pcieReset | instanceQuiesced (n : Nat) | quiesceWaitExpiry (n : Nat) | instanceResetDone (n : Nat)
  -- crossings
  | crossingBoundary | pathLossCheck | boundaryGuard (agree : Bool) | rateChange
  | berthLeadIn (berth : Nat) | berthStart (berth : Nat) | berthEnd (berth : Nat) | ownerArrivalLent (berth j : Nat)
  | preemptionPoint (cls : EngClass) (eng : Nat) | quantumExpiry (cls : EngClass) (eng : Nat)
  | forkRoundVerdict (j : Nat) | manifestRestore
  -- timebase
  | timeSourceQualified (src : TimeSource) (offsetNs : Int) (tai : Nat) | timeSourceLost (src : TimeSource)
  | slewLock (offsetNs : Int) | holdoverLimit
  | ptpMessage (backup : Bool) (m : PtpMessage) | ppsPulse (gapNs : Nat) | irigbFrame (valid : Bool) (utc : Nat)
  -- management processor and its channels
  | mpWatchdogExpiry (pair ns : Nat) | mpRestartDone | mpRestartTimeout | mpLockstep (pair : Nat)
  | mgmtSessionOpen (client : MgmtEndpoint) (groups suites sigs : List Nat) (clientCertOk : Bool)
  | mgmtPacket (port session : Nat) (packet : Bytes)
  | mgmtSessionIdle (port session : Nat) | mgmtSessionClose (port session : Nat) | consoleFrame (frame : Bytes)
  -- key store events
  | invalidationScanEnd | blockReserve (node : Nat) | journalReadback (node : Nat) (ok : Bool)
  | treeRebuildDone (node : Nat) | nextTreeBuilt (tree : KeyTree) | journalStartupScan
  | mceRegenerationDone (j : Nat) | rsaRegenerationDone (j : Nat)
  -- random events
  | noiseSourceFail (src test : Nat) | startupTestPass (src : Nat) | autoRetest (src : Nat)
  | conditionerBlock | drbgReseed (d : Nat) | expanderSeed (cls : EngClass) (eng : Nat)
  | rngFailed | rngReady | rngBufferRefill (fn : Nat)
  -- stream events
  | streamFrame (f : Frame) | frameEgress (id : Nat) | mgmtLaneFrame (vid : Nat) (bytes : Bytes)
  | signedEventRelease (ev : Nat) | lateLimitExpiry (ev : Nat) | fifoPointerMismatch (fifo : Nat)
  | laneLinkChange (lane : Nat) (up : Bool) | cageOvercurrent (cage : Nat) | cageModulePresent (m : CageModule)
  -- twin events
  | pairingFrame (path : TwinPath) (frame : Bytes) | heartbeatReceive (path : TwinPath) (ctr mseq : Nat) (tagOk : Bool)
      (hb : Heartbeat)
  | pairingHandshake (m : HandshakeMsg) | mirrorRecord (mseq kind : Nat) (body : Bytes)
  | mirrorAck (mseq status : Nat) | slotRecordTimeout (j : Nat) | promotion | castleCommit | castleTakeback
  | joinWaitExpiry | pairWaitExpiry
  -- faults and alarms
  | faultMessage (m : FaultMsg) (ns : Nat) | engineReturn (source : Nat) | xsGrantRecompute (agree : Bool)
  | logRingDrain | quietPeriodEnd | alarm (input eraseNs : Nat) | feedLost (feed : Nat) | feedReturn
  | fanChange (fan rpm : Nat) | tempHigh (deciC : Nat) | scrubPass (ddr : Bool)
  -- power and start-up
  | domainPowerOn (d : Nat) | domainPowerOff (d : Nat) | powerOnReset | firmwareVerify (sigA sigB : Bool)
  | configRestore | ddrTrainingDone | supercapReady (charge : Nat) | pufReconstruction (failedAttempts : Nat)
  | nvStartupScan | d3hotEntry (fn : Nat) | aspmL1Entry (l12 : Bool) | pcieLinkUp | pcieLinkDown
  | vfEnable (numVfs : Nat) | ref10mSignalChange (present : Bool) | noiseSourceSettled (src : Nat)
  | cageModuleUnplugged (cage : Nat) | feedRestored (feed : Nat) | railsFall | supercapExhausted
  | alarmInputClear (input : Nat) | fatalConditionClear (kind : Nat) | scratchZeroingDone (n : Nat)
  deriving DecidableEq, Repr

end Sys2Proof
end

