-- ==== Sys2Proof/Decode.lean ====
section
/-!
DEFINITION. The decoder over the rows of spec/opcode_table.json that give bits. No row gives any: the commands are
register accesses, packets, frames and events, which no instruction word spells.
-/

namespace Sys2Proof

/-- The command a word spells by the bits of the opcode table: none, since no row of it has bits.
Mark: DESIGN CHOICE (log entry 3). -/
def decodeTableWord (_nbits _w : Nat) : Option Instr := none

end Sys2Proof
end

