-- ==== Sys2Proof/Config.lean ====
section
/-!
DEFINITION. What the spec leaves open: the free values, as constants without a body, and the functions that published
standards define, as uninterpreted functions of their operands. Nothing can be proved about a value of either.
-/

namespace Sys2Proof.Config

/-- The free bytes: randomness the module draws, and every other value the spec does not fix. The step reads the next
ones by the counter `State.free`. Logged as assumption 1. -/
opaque freeByte : Nat → Byte

/-- The free numbers: measurements (times, loads, levels) the spec gives no value for. Logged as assumption 1. -/
opaque freeNat : Nat → Nat

/-- The bytes of a function that a published standard defines (FIPS 203 to 205, FN-DSA, RFC 8554, RFC 8391, Classic
McEliece, HQC, elliptic curves, X.509): its name and parameter set, its operands, and the byte's place in the result.
Logged as assumption 2. -/
opaque standardByte : String → Nat → List Bytes → Nat → Byte

/-- Whether an encoding or a signature passes the check a published standard defines, by name, parameter set and
operands. Logged as assumption 2. -/
opaque standardCheck : String → Nat → List Bytes → Bool

/-- A number that a published standard's function yields (rounds of a rejection loop, attempts of a generation). Logged
as assumption 2. -/
opaque standardNat : String → Nat → List Bytes → Nat

/-- Zenneha's PCIe vendor identifier, which R5 names and does not give. Logged as assumption 1. -/
opaque vendorId : BitVec 16

/-- The result of a function of a published standard whose length is `n` bytes. -/
def standard (name : String) (set : Nat) (args : List Bytes) (n : Nat) : Bytes :=
  (List.range n).map (standardByte name set args)

end Sys2Proof.Config
end

