-- ==== Sys2Proof/Machine/RegMap.lean ====
section
/-!
DEFINITION. The register maps of the spec, one row per register: where it stands in the physical function's BAR0 (R43),
how it is accessed (R15), which bits a write sets, its commit group (R108) and its reset value. Each row is copied from
the table of the rule its docstring names.
-/

namespace Sys2Proof.Machine

/-- The access code of a register (R15). A register whose fields carry several codes is `ro` or `rw` with the RW1C bits
in `w1c`. -/
inductive RegKind where
  | ro | rw | rws | wo
  deriving DecidableEq, Repr

/-- One row of a register map. `addr` is the BAR0 offset of the first register, `count` and `stride` place the others of
an array; `mask` holds the bits a write sets, `w1c` the write-1-to-clear bits. -/
structure RegRow where
  addr : Nat
  count : Nat
  stride : Nat
  kind : RegKind
  group : Nat
  mask : Nat
  w1c : Nat
  reset : Nat
  deriving DecidableEq, Repr

/-- spec/02, XS_ registers: XS_ID. [15:0] VERSION -/
abbrev aXS_ID : Nat := 0x20000
/-- spec/02, XS_ registers: XS_RATE. [15:0] RATE -/
abbrev aXS_RATE : Nat := 0x20010
/-- spec/02, XS_ registers: XS_TB_CTRL. [16] PROFILE; [15:8] PTP_DOMAIN; [5] PPS_OUT_EN; [4] STEP_EN; [3] REF10M_EN;
[2] IRIGB_EN; [1] PPS_EN; [0] PTP_EN -/
abbrev aXS_TB_CTRL : Nat := 0x20014
/-- spec/02, XS_ registers: XS_PTP_PORT. [25:16] BACKUP; [9:0] PRIMARY -/
abbrev aXS_PTP_PORT : Nat := 0x20018
/-- spec/02, XS_ registers: XS_HOLDOVER_LIMIT. [16:0] SECONDS -/
abbrev aXS_HOLDOVER_LIMIT : Nat := 0x2001c
/-- spec/02, XS_ registers: XS_QUANTUM. [16] LEND_EN; [15:0] QUANTUM_NS -/
abbrev aXS_QUANTUM : Nat := 0x20020
/-- spec/02, XS_ registers: XS_TAI_UTC. [7:0] OFFSET -/
abbrev aXS_TAI_UTC : Nat := 0x20024
/-- spec/02, XS_ registers: XS_PPS_WIDTH. [19:0] WIDTH_US -/
abbrev aXS_PPS_WIDTH : Nat := 0x20028
/-- spec/02, XS_ registers: XS_TB_STATE. [8] STEP_PENDING; [5:4] SOURCE; [3] BACKUP_PORT; [1:0] STATE -/
abbrev aXS_TB_STATE : Nat := 0x20030
/-- spec/02, XS_ registers: XS_TB_OFFSET. [31:0] OFFSET_NS -/
abbrev aXS_TB_OFFSET : Nat := 0x20034
/-- spec/02, XS_ registers: XS_HOLDOVER_TIME. [31:0] SECONDS -/
abbrev aXS_HOLDOVER_TIME : Nat := 0x20038
/-- spec/02, XS_ registers: XS_STEP_COUNT. [31:0] COUNT -/
abbrev aXS_STEP_COUNT : Nat := 0x2003c
/-- spec/02, XS_ registers: XS_NOW_STAMP_LO. [31:0] STAMP[31:0] -/
abbrev aXS_NOW_STAMP_LO : Nat := 0x20040
/-- spec/02, XS_ registers: XS_NOW_STAMP_HI. [31:0] STAMP[63:32] -/
abbrev aXS_NOW_STAMP_HI : Nat := 0x20044
/-- spec/02, XS_ registers: XS_NOW_NS. [31:0] NS -/
abbrev aXS_NOW_NS : Nat := 0x20048
/-- spec/02, XS_ registers: XS_TIME_SET_LO. [31:0] SEC[31:0] -/
abbrev aXS_TIME_SET_LO : Nat := 0x20050
/-- spec/02, XS_ registers: XS_TIME_SET_HI. [15:0] SEC[47:32] -/
abbrev aXS_TIME_SET_HI : Nat := 0x20054
/-- spec/02, XS_ registers: XS_MANIFEST_ID. [31:0] ID -/
abbrev aXS_MANIFEST_ID : Nat := 0x20060
/-- spec/02, XS_ registers: XS_MANIFEST_ENTRIES. [12:0] COUNT -/
abbrev aXS_MANIFEST_ENTRIES : Nat := 0x20064
/-- spec/02, XS_ registers: XS_ENGINE_SEL. [10:8] CLASS; [5:0] ENGINE -/
abbrev aXS_ENGINE_SEL : Nat := 0x20070
/-- spec/02, XS_ registers: XS_ENGINE_RES. [15:0] UNITS -/
abbrev aXS_ENGINE_RES : Nat := 0x20074
/-- spec/02, XS_ registers: XS_PREEMPT_CNT. [31:0] COUNT -/
abbrev aXS_PREEMPT_CNT : Nat := 0x20080
/-- spec/02, XS_ registers: XS_SPILL_CNT. [31:0] COUNT -/
abbrev aXS_SPILL_CNT : Nat := 0x20084
/-- spec/02, XS_ registers: XS_TAIL_CNT. [31:0] COUNT -/
abbrev aXS_TAIL_CNT : Nat := 0x20088
/-- spec/02, XS_ registers: XS_CMP_STATUS. [1] STATE_MISMATCH; [0] GRANT_MISMATCH -/
abbrev aXS_CMP_STATUS : Nat := 0x20090
/-- spec/02, CFG_ registers: CFG_COMMIT. [15:0] GROUPS -/
abbrev aCFG_COMMIT : Nat := 0x30000
/-- spec/02, CFG_ registers: CFG_CANCEL. [15:0] GROUPS -/
abbrev aCFG_CANCEL : Nat := 0x30004
/-- spec/02, CFG_ registers: CFG_REVERT. [15:0] GROUPS -/
abbrev aCFG_REVERT : Nat := 0x30008
/-- spec/02, CFG_ registers: CFG_PENDING. [15:0] GROUPS -/
abbrev aCFG_PENDING : Nat := 0x30010
/-- spec/02, CFG_ registers: CFG_REFUSED. [15:0] GROUPS -/
abbrev aCFG_REFUSED : Nat := 0x30014
/-- spec/02, CFG_ registers: CFG_WR_IGNORED. [15:0] GROUPS -/
abbrev aCFG_WR_IGNORED : Nat := 0x30018
/-- spec/02, CFG_ registers: CFG_SEQ. [31:0] COUNT -/
abbrev aCFG_SEQ : Nat := 0x3001c
/-- spec/02, CFG_ registers: CFG_APPLIED_STAMP_LO. [31:0] STAMP[31:0] -/
abbrev aCFG_APPLIED_STAMP_LO : Nat := 0x30020
/-- spec/02, CFG_ registers: CFG_APPLIED_STAMP_HI. [31:0] STAMP[63:32] -/
abbrev aCFG_APPLIED_STAMP_HI : Nat := 0x30024
/-- spec/02, CFG_ registers: CFG_FAIL_INFO. [12:8] GROUP; [7:0] CODE -/
abbrev aCFG_FAIL_INFO : Nat := 0x30028
/-- spec/02, CFG_ registers: CFG_FAIL_ADDR. [25:0] OFFSET -/
abbrev aCFG_FAIL_ADDR : Nat := 0x3002c
/-- R149: MP_ID. [15:0] VERSION -/
abbrev aMP_ID : Nat := 0x80000
/-- R149: MP_FW_VERSION. [31:24] MAJOR; [23:16] MINOR; [15:0] PATCH -/
abbrev aMP_FW_VERSION : Nat := 0x80004
/-- R149: MP_STATE. [10] PAIR1_LS_OK; [9] PAIR0_LS_OK; [8] ADMIT_BUSY; [2:0] STATE -/
abbrev aMP_STATE : Nat := 0x80008
/-- R149: MP_SLOWQ. [26:16] HWM; [10:0] OCC -/
abbrev aMP_SLOWQ : Nat := 0x8000c
/-- R149: MP_SLOWQ_HWM_CLR. [0] CLR -/
abbrev aMP_SLOWQ_HWM_CLR : Nat := 0x80010
/-- R149: MP_UTIL. [25:16] PAIR1; [9:0] PAIR0 -/
abbrev aMP_UTIL : Nat := 0x80014
/-- R149: MP_DRAIN. [15:0] COUNT -/
abbrev aMP_DRAIN : Nat := 0x80018
/-- R149: MP_RETRY_HINT. [31:0] CROSSINGS -/
abbrev aMP_RETRY_HINT : Nat := 0x8001c
/-- R149: MP_BUSY_CNT. [31:0] COUNT -/
abbrev aMP_BUSY_CNT : Nat := 0x80020
/-- R149: MP_RESTART_CNT. [31:0] COUNT -/
abbrev aMP_RESTART_CNT : Nat := 0x80024
/-- R149: MP_RESTART_STAMP_LO. [31:0] STAMP[31:0] -/
abbrev aMP_RESTART_STAMP_LO : Nat := 0x80028
/-- R149: MP_RESTART_STAMP_HI. [31:0] STAMP[63:32] -/
abbrev aMP_RESTART_STAMP_HI : Nat := 0x8002c
/-- R149: MP_WDOG. [15:0] TIMEOUT_US -/
abbrev aMP_WDOG : Nat := 0x80030
/-- R149: MP_TREDY_SEL. [7:0] INSTANCE -/
abbrev aMP_TREDY_SEL : Nat := 0x80040
/-- R149: MP_TREDY_VER. [16] NEGOTIATED; [15:8] MAJOR; [7:0] MINOR -/
abbrev aMP_TREDY_VER : Nat := 0x80044
/-- R149: MP_MGMT_EN. [1] MGMT1; [0] MGMT0 -/
abbrev aMP_MGMT_EN : Nat := 0x80050
/-- R149: MP_MGMT_TCP. [15:0] PORT -/
abbrev aMP_MGMT_TCP : Nat := 0x80054
/-- R149: MP_CONSOLE_BAUD. [2:0] RATE -/
abbrev aMP_CONSOLE_BAUD : Nat := 0x80058
/-- R149: MP_SESSIONS. [8] CONSOLE; [7:4] MGMT1; [3:0] MGMT0 -/
abbrev aMP_SESSIONS : Nat := 0x8005c
/-- R207: Q_CTL. [25:24] KIND; [20:16] CQ_LOG2; [12:8] SQ_LOG2; [3] MODE; [2] FORMAT; [1] CLASS; [0] ENABLE -/
abbrev aQ_CTL : Nat := 0x0
/-- R207: Q_SQ_BASE_LO. [31:0] ADDR[31:0] -/
abbrev aQ_SQ_BASE_LO : Nat := 0x4
/-- R207: Q_SQ_BASE_HI. [31:0] ADDR[63:32] -/
abbrev aQ_SQ_BASE_HI : Nat := 0x8
/-- R207: Q_CQ_BASE_LO. [31:0] ADDR[31:0] -/
abbrev aQ_CQ_BASE_LO : Nat := 0xc
/-- R207: Q_CQ_BASE_HI. [31:0] ADDR[63:32] -/
abbrev aQ_CQ_BASE_HI : Nat := 0x10
/-- R207: Q_MIRROR_LO. [31:6] ADDR[31:6] -/
abbrev aQ_MIRROR_LO : Nat := 0x14
/-- R207: Q_MIRROR_HI. [31:0] ADDR[63:32] -/
abbrev aQ_MIRROR_HI : Nat := 0x18
/-- R207: Q_POLL. [11:0] POLL -/
abbrev aQ_POLL : Nat := 0x1c
/-- R207: Q_MOD. [27:16] TIMER; [15:8] COUNT; [1:0] MODE -/
abbrev aQ_MOD : Nat := 0x20
/-- R207: Q_VECTOR. [5:0] VECTOR -/
abbrev aQ_VECTOR : Nat := 0x24
/-- R207: Q_OWNER. [15:8] LOCAL; [7:0] INSTANCE -/
abbrev aQ_OWNER : Nat := 0x40
/-- R207: Q_STATUS. [31:24] SETUP_FAIL; [18] WR_IGNORED; [17] SETUP_REFUSED; [16] DB_ERR; [12:8] HELD; [6] D3_HELD;
[5] THROTTLED; [4] DRAINING; [3] ERROR; [2] CQ_STALL; [1] IDLE; [0] ENABLED -/
abbrev aQ_STATUS : Nat := 0x44
/-- R207: Q_SQ_IDX. [31:16] TAIL; [15:0] HEAD -/
abbrev aQ_SQ_IDX : Nat := 0x48
/-- R207: Q_CQ_IDX. [31:16] TAIL; [15:0] HEAD -/
abbrev aQ_CQ_IDX : Nat := 0x4c
/-- R207: Q_INFLIGHT. [15:0] COUNT -/
abbrev aQ_INFLIGHT : Nat := 0x50
/-- R207: Q_STALL_CNT. [31:0] COUNT -/
abbrev aQ_STALL_CNT : Nat := 0x54
/-- R207: Q_REJECT_CNT. [31:0] COUNT -/
abbrev aQ_REJECT_CNT : Nat := 0x58
/-- R207: Q_LOST. [31:0] COUNT -/
abbrev aQ_LOST : Nat := 0x5c
/-- R207: Q_SEQ. [31:0] NEXT -/
abbrev aQ_SEQ : Nat := 0x60
/-- R259: PE_ID. [15:0] VERSION -/
abbrev aPE_ID : Nat := 0x90000
/-- R259: PE_CAPS. [11:8] CLUSTERS; [5] FORK; [4] COMPOSITE; [3] HYBRID; [2] FNDSA; [1] MLDSA; [0] MLKEM -/
abbrev aPE_CAPS : Nat := 0x90004
/-- R259: PE_CTL. [12] EXP_SEALED; [11:8] BE_FORK_MASK; [3:0] KC_EN -/
abbrev aPE_CTL : Nat := 0x90010
/-- R259: PE_CLUSTER_STATE. [31:28] C3_OOS; [27] C3_MCI1; [26] C3_PINNED; [25] C3_BERTH; [24] C3_READY; [23:20]
C2_OOS; [19] C2_MCI1; [18] C2_PINNED; [17] C2_BERTH; [16] C2_READY; [15:12] C1_OOS; [11] C1_MCI1; [10] C1_PINNED;
[9] C1_BERTH; [8] C1_READY; [7:4] C0_OOS; [3] C0_MCI1; [2] C0_PINNED; [1] C0_BERTH; [0] C0_READY -/
abbrev aPE_CLUSTER_STATE : Nat := 0x90014
/-- R259: PE_SEL. [3:0] ENGINE -/
abbrev aPE_SEL : Nat := 0x90020
/-- R259: PE_JOBS. [31:0] COUNT -/
abbrev aPE_JOBS : Nat := 0x90024
/-- R259: PE_ATTEMPTS. [31:0] COUNT -/
abbrev aPE_ATTEMPTS : Nat := 0x90028
/-- R259: PE_KC_HIT. [31:0] COUNT -/
abbrev aPE_KC_HIT : Nat := 0x9002c
/-- R259: PE_KC_MISS. [31:0] COUNT -/
abbrev aPE_KC_MISS : Nat := 0x90030
/-- R259: PE_RETRIED. [31:0] COUNT -/
abbrev aPE_RETRIED : Nat := 0x90034
/-- R259: PE_CONTAINED. [31:0] COUNT -/
abbrev aPE_CONTAINED : Nat := 0x90038
/-- R259: PE_OWNER_WIPES. [31:0] COUNT -/
abbrev aPE_OWNER_WIPES : Nat := 0x9003c
/-- R259: PE_HIST_SEL. [7:0] ROUNDS -/
abbrev aPE_HIST_SEL : Nat := 0x90040
/-- R259: PE_HIST_FORK. [31:0] COUNT -/
abbrev aPE_HIST_FORK : Nat := 0x90044
/-- R259: PE_HIST_SINGLE. [31:0] COUNT -/
abbrev aPE_HIST_SINGLE : Nat := 0x90048
/-- R259: PE_EXHAUSTED. [31:0] COUNT -/
abbrev aPE_EXHAUSTED : Nat := 0x9004c
/-- R259: PE_EVT_SPAN. [31:0] COUNT -/
abbrev aPE_EVT_SPAN : Nat := 0x90050
/-- R259: PE_RNG_STARVE. [31:0] COUNT -/
abbrev aPE_RNG_STARVE : Nat := 0x90054
/-- R259: PE_ST. [11:8] DONE; [7] C3_VT; [6] C3_VF; [5] C2_VT; [4] C2_VF; [3] C1_VT; [2] C1_VF; [1] C0_VT; [0] C0_VF
-/
abbrev aPE_ST : Nat := 0x90060
/-- R259: PE_KC_FLUSH. [3:0] CLUSTERS -/
abbrev aPE_KC_FLUSH : Nat := 0x90064
/-- R299: ME_ID. [15:0] VERSION -/
abbrev aME_ID : Nat := 0xa0000
/-- R299: ME_CAPS. [9:8] CLUSTERS; [4] XMSSMT; [3] XMSS; [2] HSS; [1] LMS; [0] SLHDSA -/
abbrev aME_CAPS : Nat := 0xa0004
/-- R299: ME_CTL. [23:16] REBUILD_MASK; [9:0] AHEAD -/
abbrev aME_CTL : Nat := 0xa0010
/-- R299: ME_CLUSTER_STATE. [15:12] C1_OOS; [11] C1_MCI1; [10] C1_REBUILD; [9] C1_BERTH; [8] C1_READY; [7:4] C0_OOS;
[3] C0_MCI1; [2] C0_REBUILD; [1] C0_BERTH; [0] C0_READY -/
abbrev aME_CLUSTER_STATE : Nat := 0xa0014
/-- R299: ME_SEL. [2:0] ENGINE -/
abbrev aME_SEL : Nat := 0xa0020
/-- R299: ME_JOBS. [31:0] COUNT -/
abbrev aME_JOBS : Nat := 0xa0024
/-- R299: ME_RETRIED. [31:0] COUNT -/
abbrev aME_RETRIED : Nat := 0xa0028
/-- R299: ME_CONTAINED. [31:0] COUNT -/
abbrev aME_CONTAINED : Nat := 0xa002c
/-- R299: ME_HBS_SEL. [11:0] NODE -/
abbrev aME_HBS_SEL : Nat := 0xa0030
/-- R299: ME_HBS_STATE. [25:16] PROGRESS; [7:6] PARITY; [2:0] STATE -/
abbrev aME_HBS_STATE : Nat := 0xa0034
/-- R299: ME_HBS_NEXT_EVEN. [31:0] BLOCK -/
abbrev aME_HBS_NEXT_EVEN : Nat := 0xa0038
/-- R299: ME_HBS_NEXT_ODD. [31:0] BLOCK -/
abbrev aME_HBS_NEXT_ODD : Nat := 0xa003c
/-- R299: ME_HBS_CUR_BLOCK. [31:0] BLOCK -/
abbrev aME_HBS_CUR_BLOCK : Nat := 0xa0040
/-- R299: ME_HBS_CUR_LEFT. [31] AHEAD_VALID; [10:0] LEAVES -/
abbrev aME_HBS_CUR_LEFT : Nat := 0xa0044
/-- R299: ME_JRNL_STATUS. [27:16] LIVE; [11:0] HEAD -/
abbrev aME_JRNL_STATUS : Nat := 0xa0050
/-- R299: ME_JRNL_SEQ. [31:0] SEQ -/
abbrev aME_JRNL_SEQ : Nat := 0xa0054
/-- R299: ME_JRNL_LAPS. [31:0] LAPS -/
abbrev aME_JRNL_LAPS : Nat := 0xa0058
/-- R299: ME_JRNL_CRC_FAIL. [31:0] COUNT -/
abbrev aME_JRNL_CRC_FAIL : Nat := 0xa005c
/-- R299: ME_HBS_KEYS. [9:0] COUNT -/
abbrev aME_HBS_KEYS : Nat := 0xa0060
/-- R299: ME_RSV_CNT. [31:0] COUNT -/
abbrev aME_RSV_CNT : Nat := 0xa0064
/-- R299: ME_DISCARD_LO. [31:0] LEAVES[31:0] -/
abbrev aME_DISCARD_LO : Nat := 0xa0068
/-- R299: ME_DISCARD_HI. [31:0] LEAVES[63:32] -/
abbrev aME_DISCARD_HI : Nat := 0xa006c
/-- R299: ME_ST. [5:4] DONE; [3] C1_VT; [2] C1_VF; [1] C0_VT; [0] C0_VF -/
abbrev aME_ST : Nat := 0xa0070
/-- R326: CE_ID. [15:0] VERSION -/
abbrev aCE_ID : Nat := 0xb0000
/-- R326: CE_CAPS. [1] HQC; [0] MCE -/
abbrev aCE_CAPS : Nat := 0xb0004
/-- R326: CE_CTL. [16] INLINE_PK_EN; [1:0] KG_MASK -/
abbrev aCE_CTL : Nat := 0xb0010
/-- R326: CE_STATE. [7:6] OOS; [5:4] REGEN; [2] MCI1; [1] BERTH; [0] READY -/
abbrev aCE_STATE : Nat := 0xb0014
/-- R326: CE_SEL. [0] ENGINE -/
abbrev aCE_SEL : Nat := 0xb0020
/-- R326: CE_JOBS. [31:0] COUNT -/
abbrev aCE_JOBS : Nat := 0xb0024
/-- R326: CE_RETRIED. [31:0] COUNT -/
abbrev aCE_RETRIED : Nat := 0xb0028
/-- R326: CE_CONTAINED. [31:0] COUNT -/
abbrev aCE_CONTAINED : Nat := 0xb002c
/-- R326: CE_KG_ATTEMPTS. [31:0] COUNT -/
abbrev aCE_KG_ATTEMPTS : Nat := 0xb0030
/-- R326: CE_REGEN. [31:0] COUNT -/
abbrev aCE_REGEN : Nat := 0xb0034
/-- R326: CE_P3_USED. [24:0] PAGES -/
abbrev aCE_P3_USED : Nat := 0xb0040
/-- R326: CE_P3_ENTRIES. [18:0] COUNT -/
abbrev aCE_P3_ENTRIES : Nat := 0xb0044
/-- R326: CE_P3_SEL. [7:0] INSTANCE -/
abbrev aCE_P3_SEL : Nat := 0xb0048
/-- R326: CE_P3_QUOTA. [24:0] PAGES -/
abbrev aCE_P3_QUOTA : Nat := 0xb004c
/-- R326: CE_P3_INST_USED. [24:0] PAGES -/
abbrev aCE_P3_INST_USED : Nat := 0xb0050
/-- R326: CE_DIGEST_FAIL. [31:0] COUNT -/
abbrev aCE_DIGEST_FAIL : Nat := 0xb0054
/-- R326: CE_ST. [2] DONE; [1] VT; [0] VF -/
abbrev aCE_ST : Nat := 0xb0060
/-- R353: BN_ID. [15:0] VERSION -/
abbrev aBN_ID : Nat := 0xc0000
/-- R353: BN_CAPS. [5] EDDSA; [4] XDH; [3] BRAINPOOL; [2] NIST; [1] RSA; [0] MODARITH -/
abbrev aBN_CAPS : Nat := 0xc0004
/-- R353: BN_CTL. [9] RAW_PRIV_EN; [8] COMPRESSED_EN; [7:0] KG_MASK -/
abbrev aBN_CTL : Nat := 0xc0010
/-- R353: BN_STATE. [23:16] OOS; [15:8] REGEN; [2] MCI1; [1] BERTH; [0] READY -/
abbrev aBN_STATE : Nat := 0xc0014
/-- R353: BN_SEL. [2:0] ENGINE -/
abbrev aBN_SEL : Nat := 0xc0020
/-- R353: BN_JOBS. [31:0] COUNT -/
abbrev aBN_JOBS : Nat := 0xc0024
/-- R353: BN_RETRIED. [31:0] COUNT -/
abbrev aBN_RETRIED : Nat := 0xc0028
/-- R353: BN_CONTAINED. [31:0] COUNT -/
abbrev aBN_CONTAINED : Nat := 0xc002c
/-- R353: BN_OWNER_WIPES. [31:0] COUNT -/
abbrev aBN_OWNER_WIPES : Nat := 0xc0030
/-- R353: BN_ABORT_WIPES. [31:0] COUNT -/
abbrev aBN_ABORT_WIPES : Nat := 0xc0034
/-- R353: BN_REGEN. [31:0] COUNT -/
abbrev aBN_REGEN : Nat := 0xc0038
/-- R353: BN_KG_CANDIDATES. [31:0] COUNT -/
abbrev aBN_KG_CANDIDATES : Nat := 0xc003c
/-- R353: BN_VALUE_REJECT. [31:0] COUNT -/
abbrev aBN_VALUE_REJECT : Nat := 0xc0040
/-- R353: BN_ST. [2] DONE; [1] VT; [0] VF -/
abbrev aBN_ST : Nat := 0xc0060
/-- R388: MC_ID. [15:0] VERSION -/
abbrev aMC_ID : Nat := 0xe0000
/-- R388: MC_CAPS. [9] MCI1; [8] MCI2; [7:0] CLUSTERS -/
abbrev aMC_CAPS : Nat := 0xe0004
/-- R388: MC_SEL. [2:0] CLUSTER -/
abbrev aMC_SEL : Nat := 0xe0010
/-- R388: MC_CL_STATE. [11:8] LOAD_STATE; [3:2] FORMAT; [1] BASE; [0] OOS -/
abbrev aMC_CL_STATE : Nat := 0xe0014
/-- R388: MC_CL_PACK. [31:0] PACK_ID -/
abbrev aMC_CL_PACK : Nat := 0xe0018
/-- R388: MC_CL_VER. [31:0] VERSION -/
abbrev aMC_CL_VER : Nat := 0xe001c
/-- R388: MC_CL_SEG. [31:16] NANO; [15:0] MICRO -/
abbrev aMC_CL_SEG : Nat := 0xe0020
/-- R388: MC_CL_USED. [31:16] NANO; [15:0] MICRO -/
abbrev aMC_CL_USED : Nat := 0xe0024
/-- R388: MC_MCHK_CNT. [31:0] COUNT -/
abbrev aMC_MCHK_CNT : Nat := 0xe0028
/-- R388: MC_LOAD_CNT. [31:0] COUNT -/
abbrev aMC_LOAD_CNT : Nat := 0xe002c
/-- R388: MC_LVU_RESTARTS. [31:0] COUNT -/
abbrev aMC_LVU_RESTARTS : Nat := 0xe0030
/-- R388: MC_LVU_CONTAINED. [31:0] COUNT -/
abbrev aMC_LVU_CONTAINED : Nat := 0xe0034
/-- R388: MC_SEQ_FAULTS. [31:0] COUNT -/
abbrev aMC_SEQ_FAULTS : Nat := 0xe0038
/-- R388: MC_LVU_FLT0. [31] VALID; [30:28] CAUSE; [27:24] ENGINE; [13] REPEAT; [12] MULTI; [10:0] ELEMENT -/
abbrev aMC_LVU_FLT0 : Nat := 0xe0040
/-- R388: MC_LVU_FLT1. [31:16] UADDR; [15:10] LOP -/
abbrev aMC_LVU_FLT1 : Nat := 0xe0044
/-- R388: MC_LVU_FLT2. [17:0] MADDR -/
abbrev aMC_LVU_FLT2 : Nat := 0xe0048
/-- R388: MC_LOAD_MASK. [7:0] CLUSTERS -/
abbrev aMC_LOAD_MASK : Nat := 0xe0050
/-- R388: MC_ASSIGN. [31:0] PACK_ID -/
abbrev aMC_ASSIGN : Nat := 0xe0100
/-- R431: SE_ID. [15:0] VERSION -/
abbrev aSE_ID : Nat := 0xd0000
/-- R431: SE_CAPS. [6] XTS; [5] CMAC; [4] CBC; [3] CTR; [2] GMAC; [1] GCM; [0] AES256 -/
abbrev aSE_CAPS : Nat := 0xd0004
/-- R431: SE_CTL. [17] SHORT_TAG_EN; [16] IVGEN_EN; [7:0] ENG_MASK -/
abbrev aSE_CTL : Nat := 0xd0010
/-- R431: SE_STATE. [24] READY; [23:16] OOS; [15:8] BUSY -/
abbrev aSE_STATE : Nat := 0xd0014
/-- R431: SE_SEL. [2:0] ENGINE -/
abbrev aSE_SEL : Nat := 0xd0020
/-- R431: SE_JOBS. [31:0] COUNT -/
abbrev aSE_JOBS : Nat := 0xd0024
/-- R431: SE_BYTES_LO. [31:0] BYTES[31:0] -/
abbrev aSE_BYTES_LO : Nat := 0xd0028
/-- R431: SE_BYTES_HI. [31:0] BYTES[63:32] -/
abbrev aSE_BYTES_HI : Nat := 0xd002c
/-- R431: SE_PREEMPT. [31:0] COUNT -/
abbrev aSE_PREEMPT : Nat := 0xd0030
/-- R431: SE_RETRIED. [31:0] COUNT -/
abbrev aSE_RETRIED : Nat := 0xd0034
/-- R431: SE_CONTAINED. [31:0] COUNT -/
abbrev aSE_CONTAINED : Nat := 0xd0038
/-- R431: SE_TAG_FAIL. [31:0] COUNT -/
abbrev aSE_TAG_FAIL : Nat := 0xd003c
/-- R431: SE_LIMIT_REJECT. [31:0] COUNT -/
abbrev aSE_LIMIT_REJECT : Nat := 0xd0040
/-- R431: SE_ERASE. [31:0] COUNT -/
abbrev aSE_ERASE : Nat := 0xd0044
/-- R431: SE_ST. [2] DONE; [1] VT; [0] VF -/
abbrev aSE_ST : Nat := 0xd0060
/-- R432: DE_ID. [15:0] VERSION -/
abbrev aDE_ID : Nat := 0xd0100
/-- R432: DE_CAPS. [4] CSHAKE; [3] KMAC; [2] HMAC; [1] SHA3; [0] SHA2 -/
abbrev aDE_CAPS : Nat := 0xd0104
/-- R432: DE_CTL. [16] SAVE_EN; [11:0] ENG_MASK -/
abbrev aDE_CTL : Nat := 0xd0110
/-- R432: DE_STATE. [24] READY; [23:12] OOS; [11:0] BUSY -/
abbrev aDE_STATE : Nat := 0xd0114
/-- R432: DE_SEL. [3:0] ENGINE -/
abbrev aDE_SEL : Nat := 0xd0120
/-- R432: DE_JOBS. [31:0] COUNT -/
abbrev aDE_JOBS : Nat := 0xd0124
/-- R432: DE_BLOCKS_LO. [31:0] BLOCKS[31:0] -/
abbrev aDE_BLOCKS_LO : Nat := 0xd0128
/-- R432: DE_BLOCKS_HI. [31:0] BLOCKS[63:32] -/
abbrev aDE_BLOCKS_HI : Nat := 0xd012c
/-- R432: DE_PREEMPT. [31:0] COUNT -/
abbrev aDE_PREEMPT : Nat := 0xd0130
/-- R432: DE_RETRIED. [31:0] COUNT -/
abbrev aDE_RETRIED : Nat := 0xd0134
/-- R432: DE_CONTAINED. [31:0] COUNT -/
abbrev aDE_CONTAINED : Nat := 0xd0138
/-- R432: DE_VERIFY_FAIL. [31:0] COUNT -/
abbrev aDE_VERIFY_FAIL : Nat := 0xd013c
/-- R432: DE_RESTORE_REJECT. [31:0] COUNT -/
abbrev aDE_RESTORE_REJECT : Nat := 0xd0140
/-- R432: DE_CTX_SEL. [7:0] INSTANCE -/
abbrev aDE_CTX_SEL : Nat := 0xd0144
/-- R432: DE_CTX_USED. [14:0] COUNT -/
abbrev aDE_CTX_USED : Nat := 0xd0148
/-- R432: DE_ST. [2] DONE; [1] VT; [0] VF -/
abbrev aDE_ST : Nat := 0xd0160
/-- R473: KS_ID. [15:0] VERSION -/
abbrev aKS_ID : Nat := 0x60000
/-- R473: KS_STATUS. [6] PAIR_CHK; [5] CLAIMABLE; [4] SCAN; [2:0] ROOTS -/
abbrev aKS_STATUS : Nat := 0x60004
/-- R473: KS_CTL. [1] UPD_PORT_ONLY; [0] ATTEST_EN -/
abbrev aKS_CTL : Nat := 0x60010
/-- R473: KS_SLOTS_USED. [16:0] COUNT -/
abbrev aKS_SLOTS_USED : Nat := 0x60020
/-- R473: KS_SLOTS_STALE. [16:0] COUNT -/
abbrev aKS_SLOTS_STALE : Nat := 0x60024
/-- R473: KS_SLOTS_RETIRED. [16:0] COUNT -/
abbrev aKS_SLOTS_RETIRED : Nat := 0x60028
/-- R473: KS_NODES. [12:0] COUNT -/
abbrev aKS_NODES : Nat := 0x6002c
/-- R473: KS_UPD_CNT_LO. [31:0] COUNTER[31:0] -/
abbrev aKS_UPD_CNT_LO : Nat := 0x60030
/-- R473: KS_UPD_CNT_HI. [31:0] COUNTER[63:32] -/
abbrev aKS_UPD_CNT_HI : Nat := 0x60034
/-- R473: KS_UPD_OK. [31:0] COUNT -/
abbrev aKS_UPD_OK : Nat := 0x60038
/-- R473: KS_UPD_REJECT. [31:0] COUNT -/
abbrev aKS_UPD_REJECT : Nat := 0x6003c
/-- R473: KS_UPD_LAST_FAIL. [23:8] RECORD; [7:0] CODE -/
abbrev aKS_UPD_LAST_FAIL : Nat := 0x60040
/-- R473: KS_APPROVALS. [31:0] COUNT -/
abbrev aKS_APPROVALS : Nat := 0x60044
/-- R473: KS_REFUSALS. [31:0] COUNT -/
abbrev aKS_REFUSALS : Nat := 0x60048
/-- R473: KS_INVAL_CNT. [31:0] COUNT -/
abbrev aKS_INVAL_CNT : Nat := 0x6004c
/-- R473: KS_REVOKED_DURING. [31:0] COUNT -/
abbrev aKS_REVOKED_DURING : Nat := 0x60050
/-- R473: KS_INST_SEL. [7:0] INSTANCE -/
abbrev aKS_INST_SEL : Nat := 0x60054
/-- R473: KS_INST_USED. [16:0] COUNT -/
abbrev aKS_INST_USED : Nat := 0x60058
/-- R473: KS_INST_QUOTA. [16:0] COUNT -/
abbrev aKS_INST_QUOTA : Nat := 0x6005c
/-- R473: KS_N4_FAIL. [31:0] COUNT -/
abbrev aKS_N4_FAIL : Nat := 0x60060
/-- R473: KS_ERASE_CNT. [31:0] COUNT -/
abbrev aKS_ERASE_CNT : Nat := 0x60064
/-- R473: KS_MID. [31:0] MID -/
abbrev aKS_MID : Nat := 0x60080
/-- R473: KS_ST. [2] DONE; [1] VT; [0] VF -/
abbrev aKS_ST : Nat := 0x600a0
/-- R498: RNG_ID. [15:0] VERSION -/
abbrev aRNG_ID : Nat := 0x70000
/-- R498: RNG_CUTOFF. [31:16] APT; [15:0] RCT -/
abbrev aRNG_CUTOFF : Nat := 0x70004
/-- R498: RNG_CTL. [8] AUTO_RETEST; [3:0] SRC_EN -/
abbrev aRNG_CTL : Nat := 0x70010
/-- R498: RNG_RETEST. [3:0] SOURCES -/
abbrev aRNG_RETEST : Nat := 0x70014
/-- R498: RNG_SRC_STATE. [26:24] STATE; [15:12] NS3; [11:8] NS2; [7:4] NS1; [3:0] NS0 -/
abbrev aRNG_SRC_STATE : Nat := 0x70018
/-- R498: RNG_EPOCH. [31:0] E -/
abbrev aRNG_EPOCH : Nat := 0x7001c
/-- R498: RNG_DRBG_SEL. [3:0] DRBG -/
abbrev aRNG_DRBG_SEL : Nat := 0x70020
/-- R498: RNG_DRBG_STATE. [31] STOPPED; [30] STAGED; [29] OLD_EPOCH; [28] INST; [16:0] LEFT -/
abbrev aRNG_DRBG_STATE : Nat := 0x70024
/-- R498: RNG_DRBG_RESEEDS. [31:0] COUNT -/
abbrev aRNG_DRBG_RESEEDS : Nat := 0x70028
/-- R498: RNG_DRBG_STOPS. [31:0] COUNT -/
abbrev aRNG_DRBG_STOPS : Nat := 0x7002c
/-- R498: RNG_BLOCKS. [31:0] COUNT -/
abbrev aRNG_BLOCKS : Nat := 0x70030
/-- R498: RNG_BLOCKS_DISCARDED. [31:0] COUNT -/
abbrev aRNG_BLOCKS_DISCARDED : Nat := 0x70034
/-- R498: RNG_RCT_FAIL. [31:0] COUNT -/
abbrev aRNG_RCT_FAIL : Nat := 0x70038
/-- R498: RNG_APT_FAIL. [31:0] COUNT -/
abbrev aRNG_APT_FAIL : Nat := 0x7003c
/-- R498: RNG_RETIRE_CNT. [31:0] COUNT -/
abbrev aRNG_RETIRE_CNT : Nat := 0x70040
/-- R498: RNG_UNAVAIL_CNT. [31:0] COUNT -/
abbrev aRNG_UNAVAIL_CNT : Nat := 0x70044
/-- R498: RNG_EMPTY_READS. [31:0] COUNT -/
abbrev aRNG_EMPTY_READS : Nat := 0x70048
/-- R498: RNG_ST. [2] DONE; [1] VT; [0] VF -/
abbrev aRNG_ST : Nat := 0x70060
/-- R498: RNG_DATA. [31] VALID; [15:0] DATA -/
abbrev aRNG_DATA : Nat := 0x71000
/-- R498: RNG_STATUS. [22:16] LEVEL; [3] STOPPED; [2] DRBG_ONLY; [1] READY; [0] ERR -/
abbrev aRNG_STATUS : Nat := 0x71004
/-- R539: PT_ID. [15:0] VERSION -/
abbrev aPT_ID : Nat := 0xa00000
/-- R539: PT_CAPS. [4] HSR; [3] PRP; [2] PFC; [1] XPN; [0] MACSEC -/
abbrev aPT_CAPS : Nat := 0xa00004
/-- R539: PT_CL_CTL. [9:0] MACSEC_SE -/
abbrev aPT_CL_CTL : Nat := 0xa00010
/-- R539: PT_HEADROOM. [16:0] KIB -/
abbrev aPT_HEADROOM : Nat := 0xa00020
/-- R539: PT_SPILL_RES. [31:0] KIB -/
abbrev aPT_SPILL_RES : Nat := 0xa00024
/-- R539: PT_SE_OVERRUN. [31:0] COUNT -/
abbrev aPT_SE_OVERRUN : Nat := 0xa00028
/-- R539: PT_LANE_SEL. [8:0] LANE -/
abbrev aPT_LANE_SEL : Nat := 0xa00040
/-- R539: PT_RX_FRAMES. [31:0] COUNT -/
abbrev aPT_RX_FRAMES : Nat := 0xa00044
/-- R539: PT_TX_FRAMES. [31:0] COUNT -/
abbrev aPT_TX_FRAMES : Nat := 0xa00048
/-- R539: PT_RX_ERR. [31:0] COUNT -/
abbrev aPT_RX_ERR : Nat := 0xa0004c
/-- R539: PT_PFC_TX. [31:0] COUNT -/
abbrev aPT_PFC_TX : Nat := 0xa00050
/-- R539: PT_MACSEC_DROP. [31:0] COUNT -/
abbrev aPT_MACSEC_DROP : Nat := 0xa00054
/-- R539: PT_FIFO_SEL. [6:0] FIFO -/
abbrev aPT_FIFO_SEL : Nat := 0xa00060
/-- R539: PT_FIFO_STATE. [15:8] LEVEL; [7:0] CREDITS -/
abbrev aPT_FIFO_STATE : Nat := 0xa00064
/-- R539: PT_FIFO_FLUSH. [6:0] FIFO -/
abbrev aPT_FIFO_FLUSH : Nat := 0xa00068
/-- R539: PT_FIFO_DISCARD. [31:0] COUNT -/
abbrev aPT_FIFO_DISCARD : Nat := 0xa0006c
/-- R539: PT_FIFO_RESETS. [31:0] COUNT -/
abbrev aPT_FIFO_RESETS : Nat := 0xa00070
/-- R539: PT_FIFO_LOST. [31:0] COUNT -/
abbrev aPT_FIFO_LOST : Nat := 0xa00074
/-- R539: PT_LANE. [31:24] LINK_KM; [19:18] FAIL_STATE; [17:16] REDUND; [15:8] PFC_MASK; [7] JUMBO; [6] MACSEC;
[5:4] FEC; [2:0] SPEED -/
abbrev aPT_LANE : Nat := 0xa00100
/-- R539: PT_PEER. [25:16] FWD; [9:0] PRP_PEER -/
abbrev aPT_PEER : Nat := 0xa00900
/-- R539: PT_STATUS. [6] SPILL; [5] PFC_PAUSED; [4] LOCAL_FAULT; [3] REMOTE_FAULT; [2] PRESENT; [0] LINK_UP -/
abbrev aPT_STATUS : Nat := 0xa01100
/-- R540: ST_ID. [15:0] VERSION -/
abbrev aST_ID : Nat := 0xa10000
/-- R540: ST_CAPS. [7] SEVT; [6] RSA2007; [5] GMAC; [4] HMAC; [3] RSV; [2] RGOOSE; [1] SV; [0] GOOSE -/
abbrev aST_CAPS : Nat := 0xa10004
/-- R540: ST_CLASS_SEL. [7:0] CLASS -/
abbrev aST_CLASS_SEL : Nat := 0xa10010
/-- R540: ST_CLASS_OCC. [15:0] UNITS -/
abbrev aST_CLASS_OCC : Nat := 0xa10014
/-- R540: ST_CLASS_STREAMS. [20:0] COUNT -/
abbrev aST_CLASS_STREAMS : Nat := 0xa10018
/-- R540: ST_STREAMS. [20:0] COUNT -/
abbrev aST_STREAMS : Nat := 0xa10020
/-- R540: ST_POLICIES. [8:0] COUNT -/
abbrev aST_POLICIES : Nat := 0xa10024
/-- R540: ST_CACHE_USED. [16:0] COUNT -/
abbrev aST_CACHE_USED : Nat := 0xa10028
/-- R540: ST_CACHE_PINNED. [16:0] COUNT -/
abbrev aST_CACHE_PINNED : Nat := 0xa1002c
/-- R540: ST_CACHE_MISS. [31:0] COUNT -/
abbrev aST_CACHE_MISS : Nat := 0xa10030
/-- R540: ST_AUTH_FAIL. [31:0] COUNT -/
abbrev aST_AUTH_FAIL : Nat := 0xa10040
/-- R540: ST_REPLAY. [31:0] COUNT -/
abbrev aST_REPLAY : Nat := 0xa10044
/-- R540: ST_DUPLICATE. [31:0] COUNT -/
abbrev aST_DUPLICATE : Nat := 0xa10048
/-- R540: ST_LEN_MISMATCH. [31:0] COUNT -/
abbrev aST_LEN_MISMATCH : Nat := 0xa1004c
/-- R540: ST_STALE_FAIL. [31:0] COUNT -/
abbrev aST_STALE_FAIL : Nat := 0xa10050
/-- R540: ST_FLAGGED. [31:0] COUNT -/
abbrev aST_FLAGGED : Nat := 0xa10054
/-- R540: ST_EVT_SIGNED. [31:0] COUNT -/
abbrev aST_EVT_SIGNED : Nat := 0xa10058
/-- R540: ST_EVT_UNSIGNED. [31:0] COUNT -/
abbrev aST_EVT_UNSIGNED : Nat := 0xa1005c
/-- R540: ST_ST. [2] DONE; [1] VT; [0] VF -/
abbrev aST_ST : Nat := 0xa10060
/-- R540: ST_CLASS. [31] VALID; [30:28] KIND; [27:26] MODE; [25:24] TRUNC; [10:0] MAX_LEN -/
abbrev aST_CLASS : Nat := 0xa10100
/-- R561: IN_ID. [15:0] VERSION -/
abbrev aIN_ID : Nat := 0xd00000
/-- R561: IN_CAPS. [7:0] TOTAL_VFS -/
abbrev aIN_CAPS : Nat := 0xd00004
/-- R561: IN_VF_STATE. [8] VF_ENABLE; [7:0] NUM_VFS -/
abbrev aIN_VF_STATE : Nat := 0xd00008
/-- R561: IN_COUNT. [7:0] COUNT -/
abbrev aIN_COUNT : Nat := 0xd0000c
/-- R561: IN_VECTORS. [6:0] COUNT -/
abbrev aIN_VECTORS : Nat := 0xd10000
/-- R561: IN_SLOT_QUOTA. [16:0] SLOTS -/
abbrev aIN_SLOT_QUOTA : Nat := 0xd10004
/-- R561: IN_SCRATCH. [17:0] MIB -/
abbrev aIN_SCRATCH : Nat := 0xd10008
/-- R561: IN_WEIGHT_A. [31:24] BNE; [23:16] CE; [15:8] ME; [7:0] PE -/
abbrev aIN_WEIGHT_A : Nat := 0xd1000c
/-- R561: IN_WEIGHT_B. [15:8] DE; [7:0] HSE -/
abbrev aIN_WEIGHT_B : Nat := 0xd10010
/-- R561: IN_STATE. [16:8] QUEUES; [2:0] STATE -/
abbrev aIN_STATE : Nat := 0xd10020
/-- R561: IN_GEN. [31:0] GEN -/
abbrev aIN_GEN : Nat := 0xd10024
/-- R561: IN_SCRATCH_USED. [17:0] MIB -/
abbrev aIN_SCRATCH_USED : Nat := 0xd10028
/-- R561: IN_BERTHS. [12:0] COUNT -/
abbrev aIN_BERTHS : Nat := 0xd1002c
/-- R561: IN_FLR_CNT. [31:0] COUNT -/
abbrev aIN_FLR_CNT : Nat := 0xd10030
/-- R561: IN_RESET_CNT. [31:0] COUNT -/
abbrev aIN_RESET_CNT : Nat := 0xd10034
/-- R561: IN_QMAP. [31] V1; [26:16] Q1; [15] V0; [10:0] Q0 -/
abbrev aIN_QMAP : Nat := 0xd20000
/-- R587: TW_ID. [15:0] VERSION -/
abbrev aTW_ID : Nat := 0xc00000
/-- R587: TW_CAPS. [2] MGMT_HB; [1] PL2; [0] PL1 -/
abbrev aTW_CAPS : Nat := 0xc00004
/-- R587: TW_CTL. [23:16] JOIN_WAIT; [8] SOLO_UPD_EN; [2] MGMT_PORT; [1] MGMT_HB_EN; [0] PAIRED -/
abbrev aTW_CTL : Nat := 0xc00010
/-- R587: TW_PEER_IP. [31:0] ADDR -/
abbrev aTW_PEER_IP : Nat := 0xc00020
/-- R587: TW_PEER_UDP. [15:0] PORT -/
abbrev aTW_PEER_UDP : Nat := 0xc00030
/-- R587: TW_STATE. [17:16] PARITY; [15] PARTNER_FAULT; [14:12] PATHS; [9:8] PL_VER; [6:4] STATE; [1:0] ROLE -/
abbrev aTW_STATE : Nat := 0xc00040
/-- R587: TW_MSEQ_SENT. [31:0] MSEQ -/
abbrev aTW_MSEQ_SENT : Nat := 0xc00044
/-- R587: TW_MSEQ_ACKED. [31:0] MSEQ -/
abbrev aTW_MSEQ_ACKED : Nat := 0xc00048
/-- R587: TW_PENDING. [15:0] COUNT -/
abbrev aTW_PENDING : Nat := 0xc0004c
/-- R587: TW_HB_MISS. [23:16] MGMT; [15:8] PLB; [7:0] PLA -/
abbrev aTW_HB_MISS : Nat := 0xc00050
/-- R587: TW_CASTLE_CNT. [31:0] COUNT -/
abbrev aTW_CASTLE_CNT : Nat := 0xc00054
/-- R587: TW_PROMOTE_CNT. [31:0] COUNT -/
abbrev aTW_PROMOTE_CNT : Nat := 0xc00058
/-- R587: TW_PATH_LOST_CNT. [31:0] COUNT -/
abbrev aTW_PATH_LOST_CNT : Nat := 0xc0005c
/-- R587: TW_AUTH_FAIL. [31:0] COUNT -/
abbrev aTW_AUTH_FAIL : Nat := 0xc00060
/-- R587: TW_LAST_CASTLE_LO. [31:0] STAMP[31:0] -/
abbrev aTW_LAST_CASTLE_LO : Nat := 0xc00064
/-- R587: TW_LAST_CASTLE_HI. [31:0] STAMP[63:32] -/
abbrev aTW_LAST_CASTLE_HI : Nat := 0xc00068
/-- R587: TW_PAIR_ID. [31:0] ID -/
abbrev aTW_PAIR_ID : Nat := 0xc00080
/-- R624: FC_ID. [15:0] VERSION -/
abbrev aFC_ID : Nat := 0x40000
/-- R624: FC_STATUS. [31:28] RECOV; [15:8] CAUSE; [4] QUIET; [3] ALARM; [1:0] MSTATE -/
abbrev aFC_STATUS : Nat := 0x40004
/-- R624: FC_CTL. [24] EVT_CONT; [23:16] OOS_LIMIT; [14] LOG_CORR; [13:10] LATCH_N; [9:0] QUIET_S -/
abbrev aFC_CTL : Nat := 0x40010
/-- R624: FC_WINDOW. [16:0] SECONDS -/
abbrev aFC_WINDOW : Nat := 0x40014
/-- R624: FC_RELEASE. [31:0] KEY -/
abbrev aFC_RELEASE : Nat := 0x40018
/-- R624: FC_CNT_CORR. [31:0] COUNT -/
abbrev aFC_CNT_CORR : Nat := 0x40020
/-- R624: FC_CNT_CONT. [31:0] COUNT -/
abbrev aFC_CNT_CONT : Nat := 0x40024
/-- R624: FC_CNT_FATAL. [31:0] COUNT -/
abbrev aFC_CNT_FATAL : Nat := 0x40028
/-- R624: FC_RECOVERY_CNT. [31:0] COUNT -/
abbrev aFC_RECOVERY_CNT : Nat := 0x4002c
/-- R624: FC_FRAME_DROP. [31:0] COUNT -/
abbrev aFC_FRAME_DROP : Nat := 0x40030
/-- R624: FC_FEC. [31:0] MSG -/
abbrev aFC_FEC : Nat := 0x40040
/-- R624: FC_FEC_VALID. [6:4] MORE; [2:0] VALID -/
abbrev aFC_FEC_VALID : Nat := 0x40070
/-- R624: FC_LOG_SEQ_LO. [31:0] SEQ[31:0] -/
abbrev aFC_LOG_SEQ_LO : Nat := 0x40080
/-- R624: FC_LOG_SEQ_HI. [31:0] SEQ[63:32] -/
abbrev aFC_LOG_SEQ_HI : Nat := 0x40084
/-- R624: FC_LOG_RING. [8:0] LEVEL -/
abbrev aFC_LOG_RING : Nat := 0x40088
/-- R624: FC_LOG_LOST. [31:0] COUNT -/
abbrev aFC_LOG_LOST : Nat := 0x4008c
/-- R624: FC_OOS_SEL. [11:0] SOURCE -/
abbrev aFC_OOS_SEL : Nat := 0x40090
/-- R624: FC_OOS_STATE. [9] HELD; [8] OOS; [7:0] COUNT -/
abbrev aFC_OOS_STATE : Nat := 0x40094
/-- R624: FC_LIVE. [5] FEED; [4] TEMP; [3] MP_LS; [2] XS; [1] POWER; [0] CLOCK -/
abbrev aFC_LIVE : Nat := 0x400a0
/-- R624: FC_SCRUB_SRAM. [31:0] PASSES -/
abbrev aFC_SCRUB_SRAM : Nat := 0x400b0
/-- R624: FC_SCRUB_DDR. [31:0] PASSES -/
abbrev aFC_SCRUB_DDR : Nat := 0x400b4
/-- R624: FC_HC. [1] HC2; [0] HC1 -/
abbrev aFC_HC : Nat := 0x400c0
/-- R625: AL_ID. [15:0] VERSION -/
abbrev aAL_ID : Nat := 0x50000
/-- R625: AL_STATUS. [10:0] LIVE -/
abbrev aAL_STATUS : Nat := 0x50004
/-- R625: AL_LATCH. [10:0] SEEN -/
abbrev aAL_LATCH : Nat := 0x50008
/-- R625: AL_ACTION. [21:0] ACTION -/
abbrev aAL_ACTION : Nat := 0x50010
/-- R625: AL_LOOP_EN. [3:0] LOOPS -/
abbrev aAL_LOOP_EN : Nat := 0x50014
/-- R625: AL_DCM. [15:8] WINDOW; [7:0] LIMIT -/
abbrev aAL_DCM : Nat := 0x50018
/-- R625: AL_ERASE_CNT. [31:0] COUNT -/
abbrev aAL_ERASE_CNT : Nat := 0x50020
/-- R625: AL_LAST_LO. [31:0] STAMP[31:0] -/
abbrev aAL_LAST_LO : Nat := 0x50024
/-- R625: AL_LAST_HI. [31:0] STAMP[63:32] -/
abbrev aAL_LAST_HI : Nat := 0x50028
/-- R625: AL_LAST_INFO. [23:8] ERASE_NS; [5:4] ACTION; [3:0] INPUT -/
abbrev aAL_LAST_INFO : Nat := 0x5002c
/-- R625: AL_SUPERCAP. [8] READY; [7:0] CHARGE -/
abbrev aAL_SUPERCAP : Nat := 0x50030
/-- R625: AL_TEMP. [15:0] DIE -/
abbrev aAL_TEMP : Nat := 0x50034
/-- R625: AL_PERM. [0] DONE -/
abbrev aAL_PERM : Nat := 0x50040
/-- R645: PWR_ID. [15:0] VERSION -/
abbrev aPWR_ID : Nat := 0x10000
/-- R645: PWR_CTL. [23:0] DOMAIN_EN -/
abbrev aPWR_CTL : Nat := 0x10010
/-- R645: PWR_CAGE_EN_LO. [31:0] CAGES -/
abbrev aPWR_CAGE_EN_LO : Nat := 0x10014
/-- R645: PWR_CAGE_EN_HI. [31:0] CAGES -/
abbrev aPWR_CAGE_EN_HI : Nat := 0x10018
/-- R645: PWR_STATE_LO. [31:0] STATE -/
abbrev aPWR_STATE_LO : Nat := 0x10020
/-- R645: PWR_STATE_HI. [15:0] STATE -/
abbrev aPWR_STATE_HI : Nat := 0x10024
/-- R645: PWR_RESET. [31:0] KEY -/
abbrev aPWR_RESET : Nat := 0x10030
/-- R645: PWR_FEED. [3] PSU_B_OK; [2] PSU_A_OK; [1] FEED_B_OK; [0] FEED_A_OK -/
abbrev aPWR_FEED : Nat := 0x10040
/-- R645: PWR_INPUT. [15:0] WATTS -/
abbrev aPWR_INPUT : Nat := 0x10044
/-- R645: PWR_FABRIC. [15:0] WATTS -/
abbrev aPWR_FABRIC : Nat := 0x10048
/-- R645: PWR_PART_P2. [9:0] UNITS -/
abbrev aPWR_PART_P2 : Nat := 0x10050
/-- R645: PWR_PART_P3. [9:0] UNITS -/
abbrev aPWR_PART_P3 : Nat := 0x10054
/-- R645: PWR_PART_P4. [9:0] UNITS -/
abbrev aPWR_PART_P4 : Nat := 0x10058
/-- R645: PWR_PART_P6. [9:0] UNITS -/
abbrev aPWR_PART_P6 : Nat := 0x1005c
/-- R645: PWR_PART_NOW. [9:0] UNITS -/
abbrev aPWR_PART_NOW : Nat := 0x10060
/-- R646: ID_DEVICE. [15:0] DEVICE -/
abbrev aID_DEVICE : Nat := 0x0
/-- R646: ID_FABRIC_REV. [15:8] LETTER; [7:0] METAL -/
abbrev aID_FABRIC_REV : Nat := 0x4
/-- R646: ID_VARIANT. [1:0] CODE -/
abbrev aID_VARIANT : Nat := 0x8
/-- R646: ID_SERIAL. [31:0] SERIAL -/
abbrev aID_SERIAL : Nat := 0x10
/-- R646: ID_READY. [23:0] READY -/
abbrev aID_READY : Nat := 0x20
/-- R646: ID_READY_LOST. [23:0] LOST -/
abbrev aID_READY_LOST : Nat := 0x24
/-- R646: ID_READY_SEL. [4:0] BIT -/
abbrev aID_READY_SEL : Nat := 0x28
/-- R646: ID_READY_US. [31:0] US -/
abbrev aID_READY_US : Nat := 0x2c
/-- R646: ID_BOOT. [31:16] BOOTS; [9:8] IMG_B; [5:4] IMG_A; [0] PREFERRED -/
abbrev aID_BOOT : Nat := 0x30
/-- R646: ID_RESET_CAUSE. [3:0] CAUSE -/
abbrev aID_RESET_CAUSE : Nat := 0x34

/-- The rows of the register map whose first register is XS_ID. -/
def rows2 : List RegRow :=
  [⟨aXS_ID, 1, 4, .ro, 0, 0x0, 0x0, 0x2⟩,
   ⟨aXS_RATE, 1, 4, .rws, 0, 0xffff, 0x0, 0x12c0⟩,
   ⟨aXS_TB_CTRL, 1, 4, .rws, 0, 0x1ff3f, 0x0, 0x37⟩,
   ⟨aXS_PTP_PORT, 1, 4, .rws, 0, 0x3ff03ff, 0x0, 0x3ff0200⟩,
   ⟨aXS_HOLDOVER_LIMIT, 1, 4, .rws, 0, 0x1ffff, 0x0, 0xe10⟩,
   ⟨aXS_QUANTUM, 1, 4, .rws, 1, 0x1ffff, 0x0, 0x10fa0⟩,
   ⟨aXS_TAI_UTC, 1, 4, .rws, 0, 0xff, 0x0, 0x25⟩,
   ⟨aXS_PPS_WIDTH, 1, 4, .rws, 0, 0xfffff, 0x0, 0x2710⟩,
   ⟨aXS_TB_STATE, 1, 4, .ro, 0, 0x0, 0x0, 0x0⟩,
   ⟨aXS_TB_OFFSET, 1, 4, .ro, 0, 0x0, 0x0, 0x0⟩,
   ⟨aXS_HOLDOVER_TIME, 1, 4, .ro, 0, 0x0, 0x0, 0x0⟩,
   ⟨aXS_STEP_COUNT, 1, 4, .ro, 0, 0x0, 0x0, 0x0⟩,
   ⟨aXS_NOW_STAMP_LO, 1, 4, .ro, 0, 0x0, 0x0, 0x0⟩,
   ⟨aXS_NOW_STAMP_HI, 1, 4, .ro, 0, 0x0, 0x0, 0x0⟩,
   ⟨aXS_NOW_NS, 1, 4, .ro, 0, 0x0, 0x0, 0x0⟩,
   ⟨aXS_TIME_SET_LO, 1, 4, .rw, 0, 0xffffffff, 0x0, 0x0⟩,
   ⟨aXS_TIME_SET_HI, 1, 4, .rw, 0, 0xffff, 0x0, 0x0⟩,
   ⟨aXS_MANIFEST_ID, 1, 4, .ro, 0, 0x0, 0x0, 0x0⟩,
   ⟨aXS_MANIFEST_ENTRIES, 1, 4, .ro, 0, 0x0, 0x0, 0x0⟩,
   ⟨aXS_ENGINE_SEL, 1, 4, .rw, 0, 0x73f, 0x0, 0x100⟩,
   ⟨aXS_ENGINE_RES, 1, 4, .ro, 0, 0x0, 0x0, 0x0⟩,
   ⟨aXS_PREEMPT_CNT, 1, 4, .ro, 0, 0x0, 0x0, 0x0⟩,
   ⟨aXS_SPILL_CNT, 1, 4, .ro, 0, 0x0, 0x0, 0x0⟩,
   ⟨aXS_TAIL_CNT, 1, 4, .ro, 0, 0x0, 0x0, 0x0⟩,
   ⟨aXS_CMP_STATUS, 1, 4, .ro, 0, 0x0, 0x3, 0x0⟩]

/-- The rows of the register map whose first register is CFG_COMMIT. -/
def rows3 : List RegRow :=
  [⟨aCFG_COMMIT, 1, 4, .wo, 0, 0xffff, 0x0, 0x0⟩,
   ⟨aCFG_CANCEL, 1, 4, .wo, 0, 0xffff, 0x0, 0x0⟩,
   ⟨aCFG_REVERT, 1, 4, .wo, 0, 0xffff, 0x0, 0x0⟩,
   ⟨aCFG_PENDING, 1, 4, .ro, 0, 0x0, 0x0, 0x0⟩,
   ⟨aCFG_REFUSED, 1, 4, .ro, 0, 0x0, 0xffff, 0x0⟩,
   ⟨aCFG_WR_IGNORED, 1, 4, .ro, 0, 0x0, 0xffff, 0x0⟩,
   ⟨aCFG_SEQ, 1, 4, .ro, 0, 0x0, 0x0, 0x0⟩,
   ⟨aCFG_APPLIED_STAMP_LO, 1, 4, .ro, 0, 0x0, 0x0, 0x0⟩,
   ⟨aCFG_APPLIED_STAMP_HI, 1, 4, .ro, 0, 0x0, 0x0, 0x0⟩,
   ⟨aCFG_FAIL_INFO, 1, 4, .ro, 0, 0x0, 0x0, 0x0⟩,
   ⟨aCFG_FAIL_ADDR, 1, 4, .ro, 0, 0x0, 0x0, 0x0⟩]

/-- The rows of the register map whose first register is MP_ID. -/
def rows8 : List RegRow :=
  [⟨aMP_ID, 1, 4, .ro, 0, 0x0, 0x0, 0x2⟩,
   ⟨aMP_FW_VERSION, 1, 4, .ro, 0, 0x0, 0x0, 0x0⟩,
   ⟨aMP_STATE, 1, 4, .ro, 0, 0x0, 0x0, 0x0⟩,
   ⟨aMP_SLOWQ, 1, 4, .ro, 0, 0x0, 0x0, 0x0⟩,
   ⟨aMP_SLOWQ_HWM_CLR, 1, 4, .wo, 0, 0x1, 0x0, 0x0⟩,
   ⟨aMP_UTIL, 1, 4, .ro, 0, 0x0, 0x0, 0x0⟩,
   ⟨aMP_DRAIN, 1, 4, .ro, 0, 0x0, 0x0, 0x0⟩,
   ⟨aMP_RETRY_HINT, 1, 4, .ro, 0, 0x0, 0x0, 0x0⟩,
   ⟨aMP_BUSY_CNT, 1, 4, .ro, 0, 0x0, 0x0, 0x0⟩,
   ⟨aMP_RESTART_CNT, 1, 4, .ro, 0, 0x0, 0x0, 0x0⟩,
   ⟨aMP_RESTART_STAMP_LO, 1, 4, .ro, 0, 0x0, 0x0, 0x0⟩,
   ⟨aMP_RESTART_STAMP_HI, 1, 4, .ro, 0, 0x0, 0x0, 0x0⟩,
   ⟨aMP_WDOG, 1, 4, .ro, 0, 0x0, 0x0, 0x2710⟩,
   ⟨aMP_TREDY_SEL, 1, 4, .rw, 0, 0xff, 0x0, 0x0⟩,
   ⟨aMP_TREDY_VER, 1, 4, .ro, 0, 0x0, 0x0, 0x0⟩,
   ⟨aMP_MGMT_EN, 1, 4, .rw, 0, 0x3, 0x0, 0x1⟩,
   ⟨aMP_MGMT_TCP, 1, 4, .rw, 0, 0xffff, 0x0, 0x1018⟩,
   ⟨aMP_CONSOLE_BAUD, 1, 4, .rw, 0, 0x7, 0x0, 0x4⟩,
   ⟨aMP_SESSIONS, 1, 4, .ro, 0, 0x0, 0x0, 0x0⟩]

/-- The rows of the register map whose first register is Q_CTL. -/
def rowsQueue : List RegRow :=
  [⟨aQ_CTL, 2048, 0, .rws, 4, 0x31f1f0f, 0x0, 0x40400⟩,
   ⟨aQ_SQ_BASE_LO, 2048, 0, .rws, 4, 0xffffffff, 0x0, 0x0⟩,
   ⟨aQ_SQ_BASE_HI, 2048, 0, .rws, 4, 0xffffffff, 0x0, 0x0⟩,
   ⟨aQ_CQ_BASE_LO, 2048, 0, .rws, 4, 0xffffffff, 0x0, 0x0⟩,
   ⟨aQ_CQ_BASE_HI, 2048, 0, .rws, 4, 0xffffffff, 0x0, 0x0⟩,
   ⟨aQ_MIRROR_LO, 2048, 0, .rws, 4, 0xffffffc0, 0x0, 0x0⟩,
   ⟨aQ_MIRROR_HI, 2048, 0, .rws, 4, 0xffffffff, 0x0, 0x0⟩,
   ⟨aQ_POLL, 2048, 0, .rws, 4, 0xfff, 0x0, 0x4⟩,
   ⟨aQ_MOD, 2048, 0, .rws, 5, 0xfffff03, 0x0, 0x100⟩,
   ⟨aQ_VECTOR, 2048, 0, .rws, 5, 0x3f, 0x0, 0x0⟩,
   ⟨aQ_OWNER, 2048, 0, .ro, 0, 0x0, 0x0, 0x0⟩,
   ⟨aQ_STATUS, 2048, 0, .ro, 0, 0x0, 0x70000, 0x2⟩,
   ⟨aQ_SQ_IDX, 2048, 0, .ro, 0, 0x0, 0x0, 0x0⟩,
   ⟨aQ_CQ_IDX, 2048, 0, .ro, 0, 0x0, 0x0, 0x0⟩,
   ⟨aQ_INFLIGHT, 2048, 0, .ro, 0, 0x0, 0x0, 0x0⟩,
   ⟨aQ_STALL_CNT, 2048, 0, .ro, 0, 0x0, 0x0, 0x0⟩,
   ⟨aQ_REJECT_CNT, 2048, 0, .ro, 0, 0x0, 0x0, 0x0⟩,
   ⟨aQ_LOST, 2048, 0, .ro, 0, 0x0, 0x0, 0x0⟩,
   ⟨aQ_SEQ, 2048, 0, .ro, 0, 0x0, 0x0, 0x0⟩]

/-- The rows of the register map whose first register is PE_ID. -/
def rows9 : List RegRow :=
  [⟨aPE_ID, 1, 4, .ro, 0, 0x0, 0x0, 0x1⟩,
   ⟨aPE_CAPS, 1, 4, .ro, 0, 0x0, 0x0, 0xf3b⟩,
   ⟨aPE_CTL, 1, 4, .rws, 13, 0x1f0f, 0x0, 0xf0f⟩,
   ⟨aPE_CLUSTER_STATE, 1, 4, .ro, 0, 0x0, 0x0, 0x0⟩,
   ⟨aPE_SEL, 1, 4, .rw, 0, 0xf, 0x0, 0x0⟩,
   ⟨aPE_JOBS, 1, 4, .ro, 0, 0x0, 0x0, 0x0⟩,
   ⟨aPE_ATTEMPTS, 1, 4, .ro, 0, 0x0, 0x0, 0x0⟩,
   ⟨aPE_KC_HIT, 1, 4, .ro, 0, 0x0, 0x0, 0x0⟩,
   ⟨aPE_KC_MISS, 1, 4, .ro, 0, 0x0, 0x0, 0x0⟩,
   ⟨aPE_RETRIED, 1, 4, .ro, 0, 0x0, 0x0, 0x0⟩,
   ⟨aPE_CONTAINED, 1, 4, .ro, 0, 0x0, 0x0, 0x0⟩,
   ⟨aPE_OWNER_WIPES, 1, 4, .ro, 0, 0x0, 0x0, 0x0⟩,
   ⟨aPE_HIST_SEL, 1, 4, .rw, 0, 0xff, 0x0, 0x1⟩,
   ⟨aPE_HIST_FORK, 1, 4, .ro, 0, 0x0, 0x0, 0x0⟩,
   ⟨aPE_HIST_SINGLE, 1, 4, .ro, 0, 0x0, 0x0, 0x0⟩,
   ⟨aPE_EXHAUSTED, 1, 4, .ro, 0, 0x0, 0x0, 0x0⟩,
   ⟨aPE_EVT_SPAN, 1, 4, .ro, 0, 0x0, 0x0, 0x0⟩,
   ⟨aPE_RNG_STARVE, 1, 4, .ro, 0, 0x0, 0x0, 0x0⟩,
   ⟨aPE_ST, 1, 4, .ro, 0, 0x0, 0x0, 0x55⟩,
   ⟨aPE_KC_FLUSH, 1, 4, .wo, 0, 0xf, 0x0, 0x0⟩]

/-- The rows of the register map whose first register is ME_ID. -/
def rowsa : List RegRow :=
  [⟨aME_ID, 1, 4, .ro, 0, 0x0, 0x0, 0x1⟩,
   ⟨aME_CAPS, 1, 4, .ro, 0, 0x0, 0x0, 0x31f⟩,
   ⟨aME_CTL, 1, 4, .rws, 13, 0xff03ff, 0x0, 0xff0100⟩,
   ⟨aME_CLUSTER_STATE, 1, 4, .ro, 0, 0x0, 0x0, 0x0⟩,
   ⟨aME_SEL, 1, 4, .rw, 0, 0x7, 0x0, 0x0⟩,
   ⟨aME_JOBS, 1, 4, .ro, 0, 0x0, 0x0, 0x0⟩,
   ⟨aME_RETRIED, 1, 4, .ro, 0, 0x0, 0x0, 0x0⟩,
   ⟨aME_CONTAINED, 1, 4, .ro, 0, 0x0, 0x0, 0x0⟩,
   ⟨aME_HBS_SEL, 1, 4, .rw, 0, 0xfff, 0x0, 0x0⟩,
   ⟨aME_HBS_STATE, 1, 4, .ro, 0, 0x0, 0x0, 0x0⟩,
   ⟨aME_HBS_NEXT_EVEN, 1, 4, .ro, 0, 0x0, 0x0, 0x0⟩,
   ⟨aME_HBS_NEXT_ODD, 1, 4, .ro, 0, 0x0, 0x0, 0x1⟩,
   ⟨aME_HBS_CUR_BLOCK, 1, 4, .ro, 0, 0x0, 0x0, 0x0⟩,
   ⟨aME_HBS_CUR_LEFT, 1, 4, .ro, 0, 0x0, 0x0, 0x0⟩,
   ⟨aME_JRNL_STATUS, 1, 4, .ro, 0, 0x0, 0x0, 0x0⟩,
   ⟨aME_JRNL_SEQ, 1, 4, .ro, 0, 0x0, 0x0, 0x0⟩,
   ⟨aME_JRNL_LAPS, 1, 4, .ro, 0, 0x0, 0x0, 0x0⟩,
   ⟨aME_JRNL_CRC_FAIL, 1, 4, .ro, 0, 0x0, 0x0, 0x0⟩,
   ⟨aME_HBS_KEYS, 1, 4, .ro, 0, 0x0, 0x0, 0x0⟩,
   ⟨aME_RSV_CNT, 1, 4, .ro, 0, 0x0, 0x0, 0x0⟩,
   ⟨aME_DISCARD_LO, 1, 4, .ro, 0, 0x0, 0x0, 0x0⟩,
   ⟨aME_DISCARD_HI, 1, 4, .ro, 0, 0x0, 0x0, 0x0⟩,
   ⟨aME_ST, 1, 4, .ro, 0, 0x0, 0x0, 0x5⟩]

/-- The rows of the register map whose first register is CE_ID. -/
def rowsb : List RegRow :=
  [⟨aCE_ID, 1, 4, .ro, 0, 0x0, 0x0, 0x1⟩,
   ⟨aCE_CAPS, 1, 4, .ro, 0, 0x0, 0x0, 0x3⟩,
   ⟨aCE_CTL, 1, 4, .rws, 13, 0x10003, 0x0, 0x10003⟩,
   ⟨aCE_STATE, 1, 4, .ro, 0, 0x0, 0x0, 0x0⟩,
   ⟨aCE_SEL, 1, 4, .rw, 0, 0x1, 0x0, 0x0⟩,
   ⟨aCE_JOBS, 1, 4, .ro, 0, 0x0, 0x0, 0x0⟩,
   ⟨aCE_RETRIED, 1, 4, .ro, 0, 0x0, 0x0, 0x0⟩,
   ⟨aCE_CONTAINED, 1, 4, .ro, 0, 0x0, 0x0, 0x0⟩,
   ⟨aCE_KG_ATTEMPTS, 1, 4, .ro, 0, 0x0, 0x0, 0x0⟩,
   ⟨aCE_REGEN, 1, 4, .ro, 0, 0x0, 0x0, 0x0⟩,
   ⟨aCE_P3_USED, 1, 4, .ro, 0, 0x0, 0x0, 0x0⟩,
   ⟨aCE_P3_ENTRIES, 1, 4, .ro, 0, 0x0, 0x0, 0x0⟩,
   ⟨aCE_P3_SEL, 1, 4, .rw, 0, 0xff, 0x0, 0x0⟩,
   ⟨aCE_P3_QUOTA, 1, 4, .rw, 0, 0x1ffffff, 0x0, 0x1000000⟩,
   ⟨aCE_P3_INST_USED, 1, 4, .ro, 0, 0x0, 0x0, 0x0⟩,
   ⟨aCE_DIGEST_FAIL, 1, 4, .ro, 0, 0x0, 0x0, 0x0⟩,
   ⟨aCE_ST, 1, 4, .ro, 0, 0x0, 0x0, 0x1⟩]

/-- The rows of the register map whose first register is BN_ID. -/
def rowsc : List RegRow :=
  [⟨aBN_ID, 1, 4, .ro, 0, 0x0, 0x0, 0x1⟩,
   ⟨aBN_CAPS, 1, 4, .ro, 0, 0x0, 0x0, 0x3f⟩,
   ⟨aBN_CTL, 1, 4, .rws, 13, 0x3ff, 0x0, 0x1ff⟩,
   ⟨aBN_STATE, 1, 4, .ro, 0, 0x0, 0x0, 0x0⟩,
   ⟨aBN_SEL, 1, 4, .rw, 0, 0x7, 0x0, 0x0⟩,
   ⟨aBN_JOBS, 1, 4, .ro, 0, 0x0, 0x0, 0x0⟩,
   ⟨aBN_RETRIED, 1, 4, .ro, 0, 0x0, 0x0, 0x0⟩,
   ⟨aBN_CONTAINED, 1, 4, .ro, 0, 0x0, 0x0, 0x0⟩,
   ⟨aBN_OWNER_WIPES, 1, 4, .ro, 0, 0x0, 0x0, 0x0⟩,
   ⟨aBN_ABORT_WIPES, 1, 4, .ro, 0, 0x0, 0x0, 0x0⟩,
   ⟨aBN_REGEN, 1, 4, .ro, 0, 0x0, 0x0, 0x0⟩,
   ⟨aBN_KG_CANDIDATES, 1, 4, .ro, 0, 0x0, 0x0, 0x0⟩,
   ⟨aBN_VALUE_REJECT, 1, 4, .ro, 0, 0x0, 0x0, 0x0⟩,
   ⟨aBN_ST, 1, 4, .ro, 0, 0x0, 0x0, 0x1⟩]

/-- The rows of the register map whose first register is MC_ID. -/
def rowse : List RegRow :=
  [⟨aMC_ID, 1, 4, .ro, 0, 0x0, 0x0, 0x1⟩,
   ⟨aMC_CAPS, 1, 4, .ro, 0, 0x0, 0x0, 0x3ff⟩,
   ⟨aMC_SEL, 1, 4, .rw, 0, 0x7, 0x0, 0x0⟩,
   ⟨aMC_CL_STATE, 1, 4, .ro, 0, 0x0, 0x0, 0x0⟩,
   ⟨aMC_CL_PACK, 1, 4, .ro, 0, 0x0, 0x0, 0x0⟩,
   ⟨aMC_CL_VER, 1, 4, .ro, 0, 0x0, 0x0, 0x0⟩,
   ⟨aMC_CL_SEG, 1, 4, .ro, 0, 0x0, 0x0, 0x0⟩,
   ⟨aMC_CL_USED, 1, 4, .ro, 0, 0x0, 0x0, 0x0⟩,
   ⟨aMC_MCHK_CNT, 1, 4, .ro, 0, 0x0, 0x0, 0x0⟩,
   ⟨aMC_LOAD_CNT, 1, 4, .ro, 0, 0x0, 0x0, 0x0⟩,
   ⟨aMC_LVU_RESTARTS, 1, 4, .ro, 0, 0x0, 0x0, 0x0⟩,
   ⟨aMC_LVU_CONTAINED, 1, 4, .ro, 0, 0x0, 0x0, 0x0⟩,
   ⟨aMC_SEQ_FAULTS, 1, 4, .ro, 0, 0x0, 0x0, 0x0⟩,
   ⟨aMC_LVU_FLT0, 1, 4, .ro, 0, 0x0, 0x80000000, 0x0⟩,
   ⟨aMC_LVU_FLT1, 1, 4, .ro, 0, 0x0, 0x0, 0x0⟩,
   ⟨aMC_LVU_FLT2, 1, 4, .ro, 0, 0x0, 0x0, 0x0⟩,
   ⟨aMC_LOAD_MASK, 1, 4, .ro, 0, 0x0, 0x0, 0x0⟩,
   ⟨aMC_ASSIGN, 8, 4, .rws, 14, 0xffffffff, 0x0, 0x0⟩]

/-- The rows of the register map whose first register is SE_ID. -/
def rowsd : List RegRow :=
  [⟨aSE_ID, 1, 4, .ro, 0, 0x0, 0x0, 0x1⟩,
   ⟨aSE_CAPS, 1, 4, .ro, 0, 0x0, 0x0, 0x7f⟩,
   ⟨aSE_CTL, 1, 4, .rws, 13, 0x300ff, 0x0, 0x100ff⟩,
   ⟨aSE_STATE, 1, 4, .ro, 0, 0x0, 0x0, 0x0⟩,
   ⟨aSE_SEL, 1, 4, .rw, 0, 0x7, 0x0, 0x0⟩,
   ⟨aSE_JOBS, 1, 4, .ro, 0, 0x0, 0x0, 0x0⟩,
   ⟨aSE_BYTES_LO, 1, 4, .ro, 0, 0x0, 0x0, 0x0⟩,
   ⟨aSE_BYTES_HI, 1, 4, .ro, 0, 0x0, 0x0, 0x0⟩,
   ⟨aSE_PREEMPT, 1, 4, .ro, 0, 0x0, 0x0, 0x0⟩,
   ⟨aSE_RETRIED, 1, 4, .ro, 0, 0x0, 0x0, 0x0⟩,
   ⟨aSE_CONTAINED, 1, 4, .ro, 0, 0x0, 0x0, 0x0⟩,
   ⟨aSE_TAG_FAIL, 1, 4, .ro, 0, 0x0, 0x0, 0x0⟩,
   ⟨aSE_LIMIT_REJECT, 1, 4, .ro, 0, 0x0, 0x0, 0x0⟩,
   ⟨aSE_ERASE, 1, 4, .ro, 0, 0x0, 0x0, 0x0⟩,
   ⟨aSE_ST, 1, 4, .ro, 0, 0x0, 0x0, 0x1⟩,
   ⟨aDE_ID, 1, 4, .ro, 0, 0x0, 0x0, 0x1⟩,
   ⟨aDE_CAPS, 1, 4, .ro, 0, 0x0, 0x0, 0x1f⟩,
   ⟨aDE_CTL, 1, 4, .rws, 13, 0x10fff, 0x0, 0x10fff⟩,
   ⟨aDE_STATE, 1, 4, .ro, 0, 0x0, 0x0, 0x0⟩,
   ⟨aDE_SEL, 1, 4, .rw, 0, 0xf, 0x0, 0x0⟩,
   ⟨aDE_JOBS, 1, 4, .ro, 0, 0x0, 0x0, 0x0⟩,
   ⟨aDE_BLOCKS_LO, 1, 4, .ro, 0, 0x0, 0x0, 0x0⟩,
   ⟨aDE_BLOCKS_HI, 1, 4, .ro, 0, 0x0, 0x0, 0x0⟩,
   ⟨aDE_PREEMPT, 1, 4, .ro, 0, 0x0, 0x0, 0x0⟩,
   ⟨aDE_RETRIED, 1, 4, .ro, 0, 0x0, 0x0, 0x0⟩,
   ⟨aDE_CONTAINED, 1, 4, .ro, 0, 0x0, 0x0, 0x0⟩,
   ⟨aDE_VERIFY_FAIL, 1, 4, .ro, 0, 0x0, 0x0, 0x0⟩,
   ⟨aDE_RESTORE_REJECT, 1, 4, .ro, 0, 0x0, 0x0, 0x0⟩,
   ⟨aDE_CTX_SEL, 1, 4, .rw, 0, 0xff, 0x0, 0x0⟩,
   ⟨aDE_CTX_USED, 1, 4, .ro, 0, 0x0, 0x0, 0x0⟩,
   ⟨aDE_ST, 1, 4, .ro, 0, 0x0, 0x0, 0x1⟩]

/-- The rows of the register map whose first register is KS_ID. -/
def rows6 : List RegRow :=
  [⟨aKS_ID, 1, 4, .ro, 0, 0x0, 0x0, 0x1⟩,
   ⟨aKS_STATUS, 1, 4, .ro, 0, 0x0, 0x0, 0x0⟩,
   ⟨aKS_CTL, 1, 4, .rws, 12, 0x3, 0x0, 0x1⟩,
   ⟨aKS_SLOTS_USED, 1, 4, .ro, 0, 0x0, 0x0, 0x0⟩,
   ⟨aKS_SLOTS_STALE, 1, 4, .ro, 0, 0x0, 0x0, 0x0⟩,
   ⟨aKS_SLOTS_RETIRED, 1, 4, .ro, 0, 0x0, 0x0, 0x0⟩,
   ⟨aKS_NODES, 1, 4, .ro, 0, 0x0, 0x0, 0x0⟩,
   ⟨aKS_UPD_CNT_LO, 1, 4, .ro, 0, 0x0, 0x0, 0x0⟩,
   ⟨aKS_UPD_CNT_HI, 1, 4, .ro, 0, 0x0, 0x0, 0x0⟩,
   ⟨aKS_UPD_OK, 1, 4, .ro, 0, 0x0, 0x0, 0x0⟩,
   ⟨aKS_UPD_REJECT, 1, 4, .ro, 0, 0x0, 0x0, 0x0⟩,
   ⟨aKS_UPD_LAST_FAIL, 1, 4, .ro, 0, 0x0, 0x0, 0x0⟩,
   ⟨aKS_APPROVALS, 1, 4, .ro, 0, 0x0, 0x0, 0x0⟩,
   ⟨aKS_REFUSALS, 1, 4, .ro, 0, 0x0, 0x0, 0x0⟩,
   ⟨aKS_INVAL_CNT, 1, 4, .ro, 0, 0x0, 0x0, 0x0⟩,
   ⟨aKS_REVOKED_DURING, 1, 4, .ro, 0, 0x0, 0x0, 0x0⟩,
   ⟨aKS_INST_SEL, 1, 4, .rw, 0, 0xff, 0x0, 0x0⟩,
   ⟨aKS_INST_USED, 1, 4, .ro, 0, 0x0, 0x0, 0x0⟩,
   ⟨aKS_INST_QUOTA, 1, 4, .ro, 0, 0x0, 0x0, 0x0⟩,
   ⟨aKS_N4_FAIL, 1, 4, .ro, 0, 0x0, 0x0, 0x0⟩,
   ⟨aKS_ERASE_CNT, 1, 4, .ro, 0, 0x0, 0x0, 0x0⟩,
   ⟨aKS_MID, 8, 4, .ro, 0, 0x0, 0x0, 0x0⟩,
   ⟨aKS_ST, 1, 4, .ro, 0, 0x0, 0x0, 0x1⟩]

/-- The rows of the register map whose first register is RNG_ID. -/
def rows7 : List RegRow :=
  [⟨aRNG_ID, 1, 4, .ro, 0, 0x0, 0x0, 0x1⟩,
   ⟨aRNG_CUTOFF, 1, 4, .ro, 0, 0x0, 0x0, 0x33e0051⟩,
   ⟨aRNG_CTL, 1, 4, .rws, 11, 0x10f, 0x0, 0x10f⟩,
   ⟨aRNG_RETEST, 1, 4, .wo, 0, 0xf, 0x0, 0x0⟩,
   ⟨aRNG_SRC_STATE, 1, 4, .ro, 0, 0x0, 0x0, 0x0⟩,
   ⟨aRNG_EPOCH, 1, 4, .ro, 0, 0x0, 0x0, 0x0⟩,
   ⟨aRNG_DRBG_SEL, 1, 4, .rw, 0, 0xf, 0x0, 0x0⟩,
   ⟨aRNG_DRBG_STATE, 1, 4, .ro, 0, 0x0, 0x0, 0x0⟩,
   ⟨aRNG_DRBG_RESEEDS, 1, 4, .ro, 0, 0x0, 0x0, 0x0⟩,
   ⟨aRNG_DRBG_STOPS, 1, 4, .ro, 0, 0x0, 0x0, 0x0⟩,
   ⟨aRNG_BLOCKS, 1, 4, .ro, 0, 0x0, 0x0, 0x0⟩,
   ⟨aRNG_BLOCKS_DISCARDED, 1, 4, .ro, 0, 0x0, 0x0, 0x0⟩,
   ⟨aRNG_RCT_FAIL, 1, 4, .ro, 0, 0x0, 0x0, 0x0⟩,
   ⟨aRNG_APT_FAIL, 1, 4, .ro, 0, 0x0, 0x0, 0x0⟩,
   ⟨aRNG_RETIRE_CNT, 1, 4, .ro, 0, 0x0, 0x0, 0x0⟩,
   ⟨aRNG_UNAVAIL_CNT, 1, 4, .ro, 0, 0x0, 0x0, 0x0⟩,
   ⟨aRNG_EMPTY_READS, 1, 4, .ro, 0, 0x0, 0x0, 0x0⟩,
   ⟨aRNG_ST, 1, 4, .ro, 0, 0x0, 0x0, 0x1⟩,
   ⟨aRNG_DATA, 1, 4, .ro, 0, 0x0, 0x0, 0x0⟩,
   ⟨aRNG_STATUS, 1, 4, .ro, 0, 0x0, 0x1, 0x0⟩]

/-- The rows of the register map whose first register is PT_ID. -/
def rowsa0 : List RegRow :=
  [⟨aPT_ID, 1, 4, .ro, 0, 0x0, 0x0, 0x1⟩,
   ⟨aPT_CAPS, 1, 4, .ro, 0, 0x0, 0x0, 0x1f⟩,
   ⟨aPT_CL_CTL, 4, 4, .rws, 6, 0x3ff, 0x0, 0x0⟩,
   ⟨aPT_HEADROOM, 1, 4, .ro, 0, 0x0, 0x0, 0x0⟩,
   ⟨aPT_SPILL_RES, 1, 4, .ro, 0, 0x0, 0x0, 0x0⟩,
   ⟨aPT_SE_OVERRUN, 1, 4, .ro, 0, 0x0, 0x0, 0x0⟩,
   ⟨aPT_LANE_SEL, 1, 4, .rw, 0, 0x1ff, 0x0, 0x0⟩,
   ⟨aPT_RX_FRAMES, 1, 4, .ro, 0, 0x0, 0x0, 0x0⟩,
   ⟨aPT_TX_FRAMES, 1, 4, .ro, 0, 0x0, 0x0, 0x0⟩,
   ⟨aPT_RX_ERR, 1, 4, .ro, 0, 0x0, 0x0, 0x0⟩,
   ⟨aPT_PFC_TX, 1, 4, .ro, 0, 0x0, 0x0, 0x0⟩,
   ⟨aPT_MACSEC_DROP, 1, 4, .ro, 0, 0x0, 0x0, 0x0⟩,
   ⟨aPT_FIFO_SEL, 1, 4, .rw, 0, 0x7f, 0x0, 0x0⟩,
   ⟨aPT_FIFO_STATE, 1, 4, .ro, 0, 0x0, 0x0, 0x80⟩,
   ⟨aPT_FIFO_FLUSH, 1, 4, .wo, 0, 0x7f, 0x0, 0x0⟩,
   ⟨aPT_FIFO_DISCARD, 1, 4, .ro, 0, 0x0, 0x0, 0x0⟩,
   ⟨aPT_FIFO_RESETS, 1, 4, .ro, 0, 0x0, 0x0, 0x0⟩,
   ⟨aPT_FIFO_LOST, 1, 4, .ro, 0, 0x0, 0x0, 0x0⟩,
   ⟨aPT_LANE, 512, 4, .rws, 6, 0xff0ffff7, 0x0, 0x0⟩,
   ⟨aPT_PEER, 512, 4, .rws, 6, 0x3ff03ff, 0x0, 0x3ff03ff⟩,
   ⟨aPT_STATUS, 512, 4, .ro, 0, 0x0, 0x0, 0x0⟩]

/-- The rows of the register map whose first register is ST_ID. -/
def rowsa1 : List RegRow :=
  [⟨aST_ID, 1, 4, .ro, 0, 0x0, 0x0, 0x1⟩,
   ⟨aST_CAPS, 1, 4, .ro, 0, 0x0, 0x0, 0xff⟩,
   ⟨aST_CLASS_SEL, 1, 4, .rw, 0, 0xff, 0x0, 0x0⟩,
   ⟨aST_CLASS_OCC, 1, 4, .ro, 0, 0x0, 0x0, 0x0⟩,
   ⟨aST_CLASS_STREAMS, 1, 4, .ro, 0, 0x0, 0x0, 0x0⟩,
   ⟨aST_STREAMS, 1, 4, .ro, 0, 0x0, 0x0, 0x0⟩,
   ⟨aST_POLICIES, 1, 4, .ro, 0, 0x0, 0x0, 0x0⟩,
   ⟨aST_CACHE_USED, 1, 4, .ro, 0, 0x0, 0x0, 0x0⟩,
   ⟨aST_CACHE_PINNED, 1, 4, .ro, 0, 0x0, 0x0, 0x0⟩,
   ⟨aST_CACHE_MISS, 1, 4, .ro, 0, 0x0, 0x0, 0x0⟩,
   ⟨aST_AUTH_FAIL, 1, 4, .ro, 0, 0x0, 0x0, 0x0⟩,
   ⟨aST_REPLAY, 1, 4, .ro, 0, 0x0, 0x0, 0x0⟩,
   ⟨aST_DUPLICATE, 1, 4, .ro, 0, 0x0, 0x0, 0x0⟩,
   ⟨aST_LEN_MISMATCH, 1, 4, .ro, 0, 0x0, 0x0, 0x0⟩,
   ⟨aST_STALE_FAIL, 1, 4, .ro, 0, 0x0, 0x0, 0x0⟩,
   ⟨aST_FLAGGED, 1, 4, .ro, 0, 0x0, 0x0, 0x0⟩,
   ⟨aST_EVT_SIGNED, 1, 4, .ro, 0, 0x0, 0x0, 0x0⟩,
   ⟨aST_EVT_UNSIGNED, 1, 4, .ro, 0, 0x0, 0x0, 0x0⟩,
   ⟨aST_ST, 1, 4, .ro, 0, 0x0, 0x0, 0x1⟩,
   ⟨aST_CLASS, 256, 4, .rws, 7, 0xff0007ff, 0x0, 0x0⟩]

/-- The rows of the register map whose first register is IN_ID. -/
def rowsd0 : List RegRow :=
  [⟨aIN_ID, 1, 4, .ro, 0, 0x0, 0x0, 0x1⟩,
   ⟨aIN_CAPS, 1, 4, .ro, 0, 0x0, 0x0, 0x80⟩,
   ⟨aIN_VF_STATE, 1, 4, .ro, 0, 0x0, 0x0, 0x0⟩,
   ⟨aIN_COUNT, 1, 4, .ro, 0, 0x0, 0x0, 0x0⟩]

/-- The rows of the register map whose first register is IN_VECTORS. -/
def rowsInstance : List RegRow :=
  [⟨aIN_VECTORS, 129, 128, .rws, 8, 0x7f, 0x0, 0x0⟩,
   ⟨aIN_SLOT_QUOTA, 129, 128, .rws, 8, 0x1ffff, 0x0, 0x0⟩,
   ⟨aIN_SCRATCH, 129, 128, .rws, 8, 0x3ffff, 0x0, 0x0⟩,
   ⟨aIN_WEIGHT_A, 129, 128, .rws, 8, 0xffffffff, 0x0, 0x0⟩,
   ⟨aIN_WEIGHT_B, 129, 128, .rws, 8, 0xffff, 0x0, 0x0⟩,
   ⟨aIN_STATE, 129, 128, .ro, 0, 0x0, 0x0, 0x0⟩,
   ⟨aIN_GEN, 129, 128, .ro, 0, 0x0, 0x0, 0x0⟩,
   ⟨aIN_SCRATCH_USED, 129, 128, .ro, 0, 0x0, 0x0, 0x0⟩,
   ⟨aIN_BERTHS, 129, 128, .ro, 0, 0x0, 0x0, 0x0⟩,
   ⟨aIN_FLR_CNT, 129, 128, .ro, 0, 0x0, 0x0, 0x0⟩,
   ⟨aIN_RESET_CNT, 129, 128, .ro, 0, 0x0, 0x0, 0x0⟩]

/-- The rows of the register map whose first register is IN_QMAP. -/
def rowsQmap : List RegRow :=
  [⟨aIN_QMAP, 0, 0, .rws, 8, 0x87ff87ff, 0x0, 0x0⟩]

/-- The rows of the register map whose first register is TW_ID. -/
def rowsc0 : List RegRow :=
  [⟨aTW_ID, 1, 4, .ro, 0, 0x0, 0x0, 0x1⟩,
   ⟨aTW_CAPS, 1, 4, .ro, 0, 0x0, 0x0, 0x7⟩,
   ⟨aTW_CTL, 1, 4, .rws, 9, 0xff0107, 0x0, 0x20000⟩,
   ⟨aTW_PEER_IP, 4, 4, .rws, 9, 0xffffffff, 0x0, 0x0⟩,
   ⟨aTW_PEER_UDP, 1, 4, .rws, 9, 0xffff, 0x0, 0x1019⟩,
   ⟨aTW_STATE, 1, 4, .ro, 0, 0x0, 0x0, 0x0⟩,
   ⟨aTW_MSEQ_SENT, 1, 4, .ro, 0, 0x0, 0x0, 0x0⟩,
   ⟨aTW_MSEQ_ACKED, 1, 4, .ro, 0, 0x0, 0x0, 0x0⟩,
   ⟨aTW_PENDING, 1, 4, .ro, 0, 0x0, 0x0, 0x0⟩,
   ⟨aTW_HB_MISS, 1, 4, .ro, 0, 0x0, 0x0, 0x0⟩,
   ⟨aTW_CASTLE_CNT, 1, 4, .ro, 0, 0x0, 0x0, 0x0⟩,
   ⟨aTW_PROMOTE_CNT, 1, 4, .ro, 0, 0x0, 0x0, 0x0⟩,
   ⟨aTW_PATH_LOST_CNT, 1, 4, .ro, 0, 0x0, 0x0, 0x0⟩,
   ⟨aTW_AUTH_FAIL, 1, 4, .ro, 0, 0x0, 0x0, 0x0⟩,
   ⟨aTW_LAST_CASTLE_LO, 1, 4, .ro, 0, 0x0, 0x0, 0x0⟩,
   ⟨aTW_LAST_CASTLE_HI, 1, 4, .ro, 0, 0x0, 0x0, 0x0⟩,
   ⟨aTW_PAIR_ID, 8, 4, .ro, 0, 0x0, 0x0, 0x0⟩]

/-- The rows of the register map whose first register is FC_ID. -/
def rows4 : List RegRow :=
  [⟨aFC_ID, 1, 4, .ro, 0, 0x0, 0x0, 0x1⟩,
   ⟨aFC_STATUS, 1, 4, .ro, 0, 0x0, 0x0, 0x0⟩,
   ⟨aFC_CTL, 1, 4, .rws, 10, 0x1ff7fff, 0x0, 0x1084c0a⟩,
   ⟨aFC_WINDOW, 1, 4, .rws, 10, 0x1ffff, 0x0, 0xe10⟩,
   ⟨aFC_RELEASE, 1, 4, .wo, 0, 0xffffffff, 0x0, 0x0⟩,
   ⟨aFC_CNT_CORR, 1, 4, .ro, 0, 0x0, 0x0, 0x0⟩,
   ⟨aFC_CNT_CONT, 1, 4, .ro, 0, 0x0, 0x0, 0x0⟩,
   ⟨aFC_CNT_FATAL, 1, 4, .ro, 0, 0x0, 0x0, 0x0⟩,
   ⟨aFC_RECOVERY_CNT, 1, 4, .ro, 0, 0x0, 0x0, 0x0⟩,
   ⟨aFC_FRAME_DROP, 1, 4, .ro, 0, 0x0, 0x0, 0x0⟩,
   ⟨aFC_FEC, 12, 4, .ro, 0, 0x0, 0x0, 0x0⟩,
   ⟨aFC_FEC_VALID, 1, 4, .ro, 0, 0x0, 0x7, 0x0⟩,
   ⟨aFC_LOG_SEQ_LO, 1, 4, .ro, 0, 0x0, 0x0, 0x0⟩,
   ⟨aFC_LOG_SEQ_HI, 1, 4, .ro, 0, 0x0, 0x0, 0x0⟩,
   ⟨aFC_LOG_RING, 1, 4, .ro, 0, 0x0, 0x0, 0x0⟩,
   ⟨aFC_LOG_LOST, 1, 4, .ro, 0, 0x0, 0x0, 0x0⟩,
   ⟨aFC_OOS_SEL, 1, 4, .rw, 0, 0xfff, 0x0, 0x0⟩,
   ⟨aFC_OOS_STATE, 1, 4, .ro, 0, 0x0, 0x0, 0x0⟩,
   ⟨aFC_LIVE, 1, 4, .ro, 0, 0x0, 0x0, 0x0⟩,
   ⟨aFC_SCRUB_SRAM, 1, 4, .ro, 0, 0x0, 0x0, 0x0⟩,
   ⟨aFC_SCRUB_DDR, 1, 4, .ro, 0, 0x0, 0x0, 0x0⟩,
   ⟨aFC_HC, 1, 4, .ro, 0, 0x0, 0x0, 0x0⟩]

/-- The rows of the register map whose first register is AL_ID. -/
def rows5 : List RegRow :=
  [⟨aAL_ID, 1, 4, .ro, 0, 0x0, 0x0, 0x1⟩,
   ⟨aAL_STATUS, 1, 4, .ro, 0, 0x0, 0x0, 0x0⟩,
   ⟨aAL_LATCH, 1, 4, .ro, 0, 0x0, 0x7ff, 0x0⟩,
   ⟨aAL_ACTION, 1, 4, .rws, 10, 0x3fffff, 0x0, 0x155695⟩,
   ⟨aAL_LOOP_EN, 1, 4, .rws, 10, 0xf, 0x0, 0x0⟩,
   ⟨aAL_DCM, 1, 4, .rws, 10, 0xffff, 0x0, 0xa10⟩,
   ⟨aAL_ERASE_CNT, 1, 4, .ro, 0, 0x0, 0x0, 0x0⟩,
   ⟨aAL_LAST_LO, 1, 4, .ro, 0, 0x0, 0x0, 0x0⟩,
   ⟨aAL_LAST_HI, 1, 4, .ro, 0, 0x0, 0x0, 0x0⟩,
   ⟨aAL_LAST_INFO, 1, 4, .ro, 0, 0x0, 0x0, 0x0⟩,
   ⟨aAL_SUPERCAP, 1, 4, .ro, 0, 0x0, 0x0, 0x0⟩,
   ⟨aAL_TEMP, 1, 4, .ro, 0, 0x0, 0x0, 0x0⟩,
   ⟨aAL_PERM, 1, 4, .ro, 0, 0x0, 0x0, 0x0⟩]

/-- The rows of the register map whose first register is PWR_ID. -/
def rows1 : List RegRow :=
  [⟨aPWR_ID, 1, 4, .ro, 0, 0x0, 0x0, 0x1⟩,
   ⟨aPWR_CTL, 1, 4, .rws, 15, 0xffffff, 0x0, 0xffffff⟩,
   ⟨aPWR_CAGE_EN_LO, 1, 4, .rws, 15, 0xffffffff, 0x0, 0xffffffff⟩,
   ⟨aPWR_CAGE_EN_HI, 1, 4, .rws, 15, 0xffffffff, 0x0, 0xffffffff⟩,
   ⟨aPWR_STATE_LO, 1, 4, .ro, 0, 0x0, 0x0, 0x0⟩,
   ⟨aPWR_STATE_HI, 1, 4, .ro, 0, 0x0, 0x0, 0x0⟩,
   ⟨aPWR_RESET, 1, 4, .wo, 0, 0xffffffff, 0x0, 0x0⟩,
   ⟨aPWR_FEED, 1, 4, .ro, 0, 0x0, 0x0, 0x0⟩,
   ⟨aPWR_INPUT, 1, 4, .ro, 0, 0x0, 0x0, 0x0⟩,
   ⟨aPWR_FABRIC, 1, 4, .ro, 0, 0x0, 0x0, 0x0⟩,
   ⟨aPWR_PART_P2, 1, 4, .rws, 3, 0x3ff, 0x0, 0x10⟩,
   ⟨aPWR_PART_P3, 1, 4, .rws, 3, 0x3ff, 0x0, 0x100⟩,
   ⟨aPWR_PART_P4, 1, 4, .rws, 3, 0x3ff, 0x0, 0x20⟩,
   ⟨aPWR_PART_P6, 1, 4, .rws, 3, 0x3ff, 0x0, 0x40⟩,
   ⟨aPWR_PART_NOW, 5, 4, .ro, 0, 0x0, 0x0, 0x0⟩]

/-- The rows of the register map whose first register is ID_DEVICE. -/
def rows0 : List RegRow :=
  [⟨aID_DEVICE, 1, 4, .ro, 0, 0x0, 0x0, 0x5120⟩,
   ⟨aID_FABRIC_REV, 1, 4, .ro, 0, 0x0, 0x0, 0x4231⟩,
   ⟨aID_VARIANT, 1, 4, .ro, 0, 0x0, 0x0, 0x0⟩,
   ⟨aID_SERIAL, 4, 4, .ro, 0, 0x0, 0x0, 0x0⟩,
   ⟨aID_READY, 1, 4, .ro, 0, 0x0, 0x0, 0x0⟩,
   ⟨aID_READY_LOST, 1, 4, .ro, 0, 0x0, 0xffffff, 0x0⟩,
   ⟨aID_READY_SEL, 1, 4, .rw, 0, 0x1f, 0x0, 0x0⟩,
   ⟨aID_READY_US, 1, 4, .ro, 0, 0x0, 0x0, 0x0⟩,
   ⟨aID_BOOT, 1, 4, .ro, 0, 0x0, 0x0, 0x0⟩,
   ⟨aID_RESET_CAUSE, 1, 4, .ro, 0, 0x0, 0x0, 0x0⟩]

/-- What a function reports in its PCIe configuration space: its identifiers (R5, R541), No_Soft_Reset (R203), the L1 exit
latency of Link Capabilities, as its bounds in nanoseconds (R201), and TotalVFs (R541). -/
structure PcieIdentity where
  vendor : BitVec 16
  device : BitVec 16
  noSoftReset : Bool
  l1ExitNs : Nat × Nat
  totalVfs : Nat
  deriving DecidableEq, Repr

/-- The identity of a function: 0 is the physical function, any other a virtual function (R5, R201, R203, R541). -/
def pcieIdentity (fn : Nat) : PcieIdentity :=
  { vendor := Config.vendorId, device := if fn = 0 then 0x5120 else 0x5121, noSoftReset := true,
    l1ExitNs := (4000, 8000), totalVfs := 128 }

/-- The row list of each 64 KiB block of R43, by block number. -/
def rowsOfBlock (b : Nat) : List RegRow :=
  match b with
  | 0x2 => rows2
  | 0x3 => rows3
  | 0x8 => rows8
  | 0x9 => rows9
  | 0xa => rowsa
  | 0xb => rowsb
  | 0xc => rowsc
  | 0xe => rowse
  | 0xd => rowsd
  | 0x6 => rows6
  | 0x7 => rows7
  | 0xa0 => rowsa0
  | 0xa1 => rowsa1
  | 0xd0 => rowsd0
  | 0xc0 => rowsc0
  | 0x4 => rows4
  | 0x5 => rows5
  | 0x1 => rows1
  | 0x0 => rows0
  | _ => []

/-- The queue pair and the offset within its set that a BAR0 offset names (R45), for both halves of a window. -/
def queueOfOff (off : Nat) : Option (Nat × Nat) :=
  if 0x100000 ≤ off ∧ off < 0x200000 ∧ off % 0x10000 < 0x8000 then
    some ((off - 0x100000) / 0x10000 * 128 + off % 0x8000 / 0x100, off % 0x100)
  else none

/-- The BAR0 offset of register `r` of queue pair `q` (R45). -/
def qReg (q r : Nat) : Nat := 0x100000 + q / 128 * 0x10000 + q % 128 * 0x100 + r

/-- The BAR0 offset of register `r` of instance `n`'s set (R561). -/
def inReg (n r : Nat) : Nat := r + n * 0x80

/-- The BAR0 offset of register `i` of tenant `n`'s queue map (R561). -/
def qmapReg (n i : Nat) : Nat := 0xD20000 + (n - 1) / 64 * 0x10000 + (n - 1) % 64 * 0x200 + i * 4

/-- A row covers an offset. -/
def RegRow.covers (w : RegRow) (off : Nat) : Bool :=
  w.addr ≤ off && off < w.addr + w.count * w.stride && (off - w.addr) % w.stride == 0

/-- The row of the register at a BAR0 offset, if one stands there (R18). -/
def rowAt (off : Nat) : Option RegRow :=
  if 0x100000 ≤ off ∧ off < 0x200000 then
    match queueOfOff off with
    | some (_, r) => rowsQueue.find? fun w => w.addr == r
    | none => none
  else if 0xD10000 ≤ off ∧ off < 0xD14080 then
    rowsInstance.find? fun w => w.addr - 0xD10000 == (off - 0xD10000) % 0x80
  else if 0xD20000 ≤ off ∧ off < 0xD28000 ∨ 0xD30000 ≤ off ∧ off < 0xD38000 then
    if off % 4 = 0 then rowsQmap.head? else none
  else (rowsOfBlock (off / 0x10000)).find? fun w => w.covers off

/-- The reset value of the register at a BAR0 offset; 0 where none stands (R18). Instance 0's vectors and weights have
their own (R561). -/
def regReset (off : Nat) : Reg :=
  if off = aIN_VECTORS then 0x40
  else if off = aIN_WEIGHT_A then 0x10101010
  else if off = aIN_WEIGHT_B then 0x1010
  else
    match rowAt off with
    | some w => BitVec.ofNat 32 w.reset
    | none => 0

end Sys2Proof.Machine
end

