-- ==== Sys2Proof/Machine/State.lean ====
section
/-!
DEFINITION. The state of the block, as plain data: every register, queue, table and store the spec gives the module,
what leaves it (`outbox`), and the queue of waiting commands. `State.reset` is the module before any power is applied:
the command POWER_ON_RESET powers it (R67, R632).
-/

namespace Sys2Proof.Machine

/-- A sparse table: keys strictly rising, an absent key standing for the table's default. -/
abbrev Tab (α : Type) := List (Nat × α)

/-- The states of the timebase (R66). -/
inductive TbState where
  | free | holdover | locked
  deriving DecidableEq, Repr

/-- A step that waits for the next boundary guard (R66, R71). -/
inductive PendingStep where
  | source (offsetNs : Int)
  | second (sec : Nat)
  deriving DecidableEq, Repr

/-- What the PTP client keeps for one of its two ports (R61, R62). -/
structure PtpClient where
  grandmaster : Bool := false
  goodSeconds : Nat := 0
  servoNs : Int := 0
  lastAnnounce : Nat := 0
  lastSync : Nat := 0
  peerDelays : Nat := 0
  utcOffset : Nat := 0
  deriving DecidableEq, Repr

/-- The timebase (R58 to R72). `up` is the number of nanoseconds from power-up to the start of the current crossing;
`ns` the offset into it that the last command carrying a time named. After a step `stretched` is the
stamp of the next crossing and `extra` what this one grows by (R71). `ppsLast` and `irigLast` are when the last pulse and the
last frame came, in nanoseconds since power-up. -/
structure Timebase where
  state : TbState := .free
  source : Option TimeSource := none
  qualified : List TimeSource := []
  slewing : Bool := false
  offset : Int := 0
  step : Option PendingStep := none
  stepCount : Nat := 0
  holdSeconds : Nat := 0
  stamp : Stamp := ⟨0, 0⟩
  ns : Nat := 0
  up : Nat := 0
  crossings : Nat := 0
  rate : Nat := 4800
  pendingRate : Option Nat := none
  stretched : Option Stamp := none
  extra : Nat := 0
  inGuard : Bool := false
  ptpPrimary : PtpClient := {}
  ptpBackup : PtpClient := {}
  ppsCount : Nat := 0
  ppsLast : Nat := 0
  irigCount : Nat := 0
  irigBad : Nat := 0
  irigLast : Nat := 0
  irigUtc : Nat := 0
  ref10m : Bool := false
  deriving DecidableEq, Repr

/-- Staged configuration (R103 to R108): the pending groups, those of them the MP requested, the sticky bits, and the
values applied in the guard that become active at the boundary which ends it. -/
structure Staging where
  pending : BitVec 16 := 0
  byMp : BitVec 16 := 0
  refused : BitVec 16 := 0
  wrIgnored : BitVec 16 := 0
  seq : Nat := 0
  appliedStamp : Stamp := ⟨0, 0⟩
  failInfo : Nat := 0
  failAddr : Nat := 0
  taken : Tab Reg := []
  shareFault : Option (Nat × Nat) := none
  deriving DecidableEq, Repr

/-- The states of the MP (R145). -/
inductive MpState where
  | boot | run | restart | halted
  deriving DecidableEq, Repr

/-- One Tredy session of a management port (R136): its negotiated version ((0, 0) before HELLO) and the last packet's
time in nanoseconds since power-up. -/
structure Session where
  port : Nat
  id : Nat
  version : Nat × Nat := (0, 0)
  lastPacket : Nat := 0
  deriving DecidableEq, Repr

/-- The management processor and its channels (R135 to R149). -/
structure Mp where
  state : MpState := .boot
  pair0Ok : Bool := false
  pair1Ok : Bool := false
  fw : Nat × Nat × Nat := (0, 0, 0)
  util0 : Nat := 0
  util1 : Nat := 0
  drain : List Nat := []
  drainNow : Nat := 0
  hwm : Nat := 0
  restartUp : Nat := 0
  runSince : Option Nat := none
  restartStamp : Stamp := ⟨0, 0⟩
  sessions : List Session := []
  nextSession : Nat := 0
  consoleOpen : Bool := false
  consoleVersion : Nat × Nat := (0, 0)
  deriving DecidableEq, Repr

/-- A setup request of a tenant that waits for the next boundary guard (R156). -/
inductive SetupRequest where
  | enable | disable | interrupt
  deriving DecidableEq, Repr

/-- What a pair was created with (R153). -/
structure PairCreated where
  kind : Nat
  cls : Nat
  fmt : Nat
  deriving DecidableEq, Repr

/-- One signed-event copy (R195, R196): sequence number, stream, lane, stamp, and the frame's bytes. -/
structure SignedCopy where
  seq : Nat
  stream : Nat
  lane : Nat
  lost : Nat
  stamp : Stamp
  ns : Nat
  frame : Bytes
  deriving DecidableEq, Repr

/-- One queue pair (R150 to R208). Its active setup values are registers (R207); `setup` holds a tenant's setup words by
doorbell-block offset (R156), `asked` those words as the request in `requests` took them. Indices count entries or
units; the laps count ring wraps since enable (R178). `armed` says that a phase-mode SQ shows a new entry (R182), and
`enabling` that an enable passed the checks of the last guard; `lostPending` counts the events lost and not yet reported
(R194); `partialEntry` says that the entry at the SQ head runs past the doorbelled tail (R175); `adopt` holds the HELLO
completions not yet written, with the version each brings (R125); `lowHeld` holds the low words of its 64-bit registers
until their high words are written (R20). -/
structure QPair where
  owner : Nat := 0
  loc : Nat := 0
  created : Option PairCreated := none
  enabled : Bool := false
  draining : Bool := false
  idle : Bool := true
  error : Bool := false
  stall : Bool := false
  dbErr : Bool := false
  setupRefused : Bool := false
  wrIgnored : Bool := false
  setupFail : Nat := 0
  sqHead : Nat := 0
  sqTail : Nat := 0
  sqLap : Nat := 0
  cqHead : Nat := 0
  cqTail : Nat := 0
  cqLap : Nat := 0
  fetched : Nat := 0
  hold : List Bytes := []
  d3 : List Bytes := []
  copies : List SignedCopy := []
  copySeq : Nat := 0
  copyLost : Nat := 0
  eventsLost : Nat := 0
  lostPending : Nat := 0
  stallSince : Nat := 0
  mirrorSeq : Nat := 0
  modCount : Nat := 0
  modFirst : Nat := 0
  setup : Tab Reg := []
  lowHeld : Tab Reg := []
  requests : List SetupRequest := []
  asked : Tab Reg := []
  armed : Bool := false
  enabling : Bool := false
  partialEntry : Bool := false
  adopt : List (Bytes × Nat × Nat) := []
  deriving DecidableEq, Repr

/-- Where a job's packet came from (R110). -/
inductive Source where
  | queue (q : Nat)
  | session (port id : Nat)
  | console
  | mp
  | event (ev : Nat)
  deriving DecidableEq, Repr

/-- One fragment descriptor (R163). -/
structure Fragment where
  addr : Nat
  len : Nat
  out : Bool
  deriving DecidableEq, Repr

/-- Where a job stands. `fenced` and `fifo` wait for an engine, `slow` waits in the slow-command queue, `saved` holds a
context (R97), `ended` has its outcome and waits for its completion to be written. -/
inductive JobPhase where
  | fenced | fifo | slow | running | saved | ended
  deriving DecidableEq, Repr

/-- What a started MP command waits for. -/
inductive Wait where
  | no
  | guardBefore (at_ : Option Stamp) (groups : BitVec 16)
  | applied (groups : BitVec 16)
  | freeGroups (groups : BitVec 16)
  | staging
  | ack (mseq : Nat)
  | quiesce (inst : Nat) (resume : Bool)
  | scan
  | pairing
  | castle
  | segments (mask : Nat)
  | regeneration
  | reservation (node : Nat)
  | random
  | rebuild (node : Nat)
  | engine
  deriving DecidableEq, Repr

/-! ### Digest contexts (chapter 10) -/

/-- One ACTIVE digest context (R401 to R407): algorithm, output length, N and S, the key's handle, blocks absorbed since
the message started, and the chaining values or Keccak state as the blob of R407 holds them. -/
structure DigestCtx where
  alg : Nat
  outLen : Nat
  name : Bytes := []
  custom : Bytes := []
  handle : Nat := 0
  blocks : Nat := 0
  chain : Bytes := []
  deriving DecidableEq, Repr

/-- What a digest job does to its context when it completes (R402, R404). -/
inductive CtxEffect where
  | keep
  | release
  | store (c : DigestCtx)
  deriving DecidableEq, Repr

/-- How a job ends (R131, R118): its status, verdict and rounds, the result TLVs, the bytes of its output fragments, and
what takes effect only when it completes DONE: the secret that fills its DEST_SLOT (R447), the parameter set its slot is
bound to (R215), the size of the sealed copy it writes to P2 (R306, R335), and its digest context (R404). -/
structure Ending where
  status : Nat
  verdict : Nat := 0
  rounds : Nat := 0
  results : List Tlv := []
  out : Bytes := []
  secret : Option Bytes := none
  bind : Nat := 0
  sealSize : Nat := 0
  ctx : CtxEffect := .keep
  deriving DecidableEq, Repr

/-- Engine work that the module makes itself: of the MP (R142), or a subtree of a key generation or rebuild (R263): the
engine class, the engines it may use as a mask (0 for any), the job it serves, or the node whose cache it rebuilds. -/
structure MpTask where
  cls : Nat
  mask : Nat := 0
  parent : Nat
  node : Option Nat := none
  deriving DecidableEq, Repr

/-- One job, from fetch to the writing of its completion. `params` is the whole TLV area, parsed in order; `major` and
`minor` are the version negotiated when it was fetched (R125). `work` holds the key values its approval reserved, in the
order of its handles (R446), then what its operation keeps between steps; `after` is how it ends once what it waits for has happened; `imported` says of each key whether
its value was imported (R334); `form` is a status that a check on the form of
its input issues early (R343); `lackUp` is when it first found randomness lacking (R489), `waitUp` when its wait for a reservation or an acknowledgement
began (R274, R576); `cleared` says that what a
command mirrors is acknowledged, or applied here alone (R574, R576); `policy` is the event-signing policy of an event's
job (R520); `seCtl` and `deCtl` are SE_CTL and DE_CTL at fetch (R433);
`started` says that it started (R133); `interrupted` marks an MP command that was started when the MP restarted
(R147); `half` is the BNE, as an engine key, that runs the classical half of a hybrid or composite job (R245, R348);
`task` is set in engine work of the module's own (R142, R263), and `engineStatus` how the work of a command ended; `rand` is
the randomizer drawn for a stateful signature's leaf (R262). -/
structure Job where
  src : Source
  inst : Nat
  opcode : Nat
  tag : Nat
  major : Nat
  minor : Nat
  flags : Nat
  handle : Nat
  deadline : Nat
  params : List Tlv
  paramLen : Nat
  resultCap : Nat
  resultAddr : Nat
  dataLen : Nat
  frags : List Fragment
  order : Nat
  seqInQueue : Nat
  phase : JobPhase
  engine : Option (Nat × Nat) := none
  berth : Option Nat := none
  start : Stamp := ⟨0, 0⟩
  startUp : Nat := 0
  startNs : Nat := 0
  grantUp : Nat := 0
  preempts : Nat := 0
  spilled : Bool := false
  preemptAsked : Bool := false
  quantumOver : Bool := false
  spanned : Bool := false
  retried : Bool := false
  drbgOnly : Bool := false
  revoked : Bool := false
  mirrored : Bool := false
  cleared : Bool := false
  approved : List Nat := []
  discard : Bool := false
  leaf : Option Nat := none
  forkRound : Option Nat := none
  forkEngines : List Nat := []
  destSlot : Option Nat := none
  wait : Wait := .no
  ending : Option Ending := none
  after : Option Ending := none
  work : List Bytes := []
  imported : List Bool := []
  form : Option Nat := none
  lackUp : Option Nat := none
  waitUp : Option Nat := none
  policy : Option Nat := none
  seCtl : Nat := 0
  deCtl : Nat := 0
  started : Bool := false
  interrupted : Bool := false
  half : Option Nat := none
  task : Option MpTask := none
  engineStatus : Option Nat := none
  rand : Bytes := []
  deriving DecidableEq, Repr

/-- The state of the PCIe link (R201, R637). -/
inductive LinkState where
  | down | l0 | l1 | l12
  deriving DecidableEq, Repr

/-- The PCIe side of the module (R198 to R204): functions in D3hot, the words of each function's MSI-X table, the
vectors whose PBA bit is set, the vectors whose message waits for L0, the PME bits, and the generation the link trained to,
one for each x8 half when it is bifurcated (R9). -/
structure Pcie where
  link : LinkState := .down
  d3 : List Nat := []
  msix : Tab Reg := []
  pba : List (Nat × Nat) := []
  waiting : List (Nat × Nat) := []
  pmeEn : List Nat := []
  pmeStatus : List Nat := []
  vfEnable : Bool := false
  numVfs : Nat := 0
  gens : List Nat := []
  deriving DecidableEq, Repr

/-- What leaves the module, in order. -/
inductive Output where
  | resultWrite (addr : Nat) (bytes : Bytes)
  | dataWrite (frags : List Fragment) (bytes : Bytes)
  | cqWrite (q slot : Nat) (entry : Bytes)
  | cqPhaseWrite (q slot : Nat) (word : Bytes)
  | mirrorWrite (q : Nat) (line : Bytes)
  | slotWrite (q slot : Nat) (frame : Bytes)
  | msix (fn vector : Nat)
  | pme (fn : Nat)
  | l1Exit
  | reply (src : Source) (packet : Bytes)
  | serial (bytes : Bytes)
  | certificate (port : Nat) (cert : Bytes)
  | ppsPulse (stamp : Stamp) (widthUs : Nat)
  | frame (lane : Nat) (vid : Option Nat) (bytes : Bytes)
  | pfc (lane : Nat)
  | pairing (path : TwinPath) (bytes : Bytes)
  | alert (session : Nat)
  | readData (fn off : Nat) (v : Reg)
  | mgmt0 (vid : Nat) (bytes : Bytes)
  deriving DecidableEq, Repr

/-! ### Keys (chapter 11) -/

/-- The states of a slot (R445). -/
inductive SlotState where
  | free | empty | pending | loaded | stale | retired
  deriving DecidableEq, Repr

/-- One key slot (R439 to R447). `filledGen` is the generation it took when last reserved or filled from FREE (R465);
`uses` is the use counter, `none` unlimited; `pub` holds the public value a peer reference or keygen bound to it. -/
structure Slot where
  state : SlotState := .free
  gen : Nat := 0
  filledGen : Nat := 0
  inst : Nat := 0
  type : Nat := 0
  pset : Nat := 0
  val : Bytes := []
  policy : Nat := 0
  uses : Option Nat := none
  level : Nat := 0
  origin : Nat := 0
  parent : Option (Nat × Nat) := none
  node : Option Nat := none
  mirror : Bool := false
  mirrored : Bool := false
  peer : Option Nat := none
  deriving DecidableEq, Repr

/-- One persistent node of region N4 (R453): the descriptor's fields and the value of a SEALED node. -/
structure Node where
  parent : Nat := 0xFFFF
  level : Nat := 0
  kind : Nat := 0
  type : Nat := 0
  flags : Nat := 0
  policy : Nat := 0
  useLimit : Nat := 0
  pset : Nat := 0
  owner : Nat := 0
  valLen : Nat := 0
  label : Bytes := []
  context : Bytes := []
  value : Bytes := []
  deriving DecidableEq, Repr

/-- One trust record of region N5 (R456): its role and the key or certificate. -/
structure Trust where
  role : Nat
  body : Bytes
  deriving DecidableEq, Repr

/-- The state of the roots (R473, KS_STATUS.ROOTS). -/
inductive RootState where
  | pending | ready | failed | erased
  deriving DecidableEq, Repr

/-- A key that came over the gangway into an engine's key cache (R30, R34): its slot, generation and instance. -/
structure LoadedKey where
  slot : Nat
  gen : Nat
  inst : Nat
  value : Bytes
  deriving DecidableEq, Repr

/-- A request for the gangway (R35): its level (1 work in a berth, 2 stream SEs, 3 best-effort), the engine it loads by its
key, the job it is for, and the key whose value was reserved at approval (R446). -/
structure KeyTransfer where
  level : Nat
  engine : Nat
  job : Nat
  key : LoadedKey
  deriving DecidableEq, Repr

/-- What region N0 holds (R434, R435): the helper data of the PUF and the check value of the roots. -/
structure Helper where
  data : Bytes := []
  check : Bytes := []
  deriving DecidableEq, Repr

/-- The key store. `slots`, the roots, K_chk and the boot nonce are volatile; `nodes`, `trust`, `certs` and
`updCounter` lie in the NV store (N4, N5, N2), and `n0` in N0, none once it is erased. `nodesOld` and `trustOld` are the
copies of N4 and N5 that are not current, `n4Copy` and `n5Copy` the marks that say which copy is (R56, R458). `scanOf` lists the slots whose descendants a scan is making STALE. -/
structure KeyStore where
  roots : RootState := .pending
  rkId : Bytes := []
  rkSeal : Bytes := []
  kchk : Bytes := []
  bootNonce : Bytes := []
  slots : Tab Slot := []
  nodes : Tab Node := []
  badNodes : List Nat := []
  nodesOld : Tab Node := []
  n4Copy : Nat := 0
  trust : List Trust := []
  trustOld : List Trust := []
  n5Copy : Nat := 0
  n0 : Option Helper := some {}
  certs : List Bytes := []
  updCounter : Nat := 0
  lastFail : Nat := 0
  lastRecord : Nat := 0
  scanOf : List Nat := []
  pairChk : Bool := false
  gangwayBusy : Bool := false
  gangway : List KeyTransfer := []
  gangwayLast : Tab Nat := []
  partKeys : List Bytes := []
  deriving DecidableEq, Repr

/-! ### Random (chapter 12) -/

/-- The states of a noise source (R476). -/
inductive SourceState where
  | off | startup | standby | active | retired | disabled
  deriving DecidableEq, Repr

/-- One noise source: its state, the time of its last retirement and of the last automatic retest it passed (R478),
whether it is to join (R490), and whether the test it runs is an automatic retest. -/
structure NoiseSource where
  state : SourceState := .off
  retiredAt : Nat := 0
  retestPassed : Option Nat := none
  joining : Bool := false
  auto : Bool := false
  deriving DecidableEq, Repr

/-- One DRBG (R481 to R485): instantiated, generate requests left, the epoch of its staged seed and of its last seed. -/
structure Drbg where
  inst : Bool := false
  left : Nat := 0
  staged : Option Nat := none
  epoch : Nat := 0
  stopped : Bool := false
  deriving DecidableEq, Repr

/-- The masking expander of an engine (R486): bytes left of its seed, and whether that seed is old. -/
structure Expander where
  left : Nat := 0
  old : Bool := false
  deriving DecidableEq, Repr

/-- The random subsystem. `drbgs` is keyed by DRBG number, `expanders` by engine key, `words` and `err` by function. -/
structure Rng where
  sources : Tab NoiseSource := []
  epoch : Nat := 0
  drbgs : Tab Drbg := []
  expanders : Tab Expander := []
  failed : Bool := false
  ready : Bool := false
  words : Tab (List Nat) := []
  err : List Nat := []
  deriving DecidableEq, Repr

/-! ### Faults and alarms (chapter 16) -/

/-- MSTATE (R604). -/
inductive ModuleState where
  | service | fault | latched
  deriving DecidableEq, Repr

/-- One log record (R602): the 16-byte message, its stamp, the step count and the messages coalesced into it. -/
structure LogRecord where
  seq : Nat
  cls : Nat
  msg : Bytes
  stamp : Stamp
  ns : Nat
  step : Nat
  rpt : Nat := 1
  deriving DecidableEq, Repr

/-- One record of the audit log (R126): the instance and time of a HELLO, and the host it names.
Mark: DESIGN CHOICE (log entry 99). -/
structure AuditRecord where
  inst : Nat
  stamp : Stamp
  ns : Nat
  host : Bytes
  deriving DecidableEq, Repr

/-- The fault collector (R589 to R611). `audit` is the audit log of P6. `recoveries`, `exits` and `latchHeld` lie in N2, `history` in N7, `log` in P6;
`ring` is the on-chip ring; the quiet period runs from `quietFrom` (R606). The captures of the three classes hold a message each while not released; `capturedAt` is when
each came (R599). -/
structure FaultCollector where
  mstate : ModuleState := .service
  cause : Nat := 0
  byAlarm : Bool := false
  fatalHeld : List Nat := []
  quietFrom : Nat := 0
  captures : Tab Bytes := []
  capturedAt : Tab Nat := []
  more : List Nat := []
  ring : List LogRecord := []
  log : List LogRecord := []
  logSeq : Nat := 0
  lost : Nat := 0
  live : BitVec 6 := 0
  exits : List Nat := []
  recoveries : Nat := 0
  latchHeld : Bool := false
  history : List LogRecord := []
  dcmTimes : List Nat := []
  withheld : Option (Nat × Nat) := none
  audit : List AuditRecord := []
  deriving DecidableEq, Repr

/-- The alarm block (R614 to R620); `record` is its own MRAM latch (R619). -/
structure Alarms where
  live : BitVec 11 := 0
  latch : BitVec 11 := 0
  last : Stamp := ⟨0, 0⟩
  lastNs : Nat := 0
  lastAction : Nat := 0
  lastInput : Nat := 0
  perm : Bool := false
  charge : Nat := 0
  capReady : Bool := false
  record : Option LogRecord := none
  deriving DecidableEq, Repr

/-! ### Power and start-up (chapter 17) -/

/-- The state of a power domain (R645, PWR_STATE). -/
inductive DomainState where
  | off | powering | on | draining
  deriving DecidableEq, Repr

/-- Power, boot and readiness (R627 to R646). `lostBits` is ID_READY_LOST, `readyUs` the time each bit last set;
`rails` is false once holdup is over; `restoring` holds the groups whose N6 values are not yet committed (R636). -/
structure Power where
  domains : Tab DomainState := []
  feedA : Bool := false
  feedB : Bool := false
  psuA : Bool := false
  psuB : Bool := false
  rails : Bool := false
  fans : Tab Nat := []
  ready : BitVec 24 := 0
  lostBits : BitVec 24 := 0
  readyUs : Tab Nat := []
  boots : Nat := 0
  resetCause : Nat := 0
  imgA : Nat := 0
  imgB : Nat := 0
  imgAVersion : Nat := 0
  imgBVersion : Nat := 0
  preferred : Nat := 0
  floor : Nat := 0
  partsNow : List Nat := []
  ddrTrained : Bool := false
  restored : Bool := false
  restoring : BitVec 16 := 0
  variant : Nat := 0
  serial : Bytes := []
  deriving DecidableEq, Repr

/-! ### Instances (chapter 14) -/

/-- The states of an instance (R559, R561). -/
inductive InstState where
  | absent | active | quiescing | quiesced | resetting
  deriving DecidableEq, Repr

/-- One instance: its state, generation, whether the next guard raises the generation, the state it takes after a reset
and whether its becoming QUIESCED is to be told (R554), its context-wrap key and counter (R408), its P7 scratch in bytes,
and the bytes that await zeroing (R558). -/
structure Instance where
  state : InstState := .absent
  gen : Nat := 0
  bumpGen : Bool := false
  resumeAsked : Bool := false
  disableAsked : Bool := false
  after : InstState := .active
  tell : Bool := false
  waitUntil : Nat := 0
  wrapKey : Bytes := []
  wrapCount : Nat := 0
  scratch : Nat := 0
  zeroing : Nat := 0
  deriving DecidableEq, Repr

/-! ### Engines, berths and the manifest (chapters 01 and 02) -/

/-- One entry of a PE's expanded-key cache (R216): the slot, generation and instance of its key, its size and its place in
the key region in KiB, pinned by a policy (R234), and marked for zeroing when its last job ends (R218). -/
structure CacheEntry where
  slot : Nat
  gen : Nat
  expanded : Bool
  size : Nat
  base : Nat := 0
  pinned : Bool := false
  doomed : Bool := false
  inst : Nat := 0
  deriving DecidableEq, Repr

/-- What the hash lanes of an ME are set to for its job (R261). -/
inductive HashLane where
  | sha256 | sha512 | keccak
  deriving DecidableEq, Repr

/-- The sequencer of one engine (R369 to R372): the micro-address, loop counters, return stack (top first), cycles since
the last YIELD, the nanoword pointer, immediate and micro-address last issued, and whether END has been reached. -/
structure Sequencer where
  pc : Nat := 0
  lc : Tab Nat := []
  ret : List Nat := []
  cycles : Nat := 0
  nptr : Nat := 0
  imm : Nat := 0
  issued : Nat := 0
  ended : Bool := false
  deriving DecidableEq, Repr

/-- The saved context of a job (R97, R262): its engine's sequencer and lanes and its key-cache entries, and the window of
operand memory that lies in the owner's P7 scratch. -/
structure ControlRecord where
  seq : Sequencer := {}
  keys : List LoadedKey := []
  lanes : Option HashLane := none
  window : Tab Byte := []
  deriving DecidableEq, Repr

/-- One engine. `busy` is the job it runs, `saved` the jobs whose contexts it holds (oldest first) and `records` their
contexts by job, `berth` the index of the berth it is in, `leadIn` the berth it is about to enter, `faultUps` the times of
its CONTAINED faults (R596). `keys` is its key cache (R30), `cache` a PE's expanded keys. `mem` is the operand memory of a
BNE (R330) or CE and the working store of an ME (R261); an unlisted byte reads 0, as wiping leaves it. -/
structure Engine where
  busy : Option Nat := none
  saved : List Nat := []
  berth : Option Nat := none
  leadIn : Option Nat := none
  tail : Option Nat := none
  oos : Bool := false
  held : Bool := false
  faultUps : List Nat := []
  cache : List CacheEntry := []
  owner : Option Nat := none
  keys : List LoadedKey := []
  records : Tab ControlRecord := []
  lanes : Option HashLane := none
  mem : Tab Byte := []
  deriving DecidableEq, Repr

/-- One manifest entry (R83). -/
structure Berth where
  id : Nat
  kind : Nat
  flags : Nat
  owner : Nat
  cls : Nat
  mask : Nat
  start : Nat
  len : Nat
  tail : Nat
  budget : Nat
  profOp : Nat
  profSet : Nat
  deriving DecidableEq, Repr

/-- A manifest (R82): its identifier, rate, digest, entries and image. -/
structure Manifest where
  id : Nat
  rate : Nat
  digest : Bytes
  berths : List Berth
  image : Bytes
  deriving DecidableEq, Repr

/-- What the XS keeps of a berth within a crossing (R78): whether it runs, the jobs started per engine, and whether the
owner's head job was held back. -/
structure BerthRun where
  running : Bool := false
  started : Tab Nat := []
  blocked : Bool := false
  deriving DecidableEq, Repr

/-- The crossing scheduler (R76 to R107): the manifests (`atRate`: `next` waits for the second that brings its rate,
R88), the run state of the berths, the credits and round-robin
pointers of best-effort work (R91), keyed by engine class code × 256 + instance. -/
structure Scheduler where
  active : Option Manifest := none
  loaded : Option Manifest := none
  next : Option Manifest := none
  activation : Option Nat := none
  atRate : Bool := false
  runs : Tab BerthRun := []
  credits : Tab Int := []
  lastQueue : Tab Nat := []
  grantMismatch : Bool := false
  stateMismatch : Bool := false
  deriving DecidableEq, Repr
/-! ### Microcode (chapter 09) -/

/-- One opcode-table entry of a pack (R378). -/
structure OpTime where
  opcode : Nat
  param : Nat
  entry : Nat := 0
  flags : Nat := 0
  o : Nat := 0
  s : Nat := 0
  a : Nat := 0
  i : Nat := 0
  f : Nat := 0
  sb : Nat := 0
  blockBytes : Nat := 0
  blockCycles : Nat := 0
  deriving DecidableEq, Repr

/-- A microcode pack (R377, R380). The base packs of a firmware image have `base` set and identifier 0; `body` is empty
for them. -/
structure Pack where
  id : Nat := 0
  version : Nat := 0
  fmt : Nat := 2
  base : Bool := true
  cls : Nat := 0
  uw : Nat := 0
  nw : Nat := 0
  ops : List OpTime := []
  digest : Bytes := []
  body : Bytes := []
  deriving DecidableEq, Repr

/-- LOAD_STATE of a cluster (R388). -/
inductive LoadState where
  | empty | active | draining | writing | reloading | failed
  deriving DecidableEq, Repr

/-- One microcoded cluster (R374): the pack that runs, and the pack written and verified into its segment but not yet
assigned (R385, R389). -/
structure Cluster where
  load : LoadState := .empty
  pack : Option Pack := none
  written : Option Pack := none
  oos : Bool := false
  deriving DecidableEq, Repr

/-- A latched LVU fault record (R368): the words of MC_LVU_FLT0 to FLT2. -/
structure LvuFault where
  cause : Nat
  engine : Nat
  rep : Bool
  multi : Bool
  element : Nat
  uaddr : Nat
  lop : Nat
  maddr : Nat
  deriving DecidableEq, Repr

/-- The microcode store. `floors` (by pack identifier) and `assigned` (pack identifier and version, by cluster) lie in
N1, `flash` in the pack area of the boot flash (R382, R385). -/
structure Microcode where
  clusters : Tab Cluster := []
  flt : Option LvuFault := none
  floors : Tab Nat := []
  assigned : Tab (Nat × Nat) := []
  flash : List Pack := []
  deriving DecidableEq, Repr

/-! ### Stateful signatures and the code-based stores (chapters 06 and 07) -/

/-- Where the tree cache of a stateful key stands (R286, R290). -/
inductive TreeState where
  | absent | rebuilding | ready | full
  deriving DecidableEq, Repr

/-- What P4 holds of one lower level of a key (R284): the level, the total height from it down, the active tree's number and
root, the signature of that root by the level above, and the next tree's number and root once it is complete (R285). -/
structure LevelTrees where
  level : Nat
  below : Nat
  active : Nat
  root : Bytes
  rootSig : Bytes
  next : Option (Nat × Bytes) := none
  deriving DecidableEq, Repr

/-- One registered stateful key (R269 to R291), by node. `cur` and `ahead` are usable blocks, with the leaves of `cur`
that are left; `pend` is a reservation written and not yet usable, with its readback and acknowledgement. `low` counts
the HBS_LOW events posted. `top` and `lower` are what P4 holds (R284), and a rebuild runs as `parts` subtree jobs (R263). -/
structure HbsKey where
  xmss : Bool
  params : Bytes
  inst : Nat
  height : Nat
  nextEven : Nat := 0
  nextOdd : Nat := 1
  cur : Option Nat := none
  left : Nat := 0
  ahead : Option Nat := none
  pend : Option Nat := none
  readBack : Bool := false
  acked : Bool := false
  tree : TreeState := .absent
  progress : Nat := 0
  parts : Nat := 0
  top : Bytes := []
  lower : List LevelTrees := []
  waiting : Bool := false
  low : Nat := 0
  deriving DecidableEq, Repr

/-- One journal record of region N3 as its fields (R275): kind 1 to 6. -/
structure JRecord where
  seq : Nat
  node : Nat
  kind : Nat
  nextEven : Nat
  nextOdd : Nat
  deriving DecidableEq, Repr

/-- The stateful keys and the journal (N3): the 16-byte images by slot, an unlisted slot empty, and the slots written and not
yet read back, oldest first, with what they held before (R275, R276). `parity` is 0 unpaired, 1 even, 2 odd (R280). -/
structure Hbs where
  keys : Tab HbsKey := []
  journal : Tab Bytes := []
  unread : List (Nat × Bytes) := []
  w : Nat := 0
  laps : Nat := 0
  seq : Nat := 0
  crcFailed : Nat := 0
  discarded : Nat := 0
  parity : Nat := 0
  deriving DecidableEq, Repr

/-- A sealed copy in partition P2 (R30, R54, R217, R307, R336): the key's slot, generation and instance, its size, its
place in P2, its bytes as the engine sealed them, and what the MAC tree holds for it. -/
structure Sealed where
  slot : Nat
  gen : Nat
  inst : Nat
  size : Nat
  addr : Nat := 0
  blob : Bytes := []
  mac : Bytes := []
  deriving DecidableEq, Repr

/-- A peer entry of partition P3 (R309): its slot (none: a transient entry, R311, or one whose slot is not filled yet), pages
and key, and the job that allotted it. -/
structure Peer where
  inst : Nat
  slot : Option Nat
  pset : Nat
  pages : Nat
  digest : Bytes
  key : Bytes
  freed : Bool := false
  job : Option Nat := none
  deriving DecidableEq, Repr

/-- Partitions P2 and P3 as the engines use them. `quota` holds CE_P3_QUOTA by instance; `regen` the slots whose key is
being regenerated (R307, R336). -/
structure Partitions where
  sealed : List Sealed := []
  peers : Tab Peer := []
  nextPeer : Nat := 0
  quota : Tab Nat := []
  regen : List Nat := []
  deriving DecidableEq, Repr

/-! ### The twin (chapter 15) -/

/-- The states of a pair (R577), with the codes of TW_STATE.STATE. -/
inductive PairState where
  | unpaired | pairing | paired | frozen | alone | rejoining | diverged
  deriving DecidableEq, Repr

/-- One of the three paths (R562, R564, R565): whether it is up, consecutive crossings without and with a heartbeat,
whether one has arrived in this crossing, and the frame counters received and sent. -/
structure PairPath where
  up : Bool := false
  miss : Nat := 0
  good : Nat := 0
  heard : Bool := false
  rxCtr : Nat := 0
  txCtr : Nat := 0
  deriving DecidableEq, Repr

/-- A record sent or queued and not yet acknowledged (R572, R574), with the job it belongs to and the crossing of its
sending, `none` while it waits for a pairing link. -/
structure PairRecord where
  mseq : Nat
  kind : Nat
  body : Bytes
  job : Option Nat := none
  sentAt : Option Nat := none
  deriving DecidableEq, Repr

/-- A handshake in progress (R567, R577): the PAIR_ESTABLISH job if one waits, the state to fall back to, the node, role
and partner the job names, and what has been exchanged; `syncing` once the records of the session are sent, `synced` once
RESYNC has been applied here. -/
structure Handshake where
  job : Option Nat := none
  before : PairState := .unpaired
  node : Nat := 0
  role : Nat := 0
  partner : Option Bytes := none
  since : Nat := 0
  wait : Nat := 48000
  sent : Bool := false
  nonce : Bytes := []
  peerMid : Bytes := []
  peerNonce : Bytes := []
  peerRole : Nat := 0
  version : Nat := 0
  proved : Bool := false
  eph : Bytes := []
  syncing : Bool := false
  synced : Bool := false
  deriving DecidableEq, Repr

/-- A castling of the lead (R579): its job, AT_STAMP, when it began, the crossing c named, whether its record is
acknowledged, whether the lead has committed, and the crossings in which the partner still reported follow. -/
structure Castling where
  job : Option Nat
  at_ : Option Stamp
  since : Nat
  wait : Nat
  c : Option Stamp := none
  mseq : Nat := 0
  acked : Bool := false
  committed : Bool := false
  stillFollow : Nat := 0
  parity : Nat := 0
  deriving DecidableEq, Repr

/-- The pairing of the module (R562 to R588). `paths` is keyed by the path code of R565. `lastHb` is the partner's last
heartbeat. `staged` is the crossing of a swap the follow has staged and `goHeard` whether CASTLE_GO reached it.
`promote` asks for a promotion in the next guard. `recorded` is the role N6 holds, `node` the PAIRING node of the pair,
`early` holds records that arrived ahead of their turn. -/
structure Twin where
  state : PairState := .unpaired
  role : Nat := 0
  recorded : Nat := 0
  node : Nat := 0
  version : Nat := 0
  paths : Tab PairPath := []
  lastHb : Option Heartbeat := none
  sent : Nat := 0
  acked : Nat := 0
  applied : Nat := 0
  queue : List PairRecord := []
  early : List PairRecord := []
  sendKey : Bytes := []
  recvKey : Bytes := []
  pairId : Bytes := []
  partnerMid : Bytes := []
  lastCastle : Stamp := ⟨0, 0⟩
  hs : Option Handshake := none
  castle : Option Castling := none
  staged : Option Stamp := none
  goHeard : Bool := false
  promote : Bool := false
  silentSince : Nat := 0
  deriving DecidableEq, Repr

/-! ### Ports and streams (chapter 13) -/

/-- A replay window (R518): whether it has started, the highest accepted counter (h, or Q with the stNum S beside it), and
the 64-bit map. Bit b of the map stands for the counter b below an SV stream's h less one, or b below a GOOSE stream's
Q. -/
structure Window where
  started : Bool := false
  stNum : Nat := 0
  high : Nat := 0
  map : Nat := 0
  deriving DecidableEq, Repr

/-- The context of one stream (R513, R525): its configuration, its keys by handle with their identifiers, the RSA public
key of an RSA2007 VERIFY stream, its windows, the 64-entry redundancy maps by source address (R519) as the highest
number and a map below it, and its sixteen counters (R537) by index. -/
structure Stream where
  cls : Nat
  protect : Bool
  inPort : Nat
  outPort : Nat
  addr : Nat
  vid : Nat
  appid : Nat
  policy : Nat
  flagVid : Nat
  wrap : Nat
  key : Nat
  nextKey : Nat
  keyIds : Option (Nat × Nat)
  pub : Bytes
  window : Window := {}
  marks : Tab (Nat × Nat) := []
  stats : Tab Nat := []
  deriving DecidableEq, Repr

/-- What the next guard does to a stream's context (R515). `modify` carries the new context and whether its key was
promoted and its windows restarted; the windows, marks and counters are those of the old context. -/
inductive StreamChange where
  | create (x : Stream)
  | modify (x : Stream) (promote restart : Bool)
  | delete
  deriving DecidableEq, Repr

/-- One event-signing policy (R520): its keys, parameter set or COMBO, source streams, LATE action and limit, the
instance of its host copies, and the next EVENT_SEQ. -/
structure EventPolicy where
  key : Nat
  second : Nat := 0
  pset : Nat
  combo : Nat
  sources : List Nat
  lateDrop : Bool := false
  limit : Nat := 4800
  inst : Nat := 0
  seq : Nat := 0
  deriving DecidableEq, Repr

/-- What a stream frame inside the module waits for: its egress 2,000 ns after arrival (R526), the BNE work of an
RSA2007 frame (R518), or the signature of an event (R521), each with the job that does the work. -/
inductive FlightStage where
  | egress | bne (job : Nat) | event (job : Nat)
  deriving DecidableEq, Repr

/-- One stream frame inside the module: the frame, its stream with the context it started with (R515), the SE whose ingress
FIFO it holds `items` items of, the outcome (dropped, flagged, or with an authentication value), and for an event its policy with
the LATE action, limit and instance of copies as they stood, the crossing of its arrival, the first 38 bytes of its
signed-event value (R522) once signing has started, and the signature. -/
structure Flight where
  frame : Frame
  stream : Nat
  ctx : Stream
  se : Nat
  items : Nat
  stage : FlightStage
  drop : Bool := false
  byPolicy : Bool := false
  flagged : Bool := false
  auth : Bytes := []
  policy : Nat := 0
  inst : Nat := 0
  lateDrop : Bool := false
  limit : Nat := 0
  arrived : Nat := 0
  head : Bytes := []
  signature : Bytes := []
  signed : Bool := false
  deriving DecidableEq, Repr

/-- One MACsec secure association (R505, R506): its slot, key, cipher, next PN (transmit) or lowest acceptable PN with
the next expected one (receive), and whether MACSEC_PN_LOW was posted. -/
structure MacsecSa where
  slot : Nat
  key : Bytes
  xpn : Bool
  ssci : Nat
  salt : Bytes
  replay : Nat
  pn : Nat
  low : Bool := false
  deriving DecidableEq, Repr

/-- One secure channel of a port: its SCI, its SAs by association number, and the one installed last, which a transmit
channel uses. -/
structure SecureChannel where
  sci : Nat
  active : Nat := 0
  sas : Tab MacsecSa := []
  deriving DecidableEq, Repr

/-- MACsec on one port: the transmit channel and up to sixteen receive channels (R505). -/
structure Macsec where
  tx : Option SecureChannel := none
  rx : List SecureChannel := []
  deriving DecidableEq, Repr

/-- One cage: powered, and holding a module that answered, a four-lane one or not (R630, R650); `fault` after an
overcurrent, until its bit of PWR_CAGE_EN is cleared (R651). -/
structure Cage where
  powered : Bool := false
  present : Bool := false
  narrow : Bool := false
  fault : Bool := false
  deriving DecidableEq, Repr

/-- The traffic side. `up` lists the lanes whose link is up, `staged` the context changes that wait for the guard, `cache`
the unpinned contexts held, most recently used first (R524), `seqs` the redundancy sequence counters by source address
(R504). -/
structure Traffic where
  up : List Nat := []
  cages : Tab Cage := []
  streams : Tab Stream := []
  staged : List (Nat × StreamChange) := []
  policies : Tab EventPolicy := []
  flights : Tab Flight := []
  nextFlight : Nat := 0
  macsec : Tab Macsec := []
  cache : List Nat := []
  seqs : Tab Nat := []
  deriving DecidableEq, Repr

/-! ### Vector units and sequencers (chapter 09) -/

/-- An LVU instruction discarded for a fault, until its restart (R366, R367): its opcode, fields, the expander values a
VRAND holds, whether its record was latched, and the lowest-numbered element that faulted. -/
structure LvuRestart where
  lop : Nat
  op : LvuOp
  rand : List Nat
  latched : Bool
  element : Nat
  deriving DecidableEq, Repr

/-- The LVU of one PE (R355) with the PE's operand memory (R209) as pairs of address and byte; an unlisted byte reads 0,
as wiping leaves it. `v` and `p` hold the registers that are not zero. MODQ is the modulus, its Barrett constant and the
width of the Montgomery radix; `winR` and `winW` are the windows as first and last addresses; PANY is the flag of
VANY. -/
structure Lvu where
  v : Tab (BitVec 4096) := []
  p : Tab (BitVec 2048) := []
  modq : Nat := 0
  barrett : Nat := 0
  radix : Nat := 16
  winR : List (Nat × Nat) := []
  winW : List (Nat × Nat) := []
  pany : Bool := false
  mem : Tab Byte := []
  restart : Option LvuRestart := none
  deriving DecidableEq, Repr

/-- A set that the MP has not yet been able to stage (R105, R636): its groups and shadow values, the ready bit it waits for,
or the manifest it activates, and the command that ends with its guard. -/
structure MpSet where
  groups : BitVec 16 := 0
  writes : List (Nat × Nat) := []
  need : Option Nat := none
  manifest : Option Manifest := none
  job : Option (Nat × Ending) := none
  deriving DecidableEq, Repr

/-- What region N6 holds (R55, R56): the registers of the restored groups, the last activated manifest, and the
event-signing policies, each with the persistent nodes its keys were instantiated from (R638). -/
structure Store where
  regs : Tab Reg := []
  insts : List Nat := []
  manifest : Option Manifest := none
  policies : Tab (EventPolicy × Option Nat × Option Nat) := []
  deriving DecidableEq, Repr

/-- The state of the module. -/
structure State where
  tb : Timebase := {}
  cfg : Staging := {}
  mp : Mp := {}
  versions : Tab (Nat × Nat) := []
  regs : Tab Reg := []
  shadow : Tab Reg := []
  latch : Tab Reg := []
  cnts : Tab Nat := []
  pairs : Tab QPair := []
  jobs : Tab Job := []
  nextJob : Nat := 0
  pcie : Pcie := {}
  ks : KeyStore := {}
  rng : Rng := {}
  fc : FaultCollector := {}
  al : Alarms := {}
  pw : Power := {}
  insts : Tab Instance := []
  engines : Tab Engine := []
  xs : Scheduler := {}
  mc : Microcode := {}
  hbs : Hbs := {}
  parts : Partitions := {}
  digests : Tab DigestCtx := []
  tw : Twin := {}
  n6 : Store := {}
  n6Old : Store := {}
  n6Copy : Nat := 0
  mpSets : List MpSet := []
  tr : Traffic := {}
  lvus : Tab Lvu := []
  seqs : Tab Sequencer := []
  selftests : Tab Nat := []
  free : Nat := 0
  outbox : List Output := []
  pending : List Instr := []
  deriving DecidableEq, Repr

/-- Why the block stops with a fault. The spec gives every command of the block an effect, so this type has no
constructor: no meaning raises one. Mark: DESIGN CHOICE (log entry 8). -/
inductive Fault where
  deriving DecidableEq, Repr

/-- Why the model refuses a command. `notModelled` is answered by an arm of the dispatcher whose meaning is not written;
it is safe, since it proves nothing about the hardware. Mark: DESIGN CHOICE (log entry 8). -/
inductive Refusal where
  | notModelled (mnemonic : String)
  deriving DecidableEq, Repr

/-- The module before any power is applied: no domain is on, no feed is present, the MP has not booted, the timebase is
FREE and counts from 0 (R67), every register holds its reset value, no command waits. POWER_ON_RESET powers it.
Mark: DESIGN CHOICE (log entries 6, 7, 72). -/
def State.reset : State := {}

end Sys2Proof.Machine
end

