-- ==== Sys2Proof/Machine/Ops.lean ====
section
/-!
DEFINITION. The named operations over sparse tables, bytes, registers, counters, free values, time and jobs.
-/

namespace Sys2Proof.Machine

/-! ### Sparse tables -/

/-- The value stored under a key. -/
def tget {α : Type} (t : Tab α) (k : Nat) : Option α :=
  match t with
  | [] => none
  | (i, v) :: r => if i = k then some v else tget r k

/-- The value of a key, `d` where none is stored. -/
def tgetD {α : Type} (t : Tab α) (k : Nat) (d : α) : α := (tget t k).getD d

/-- Store a value, keeping the keys rising. -/
def tset {α : Type} (t : Tab α) (k : Nat) (v : α) : Tab α :=
  match t with
  | [] => [(k, v)]
  | (i, w) :: r => if k < i then (k, v) :: (i, w) :: r else if k = i then (k, v) :: r else (i, w) :: tset r k v

/-- Remove a key. -/
def tdel {α : Type} (t : Tab α) (k : Nat) : Tab α := t.filter fun e => e.1 != k

/-- Store a value, or remove the key when the value is the default `d`. -/
def tput {α : Type} [DecidableEq α] (t : Tab α) (k : Nat) (v d : α) : Tab α :=
  if v = d then tdel t k else tset t k v

/-- The keys of a table rise strictly. -/
def Tab.rising {α : Type} : Tab α → Bool
  | [] => true
  | [_] => true
  | (i, _) :: (j, w) :: r => i < j && Tab.rising ((j, w) :: r)

/-! ### Bytes -/

/-- The number that bytes hold, least significant first (R12). -/
def leNat : Bytes → Nat
  | [] => 0
  | b :: r => b.toNat + 256 * leNat r

/-- A number in `n` bytes, least significant first (R12). -/
def leBytes (v : Nat) : Nat → Bytes
  | 0 => []
  | n + 1 => BitVec.ofNat 8 v :: leBytes (v / 256) n

/-- The number that bytes hold, most significant first (R14). -/
def beNat (bs : Bytes) : Nat := leNat bs.reverse

/-- A number in `n` bytes, most significant first (R14). -/
def beBytes (v n : Nat) : Bytes := (leBytes v n).reverse

/-- `len` bytes from offset `off`. -/
def slice (bs : Bytes) (off len : Nat) : Bytes := (bs.drop off).take len

/-- The little-endian number in `len` bytes from offset `off`. -/
def leAt (bs : Bytes) (off len : Nat) : Nat := leNat (slice bs off len)

/-- `n` zero bytes. -/
def zeros (n : Nat) : Bytes := List.replicate n 0

/-- Every byte is zero. -/
def allZero (bs : Bytes) : Bool := bs.all fun b => b == 0

/-- Bytes, cut or padded with zeros to `n`. -/
def fitBytes (bs : Bytes) (n : Nat) : Bytes := (bs ++ zeros n).take n

/-- ASCII text as bytes, padded with zeros to `n` (R148). -/
def asciiBytes (t : String) (n : Nat) : Bytes := fitBytes (t.toList.map fun c => BitVec.ofNat 8 c.toNat) n

/-- Bit `i` of a number. -/
def bitAt (v i : Nat) : Bool := v / 2 ^ i % 2 == 1

/-- Bits [h:l] of a number. -/
def bitsAt (v h l : Nat) : Nat := v / 2 ^ l % 2 ^ (h + 1 - l)

/-- A number with bits [h:l] replaced. -/
def setBits (v h l x : Nat) : Nat :=
  v / 2 ^ (h + 1) * 2 ^ (h + 1) + x % 2 ^ (h + 1 - l) * 2 ^ l + v % 2 ^ l

/-- A Boolean as a number. -/
def b2n (b : Bool) : Nat := if b then 1 else 0

/-- Division rounded up; 0 by 0. -/
def ceilDiv (a b : Nat) : Nat := if b = 0 then 0 else (a + b - 1) / b

/-! ### Registers and counters -/

/-- The active value of the register at a BAR0 offset. -/
def State.reg (s : State) (off : Nat) : Nat := (tgetD s.regs off (regReset off)).toNat

/-- A field of an active register. -/
def State.fld (s : State) (off h l : Nat) : Nat := bitsAt (s.reg off) h l

/-- Store an active register value. -/
def State.setReg (s : State) (off v : Nat) : State :=
  { s with regs := tput s.regs off (BitVec.ofNat 32 v) (regReset off) }

/-- Store a field of an active register. -/
def State.setFld (s : State) (off h l x : Nat) : State := s.setReg off (setBits (s.reg off) h l x)

/-- The shadow of an RWS register (R16): the active value until the shadow is written. -/
def State.shadowReg (s : State) (off : Nat) : Nat :=
  match tget s.shadow off with
  | some v => v.toNat
  | none => s.reg off

/-- A field of a shadow register. -/
def State.shadowFld (s : State) (off h l : Nat) : Nat := bitsAt (s.shadowReg off) h l

/-- Store a shadow register. -/
def State.setShadow (s : State) (off v : Nat) : State := { s with shadow := tset s.shadow off (BitVec.ofNat 32 v) }

/-- Write region N6 (R56): the copy that is not current is completed, and then marked current; the other keeps the earlier
contents. Mark: DESIGN CHOICE (log entry 102). -/
def State.writeN6 (s : State) (x : Store) : State := { s with n6 := x, n6Old := s.n6, n6Copy := 1 - s.n6Copy }

/-- The key of counter `off` for selector value `idx`. -/
def cntKey (off idx : Nat) : Nat := off * 65536 + idx

/-- A counter register's value for a selected index. -/
def State.cnt (s : State) (off idx : Nat) : Nat := tgetD s.cnts (cntKey off idx) 0

/-- Set a counter. -/
def State.setCnt (s : State) (off idx v : Nat) : State :=
  { s with cnts := tput s.cnts (cntKey off idx) (v % 2 ^ 32) 0 }

/-- Add to a counter, wrapping at 2^32. -/
def State.bumpBy (s : State) (off idx n : Nat) : State := s.setCnt off idx (s.cnt off idx + n)

/-- Count one. -/
def State.bump (s : State) (off idx : Nat) : State := s.bumpBy off idx 1

/-! ### Free values -/

/-- Draw `n` free bytes. Mark: DESIGN CHOICE (log entry 1). -/
def State.drawBytes (s : State) (n : Nat) : Bytes × State :=
  ((List.range n).map fun i => Config.freeByte (s.free + i), { s with free := s.free + n })

/-- Draw one free number below `m`. Mark: DESIGN CHOICE (log entries 1, 10). -/
def State.drawNat (s : State) (m : Nat) : Nat × State :=
  (Config.freeNat s.free % m, { s with free := s.free + 1 })

/-! ### Time (R25 to R27) -/

/-- Where crossing `n` of a second begins, in nanoseconds (R27). -/
def crossStart (rate n : Nat) : Nat := n * 10 ^ 9 / rate

/-- The length of crossing `n` (R27). -/
def crossLen (rate n : Nat) : Nat := crossStart rate (n + 1) - crossStart rate n

/-- The crossing after a stamp. -/
def stampSucc (rate : Nat) (t : Stamp) : Stamp :=
  if t.idx + 1 < rate then ⟨t.sec, t.idx + 1⟩ else ⟨t.sec + 1, 0⟩

/-! ### Engines and the gangway (R30, R34 to R36) -/

/-- An engine's state. -/
def State.eng (s : State) (k : Nat) : Engine := tgetD s.engines k {}

/-- Store an engine. -/
def State.setEng (s : State) (k : Nat) (e : Engine) : State := { s with engines := tput s.engines k e {} }

/-- Change an engine. -/
def State.onEng (s : State) (k : Nat) (f : Engine → Engine) : State := s.setEng k (f (s.eng k))

/-- Change every engine that stands in the table. -/
def State.onEngines (s : State) (f : Engine → Engine) : State :=
  { s with engines := (s.engines.map fun e => (e.1, f e.2)).filter fun e => e.2 != {} }

/-- Bytes as table entries from address `a`: a byte 0 needs none. -/
def byteEntries (a : Nat) (bs : Bytes) : Tab Byte :=
  (((List.range bs.length).map (a + ·)).zip bs).filter fun e => e.2 != 0

/-- Replace the memory from `lo` to `hi` by bytes, with zeros behind them. -/
def setArea (m : Tab Byte) (lo hi : Nat) (bs : Bytes) : Tab Byte :=
  m.filter (fun e => e.1 < lo) ++ byteEntries lo (bs.take (hi + 1 - lo)) ++ m.filter fun e => hi < e.1

/-- The next transfer of the gangway (R35): of the lowest level asked for, the engine after the one served last there,
and its oldest request. -/
def KeyStore.nextTransfer (ks : KeyStore) : Option KeyTransfer :=
  (ks.gangway.map (·.level)).min?.bind fun l =>
    let mine := ks.gangway.filter fun t => t.level == l
    let engines := mine.map (·.engine)
    ((engines.filter (· > tgetD ks.gangwayLast l 0)).min?.or engines.min?).bind fun e => mine.find? fun t => t.engine == e

/-- The first and last address of each area of a BNE's operand memory (R330): input, key, intermediate, output. -/
def bneInput : Nat × Nat := (0x0000, 0x3FFF)
/-- The key area. -/
def bneKey : Nat × Nat := (0x4000, 0x5FFF)
/-- The intermediate area. -/
def bneIntermediate : Nat × Nat := (0x6000, 0xDFFF)
/-- The output area. -/
def bneOutput : Nat × Nat := (0xE000, 0xFFFF)

/-- A key enters an engine's key cache; in a BNE also the key area of its operand memory (R330). -/
def Engine.takeKey (bne : Bool) (key : LoadedKey) (e : Engine) : Engine :=
  let keys := (e.keys.filter fun x => x != key) ++ [key]
  { e with keys := keys,
           mem := if bne then setArea e.mem bneKey.1 bneKey.2 (keys.flatMap (·.value)) else e.mem }

/-- One cycle of the gangway: one key reaches one engine's key cache (R34). -/
def State.gangStep (s : State) : State :=
  match s.ks.nextTransfer with
  | none => s
  | some t =>
    let rest := s.ks.gangway.erase t
    let s := { s with ks := { s.ks with
      gangway := rest, gangwayBusy := rest != [], gangwayLast := tset s.ks.gangwayLast t.level t.engine } }
    s.onEng t.engine (·.takeKey (t.engine / 64 == 4) t.key)

/-- `n` cycles of 1 ns (R34): what is asked for arrives, one key a cycle. Mark: DESIGN CHOICE (log entry 93). -/
def State.gangServe (n : Nat) (s : State) : State :=
  (List.range (min n s.ks.gangway.length)).foldl (fun s _ => s.gangStep) s

/-- Ask the gangway for keys (R35). -/
def State.askKeys (s : State) (level engine job : Nat) (keys : List LoadedKey) : State :=
  if keys = [] then s
  else { s with ks := { s.ks with
    gangwayBusy := true, gangway := s.ks.gangway ++ keys.map fun k => ⟨level, engine, job, k⟩ } }

/-- Nanoseconds since power-up. -/
def State.now (s : State) : Nat := s.tb.up + s.tb.ns

/-- The latest instant of the current crossing, in nanoseconds since power-up: what a criterion of time is tested at, since
the command that reports it may come anywhere in the crossing. Mark: DESIGN CHOICE (log entry 9). -/
def State.latest (s : State) : Nat := s.tb.up + crossLen s.tb.rate s.tb.stamp.idx + s.tb.extra

/-- `ns` nanoseconds have passed since instant `t` before the crossing ends. Mark: DESIGN CHOICE (log entry 9). -/
def State.passed (s : State) (t ns : Nat) : Bool := t + ns ≤ s.latest

/-- The length of `n` crossings at the rate in force, in nanoseconds. -/
def State.crossingsNs (s : State) (n : Nat) : Nat := n * 10 ^ 9 / s.tb.rate

/-- The nanosecond offset a command carries, never backwards within a crossing (R26), which a step makes longer (R71). -/
def Timebase.later (t : Timebase) (ns : Nat) : Nat := max t.ns (min ns (crossLen t.rate t.stamp.idx + t.extra - 1))

/-- Time goes on to the offset a command carries; the gangway serves a request in each nanosecond that passes.
Mark: DESIGN CHOICE (log entries 9, 17). -/
def State.at_ (s : State) (ns : Nat) : State :=
  State.gangServe (s.tb.later ns - s.tb.ns) { s with tb := { s.tb with ns := s.tb.later ns } }

/-- The crossing stamp now, as a number (R25). -/
def State.stampNow (s : State) : Nat := s.tb.stamp.bits

/-! ### Jobs -/

/-- The job a number names. -/
def State.job (s : State) (j : Nat) : Option Job := tget s.jobs j

/-- Store a job. -/
def State.setJob (s : State) (j : Nat) (b : Job) : State := { s with jobs := tset s.jobs j b }

/-- Remove a job. -/
def State.dropJob (s : State) (j : Nat) : State := { s with jobs := tdel s.jobs j }

/-- Change a job in place. -/
def State.onJob (s : State) (j : Nat) (f : Job → Job) : State :=
  match s.job j with
  | some b => s.setJob j (f b)
  | none => s

/-- Change every job. -/
def State.onJobs (s : State) (f : Job → Job) : State := { s with jobs := s.jobs.map fun e => (e.1, f e.2) }

/-- The numbers of the jobs that satisfy a test. -/
def State.jobsWhere (s : State) (p : Job → Bool) : List Nat := (s.jobs.filter fun e => p e.2).map (·.1)

/-- End a job: its outcome is fixed, and its completion waits for `JOB_COMPLETE`. -/
def State.endJob (s : State) (j : Nat) (e : Ending) : State :=
  s.onJob j fun b => { b with ending := some e, phase := .ended, wait := .no }

/-- End a job with a status and nothing else. -/
def State.failJob (s : State) (j status : Nat) : State := s.endJob j { status := status }

/-- The queue pair of a number. -/
def State.pair (s : State) (q : Nat) : QPair := tgetD s.pairs q {}

/-- Store a queue pair. -/
def State.setPair (s : State) (q : Nat) (p : QPair) : State := { s with pairs := tput s.pairs q p {} }

/-- Change a queue pair. -/
def State.onPair (s : State) (q : Nat) (f : QPair → QPair) : State := s.setPair q (f (s.pair q))

/-- Send something out of the module. Mark: DESIGN CHOICE (log entry 27). -/
def State.emit (s : State) (o : Output) : State := { s with outbox := s.outbox ++ [o] }

end Sys2Proof.Machine
end

