-- ==== Sys2Proof/Machine/Aes.lean ====
section
/-!
DEFINITION. AES of FIPS 197 and the modes the module names (R411): GCM and GMAC (SP 800-38D), CTR and CBC (SP 800-38A),
XTS with ciphertext stealing (IEEE 1619), CMAC (SP 800-38B), and the key wrap of SP 800-38F.
-/

namespace Sys2Proof.Machine

/-! ### The block cipher -/

/-- Multiplication by x in GF(2^8). -/
def xtime (a : Byte) : Byte := (a <<< 1) ^^^ (if a.getLsbD 7 then 0x1B else 0)

/-- Multiplication in GF(2^8). -/
def gmul (a b : Byte) : Byte :=
  ((List.range 8).foldl (fun (p : Byte × Byte) i =>
    (if b.getLsbD i then p.1 ^^^ p.2 else p.1, xtime p.2)) (0, a)).1

/-- The inverse in GF(2^8), with 0 for 0: the 254th power. -/
def ginv (a : Byte) : Byte :=
  let a2 := gmul a a
  let a4 := gmul a2 a2
  let a8 := gmul a4 a4
  let a16 := gmul a8 a8
  let a32 := gmul a16 a16
  let a64 := gmul a32 a32
  let a128 := gmul a64 a64
  gmul a128 (gmul a64 (gmul a32 (gmul a16 (gmul a8 (gmul a4 a2)))))

/-- The S-box. -/
def sbox (a : Byte) : Byte :=
  let b := ginv a
  b ^^^ b.rotateLeft 1 ^^^ b.rotateLeft 2 ^^^ b.rotateLeft 3 ^^^ b.rotateLeft 4 ^^^ 0x63

/-- The inverse S-box. -/
def invSbox (a : Byte) : Byte :=
  ginv (a.rotateLeft 1 ^^^ a.rotateLeft 3 ^^^ a.rotateLeft 6 ^^^ 0x05)

/-- The exclusive or of two byte strings, as long as the shorter. -/
def xorBytes (a b : Bytes) : Bytes := List.zipWith (· ^^^ ·) a b

/-- Pick the bytes of a block by index. -/
def permute16 (f : Nat → Nat) (b : Bytes) : Bytes := (List.range 16).map fun i => b.getD (f i) 0

/-- One column times a circulant row of coefficients. -/
def mixColumn (m : List Byte) (c : Bytes) : Bytes :=
  (List.range 4).map fun i => (List.range 4).foldl (fun s k => s ^^^ gmul (m.getD ((k + 4 - i) % 4) 0) (c.getD k 0)) 0

/-- All four columns. -/
def mixColumns (m : List Byte) (b : Bytes) : Bytes :=
  ((List.range 4).map fun i => mixColumn m (slice b (4 * i) 4)).flatten

/-- The next word of the key schedule, from the words so far, newest first. -/
def nextKeyWord (nk i : Nat) (rcon : Byte) (ws : List Bytes) : Bytes :=
  let t := ws.headD []
  let t' :=
    if i % nk = 0 then xorBytes ((t.drop 1 ++ t.take 1).map sbox) [rcon, 0, 0, 0]
    else if nk > 6 ∧ i % nk = 4 then t.map sbox
    else t
  xorBytes (ws.getD (nk - 1) []) t'

/-- Extend the key schedule by `fuel` words. -/
def extendKey (nk : Nat) : (fuel i : Nat) → (rcon : Byte) → List Bytes → List Bytes
  | 0, _, _, ws => ws
  | f + 1, i, rcon, ws =>
    extendKey nk f (i + 1) (if i % nk = 0 then xtime rcon else rcon) (nextKeyWord nk i rcon ws :: ws)

/-- The round keys of a 16- or 32-byte key. -/
def roundKeys (key : Bytes) : List Bytes :=
  let nk := key.length / 4
  let ws := (extendKey nk (4 * (nk + 7) - nk) nk 1 ((List.range nk).map fun i => slice key (4 * i) 4).reverse).reverse
  (List.range (nk + 7)).map fun r => (slice ws.flatten (16 * r) 16)

/-- Encrypt one 16-byte block. Mark: PRESUMED (log entry 87). -/
def aesEncrypt (key block : Bytes) : Bytes :=
  match roundKeys key with
  | [] => block
  | k0 :: ks =>
    let mid := ks.dropLast.foldl (fun b k =>
      xorBytes (mixColumns [2, 3, 1, 1] (permute16 (fun i => 5 * i % 16) (b.map sbox))) k) (xorBytes block k0)
    xorBytes (permute16 (fun i => 5 * i % 16) (mid.map sbox)) (ks.getLastD [])

/-- Decrypt one 16-byte block. -/
def aesDecrypt (key block : Bytes) : Bytes :=
  match (roundKeys key).reverse with
  | [] => block
  | k0 :: ks =>
    let unshift := fun (b : Bytes) => (permute16 (fun i => 13 * i % 16) b).map invSbox
    let mid := ks.dropLast.foldl (fun b k => mixColumns [14, 11, 13, 9] (xorBytes (unshift b) k)) (xorBytes block k0)
    xorBytes (unshift mid) (ks.getLastD [])

/-! ### Modes -/

/-- Cut bytes into blocks of 16; the last may be shorter. -/
def blocks16 : (fuel : Nat) → Bytes → List Bytes
  | 0, _ => []
  | f + 1, b => if b.isEmpty then [] else b.take 16 :: blocks16 f (b.drop 16)

/-- The blocks of a message. -/
def blocksOf16 (m : Bytes) : List Bytes := blocks16 (m.length / 16 + 1) m

/-- The counter block after `c`: its low `bits` bits count (R417). -/
def ctrAdd (bits n : Nat) (c : Bytes) : Bytes :=
  let v := beNat c
  beBytes (v / 2 ^ bits * 2 ^ bits + (v + n) % 2 ^ bits) 16

/-- CTR encryption from an initial counter block (R417). -/
def aesCtrMode (key : Bytes) (bits : Nat) (iv m : Bytes) : Bytes :=
  ((blocksOf16 m).zipIdx.map fun e => xorBytes e.1 (aesEncrypt key (ctrAdd bits e.2 iv))).flatten

/-- CBC encryption: the ciphertext blocks, chained. -/
def aesCbcEncMode (key : Bytes) : Bytes → List Bytes → Bytes
  | _, [] => []
  | iv, b :: r =>
    let c := aesEncrypt key (xorBytes b iv)
    c ++ aesCbcEncMode key c r

/-- CBC decryption. -/
def aesCbcDecMode (key : Bytes) : Bytes → List Bytes → Bytes
  | _, [] => []
  | iv, c :: r => xorBytes (aesDecrypt key c) iv ++ aesCbcDecMode key c r

/-- Multiplication in the field of GHASH, bits of the first operand from the most significant. -/
def ghashMul (x h : BitVec 128) : BitVec 128 :=
  ((List.range 128).foldl (fun (p : BitVec 128 × BitVec 128) i =>
    (if x.getMsbD i then p.1 ^^^ p.2 else p.1,
     (p.2 >>> 1) ^^^ (if p.2.getLsbD 0 then 0xE1000000000000000000000000000000 else 0))) (0, h)).1

/-- GHASH over whole blocks. -/
def ghash (h : BitVec 128) (bs : List Bytes) : BitVec 128 :=
  bs.foldl (fun y b => ghashMul (y ^^^ BitVec.ofNat 128 (beNat (fitBytes b 16))) h) 0

/-- The 16-byte GCM tag of additional data and ciphertext under a 96-bit IV. Mark: PRESUMED (log entry 87). -/
def gcmTag (key iv aad c : Bytes) : Bytes :=
  let h := BitVec.ofNat 128 (beNat (aesEncrypt key (zeros 16)))
  let s := ghash h (blocksOf16 aad ++ blocksOf16 c ++ [beBytes (8 * aad.length) 8 ++ beBytes (8 * c.length) 8])
  xorBytes (beBytes s.toNat 16) (aesEncrypt key (iv ++ [0, 0, 0, 1]))

/-- GCM encryption: ciphertext and 16-byte tag. -/
def gcmEnc (key iv aad p : Bytes) : Bytes × Bytes :=
  let c := aesCtrMode key 32 (iv ++ [0, 0, 0, 2]) p
  (c, gcmTag key iv aad c)

/-- GCM decryption without its tag check. -/
def gcmDec (key iv c : Bytes) : Bytes := aesCtrMode key 32 (iv ++ [0, 0, 0, 2]) c

/-- Doubling in the field of CMAC. -/
def cmacDouble (b : Bytes) : Bytes :=
  let v := BitVec.ofNat 128 (beNat b)
  beBytes ((v <<< 1) ^^^ (if v.getMsbD 0 then 0x87 else 0)).toNat 16

/-- CMAC. -/
def aesCmacMode (key m : Bytes) : Bytes :=
  let k1 := cmacDouble (aesEncrypt key (zeros 16))
  let bs := blocksOf16 m
  let last := bs.getLastD []
  let tail := if last.length = 16 then xorBytes last k1 else xorBytes (fitBytes (last ++ [0x80]) 16) (cmacDouble k1)
  (bs.dropLast ++ [tail]).foldl (fun y b => aesEncrypt key (xorBytes y b)) (zeros 16)

/-- The next XTS tweak: multiplication by α, little-endian. -/
def xtsDouble (t : Bytes) : Bytes :=
  let v := leNat t
  leBytes (if v ≥ 2 ^ 127 then Nat.xor (v * 2 % 2 ^ 128) 0x87 else v * 2) 16

/-- One XTS block. -/
def xtsBlock (enc : Bool) (k1 t b : Bytes) : Bytes :=
  xorBytes t ((if enc then aesEncrypt else aesDecrypt) k1 (xorBytes b t))

/-- The blocks of one XTS data unit, with ciphertext stealing for a last partial block (IEEE 1619). -/
def xtsBlocks (enc : Bool) (k1 : Bytes) : Bytes → List Bytes → Bytes
  | _, [] => []
  | t, [b] => xtsBlock enc k1 t b
  | t, [a, b] =>
    if b.length = 16 then xtsBlock enc k1 t a ++ xtsBlock enc k1 (xtsDouble t) b
    else if enc then
      let c := xtsBlock true k1 t a
      xtsBlock true k1 (xtsDouble t) (b ++ c.drop b.length) ++ c.take b.length
    else
      let p := xtsBlock false k1 (xtsDouble t) a
      xtsBlock false k1 t (b ++ p.drop b.length) ++ p.take b.length
  | t, a :: r => xtsBlock enc k1 t a ++ xtsBlocks enc k1 (xtsDouble t) r

/-- XTS over data units of `du` bytes, the first under tweak number `n` (R418). -/
def aesXtsMode (enc : Bool) (key : Bytes) (du n : Nat) : (fuel : Nat) → Bytes → Bytes
  | 0, _ => []
  | f + 1, m =>
    if m.isEmpty then []
    else
      let half := key.length / 2
      let t := aesEncrypt (key.drop half) (leBytes (n % 2 ^ 128) 16)
      xtsBlocks enc (key.take half) t (blocksOf16 (m.take du)) ++ aesXtsMode enc key du (n + 1) f (m.drop du)

/-- One step of the unwrapping of SP 800-38F: the register A and the semiblocks. -/
def unwrapStep (key : Bytes) (n t : Nat) (a : Bytes) (r : List Bytes) : Bytes × List Bytes :=
  let i := (t - 1) % n
  let b := aesDecrypt key (xorBytes a (beBytes t 8) ++ r.getD i [])
  (b.take 8, r.set i (b.drop 8))

/-- The steps of unwrapping, from t down to 1. -/
def unwrapSteps (key : Bytes) (n : Nat) : (t : Nat) → Bytes → List Bytes → Bytes × List Bytes
  | 0, a, r => (a, r)
  | t + 1, a, r =>
    let z := unwrapStep key n (t + 1) a r
    unwrapSteps key n t z.1 z.2

/-- AES key unwrapping: the key value, or `none` when the integrity check fails. -/
def aesUnwrap (key c : Bytes) : Option Bytes :=
  let n := c.length / 8 - 1
  let r := (List.range n).map fun i => slice c (8 * (i + 1)) 8
  let z := unwrapSteps key n (6 * n) (c.take 8) r
  if z.1 = List.replicate 8 0xA6 then some z.2.flatten else none

end Sys2Proof.Machine
end

