-- ==== Sys2Proof/Machine/Operands.lean ====
section
/-!
DEFINITION. The operand forms of the spec: the Tredy header (R109), TLVs (R115, R116), the two queue-entry formats and
their fragment lists (R159 to R167).
-/

namespace Sys2Proof.Machine

/-! ### Status codes (R131) -/

abbrev stDONE : Nat := 0x0000
abbrev stABORTED : Nat := 0x0010
abbrev stMALFORMED : Nat := 0x0020
abbrev stLENGTH_MISMATCH : Nat := 0x0021
abbrev stFRAGMENT_FAULT : Nat := 0x0022
abbrev stLIMIT_EXCEEDED : Nat := 0x0023
abbrev stNOT_READY : Nat := 0x0030
abbrev stMP_BUSY : Nat := 0x0031
abbrev stRNG_UNAVAILABLE : Nat := 0x0032
abbrev stKEY_ABSENT : Nat := 0x0040
abbrev stKEY_STALE : Nat := 0x0041
abbrev stKEY_USE_EXHAUSTED : Nat := 0x0042
abbrev stKEY_POLICY : Nat := 0x0043
abbrev stINPUT_RANGE : Nat := 0x0050
abbrev stPOINT_INVALID : Nat := 0x0051
abbrev stINPUT_ENCODING : Nat := 0x0052
abbrev stVERIFY_FAIL : Nat := 0x0060
abbrev stSIGN_RETRY_EXHAUSTED : Nat := 0x0061
abbrev stHBS_EXHAUSTED : Nat := 0x0062
abbrev stCONFIG_INCONSISTENT : Nat := 0x0070
abbrev stVERSION_UNSUPPORTED : Nat := 0x0071
abbrev stPERMISSION : Nat := 0x0072
abbrev stOPCODE_UNKNOWN : Nat := 0x0073
abbrev stINSTANCE_BUSY : Nat := 0x0074
abbrev stDEADLINE_MISSED : Nat := 0x0080
abbrev stFAULT_CONTAINED : Nat := 0x0090
abbrev stALARM_ERASED : Nat := 0x0091
abbrev stUPDATE_REJECTED : Nat := 0x00A0

/-! ### The command header (R109) -/

/-- The fields of a Tredy header; `ctl` is ENTRY_CTL in a queue entry and INSTANCE elsewhere. -/
structure Header where
  major : Nat
  minor : Nat
  opcode : Nat
  tag : Nat
  ctl : Nat
  flags : Nat
  paramLen : Nat
  handle : Nat
  deadline : Nat
  deriving DecidableEq, Repr

/-- Read a header from its 32 bytes (R109). -/
def parseHeader (b : Bytes) : Header :=
  { major := leAt b 0 1, minor := leAt b 1 1, opcode := leAt b 2 2, tag := leAt b 4 4, ctl := leAt b 8 2,
    flags := leAt b 10 2, paramLen := leAt b 12 4, handle := leAt b 16 8, deadline := leAt b 24 8 }

/-! ### TLVs (R115 to R117) -/

/-- Round up to a multiple of `m`. -/
def roundUp (n m : Nat) : Nat := ceilDiv n m * m

/-- A TLV as bytes: header, value, padding (R115). -/
def tlvBytes (t : Tlv) : Bytes :=
  leBytes t.type 2 ++ zeros 2 ++ leBytes t.val.length 4 ++ t.val ++ zeros (roundUp t.val.length 8 - t.val.length)

/-- Result TLVs as bytes (R117). -/
def tlvsBytes (ts : List Tlv) : Bytes := (ts.map tlvBytes).flatten

/-- The bytes a TLV takes in its area. -/
def tlvSize (t : Tlv) : Nat := 8 + roundUp t.val.length 8

/-- What an opcode allows of one TLV type: mandatory, repeatable, and its fixed length if it has one (R116). -/
structure TlvSpec where
  type : Nat
  must : Bool := false
  rep : Bool := false
  len : Option Nat := none
  deriving DecidableEq, Repr

/-- A TLV failure: the status, the offending type, its offset and the DETAIL reason (R115). -/
structure TlvFail where
  type : Nat
  off : Nat
  reason : Nat
  deriving DecidableEq, Repr

/-- The value of a DETAIL TLV (R115). -/
def detailTlv (f : TlvFail) : Tlv := ⟨2, leBytes f.type 2 ++ leBytes f.off 4 ++ leBytes f.reason 1⟩

/-- Check and read the TLV area (R116), from offset `off`, with the types seen so far. The first offending TLV in the
area decides; a missing mandatory type is found last. Mark: DESIGN CHOICE (log entry 108). -/
def parseTlvs (specs : List TlvSpec) (paramLen : Nat) : (fuel off : Nat) → Bytes → List Tlv → Except TlvFail (List Tlv)
  | 0, _, _, acc => .ok acc.reverse
  | fuel + 1, off, bs, acc =>
    if bs.isEmpty then
      match specs.find? fun p => p.must && !(acc.any fun t => t.type == p.type) with
      | some p => .error ⟨p.type, paramLen, 3⟩
      | none => .ok acc.reverse
    else
      let ty := leAt bs 0 2
      let n := leAt bs 4 4
      if bs.length < 8 ∨ bs.length < 8 + roundUp n 8 then .error ⟨ty, off, 4⟩
      else
        let v := slice bs 8 n
        if !(allZero (slice bs 2 2) && allZero (slice bs (8 + n) (roundUp n 8 - n))) then .error ⟨ty, off, 6⟩
        else
          let more := parseTlvs specs paramLen fuel (off + 8 + roundUp n 8) (bs.drop (8 + roundUp n 8)) (⟨ty, v⟩ :: acc)
          if ty = 1 then more
          else
            match specs.find? fun p => p.type == ty with
            | none => if bitAt ty 15 then more else .error ⟨ty, off, 1⟩
            | some p =>
              if !p.rep && (acc.any fun t => t.type == ty) then .error ⟨ty, off, 2⟩
              else match p.len with
                | some k => if n = k then more else .error ⟨ty, off, 4⟩
                | none => more

/-- The value of the first TLV of a type. -/
def tlvGet (ts : List Tlv) (ty : Nat) : Option Bytes := (ts.find? fun t => t.type == ty).map (·.val)

/-- The values of every TLV of a type, in order. -/
def tlvAll (ts : List Tlv) (ty : Nat) : List Bytes := (ts.filter fun t => t.type == ty).map (·.val)

/-- The number in the first TLV of a type, `d` without one. -/
def tlvNat (ts : List Tlv) (ty d : Nat) : Nat := ((tlvGet ts ty).map leNat).getD d

/-- Whether a TLV of a type is present. -/
def tlvHas (ts : List Tlv) (ty : Nat) : Bool := (tlvGet ts ty).isSome

/-- The offset of the first TLV of a type within the parameter area. -/
def tlvOffset : List Tlv → Nat → Nat
  | [], _ => 0
  | t :: r, ty => if t.type = ty then 0 else tlvSize t + tlvOffset r ty

/-! ### Fragment lists (R163, R164) -/

/-- How a scan of descriptors ended. -/
inductive ScanEnd where
  | last | table (addr len : Nat) | bad | open_
  deriving DecidableEq, Repr

/-- Read 16-byte descriptors up to the first with LAST or TABLE (R161, R163): the fragments, how the list ended, and the
bytes left. A reserved flag, a nonzero reserved byte, a zero length, or TABLE where `inline` is false ends it as bad
(E5 of R167). A descriptor with TABLE is a table whatever OUT and LAST say. Mark: DESIGN CHOICE (log entry 109). -/
def scanFrags (inline : Bool) : (fuel : Nat) → Bytes → List Fragment → List Fragment × ScanEnd × Bytes
  | 0, bs, acc => (acc.reverse, .open_, bs)
  | fuel + 1, bs, acc =>
    if bs.length < 16 then (acc.reverse, .open_, bs)
    else
      let addr := leAt bs 0 8
      let len := leAt bs 8 4
      let fl := leAt bs 12 2
      let rest := bs.drop 16
      if fl ≥ 8 ∨ leAt bs 14 2 ≠ 0 then (acc.reverse, .bad, rest)
      else if bitAt fl 2 then (acc.reverse, if inline then .table addr len else .bad, rest)
      else if len = 0 then (acc.reverse, .bad, rest)
      else
        let acc' := (⟨addr, len, bitAt fl 0⟩ : Fragment) :: acc
        if bitAt fl 1 then (acc'.reverse, .last, rest) else scanFrags inline fuel rest acc'

/-- The length of a job's input byte stream (R164). -/
def inputLen (fs : List Fragment) : Nat := (fs.map fun f => if f.out then 0 else f.len).sum

/-- The length of a job's output stream (R164). -/
def outputLen (fs : List Fragment) : Nat := (fs.map fun f => if f.out then f.len else 0).sum

/-! ### Queue entries (R159 to R167) -/

/-- A queue entry that passed the entry checks. -/
structure Entry where
  header : Header
  units : Nat
  params : Bytes
  resultAddr : Nat
  resultCap : Nat
  dataLen : Nat
  frags : List Fragment
  deriving DecidableEq, Repr

/-- The number of ring units an entry takes: one for FMT1, UNITS_M1 + 1 for FMT2 (R159). -/
def entryUnits (fmt2 : Bool) (b : Bytes) : Nat := if fmt2 then leAt b 8 2 % 16 + 1 else 1

/-- The fragment list of an entry, with the indirect table DMA read (`none`: it could not be read). The first failure of
E4, E5 and E3 (R167) is answered as a status. -/
def entryFrags (first : List Fragment × ScanEnd) (table : Option Bytes) : Except Nat (List Fragment) :=
  match first.2 with
  | .last => if first.1.length ≤ 4096 then .ok first.1 else .error stMALFORMED
  | .bad => .error stMALFORMED
  | .open_ => .error stMALFORMED
  | .table _ len =>
    match table with
    | none => .error stFRAGMENT_FAULT
    | some t =>
      let r := scanFrags false 4096 (fitBytes t len) []
      if len % 16 ≠ 0 ∨ len = 0 ∨ len > 65536 then .error stMALFORMED
      else if r.2.1 = .last ∧ first.1.length + r.1.length ≤ 4096 then .ok (first.1 ++ r.1) else .error stMALFORMED

/-- E3's address rule: aligned, and zero exactly when the length is zero. -/
def addrOk (addr len align : Nat) : Bool := addr % align == 0 && ((addr == 0) == (len == 0))

/-- Check a 64-byte FMT1 entry (R160, R167). -/
def parseFmt1 (b : Bytes) (params table : Option Bytes) : Except Nat Entry :=
  let h := parseHeader b
  let pAddr := leAt b 32 8
  let rAddr := leAt b 40 8
  let cap := leAt b 48 4
  let dlen := leAt b 52 4
  let tAddr := leAt b 56 8
  if h.ctl % 2 ^ 15 ≠ 0 then .error stMALFORMED
  else if !(addrOk pAddr h.paramLen 8 && addrOk rAddr cap 8 && tAddr % 16 == 0) then .error stMALFORMED
  else if (h.paramLen ≠ 0 ∧ params = none) ∨ (tAddr ≠ 0 ∧ table = none) then .error stFRAGMENT_FAULT
  else
    let fr : Except Nat (List Fragment) :=
      if tAddr = 0 then .ok []
      else
        let r := scanFrags false 4096 (table.getD []) []
        if r.2.1 = .last then .ok r.1 else .error stMALFORMED
    match fr with
    | .error e => .error e
    | .ok fs =>
      if inputLen fs ≠ dlen then .error stLENGTH_MISMATCH
      else .ok ⟨h, 1, fitBytes (params.getD []) h.paramLen, rAddr, cap, dlen, fs⟩

/-- Check an FMT2 entry of UNITS_M1 + 1 units (R161, R162, R167). -/
def parseFmt2 (b : Bytes) (params table : Option Bytes) : Except Nat Entry :=
  let h := parseHeader b
  let units := h.ctl % 16 + 1
  let inl := bitAt h.ctl 4
  let body := fitBytes b (units * 32)
  if h.ctl / 32 % 2 ^ 10 ≠ 0 then .error stMALFORMED
  else if units = 1 then
    if h.paramLen ≠ 0 then .error stMALFORMED
    else .ok ⟨h, 1, [], 0, 0, 0, []⟩
  else
    let pAddr := leAt body 32 8
    let rAddr := leAt body 40 8
    let cap := leAt body 48 4
    let dlen := leAt body 56 8
    let inlLen := if inl then roundUp h.paramLen 32 else 0
    let tail := body.drop (64 + inlLen)
    let empty := tail.length < 16 || allZero (tail.take 16)
    let sc := scanFrags true 4096 tail []
    let first : List Fragment × ScanEnd := if empty then ([], .last) else (sc.1, sc.2.1)
    let fill : Bytes := if empty then tail else match sc.2.1 with
      | .last => sc.2.2
      | .table _ _ => sc.2.2
      | _ => []
    let tableAt : Option (Nat × Nat) := match first.2 with
      | .table a n => some (a, n)
      | _ => none
    if leAt body 52 4 ≠ 0 ∨ (inl && decide (units * 32 < 64 + inlLen)) = true ∨
        !(allZero (slice body (64 + h.paramLen) (inlLen - h.paramLen))) ∨ !(allZero fill) then .error stMALFORMED
    else if !((if inl then pAddr == 0 else addrOk pAddr h.paramLen 8) && addrOk rAddr cap 8
        && tableAt.all fun t => addrOk t.1 t.2 16) then .error stMALFORMED
    else if (h.paramLen ≠ 0 ∧ !inl ∧ params = none) ∨ (tableAt.isSome ∧ table = none) then .error stFRAGMENT_FAULT
    else
      match entryFrags first table with
      | .error e => .error e
      | .ok fs =>
        if dlen > 2 ^ 40 then .error stLIMIT_EXCEEDED
        else if inputLen fs ≠ dlen then .error stLENGTH_MISMATCH
        else .ok ⟨h, units, if inl then slice body 64 h.paramLen else fitBytes (params.getD []) h.paramLen,
          rAddr, cap, dlen, fs⟩

/-- Check an entry of either format (R167). -/
def parseEntry (fmt2 : Bool) (b : Bytes) (params table : Option Bytes) : Except Nat Entry :=
  if fmt2 then parseFmt2 b params table else parseFmt1 b params table

end Sys2Proof.Machine
end

