-- ==== Sys2Proof/Machine/Flags.lean ====
section
/-!
DEFINITION. The flag and status computations of a completion: verdicts (R21, R22), completion flags (R132) and the codes
reported on a channel at 1.x (R127, R131).
-/

namespace Sys2Proof.Machine

/-- The verdict byte of a pass (R22). -/
abbrev vPass : Nat := 2
/-- The verdict byte of a fail (R22). -/
abbrev vFail : Nat := 1
/-- A fault verdict: both bits equal (R21). -/
abbrev vFault : Nat := 0

/-- The doubled verdict of an answer (R21, R22). -/
def verdictOf (ok : Bool) : Nat := if ok then vPass else vFail

/-- The status reported on a channel of major version `major` (R131, R127). -/
def reportStatus (major st : Nat) : Nat :=
  if major ≠ 1 then st
  else if st = stFRAGMENT_FAULT ∨ st = stLIMIT_EXCEEDED then stMALFORMED
  else if st = stKEY_STALE then stKEY_ABSENT
  else if st = stKEY_USE_EXHAUSTED then stKEY_POLICY
  else if st = stINSTANCE_BUSY then stNOT_READY
  else if st = stALARM_ERASED then stABORTED
  else st

/-- The completion flags of a job (R132); CROSSING_SPAN and DRBG_ONLY read zero at 1.x (R127).
Mark: DEDUCED (log entry 28). -/
def completionFlags (b : Job) : Nat :=
  b2n b.revoked + 2 * b2n (b.preempts != 0) + 4 * b2n b.retried
    + (if b.major = 1 then 0 else 8 * b2n b.spanned + 16 * b2n b.drbgOnly) + 32 * b2n b.mirrored

/-- The ROUNDS byte (R100, R127): the preemption count of a preempted job, else the rounds its opcode reports,
saturating at 255. Mark: DEDUCED (log entry 28). -/
def completionRounds (b : Job) (rounds : Nat) : Nat :=
  if b.major = 1 then 0 else min 255 (if b.preempts ≠ 0 then b.preempts else rounds)

end Sys2Proof.Machine
end

