-- ==== Sys2Proof/Machine/QueueOps.lean ====
section
/-!
DEFINITION. The shared operations of queue pairs (chapter 04): active settings, ring space, CQ writes, the mirror line,
moderation and interrupts, event posting, CQ stalls, and the writing of a completion.
-/

namespace Sys2Proof.Machine

/-! ### Active settings of a pair (R207) -/

/-- KIND of a pair: 0 WORK, 1 EVENT, 2 SIGNED_EVENT (R151). -/
def State.qKind (s : State) (q : Nat) : Nat := s.fld (qReg q aQ_CTL) 25 24
/-- Entries of the CQ ring (R154). -/
def State.cqSize (s : State) (q : Nat) : Nat := 2 ^ s.fld (qReg q aQ_CTL) 20 16
/-- Entries, units or slots of the SQ ring (R154). -/
def State.sqSize (s : State) (q : Nat) : Nat := 2 ^ s.fld (qReg q aQ_CTL) 12 8
/-- The pair runs in phase mode (R178). -/
def State.qPhase (s : State) (q : Nat) : Bool := s.fld (qReg q aQ_CTL) 3 3 == 1
/-- The pair's entries are FMT2 (R9). -/
def State.qFmt2 (s : State) (q : Nat) : Bool := s.fld (qReg q aQ_CTL) 2 2 == 1
/-- The pair is control class (R152). -/
def State.qControl (s : State) (q : Nat) : Bool := s.fld (qReg q aQ_CTL) 1 1 == 1

/-- A function is in D3hot (R204). -/
def State.inD3 (s : State) (fn : Nat) : Bool := s.pcie.d3.contains fn

/-- The jobs of a pair that are fetched and not completed (R207, Q_INFLIGHT). -/
def State.inflight (s : State) (q : Nat) : Nat := (s.jobs.filter fun e => e.2.src == .queue q && !e.2.discard).length

/-- Free entries of a CQ: a ring holds at most its size less one (R174). -/
def State.cqFree (s : State) (q : Nat) : Nat :=
  let n := s.cqSize q
  let p := s.pair q
  n - 1 - (p.cqTail + n - p.cqHead) % n

/-- R188: a new entry may be fetched while in-flight jobs plus held completions are fewer than free CQ entries + 16. -/
def State.mayFetch (s : State) (q : Nat) : Bool :=
  s.inflight q + (s.pair q).hold.length < s.cqFree q + 16

/-- Entries wait in the SQ: by the indices, or by the last look at a phase-mode ring. -/
def State.sqWaiting (s : State) (q : Nat) : Bool :=
  if s.qPhase q then (s.pair q).armed else (s.pair q).sqHead != (s.pair q).sqTail

/-- Q_STATUS (R207). -/
def State.qStatus (s : State) (q : Nat) : Nat :=
  let p := s.pair q
  b2n p.enabled + 2 * b2n p.idle + 4 * b2n p.stall + 8 * b2n p.error + 16 * b2n p.draining
    + 32 * b2n ((p.enabled || (p.draining && !s.qControl q)) && s.sqWaiting q && !s.mayFetch q) + 64 * b2n (!p.d3.isEmpty)
    + 256 * min 16 p.hold.length
    + 2 ^ 16 * b2n p.dbErr + 2 ^ 17 * b2n p.setupRefused + 2 ^ 18 * b2n p.wrIgnored + 2 ^ 24 * (p.setupFail % 256)

/-! ### The mirror line and interrupts -/

/-- Write the index mirror line (R176, R177), unless the function is in D3hot (R204). SEQ counts the writes. -/
def State.mirror (s : State) (q : Nat) : State :=
  if s.inD3 (s.pair q).owner then s
  else
    let s := s.onPair q fun p => { p with mirrorSeq := (p.mirrorSeq + 1) % 2 ^ 32 }
    let p := s.pair q
    s.emit (.mirrorWrite q (leBytes p.sqHead 2 ++ zeros 2 ++ leBytes p.cqTail 2 ++ zeros 2 ++ leBytes p.mirrorSeq 4
      ++ leBytes (s.qStatus q % 2 ^ 16) 4 ++ zeros 48))

/-- The key of word `w` of MSI-X entry `v` of function `fn`. -/
def msixKey (fn v w : Nat) : Nat := fn * 1024 + v * 16 + w

/-- A vector is masked in the MSI-X table (vector control, bit 0; a PCIe table comes up masked).
Mark: PRESUMED (log entry 85). -/
def State.msixMasked (s : State) (fn v : Nat) : Bool := bitAt ((tgetD s.pcie.msix (msixKey fn v 12) 1).toNat) 0

/-- Send a vector's message, or keep it until the link is in L0 (R201). Mark: PRESUMED (log entry 85). -/
def State.sendVector (s : State) (fn v : Nat) : State :=
  match s.pcie.link with
  | .l0 => s.emit (.msix fn v)
  | .down => { s with pcie := { s.pcie with pba := s.pcie.pba ++ [(fn, v)] } }
  | _ => { s with pcie := { s.pcie with waiting := s.pcie.waiting ++ [(fn, v)] } }.emit .l1Exit

/-- Raise a vector (R198): in D3hot the PBA bit sets and a PME goes out when enabled; a masked vector keeps its PBA bit
(R202). -/
def State.fireVector (s : State) (fn v : Nat) : State :=
  if s.inD3 fn then
    let s := { s with pcie := { s.pcie with pba := if s.pcie.pba.contains (fn, v) then s.pcie.pba
      else s.pcie.pba ++ [(fn, v)] } }
    if s.pcie.pmeEn.contains fn then
      { s with pcie := { s.pcie with pmeStatus := if s.pcie.pmeStatus.contains fn then s.pcie.pmeStatus
        else s.pcie.pmeStatus ++ [fn] } }.emit (.pme fn)
    else s
  else if s.msixMasked fn v then
    { s with pcie := { s.pcie with pba := if s.pcie.pba.contains (fn, v) then s.pcie.pba
      else s.pcie.pba ++ [(fn, v)] } }
  else s.sendVector fn v

/-- Deliver a CQ's interrupt; the count and the timer restart (R199). -/
def State.deliver (s : State) (q : Nat) : State :=
  let p := s.pair q
  (s.setPair q { p with modCount := 0, modFirst := 0 }).fireVector p.owner (s.fld (qReg q aQ_VECTOR) 5 0)

/-- After a batch of CQ writes: modes NONE and COUNT may fall due at once (R199). Mark: DEDUCED (log entry 29). -/
def State.moderate (s : State) (q : Nat) : State :=
  let n := (s.pair q).modCount
  let mode := s.fld (qReg q aQ_MOD) 1 0
  if n = 0 then s
  else if mode = 0 then s.deliver q
  else if mode = 1 ∧ n ≥ s.fld (qReg q aQ_MOD) 15 8 then s.deliver q
  else s

/-- A moderation timer of the pair has run out (R199): TIMER × 0.25 µs since the first unsignalled completion. -/
def State.timerDue (s : State) (q : Nat) : Bool :=
  let mode := s.fld (qReg q aQ_MOD) 1 0
  let t := s.fld (qReg q aQ_MOD) 27 16
  (s.pair q).modCount != 0 && (mode == 2 || mode == 1 && t != 0) && s.passed (s.pair q).modFirst (250 * t)

/-! ### CQ writes -/

/-- Set the version of a channel (R123). -/
def State.setVersion (s : State) (src : Source) (inst : Nat) (v : Nat × Nat) : State :=
  match src with
  | .queue _ => { s with versions := tput s.versions inst v (0, 0) }
  | .session p i => { s with mp := { s.mp with sessions := s.mp.sessions.map fun x =>
      if x.port = p ∧ x.id = i then { x with version := v } else x } }
  | .console => { s with mp := { s.mp with consoleVersion := v } }
  | .mp => s
  | .event _ => s

/-- A HELLO completion that has been written gives its channel the version (R125). -/
def State.adoptWritten (s : State) (q : Nat) (body : Bytes) : State :=
  match (s.pair q).adopt.find? fun e => e.1 == body with
  | none => s
  | some e =>
    (s.onPair q fun p => { p with adopt := p.adopt.erase e }).setVersion (.queue q) (s.pair q).owner e.2

/-- Write one CQ entry: 28 bytes, then the phase word as a separate write (R171, R172, R178); the tail advances. -/
def State.writeCq (s : State) (q : Nat) (body : Bytes) : State :=
  let p := s.pair q
  let n := s.cqSize q
  let word := if s.qPhase q && p.cqLap % 2 == 0 then 2 ^ 31 else 0
  let s := (s.emit (.cqWrite q p.cqTail (fitBytes body 28))).emit (.cqPhaseWrite q p.cqTail (leBytes word 4))
  (s.onPair q fun p =>
    { p with
      cqTail := (p.cqTail + 1) % n, cqLap := if p.cqTail + 1 ≥ n then p.cqLap + 1 else p.cqLap,
      modCount := p.modCount + 1, modFirst := if p.modCount = 0 then s.now else p.modFirst }).adoptWritten q body

/-- The EVENT pair of an instance (R151). -/
def State.eventPair (s : State) (inst : Nat) : Option Nat :=
  (s.pairs.find? fun e => e.2.owner == inst && e.2.created.any fun c => c.kind == 1).map (·.1)

/-- The SIGNED_EVENT pair of an instance (R151). -/
def State.signedPair (s : State) (inst : Nat) : Option Nat :=
  (s.pairs.find? fun e => e.2.owner == inst && e.2.created.any fun c => c.kind == 2).map (·.1)

/-- The bytes of an event entry before its phase word (R192). -/
def eventBody (s : State) (code queue info info2 : Nat) : Bytes :=
  leBytes code 2 ++ leBytes queue 2 ++ leBytes info 4 ++ leBytes info2 8 ++ leBytes s.stampNow 8 ++ leBytes s.tb.ns 4

/-- The room an event finds: none while the pair is disabled or its function is in D3hot (R194, R204). -/
def State.eventRoom (s : State) (q : Nat) : Nat :=
  if (s.pair q).enabled && !s.inD3 (s.pair q).owner then s.cqFree q else 0

/-- Post EVENTS_LOST before any other event once room returns (R194). Mark: DEDUCED (log entry 29). -/
def State.postLost (s : State) (q : Nat) : State :=
  let p := s.pair q
  if p.lostPending ≠ 0 ∧ s.eventRoom q ≥ 1 then
    (s.writeCq q (eventBody s 6 0xFFFF (min p.lostPending (2 ^ 32 - 1)) 0)).onPair q
      fun p => { p with lostPending := 0 }
  else s

/-- The QUEUE field of an event (R192): the local index for a tenant, the global number for instance 0. -/
def State.eventQueueField (s : State) (q : Option Nat) : Nat :=
  match q with
  | none => 0xFFFF
  | some q => if (s.pair q).owner = 0 then q else (s.pair q).loc

/-- Post an event to the event queue of an instance (R192 to R194): lost and counted when fewer than 2 entries are free,
nowhere counted without an EVENT pair. Mark: DEDUCED (log entry 29). -/
def State.postEvent (s : State) (inst code : Nat) (queue : Option Nat) (info info2 : Nat) : State :=
  match s.eventPair inst with
  | none => s
  | some e =>
    let tail := (s.pair e).cqTail
    let s := s.postLost e
    if s.eventRoom e ≥ 2 ∧ (s.pair e).lostPending = 0 then
      ((s.writeCq e (eventBody s code (s.eventQueueField queue) (info % 2 ^ 32) (info2 % 2 ^ 64))).mirror e).moderate e
    else
      let s := s.onPair e fun p => { p with
        eventsLost := min (p.eventsLost + 1) (2 ^ 32 - 1), lostPending := p.lostPending + 1 }
      if (s.pair e).cqTail = tail then s else (s.mirror e).moderate e

/-! ### Stalls, draining and idling -/

/-- R189: enter CQ_STALL when the CQ is full and in-flight jobs plus held completions number 16. -/
def State.checkStall (s : State) (q : Nat) : State :=
  let p := s.pair q
  if !p.stall ∧ (p.enabled ∨ p.draining) ∧ s.cqFree q = 0 ∧ s.inflight q + p.hold.length ≥ 16 then
    let n := s.inflight q
    let s := s.setPair q { p with stall := true, stallSince := s.tb.crossings }
    ((s.bump aQ_STALL_CNT q).mirror q).postEvent p.owner 1 (some q) n (p.cqHead + 65536 * p.cqTail)
  else s

/-- R189: leave CQ_STALL when fetching may resume. -/
def State.checkUnstall (s : State) (q : Nat) : State :=
  let p := s.pair q
  if p.stall ∧ s.mayFetch q then
    ((s.setPair q { p with stall := false }).mirror q).postEvent p.owner 2 (some q) (s.tb.crossings - p.stallSince) 0
  else s

/-- R185: IDLE sets when the pair is disabled, none of its jobs is in flight and every completion is written. A
data-class pair also has to have fetched every entry up to its SQ tail (R184), unless its SQ cannot be read; in phase mode,
which has no tail, entries not fetched stay unread. Mark: DESIGN CHOICE (log entry 110). -/
def State.checkIdle (s : State) (q : Nat) : State :=
  let p := s.pair q
  let swept := s.qControl q || s.qPhase q || p.error || s.qKind q != 0 || p.sqHead == p.sqTail || p.partialEntry
  if !p.enabled ∧ !p.idle ∧ s.inflight q = 0 ∧ p.hold = [] ∧ p.d3 = [] ∧ swept then
    ((s.setPair q { p with idle := true, draining := false, error := false, stall := false }).mirror q).postEvent
      p.owner 3 (some q) 0 0
  else s

/-- Write held completions in their order of arrival while CQ space lasts (R187). -/
def State.flushHold (s : State) (q : Nat) : (fuel : Nat) → State
  | 0 => s
  | fuel + 1 =>
    match (s.pair q).hold with
    | [] => s
    | e :: r =>
      if s.cqFree q = 0 ∨ s.inD3 (s.pair q).owner then s
      else ((s.writeCq q e).onPair q fun p => { p with hold := r }).flushHold q fuel

/-! ### Completions -/

/-- The channel's DETAIL bit: 2.2 and later (R111). Mark: DEDUCED (log entry 83). -/
def wantsDetail (b : Job) : Bool := bitAt b.flags 1 && (b.major == 2 && b.minor ≥ 2)

/-- A reply that wants DETAIL and whose failure no TLV check names carries one whose type, offset and reason the spec does
not state (R111, R115). Mark: DESIGN CHOICE (log entry 97). -/
def State.withDetail (s : State) (b : Job) (e : Ending) : Ending × State :=
  if e.status = stDONE ∨ !wantsDetail b ∨ e.results.any (fun t => t.type == 2) = true then (e, s)
  else
    let d := s.drawBytes 7
    ({ e with results := e.results ++ [⟨2, d.1⟩] }, d.2)

/-- Bytes as the console sends them (R137, RFC 1662): flag and escape bytes stuffed with 0x7D.
Mark: DESIGN CHOICE (log entry 77). -/
def stuff (bs : Bytes) : Bytes := bs.flatMap fun b => if b = 0x7E ∨ b = 0x7D then [0x7D, b ^^^ 0x20] else [b]

/-- One step of the 32-bit FCS. -/
def fcsByte (c : BitVec 32) (b : Byte) : BitVec 32 :=
  (List.range 8).foldl (fun c _ => (c >>> 1) ^^^ (if c.getLsbD 0 then 0xEDB88320 else 0)) (c ^^^ b.setWidth 32)

/-- The 32-bit FCS of RFC 1662. Mark: PRESUMED (log entry 87). -/
def fcs32 (bs : Bytes) : Nat := (~~~ (bs.foldl fcsByte 0xFFFFFFFF)).toNat

/-- A packet as a frame of the console (R137): flags around the packet and its FCS, stuffed.
Mark: DESIGN CHOICE (log entry 77). -/
def hdlcFrame (p : Bytes) : Bytes := [0x7E] ++ stuff (p ++ leBytes (fcs32 p) 4) ++ [0x7E]

/-- The result TLVs a reply carries: none but DETAIL, RETRY_AFTER and named failure TLVs unless the status is DONE
(R131), DETAIL only when asked for (R111), and neither DETAIL nor RETRY_AFTER into a buffer smaller than 16 bytes
(R169). `bounded` is false for a session or the console, which have no result buffer. -/
def resultTlvs (b : Job) (e : Ending) (bounded : Bool) : List Tlv :=
  if e.status = stDONE then e.results
  else e.results.filter fun t =>
    (t.type != 2 || wantsDetail b) && !(bounded && decide (b.resultCap < tlvSize t))

/-- The first 28 bytes of a completion entry (R171). -/
def completionBody (s : State) (b : Job) (e : Ending) (resultLen : Nat) : Bytes :=
  leBytes b.tag 4 ++ leBytes (reportStatus b.major e.status) 2 ++ leBytes (completionFlags b) 2 ++ leBytes resultLen 4
    ++ leBytes e.verdict 1 ++ leBytes (completionRounds b e.rounds) 1 ++ zeros 2 ++ leBytes s.stampNow 8
    ++ leBytes s.tb.ns 4

/-- A reply packet on a session or the console (R118). Mark: DEDUCED (log entry 83). -/
def replyPacket (s : State) (b : Job) (e : Ending) (results : Bytes) : Bytes :=
  leBytes b.major 1 ++ leBytes b.minor 1 ++ leBytes b.opcode 2 ++ leBytes b.tag 4 ++ leBytes b.inst 2
    ++ leBytes (completionFlags b) 2 ++ leBytes results.length 4 ++ leBytes (reportStatus b.major e.status) 2
    ++ leBytes e.verdict 1 ++ leBytes (completionRounds b e.rounds) 1 ++ leBytes s.tb.ns 4 ++ leBytes s.stampNow 8
    ++ results

/-- Place a completion of a pair (R187): into the CQ, into the hold buffer when the CQ is full or the buffer is not
empty, or held for the return to D0 (R204). Mark: DEDUCED (log entry 29). -/
def State.placeCompletion (s : State) (q : Nat) (body : Bytes) : State :=
  let p := s.pair q
  if s.inD3 p.owner then s.setPair q { p with d3 := p.d3 ++ [body] }
  else if s.cqFree q = 0 ∨ p.hold ≠ [] then s.setPair q { p with hold := p.hold ++ [body] }
  else s.writeCq q body

/-- A job that has started crossed a boundary when it ends in another crossing than the one it started in (R132).
Mark: DEDUCED (log entry 28). -/
def State.spanning (s : State) (b : Job) : Job :=
  { b with spanned := b.spanned || ((b.engine.isSome || b.started) && b.start != s.tb.stamp) }

/-- The version a completion brings its channel (R125): a HELLO (0x0001) that ends DONE. -/
def Job.newVersion (b : Job) (e : Ending) : Option (Nat × Nat) :=
  if b.opcode = 0x0001 ∧ e.status = stDONE then some (b.major, b.minor) else none

/-- A reply leaves on a channel other than a queue, and a HELLO's version takes effect with it (R125). -/
def State.sendReply (s : State) (b : Job) (e : Ending) (packet : Bytes) : State :=
  let s := match b.src with
    | .console => s.emit (.serial (hdlcFrame packet))
    | _ => s.emit (.reply b.src packet)
  match b.newVersion e with
  | some v => s.setVersion b.src b.inst v
  | none => s

/-- Write the completion of a job on its queue, in the order of R172; a HELLO's version waits for it to be written. -/
def State.queueCompletion (s : State) (q : Nat) (b : Job) (e : Ending) : State :=
  let rs := tlvsBytes (resultTlvs b e true)
  let s1 := if e.out = [] then s else s.emit (.dataWrite (b.frags.filter (·.out)) e.out)
  let s2 := if rs = [] then s1 else s1.emit (.resultWrite b.resultAddr rs)
  let body := completionBody s b e rs.length
  let s3 := match b.newVersion e with
    | some v => s2.onPair q fun p => { p with adopt := p.adopt ++ [(body, v)] }
    | none => s2
  ((((s3.placeCompletion q body).mirror q).moderate q).checkStall q).checkIdle q

/-- Enter a job: its number and the state with it. -/
def State.addJob (s : State) (b : Job) : Nat × State :=
  let n := s.nextJob
  let s := { s with jobs := tset s.jobs n b, nextJob := n + 1 }
  match b.src with
  | .queue q => (n, s.onPair q fun p => { p with fetched := p.fetched + 1 })
  | _ => (n, s)

/-- A best-effort job of the module's own on an engine (R142, R263). -/
def taskJob (inst order opcode : Nat) (ps : List Tlv) (t : MpTask) : Job :=
  { src := .mp, inst := inst, opcode := opcode, tag := 0, major := 2, minor := 2, flags := 0, handle := 0, deadline := 0,
    params := ps, paramLen := 0, resultCap := 2 ^ 20, resultAddr := 0, dataLen := 0, frags := [], order := order,
    seqInQueue := 0, phase := .fifo, task := some t }

/-- A subtree job of a rebuild has left (R263, R290): the key's progress is the share of them that are done; one whose engine
failed is made again. Mark: DESIGN CHOICE (log entry 105). -/
def State.subtreeLeft (s : State) (b : Job) (t : MpTask) (node status : Nat) : State :=
  let s := if status = stFAULT_CONTAINED then (s.addJob (taskJob b.inst s.nextJob b.opcode b.params t)).2 else s
  let left := (s.jobs.filter fun x => x.2.task.any fun u => u.node == some node).length
  match tget s.hbs.keys node with
  | some k => { s with hbs := { s.hbs with
      keys := tset s.hbs.keys node { k with progress := 1000 * (k.parts - left) / max 1 k.parts } } }
  | none => s

/-- Engine work of the module's own has ended (R142, R263): once none of a command's is left, the command goes on; the first
status other than DONE is kept for it. -/
def State.taskLeft (s : State) (b : Job) (e : Ending) : State :=
  match b.task with
  | none => s
  | some t =>
    match t.node with
    | some n => s.subtreeLeft b t n e.status
    | none =>
      let more := s.jobs.any fun x => x.2.task.any fun u => u.node.isNone && u.parent == t.parent
      s.onJob t.parent fun p =>
        if p.wait = .engine then
          { p with engineStatus := if p.engineStatus.getD stDONE = stDONE then some e.status else p.engineStatus
                   wait := if more then .engine else .no }
        else p

/-- Write the completion of a job that has ended, in the order of R172, and forget the job. A job of a function in D3hot
completes ABORTED and writes nothing else (R204); a discarded job writes nothing (R101). -/
def State.writeCompletion (s : State) (j : Nat) : State :=
  match s.job j with
  | none => s
  | some b =>
    match b.ending with
    | none => s
    | some e =>
      let b := s.spanning b
      let s0 := s.dropJob j
      if b.discard then
        match b.src with
        | .queue q => s0.checkIdle q
        | _ => s0
      else
        match b.src with
        | .queue q =>
          if s.inD3 (s.pair q).owner then
            ((s0.placeCompletion q (completionBody s b { status := stABORTED } 0)).checkIdle q)
          else
            let (e, s0) := s0.withDetail b e
            s0.queueCompletion q b e
        | .mp => s0.taskLeft b e
        | .event _ => s0
        | _ =>
          let (e, s0) := s0.withDetail b e
          s0.sendReply b e (replyPacket s b e (tlvsBytes (resultTlvs b e false)))

/-! ### Space in a CQ (R178, R189, R197) -/

/-- Write one signed-event copy (R195, R196): the frame into its slot, then its entry. -/
def State.writeCopy (s : State) (q : Nat) (c : SignedCopy) : State :=
  (s.emit (.slotWrite q (s.pair q).cqTail c.frame)).writeCq q
    (leBytes c.seq 4 ++ leBytes c.stream 4 ++ leBytes c.frame.length 2 ++ leBytes c.lane 2 ++ leBytes c.lost 4
      ++ leBytes c.stamp.bits 8 ++ leBytes c.ns 4)

/-- Write held copies in order as slots free (R197). -/
def State.flushCopies (s : State) (q : Nat) : (fuel : Nat) → State
  | 0 => s
  | fuel + 1 =>
    match (s.pair q).copies with
    | [] => s
    | c :: r =>
      if !(s.pair q).enabled ∨ s.cqFree q = 0 ∨ s.inD3 (s.pair q).owner then s
      else ((s.writeCopy q c).onPair q fun p => { p with copies := r }).flushCopies q fuel

/-- What new CQ space lets out: held completions, EVENTS_LOST, held copies; then the mirror line and the interrupt. -/
def State.useSpace (s : State) (q : Nat) : State :=
  let tail := (s.pair q).cqTail
  let s := s.flushHold q 16
  let s := if s.qKind q = 1 then s.postLost q else s
  let s := if s.qKind q = 2 then s.flushCopies q 4096 else s
  if (s.pair q).cqTail = tail then s else (s.mirror q).moderate q

end Sys2Proof.Machine
end

