-- ==== Sys2Proof/Machine/FaultOps.lean ====
section
/-!
DEFINITION. The shared operations of readiness (R639 to R643), engines and their names (R6, R590), the fault collector
(R589 to R603), the FAULT state (R605) and alarms (R614 to R618).
-/

namespace Sys2Proof.Machine

/-! ### Engines and clusters -/

/-- The class code of R83. -/
def classCode : EngClass → Nat
  | .pe => 1 | .me => 2 | .ce => 3 | .bne => 4 | .hse => 5 | .de => 6 | .sse => 7

/-- How many engines a class has (R6). -/
def classSize : Nat → Nat
  | 1 => 16 | 2 => 8 | 3 => 2 | 4 => 8 | 5 => 8 | 6 => 12 | 7 => 40 | _ => 0

/-- The key of engine `i` of a class. -/
def engKey (cls i : Nat) : Nat := cls * 64 + i

/-- The ready bit of an engine's cluster (R639). -/
def engReadyBit (cls i : Nat) : Nat :=
  match cls with
  | 1 => 7 + i / 4 | 2 => 11 + i / 4 | 3 => 13 | 4 => 14 | 5 => 15 | 6 => 16 | _ => 17 + i / 10

/-- The power domain of an engine's cluster (R627). -/
def engDomain (cls i : Nat) : Nat :=
  match cls with
  | 1 => 5 + i / 4 | 2 => 9 + i / 4 | 3 => 11 | 4 => 12 | 5 => 13 | 6 => 13 | _ => 14 + i / 10

/-- The cluster code and member of an engine (R590). -/
def engPath (cls i : Nat) : Nat × Nat :=
  match cls with
  | 1 => (i / 4, i % 4) | 2 => (4 + i / 4, i % 4) | 3 => (6, i) | 4 => (7, i) | 5 => (12, i) | 6 => (12, 8 + i)
  | _ => (8 + i / 10, i % 10)

/-- SOURCE of an engine (R590, level 0). -/
def engSource (cls i : Nat) : Nat := (engPath cls i).1 * 32 + (engPath cls i).2

/-- MASTER of an engine: 0x20 + its cluster code (R591). -/
def engMaster (cls i : Nat) : Nat := 0x20 + (engPath cls i).1

/-- The engine a SOURCE names (R590), as class code and number. -/
def engOfSource (src : Nat) : Option (Nat × Nat) :=
  let c := src / 32 % 16
  let m := src % 32
  if src / 512 ≠ 0 then none
  else if c < 4 then (if m < 4 then some (1, c * 4 + m) else none)
  else if c < 6 then (if m < 4 then some (2, (c - 4) * 4 + m) else none)
  else if c = 6 then (if m < 2 then some (3, m) else none)
  else if c = 7 then (if m < 8 then some (4, m) else none)
  else if c < 12 then (if m < 10 then some (7, (c - 8) * 10 + m) else none)
  else if c = 12 then (if m < 8 then some (5, m) else if m < 20 then some (6, m - 8) else none)
  else none

/-- Change an instance's scratch use. -/
def State.chargeScratch (s : State) (inst plus minus : Nat) : State :=
  if plus = 0 ∧ minus = 0 then s
  else
    let x : Instance := tgetD s.insts inst {}
    { s with insts := tput s.insts inst { x with scratch := x.scratch + plus - minus } {} }

/-- Take the saved context of a job away from its engine (R97, R101): its record is wiped, and one that was spilled
returns its scratch (R98). -/
def State.dropContext (s : State) (j : Nat) : State :=
  match s.job j with
  | none => s
  | some b =>
    match b.engine with
    | none => s
    | some (c, i) =>
      let k := b.half.getD (engKey c i)
      let out := (s.eng k).saved.contains j && b.spilled
      let s := s.onEng k fun e => { e with saved := e.saved.erase j, records := tdel e.records j }
      if out then s.chargeScratch b.inst 0 1024 else s

/-- An address of the operand memory lies in an entry of the expanded-key cache (R216). -/
def CacheEntry.covers (c : CacheEntry) (a : Nat) : Bool := c.base * 1024 ≤ a && a < (c.base + c.size) * 1024

/-- Take entries out of an engine's expanded-key cache and zero their bytes in the key region of its operand memory
(R218, R258). -/
def State.dropEntries (s : State) (k : Nat) (gone : CacheEntry → Bool) : State :=
  let out := (s.eng k).cache.filter gone
  if out = [] then s
  else
    let s := s.onEng k fun e => { e with cache := e.cache.filter fun c => !gone c }
    if k / 64 ≠ 1 then s
    else
      let l : Lvu := tgetD s.lvus (k % 64) {}
      { s with lvus := tput s.lvus (k % 64) { l with mem := l.mem.filter fun b => !(out.any (·.covers b.1)) } {} }

/-- The same on every engine, with a test that may look at the engine. -/
def State.dropAllEntries (s : State) (gone : Engine → CacheEntry → Bool) : State :=
  s.engines.foldl (fun s e => s.dropEntries e.1 (gone e.2)) s

/-- Entries become unusable (R218): on an engine whose job may hold them they are marked and go when it ends, on every other
they are zeroed. -/
def State.retireEntries (s : State) (holds : Engine → Bool) (hit : CacheEntry → Bool) : State :=
  (s.dropAllEntries fun e c => hit c && !holds e).onEngines fun e =>
    { e with cache := e.cache.map fun c => if hit c then { c with doomed := true } else c }

/-- Flush the unpinned entries of one engine (R218, R259). -/
def State.flushEntries (s : State) (k : Nat) : State :=
  if (s.eng k).busy.isSome then
    s.onEng k fun e => { e with cache := e.cache.map fun c => if c.pinned then c else { c with doomed := true } }
  else s.dropEntries k fun c => !c.pinned

/-! ### Readiness -/

/-- A bit of ID_READY. -/
def State.ready (s : State) (i : Nat) : Bool := s.pw.ready.getLsbD i

/-- Set ID_READY: bits that clear set ID_READY_LOST (R640), bits that set record their time, and READY_CHANGED is posted
to instance 0 (R643). -/
def State.setReadyBits (s : State) (v : BitVec 24) : State :=
  if v = s.pw.ready then s
  else
    let old := s.pw.ready
    let us := (List.range 24).foldl (fun t i => if v.getLsbD i && !old.getLsbD i then tset t i (s.now / 1000) else t)
      s.pw.readyUs
    let s := { s with pw := { s.pw with ready := v, lostBits := s.pw.lostBits ||| (old &&& ~~~v), readyUs := us } }
    s.postEvent 0 0x0280 none v.toNat (v ^^^ old).toNat

/-- Set or clear one bit of ID_READY. -/
def State.setReady (s : State) (i : Nat) (b : Bool) : State :=
  let m : BitVec 24 := BitVec.ofNat 24 (2 ^ i)
  s.setReadyBits (if b then s.pw.ready ||| m else s.pw.ready &&& ~~~m)

/-- The state of a power domain. -/
def State.domain (s : State) (d : Nat) : DomainState := tgetD s.pw.domains d .off

/-- Store the state of a power domain. -/
def State.setDomain (s : State) (d : Nat) (x : DomainState) : State :=
  { s with pw := { s.pw with domains := tput s.pw.domains d x .off } }

/-! ### Recording a fault (R589, R599 to R603) -/

/-- The 16-byte message of a fault (R589). -/
def faultBytes (s : State) (m : FaultMsg) (cls : Nat) : Bytes :=
  leBytes (m.source % 4096 + 4096 * (m.access % 16)) 2 ++ leBytes m.kind 1 ++ leBytes m.master 1
    ++ leBytes m.address 6
    ++ leBytes (cls + 4 * (s.tb.stamp.idx % 65536) + 2 ^ 18 * (s.tb.stamp.sec % 2 ^ 30)) 6

/-- Two messages agree in SOURCE, KIND, CLASS and ADDRESS (R600). -/
def sameFault (a b : LogRecord) : Bool :=
  leAt a.msg 0 2 % 4096 == leAt b.msg 0 2 % 4096 && slice a.msg 2 1 == slice b.msg 2 1 && a.cls == b.cls
    && slice a.msg 4 6 == slice b.msg 4 6 && a.stamp == b.stamp

/-- Count a message into the first record it agrees with. -/
def coalesce (r : LogRecord) : List LogRecord → Option (List LogRecord)
  | [] => none
  | x :: t => if sameFault x r then some ({ x with rpt := min 65535 (x.rpt + 1) } :: t)
    else (coalesce r t).map (x :: ·)

/-- Drop the oldest CORRECTED entry of the ring. -/
def dropCorrected : List LogRecord → Option (List LogRecord)
  | [] => none
  | x :: t => if x.cls = 0 then some t else (dropCorrected t).map (x :: ·)

/-- Log a message (R600): coalesced within a crossing, else into the ring of 256 entries under its overflow rules. -/
def State.logFault (s : State) (cls : Nat) (msg : Bytes) : State :=
  let r : LogRecord := { seq := 0, cls := cls, msg := msg, stamp := s.tb.stamp, ns := s.tb.ns,
                         step := s.tb.stepCount % 65536 }
  match coalesce r s.fc.ring with
  | some ring => { s with fc := { s.fc with ring := ring } }
  | none =>
    match coalesce r s.fc.log with
    | some log => { s with fc := { s.fc with log := log } }
    | none =>
      if s.fc.ring.length < 256 then { s with fc := { s.fc with ring := s.fc.ring ++ [r] } }
      else
        let gone := { s with fc := { s.fc with lost := s.fc.lost + 1 } }
        if cls = 0 then gone
        else match dropCorrected s.fc.ring with
          | some ring => { gone with fc := { gone.fc with ring := ring ++ [r] } }
          | none => gone

/-- SOURCE of a fault message (R589). -/
def faultSource (msg : Bytes) : Nat := leAt msg 0 2 % 4096

/-- The first-error capture of a class (R599): of two faults of one class in the same nanosecond, an interconnect cycle,
the one with the lower SOURCE is the first. Mark: DEDUCED (log entry 74). -/
def State.capture (s : State) (cls : Nat) (msg : Bytes) : State :=
  match tget s.fc.captures cls with
  | none => { s with fc := { s.fc with
      captures := tset s.fc.captures cls msg, capturedAt := tset s.fc.capturedAt cls s.now } }
  | some old =>
    let before := tget s.fc.capturedAt cls == some s.now && faultSource msg < faultSource old
    { s with fc := { s.fc with
        captures := if before then tset s.fc.captures cls msg else s.fc.captures
        more := if s.fc.more.contains cls then s.fc.more else s.fc.more ++ [cls] } }

/-- Count, capture and log a message of class 0, 1 or 2 (R593, R594, R599); a CORRECTED one is logged while LOG_CORR is
1; a FATAL one also goes to the history in N7 (R601). -/
def State.collect (s : State) (m : FaultMsg) (cls : Nat) : State :=
  let msg := faultBytes s m cls
  let s := (s.bump (aFC_CNT_CORR + 4 * cls) 0).capture cls msg
  let s := if cls = 0 ∧ s.fld aFC_CTL 14 14 = 0 then s else s.logFault cls msg
  if cls = 2 then
    { s with fc := { s.fc with history :=
      (s.fc.history ++ [({ seq := 0, cls := 2, msg := msg, stamp := s.tb.stamp, ns := s.tb.ns,
                           step := s.tb.stepCount % 65536 } : LogRecord)]).drop (s.fc.history.length + 1 - 16384) } }
  else s

/-- The recoveries within FC_WINDOW seconds (R607). -/
def State.recentExits (s : State) : Nat :=
  (s.fc.exits.filter fun t => s.tb.stamp.sec ≤ t + s.fld aFC_WINDOW 16 0).length

/-! ### The FAULT state (R605) -/

/-- The bits that FAULT leaves set: AON and PCIE. -/
abbrev faultBits : BitVec 24 := 0x41

/-- Enter FAULT (R605): MODULE_FAULT is posted, jobs are abandoned without completion, every ready bit but AON and PCIE
clears, a paired module gives up its role (R577). In FAULT or LATCHED nothing more happens than the recording of the fault (R609).
Mark: DEDUCED (log entry 73). -/
def State.enterFault (s : State) (kind : Nat) (byAlarm : Bool) : State :=
  let s := { s with fc := { s.fc with quietFrom := s.now } }
  if s.fc.mstate ≠ .service then s
  else
    let s := s.postEvent 0 0x0271 none kind s.recentExits
    let s := { s with
      fc := { s.fc with mstate := .fault, cause := kind, byAlarm := byAlarm },
      jobs := [],
      tr := { s.tr with flights := [] },
      tw := { s.tw with role := 0 },
      mp := { s.mp with drainNow := 0 } }
    let s := s.onEngines fun e =>
      { e with busy := none, saved := [], records := [], berth := none, leadIn := none, tail := none }
    s.setReadyBits (s.pw.ready &&& faultBits)

/-! ### Blocks of the stateful keys (R271, R279) -/

/-- B, the leaves of a reservation block (R271). -/
def blockLeaves (h : Nat) : Nat := min 1024 (2 ^ (h - 2))

/-- T, the blocks of a key (R271). -/
def blockCount (h : Nat) : Nat := 2 ^ h / blockLeaves h

/-- B of a key (R271). -/
def HbsKey.leaves (k : HbsKey) : Nat := blockLeaves k.height

/-- The leaves of the current, ahead and pending blocks that are left: a reservation not yet usable counts as an ahead block
(R290). Mark: DESIGN CHOICE (log entry 113). -/
def HbsKey.held (k : HbsKey) : Nat :=
  (if k.cur.isSome then k.left else 0) + k.leaves * (b2n k.ahead.isSome + b2n k.pend.isSome)

/-- Discard a key's blocks. -/
def HbsKey.discard (k : HbsKey) : HbsKey :=
  { k with cur := none, left := 0, ahead := none, pend := none, readBack := false, acked := false, waiting := false }

/-- Discard the blocks of the keys that satisfy a test, counting the leaves lost (R279). -/
def State.discardBlocks (s : State) (p : HbsKey → Bool) : State :=
  let lost := ((s.hbs.keys.filter fun e => p e.2).map fun e => e.2.held).sum
  { s with hbs := { s.hbs with
    keys := s.hbs.keys.map fun e => if p e.2 then (e.1, e.2.discard) else e
    discarded := (s.hbs.discarded + lost) % 2 ^ 64 } }

/-! ### Alarms (R614 to R618) -/

/-- The action AL_ACTION sets for an input: 0 LOG, 1 ERASE, 2 PERMANENT (R615). -/
def State.alarmAction (s : State) (input : Nat) : Nat := s.fld aAL_ACTION (2 * input + 1) (2 * input)

/-- End every job in flight with a status and write its completion. -/
def State.endAll (s : State) (status : Nat) : State :=
  (s.jobs.map (·.1)).foldl (fun s j => (s.failJob j status).writeCompletion j) s

/-- Count the host SE jobs that an erase ends (SE_ERASE). -/
def State.countErased (s : State) : State :=
  s.jobs.foldl (fun s e =>
    match e.2.engine with
    | some (5, _) => s.bump aSE_ERASE 0
    | _ => s) s

/-- ALARM-ERASE (R616, R468): roots, slots, K_chk, the gangway, every engine key cache, key register, context memory and
working store, and the context-wrap keys are zeroed; jobs in flight complete ALARM_ERASED; the module enters FAULT.
Mark: DEDUCED (log entry 39). -/
def State.alarmErase (s : State) (kind : Nat) : State :=
  let s := s.countErased.endAll stALARM_ERASED
  let s := { s with
    lvus := [], seqs := [], digests := [], tr := { s.tr with macsec := [] },
    ks := { s.ks with
      roots := .pending, rkId := [], rkSeal := [], kchk := [], slots := [], scanOf := [], pairChk := false,
      gangway := [], gangwayBusy := false },
    insts := s.insts.map fun (e : Nat × Instance) => (e.1, { e.2 with wrapKey := [], wrapCount := 0 }) }
  let s := (s.onEngines fun e =>
    { e with cache := [], saved := [], records := [], keys := [], lanes := none, mem := [], busy := none }).discardBlocks
      fun _ => true
  ((s.bump aAL_ERASE_CNT 0).bump aKS_ERASE_CNT 0).enterFault kind true

/-- The MP, while it runs, writes an ALARM record to the history in N7, and at start-up the one the alarm latch holds, if it
is not there yet (R601, R619). Mark: DEDUCED (log entry 76). -/
def State.keepRecord (s : State) (r : LogRecord) : State :=
  if s.fc.history.contains r then s
  else { s with fc := { s.fc with history := (s.fc.history ++ [r]).drop (s.fc.history.length + 1 - 16384) } }

/-- An alarm input asserts (R614 to R617): it is latched and recorded; LOG posts ALARM_LOGGED; ERASE erases; PERMANENT
also overwrites N0. `eraseNs` is the measured erase time. -/
def State.alarmInput (s : State) (input eraseNs : Nat) : State :=
  let act := s.alarmAction input
  let bit : BitVec 11 := BitVec.ofNat 11 (2 ^ input)
  let m : FaultMsg := { source := 0x451, access := 0, kind := 0x70, master := 0, address := input, fatal := false }
  let msg := faultBytes s m 3
  let rec_ : LogRecord := { seq := 0, cls := 3, msg := msg, stamp := s.tb.stamp, ns := s.tb.ns,
                            step := s.tb.stepCount % 65536 }
  let s := { s with al := { s.al with
    live := s.al.live ||| bit, latch := s.al.latch ||| bit, last := s.tb.stamp, lastAction := act, lastInput := input,
    lastNs := if act = 0 then 0 else min 65535 eraseNs, record := some rec_ } }
  let s := s.logFault 3 msg
  let s := { s with fc := { s.fc with quietFrom := s.now } }
  let s := if s.mp.state = .run ∧ (act = 0 ∨ s.fc.mstate = .latched) then s.keepRecord rec_ else s
  if act = 0 then s.postEvent 0 0x0273 none input 0
  else
    let s := s.alarmErase 0x70
    if act = 2 then { s with al := { s.al with perm := true }, ks := { s.ks with roots := .erased, n0 := none } } else s

/-- Count a report towards input 9 (R618): more than LIMIT within WINDOW × 0.1 ms asserts it. -/
def State.countDcm (s : State) (kind : Nat) : State :=
  if kind = 0x10 ∨ kind = 0x11 ∨ kind = 0x12 ∨ kind = 0x13 ∨ kind = 0x21 then
    let recent := (s.fc.dcmTimes ++ [s.now]).filter fun t => s.now < t + s.fld aAL_DCM 15 8 * 100000
    let s := { s with fc := { s.fc with dcmTimes := recent } }
    if recent.length > s.fld aAL_DCM 7 0 ∧ !s.al.live.getLsbD 9 then
      let d := s.drawNat 2000
      d.2.alarmInput 9 d.1
    else s
  else s

/-! ### Raising a fault (R592 to R598) -/

/-- The class of a kind (R592); `fatal` decides where the table names a condition. `none` for a kind the table does not
list. Mark: DEDUCED (log entry 74). -/
def kindClass (kind : Nat) (fatal : Bool) : Option Nat :=
  if [0x01, 0x03, 0x10, 0x12, 0x30, 0x50, 0x51, 0x52, 0x53, 0x54, 0x60].contains kind then some 0
  else if [0x16, 0x22, 0x23, 0x32, 0x40, 0x41].contains kind then some 2
  else if kind = 0x24 ∨ kind = 0x21 then some (if fatal then 2 else if kind = 0x21 then 0 else 1)
  else if [0x02, 0x04, 0x05, 0x06, 0x11, 0x13, 0x14, 0x15, 0x17, 0x18, 0x20, 0x25, 0x31, 0x42, 0x61].contains kind then
    some 1
  else none

/-- The counter register of CONTAINED or CORRECTED faults of an engine class, as the engine chapters name it. -/
def engCounter (cls : Nat) (retried : Bool) : Option Nat :=
  match cls with
  | 1 => some (if retried then aPE_RETRIED else aPE_CONTAINED)
  | 2 => some (if retried then aME_RETRIED else aME_CONTAINED)
  | 3 => some (if retried then aCE_RETRIED else aCE_CONTAINED)
  | 4 => some (if retried then aBN_RETRIED else aBN_CONTAINED)
  | 5 => some (if retried then aSE_RETRIED else aSE_CONTAINED)
  | 6 => some (if retried then aDE_RETRIED else aDE_CONTAINED)
  | _ => none

/-- Hold an engine out of service and report it (R596): ENGINE_HELD is recorded as CONTAINED and its event posted.
Mark: DEDUCED (log entry 75). -/
def State.holdEngine (s : State) (cls i count : Nat) : State :=
  let k := engKey cls i
  if (s.eng k).held then s
  else
    let s := s.onEng k fun e => { e with held := true, oos := true }
    let s := s.collect { source := engSource cls i, access := 0, kind := 0x42, master := 0, address := count,
                         fatal := false } 1
    s.postEvent 0 0x0272 none (engSource cls i) count

/-- Frames that a stream SE's fault meets are dropped whatever their policy, and counted (R597). -/
def State.dropFrames (s : State) (se : Nat) : State :=
  let hit := fun (f : Flight) => f.se == se && !f.drop
  let n := (s.tr.flights.filter fun e => hit e.2).length
  let fs : Tab Flight := s.tr.flights.map fun (e : Nat × Flight) =>
    (e.1, if hit e.2 then { e.2 with drop := true } else e.2)
  { s with tr := { s.tr with flights := fs } }.bumpBy aFC_FRAME_DROP 0 n

/-- What a CONTAINED fault does to the engine that raised it (R594, R596): its job ends FAULT_CONTAINED, its memory is wiped (R258), it
goes out of service until the next boundary, and it is held at OOS_LIMIT faults within 1 s.
Mark: DEDUCED (log entry 74). -/
def State.containEngine (s : State) (cls i : Nat) : State :=
  let k := engKey cls i
  let s := match (s.eng k).busy with
    | some j => s.failJob j stFAULT_CONTAINED
    | none => s
  let s := { s with lvus := if cls = 1 then tdel s.lvus i else s.lvus, seqs := tdel s.seqs k }
  let s := if cls = 7 then s.dropFrames i else s
  let recent := ((s.eng k).faultUps ++ [s.now]).filter fun t => s.now < t + 10 ^ 9
  let s := s.onEng k fun e => { e with oos := true, faultUps := recent, cache := [], keys := [], lanes := none, mem := [] }
  let s := match engCounter cls false with
    | some c => s.bump c i
    | none => s
  if recent.length ≥ s.fld aFC_CTL 23 16 then s.holdEngine cls i recent.length else s

/-- A fault message reaches the FC (R592 to R598). -/
def State.raise (s : State) (m : FaultMsg) : State :=
  match kindClass m.kind m.fatal with
  | none => s
  | some cls =>
    let s := (s.collect m cls).countDcm m.kind
    if cls = 0 then s
    else if cls = 1 then
      let s := if s.fld aFC_CTL 24 24 = 1 ∧ m.kind ≠ 0x42 then
          s.postEvent 0 0x0270 none (m.source % 4096 + 4096 * (m.access % 16) + 2 ^ 16 * m.kind + 2 ^ 24 * m.master)
            (m.address % 2 ^ 48)
        else s
      match engOfSource m.source with
      | some (c, i) => if m.source < 512 then s.containEngine c i else s
      | none => s
    else s.enterFault m.kind false

/-- The micro-address an engine's sequencer stands at, the ADDRESS of a failed result check (R592); 0 on a fixed-function
engine. -/
def State.microAddress (s : State) (cls i : Nat) : Nat := (tgetD s.seqs (engKey cls i) {}).pc

/-- Raise a fault of an engine, with its own SOURCE and MASTER. Mark: DEDUCED (log entry 74). -/
def State.raiseEng (s : State) (cls i kind address : Nat) : State :=
  s.raise { source := engSource cls i, access := 6, kind := kind, master := engMaster cls i, address := address,
            fatal := false }

end Sys2Proof.Machine
end

