-- ==== Sys2Proof/Machine/Hash.lean ====
section
/-!
DEFINITION. The digest functions the spec names by their standards: SHA-2 (FIPS 180-4), SHA-3 and SHAKE (FIPS 202),
cSHAKE and KMAC (SP 800-185), HMAC (FIPS 198-1).
-/

namespace Sys2Proof.Machine

/-! ### SHA-2 -/

/-- The words of `w` bits that a run of `n` words packs into one number, first word highest. -/
def unpack (w n packed : Nat) : List (BitVec w) :=
  (List.range n).map fun i => BitVec.ofNat w (packed >>> (w * (n - 1 - i)))

/-- The round constants of SHA-512, five to a number: the first 64 bits of the fractions of the cube roots of the first
eighty primes. -/
def roots512 : List Nat := [
  0x428a2f98d728ae227137449123ef65cdb5c0fbcfec4d3b2fe9b5dba58189dbbc3956c25bf348b538,
  0x59f111f1b605d019923f82a4af194f9bab1c5ed5da6d8118d807aa98a303024212835b0145706fbe,
  0x243185be4ee4b28c550c7dc3d5ffb4e272be5d74f27b896f80deb1fe3b1696b19bdc06a725c71235,
  0xc19bf174cf692694e49b69c19ef14ad2efbe4786384f25e30fc19dc68b8cd5b5240ca1cc77ac9c65,
  0x2de92c6f592b02754a7484aa6ea6e4835cb0a9dcbd41fbd476f988da831153b5983e5152ee66dfab,
  0xa831c66d2db43210b00327c898fb213fbf597fc7beef0ee4c6e00bf33da88fc2d5a79147930aa725,
  0x06ca6351e003826f142929670a0e6e7027b70a8546d22ffc2e1b21385c26c9264d2c6dfc5ac42aed,
  0x53380d139d95b3df650a73548baf63de766a0abb3c77b2a881c2c92e47edaee692722c851482353b]
  ++ [
  0xa2bfe8a14cf10364a81a664bbc423001c24b8b70d0f89791c76c51a30654be30d192e819d6ef5218,
  0xd69906245565a910f40e35855771202a106aa07032bbd1b819a4c116b8d2d0c81e376c085141ab53,
  0x2748774cdf8eeb9934b0bcb5e19b48a8391c0cb3c5c95a634ed8aa4ae3418acb5b9cca4f7763e373,
  0x682e6ff3d6b2b8a3748f82ee5defb2fc78a5636f43172f6084c87814a1f0ab728cc702081a6439ec,
  0x90befffa23631e28a4506cebde82bde9bef9a3f7b2c67915c67178f2e372532bca273eceea26619c,
  0xd186b8c721c0c207eada7dd6cde0eb1ef57d4f7fee6ed17806f067aa72176fba0a637dc5a2c898a6,
  0x113f9804bef90dae1b710b35131c471b28db77f523047d8432caab7b40c724933c9ebe0a15c9bebc,
  0x431d67c49c100d4c4cc5d4becb3e42b6597f299cfc657e2a5fcb6fab3ad6faec6c44198c4a475817]

/-- The constant of each round of SHA-512. -/
def sha512K : List (BitVec 64) := roots512.flatMap (unpack 64 5)

/-- The constant of each round of SHA-256: the upper half of the one SHA-512 has there. -/
def sha256K : List (BitVec 32) := (sha512K.take 64).map fun c => c.extractLsb' 32 32

/-- The big-endian words of a byte string. -/
def beWords (w : Nat) (n : Nat) (bs : Bytes) : List (BitVec w) :=
  (List.range n).map fun i => BitVec.ofNat w (beNat (slice bs (i * (w / 8)) (w / 8)))

/-- What tells the two word sizes of SHA-2 apart: the amounts of the six rotations of the large functions, and of the
two rotations and the shift of each small one. -/
structure Sha2Shape where
  large0 : Nat × Nat × Nat
  large1 : Nat × Nat × Nat
  small0 : Nat × Nat × Nat
  small1 : Nat × Nat × Nat

/-- A large function: three rotations. -/
def turn (a : Nat × Nat × Nat) (x : BitVec w) : BitVec w :=
  [a.1, a.2.1, a.2.2].foldl (fun acc n => acc ^^^ x.rotateRight n) 0

/-- A small function: two rotations and a shift. -/
def turnShift (a : Nat × Nat × Nat) (x : BitVec w) : BitVec w :=
  [a.1, a.2.1].foldl (fun acc n => acc ^^^ x.rotateRight n) (x >>> a.2.2)

/-- The eight working words of SHA-2. -/
structure Sha2Words (w : Nat) where
  lo : BitVec w × BitVec w × BitVec w × BitVec w
  hi : BitVec w × BitVec w × BitVec w × BitVec w

/-- The chaining value as working words. -/
def Sha2Words.ofList (v : List (BitVec w)) : Sha2Words w :=
  let at_ := fun i => v.getD i 0
  ⟨(at_ 0, at_ 1, at_ 2, at_ 3), (at_ 4, at_ 5, at_ 6, at_ 7)⟩

/-- The working words in order. -/
def Sha2Words.toList (v : Sha2Words w) : List (BitVec w) :=
  [v.lo.1, v.lo.2.1, v.lo.2.2.1, v.lo.2.2.2, v.hi.1, v.hi.2.1, v.hi.2.2.1, v.hi.2.2.2]

/-- One round: `kw` is the round constant plus the schedule's word. -/
def Sha2Words.round (p : Sha2Shape) (kw : BitVec w) (v : Sha2Words w) : Sha2Words w :=
  let (p0, p1, p2, p3) := v.lo
  let (q0, q1, q2, q3) := v.hi
  let choice := q2 ^^^ (q0 &&& (q1 ^^^ q2))
  let majority := (p0 &&& p1) ||| (p2 &&& (p0 ||| p1))
  let mixed := turn p.large1 q0 + choice + q3 + kw
  ⟨(turn p.large0 p0 + majority + mixed, p0, p1, p2), (p3 + mixed, q0, q1, q2)⟩

/-- The rounds of one block: the schedule's window holds the next sixteen words, first word first, and moves on by one
word a round. -/
def sha2Rounds (p : Sha2Shape) : List (BitVec w) → List (BitVec w) → Sha2Words w → Sha2Words w
  | [], _, v => v
  | k :: ks, win, v =>
    let next := turnShift p.small1 (win.getD 14 0) + turnShift p.small0 (win.getD 1 0) + win.getD 9 0 + win.getD 0 0
    sha2Rounds p ks (win.drop 1 ++ [next]) (v.round p (k + win.getD 0 0))

/-- One compression of SHA-2. -/
def sha2Block (p : Sha2Shape) (k chain : List (BitVec w)) (block : Bytes) : List (BitVec w) :=
  List.zipWith (· + ·) chain (sha2Rounds p k (beWords w 16 block) (.ofList chain)).toList

/-- One SHA-256 compression. -/
def sha256Block : List (BitVec 32) → Bytes → List (BitVec 32) :=
  sha2Block ⟨(2, 13, 22), (6, 11, 25), (7, 18, 3), (17, 19, 10)⟩ sha256K

/-- One SHA-512 compression. -/
def sha512Block : List (BitVec 64) → Bytes → List (BitVec 64) :=
  sha2Block ⟨(28, 34, 39), (14, 18, 41), (1, 8, 7), (19, 61, 6)⟩ sha512K

/-- Cut bytes into blocks of `n`; a last short block is left out. -/
def blocksOf (n : Nat) : (fuel : Nat) → Bytes → List Bytes
  | 0, _ => []
  | f + 1, bs => if bs.length < n ∨ n = 0 then [] else bs.take n :: blocksOf n f (bs.drop n)

/-- SHA-2 padding of a message to blocks of `blk` bytes with a length field of `lf` bytes. -/
def sha2Pad (blk lf : Nat) (m : Bytes) : Bytes :=
  let n := m.length
  m ++ [0x80] ++ zeros ((2 * blk - 1 - lf - n % blk) % blk) ++ beBytes (8 * n) lf

/-- A SHA-2 hash of 64-byte blocks. -/
def sha2Small (iv : List (BitVec 32)) (out : Nat) (m : Bytes) : Bytes :=
  let p := sha2Pad 64 8 m
  (((blocksOf 64 p.length p).foldl sha256Block iv).map fun w => beBytes w.toNat 4).flatten.take out

/-- A SHA-2 hash of 128-byte blocks. -/
def sha2Large (iv : List (BitVec 64)) (out : Nat) (m : Bytes) : Bytes :=
  let p := sha2Pad 128 16 m
  (((blocksOf 128 p.length p).foldl sha512Block iv).map fun w => beBytes w.toNat 8).flatten.take out

/-- The initial value of SHA-224. -/
def ivSha224 : List (BitVec 32) := unpack 32 8 0xc1059ed8367cd5073070dd17f70e5939ffc00b316858151164f98fa7befa4fa4
/-- The initial value of SHA-256. -/
def ivSha256 : List (BitVec 32) := unpack 32 8 0x6a09e667bb67ae853c6ef372a54ff53a510e527f9b05688c1f83d9ab5be0cd19
/-- The initial value of SHA-384. -/
def ivSha384 : List (BitVec 64) :=
  unpack 64 4 0xcbbb9d5dc1059ed8629a292a367cd5079159015a3070dd17152fecd8f70e5939 ++ unpack 64 4 0x67332667ffc00b318eb44a8768581511db0c2e0d64f98fa747b5481dbefa4fa4
/-- The initial value of SHA-512. -/
def ivSha512 : List (BitVec 64) :=
  unpack 64 4 0x6a09e667f3bcc908bb67ae8584caa73b3c6ef372fe94f82ba54ff53a5f1d36f1 ++ unpack 64 4 0x510e527fade682d19b05688c2b3e6c1f1f83d9abfb41bd6b5be0cd19137e2179

/-- SHA-256. Mark: PRESUMED (log entry 87). -/
def sha256 (m : Bytes) : Bytes := sha2Small ivSha256 32 m
/-- SHA-384. -/
def sha384 (m : Bytes) : Bytes := sha2Large ivSha384 48 m
/-- SHA-512. -/
def sha512 (m : Bytes) : Bytes := sha2Large ivSha512 64 m

/-- The initial value of SHA-512/t: SHA-512 of the name under the SHA-512 initial value xored with a5 bytes. -/
def ivSha512t (name : String) : List (BitVec 64) :=
  beWords 64 8 (sha2Large (ivSha512.map fun w => w ^^^ 0xa5a5a5a5a5a5a5a5) 64 (asciiBytes name name.length))

/-! ### Keccak -/

/-- The round constants of Keccak-f[1600]. -/
def keccakRC : List (BitVec 64) :=
  [0x1, 0x8082, 0x800000000000808a, 0x8000000080008000, 0x808b, 0x80000001, 0x8000000080008081,
   0x8000000000008009, 0x8a, 0x88, 0x80008009, 0x8000000a, 0x8000808b, 0x800000000000008b, 0x8000000000008089,
   0x8000000000008003, 0x8000000000008002, 0x8000000000000080, 0x800a, 0x800000008000000a, 0x8000000080008081,
   0x8000000000008080, 0x80000001, 0x8000000080008008]

/-- The rotation offsets of Keccak-f[1600], lane x + 5y. -/
def keccakRot : List Nat := [0, 1, 62, 28, 27, 36, 44, 6, 55, 20, 3, 10, 43, 25, 39, 41, 45, 15, 21, 8, 18, 2, 61, 56, 14]

/-- One round of Keccak-f[1600] over 25 lanes. -/
def keccakRound (a : List (BitVec 64)) (rc : BitVec 64) : List (BitVec 64) :=
  let l := fun i => a.getD i 0
  let c := (List.range 5).map fun x => l x ^^^ l (x + 5) ^^^ l (x + 10) ^^^ l (x + 15) ^^^ l (x + 20)
  let d := (List.range 5).map fun x => c.getD ((x + 4) % 5) 0 ^^^ (c.getD ((x + 1) % 5) 0).rotateLeft 1
  let b := (List.range 25).map fun i =>
    -- lane (x, y) of the result of rho and pi comes from lane (x + 3y, x)
    let x := i % 5
    let y := i / 5
    let src := (x + 3 * y) % 5 + 5 * x
    (l src ^^^ d.getD (src % 5) 0).rotateLeft (keccakRot.getD src 0)
  let m := fun i => b.getD i 0
  (List.range 25).map fun i =>
    let y := i / 5 * 5
    let v := m i ^^^ (~~~m ((i % 5 + 1) % 5 + y) &&& m ((i % 5 + 2) % 5 + y))
    if i = 0 then v ^^^ rc else v

/-- Keccak-f[1600]. Mark: PRESUMED (log entry 87). -/
def keccakF (a : List (BitVec 64)) : List (BitVec 64) := keccakRC.foldl keccakRound a

/-- Absorb one block of `rate` bytes. -/
def keccakAbsorb (rate : Nat) (a : List (BitVec 64)) (block : Bytes) : List (BitVec 64) :=
  keccakF ((List.range 25).map fun i =>
    if i * 8 < rate then a.getD i 0 ^^^ BitVec.ofNat 64 (leAt block (i * 8) 8) else a.getD i 0)

/-- The bytes of `rate` from a Keccak state. -/
def keccakOut (rate : Nat) (a : List (BitVec 64)) : Bytes := ((a.map fun w => leBytes w.toNat 8).flatten).take rate

/-- Squeeze `n` blocks. -/
def keccakSqueeze (rate : Nat) : Nat → List (BitVec 64) → Bytes
  | 0, _ => []
  | n + 1, a => keccakOut rate a ++ keccakSqueeze rate n (keccakF a)

/-- The padded last block: the domain byte, zeros, the final bit. -/
def keccakPad (rate : Nat) (dom : Byte) (m : Bytes) : Bytes :=
  let k := rate - m.length % rate
  if k = 1 then m ++ [dom ||| 0x80] else m ++ [dom] ++ zeros (k - 2) ++ [0x80]

/-- The sponge: absorb a message, squeeze `out` bytes. -/
def sponge (rate : Nat) (dom : Byte) (m : Bytes) (out : Nat) : Bytes :=
  let p := keccakPad rate dom m
  let a := (blocksOf rate p.length p).foldl (keccakAbsorb rate) (List.replicate 25 0)
  (keccakSqueeze rate (ceilDiv out rate) a).take out

/-- SHA3-256. -/
def sha3_256 (m : Bytes) : Bytes := sponge 136 0x06 m 32
/-- SHAKE256. -/
def shake256 (m : Bytes) (out : Nat) : Bytes := sponge 136 0x1F m out

/-! ### SP 800-185 -/

/-- The bytes a number needs, at least one. -/
def byteLen (n : Nat) : Nat := max 1 (ceilDiv (Nat.log2 n + 1) 8)

/-- left_encode. -/
def leftEncode (n : Nat) : Bytes := BitVec.ofNat 8 (byteLen n) :: beBytes n (byteLen n)
/-- right_encode. -/
def rightEncode (n : Nat) : Bytes := beBytes n (byteLen n) ++ [BitVec.ofNat 8 (byteLen n)]
/-- encode_string. -/
def encodeString (b : Bytes) : Bytes := leftEncode (8 * b.length) ++ b
/-- bytepad. -/
def bytepad (b : Bytes) (w : Nat) : Bytes :=
  let z := leftEncode w ++ b
  z ++ zeros (roundUpTo z.length w - z.length)
where
  /-- Round up to a multiple. -/
  roundUpTo (n w : Nat) : Nat := ceilDiv n w * w

/-- cSHAKE with the rate of its strength: SHAKE when both names are empty. -/
def cshake (rate : Nat) (m : Bytes) (out : Nat) (name custom : Bytes) : Bytes :=
  if name = [] ∧ custom = [] then sponge rate 0x1F m out
  else sponge rate 0x04 (bytepad (encodeString name ++ encodeString custom) rate ++ m) out

/-- KMAC with the rate of its strength and `out` bytes; `xof` is KMACXOF. -/
def kmac (rate : Nat) (xof : Bool) (key m : Bytes) (out : Nat) (custom : Bytes) : Bytes :=
  cshake rate (bytepad (encodeString key) rate ++ m ++ rightEncode (if xof then 0 else 8 * out)) out
    (asciiBytes "KMAC" 4) custom

/-- KMAC256(K, X, L, S) of R435, with L in bytes and S as text. Mark: PRESUMED (log entry 87). -/
def kmac256 (key m : Bytes) (out : Nat) (s : String) : Bytes := kmac 136 false key m out (asciiBytes s s.length)

/-- HMAC over a hash of `blk`-byte blocks. Mark: PRESUMED (log entry 87). -/
def hmac (hash : Bytes → Bytes) (blk : Nat) (key m : Bytes) : Bytes :=
  let k := fitBytes (if key.length > blk then hash key else key) blk
  hash ((k.map fun b => b ^^^ 0x5c) ++ hash ((k.map fun b => b ^^^ 0x36) ++ m))

end Sys2Proof.Machine
end

