-- ==== Sys2Proof/Machine/KeyOps.lean ====
section
/-!
DEFINITION. The shared operations of the key store (chapter 11): handles, slots, approval, derivation values, and
invalidation.
-/

namespace Sys2Proof.Machine

/-! ### Slots and handles (R439 to R445) -/

/-- A slot. -/
def State.slot (s : State) (n : Nat) : Slot := tgetD s.ks.slots n {}

/-- Store a slot. -/
def State.setSlot (s : State) (n : Nat) (x : Slot) : State :=
  { s with ks := { s.ks with slots := tput s.ks.slots n x {} } }

/-- CHECK of a handle (R441). -/
def handleCheck (kchk : Bytes) (slot gen inst type : Nat) : Nat :=
  leNat (kmac256 kchk (leBytes slot 2 ++ leBytes gen 2 ++ leBytes inst 1 ++ leBytes type 1) 4 "KRYTORATI-HCHK-1")
    % 65536

/-- The handle of a slot as it stands (R439). -/
def State.handleOf (s : State) (n : Nat) : Nat :=
  let x := s.slot n
  n + 2 ^ 16 * x.gen + 2 ^ 32 * x.inst + 2 ^ 40 * x.type + 2 ^ 48 * handleCheck s.ks.kchk n x.gen x.inst x.type

/-- The slot number of a handle. -/
def hSlot (h : Nat) : Nat := h % 65536
/-- The generation of a handle. -/
def hGen (h : Nat) : Nat := h / 2 ^ 16 % 65536
/-- The instance of a handle. -/
def hInst (h : Nat) : Nat := h / 2 ^ 32 % 256
/-- The type of a handle. -/
def hType (h : Nat) : Nat := h / 2 ^ 40 % 256
/-- The check field of a handle. -/
def hCheck (h : Nat) : Nat := h / 2 ^ 48 % 65536

/-- Step 1 of R446. -/
def State.checkOk (s : State) (h : Nat) : Bool :=
  hCheck h == handleCheck s.ks.kchk (hSlot h) (hGen h) (hInst h) (hType h)

/-- A slot counts against its instance's quota (R445). -/
def Slot.counts (x : Slot) : Bool :=
  x.state == .empty || x.state == .pending || x.state == .loaded || x.state == .stale

/-- The slots an instance uses. -/
def State.slotsUsed (s : State) (inst : Nat) : Nat :=
  (s.ks.slots.filter fun e => e.2.counts && e.2.inst == inst).length

/-- The sum of a share register over the tenants. -/
def State.tenantSum (s : State) (reg h : Nat) : Nat :=
  ((List.range 128).map fun i => s.fld (inReg (i + 1) reg) h 0).sum

/-- The slot quota of an instance (R545, R547). -/
def State.slotQuota (s : State) (inst : Nat) : Nat :=
  if inst = 0 then 65536 - s.tenantSum aIN_SLOT_QUOTA 16 else s.fld (inReg inst aIN_SLOT_QUOTA) 16 0

/-- Every ancestor's recorded generation is still that ancestor's, and none is STALE (R446, step 4). Levels run to 8. -/
def State.ancestorsOk (s : State) : (fuel : Nat) → Option (Nat × Nat) → Bool
  | 0, p => p.isNone
  | _ + 1, none => true
  | f + 1, some (n, g) =>
    let x := s.slot n
    x.gen == g && x.state != .stale && x.state != .free && x.state != .retired && s.ancestorsOk f x.parent

/-- A key that an engine holds is still the one in its slot (R467). -/
def State.keyLive (s : State) (k : LoadedKey) : Bool :=
  let x := s.slot k.slot
  x.gen == k.gen && x.state == .loaded && s.ancestorsOk 8 x.parent

/-- Slot `n` descends from slot `root`. -/
def State.descends (s : State) (root : Nat) : (fuel : Nat) → (n : Nat) → Bool
  | 0, _ => false
  | f + 1, n =>
    match (s.slot n).parent with
    | some (p, _) => p == root || s.descends root f p
    | none => false

/-- Write regions N4 and N5 (R56, R458): the copy of a changed region that is not current is completed, and then marked
current in the key-update word. Mark: DESIGN CHOICE (log entry 102). -/
def State.storeNodes (s : State) (nodes : Tab Node) (trust : List Trust) : State :=
  let k := s.ks
  let k := if nodes = k.nodes then k else { k with nodes := nodes, nodesOld := k.nodes, n4Copy := 1 - k.n4Copy }
  let k := if trust = k.trust then k else { k with trust := trust, trustOld := k.trust, n5Copy := 1 - k.n5Copy }
  { s with ks := k }

/-! ### Approval (R446) -/

/-- How a job names a handle. -/
inductive KeyRole where
  | key | dest
  deriving DecidableEq, Repr

/-- What a use of a handle asks for: its role, the types allowed, the policy bits needed (operation and engine), the
parameter set it must be bound to (if it is bound to any), and whether the use counter is decremented. -/
structure KeyNeed where
  handle : Nat
  role : KeyRole := .key
  types : List Nat
  policy : List Nat := []
  pset : Option Nat := none
  lens : List Nat := []
  counted : Bool := true
  deriving DecidableEq, Repr

/-- The engine bits of a key the spec asks for must all be set. -/
def policyOk (policy : Nat) (bits : List Nat) : Bool := bits.all fun i => bitAt policy i

/-- Check one handle by the steps of R446: `none` when it passes, else the status of the first failure. A slot that is
bound to no parameter set yet passes for any (R215). Mark: DEDUCED (log entry 92). -/
def State.refusal (s : State) (inst : Nat) (n : KeyNeed) : Option Nat :=
  let x := s.slot (hSlot n.handle)
  if !s.checkOk n.handle then some stKEY_ABSENT
  else if hInst n.handle ≠ inst then some stKEY_ABSENT
  else if x.inst ≠ inst ∨ x.state = .free ∨ x.state = .retired then some stKEY_ABSENT
  else if hGen n.handle ≠ x.gen ∨ x.state = .stale ∨ !s.ancestorsOk 8 x.parent then some stKEY_STALE
  else if n.role = .key ∧ x.state ≠ .loaded then some stKEY_ABSENT
  else if n.role = .dest ∧ x.state ≠ .empty then some stKEY_POLICY
  else if !(n.types.contains x.type && hType n.handle == x.type) ∨ (n.pset.any fun p => x.pset != 0 && x.pset != p) = true
      ∨ (n.lens ≠ [] ∧ !n.lens.contains x.val.length)
      ∨ (n.role = .key ∧ !policyOk x.policy n.policy) then some stKEY_POLICY
  else if n.role = .key ∧ n.counted ∧ x.uses = some 0 then some stKEY_USE_EXHAUSTED
  else none

/-- What approval does to a slot: the use counter falls, a destination becomes PENDING (R446). -/
def Slot.approve (x : Slot) (n : KeyNeed) : Slot :=
  match n.role with
  | .dest => { x with state := .pending }
  | .key => if n.counted then { x with uses := x.uses.map (· - 1) } else x

/-- Approve all the handles of a job, or none (R446): the status of the first handle refused, or the state after. -/
def State.approve (s : State) (inst : Nat) (ns : List KeyNeed) : Except Nat State :=
  match ns.findSome? (s.refusal inst) with
  | some st => .error st
  | none => .ok ((ns.foldl (fun s n => s.setSlot (hSlot n.handle) ((s.slot (hSlot n.handle)).approve n)) s).bumpBy
      aKS_APPROVALS 0 (if ns = [] then 0 else 1))

/-! ### Creating and releasing slots (R440, R445, R451) -/

/-- The slot a creation takes: a FREE one; which of them the spec leaves open, so a free value chooses it, and the
lowest FREE slot stands in where the choice is not FREE. `none` without a FREE slot.
Mark: DESIGN CHOICE (log entry 37). -/
def State.pickSlot (s : State) (lo hi : Nat) : Option Nat × State :=
  let d := s.drawNat (hi - lo)
  let want := lo + d.1
  if (s.slot want).state = .free then (some want, d.2)
  else ((List.range (hi - lo)).findSome? fun i => if (s.slot (lo + i)).state = .free then some (lo + i) else none, d.2)

/-- The next generation (R440): it never wraps. -/
def nextGen (g : Nat) : Nat := min 65535 (g + 1)

/-- Fill or reserve a FREE slot (R440): the next generation, recorded as the one it was filled at.
Mark: DESIGN CHOICE (log entry 37). -/
def State.takeSlot (s : State) (n : Nat) (x : Slot) : State :=
  let g := nextGen (s.slot n).gen
  s.setSlot n { x with gen := g, filledGen := g }

/-- Create a slot for an instance within its quota (R451), in slots `lo` to `hi - 1`. -/
def State.createSlot (s : State) (inst lo hi : Nat) (x : Slot) : Except Nat (Nat × State) :=
  if s.slotsUsed inst ≥ s.slotQuota inst then .error stLIMIT_EXCEEDED
  else
    match s.pickSlot lo hi with
    | (some n, s) => .ok (n, s.takeSlot n { x with inst := inst })
    | (none, _) => .error stLIMIT_EXCEEDED

/-- Release a slot (R465): FREE, or RETIRED at generation 65,535, with its value zeroed. -/
def State.freeSlot (s : State) (n : Nat) : State :=
  let g := (s.slot n).gen
  s.setSlot n { state := if g ≥ 65535 then .retired else .free, gen := g }

/-! ### Invalidation (R464, R467) -/

/-- Make one slot STALE with its value zeroed and its generation incremented (R464, R440).
Mark: DEDUCED (log entry 35). -/
def State.staleSlot (s : State) (n : Nat) : State :=
  let x := s.slot n
  s.setSlot n { x with state := .stale, val := x.val.map fun _ => 0, gen := nextGen x.gen }

/-- A job holds an approval for slot `n` or a descendant of it. -/
def State.usesSlot (s : State) (n : Nat) (b : Job) : Bool :=
  b.approved.any fun k => k == n || s.descends n 8 k

/-- Zero the keys of some slots in the key caches of the engines that run no job with them (R430, R467). -/
def State.dropKeys (s : State) (holds : Engine → Bool) (hit : LoadedKey → Bool) : State :=
  s.onEngines fun e => if holds e then e else { e with keys := e.keys.filter fun k => !hit k }

/-- What T_inv does besides staling the slot (R467): approved jobs are marked KEY_REVOKED_DURING, cache entries are
marked for zeroing at the end of the last job that holds them, and the keys of a key cache go with their last job. -/
def State.revokeUsers (s : State) (n : Nat) : State :=
  let hit := fun (b : Job) => s.usesSlot n b
  let s' := s.onJobs fun b => if hit b then { b with revoked := true } else b
  let holds := fun (e : Engine) => e.busy.any fun j => (s.job j).any hit
  (s'.retireEntries holds fun c => c.slot == n || s.descends n 8 c.slot).dropKeys holds fun k =>
    k.slot == n || s.descends n 8 k.slot

/-- T_inv (R464): the slot becomes STALE, users are marked, and its descendants wait for the scan. -/
def State.invalidate (s : State) (n : Nat) : State :=
  let s := (s.revokeUsers n).staleSlot n
  { s with ks := { s.ks with scanOf := s.ks.scanOf ++ [n] } }

/-- The scan reaches every descendant of the invalidated slots (R464). -/
def State.scanAll (s : State) : State :=
  let roots := s.ks.scanOf
  let hit := (s.ks.slots.map (·.1)).filter fun k => (s.slot k).counts && (s.slot k).state != .stale
    && roots.any fun r => s.descends r 8 k
  let s' := hit.foldl (fun s k => s.staleSlot k) s
  { s' with ks := { s'.ks with scanOf := [] } }

/-- Zero and free every slot of an instance (R445, R558). -/
def State.freeSlotsOf (s : State) (inst : Nat) : State :=
  ((s.ks.slots.filter fun e => e.2.inst == inst && e.2.state != .free).map (·.1)).foldl (fun s k => s.freeSlot k) s

/-! ### Destination slots (R447) -/

/-- A destination of a job that ended DONE: a SECRET slot takes the agreed value; a slot that is no longer PENDING was
invalidated and the secret is discarded (R467). -/
def State.fillDest (s : State) (n : Nat) (v : Bytes) : State :=
  let x := s.slot n
  if x.state = .pending then
    s.setSlot n { x with state := .loaded, val := v, policy := 1 + 2 ^ 23, uses := none, level := 1, origin := 3,
                         parent := none }
  else s

/-- A destination of a job that ended otherwise returns to EMPTY (R447). -/
def State.unpend (s : State) (n : Nat) : State :=
  let x := s.slot n
  if x.state = .pending then s.setSlot n { x with state := .empty } else s

/-! ### Values and attributes (R442, R448, R452, R470) -/

/-- The value lengths R442 allows for a type. -/
def typeLenOk (type len : Nat) : Bool :=
  match type with
  | 0x01 => 16 ≤ len && len ≤ 64 | 0x02 => len == 16 || len == 32 | 0x03 => len == 32 || len == 64
  | 0x04 => 16 ≤ len && len ≤ 64 | 0x05 => 16 ≤ len && len ≤ 64 | 0x06 => len == 16 || len == 32
  | 0x10 => len == 64 | 0x11 => len == 32 | 0x12 => len == 32 | 0x13 => len == 32 | 0x14 => len == 32
  | 0x18 => len == 32 | 0x19 => len == 32 | 0x20 => [32, 48, 64].contains len | 0x21 => len == 32 || len == 56
  | 0x22 => len == 32 || len == 57 | 0x23 => len == 32 | 0x30 => len == 32 | 0x31 => len == 32
  | _ => false

/-- The types that only persistent nodes have (R442). -/
def persistentOnly (type : Nat) : Bool := [0x13, 0x14, 0x30, 0x31].contains type

/-- The reserved policy bits are zero (R443). -/
def policyClean (p : Nat) : Bool := bitsAt p 15 11 == 0 && p / 2 ^ 24 == 0

/-- KMAC256 with the customisation given as bytes (R448). -/
def kdf (key context label : Bytes) (len : Nat) : Bytes := kmac 136 false key context len label

/-- The value of a persistent node (R452), by its chain up to RK_SEAL. -/
def State.nodeValue (s : State) : (fuel : Nat) → (node : Nat) → Bytes
  | 0, _ => []
  | f + 1, node =>
    match tget s.ks.nodes node with
    | none => []
    | some d =>
      if d.kind = 2 then d.value.take d.valLen
      else kdf (if d.parent = 0xFFFF then s.ks.rkSeal else s.nodeValue f d.parent) d.context d.label d.valLen

/-- A node's descriptor as bytes (R453, bytes 0 to 163). -/
def nodeDesc (node : Nat) (d : Node) : Bytes :=
  leBytes node 2 ++ leBytes d.parent 2 ++ leBytes d.level 1 ++ leBytes d.kind 1 ++ leBytes d.type 1 ++ leBytes d.flags 1
    ++ leBytes d.policy 8 ++ leBytes d.useLimit 4 ++ leBytes d.pset 2 ++ leBytes d.owner 1 ++ leBytes d.valLen 1
    ++ leBytes d.label.length 1 ++ leBytes d.context.length 1 ++ zeros 2 ++ fitBytes d.label 64
    ++ fitBytes d.context 72

/-- Read a descriptor (R453): the node's number and the node, with the value given. Mark: DEDUCED (log entry 33). -/
def parseDesc (b value : Bytes) : Nat × Node :=
  (leAt b 0 2,
   { parent := leAt b 2 2, level := leAt b 4 1, kind := leAt b 5 1, type := leAt b 6 1, flags := leAt b 7 1,
     policy := leAt b 8 8, useLimit := leAt b 16 4, pset := leAt b 20 2, owner := leAt b 22 1, valLen := leAt b 23 1,
     label := slice b 28 (leAt b 24 1), context := slice b 92 (leAt b 25 1), value := value })

/-- The STATE byte of KEY_ATTR (R470). -/
def slotStateCode : SlotState → Nat
  | .empty => 1 | .loaded => 2 | .stale => 3 | .pending => 4 | _ => 0

/-- The FLAGS byte of an attested slot (R462): NON_EXPORTABLE, MIRRORED. -/
def slotFlags (x : Slot) : Nat := 1 + 2 * b2n x.mirrored

/-- USES_LEFT (R462). -/
def usesLeft (x : Slot) : Nat :=
  match x.uses with
  | none => 2 ^ 32 - 1
  | some n => n

/-- The handle of a slot's parent as recorded (R470); 0 without one. -/
def State.parentHandle (s : State) (x : Slot) : Nat :=
  match x.parent with
  | none => 0
  | some (p, g) =>
    let y := s.slot p
    p + 2 ^ 16 * g + 2 ^ 32 * y.inst + 2 ^ 40 * y.type + 2 ^ 48 * handleCheck s.ks.kchk p g y.inst y.type

/-- KEY_ATTR of a slot (R470); `stale` reports STATE 3. Mark: DEDUCED (log entry 34). -/
def State.keyAttr (s : State) (n : Nat) (stale : Bool) : Bytes :=
  let x := s.slot n
  leBytes (if stale then 3 else slotStateCode x.state) 1 ++ leBytes x.type 1 ++ leBytes x.pset 2
    ++ leBytes x.val.length 1 ++ leBytes x.level 1 ++ leBytes x.origin 1 ++ leBytes (slotFlags x) 1
    ++ leBytes x.policy 8 ++ leBytes (usesLeft x) 4 ++ leBytes (x.node.getD 0xFFFF) 2 ++ zeros 2
    ++ leBytes (s.parentHandle x) 8

end Sys2Proof.Machine
end

