-- ==== Sys2Proof/Machine/Opcodes.lean ====
section
/-!
DEFINITION. The opcode table (R128) with what the home chapters say of each opcode: the TLVs it allows (R85, R126, R220,
R289, R320, R342, R383, R423, R471, R497, R536, R560, R583, R621), whether it takes a key and data, whether it is a
verdict opcode (R119), and the ready bits it needs (R641).
-/

namespace Sys2Proof.Machine

/-- When an opcode can complete RNG_UNAVAILABLE and so needs the RNG bit (R493, R641): never, always, with PADDING 3
(RSA_PUBLIC), or with IV_GEN. -/
inductive RngNeed where
  | never | always | oaep | ivGen
  deriving DecidableEq, Repr

/-- One opcode (R128). `issuers` has bit 0 for M, 1 for T, 2 for P, 3 for S; `cls` is the engine class code, 0 without an
engine; `data` and `outData` allow input and output fragments; `ready` lists groups of ID_READY bits, one of each of
which must be set. -/
structure OpInfo where
  code : Nat
  mp : Bool
  issuers : Nat
  control : Bool
  since : Nat × Nat
  cls : Nat
  key : Bool
  data : Bool
  outData : Bool
  verdict : Bool
  rng : RngNeed
  tlvs : List TlvSpec
  ready : List (List Nat)
  deriving DecidableEq, Repr

/-- The opcode HELLO. -/
abbrev opHELLO : Nat := 0x0001
/-- The opcode CAPS. -/
abbrev opCAPS : Nat := 0x0002
/-- The opcode READY_QUERY. -/
abbrev opREADY_QUERY : Nat := 0x0003
/-- The opcode FW_STATUS. -/
abbrev opFW_STATUS : Nat := 0x0008
/-- The opcode MANIFEST_LOAD. -/
abbrev opMANIFEST_LOAD : Nat := 0x0100
/-- The opcode MANIFEST_ACTIVATE. -/
abbrev opMANIFEST_ACTIVATE : Nat := 0x0101
/-- The opcode MANIFEST_QUERY. -/
abbrev opMANIFEST_QUERY : Nat := 0x0102
/-- The opcode KEY_DERIVE. -/
abbrev opKEY_DERIVE : Nat := 0x0200
/-- The opcode KEY_INVALIDATE. -/
abbrev opKEY_INVALIDATE : Nat := 0x0201
/-- The opcode KEY_UPDATE_APPLY. -/
abbrev opKEY_UPDATE_APPLY : Nat := 0x0202
/-- The opcode KEY_IMPORT_WRAPPED. -/
abbrev opKEY_IMPORT_WRAPPED : Nat := 0x0203
/-- The opcode KEY_ATTEST. -/
abbrev opKEY_ATTEST : Nat := 0x0204
/-- The opcode KEY_INFO. -/
abbrev opKEY_INFO : Nat := 0x0205
/-- The opcode KEY_GENERATE. -/
abbrev opKEY_GENERATE : Nat := 0x0206
/-- The opcode KEY_EXPORT_PUBLIC. -/
abbrev opKEY_EXPORT_PUBLIC : Nat := 0x0207
/-- The opcode CHALLENGE_RESPOND. -/
abbrev opCHALLENGE_RESPOND : Nat := 0x0208
/-- The opcode MLKEM_KEYGEN. -/
abbrev opMLKEM_KEYGEN : Nat := 0x1000
/-- The opcode MLKEM_ENCAPS. -/
abbrev opMLKEM_ENCAPS : Nat := 0x1001
/-- The opcode MLKEM_DECAPS. -/
abbrev opMLKEM_DECAPS : Nat := 0x1002
/-- The opcode MLDSA_KEYGEN. -/
abbrev opMLDSA_KEYGEN : Nat := 0x1010
/-- The opcode MLDSA_SIGN. -/
abbrev opMLDSA_SIGN : Nat := 0x1011
/-- The opcode MLDSA_VERIFY. -/
abbrev opMLDSA_VERIFY : Nat := 0x1012
/-- The opcode FNDSA_VERIFY. -/
abbrev opFNDSA_VERIFY : Nat := 0x1020
/-- The opcode HYBRID_KEM_ENCAPS. -/
abbrev opHYBRID_KEM_ENCAPS : Nat := 0x1030
/-- The opcode HYBRID_KEM_DECAPS. -/
abbrev opHYBRID_KEM_DECAPS : Nat := 0x1031
/-- The opcode COMPOSITE_SIGN. -/
abbrev opCOMPOSITE_SIGN : Nat := 0x1032
/-- The opcode COMPOSITE_VERIFY. -/
abbrev opCOMPOSITE_VERIFY : Nat := 0x1033
/-- The opcode SLHDSA_SIGN. -/
abbrev opSLHDSA_SIGN : Nat := 0x1100
/-- The opcode SLHDSA_VERIFY. -/
abbrev opSLHDSA_VERIFY : Nat := 0x1101
/-- The opcode SLHDSA_KEYGEN. -/
abbrev opSLHDSA_KEYGEN : Nat := 0x1102
/-- The opcode LMS_SIGN. -/
abbrev opLMS_SIGN : Nat := 0x1110
/-- The opcode LMS_VERIFY. -/
abbrev opLMS_VERIFY : Nat := 0x1111
/-- The opcode LMS_KEYGEN. -/
abbrev opLMS_KEYGEN : Nat := 0x1112
/-- The opcode HBS_RESERVE_STATUS. -/
abbrev opHBS_RESERVE_STATUS : Nat := 0x1113
/-- The opcode XMSS_SIGN. -/
abbrev opXMSS_SIGN : Nat := 0x1120
/-- The opcode XMSS_VERIFY. -/
abbrev opXMSS_VERIFY : Nat := 0x1121
/-- The opcode XMSS_KEYGEN. -/
abbrev opXMSS_KEYGEN : Nat := 0x1122
/-- The opcode MCE_KEYGEN. -/
abbrev opMCE_KEYGEN : Nat := 0x1200
/-- The opcode MCE_ENCAPS. -/
abbrev opMCE_ENCAPS : Nat := 0x1201
/-- The opcode MCE_DECAPS. -/
abbrev opMCE_DECAPS : Nat := 0x1202
/-- The opcode HQC_KEYGEN. -/
abbrev opHQC_KEYGEN : Nat := 0x1210
/-- The opcode HQC_ENCAPS. -/
abbrev opHQC_ENCAPS : Nat := 0x1211
/-- The opcode HQC_DECAPS. -/
abbrev opHQC_DECAPS : Nat := 0x1212
/-- The opcode BN_MODEXP. -/
abbrev opBN_MODEXP : Nat := 0x1300
/-- The opcode BN_MODMUL. -/
abbrev opBN_MODMUL : Nat := 0x1301
/-- The opcode BN_MODINV. -/
abbrev opBN_MODINV : Nat := 0x1302
/-- The opcode RSA_PRIVATE. -/
abbrev opRSA_PRIVATE : Nat := 0x1310
/-- The opcode RSA_PUBLIC. -/
abbrev opRSA_PUBLIC : Nat := 0x1311
/-- The opcode RSA_KEYGEN. -/
abbrev opRSA_KEYGEN : Nat := 0x1312
/-- The opcode ECDSA_SIGN. -/
abbrev opECDSA_SIGN : Nat := 0x1320
/-- The opcode ECDSA_VERIFY. -/
abbrev opECDSA_VERIFY : Nat := 0x1321
/-- The opcode ECDH. -/
abbrev opECDH : Nat := 0x1322
/-- The opcode EC_KEYGEN. -/
abbrev opEC_KEYGEN : Nat := 0x1323
/-- The opcode X25519. -/
abbrev opX25519 : Nat := 0x1330
/-- The opcode X448. -/
abbrev opX448 : Nat := 0x1331
/-- The opcode EDDSA_SIGN. -/
abbrev opEDDSA_SIGN : Nat := 0x1332
/-- The opcode EDDSA_VERIFY. -/
abbrev opEDDSA_VERIFY : Nat := 0x1333
/-- The opcode AES_GCM_ENC. -/
abbrev opAES_GCM_ENC : Nat := 0x1400
/-- The opcode AES_GCM_DEC. -/
abbrev opAES_GCM_DEC : Nat := 0x1401
/-- The opcode AES_CTR. -/
abbrev opAES_CTR : Nat := 0x1402
/-- The opcode AES_CBC_ENC. -/
abbrev opAES_CBC_ENC : Nat := 0x1403
/-- The opcode AES_CBC_DEC. -/
abbrev opAES_CBC_DEC : Nat := 0x1404
/-- The opcode AES_XTS_ENC. -/
abbrev opAES_XTS_ENC : Nat := 0x1405
/-- The opcode AES_XTS_DEC. -/
abbrev opAES_XTS_DEC : Nat := 0x1406
/-- The opcode AES_CMAC. -/
abbrev opAES_CMAC : Nat := 0x1407
/-- The opcode AES_GMAC. -/
abbrev opAES_GMAC : Nat := 0x140a
/-- The opcode DIGEST_UPDATE. -/
abbrev opDIGEST_UPDATE : Nat := 0x1420
/-- The opcode DIGEST_FINAL. -/
abbrev opDIGEST_FINAL : Nat := 0x1421
/-- The opcode DIGEST_SAVE. -/
abbrev opDIGEST_SAVE : Nat := 0x1422
/-- The opcode DIGEST_RESTORE. -/
abbrev opDIGEST_RESTORE : Nat := 0x1423
/-- The opcode MAC_VERIFY. -/
abbrev opMAC_VERIFY : Nat := 0x1424
/-- The opcode DIGEST_ONESHOT. -/
abbrev opDIGEST_ONESHOT : Nat := 0x1425
/-- The opcode RNG_GET. -/
abbrev opRNG_GET : Nat := 0x1500
/-- The opcode RNG_STATUS. -/
abbrev opRNG_STATUS : Nat := 0x1501
/-- The opcode STREAM_CREATE. -/
abbrev opSTREAM_CREATE : Nat := 0x2000
/-- The opcode STREAM_MODIFY. -/
abbrev opSTREAM_MODIFY : Nat := 0x2001
/-- The opcode STREAM_DELETE. -/
abbrev opSTREAM_DELETE : Nat := 0x2002
/-- The opcode STREAM_STATS. -/
abbrev opSTREAM_STATS : Nat := 0x2003
/-- The opcode PORT_CONFIG. -/
abbrev opPORT_CONFIG : Nat := 0x2010
/-- The opcode MACSEC_SA_INSTALL. -/
abbrev opMACSEC_SA_INSTALL : Nat := 0x2011
/-- The opcode EVENT_SIGN_POLICY. -/
abbrev opEVENT_SIGN_POLICY : Nat := 0x2020
/-- The opcode INSTANCE_CREATE. -/
abbrev opINSTANCE_CREATE : Nat := 0x3000
/-- The opcode INSTANCE_SHARE_SET. -/
abbrev opINSTANCE_SHARE_SET : Nat := 0x3001
/-- The opcode INSTANCE_QUIESCE. -/
abbrev opINSTANCE_QUIESCE : Nat := 0x3002
/-- The opcode INSTANCE_REMOVE. -/
abbrev opINSTANCE_REMOVE : Nat := 0x3003
/-- The opcode INSTANCE_RESET. -/
abbrev opINSTANCE_RESET : Nat := 0x3004
/-- The opcode PAIR_ESTABLISH. -/
abbrev opPAIR_ESTABLISH : Nat := 0x3100
/-- The opcode CASTLE. -/
abbrev opCASTLE : Nat := 0x3101
/-- The opcode PAIR_STATUS. -/
abbrev opPAIR_STATUS : Nat := 0x3102
/-- The opcode FAULT_LOG_READ. -/
abbrev opFAULT_LOG_READ : Nat := 0x3200
/-- The opcode FAULT_CLEAR. -/
abbrev opFAULT_CLEAR : Nat := 0x3201
/-- The opcode SELFTEST. -/
abbrev opSELFTEST : Nat := 0x3202
/-- The opcode MICROCODE_LOAD. -/
abbrev opMICROCODE_LOAD : Nat := 0x3203

/-- Opcodes 0x0000 to 0x01ff. -/
def opsAdmin : List OpInfo :=
  [
   ⟨opHELLO, true, 15, false, (1, 0), 0, false, false, false, false, .never,
     [⟨0x0010, true, false, some 4⟩, ⟨0x0011, false, false, none⟩], [[1]]⟩,
   ⟨opCAPS, true, 15, false, (1, 0), 0, false, false, false, false, .never,
     [], [[1]]⟩,
   ⟨opREADY_QUERY, true, 15, false, (1, 0), 0, false, false, false, false, .never,
     [], [[1]]⟩,
   ⟨opFW_STATUS, true, 15, false, (1, 0), 0, false, false, false, false, .never,
     [], [[1]]⟩,
   ⟨opMANIFEST_LOAD, true, 5, true, (1, 1), 0, false, false, false, false, .never,
     [⟨0x0110, true, false, none⟩], [[1]]⟩,
   ⟨opMANIFEST_ACTIVATE, true, 5, true, (1, 1), 0, false, false, false, false, .never,
     [⟨0x0111, true, false, some 4⟩, ⟨0x0114, false, false, some 8⟩], [[1]]⟩,
   ⟨opMANIFEST_QUERY, true, 13, false, (1, 1), 0, false, false, false, false, .never,
     [], [[1]]⟩]

/-- Opcodes 0x0200 to 0x0fff. -/
def opsKeys : List OpInfo :=
  [
   ⟨opKEY_DERIVE, false, 3, true, (1, 0), 0, true, false, false, false, .never,
     [⟨0x00b0, true, false, some 1⟩, ⟨0x00b1, false, false, some 2⟩, ⟨0x00b2, false, false, none⟩, ⟨0x00b3,
      false, false, none⟩, ⟨0x00b4, false, false, some 1⟩, ⟨0x00b5, false, false, some 1⟩, ⟨0x00b6, false,
      false, some 8⟩, ⟨0x00b7, false, false, some 4⟩, ⟨0x00c6, false, false, some 1⟩], [[2]]⟩,
   ⟨opKEY_INVALIDATE, false, 3, true, (1, 0), 0, true, false, false, false, .never,
     [⟨0x00c2, false, false, some 1⟩, ⟨0x0004, false, false, some 2⟩], [[2]]⟩,
   ⟨opKEY_UPDATE_APPLY, true, 5, true, (1, 0), 0, false, false, false, true, .never,
     [⟨0x00bf, true, false, none⟩], [[1], [2], [23], [7, 8, 9, 10], [14]]⟩,
   ⟨opKEY_IMPORT_WRAPPED, true, 3, true, (1, 0), 0, true, false, false, false, .never,
     [⟨0x00b9, true, false, none⟩, ⟨0x00ba, true, false, some 1⟩, ⟨0x00b4, true, false, some 1⟩, ⟨0x00b5, true,
      false, some 1⟩, ⟨0x00b6, true, false, some 8⟩, ⟨0x00b7, false, false, some 4⟩, ⟨0x00c6, false, false, some
      1⟩], [[1], [2]]⟩,
   ⟨opKEY_ATTEST, true, 3, false, (1, 0), 0, true, false, false, false, .never,
     [⟨0x00bc, true, false, some 32⟩], [[1], [2], [23], [7, 8, 9, 10], [14]]⟩,
   ⟨opKEY_INFO, false, 3, false, (1, 0), 0, true, false, false, false, .never,
     [⟨0x00b1, false, false, some 2⟩, ⟨0x0004, false, false, some 2⟩], [[2]]⟩,
   ⟨opKEY_GENERATE, true, 3, true, (1, 0), 0, false, false, false, false, .always,
     [⟨0x00b4, true, false, some 1⟩, ⟨0x00b5, true, false, some 1⟩, ⟨0x00b6, true, false, some 8⟩, ⟨0x00b7,
      false, false, some 4⟩, ⟨0x00c6, false, false, some 1⟩], [[1], [2]]⟩,
   ⟨opKEY_EXPORT_PUBLIC, true, 3, false, (1, 0), 0, true, false, false, false, .never,
     [⟨0x00c3, true, false, some 1⟩], [[1], [2]]⟩,
   ⟨opCHALLENGE_RESPOND, true, 5, true, (1, 0), 0, true, false, false, false, .never,
     [⟨0x00bc, true, false, some 32⟩], [[1], [2], [23], [7, 8, 9, 10], [14]]⟩]

/-- Opcodes 0x1000 to 0x10ff. -/
def opsLattice : List OpInfo :=
  [
   ⟨opMLKEM_KEYGEN, false, 3, true, (1, 0), 1, true, false, false, false, .always,
     [⟨0x0050, true, false, some 2⟩], [[7, 8, 9, 10]]⟩,
   ⟨opMLKEM_ENCAPS, false, 3, false, (1, 0), 1, false, false, false, false, .always,
     [⟨0x0050, true, false, some 2⟩, ⟨0x0051, true, false, none⟩, ⟨0x0054, false, false, some 8⟩], [[7, 8, 9,
      10]]⟩,
   ⟨opMLKEM_DECAPS, false, 3, false, (1, 0), 1, true, false, false, false, .always,
     [⟨0x0050, true, false, some 2⟩, ⟨0x0052, true, false, none⟩, ⟨0x0054, false, false, some 8⟩], [[7, 8, 9,
      10]]⟩,
   ⟨opMLDSA_KEYGEN, false, 3, true, (1, 0), 1, true, false, false, false, .always,
     [⟨0x0050, true, false, some 2⟩], [[7, 8, 9, 10]]⟩,
   ⟨opMLDSA_SIGN, false, 3, true, (1, 0), 1, true, true, false, false, .always,
     [⟨0x0050, true, false, some 2⟩, ⟨0x0059, false, false, some 1⟩, ⟨0x0056, false, false, none⟩, ⟨0x0057,
      false, false, none⟩, ⟨0x0058, false, false, some 64⟩, ⟨0x005c, false, false, some 1⟩], [[7, 8, 9, 10]]⟩,
   ⟨opMLDSA_VERIFY, false, 3, false, (1, 0), 1, true, true, false, true, .never,
     [⟨0x0050, true, false, some 2⟩, ⟨0x0051, false, false, none⟩, ⟨0x0055, true, false, none⟩, ⟨0x0056, false,
      false, none⟩, ⟨0x0057, false, false, none⟩, ⟨0x0058, false, false, some 64⟩], [[7, 8, 9, 10]]⟩,
   ⟨opFNDSA_VERIFY, false, 3, false, (2, 2), 1, false, true, false, true, .never,
     [⟨0x0050, true, false, some 2⟩, ⟨0x0051, true, false, none⟩, ⟨0x0055, true, false, none⟩, ⟨0x0056, false,
      false, none⟩], [[7, 8, 9, 10]]⟩,
   ⟨opHYBRID_KEM_ENCAPS, false, 3, false, (2, 1), 1, false, false, false, false, .always,
     [⟨0x005b, true, false, some 1⟩, ⟨0x0051, true, false, none⟩, ⟨0x0054, false, false, some 8⟩], [[7, 8, 9,
      10]]⟩,
   ⟨opHYBRID_KEM_DECAPS, false, 3, false, (2, 1), 1, true, false, false, false, .always,
     [⟨0x005b, true, false, some 1⟩, ⟨0x005a, true, false, some 8⟩, ⟨0x0052, true, false, none⟩, ⟨0x0054, false,
      false, some 8⟩], [[7, 8, 9, 10]]⟩,
   ⟨opCOMPOSITE_SIGN, false, 3, true, (2, 1), 1, true, true, false, false, .always,
     [⟨0x005b, true, false, some 1⟩, ⟨0x005a, true, false, some 8⟩, ⟨0x0059, false, false, some 1⟩, ⟨0x0056,
      false, false, none⟩, ⟨0x005c, false, false, some 1⟩], [[7, 8, 9, 10]]⟩,
   ⟨opCOMPOSITE_VERIFY, false, 3, false, (2, 1), 1, false, true, false, true, .never,
     [⟨0x005b, true, false, some 1⟩, ⟨0x0051, true, false, none⟩, ⟨0x0055, true, false, none⟩, ⟨0x0056, false,
      false, none⟩], [[7, 8, 9, 10]]⟩]

/-- Opcodes 0x1100 to 0x11ff. -/
def opsHash : List OpInfo :=
  [
   ⟨opSLHDSA_SIGN, false, 3, true, (1, 0), 2, true, true, false, false, .always,
     [⟨0x0050, true, false, some 2⟩, ⟨0x0059, false, false, some 1⟩, ⟨0x0056, false, false, none⟩, ⟨0x0057,
      false, false, none⟩], [[11, 12]]⟩,
   ⟨opSLHDSA_VERIFY, false, 3, false, (1, 0), 2, true, true, false, true, .never,
     [⟨0x0050, true, false, some 2⟩, ⟨0x0051, false, false, none⟩, ⟨0x0055, true, false, none⟩, ⟨0x0056, false,
      false, none⟩, ⟨0x0057, false, false, none⟩], [[11, 12]]⟩,
   ⟨opSLHDSA_KEYGEN, false, 3, true, (1, 0), 2, true, false, false, false, .always,
     [⟨0x0050, true, false, some 2⟩], [[11, 12]]⟩,
   ⟨opLMS_SIGN, false, 3, true, (2, 0), 2, true, true, false, false, .always,
     [], [[11, 12], [23], [4]]⟩,
   ⟨opLMS_VERIFY, false, 3, false, (2, 0), 2, false, true, false, true, .never,
     [⟨0x0051, true, false, none⟩, ⟨0x0055, true, false, none⟩], [[11, 12]]⟩,
   ⟨opLMS_KEYGEN, false, 3, true, (2, 0), 2, true, false, false, false, .always,
     [⟨0x0060, true, false, none⟩], [[11, 12], [23], [4]]⟩,
   ⟨opHBS_RESERVE_STATUS, false, 3, false, (2, 0), 2, true, false, false, false, .never,
     [], [[11, 12], [23], [4]]⟩,
   ⟨opXMSS_SIGN, false, 3, true, (2, 0), 2, true, true, false, false, .always,
     [], [[11, 12], [23], [4]]⟩,
   ⟨opXMSS_VERIFY, false, 3, false, (2, 0), 2, false, true, false, true, .never,
     [⟨0x0051, true, false, none⟩, ⟨0x0055, true, false, none⟩], [[11, 12]]⟩,
   ⟨opXMSS_KEYGEN, false, 3, true, (2, 0), 2, true, false, false, false, .always,
     [⟨0x0060, true, false, none⟩], [[11, 12], [23], [4]]⟩]

/-- Opcodes 0x1200 to 0x12ff. -/
def opsCode : List OpInfo :=
  [
   ⟨opMCE_KEYGEN, false, 3, true, (2, 0), 3, true, false, true, false, .always,
     [⟨0x0050, true, false, some 2⟩], [[13]]⟩,
   ⟨opMCE_ENCAPS, false, 3, false, (2, 0), 3, true, false, false, false, .always,
     [⟨0x0050, true, false, some 2⟩, ⟨0x0051, false, false, none⟩, ⟨0x0070, false, false, some 8⟩, ⟨0x0073,
      false, false, some 1⟩, ⟨0x0054, false, false, some 8⟩], [[13]]⟩,
   ⟨opMCE_DECAPS, false, 3, false, (2, 0), 3, true, false, false, false, .always,
     [⟨0x0050, true, false, some 2⟩, ⟨0x0052, true, false, none⟩, ⟨0x0054, false, false, some 8⟩], [[13]]⟩,
   ⟨opHQC_KEYGEN, false, 3, true, (2, 0), 3, true, false, false, false, .always,
     [⟨0x0050, true, false, some 2⟩], [[13]]⟩,
   ⟨opHQC_ENCAPS, false, 3, false, (2, 0), 3, false, false, false, false, .always,
     [⟨0x0050, true, false, some 2⟩, ⟨0x0051, true, false, none⟩, ⟨0x0054, false, false, some 8⟩], [[13]]⟩,
   ⟨opHQC_DECAPS, false, 3, false, (2, 0), 3, true, false, false, false, .always,
     [⟨0x0050, true, false, some 2⟩, ⟨0x0052, true, false, none⟩, ⟨0x0054, false, false, some 8⟩], [[13]]⟩]

/-- Opcodes 0x1300 to 0x13ff. -/
def opsClassical : List OpInfo :=
  [
   ⟨opBN_MODEXP, false, 3, false, (1, 0), 4, false, false, false, false, .never,
     [⟨0x0081, true, false, none⟩, ⟨0x0082, true, false, none⟩, ⟨0x0084, true, false, none⟩], [[14]]⟩,
   ⟨opBN_MODMUL, false, 3, false, (1, 0), 4, false, false, false, false, .never,
     [⟨0x0081, true, false, none⟩, ⟨0x0082, true, false, none⟩, ⟨0x0083, true, false, none⟩], [[14]]⟩,
   ⟨opBN_MODINV, false, 3, false, (1, 0), 4, false, false, false, false, .never,
     [⟨0x0081, true, false, none⟩, ⟨0x0082, true, false, none⟩], [[14]]⟩,
   ⟨opRSA_PRIVATE, false, 3, true, (1, 0), 4, true, false, false, false, .always,
     [⟨0x0087, true, false, some 1⟩, ⟨0x0057, false, false, none⟩, ⟨0x0088, false, false, some 2⟩, ⟨0x008a,
      false, false, none⟩], [[14]]⟩,
   ⟨opRSA_PUBLIC, false, 3, false, (1, 0), 4, false, false, false, true, .oaep,
     [⟨0x0081, true, false, none⟩, ⟨0x0084, true, false, none⟩, ⟨0x0087, true, false, some 1⟩, ⟨0x0057, false,
      false, none⟩, ⟨0x0055, false, false, none⟩, ⟨0x0088, false, false, some 2⟩, ⟨0x008a, false, false, none⟩],
      [[14]]⟩,
   ⟨opRSA_KEYGEN, false, 3, true, (1, 0), 4, true, false, false, false, .always,
     [⟨0x0086, true, false, some 2⟩], [[14]]⟩,
   ⟨opECDSA_SIGN, false, 3, true, (1, 0), 4, true, true, false, false, .always,
     [⟨0x0080, true, false, some 1⟩, ⟨0x0088, false, false, some 2⟩, ⟨0x0057, false, false, none⟩, ⟨0x0059,
      false, false, some 1⟩, ⟨0x0089, false, false, some 1⟩], [[14]]⟩,
   ⟨opECDSA_VERIFY, false, 3, false, (1, 0), 4, true, true, false, true, .never,
     [⟨0x0080, true, false, some 1⟩, ⟨0x0051, false, false, none⟩, ⟨0x0055, true, false, none⟩, ⟨0x0088, false,
      false, some 2⟩, ⟨0x0057, false, false, none⟩, ⟨0x0089, false, false, some 1⟩], [[14]]⟩,
   ⟨opECDH, false, 3, false, (1, 0), 4, true, false, false, false, .always,
     [⟨0x0080, true, false, some 1⟩, ⟨0x0051, true, false, none⟩, ⟨0x0054, false, false, some 8⟩], [[14]]⟩,
   ⟨opEC_KEYGEN, false, 3, true, (1, 0), 4, true, false, false, false, .always,
     [⟨0x0080, true, false, some 1⟩], [[14]]⟩,
   ⟨opX25519, false, 3, false, (1, 0), 4, true, false, false, false, .always,
     [⟨0x0051, true, false, none⟩, ⟨0x0054, false, false, some 8⟩], [[14]]⟩,
   ⟨opX448, false, 3, false, (2, 0), 4, true, false, false, false, .always,
     [⟨0x0051, true, false, none⟩, ⟨0x0054, false, false, some 8⟩], [[14]]⟩,
   ⟨opEDDSA_SIGN, false, 3, true, (2, 0), 4, true, true, false, false, .always,
     [⟨0x0080, true, false, some 1⟩, ⟨0x0056, false, false, none⟩, ⟨0x0057, false, false, none⟩], [[14]]⟩,
   ⟨opEDDSA_VERIFY, false, 3, false, (2, 0), 4, true, true, false, true, .never,
     [⟨0x0080, true, false, some 1⟩, ⟨0x0051, false, false, none⟩, ⟨0x0055, true, false, none⟩, ⟨0x0056, false,
      false, none⟩, ⟨0x0057, false, false, none⟩], [[14]]⟩]

/-- Opcodes 0x1400 to 0x1fff. DIGEST_SAVE and DIGEST_RESTORE take input fragments, as R423 says of every opcode there, and
use no byte of them. Mark: DESIGN CHOICE (log entry 109). -/
def opsBulk : List OpInfo :=
  [
   ⟨opAES_GCM_ENC, false, 3, false, (1, 0), 5, true, true, true, false, .ivGen,
     [⟨0x0098, false, false, some 12⟩, ⟨0x0099, false, false, some 1⟩, ⟨0x009a, false, false, some 8⟩, ⟨0x009b,
      false, false, some 1⟩], [[15]]⟩,
   ⟨opAES_GCM_DEC, false, 3, false, (1, 0), 5, true, true, true, true, .never,
     [⟨0x0098, true, false, some 12⟩, ⟨0x009a, false, false, some 8⟩, ⟨0x009c, true, false, none⟩], [[15]]⟩,
   ⟨opAES_CTR, false, 3, false, (1, 0), 5, true, true, true, false, .never,
     [⟨0x0098, true, false, some 16⟩, ⟨0x009d, false, false, some 1⟩], [[15]]⟩,
   ⟨opAES_CBC_ENC, false, 3, false, (1, 0), 5, true, true, true, false, .never,
     [⟨0x0098, true, false, some 16⟩], [[15]]⟩,
   ⟨opAES_CBC_DEC, false, 3, false, (1, 0), 5, true, true, true, false, .never,
     [⟨0x0098, true, false, some 16⟩], [[15]]⟩,
   ⟨opAES_XTS_ENC, false, 3, false, (1, 0), 5, true, true, true, false, .never,
     [⟨0x009f, true, false, some 16⟩, ⟨0x00a0, true, false, some 4⟩], [[15]]⟩,
   ⟨opAES_XTS_DEC, false, 3, false, (1, 0), 5, true, true, true, false, .never,
     [⟨0x009f, true, false, some 16⟩, ⟨0x00a0, true, false, some 4⟩], [[15]]⟩,
   ⟨opAES_CMAC, false, 3, false, (1, 0), 5, true, true, false, false, .never,
     [⟨0x009b, false, false, some 1⟩, ⟨0x009c, false, false, none⟩], [[15]]⟩,
   ⟨opAES_GMAC, false, 3, false, (2, 0), 5, true, true, false, false, .ivGen,
     [⟨0x0098, false, false, some 12⟩, ⟨0x0099, false, false, some 1⟩, ⟨0x009b, false, false, some 1⟩, ⟨0x009c,
      false, false, none⟩], [[15]]⟩,
   ⟨opDIGEST_UPDATE, false, 3, false, (1, 0), 6, true, true, false, false, .never,
     [⟨0x0091, true, false, some 4⟩, ⟨0x0090, false, false, some 1⟩, ⟨0x0092, false, false, some 4⟩, ⟨0x0093,
      false, false, none⟩, ⟨0x0094, false, false, none⟩], [[16]]⟩,
   ⟨opDIGEST_FINAL, false, 3, false, (1, 0), 6, false, true, false, false, .never,
     [⟨0x0091, true, false, some 4⟩], [[16]]⟩,
   ⟨opDIGEST_SAVE, false, 3, false, (1, 0), 6, false, true, false, false, .never,
     [⟨0x0091, true, false, some 4⟩], [[16]]⟩,
   ⟨opDIGEST_RESTORE, false, 3, false, (1, 0), 6, false, true, false, false, .never,
     [⟨0x0091, true, false, some 4⟩, ⟨0x0097, true, false, some 272⟩], [[16]]⟩,
   ⟨opMAC_VERIFY, false, 3, false, (1, 0), 6, false, true, false, true, .never,
     [⟨0x0091, true, false, some 4⟩, ⟨0x0096, true, false, none⟩], [[16]]⟩,
   ⟨opDIGEST_ONESHOT, false, 3, false, (2, 2), 6, true, true, false, false, .never,
     [⟨0x0090, true, false, some 1⟩, ⟨0x0092, false, false, some 4⟩, ⟨0x0093, false, false, none⟩, ⟨0x0094,
      false, false, none⟩, ⟨0x0096, false, false, none⟩], [[16]]⟩,
   ⟨opRNG_GET, false, 3, false, (1, 0), 0, false, false, true, false, .always,
     [⟨0x00d0, true, false, some 4⟩], [[3]]⟩,
   ⟨opRNG_STATUS, false, 3, false, (1, 0), 0, false, false, false, false, .never,
     [], []⟩]

/-- Opcodes 0x2000 to 0x2fff. -/
def opsStreams : List OpInfo :=
  [
   ⟨opSTREAM_CREATE, true, 5, true, (1, 0), 0, true, false, false, false, .never,
     [⟨0x00e0, true, false, some 4⟩, ⟨0x00e1, true, false, some 1⟩, ⟨0x00e2, true, false, some 1⟩, ⟨0x00e3,
      true, false, some 2⟩, ⟨0x00e4, true, false, some 2⟩, ⟨0x00e5, true, false, some 24⟩, ⟨0x00e6, true, false,
      some 1⟩, ⟨0x00e7, false, false, some 2⟩, ⟨0x00e8, false, false, some 4⟩, ⟨0x00e9, false, false, some 8⟩,
      ⟨0x00ea, false, false, some 8⟩, ⟨0x0051, false, false, none⟩], [[1], [21]]⟩,
   ⟨opSTREAM_MODIFY, true, 5, true, (1, 0), 0, true, false, false, false, .never,
     [⟨0x00e0, true, false, some 4⟩, ⟨0x00e6, false, false, some 1⟩, ⟨0x00e7, false, false, some 2⟩, ⟨0x00e4,
      false, false, some 2⟩, ⟨0x00e9, false, false, some 8⟩, ⟨0x00ea, false, false, some 8⟩, ⟨0x00eb, false,
      false, some 1⟩, ⟨0x00ec, false, false, some 1⟩], [[1], [21]]⟩,
   ⟨opSTREAM_DELETE, true, 5, true, (1, 0), 0, false, false, false, false, .never,
     [⟨0x00e0, true, false, some 4⟩], [[1], [21]]⟩,
   ⟨opSTREAM_STATS, true, 13, false, (1, 0), 0, false, false, false, false, .never,
     [⟨0x00e0, true, false, some 4⟩], [[1]]⟩,
   ⟨opPORT_CONFIG, true, 5, true, (1, 0), 0, false, false, false, false, .never,
     [⟨0x00fc, true, true, some 12⟩], [[1]]⟩,
   ⟨opMACSEC_SA_INSTALL, true, 5, true, (1, 1), 0, true, false, false, false, .never,
     [⟨0x00e3, true, false, some 2⟩, ⟨0x00f4, true, false, some 8⟩, ⟨0x00f5, true, false, some 1⟩, ⟨0x00f6,
      true, false, some 1⟩, ⟨0x00f7, true, false, some 1⟩, ⟨0x00f8, true, false, some 8⟩, ⟨0x00f9, false, false,
      some 4⟩, ⟨0x00fa, false, false, some 12⟩, ⟨0x00fb, false, false, some 4⟩], [[1]]⟩,
   ⟨opEVENT_SIGN_POLICY, true, 5, true, (2, 0), 0, true, false, false, false, .never,
     [⟨0x00ee, true, false, some 2⟩, ⟨0x0050, false, false, some 2⟩, ⟨0x005b, false, false, some 1⟩, ⟨0x005a,
      false, false, some 8⟩, ⟨0x00f0, true, false, none⟩, ⟨0x00f1, false, false, some 3⟩, ⟨0x0004, false, false,
      some 2⟩, ⟨0x00f3, false, false, some 1⟩], [[1], [21]]⟩]

/-- Opcodes 0x3000 to 0x3fff. -/
def opsSystem : List OpInfo :=
  [
   ⟨opINSTANCE_CREATE, true, 5, true, (1, 0), 0, false, false, false, false, .never,
     [⟨0x0004, true, false, some 2⟩, ⟨0x0130, false, false, none⟩, ⟨0x0131, false, false, some 1⟩, ⟨0x0132,
      false, false, some 4⟩, ⟨0x0133, false, false, some 4⟩, ⟨0x0134, false, false, some 8⟩], [[1], [2]]⟩,
   ⟨opINSTANCE_SHARE_SET, true, 5, true, (1, 0), 0, false, false, false, false, .never,
     [⟨0x0004, true, false, some 2⟩, ⟨0x0130, false, false, none⟩, ⟨0x0131, false, false, some 1⟩, ⟨0x0132,
      false, false, some 4⟩, ⟨0x0133, false, false, some 4⟩, ⟨0x0134, false, false, some 8⟩], [[1], [2]]⟩,
   ⟨opINSTANCE_QUIESCE, true, 5, true, (1, 0), 0, false, false, false, false, .never,
     [⟨0x0004, true, false, some 2⟩, ⟨0x0135, false, false, some 4⟩, ⟨0x0136, false, false, some 1⟩], [[1],
      [2]]⟩,
   ⟨opINSTANCE_REMOVE, true, 5, true, (1, 0), 0, false, false, false, false, .never,
     [⟨0x0004, true, false, some 2⟩, ⟨0x0136, false, false, some 1⟩], [[1], [2]]⟩,
   ⟨opINSTANCE_RESET, true, 5, true, (1, 0), 0, false, false, false, false, .never,
     [⟨0x0004, true, false, some 2⟩, ⟨0x0136, false, false, some 1⟩], [[1], [2]]⟩,
   ⟨opPAIR_ESTABLISH, true, 5, true, (1, 0), 0, false, false, false, false, .never,
     [⟨0x0140, false, false, some 2⟩, ⟨0x0141, false, false, some 32⟩, ⟨0x0142, false, false, some 1⟩, ⟨0x0143,
      false, false, some 1⟩, ⟨0x0144, false, false, some 1⟩, ⟨0x0145, false, false, some 1⟩, ⟨0x0146, false,
      false, some 19⟩, ⟨0x0147, false, false, some 4⟩], [[1], [22], [23]]⟩,
   ⟨opCASTLE, true, 5, true, (1, 0), 0, false, false, false, false, .never,
     [⟨0x0149, false, false, some 8⟩, ⟨0x0147, false, false, some 4⟩], [[1], [22], [23]]⟩,
   ⟨opPAIR_STATUS, true, 15, false, (1, 0), 0, false, false, false, false, .never,
     [], [[1]]⟩,
   ⟨opFAULT_LOG_READ, true, 13, false, (1, 0), 0, false, false, false, false, .never,
     [⟨0x0152, true, false, some 8⟩, ⟨0x0153, true, false, some 2⟩, ⟨0x0154, true, false, some 1⟩], [[1]]⟩,
   ⟨opFAULT_CLEAR, true, 5, true, (1, 0), 0, false, false, false, false, .never,
     [⟨0x0157, false, false, some 1⟩, ⟨0x0158, false, false, some 2⟩, ⟨0x0159, false, false, some 1⟩], [[1]]⟩,
   ⟨opSELFTEST, true, 13, true, (1, 0), 0, false, false, false, true, .never,
     [⟨0x0150, true, false, some 4⟩], [[1]]⟩,
   ⟨opMICROCODE_LOAD, true, 5, true, (1, 0), 0, false, false, false, true, .never,
     [⟨0x0120, true, false, none⟩, ⟨0x0121, true, false, some 1⟩, ⟨0x0122, false, false, some 1⟩, ⟨0x0123,
      false, false, some 1⟩, ⟨0x0124, false, false, some 8⟩], [[1], [4], [23]]⟩]

/-- The opcode table (R128). -/
def opTable : List OpInfo :=
  opsAdmin ++ opsKeys ++ opsLattice ++ opsHash ++ opsCode ++ opsClassical ++ opsBulk ++ opsStreams ++ opsSystem

/-- The row of an opcode; `none` for a number that is not assigned (R129). -/
def opInfo (code : Nat) : Option OpInfo := opTable.find? fun o => o.code == code

/-- A version is at least another. -/
def versionGe (a b : Nat × Nat) : Bool := a.1 > b.1 || (a.1 == b.1 && a.2 ≥ b.2)

/-- The opcode exists at a negotiated version (R121, step 3; R127). -/
def OpInfo.exists_ (o : OpInfo) (v : Nat × Nat) : Bool := versionGe v o.since

/-- A job whose parameters direct a result into a slot (R130): DEST_SLOT or PEER_SLOT, where the opcode takes it. -/
def OpInfo.fillsSlot (o : OpInfo) (ts : List Tlv) : Bool :=
  [0x0054, 0x0070].any fun t => (o.tlvs.any fun x => x.type == t) && tlvHas ts t

/-- The job's opcode and parameters can complete RNG_UNAVAILABLE (R493, R641). -/
def OpInfo.needsRng (o : OpInfo) (ts : List Tlv) : Bool :=
  match o.rng with
  | .never => false
  | .always => true
  | .oaep => tlvNat ts 0x0087 0 == 3
  | .ivGen => tlvHas ts 0x0099

/-- The job is a verdict job (R119): by its opcode, or by the TLV that asks for a comparison. -/
def OpInfo.isVerdict (o : OpInfo) (ts : List Tlv) : Bool :=
  if o.code = opAES_CMAC ∨ o.code = opAES_GMAC then tlvHas ts 0x009C
  else if o.code = opDIGEST_ONESHOT then tlvHas ts 0x0096
  else if o.code = opRSA_PUBLIC then tlvNat ts 0x0087 0 == 1 || tlvNat ts 0x0087 0 == 2
  else o.verdict

end Sys2Proof.Machine
end

