-- ==== Sys2Proof/Machine/Times.lean ====
section
/-!
DEFINITION. The base packs of the firmware image (R379): the opcode-table entries of each microcoded cluster, with the
times of the engine chapters in cycles, and which packs implement an opcode (R121, R210, R385).
-/

namespace Sys2Proof.Machine

/-- One opcode-table entry (R378): opcode, parameter, flags, O, S, A, I, F, S_B, block bytes, block cycles. -/
def ot (opcode param flags o s a i f sb blockBytes blockCycles : Nat) : OpTime :=
  { opcode := opcode, param := param, flags := flags, o := o, s := s, a := a, i := i, f := f, sb := sb,
    blockBytes := blockBytes, blockCycles := blockCycles }

/-- The base pack of the PE clusters, with the times of R229, R250, R251 and R252; FN-DSA is not in it (R240).
Mark: DESIGN CHOICE (log entry 48). -/
def baseOpsPe : List OpTime :=
  [ot 0x1000 512 4 1662 0 0 0 0 0 0 0,
   ot 0x1001 512 4 1562 0 0 0 0 0 0 0,
   ot 0x1002 512 4 1762 0 0 0 0 0 0 0,
   ot 0x1000 768 4 2062 0 0 0 0 0 0 0,
   ot 0x1001 768 4 1904 0 0 0 0 0 0 0,
   ot 0x1002 768 4 2222 0 0 0 0 0 0 0,
   ot 0x1000 1024 4 2662 0 0 0 0 0 0 0,
   ot 0x1001 1024 4 2462 0 0 0 0 0 0 0,
   ot 0x1002 1024 4 3333 0 0 0 0 0 0 0,
   ot 0x1010 44 4 3162 0 0 0 0 0 0 0,
   ot 0x1011 44 5 0 1300 600 576 400 300 136 26,
   ot 0x1012 44 2 2250 0 0 0 0 0 136 26,
   ot 0x1010 65 4 4362 0 0 0 0 0 0 0,
   ot 0x1011 65 5 0 2000 1000 960 500 400 136 26,
   ot 0x1012 65 2 3333 0 0 0 0 0 136 26,
   ot 0x1010 87 4 6162 0 0 0 0 0 0 0,
   ot 0x1011 87 5 0 3800 2100 2016 700 500 136 26,
   ot 0x1012 87 2 5050 0 0 0 0 0 136 26,
   ot 0x1030 1 4 1562 0 0 0 0 0 0 0,
   ot 0x1031 1 4 1762 0 0 0 0 0 0 0,
   ot 0x1030 2 4 1904 0 0 0 0 0 0 0,
   ot 0x1031 2 4 2222 0 0 0 0 0 0 0,
   ot 0x1030 3 4 2462 0 0 0 0 0 0 0,
   ot 0x1031 3 4 3333 0 0 0 0 0 0 0,
   ot 0x1030 17 4 1904 0 0 0 0 0 0 0,
   ot 0x1031 17 4 2222 0 0 0 0 0 0 0,
   ot 0x1030 18 4 2462 0 0 0 0 0 0 0,
   ot 0x1031 18 4 3333 0 0 0 0 0 0 0,
   ot 0x1032 33 5 0 1300 600 576 400 300 136 26,
   ot 0x1033 33 2 2250 0 0 0 0 0 136 26,
   ot 0x1032 34 5 0 1300 600 576 400 300 136 26,
   ot 0x1033 34 2 2250 0 0 0 0 0 136 26,
   ot 0x1032 35 5 0 2000 1000 960 500 400 136 26,
   ot 0x1033 35 2 3333 0 0 0 0 0 136 26,
   ot 0x1032 36 5 0 2000 1000 960 500 400 136 26,
   ot 0x1033 36 2 3333 0 0 0 0 0 136 26,
   ot 0x1032 37 5 0 3800 2100 2016 700 500 136 26,
   ot 0x1033 37 2 5050 0 0 0 0 0 136 26,
   ot 0x1032 38 5 0 3800 2100 2016 700 500 136 26,
   ot 0x1033 38 2 5050 0 0 0 0 0 136 26]

/-- The base pack of the ME clusters, with the times of R293, R294 and R295. -/
def baseOpsMe : List OpTime :=
  [ot 0x1102 17 4 1212053 0 0 0 0 0 0 0,
   ot 0x1100 17 4 9090000 0 0 0 0 0 64 160,
   ot 0x1101 17 2 11111 0 0 0 0 0 64 160,
   ot 0x1102 33 4 521585 0 0 0 0 0 0 0,
   ot 0x1100 33 4 3843918 0 0 0 0 0 136 60,
   ot 0x1101 33 2 4667 0 0 0 0 0 136 60,
   ot 0x1102 18 4 36688 0 0 0 0 0 0 0,
   ot 0x1100 18 4 454545 0 0 0 0 0 64 160,
   ot 0x1101 18 2 33577 0 0 0 0 0 64 160,
   ot 0x1102 34 4 25901 0 0 0 0 0 0 0,
   ot 0x1100 34 4 202123 0 0 0 0 0 136 60,
   ot 0x1101 34 2 14102 0 0 0 0 0 136 60,
   ot 0x1102 19 4 1755950 0 0 0 0 0 0 0,
   ot 0x1100 19 4 15650707 0 0 0 0 0 64 160,
   ot 0x1101 19 2 16069 0 0 0 0 0 64 160,
   ot 0x1102 35 4 750961 0 0 0 0 0 0 0,
   ot 0x1100 35 4 6610761 0 0 0 0 0 136 60,
   ot 0x1101 35 2 6749 0 0 0 0 0 136 60,
   ot 0x1102 20 4 45186 0 0 0 0 0 0 0,
   ot 0x1100 20 4 720384 0 0 0 0 0 64 160,
   ot 0x1101 20 2 48701 0 0 0 0 0 64 160,
   ot 0x1102 36 4 29485 0 0 0 0 0 0 0,
   ot 0x1100 36 4 314235 0 0 0 0 0 136 60,
   ot 0x1101 36 2 20454 0 0 0 0 0 136 60,
   ot 0x1102 21 4 1158939 0 0 0 0 0 0 0,
   ot 0x1100 21 4 13632317 0 0 0 0 0 64 160,
   ot 0x1101 21 2 23882 0 0 0 0 0 64 160,
   ot 0x1102 37 4 499185 0 0 0 0 0 0 0,
   ot 0x1100 37 4 5759551 0 0 0 0 0 136 60,
   ot 0x1101 37 2 10030 0 0 0 0 0 136 60,
   ot 0x1102 22 4 89338 0 0 0 0 0 0 0,
   ot 0x1100 22 4 1453116 0 0 0 0 0 64 160,
   ot 0x1101 22 2 49564 0 0 0 0 0 64 160,
   ot 0x1102 38 4 48105 0 0 0 0 0 0 0,
   ot 0x1100 38 4 623248 0 0 0 0 0 136 60,
   ot 0x1101 38 2 20817 0 0 0 0 0 136 60,
   ot 0x1110 5 4 2694 0 0 0 0 0 64 160,
   ot 0x1111 5 2 2456 0 0 0 0 0 64 160,
   ot 0x1110 13 4 2291 0 0 0 0 0 136 60,
   ot 0x1111 13 2 2200 0 0 0 0 0 136 60,
   ot 0x1110 6 4 3051 0 0 0 0 0 64 160,
   ot 0x1111 6 2 2684 0 0 0 0 0 64 160,
   ot 0x1110 14 4 2441 0 0 0 0 0 136 60,
   ot 0x1111 14 2 2295 0 0 0 0 0 136 60,
   ot 0x1110 7 4 4655 0 0 0 0 0 64 160,
   ot 0x1111 7 2 3705 0 0 0 0 0 64 160,
   ot 0x1110 15 4 3115 0 0 0 0 0 136 60,
   ot 0x1111 15 2 2724 0 0 0 0 0 136 60,
   ot 0x1110 8 4 25000 0 0 0 0 0 64 160,
   ot 0x1111 8 2 16667 0 0 0 0 0 64 160,
   ot 0x1110 16 4 11660 0 0 0 0 0 136 60,
   ot 0x1111 16 2 8168 0 0 0 0 0 136 60,
   ot 0x1110 1 4 2919 0 0 0 0 0 64 160,
   ot 0x1111 1 2 2600 0 0 0 0 0 64 160,
   ot 0x1110 9 4 2386 0 0 0 0 0 136 60,
   ot 0x1111 9 2 2260 0 0 0 0 0 136 60,
   ot 0x1110 2 4 3385 0 0 0 0 0 64 160,
   ot 0x1111 2 2 2896 0 0 0 0 0 64 160,
   ot 0x1110 10 4 2582 0 0 0 0 0 136 60,
   ot 0x1111 10 2 2384 0 0 0 0 0 136 60,
   ot 0x1110 3 4 5487 0 0 0 0 0 64 160,
   ot 0x1111 3 2 4235 0 0 0 0 0 64 160,
   ot 0x1110 11 4 3465 0 0 0 0 0 136 60,
   ot 0x1111 11 2 2947 0 0 0 0 0 136 60,
   ot 0x1110 4 4 32085 0 0 0 0 0 64 160,
   ot 0x1111 4 2 21175 0 0 0 0 0 64 160,
   ot 0x1110 12 4 14636 0 0 0 0 0 136 60,
   ot 0x1111 12 2 10062 0 0 0 0 0 136 60,
   ot 0x1120 1 4 12462 0 0 0 0 0 64 160,
   ot 0x1121 1 2 8677 0 0 0 0 0 64 160,
   ot 0x1120 2 4 12462 0 0 0 0 0 64 160,
   ot 0x1121 2 2 8677 0 0 0 0 0 64 160,
   ot 0x1120 3 4 12462 0 0 0 0 0 64 160,
   ot 0x1121 3 2 8677 0 0 0 0 0 64 160,
   ot 0x1120 4 4 12462 0 0 0 0 0 64 160,
   ot 0x1121 4 2 34708 0 0 0 0 0 64 160,
   ot 0x1120 5 4 12462 0 0 0 0 0 64 160,
   ot 0x1121 5 2 69416 0 0 0 0 0 64 160,
   ot 0x1120 13 4 9964 0 0 0 0 0 64 160,
   ot 0x1121 13 2 7086 0 0 0 0 0 64 160,
   ot 0x1120 14 4 9964 0 0 0 0 0 64 160,
   ot 0x1121 14 2 7086 0 0 0 0 0 64 160,
   ot 0x1120 15 4 9964 0 0 0 0 0 64 160,
   ot 0x1121 15 2 7086 0 0 0 0 0 64 160,
   ot 0x1120 16 4 6394 0 0 0 0 0 136 60,
   ot 0x1121 16 2 4812 0 0 0 0 0 136 60,
   ot 0x1120 17 4 6394 0 0 0 0 0 136 60,
   ot 0x1121 17 2 4812 0 0 0 0 0 136 60,
   ot 0x1120 18 4 6394 0 0 0 0 0 136 60,
   ot 0x1121 18 2 4812 0 0 0 0 0 136 60,
   ot 0x1120 19 4 5345 0 0 0 0 0 136 60,
   ot 0x1121 19 2 4144 0 0 0 0 0 136 60,
   ot 0x1120 20 4 5345 0 0 0 0 0 136 60,
   ot 0x1121 20 2 4144 0 0 0 0 0 136 60,
   ot 0x1120 21 4 5345 0 0 0 0 0 136 60,
   ot 0x1121 21 2 4144 0 0 0 0 0 136 60,
   ot 0x1120 33 4 9964 0 0 0 0 0 64 160,
   ot 0x1121 33 2 14172 0 0 0 0 0 64 160,
   ot 0x1120 34 4 9964 0 0 0 0 0 64 160,
   ot 0x1121 34 2 28344 0 0 0 0 0 64 160,
   ot 0x1120 35 4 9964 0 0 0 0 0 64 160,
   ot 0x1121 35 2 14172 0 0 0 0 0 64 160,
   ot 0x1120 36 4 9964 0 0 0 0 0 64 160,
   ot 0x1121 36 2 28344 0 0 0 0 0 64 160,
   ot 0x1120 37 4 9964 0 0 0 0 0 64 160,
   ot 0x1121 37 2 56688 0 0 0 0 0 64 160,
   ot 0x1120 41 4 6394 0 0 0 0 0 136 60,
   ot 0x1121 41 2 9624 0 0 0 0 0 136 60,
   ot 0x1120 42 4 6394 0 0 0 0 0 136 60,
   ot 0x1121 42 2 19248 0 0 0 0 0 136 60,
   ot 0x1120 43 4 6394 0 0 0 0 0 136 60,
   ot 0x1121 43 2 9624 0 0 0 0 0 136 60,
   ot 0x1120 44 4 6394 0 0 0 0 0 136 60,
   ot 0x1121 44 2 19248 0 0 0 0 0 136 60,
   ot 0x1120 45 4 6394 0 0 0 0 0 136 60,
   ot 0x1121 45 2 38496 0 0 0 0 0 136 60,
   ot 0x1120 49 4 5345 0 0 0 0 0 136 60,
   ot 0x1121 49 2 8288 0 0 0 0 0 136 60,
   ot 0x1120 50 4 5345 0 0 0 0 0 136 60,
   ot 0x1121 50 2 16576 0 0 0 0 0 136 60,
   ot 0x1120 51 4 5345 0 0 0 0 0 136 60,
   ot 0x1121 51 2 8288 0 0 0 0 0 136 60,
   ot 0x1120 52 4 5345 0 0 0 0 0 136 60,
   ot 0x1121 52 2 16576 0 0 0 0 0 136 60,
   ot 0x1120 53 4 5345 0 0 0 0 0 136 60,
   ot 0x1121 53 2 33152 0 0 0 0 0 136 60]

/-- K of a stateful set (R294), by its LM-OTS typecode; for XMSS by whether it is of SHA-256, and n. -/
def lmsLeafCost (ots : Nat) : Nat :=
  ([1019, 1485, 3587, 30185, 794, 1151, 2755, 23100, 486, 682, 1565, 12736, 391, 541, 1215, 9760] : List Nat).getD (ots - 1) 0

/-- K of an XMSS set (R294). -/
def xmssLeafCost (sha2 : Bool) (n : Nat) : Nat :=
  if n = 24 then (if sha2 then 8064 else 3445) else if sha2 then 10562 else 4494

/-- The base pack of CE-C0, with the times of R316, R317 and R318. -/
def baseOpsCe : List OpTime :=
  [ot 0x1200 1 4 0 0 0 0 0 0 0 0,
   ot 0x1201 1 4 17000 0 0 0 0 0 0 0,
   ot 0x1202 1 4 14000 0 0 0 0 0 0 0,
   ot 0x1200 2 4 0 0 0 0 0 0 0 0,
   ot 0x1201 2 4 17000 0 0 0 0 0 0 0,
   ot 0x1202 2 4 14000 0 0 0 0 0 0 0,
   ot 0x1200 3 4 0 0 0 0 0 0 0 0,
   ot 0x1201 3 4 33000 0 0 0 0 0 0 0,
   ot 0x1202 3 4 27000 0 0 0 0 0 0 0,
   ot 0x1200 4 4 0 0 0 0 0 0 0 0,
   ot 0x1201 4 4 33000 0 0 0 0 0 0 0,
   ot 0x1202 4 4 27000 0 0 0 0 0 0 0,
   ot 0x1200 5 4 0 0 0 0 0 0 0 0,
   ot 0x1201 5 4 62500 0 0 0 0 0 0 0,
   ot 0x1202 5 4 41666 0 0 0 0 0 0 0,
   ot 0x1200 6 4 0 0 0 0 0 0 0 0,
   ot 0x1201 6 4 62500 0 0 0 0 0 0 0,
   ot 0x1202 6 4 41666 0 0 0 0 0 0 0,
   ot 0x1200 7 4 0 0 0 0 0 0 0 0,
   ot 0x1201 7 4 80000 0 0 0 0 0 0 0,
   ot 0x1202 7 4 44000 0 0 0 0 0 0 0,
   ot 0x1200 8 4 0 0 0 0 0 0 0 0,
   ot 0x1201 8 4 80000 0 0 0 0 0 0 0,
   ot 0x1202 8 4 44000 0 0 0 0 0 0 0,
   ot 0x1210 128 4 2600 0 0 0 0 0 0 0,
   ot 0x1211 128 4 4000 0 0 0 0 0 0 0,
   ot 0x1212 128 4 5600 0 0 0 0 0 0 0,
   ot 0x1210 192 4 4200 0 0 0 0 0 0 0,
   ot 0x1211 192 4 7143 0 0 0 0 0 0 0,
   ot 0x1212 192 4 10000 0 0 0 0 0 0 0,
   ot 0x1210 256 4 6500 0 0 0 0 0 0 0,
   ot 0x1211 256 4 11500 0 0 0 0 0 0 0,
   ot 0x1212 256 4 16000 0 0 0 0 0 0 0]

/-- The base pack of BN-C0, with the times of R345, R346, R347 and R349; RSA_PUBLIC takes the longer exponent's time. -/
def baseOpsBn : List OpTime :=
  [ot 0x1300 256 0 10624 0 0 0 0 0 0 0,
   ot 0x1301 256 0 488 0 0 0 0 0 0 0,
   ot 0x1302 256 0 3400 0 0 0 0 0 0 0,
   ot 0x1300 512 0 22848 0 0 0 0 0 0 0,
   ot 0x1301 512 0 512 0 0 0 0 0 0 0,
   ot 0x1302 512 0 7200 0 0 0 0 0 0 0,
   ot 0x1300 1024 0 55360 0 0 0 0 0 0 0,
   ot 0x1301 1024 0 560 0 0 0 0 0 0 0,
   ot 0x1302 1024 0 16000 0 0 0 0 0 0 0,
   ot 0x1311 1024 2 22000 0 0 0 0 0 0 0,
   ot 0x1300 1536 0 98624 0 0 0 0 0 0 0,
   ot 0x1301 1536 0 608 0 0 0 0 0 0 0,
   ot 0x1302 1536 0 26000 0 0 0 0 0 0 0,
   ot 0x1311 1536 2 26160 0 0 0 0 0 0 0,
   ot 0x1300 2048 0 152640 0 0 0 0 0 0 0,
   ot 0x1301 2048 0 656 0 0 0 0 0 0 0,
   ot 0x1302 2048 0 38000 0 0 0 0 0 0 0,
   ot 0x1311 2048 2 30320 0 0 0 0 0 0 0,
   ot 0x1300 3072 0 292928 0 0 0 0 0 0 0,
   ot 0x1301 3072 0 752 0 0 0 0 0 0 0,
   ot 0x1302 3072 0 66000 0 0 0 0 0 0 0,
   ot 0x1311 3072 2 38640 0 0 0 0 0 0 0,
   ot 0x1300 4096 0 476224 0 0 0 0 0 0 0,
   ot 0x1301 4096 0 848 0 0 0 0 0 0 0,
   ot 0x1302 4096 0 100000 0 0 0 0 0 0 0,
   ot 0x1311 4096 2 46960 0 0 0 0 0 0 0,
   ot 0x1300 6144 0 1749056 0 0 0 0 0 0 0,
   ot 0x1301 6144 0 1616 0 0 0 0 0 0 0,
   ot 0x1302 6144 0 300000 0 0 0 0 0 0 0,
   ot 0x1311 6144 2 113520 0 0 0 0 0 0 0,
   ot 0x1300 8192 0 3019840 0 0 0 0 0 0 0,
   ot 0x1301 8192 0 2000 0 0 0 0 0 0 0,
   ot 0x1302 8192 0 520000 0 0 0 0 0 0 0,
   ot 0x1311 8192 2 146800 0 0 0 0 0 0 0,
   ot 0x1300 12288 0 9696320 0 0 0 0 0 0 0,
   ot 0x1301 12288 0 3920 0 0 0 0 0 0 0,
   ot 0x1302 12288 0 1500000 0 0 0 0 0 0 0,
   ot 0x1311 12288 2 313200 0 0 0 0 0 0 0,
   ot 0x1300 16384 0 22570048 0 0 0 0 0 0 0,
   ot 0x1301 16384 0 6608 0 0 0 0 0 0 0,
   ot 0x1302 16384 0 3200000 0 0 0 0 0 0 0,
   ot 0x1311 16384 2 546160 0 0 0 0 0 0 0,
   ot 0x1310 2048 4 80000 0 0 0 0 0 0 0,
   ot 0x1312 2048 4 0 0 0 0 0 0 0 0,
   ot 0x1310 3072 4 208333 0 0 0 0 0 0 0,
   ot 0x1312 3072 4 0 0 0 0 0 0 0 0,
   ot 0x1310 4096 4 400000 0 0 0 0 0 0 0,
   ot 0x1312 4096 4 0 0 0 0 0 0 0 0,
   ot 0x1323 1 4 9000 0 0 0 0 0 0 0,
   ot 0x1320 1 4 16667 0 0 0 0 0 64 80,
   ot 0x1321 1 2 33333 0 0 0 0 0 64 80,
   ot 0x1322 1 4 15000 0 0 0 0 0 0 0,
   ot 0x1323 2 4 18000 0 0 0 0 0 0 0,
   ot 0x1320 2 4 34000 0 0 0 0 0 64 80,
   ot 0x1321 2 2 68000 0 0 0 0 0 64 80,
   ot 0x1322 2 4 31000 0 0 0 0 0 0 0,
   ot 0x1323 3 4 37000 0 0 0 0 0 0 0,
   ot 0x1320 3 4 70000 0 0 0 0 0 64 80,
   ot 0x1321 3 2 140000 0 0 0 0 0 64 80,
   ot 0x1322 3 4 64000 0 0 0 0 0 0 0,
   ot 0x1323 5 4 9800 0 0 0 0 0 0 0,
   ot 0x1320 5 4 18000 0 0 0 0 0 64 80,
   ot 0x1321 5 2 36000 0 0 0 0 0 64 80,
   ot 0x1322 5 4 16500 0 0 0 0 0 0 0,
   ot 0x1323 6 4 19500 0 0 0 0 0 0 0,
   ot 0x1320 6 4 37000 0 0 0 0 0 64 80,
   ot 0x1321 6 2 74000 0 0 0 0 0 64 80,
   ot 0x1322 6 4 34000 0 0 0 0 0 0 0,
   ot 0x1323 7 4 32000 0 0 0 0 0 0 0,
   ot 0x1320 7 4 62000 0 0 0 0 0 64 80,
   ot 0x1321 7 2 124000 0 0 0 0 0 64 80,
   ot 0x1322 7 4 57000 0 0 0 0 0 0 0,
   ot 0x1323 16 4 7000 0 0 0 0 0 0 0,
   ot 0x1330 16 4 12500 0 0 0 0 0 0 0,
   ot 0x1323 17 4 22000 0 0 0 0 0 0 0,
   ot 0x1331 17 4 40000 0 0 0 0 0 0 0,
   ot 0x1323 32 4 7500 0 0 0 0 0 0 0,
   ot 0x1332 32 4 11111 0 0 0 0 0 128 160,
   ot 0x1333 32 2 25000 0 0 0 0 0 128 80,
   ot 0x1323 33 4 23000 0 0 0 0 0 0 0,
   ot 0x1332 33 4 36000 0 0 0 0 0 136 160,
   ot 0x1333 33 2 80000 0 0 0 0 0 136 80]

/-- The base pack of an engine class (R387). Mark: DESIGN CHOICE (log entry 48). -/
def basePack (cls : Nat) : Pack :=
  { cls := cls, uw := Config.standardNat "MC.baseUw" cls [], nw := Config.standardNat "MC.baseNw" cls [],
    ops := match cls with
      | 1 => baseOpsPe
      | 2 => baseOpsMe
      | 3 => baseOpsCe
      | 4 => baseOpsBn
      | _ => [] }

/-- The engine class of a microcoded cluster, by MC_SEL index (R374). -/
def clusterClass (k : Nat) : Nat := if k < 4 then 1 else if k < 6 then 2 else if k = 6 then 3 else 4

/-- The microcoded cluster of an engine; `none` for a fixed-function one (R374). -/
def clusterOf (cls i : Nat) : Option Nat :=
  match cls with
  | 1 => some (i / 4)
  | 2 => some (4 + i / 4)
  | 3 => some 6
  | 4 => some 7
  | _ => none

/-- The ready bit of a microcoded cluster (R639). -/
def clusterReadyBit (k : Nat) : Nat := 7 + k

/-- A cluster's state. -/
def State.cluster (s : State) (k : Nat) : Cluster := tgetD s.mc.clusters k {}

/-- Change a cluster. -/
def State.onCluster (s : State) (k : Nat) (f : Cluster → Cluster) : State :=
  { s with mc := { s.mc with clusters := tput s.mc.clusters k (f (s.cluster k)) {} } }

/-- The pack that a cluster runs, or will run at start-up: the base pack until one is active.
Mark: DEDUCED (log entry 84). -/
def State.packOf (s : State) (k : Nat) : Pack := (s.cluster k).pack.getD (basePack (clusterClass k))

/-- A pack implements an opcode, with a parameter when one is given. -/
def Pack.has (p : Pack) (opcode : Nat) (param : Option Nat) : Bool :=
  p.ops.any fun t => t.opcode == opcode && param.all fun q => t.param == q

/-- The entry of an opcode and parameter in a cluster's pack. -/
def State.opTime (s : State) (k opcode param : Nat) : Option OpTime :=
  (s.packOf k).ops.find? fun t => t.opcode == opcode && t.param == param

/-- The microcoded clusters of an engine class. -/
def clustersOf (cls : Nat) : List Nat := (List.range 8).filter fun k => clusterClass k == cls

/-- The opcode that an implementation of `code` shows in the opcode table: HBS_RESERVE_STATUS, LMS_KEYGEN and
XMSS_KEYGEN run wherever their scheme's signing does. -/
def tableOpcode (code : Nat) : Nat :=
  if code = opHBS_RESERVE_STATUS ∨ code = opLMS_KEYGEN then opLMS_SIGN
  else if code = opXMSS_KEYGEN then opXMSS_SIGN
  else code

/-- Some cluster of the class implements the opcode (R121 step 3, R129, R385). Mark: DEDUCED (log entry 84). -/
def State.microcoded (s : State) (cls code : Nat) : Bool :=
  if cls = 0 ∨ cls > 4 then true
  else (clustersOf cls).any fun k => (s.packOf k).has (tableOpcode code) none

end Sys2Proof.Machine
end

