-- ==== Sys2Proof/Machine/Checks.lean ====
section
/-!
DEFINITION. Step 9 of R121 for the engine opcodes of chapters 05 to 08: for each opcode the handles it names (R446), its
longest result (R168, R222), and the conditions of its status table in table order (R226, R292, R321, R343).
-/

namespace Sys2Proof.Machine

/-- What step 9 asks of a job: the handles to approve, a status found before the result length can be computed, the
longest result TLVs and output, and the first failing condition after the key checks. -/
structure Plan where
  needs : List KeyNeed := []
  early : Option Nat := none
  resultLen : Nat := 0
  outLen : Nat := 0
  bad : Option Nat := none
  deriving DecidableEq, Repr

/-- The status of the first condition that holds. -/
def firstBad (cs : List (Bool × Nat)) : Option Nat := (cs.find? (·.1)).map (·.2)

/-- The bytes a result TLV of `n` value bytes takes (R222). -/
def tlvLen (n : Nat) : Nat := 8 + roundUp n 8

/-- PARAM_SET of a job. -/
def Job.pset (b : Job) : Nat := tlvNat b.params 0x0050 0

/-- The length of a TLV's value, if present. -/
def Job.len (b : Job) (ty : Nat) : Option Nat := (tlvGet b.params ty).map List.length

/-- A TLV's value; empty when absent. -/
def Job.val (b : Job) (ty : Nat) : Bytes := (tlvGet b.params ty).getD []

/-- A job carries a TLV. -/
def Job.has (b : Job) (ty : Nat) : Bool := tlvHas b.params ty

/-- The handle in an 8-byte TLV. -/
def Job.handleIn (b : Job) (ty : Nat) : Nat := tlvNat b.params ty 0

/-- The destination a DEST_SLOT names (R225). -/
def Job.destNeed (b : Job) : List KeyNeed :=
  if b.has 0x0054 then [{ handle := b.handleIn 0x0054, role := .dest, types := [0x01] }] else []

/-- The need of KEY_HANDLE. -/
def Job.keyNeed (b : Job) (types policy : List Nat) (pset : Option Nat) : KeyNeed :=
  { handle := b.handle, types := types, policy := policy, pset := pset }

/-- The digest length of a hash code (R219). -/
def hashLen (code : Nat) : Option Nat :=
  match code with
  | 1 => some 32 | 2 => some 48 | 3 => some 64 | 4 => some 32 | 5 => some 64 | 6 => some 32 | 7 => some 64
  | _ => none

/-- A PREHASH TLV is absent, or holds a known code and a digest of its length (R219). -/
def Job.prehashOk (b : Job) : Bool :=
  match tlvGet b.params 0x0057 with
  | none => true
  | some v => hashLen (leAt v 0 2) == some (v.length - 2) && v.length ≥ 2

/-- A 1-byte TLV is absent or at most `m`. -/
def Job.upTo (b : Job) (ty m : Nat) : Bool := tlvNat b.params ty 0 ≤ m

/-- The rows LIMIT_EXCEEDED of the message opcodes: CONTEXT over 255 bytes, a message over 2^32 − 1. -/
def Job.msgLimits (b : Job) : List (Bool × Nat) :=
  [((b.len 0x0056).any (· > 255), stLIMIT_EXCEEDED), (b.dataLen ≥ 2 ^ 32, stLIMIT_EXCEEDED)]

/-! ### Lattice (chapter 05) -/

/-- Sizes of an ML-KEM set: encapsulation key and ciphertext (R211). -/
def mlkemSizes (p : Nat) : Option (Nat × Nat) :=
  match p with
  | 512 => some (800, 768) | 768 => some (1184, 1088) | 1024 => some (1568, 1568) | _ => none

/-- Sizes of an ML-DSA set: public key and signature (R213). -/
def mldsaSizes (p : Nat) : Option (Nat × Nat) :=
  match p with
  | 44 => some (1312, 2420) | 65 => some (1952, 3309) | 87 => some (2592, 4627) | _ => none

/-- Sizes of an FN-DSA set: public key and longest signature (R240). -/
def fndsaSizes (p : Nat) : Option (Nat × Nat) :=
  match p with
  | 512 => some (897, 666) | 1024 => some (1793, 1280) | _ => none

/-- A hybrid combination (R242): the ML-KEM set, whether the classical half is P-256, public key, ciphertext. -/
def hybridOf (c : Nat) : Option (Nat × Bool × Nat × Nat) :=
  match c with
  | 0x01 => some (512, false, 832, 800) | 0x02 => some (768, false, 1216, 1120)
  | 0x03 => some (1024, false, 1600, 1600) | 0x11 => some (768, true, 1249, 1153)
  | 0x12 => some (1024, true, 1633, 1633) | _ => none

/-- A composite combination (R247): the ML-DSA set, the curve, the hash code (0 for Ed25519), public key, signature. -/
def compositeOf (c : Nat) : Option (Nat × Nat × Nat × Nat × Nat) :=
  match c with
  | 0x21 => some (44, 0x20, 0, 1344, 2484) | 0x22 => some (44, 1, 1, 1377, 2484)
  | 0x23 => some (65, 1, 1, 2017, 3373) | 0x24 => some (65, 0x20, 0, 1984, 3373)
  | 0x25 => some (87, 2, 2, 2689, 4723) | 0x26 => some (87, 0x20, 0, 2624, 4691) | _ => none

/-- COMBO of a job. -/
def Job.combo (b : Job) : Nat := tlvNat b.params 0x005B 0

/-- R221: PREHASH, MU and a message exclude each other; MU excludes CONTEXT. -/
def Job.signExclusions (b : Job) : List (Bool × Nat) :=
  [(b.has 0x0057 && b.has 0x0058, stMALFORMED), ((b.has 0x0057 || b.has 0x0058) && b.dataLen > 0, stMALFORMED),
   (b.has 0x0058 && b.has 0x0056, stMALFORMED), (!b.prehashOk, stMALFORMED)]

/-- The field length of an ECDSA or ECDH curve (R337). -/
def ecField (c : Nat) : Option Nat :=
  match c with
  | 1 => some 32 | 2 => some 48 | 3 => some 66 | 5 => some 32 | 6 => some 48 | 7 => some 64 | _ => none

/-- The slot type of a curve's keys and the value lengths it takes (R334, R442). -/
def ecSlot (c : Nat) : Nat × List Nat :=
  match c with
  | 0x10 => (0x21, [32]) | 0x11 => (0x21, [56]) | 0x20 => (0x22, [32]) | 0x21 => (0x22, [57])
  | 3 => (0x20, [32]) | _ => (0x20, [32, (ecField c).getD 32])

/-- The classical key of a hybrid or composite: its curve with the value lengths that curve's slots take (R226, R334), and
the engine and operation bits. -/
def Job.secondNeed (b : Job) (types policy : List Nat) (curve : Option Nat) : KeyNeed :=
  { handle := b.handleIn 0x005A, types := types, policy := policy, pset := curve,
    lens := (curve.map fun c => (ecSlot c).2).getD [] }

/-- Step 9 of the lattice opcodes (R220 to R226). Mark: DEDUCED (log entry 30). -/
def latticePlan (b : Job) : Plan :=
  let p := b.pset
  let shared := if b.has 0x0054 then 0 else tlvLen 32
  let pkIs := fun (n : Option Nat) => n.any fun k => b.len 0x0051 == some k
  if b.opcode = opMLKEM_KEYGEN then
    { needs := [b.keyNeed [0x10] [7, 16] (some p)], resultLen := ((mlkemSizes p).map fun z => tlvLen z.1).getD 0,
      bad := firstBad [((mlkemSizes p).isNone, stMALFORMED)] }
  else if b.opcode = opMLKEM_ENCAPS then
    { needs := b.destNeed, resultLen := ((mlkemSizes p).map fun z => tlvLen z.2 + shared).getD 0,
      bad := firstBad [((mlkemSizes p).isNone, stMALFORMED), (!pkIs ((mlkemSizes p).map (·.1)), stMALFORMED)] }
  else if b.opcode = opMLKEM_DECAPS then
    { needs := b.keyNeed [0x10] [6, 16] (some p) :: b.destNeed, resultLen := shared,
      bad := firstBad [(((mlkemSizes p).map (·.2)) != b.len 0x0052, stMALFORMED)] }
  else if b.opcode = opMLDSA_KEYGEN then
    { needs := [b.keyNeed [0x11] [7, 16] (some p)], resultLen := ((mldsaSizes p).map fun z => tlvLen z.1).getD 0,
      bad := firstBad [((mldsaSizes p).isNone, stMALFORMED)] }
  else if b.opcode = opMLDSA_SIGN then
    { needs := [b.keyNeed [0x11] [4, 16] (some p)],
      resultLen := ((mldsaSizes p).map fun z => tlvLen z.2).getD 0,
      bad := firstBad ([((mldsaSizes p).isNone || !b.upTo 0x0059 1 || !b.upTo 0x005C 1, stMALFORMED)]
        ++ b.signExclusions ++ b.msgLimits) }
  else if b.opcode = opMLDSA_VERIFY then
    { needs := if b.handle = 0 then [] else [b.keyNeed [0x11] [5, 16] (some p)],
      bad := firstBad ([((mldsaSizes p).isNone, stMALFORMED), (b.has 0x0051 != (b.handle == 0), stMALFORMED),
        (b.has 0x0051 && !pkIs ((mldsaSizes p).map (·.1)), stMALFORMED),
        ((mldsaSizes p).map (·.2) != b.len 0x0055, stMALFORMED)] ++ b.signExclusions ++ b.msgLimits) }
  else if b.opcode = opFNDSA_VERIFY then
    { bad := firstBad ([((fndsaSizes p).isNone, stMALFORMED), (!pkIs ((fndsaSizes p).map (·.1)), stMALFORMED),
        ((fndsaSizes p).any fun z => (b.len 0x0055).any fun n => n > z.2, stMALFORMED)] ++ b.msgLimits) }
  else if b.opcode = opHYBRID_KEM_ENCAPS then
    let h := hybridOf b.combo
    { needs := b.destNeed, resultLen := (h.map fun z => tlvLen z.2.2.2 + shared).getD 0,
      bad := firstBad [(h.isNone, stMALFORMED), (!pkIs (h.map (·.2.2.1)), stMALFORMED)] }
  else if b.opcode = opHYBRID_KEM_DECAPS then
    let h := hybridOf b.combo
    let ec := h.any (·.2.1)
    { needs := [b.keyNeed [0x10] [6, 16] (h.map (·.1)),
        b.secondNeed (if h.isNone then [0x20, 0x21] else if ec then [0x20] else [0x21]) [6, 19]
          (h.map fun z => if z.2.1 then 1 else 0x10)] ++ b.destNeed,
      resultLen := shared,
      bad := firstBad [(h.isNone, stMALFORMED), (h.map (·.2.2.2) != b.len 0x0052, stMALFORMED)] }
  else if b.opcode = opCOMPOSITE_SIGN then
    let c := compositeOf b.combo
    { needs := [b.keyNeed [0x11] [4, 16] (c.map (·.1)),
        b.secondNeed (match c with
          | none => [0x20, 0x22]
          | some z => if z.2.1 = 0x20 then [0x22] else [0x20]) [4, 19] (c.map (·.2.1))],
      resultLen := (c.map fun z => tlvLen z.2.2.2.2).getD 0,
      bad := firstBad ([(c.isNone || !b.upTo 0x0059 1 || !b.upTo 0x005C 1, stMALFORMED)] ++ b.msgLimits) }
  else
    let c := compositeOf b.combo
    { bad := firstBad ([(c.isNone, stMALFORMED), (!pkIs (c.map (·.2.2.2.1)), stMALFORMED),
        (c.map (·.2.2.2.2) != b.len 0x0055, stMALFORMED)] ++ b.msgLimits) }

/-! ### Hash-based (chapter 06) -/

/-- n of an SLH-DSA set, and its public key and signature sizes (R264). -/
def slhSizes (p : Nat) : Option (Nat × Nat × Nat) :=
  if p / 16 ≠ 1 ∧ p / 16 ≠ 2 then none
  else match p % 16 with
    | 1 => some (16, 32, 7856) | 2 => some (16, 32, 17088) | 3 => some (24, 48, 16224)
    | 4 => some (24, 48, 35664) | 5 => some (32, 64, 29792) | 6 => some (32, 64, 49856) | _ => none

/-- What the parameters of a stateful scheme fix (R267, R268): n, total height, heights per level from the top, public
key and signature sizes, and the parameter that its opcode-table entry carries (R378). -/
structure HbsInfo where
  n : Nat
  height : Nat
  levels : List Nat
  pk : Nat
  sig : Nat
  param : Nat
  deriving DecidableEq, Repr

/-- An LMS typecode (RFC 8554, SP 800-208): family (0 SHA-256, 1 SHAKE256), n and height.
Mark: PRESUMED (log entry 78). -/
def lmsType (t : Nat) : Option (Nat × Nat × Nat) :=
  if 5 ≤ t ∧ t < 10 then some (0, 32, 5 * (t - 4)) else if 10 ≤ t ∧ t < 15 then some (0, 24, 5 * (t - 9))
  else if 15 ≤ t ∧ t < 20 then some (1, 32, 5 * (t - 14)) else if 20 ≤ t ∧ t < 25 then some (1, 24, 5 * (t - 19))
  else none

/-- An LM-OTS typecode: family, n and the number of chains. Mark: PRESUMED (log entry 78). -/
def lmotsType (t : Nat) : Option (Nat × Nat × Nat) :=
  let p := fun (a : Nat) (l : List Nat) => l.getD (t - a) 0
  if 1 ≤ t ∧ t < 5 then some (0, 32, p 1 [265, 133, 67, 34]) else if 5 ≤ t ∧ t < 9 then some (0, 24, p 5 [200, 101, 51, 26])
  else if 9 ≤ t ∧ t < 13 then some (1, 32, p 9 [265, 133, 67, 34])
  else if 13 ≤ t ∧ t < 17 then some (1, 24, p 13 [200, 101, 51, 26]) else none

/-- The levels of an HSS key, as pairs of typecodes. Mark: PRESUMED (log entry 78). -/
def hssPairs (n : Nat) (bs : Bytes) : List (Nat × Nat) :=
  (List.range n).map fun i => (beNat (slice bs (8 * i) 4), beNat (slice bs (8 * i + 4) 4))

/-- Read HBS_PARAMS of an LMS or HSS key (R267, R288). Mark: PRESUMED (log entry 78). -/
def lmsInfo (v : Bytes) : Option HbsInfo :=
  let l := leAt v 0 1
  let ps := hssPairs l (v.drop 1)
  let ls := ps.map fun q => (lmsType q.1, lmotsType q.2)
  match ls.head? with
  | some (some (f, n, _), some (_, _, chains)) =>
    let ok := ls.all fun q => match q with
      | (some (f1, n1, _), some (f2, n2, _)) => f1 == f && f2 == f && n1 == n && n2 == n
      | _ => false
    let hs := ls.map fun q => (q.1.map fun z => z.2.2).getD 0
    let one := fun (h p : Nat) => 12 + n + n * p + n * h
    let sigs := (ls.map fun q => one ((q.1.map fun z => z.2.2).getD 0) ((q.2.map fun z => z.2.2).getD chains)).sum
    if v.length = 1 + 8 * l ∧ 1 ≤ l ∧ l ≤ 8 ∧ ok ∧ hs.sum ≤ 40 then
      some { n := n, height := hs.sum, levels := hs, pk := 28 + n, sig := 4 + (l - 1) * (24 + n) + sigs,
             param := (ps.head?.map (·.2)).getD 0 }
    else none
  | _ => none

/-- An XMSS or XMSS^MT OID (RFC 8391, SP 800-208): n, total height and layers. OIDs 1 to 3 name XMSS sets.
Mark: PRESUMED (log entry 78). -/
def xmssOid (o : Nat) : Option (Nat × Nat × Nat) :=
  if 1 ≤ o ∧ o ≤ 3 then some (32, [10, 16, 20].getD (o - 1) 0, 1)
  else if o = 4 then some (32, 40, 4) else if o = 5 then some (32, 40, 8)
  else if 0x0D ≤ o ∧ o ≤ 0x0F then some (24, [10, 16, 20].getD (o - 0x0D) 0, 1)
  else if 0x10 ≤ o ∧ o ≤ 0x12 then some (32, [10, 16, 20].getD (o - 0x10) 0, 1)
  else if 0x13 ≤ o ∧ o ≤ 0x15 then some (24, [10, 16, 20].getD (o - 0x13) 0, 1)
  else
    let mt := fun (a n : Nat) => if a ≤ o ∧ o < a + 5 then
      some (n, [20, 20, 40, 40, 40].getD (o - a) 0, [2, 4, 2, 4, 8].getD (o - a) 0) else none
    (mt 0x21 24).orElse fun _ => (mt 0x29 32).orElse fun _ => mt 0x31 24

/-- Read HBS_PARAMS of an XMSS or XMSS^MT key (R268, R288). Mark: PRESUMED (log entry 78). -/
def xmssInfo (v : Bytes) : Option HbsInfo :=
  match xmssOid (beNat v) with
  | some (n, h, d) =>
    let chains := if n = 32 then 67 else 51
    if v.length = 4 then
      some { n := n, height := h, levels := List.replicate d (h / d), pk := 4 + 2 * n,
             sig := if d = 1 then 4 + n + (chains + h) * n else ceilDiv h 8 + n + d * (chains + h / d) * n,
             param := beNat v % 65536 }
    else none
  | none => none

/-- The XMSS^MT set of SHA-256 with n = 32 that shares its OID, 1 to 3, with an XMSS set (R268): total height and layers.
Mark: PRESUMED (log entry 78). -/
def xmssMtTwin (o : Nat) : Option (Nat × Nat) := ([none, some (20, 2), some (20, 4), some (40, 2)] : List _).getD o none

/-- The layers by which an XMSS^MT verification of a signature under an OID from 1 to 3 takes longer than the XMSS one (R294),
told from the signature's length: 1 for XMSS. Mark: DEDUCED (log entry 116). -/
def xmssLayers (o sigLen : Nat) : Nat :=
  match xmssMtTwin o with
  | some (h, d) => if sigLen = ceilDiv h 8 + 32 + d * (67 + h / d) * 32 then d else 1
  | none => 1

/-- HBS_PARAMS of the scheme an opcode names. -/
def hbsInfo (xmss : Bool) (v : Bytes) : Option HbsInfo := if xmss then xmssInfo v else lmsInfo v

/-- The heights of the trees that a key's cache holds (R284): the top tree, and two of every lower level, each with K (R294). -/
def treeCosts (xmss : Bool) (v : Bytes) : List (Nat × Nat) :=
  match hbsInfo xmss v with
  | none => []
  | some i =>
    let o := beNat v
    let sha2 := o ≤ 15 || 0x21 ≤ o && o < 0x26
    let one := i.levels.zipIdx.map fun h => (h.1,
      if xmss then xmssLeafCost sha2 i.n else lmsLeafCost (((hssPairs 8 (v.drop 1)).map (·.2)).getD h.2 0))
    one ++ one.drop 1

/-- The cycles of a key generation or rebuild on one ME (R287): 2^t × K for each tree. -/
def buildCycles (xmss : Bool) (v : Bytes) : Nat := ((treeCosts xmss v).map fun t => 2 ^ t.1 * t.2).sum

/-- The LM-OTS typecodes of an HSS signature's levels, from the top (R294): each level's signature names its own, and is
followed by the next level's public key. Mark: PRESUMED (log entry 78). -/
def hssLevels : Nat → Bytes → List Nat
  | 0, _ => []
  | l + 1, bs =>
    let ots := beNat (slice bs 4 4)
    match lmotsType ots with
    | none => [ots]
    | some (_, n, p) =>
      let h := ((lmsType (beNat (slice bs (8 + n + n * p) 4))).map (·.2.2)).getD 0
      ots :: hssLevels l (bs.drop (12 + n + n * p + n * h + 24 + n))

/-- The bytes a tree of height `t` takes in P4 (R284). -/
def treeBytes (n t : Nat) : Nat := roundUp (n * (2 ^ (t + 1) - 1)) 4096

/-- The bytes a key's trees take in P4: the top tree, and an active and a next tree of each lower level (R284). -/
def keyTreeBytes (i : HbsInfo) : Nat :=
  match i.levels with
  | [] => 0
  | t :: r => treeBytes i.n t + (r.map fun h => 2 * treeBytes i.n h).sum

/-- The size of partition 2, 3, 4 or 6 in force since the last reset, in bytes (R50, R51).
Mark: DEDUCED (log entry 82). -/
def State.partBytes (s : State) (p : Nat) : Nat :=
  (match s.pw.partsNow with
   | [a, b, c, d] => if p = 2 then a else if p = 3 then b else if p = 4 then c else d
   | _ => if p = 2 then 16 else if p = 3 then 256 else if p = 4 then 32 else 64) * 2 ^ 28

/-- The room a key's trees take in P4. -/
def HbsKey.treeBytes (k : HbsKey) : Nat := ((hbsInfo k.xmss k.params).map keyTreeBytes).getD 0

/-- The bytes of P4 that registered keys hold. -/
def State.treesUsed (s : State) : Nat :=
  (s.hbs.keys.map fun e => if e.2.tree = .full then 0 else e.2.treeBytes).sum

/-- The node behind a handle's slot. -/
def State.nodeOf (s : State) (h : Nat) : Option Nat := (s.slot (hSlot h)).node

/-- The stateful key behind a handle's slot, if it is registered. -/
def State.hbsOf (s : State) (h : Nat) : Option HbsKey := (s.nodeOf h).bind fun n => tget s.hbs.keys n

/-- The public key of a stateful scheme starts with its parameters; what they are, and whether the length agrees. -/
def hbsPkOk (xmss : Bool) (pk : Bytes) : Bool :=
  if xmss then (xmssInfo (pk.take 4)).any fun i => i.pk == pk.length
  else match lmsType (beNat (slice pk 4 4)), lmotsType (beNat (slice pk 8 4)) with
    | some (f, n, _), some (g, m, _) => f == g && n == m && pk.length == 28 + n && 1 ≤ beNat (pk.take 4)
        && beNat (pk.take 4) ≤ 8
    | _, _ => false

/-- The conditions of stateful signing in the order of R292. -/
def State.signState (s : State) (b : Job) : List (Bool × Nat) :=
  let k := s.hbsOf b.handle
  [(s.tw.version == 1 && s.tw.role == 2, stPERMISSION), (k.any fun k => k.tree == .full, stLIMIT_EXCEEDED),
   (b.dataLen ≥ 2 ^ 32, stLIMIT_EXCEEDED),
   (k.all fun k => k.tree != .ready, stNOT_READY)]

/-- Step 9 of the ME opcodes (R289, R292). Mark: DEDUCED (log entry 79). -/
def hashPlan (s : State) (b : Job) : Plan :=
  let p := b.pset
  let z := slhSizes p
  if b.opcode = opSLHDSA_KEYGEN then
    { needs := [b.keyNeed [0x12] [7, 17] (some p)], resultLen := (z.map fun z => tlvLen z.2.1).getD 0,
      bad := firstBad [(z.isNone, stMALFORMED)] }
  else if b.opcode = opSLHDSA_SIGN then
    { needs := [b.keyNeed [0x12] [4, 17] (some p)], resultLen := (z.map fun z => tlvLen z.2.2).getD 0,
      bad := firstBad ([(z.isNone || !b.upTo 0x0059 1 || !b.prehashOk, stMALFORMED),
        (b.has 0x0057 && b.dataLen > 0, stMALFORMED)] ++ b.msgLimits) }
  else if b.opcode = opSLHDSA_VERIFY then
    { needs := if b.handle = 0 then [] else [b.keyNeed [0x12] [5, 17] (some p)],
      bad := firstBad ([(z.isNone || !b.prehashOk, stMALFORMED), (b.has 0x0051 != (b.handle == 0), stMALFORMED),
        (b.has 0x0051 && z.map (·.2.1) != b.len 0x0051, stMALFORMED), (z.map (·.2.2) != b.len 0x0055, stMALFORMED),
        (b.has 0x0057 && b.dataLen > 0, stMALFORMED)] ++ b.msgLimits) }
  else if b.opcode = opLMS_KEYGEN ∨ b.opcode = opXMSS_KEYGEN then
    let x := b.opcode == opXMSS_KEYGEN
    let v := b.val 0x0060
    let i := hbsInfo x v
    let node := s.nodeOf b.handle
    let attrs := (node.bind fun n => tget s.ks.nodes n).map (·.context)
    let known := (s.hbsOf b.handle).isSome
    { needs := [b.keyNeed [if x then 0x14 else 0x13] [7, 17] none],
      resultLen := (i.map fun i => tlvLen i.pk).getD 0,
      bad := firstBad [(attrs != some v, stKEY_POLICY), (i.isNone, stMALFORMED),
        (!known && s.hbs.keys.length ≥ 512, stLIMIT_EXCEEDED),
        (!known && i.any fun i => s.treesUsed + keyTreeBytes i > s.partBytes 4, stLIMIT_EXCEEDED)] }
  else if b.opcode = opLMS_SIGN ∨ b.opcode = opXMSS_SIGN then
    let x := b.opcode == opXMSS_SIGN
    { needs := [b.keyNeed [if x then 0x14 else 0x13] [4, 17] none],
      resultLen := (((s.hbsOf b.handle).bind fun k => hbsInfo k.xmss k.params).map fun i => tlvLen i.sig + tlvLen 8).getD 0,
      bad := firstBad (s.signState b) }
  else if b.opcode = opHBS_RESERVE_STATUS then
    { needs := [b.keyNeed [0x13, 0x14] [] none], resultLen := tlvLen 32 }
  else
    { bad := firstBad [(b.dataLen ≥ 2 ^ 32, stLIMIT_EXCEEDED),
        (!hbsPkOk (b.opcode == opXMSS_VERIFY) (b.val 0x0051), stINPUT_ENCODING)] }

/-! ### Code-based (chapter 07) -/

/-- A Classic McEliece set (R303, R306, R309): public key, sealed secret key, ciphertext, pages, P7 scratch in MiB. -/
def mceSizes (p : Nat) : Option (Nat × Nat × Nat × Nat × Nat) :=
  match (p + 1) / 2 with
  | 1 => some (261120, 6492, 96, 64, 1) | 2 => some (524160, 13608, 156, 128, 1)
  | 3 => some (1044992, 13932, 208, 256, 2) | 4 => some (1357824, 14120, 208, 332, 2) | _ => none

/-- An HQC set (R304): public key, ciphertext, unused high bits. -/
def hqcSizes (p : Nat) : Option (Nat × Nat × Nat) :=
  match p with
  | 128 => some (2249, 4433, 3) | 192 => some (4522, 8978, 5) | 256 => some (7245, 14421, 3) | _ => none

/-- The P3 pages an instance holds (R313); freed pages count until no job holds them. -/
def State.p3Used (s : State) (inst : Nat) : Nat :=
  (s.parts.peers.map fun e => if e.2.inst = inst then e.2.pages else 0).sum

/-- The P3 pages in use (CE_P3_USED). -/
def State.p3All (s : State) : Nat := (s.parts.peers.map fun e => e.2.pages).sum

/-- The P3 quota of an instance (R313). -/
def State.p3Quota (s : State) (inst : Nat) : Nat := tgetD s.parts.quota inst 0x1000000

/-- A new entry of `n` pages does not fit (R313). -/
def State.p3Short (s : State) (inst n : Nat) : Bool :=
  s.p3Used inst + n > s.p3Quota inst || s.p3All + n > s.partBytes 3 / 4096

/-- The P7 scratch quota of an instance in MiB (R545, R547). -/
def State.scratchQuota (s : State) (inst : Nat) : Nat :=
  if inst = 0 then
    131072 - (512 + 256 + 8192) - (s.partBytes 2 + s.partBytes 3 + s.partBytes 4 + s.partBytes 6) / 2 ^ 20
      - s.tenantSum aIN_SCRATCH 16
  else s.fld (inReg inst aIN_SCRATCH) 16 0

/-- The instance's P7 scratch lacks `n` bytes. -/
def State.p7Short (s : State) (inst n : Nat) : Bool :=
  (tgetD s.insts inst {}).scratch + (tgetD s.insts inst {}).zeroing + n > s.scratchQuota inst * 2 ^ 20

/-- Step 9 of the CE opcodes (R320, R321). Mark: DEDUCED (log entry 79). -/
def codePlan (s : State) (b : Job) : Plan :=
  let p := b.pset
  let z := mceSizes p
  let q := hqcSizes p
  if b.opcode = opMCE_KEYGEN then
    { needs := [b.keyNeed [0x18] [7, 18] (some p)], resultLen := tlvLen 32 + tlvLen 4,
      outLen := (z.map (·.1)).getD 0,
      bad := firstBad [(z.isNone, stMALFORMED),
        (z.any fun z => s.p7Short b.inst (z.2.2.2.2 * 2 ^ 20), stLIMIT_EXCEEDED)] }
  else if b.opcode = opMCE_ENCAPS then
    let store := tlvNat b.params 0x0073 0 == 1
    { needs := (if b.handle = 0 then [] else [b.keyNeed [0x1A] [] (some p)]) ++ b.destNeed
        ++ (if b.has 0x0070 then [{ handle := b.handleIn 0x0070, role := .dest, types := [0x1A] }] else []),
      resultLen := (if b.has 0x0070 then tlvLen 8 + tlvLen 32 else 0)
        + (if store then 0 else (z.map fun z => tlvLen z.2.2.1).getD 0 + if b.has 0x0054 then 0 else tlvLen 32),
      bad := firstBad [(z.isNone, stMALFORMED), (b.has 0x0051 && z.map (·.1) != b.len 0x0051, stMALFORMED),
        (b.has 0x0051 != (b.handle == 0), stMALFORMED), (b.has 0x0070 && !b.has 0x0051, stMALFORMED),
        (b.has 0x0073 && !b.has 0x0070 || !b.upTo 0x0073 1, stMALFORMED), (store && b.has 0x0054, stMALFORMED),
        (b.has 0x0051 && !b.has 0x0070 && s.fld aCE_CTL 16 16 == 0, stPERMISSION),
        (b.has 0x0051 && z.any fun z => s.p3Short b.inst z.2.2.2.1, stLIMIT_EXCEEDED)] }
  else if b.opcode = opMCE_DECAPS then
    { needs := b.keyNeed [0x18] [6, 18] (some p) :: b.destNeed,
      resultLen := if b.has 0x0054 then 0 else tlvLen 32,
      bad := firstBad [(z.isNone, stMALFORMED), (z.map (·.2.2.1) != b.len 0x0052, stMALFORMED)] }
  else if b.opcode = opHQC_KEYGEN then
    { needs := [b.keyNeed [0x19] [7, 18] (some p)], resultLen := (q.map fun q => tlvLen q.1).getD 0,
      bad := firstBad [(q.isNone, stMALFORMED)] }
  else if b.opcode = opHQC_ENCAPS then
    { needs := b.destNeed,
      resultLen := (q.map fun q => tlvLen q.2.1).getD 0 + if b.has 0x0054 then 0 else tlvLen 64,
      bad := firstBad [(q.isNone, stMALFORMED), (q.map (·.1) != b.len 0x0051, stMALFORMED)] }
  else
    { needs := b.keyNeed [0x19] [6, 18] (some p) :: b.destNeed,
      resultLen := if b.has 0x0054 then 0 else tlvLen 64,
      bad := firstBad [(q.isNone, stMALFORMED), (q.map (·.2.1) != b.len 0x0052, stMALFORMED)] }

/-! ### Classical (chapter 08) -/

/-- The public key length that a curve's keygen returns (R337, R338). -/
def ecPkLen (c : Nat) : Option Nat :=
  match c with
  | 0x10 => some 32 | 0x11 => some 56 | 0x20 => some 32 | 0x21 => some 57 | _ => (ecField c).map fun l => 1 + 2 * l

/-- CURVE of a job. -/
def Job.curve (b : Job) : Nat := tlvNat b.params 0x0080 0

/-- The operand length is even and from 20 to 2,048 bytes (R331). -/
def opLenOk (n : Nat) : Bool := n % 2 == 0 && 20 ≤ n && n ≤ 2048

/-- HASH of a job. -/
def Job.hash (b : Job) : Nat := tlvNat b.params 0x0088 0

/-- The hash code of a PREHASH TLV. -/
def Job.prehashCode (b : Job) : Nat := leAt (b.val 0x0057) 0 2

/-- Hash codes the BNE's hash core applies to a message (R328): all of R219 but SHAKE128.
Mark: DEDUCED (log entry 80). -/
def bneHash (c : Nat) : Bool := [1, 2, 3, 4, 5, 7].contains c

/-- The key of a curve opcode. -/
def Job.curveNeed (b : Job) (c op : Nat) : KeyNeed :=
  { handle := b.handle, types := [(ecSlot c).1], policy := [op, 19], pset := some c,
    lens := (ecSlot c).2 }

/-- A SEC 1 public key has one of the two lengths of R338. -/
def Job.ecPkBad (b : Job) (c : Nat) : Bool :=
  (b.len 0x0051).any fun n => (ecField c).all fun l => n != 1 + 2 * l && n != 1 + l

/-- Exactly one of HASH and PREHASH, with codes known and no message beside PREHASH (R342). -/
def Job.ecdsaHash (b : Job) : List (Bool × Nat) :=
  [(b.has 0x0088 == b.has 0x0057, stMALFORMED), (b.has 0x0088 && !bneHash b.hash, stMALFORMED),
   (!b.prehashOk, stMALFORMED), (b.has 0x0057 && b.dataLen > 0, stMALFORMED)]

/-- The padding rules of RSA_PRIVATE and RSA_PUBLIC (R340, R342) for a modulus of `k` bytes. -/
def Job.rsaShape (b : Job) (pub : Bool) (k : Nat) : List (Bool × Nat) :=
  let p := tlvNat b.params 0x0087 0
  let h := (hashLen b.hash).getD 0
  [(p > 3, stMALFORMED),
   ((p = 1 ∨ p = 2) && !(b.has 0x0057 && !b.has 0x0088 && !b.has 0x008A && b.prehashOk && 1 ≤ b.prehashCode
      && b.prehashCode ≤ 5 && (!pub || b.len 0x0055 == some k)), stMALFORMED),
   (p == 3 && !(b.has 0x0088 && b.has 0x008A && !b.has 0x0057 && !b.has 0x0055 && 1 ≤ b.hash && b.hash ≤ 3
      && (if pub then (b.len 0x008A).any fun n => n + 2 * h + 2 ≤ k else b.len 0x008A == some k)), stMALFORMED),
   (p == 0 && !(b.len 0x008A == some k && !b.has 0x0088 && !b.has 0x0057 && !b.has 0x0055), stMALFORMED)]

/-- Step 9 of the BNE opcodes (R342, R343). Mark: DEDUCED (log entry 79). -/
def classicalPlan (s : State) (b : Job) : Plan :=
  let n := (b.len 0x0081).getD 0
  let c := b.curve
  let shared := fun (k : Nat) => if b.has 0x0054 then 0 else tlvLen k
  if b.opcode = opBN_MODEXP then
    { resultLen := tlvLen n, bad := firstBad [(!opLenOk n, stMALFORMED), (b.len 0x0082 != some n, stMALFORMED),
        ((b.len 0x0084).all fun e => e = 0 || e > n, stMALFORMED)] }
  else if b.opcode = opBN_MODMUL then
    { resultLen := tlvLen n,
      bad := firstBad [(!opLenOk n, stMALFORMED), (b.len 0x0082 != some n || b.len 0x0083 != some n, stMALFORMED)] }
  else if b.opcode = opBN_MODINV then
    { resultLen := tlvLen n, bad := firstBad [(!opLenOk n, stMALFORMED), (b.len 0x0082 != some n, stMALFORMED)] }
  else if b.opcode = opRSA_KEYGEN then
    let bits := tlvNat b.params 0x0086 0
    { needs := [b.keyNeed [0x23] [7, 19] (some bits)], resultLen := tlvLen (bits / 8) + tlvLen 4,
      bad := firstBad [(!([2048, 3072, 4096].contains bits), stMALFORMED)] }
  else if b.opcode = opRSA_PRIVATE then
    let k := (s.slot (hSlot b.handle)).pset / 8
    let p := tlvNat b.params 0x0087 0
    { needs := [b.keyNeed [0x23] [4, 19] none],
      resultLen := tlvLen (if p = 3 then k - 2 * (hashLen b.hash).getD 0 - 2 else k),
      bad := firstBad ([(k == 0, stKEY_POLICY)] ++ b.rsaShape false k
        ++ [(p == 0 && s.fld aBN_CTL 9 9 == 0, stPERMISSION)]) }
  else if b.opcode = opRSA_PUBLIC then
    let p := tlvNat b.params 0x0087 0
    { resultLen := if p = 1 ∨ p = 2 then 0 else tlvLen n,
      bad := firstBad ([(!opLenOk n || n < 128, stMALFORMED), ((b.len 0x0084).all fun e => e = 0 || e > 32, stMALFORMED)]
        ++ b.rsaShape true n) }
  else if b.opcode = opEC_KEYGEN then
    { needs := [b.curveNeed c 7], resultLen := ((ecPkLen c).map tlvLen).getD 0,
      bad := firstBad [((ecPkLen c).isNone, stMALFORMED)] }
  else if b.opcode = opECDSA_SIGN then
    let l := (ecField c).getD 0
    { needs := [b.curveNeed c 4],
      resultLen := tlvLen (if tlvNat b.params 0x0089 0 = 1 then 2 * l + 9 else 2 * l),
      bad := firstBad ([((ecField c).isNone || !b.upTo 0x0059 1 || !b.upTo 0x0089 1, stMALFORMED)] ++ b.ecdsaHash
        ++ b.msgLimits) }
  else if b.opcode = opECDSA_VERIFY then
    let l := (ecField c).getD 0
    { needs := if b.handle = 0 then [] else [b.curveNeed c 5],
      bad := firstBad ([((ecField c).isNone || !b.upTo 0x0089 1, stMALFORMED),
        (b.has 0x0051 != (b.handle == 0), stMALFORMED), (b.ecPkBad c, stMALFORMED),
        (tlvNat b.params 0x0089 0 == 0 && b.len 0x0055 != some (2 * l), stMALFORMED)] ++ b.ecdsaHash ++ b.msgLimits) }
  else if b.opcode = opECDH then
    { needs := b.curveNeed c 6 :: b.destNeed, resultLen := shared ((ecField c).getD 0),
      bad := firstBad [((ecField c).isNone, stMALFORMED), (b.ecPkBad c, stMALFORMED),
        (c == 3 && b.has 0x0054, stMALFORMED)] }
  else if b.opcode = opX25519 then
    { needs := b.curveNeed 0x10 6 :: b.destNeed, resultLen := shared 32,
      bad := firstBad [(b.len 0x0051 != some 32, stMALFORMED)] }
  else if b.opcode = opX448 then
    { needs := b.curveNeed 0x11 6 :: b.destNeed, resultLen := shared 56,
      bad := firstBad [(b.len 0x0051 != some 56, stMALFORMED)] }
  else
    let shape : List (Bool × Nat) := [(c != 0x20 && c != 0x21, stMALFORMED), (!b.prehashOk, stMALFORMED),
      (b.has 0x0057 && b.prehashCode != (if c = 0x20 then 3 else 7), stMALFORMED),
      (b.has 0x0057 && b.dataLen > 0, stMALFORMED)]
    if b.opcode = opEDDSA_SIGN then
      { needs := [b.curveNeed c 4], resultLen := tlvLen (if c = 0x20 then 64 else 114),
        bad := firstBad (shape ++ b.msgLimits) }
    else
      { needs := if b.handle = 0 then [] else [b.curveNeed c 5],
        bad := firstBad (shape ++ [(b.has 0x0051 != (b.handle == 0), stMALFORMED),
          (b.has 0x0051 && b.len 0x0051 != ecPkLen c, stMALFORMED),
          (b.len 0x0055 != some (if c = 0x20 then 64 else 114), stMALFORMED)] ++ b.msgLimits) }

end Sys2Proof.Machine
end

