-- ==== Sys2Proof/Machine/JobOps.lean ====
section
/-!
DEFINITION. What the engine operations share: how an operation ends its job, key values, the hash codes of R219, the
expanded-key cache of the PEs (R216, R217), and the elliptic-curve operations of R334, R338 and R339 over the functions
of their standards.
-/

namespace Sys2Proof.Machine

/-- What a command answers. -/
abbrev Result := Host.Outcome State Fault Refusal

/-- Run an operation on job `j` if it runs the opcode, and end it; without such a job nothing happens.
Mark: DEDUCED (log entry 47), DESIGN CHOICE (log entry 5). -/
def runJob (s : State) (j code : Nat) (f : State → Job → State × Ending) : Result :=
  match s.job j with
  | some b =>
    if b.opcode = code ∧ b.phase = .running ∧ b.wait = .no ∧ !b.interrupted then
      let r := f s b
      .next (r.1.endJob j r.2)
    else .next s
  | none => .next s

/-- A job that ends DONE with results. -/
def done (results : List Tlv) : Ending := { status := stDONE, results := results }

/-- A job that ends with another status. -/
def failed (status : Nat) : Ending := { status := status }

/-- A verdict job that answers (R120). -/
def verdictEnd (ok : Bool) : Ending :=
  { status := if ok then stDONE else stVERIFY_FAIL, verdict := verdictOf ok }

/-- A shared secret goes to DEST_SLOT when the job names one, else into SHARED_SECRET (R225). -/
def Job.sharedEnd (b : Job) (results : List Tlv) (k : Bytes) : Ending :=
  if b.has 0x0054 then { status := stDONE, results := results, secret := some k }
  else done (results ++ [⟨0x0053, k⟩])

/-- The value of the job's first key, as its approval reserved it. -/
def Job.key (b : Job) : Bytes := b.work.headD []

/-- The value of the job's second key. -/
def Job.key2 (b : Job) : Bytes := (b.work.drop 1).headD []

/-- The digest of a message by hash code (R219). -/
def hashOf (code : Nat) (m : Bytes) : Bytes :=
  match code with
  | 1 => sha256 m
  | 2 => sha384 m
  | 3 => sha512 m
  | 4 => sha3_256 m
  | 5 => sponge 72 0x06 m 64
  | 6 => sponge 168 0x1F m 32
  | _ => shake256 m 64

/-- Bind a slot to a parameter set on first use (R215). -/
def State.bindSlot (s : State) (h pset : Nat) : State :=
  let x := s.slot (hSlot h)
  if x.gen = hGen h ∧ x.pset = 0 then s.setSlot (hSlot h) { x with pset := pset } else s

/-- The engines a job runs on: its own, or the four PEs of its cluster in fork mode (R232). -/
def Job.engines (b : Job) : List Nat :=
  if b.forkEngines ≠ [] then b.forkEngines
  else match b.engine with
    | some (c, i) => [engKey c i]
    | none => []

/-- A job with a classical half, which a BNE runs beside the PE (R245, R348). -/
def Job.twoHalves (b : Job) : Bool :=
  b.task.isNone && (b.opcode == opHYBRID_KEM_ENCAPS || b.opcode == opHYBRID_KEM_DECAPS || b.opcode == opCOMPOSITE_SIGN
    || b.opcode == opCOMPOSITE_VERIFY)

/-- The number of the engine a job runs on. -/
def Job.engineNo (b : Job) : Nat := (b.engine.map (·.2)).getD 0

/-- What an engine's own memories hold once a job has ended: a host SE or DE keeps its key register until the next grant
(R430) unless it was invalidated meanwhile (R467), every other key is zeroed; an ME keeps its working store after a verification alone (R298), a BNE its input area
(R352), a CE nothing (R321). -/
def Engine.release (cls : Nat) (verify : Bool) (live : LoadedKey → Bool) (e : Engine) : Engine :=
  { e with
    busy := none, lanes := none
    keys := if cls = 5 ∨ cls = 6 then e.keys.filter live else []
    mem := if cls = 4 then e.mem.filter fun b => b.1 ≤ bneInput.2 else if cls = 2 ∧ verify then e.mem else [] }

/-- An engine that no other job has taken is freed: its memories are wiped, the job's key-cache entries that became unusable go (R218), and a PE's
working region is wiped unless the job was a verification (R258). -/
def State.freeEngine (s : State) (j k : Nat) (verify : Bool) : State :=
  if (s.eng k).busy.any (· != j) then s
  else
    let s := (s.onEng k (·.release (k / 64) verify s.keyLive)).dropEntries k (·.doomed)
    let s := { s with seqs := tdel s.seqs k }
    if k / 64 = 1 ∧ !verify then
      let l : Lvu := tgetD s.lvus (k % 64) {}
      { s with lvus := tput s.lvus (k % 64) { mem := l.mem.filter fun c => c.1 < 0x8000 } {} }
    else s

/-- A PE job that a hybrid's PE half ends leaves its PE to other work: the BNE runs on (R245). -/
def State.freePes (s : State) (j : Nat) (b : Job) : State := b.engines.foldl (fun s k => s.freeEngine j k false) s

/-- The engine that a failed check of a job's last stage is charged to: the BNE once a hybrid's PE is free (R245).
Mark: DESIGN CHOICE (log entry 103). -/
def Job.lastSeat (b : Job) (cls i : Nat) : Nat × Nat :=
  match b.half with
  | some k => if b.opcode == opHYBRID_KEM_ENCAPS || b.opcode == opHYBRID_KEM_DECAPS then (4, k % 64) else (cls, i)
  | none => (cls, i)

/-! ### The expanded-key cache (R216, R217, R258) -/

/-- The KiB an expanded key takes, by slot type and set (R216). -/
def expandedSize (type pset : Nat) : Nat :=
  match type, pset with
  | 0x10, 512 => 3 | 0x10, 768 => 4 | 0x10, _ => 5
  | _, 44 => 13 | _, 65 => 18 | _, _ => 24

/-- The lowest place at which `size` units fit below `limit`, beside taken places given as (start, length). -/
def firstGap (size limit : Nat) (taken : List (Nat × Nat)) : Option Nat :=
  ((0 :: taken.map fun x => x.1 + x.2).filter fun b =>
    b + size ≤ limit && taken.all fun x => x.1 + x.2 ≤ b || b + size ≤ x.1).min?

/-- The places of cached entries in the key region. -/
def places (c : List CacheEntry) : List (Nat × Nat) := c.map fun e => (e.base, e.size)

/-- Evict least recently used entries, pinned ones excepted, until `size` KiB fit into the 32 KiB region (R216). -/
def evict (size : Nat) : (fuel : Nat) → List CacheEntry → List CacheEntry
  | 0, c => c
  | f + 1, c =>
    if (firstGap size 32 (places c)).isSome then c
    else match c.find? fun e => !e.pinned with
      | some e => evict size f (c.erase e)
      | none => c

/-- Put an entry into a PE's key region, evicting what must go; where the pinned entries leave no room, the key stays
uncached. Mark: DESIGN CHOICE (log entry 94). -/
def State.placeEntry (s : State) (k : Nat) (c : CacheEntry) : State :=
  let left := evict c.size 64 (s.eng k).cache
  match firstGap c.size 32 (places left) with
  | none => s
  | some base =>
    (s.dropEntries k fun x => !left.contains x).onEng k fun e => { e with cache := e.cache ++ [{ c with base := base }] }

/-- The key under which a slot's copies in P2 are sealed (R30). Mark: DESIGN CHOICE (log entry 95). -/
def State.sealingKey (s : State) (slot gen : Nat) : Bytes :=
  Config.standard "KS.sealing" 0 [s.ks.rkSeal, leBytes slot 2, leBytes gen 4, (s.slot slot).val] 32

/-- What the MAC tree of P2 holds for a copy (R54). Mark: DESIGN CHOICE (log entry 95). -/
def State.treeMac (s : State) (blob : Bytes) : Bytes := Config.standard "P2.mac" 0 [s.ks.partKeys.getD 2 [], blob] 32

/-- P2 holds a sealed copy of the key behind a handle, and can be read (R42). -/
def State.hasSealed (s : State) (h : Nat) : Bool :=
  s.ready 4 && s.parts.sealed.any fun c => c.slot == hSlot h && c.gen == hGen h

/-- Write a sealed copy into P2, where P2 has room: the engine seals it under the slot's sealing key (R30).
Mark: DESIGN CHOICE (log entry 95). -/
def State.writeSealed (s : State) (slot gen inst size : Nat) : State :=
  match firstGap size (s.partBytes 2) (s.parts.sealed.map fun c => (c.addr, c.size)) with
  | none => s
  | some a =>
    if !s.ready 4 then s
    else
      let blob := Config.standard "P2.seal" 0 [s.sealingKey slot gen, (s.slot slot).val] size
      { s with parts := { s.parts with sealed := s.parts.sealed ++
        [{ slot := slot, gen := gen, inst := inst, size := size, addr := a, blob := blob, mac := s.treeMac blob }] } }

/-- Discard some of the sealed copies. -/
def State.dropSealed (s : State) (gone : Sealed → Bool) : State :=
  { s with parts := { s.parts with sealed := s.parts.sealed.filter fun c => !gone c } }

/-- Write or replace the sealed copy of a slot's key (R306, R335). -/
def State.sealKey (s : State) (slot gen inst size : Nat) : State :=
  (s.dropSealed fun c => c.slot == slot).writeSealed slot gen inst size

/-- The first physical address of P2: P0 and P1 lie before it. Mark: DESIGN CHOICE (log entry 95). -/
def p2Base : Nat := (512 + 256) * 2 ^ 20

/-- A copy of the key behind a handle whose MAC does not verify (R54). -/
def State.badCopy (s : State) (h : Nat) : Option Sealed :=
  if s.ready 4 then s.parts.sealed.find? fun c => c.slot == hSlot h && c.gen == hGen h && c.mac != s.treeMac c.blob else none

/-- A read of a copy in P2 whose MAC does not verify (R54, R336): the copy is discarded, and each running job of its key, which
gets no data, completes FAULT_CONTAINED. Mark: DESIGN CHOICE (log entry 95). -/
def State.loseCopy (s : State) (c : Sealed) : State :=
  let js := s.jobsWhere fun b => b.phase == .running && b.engine.isSome && b.ending.isNone && b.handle != 0
    && hSlot b.handle == c.slot && hGen b.handle == c.gen
  js.foldl (fun s j => s.failJob j stFAULT_CONTAINED) (s.dropSealed (· == c))

/-- The copy at a physical address. -/
def State.copyAt (s : State) (a : Nat) : Option Sealed :=
  s.parts.sealed.find? fun c => p2Base + c.addr ≤ a && a < p2Base + c.addr + c.size

/-- The code of an engine's cluster in MASTER (R591). -/
def masterOf (cls i : Nat) : Nat := 0x20 + (if cls = 1 then i / 4 else if cls = 2 then 4 + i / 4 else if cls = 3 then 6 else 7)

/-- An engine reads the copy of a key (R54): one whose MAC does not verify is lost, and the fault raised. -/
def State.readCopy (s : State) (h cls i : Nat) : State :=
  match s.badCopy h with
  | none => s
  | some c => (s.loseCopy c).raise
      { source := 0x4F0, access := 1, kind := 0x05, master := masterOf cls i, address := p2Base + c.addr, fatal := false }

/-- The expanded-key cache of a PE's cluster is enabled (R259): with KC_EN 0 every job expands. -/
def State.cacheOn (s : State) (k : Nat) : Bool := bitAt (s.fld aPE_CTL 3 0) (k % 64 / 4)

/-- Take the expanded form of the job's key into one PE's cache: from the cache, a sealed copy or the seed (R217).
`look` counts hits and misses; keygen only leaves the entry (R215). -/
def State.expandOn (s : State) (k h inst type pset : Nat) (look : Bool) : State :=
  let i := k % 64
  let x := s.eng k
  let size := expandedSize type pset
  let is := fun (c : CacheEntry) => c.slot == hSlot h && c.gen == hGen h && c.inst == inst && c.expanded
  match if s.cacheOn k then x.cache.find? is else none with
  | some e =>
    let s := if look then s.bump aPE_KC_HIT i else s
    s.setEng k { x with cache := x.cache.erase e ++ [e] }
  | none =>
    let s := if look then s.bump aPE_KC_MISS i else s
    let s :=
      if s.cacheOn k then
        s.placeEntry k { slot := hSlot h, gen := hGen h, expanded := true, size := size, inst := inst }
      else s
    if s.fld aPE_CTL 12 12 = 1 ∧ !s.hasSealed h then s.writeSealed (hSlot h) (hGen h) inst (size * 1024) else s

/-- Take the expanded form of the job's key into every engine of the job. -/
def State.expandKey (s : State) (b : Job) (type pset : Nat) (look : Bool) : State :=
  b.engines.foldl (fun s k => s.expandOn k b.handle b.inst type pset look) s

/-! ### Curves (chapter 08) -/

/-- The private scalar or key of a curve slot (R334): an EC slot holds a seed unless its value was imported.
Mark: DEDUCED (log entry 38). -/
def ecPrivate (c : Nat) (imported : Bool) (v : Bytes) : Bytes :=
  if (ecField c).isNone ∨ imported then v
  else
    let n := Config.standardNat "EC.order" c []
    let bytes := ceilDiv (Nat.log2 n + 1) 8 + 8
    beBytes (beNat (shake256 (asciiBytes "KRYTORATI-ECKS-1" 16 ++ leBytes c 1 ++ v) bytes) % (n - 1) + 1)
      ((ecField c).getD 0)

/-- The job's first key as a curve's private scalar or key. Mark: DEDUCED (log entry 38). -/
def Job.ecKey (b : Job) (c : Nat) : Bytes := ecPrivate c (b.imported.headD false) b.key

/-- The job's second key as a curve's private scalar or key. -/
def Job.ecKey2 (b : Job) (c : Nat) : Bytes := ecPrivate c ((b.imported.drop 1).headD false) b.key2

/-- The public key of a private scalar or key, in the encoding of R338. -/
def ecPublic (c : Nat) (d : Bytes) : Bytes := Config.standard "EC.publicKey" c [d] ((ecPkLen c).getD 0)

/-- A public key passes the value checks of R344. -/
def pointOk (c : Nat) (pk : Bytes) : Bool := Config.standardCheck "EC.pointValid" c [pk]

/-- The shared secret of a curve's agreement, or `none` where R344 gives POINT_INVALID. -/
def ecAgree (c : Nat) (d pk : Bytes) : Option Bytes :=
  if c = 0x10 ∨ c = 0x11 then
    let z := Config.standard "XDH" c [d, pk] (if c = 0x10 then 32 else 56)
    if allZero z then none else some z
  else if pointOk c pk then some (Config.standard "ECDH" c [d, pk] ((ecField c).getD 0))
  else none

/-- The SEC 1 prefix of a public key agrees with its length; a compressed point needs COMPRESSED_EN (R338, R343). -/
def sec1Ok (compressed : Bool) (c : Nat) (pk : Bytes) : Bool :=
  match ecField c with
  | none => true
  | some l =>
    if pk.length = 1 + 2 * l then pk.head? == some 0x04
    else compressed && (pk.head? == some 0x02 || pk.head? == some 0x03)

/-- A DER INTEGER at the front of `b`: its value and the rest. Strict: shortest form, not negative. -/
def derInt (b : Bytes) : Option (Nat × Bytes) :=
  let n := leAt b 1 1
  let v := slice b 2 n
  if b.head? = some 0x02 ∧ 1 ≤ n ∧ n < 128 ∧ v.length = n ∧ (v.headD 0).toNat < 128
      ∧ !(v.headD 0 == 0 && n > 1 && ((v.drop 1).headD 0).toNat < 128) then
    some (beNat v, b.drop (2 + n))
  else none

/-- A strict DER Ecdsa-Sig-Value of at most 2L + 9 bytes (R338): r and s. -/
def derSig (l : Nat) (b : Bytes) : Option (Nat × Nat) :=
  let long := (b.drop 1).headD 0 == 0x81
  let n := if long then leAt b 2 1 else leAt b 1 1
  let body := b.drop (if long then 3 else 2)
  if b.length ≤ 2 * l + 9 ∧ b.head? = some 0x30 ∧ (if long then 128 ≤ n else n < 128) ∧ body.length = n then
    match derInt body with
    | some (r, rest) =>
      match derInt rest with
      | some (t, []) => some (r, t)
      | _ => none
    | none => none
  else none

/-- A non-negative number as a DER INTEGER. -/
def derOfNat (n : Nat) : Bytes :=
  let v := beBytes n (Nat.log2 n / 8 + 1)
  let v := if (v.headD 0).toNat ≥ 128 then 0 :: v else v
  0x02 :: BitVec.ofNat 8 v.length :: v

/-- r and s as a DER Ecdsa-Sig-Value (R338). -/
def derOfSig (r t : Nat) : Bytes :=
  let body := derOfNat r ++ derOfNat t
  if body.length < 128 then 0x30 :: BitVec.ofNat 8 body.length :: body
  else 0x30 :: 0x81 :: BitVec.ofNat 8 body.length :: body

/-- A check on the form of an input that fails 200 cycles after start (R343). -/
def formCheck (s : State) (b : Job) : Option Nat :=
  let comp := s.fld aBN_CTL 8 8 == 1
  let pkBad := b.has 0x0051 && !sec1Ok comp b.curve (b.val 0x0051)
  if b.opcode = opECDH ∧ pkBad then some stINPUT_ENCODING
  else if b.opcode = opECDSA_VERIFY ∧ (pkBad ∨ tlvNat b.params 0x0089 0 = 1
      ∧ (derSig ((ecField b.curve).getD 0) (b.val 0x0055)).isNone) then some stINPUT_ENCODING
  else none

/-- The message that both halves of a composite signature sign (R248). -/
def compositeMessage (combo : Nat) (ctx m : Bytes) : Bytes :=
  asciiBytes "KRYTORATI-CSIG-1" 16 ++ leBytes combo 1 ++ leBytes ctx.length 1 ++ ctx ++ m

/-- An ECDSA signature r ‖ s over a digest, with `extra` as the additional data of RFC 6979 (R339). -/
def ecdsaSign (c : Nat) (d digest extra : Bytes) : Bytes :=
  Config.standard "ECDSA.sign" c [d, digest, extra] (2 * (ecField c).getD 0)

/-- The order n of a curve's group, as the curve's standard gives it (R337). -/
def ecOrder (c : Nat) : Nat := Config.standardNat "EC.order" c []

/-- An ECDSA signature verifies (R339, R344): r or s equal to 0 or at least n fails (R249, R345). -/
def ecdsaVerify (c : Nat) (pk digest : Bytes) (r t : Nat) : Bool :=
  1 ≤ r && r < ecOrder c && 1 ≤ t && t < ecOrder c && Config.standardCheck "ECDSA.verify" c [pk, digest, beBytes r ((ecField c).getD 0), beBytes t ((ecField c).getD 0)]

/-- An EdDSA signature (R339): context, pre-hash flag and message as RFC 8032 takes them. -/
def eddsaSign (c : Nat) (key ctx ph m : Bytes) : Bytes :=
  Config.standard "EdDSA.sign" c [key, ctx, ph, m] (if c = 0x20 then 64 else 114)

/-- An EdDSA signature verifies by the cofactorless equation (R339): S at or above L, or an R that does not decode, fails
(R344). -/
def eddsaVerify (c : Nat) (pk ctx ph m sig : Bytes) : Bool :=
  let l := sig.length / 2
  leNat (sig.drop l) < ecOrder c && Config.standardCheck "EdDSA.decode" c [sig.take l] && Config.standardCheck "EdDSA.verify" c [pk, ctx, ph, m, sig]

end Sys2Proof.Machine
end

