-- ==== Sys2Proof/Machine/Classical.lean ====
section
/-!
DEFINITION. The big-number opcodes (chapter 08). Modular arithmetic and the raw RSA public operation are computed; curve,
EdDSA and padded RSA operations are those of their standards.
-/

namespace Sys2Proof.Machine

/-- a^e mod n by squaring, over the bits of e. Mark: PRESUMED (log entry 87). -/
def modPow (a n : Nat) : (fuel : Nat) → (e : Nat) → Nat
  | 0, _ => 1 % n
  | f + 1, e =>
    if e = 0 then 1 % n
    else
      let h := modPow (a * a % n) n f (e / 2)
      if e % 2 = 1 then a * h % n else h

/-- The inverse of `a` modulo `n` by the extended Euclidean algorithm, with the pair (r, t) of each step. -/
def invLoop (n : Nat) : (fuel : Nat) → (r0 r1 : Nat) → (t0 t1 : Int) → Option Nat
  | 0, _, _, _, _ => none
  | f + 1, r0, r1, t0, t1 =>
    if r1 = 0 then (if r0 = 1 then some (t0 % n).toNat else none)
    else invLoop n f r1 (r0 % r1) t1 (t0 - (r0 / r1 : Nat) * t1)

/-- The inverse of `a` modulo `n`; `none` for zero or a value not coprime to `n` (R344). -/
def modInv (a n : Nat) : Option Nat := invLoop n (2 * Nat.log2 n + 4) n a 0 1

/-- The rows of R344 for a modulus: zero, then 1 or even. -/
def modulusBad (n : Nat) : List (Bool × Nat) :=
  [(n == 0, stMALFORMED), (n == 1 || n % 2 == 0, stINPUT_RANGE)]

/-- End a job by the first value check that fails, or by its result; BN_VALUE_REJECT counts rejected values (R353). -/
def bnEnd (s : State) (checks : List (Bool × Nat)) (e : Ending) : State × Ending :=
  let st := (firstBad checks).getD e.status
  let s := if st = stMALFORMED ∨ st = stINPUT_RANGE ∨ st = stPOINT_INVALID ∨ st = stINPUT_ENCODING then
    s.bump aBN_VALUE_REJECT 0 else s
  (s, if (firstBad checks).isSome then
      { status := st, verdict := if st = stVERIFY_FAIL then vFail else 0 }
    else e)

/-- The MODULUS, OPERAND_A and OPERAND_B of a job as numbers (R331). -/
def Job.num (b : Job) (ty : Nat) : Nat := beNat (b.val ty)

/-- A RESULT of the modulus' length. -/
def Job.bnResult (b : Job) (v : Nat) : Ending := done [⟨0x0085, beBytes v (b.val 0x0081).length⟩]

/-- BN_MODEXP (R331 to R333, R344): 0 for a zero base whatever the exponent. -/
def execBnModexp (j : Nat) (s : State) : Result :=
  runJob s j opBN_MODEXP fun s b =>
    let n := b.num 0x0081
    let a := b.num 0x0082
    bnEnd s (modulusBad n ++ [(decide (a ≥ n), stINPUT_RANGE)])
      (b.bnResult (if a = 0 then 0 else modPow a n (8 * (b.val 0x0084).length) (b.num 0x0084)))

/-- BN_MODMUL (R344). -/
def execBnModmul (j : Nat) (s : State) : Result :=
  runJob s j opBN_MODMUL fun s b =>
    let n := b.num 0x0081
    bnEnd s (modulusBad n ++ [(b.num 0x0082 ≥ n || b.num 0x0083 ≥ n, stINPUT_RANGE)])
      (b.bnResult (b.num 0x0082 * b.num 0x0083 % n))

/-- BN_MODINV (R344). -/
def execBnModinv (j : Nat) (s : State) : Result :=
  runJob s j opBN_MODINV fun s b =>
    let n := b.num 0x0081
    let a := b.num 0x0082
    bnEnd s (modulusBad n ++ [(decide (a ≥ n), stINPUT_RANGE), ((modInv a n).isNone, stINPUT_RANGE)])
      (b.bnResult ((modInv a n).getD 0))

/-- The prime candidates that generation from a seed tests (R335), at least 2. Mark: DESIGN CHOICE (log entry 2). -/
def rsaCandidates (bits : Nat) (seed : Bytes) : Nat := Config.standardNat "RSA.candidates" bits [seed] + 2

/-- The modulus that a seed generates (R335). -/
def rsaModulus (bits : Nat) (seed : Bytes) : Bytes := Config.standard "RSA.keygen" bits [seed] (bits / 8)

/-- The bytes of a sealed CRT key: p, q, dp, dq and qInv (R335). -/
def rsaSealedSize (bits : Nat) : Nat := 5 * (bits / 16)

/-- RSA_KEYGEN (R335). -/
def execRsaKeygen (j : Nat) (s : State) : Result :=
  runJob s j opRSA_KEYGEN fun s b =>
    let bits := tlvNat b.params 0x0086 0
    let c := rsaCandidates bits b.key
    (s.bumpBy aBN_KG_CANDIDATES b.engineNo c,
     { done [⟨0x0081, rsaModulus bits b.key⟩, ⟨0x008B, leBytes c 4⟩] with
       bind := bits, sealSize := rsaSealedSize bits })

/-- What RSA_PRIVATE answers once its key is there (R340, R344). -/
def rsaPrivate (s : State) (b : Job) : State × Ending :=
  let bits := (s.slot (hSlot b.handle)).pset
  let k := bits / 8
  let p := tlvNat b.params 0x0087 0
  let n := beNat (rsaModulus bits b.key)
  let input := b.val 0x008A
  if p = 0 then
    bnEnd s [(beNat input ≥ n, stINPUT_RANGE)]
      (done [⟨0x0085, if beNat input = 0 then zeros k else Config.standard "RSA.raw" bits [b.key, input] k⟩])
  else if p = 3 then
    let args := [b.key, leBytes b.hash 2, input]
    bnEnd s [(!Config.standardCheck "RSA.oaepValid" bits args, stINPUT_ENCODING)]
      (done [⟨0x0085, Config.standard "RSA.oaepDecrypt" bits args
        (min (k - 2 * (hashLen b.hash).getD 0 - 2) (Config.standardNat "RSA.oaepLength" bits args))⟩])
  else if p = 2 then
    let salt := s.drawBytes ((hashLen b.prehashCode).getD 0)
    (salt.2, done [⟨0x0055, Config.standard "RSA.pssSign" bits [b.key, b.val 0x0057, salt.1] k⟩])
  else (s, done [⟨0x0055, Config.standard "RSA.pkcs1Sign" bits [b.key, b.val 0x0057] k⟩])

/-- RSA_PRIVATE (R336, R340): without a sealed copy of its key it regenerates the key first and waits for
`RSA_REGENERATION_DONE`; a second job of the key waits for the same. -/
def execRsaPrivate (j : Nat) (s : State) : Result :=
  match s.job j with
  | none => .next s
  | some b =>
    if b.opcode = opRSA_PRIVATE ∧ b.phase = .running ∧ b.wait = .no then
      if s.hasSealed b.handle then
        let r := rsaPrivate s b
        .next (r.1.endJob j r.2)
      else if s.parts.regen.contains (hSlot b.handle) then .next (s.setJob j { b with wait := .regeneration })
      else
        .next ({ s with parts := { s.parts with regen := s.parts.regen ++ [hSlot b.handle] } }.setJob j
          { b with wait := .regeneration })
    else .next s

/-- End a wait for regeneration for every job of a slot. -/
def State.regenerated (s : State) (slot : Nat) : State :=
  { s with parts := { s.parts with regen := s.parts.regen.filter (· != slot) } }.onJobs fun b =>
    if b.wait = Wait.regeneration ∧ hSlot b.handle = slot then { b with wait := .no } else b

/-- RSA_REGENERATION_DONE (R336): the sealed copy exists and the jobs of the key go on. -/
def execRsaRegenerationDone (j : Nat) (s : State) : Result :=
  match s.job j with
  | none => .next s
  | some b =>
    if b.opcode = opRSA_PRIVATE ∧ b.wait = .regeneration then
      let bits := (s.slot (hSlot b.handle)).pset
      let s := (s.bump aBN_REGEN b.engineNo).bumpBy aBN_KG_CANDIDATES b.engineNo (rsaCandidates bits b.key)
      .next ((s.sealKey (hSlot b.handle) (hGen b.handle) b.inst (rsaSealedSize bits)).regenerated (hSlot b.handle))
    else .next s

/-- RSA_PUBLIC (R340, R344). -/
def execRsaPublic (j : Nat) (s : State) : Result :=
  runJob s j opRSA_PUBLIC fun s b =>
    let n := b.num 0x0081
    let k := (b.val 0x0081).length
    let e := b.num 0x0084
    let p := tlvNat b.params 0x0087 0
    let head := modulusBad n
    let expBad := (e % 2 == 0 || e < 3 || e ≥ n, stINPUT_RANGE)
    if p = 0 then
      let a := b.num 0x008A
      bnEnd s (head ++ [(decide (a ≥ n), stINPUT_RANGE), expBad]) (b.bnResult (if a = 0 then 0 else modPow a n 256 e))
    else if p = 3 then
      let seed := s.drawBytes ((hashLen b.hash).getD 0)
      let em := Config.standard "RSA.oaepEncode" (8 * k) [b.val 0x008A, leBytes b.hash 2, seed.1] k
      bnEnd seed.2 (head ++ [expBad]) (b.bnResult (modPow (beNat em) n 256 e))
    else
      let rep := beNat (b.val 0x0055)
      let em := beBytes (modPow rep n 256 e) k
      bnEnd s (head ++ [expBad, (decide (rep ≥ n), stVERIFY_FAIL)])
        (verdictEnd (Config.standardCheck (if p = 1 then "RSA.pkcs1Verify" else "RSA.pssVerify") (8 * k)
          [em, b.val 0x0057, b.val 0x0081]))

/-- EC_KEYGEN (R334). -/
def execEcKeygen (j : Nat) (s : State) : Result :=
  runJob s j opEC_KEYGEN fun s b =>
    (s, { done [⟨0x0051, ecPublic b.curve (b.ecKey b.curve)⟩] with bind := b.curve })

/-- The digest an ECDSA opcode works on: the pre-hash, or the hash of the message. -/
def Job.ecdsaDigest (b : Job) (data : Bytes) : Bytes :=
  if b.has 0x0057 then (b.val 0x0057).drop 2 else hashOf b.hash data

/-- ECDSA_SIGN (R338, R339). -/
def execEcdsaSign (j : Nat) (data : Bytes) (s : State) : Result :=
  runJob s j opECDSA_SIGN fun s b =>
    let l := (ecField b.curve).getD 0
    let x := if tlvNat b.params 0x0059 0 = 1 then ([], s) else s.drawBytes 32
    let sig := ecdsaSign b.curve (b.ecKey b.curve) (b.ecdsaDigest data) x.1
    (x.2, done [⟨0x0055, if tlvNat b.params 0x0089 0 = 1 then derOfSig (beNat (sig.take l)) (beNat (sig.drop l))
      else sig⟩])

/-- ECDSA_VERIFY (R338, R339, R343, R344). -/
def execEcdsaVerify (j : Nat) (data : Bytes) (s : State) : Result :=
  runJob s j opECDSA_VERIFY fun s b =>
    match b.form with
    | some st => bnEnd s [(true, st)] (failed st)
    | none =>
      let l := (ecField b.curve).getD 0
      let sig := b.val 0x0055
      let rt := if tlvNat b.params 0x0089 0 = 1 then (derSig l sig).getD (0, 0)
        else (beNat (sig.take l), beNat (sig.drop l))
      let pk := if b.handle ≠ 0 then ecPublic b.curve (b.ecKey b.curve) else b.val 0x0051
      bnEnd s [(!pointOk b.curve pk, stPOINT_INVALID)]
        (verdictEnd (ecdsaVerify b.curve pk (b.ecdsaDigest data) rt.1 rt.2))

/-- ECDH, X25519 and X448 (R337, R344). -/
def agreeEnd (s : State) (b : Job) (c : Nat) : State × Ending :=
  match b.form with
  | some st => bnEnd s [(true, st)] (failed st)
  | none =>
    let z := ecAgree c (b.ecKey c) (b.val 0x0051)
    bnEnd s [(z.isNone, stPOINT_INVALID)] (b.sharedEnd [] (z.getD []))

/-- ECDH. -/
def execEcdh (j : Nat) (s : State) : Result := runJob s j opECDH fun s b => agreeEnd s b b.curve

/-- X25519. -/
def execX25519 (j : Nat) (s : State) : Result := runJob s j opX25519 fun s b => agreeEnd s b 0x10

/-- X448. -/
def execX448 (j : Nat) (s : State) : Result := runJob s j opX448 fun s b => agreeEnd s b 0x11

/-- EDDSA_SIGN (R339): always deterministic. -/
def execEddsaSign (j : Nat) (data : Bytes) (s : State) : Result :=
  runJob s j opEDDSA_SIGN fun s b =>
    (s, done [⟨0x0055, eddsaSign b.curve b.key (b.val 0x0056) (b.val 0x0057) data⟩])

/-- EDDSA_VERIFY (R339, R344). -/
def execEddsaVerify (j : Nat) (data : Bytes) (s : State) : Result :=
  runJob s j opEDDSA_VERIFY fun s b =>
    let pk := if b.handle ≠ 0 then ecPublic b.curve b.key else b.val 0x0051
    bnEnd s [(!pointOk b.curve pk, stPOINT_INVALID)]
      (verdictEnd (eddsaVerify b.curve pk (b.val 0x0056) (b.val 0x0057) data (b.val 0x0055)))

end Sys2Proof.Machine
end

