-- ==== Sys2Proof/Machine/Code.lean ====
section
/-!
DEFINITION. The code-based opcodes and the peer public-key cache (chapter 07).
-/

namespace Sys2Proof.Machine

/-- The generation attempts of a Classic McEliece seed (R305), at least 1.
Mark: DEDUCED (log entry 38), DESIGN CHOICE (log entry 2). -/
def mceAttempts (p : Nat) (seed : Bytes) : Nat := Config.standardNat "McEliece.failures" p [seed] + 1

/-- The Classic McEliece public key of a seed (R305). -/
def mcePublic (p : Nat) (seed : Bytes) : Bytes :=
  Config.standard "McEliece.keygen" p [seed] (((mceSizes p).map (·.1)).getD 0)

/-- The HQC expansion of a 32-byte seed (R308): sk_seed, σ_rej, pk_seed. -/
def hqcExpand (p : Nat) (seed : Bytes) : Bytes := shake256 (asciiBytes "KRYTORATI-HQCS-1" 16 ++ leBytes p 2 ++ seed) 96

/-- MCE_KEYGEN (R306): the public key to the output fragments, a sealed copy to P2, the digest and the attempts. -/
def execMceKeygen (j : Nat) (s : State) : Result :=
  runJob s j opMCE_KEYGEN fun s b =>
    let pk := mcePublic b.pset b.key
    let n := mceAttempts b.pset b.key
    let size := ((mceSizes b.pset).map (·.2.1)).getD 0
    (s.bumpBy aCE_KG_ATTEMPTS b.engineNo n,
     { done [⟨0x0072, sha3_256 pk⟩, ⟨0x0074, leBytes n 4⟩] with out := pk, bind := b.pset, sealSize := size })

/-- Free the entries no job holds any more (R311, R314): a freed entry goes when no running or saved job names its slot, and
one that fills no slot with the job that allotted it. -/
def State.sweepPeers (s : State) : State :=
  let held := fun (p : Peer) => p.slot.any fun n => s.jobs.any fun e =>
    (e.2.phase == .running || e.2.phase == .saved) && e.2.approved.contains n
  { s with parts := { s.parts with peers := s.parts.peers.filter fun e =>
    (!e.2.freed || held e.2) && (e.2.slot.isSome || e.2.job.any fun j => (s.job j).isSome) } }

/-- Mark the entries of a slot free (R314). -/
def State.freePeerOf (s : State) (slot : Nat) : State :=
  let mark := fun (e : Nat × Peer) => if e.2.slot = some slot then (e.1, { e.2 with freed := true }) else e
  { s with parts := { s.parts with peers := s.parts.peers.map mark } }.sweepPeers

/-- Mark the entries of an instance free (R314). -/
def State.freePeersOf (s : State) (inst : Nat) : State :=
  let mark := fun (e : Nat × Peer) => if e.2.inst = inst then (e.1, { e.2 with freed := true }) else e
  { s with parts := { s.parts with peers := s.parts.peers.map mark } }.sweepPeers

/-- Classic McEliece encapsulation with the randomness `e`: ciphertext and shared secret. -/
def mceEncaps (p : Nat) (pk e : Bytes) : Bytes × Bytes :=
  (Config.standard "McEliece.encaps.c" p [pk, e] (((mceSizes p).map (·.2.2.1)).getD 0),
   Config.standard "McEliece.encaps.k" p [pk, e] 32)

/-- A stream whose digest disagrees with the slot (R312, R322): counted, re-executed once over the same pages, and contained
at the second mismatch. -/
def State.digestFails (s : State) (j i : Nat) : State :=
  let s := ((s.bump aCE_DIGEST_FAIL 0).bump aCE_RETRIED i).onJob j fun b => { b with retried := true }
  ((s.raiseEng 3 i 0x10 (s.microAddress 3 i)).bump aCE_DIGEST_FAIL 0).raiseEng 3 i 0x11 (s.microAddress 3 i)

/-- The entry that an MCE_ENCAPS encapsulates to: that of its peer handle, or the one allotted for it (R310 to R312). -/
def State.peerFor (s : State) (j : Nat) (b : Job) : Option (Nat × Peer) :=
  s.parts.peers.find? fun e => if b.handle ≠ 0 then e.2.slot == some (hSlot b.handle) else e.2.job == some j

/-- MCE_ENCAPS (R309 to R313): through a peer handle, to a key stored under PEER_SLOT, or to a transient entry. With
STORE_ONLY it ends once the slot is filled. A stored key whose digest disagrees is counted and the job contained. -/
def execMceEncaps (j : Nat) (s : State) : Result :=
  runJob s j opMCE_ENCAPS fun s b =>
    match s.peerFor j b with
    | none => (s, failed stFAULT_CONTAINED)
    | some (n, e) =>
      if b.handle ≠ 0 then
        if sha3_256 e.key = e.digest then
          let r := s.drawBytes 32
          let z := mceEncaps b.pset e.key r.1
          (r.2, b.sharedEnd [⟨0x0052, z.1⟩] z.2)
        else (s.digestFails j b.engineNo, failed stFAULT_CONTAINED)
      else
        let d := hSlot (b.handleIn 0x0070)
        let x := s.slot d
        let fill := b.has 0x0070 && x.state == .pending
        let s := if fill then
            ({ s with parts := { s.parts with peers := tset s.parts.peers n { e with slot := some d } } } : State).setSlot d
              { x with state := .loaded, pset := b.pset }
          else s
        let stored : List Tlv := if !b.has 0x0070 then [] else
          (if fill then [⟨0x0071, leBytes (s.handleOf d) 8⟩] else []) ++ [⟨0x0072, e.digest⟩]
        if tlvNat b.params 0x0073 0 = 1 then (s, done stored)
        else
          let r := s.drawBytes 32
          let z := mceEncaps b.pset e.key r.1
          (r.2, b.sharedEnd (stored ++ [⟨0x0052, z.1⟩]) z.2)

/-- MCE_DECAPS (R307, R323): without a sealed copy it regenerates the key first and waits for
`MCE_REGENERATION_DONE`. -/
def execMceDecaps (j : Nat) (s : State) : Result :=
  match s.job j with
  | none => .next s
  | some b =>
    if b.opcode = opMCE_DECAPS ∧ b.phase = .running ∧ b.wait = .no then
      if s.hasSealed b.handle then
        .next (s.endJob j (b.sharedEnd [] (Config.standard "McEliece.decaps" b.pset [b.key, b.val 0x0052] 32)))
      else if s.parts.regen.contains (hSlot b.handle) then .next (s.setJob j { b with wait := .regeneration })
      else
        .next ({ s with parts := { s.parts with regen := s.parts.regen ++ [hSlot b.handle] } }.setJob j
          { b with wait := .regeneration })
    else .next s

/-- MCE_REGENERATION_DONE (R307): a fresh sealed copy exists and the jobs of the key go on. -/
def execMceRegenerationDone (j : Nat) (s : State) : Result :=
  match s.job j with
  | none => .next s
  | some b =>
    if b.opcode = opMCE_DECAPS ∧ b.wait = .regeneration then
      let s := (s.bump aCE_REGEN b.engineNo).bumpBy aCE_KG_ATTEMPTS b.engineNo (mceAttempts b.pset b.key)
      .next ((s.sealKey (hSlot b.handle) (hGen b.handle) b.inst (((mceSizes b.pset).map (·.2.1)).getD 0)).regenerated
        (hSlot b.handle))
    else .next s

/-- HQC_KEYGEN (R308). -/
def execHqcKeygen (j : Nat) (s : State) : Result :=
  runJob s j opHQC_KEYGEN fun s b =>
    (s, { done [⟨0x0051, Config.standard "HQC.keygen" b.pset [hqcExpand b.pset b.key]
        (((hqcSizes b.pset).map (·.1)).getD 0)⟩] with bind := b.pset })

/-- The unused high bits in the last byte of s are zero (R304, R321). -/
def hqcPkOk (p : Nat) (pk : Bytes) : Bool :=
  (pk.getLastD 0).toNat < 2 ^ (8 - ((hqcSizes p).map (·.2.2)).getD 0)

/-- HQC_ENCAPS (R304, R321). -/
def execHqcEncaps (j : Nat) (s : State) : Result :=
  runJob s j opHQC_ENCAPS fun s b =>
    let pk := b.val 0x0051
    if !hqcPkOk b.pset pk then (s, failed stINPUT_ENCODING)
    else
      let r := s.drawBytes 64
      (r.2, b.sharedEnd
        [⟨0x0052, Config.standard "HQC.encaps.c" b.pset [pk, r.1] (((hqcSizes b.pset).map (·.2.1)).getD 0)⟩]
        (Config.standard "HQC.encaps.k" b.pset [pk, r.1] 64))

/-- HQC_DECAPS (R308, R323): always DONE for a ciphertext of the right length. -/
def execHqcDecaps (j : Nat) (s : State) : Result :=
  runJob s j opHQC_DECAPS fun s b =>
    (s, b.sharedEnd [] (Config.standard "HQC.decaps" b.pset [hqcExpand b.pset b.key, b.val 0x0052] 64))

end Sys2Proof.Machine
end

