-- ==== Sys2Proof/Machine/Bulk.lean ====
section
/-!
DEFINITION. The cipher and digest opcodes (chapter 10): their step-9 checks (R424), the digest contexts, the raw-block
digests, and the AES modes.
-/

namespace Sys2Proof.Machine

/-! ### Algorithms (R394) -/

/-- The compression a digest algorithm runs. -/
inductive Core where
  | sha2small | sha2large | keccak
  deriving DecidableEq, Repr

/-- How an algorithm is keyed. -/
inductive Keying where
  | none | hmac | kmac
  deriving DecidableEq, Repr

/-- One row of R394: block size, fixed output (0: OUT_LEN), default output. -/
structure AlgInfo where
  core : Core
  block : Nat
  out : Nat
  dflt : Nat
  keying : Keying
  deriving DecidableEq, Repr

/-- The algorithms of R394. -/
def algInfo (alg : Nat) : Option AlgInfo :=
  match alg with
  | 0x01 => some ⟨.sha2small, 64, 28, 28, .none⟩ | 0x02 => some ⟨.sha2small, 64, 32, 32, .none⟩
  | 0x03 => some ⟨.sha2large, 128, 48, 48, .none⟩ | 0x04 => some ⟨.sha2large, 128, 64, 64, .none⟩
  | 0x05 => some ⟨.sha2large, 128, 28, 28, .none⟩ | 0x06 => some ⟨.sha2large, 128, 32, 32, .none⟩
  | 0x11 => some ⟨.keccak, 144, 28, 28, .none⟩ | 0x12 => some ⟨.keccak, 136, 32, 32, .none⟩
  | 0x13 => some ⟨.keccak, 104, 48, 48, .none⟩ | 0x14 => some ⟨.keccak, 72, 64, 64, .none⟩
  | 0x15 => some ⟨.keccak, 168, 0, 32, .none⟩ | 0x16 => some ⟨.keccak, 136, 0, 64, .none⟩
  | 0x17 => some ⟨.keccak, 168, 0, 32, .none⟩ | 0x18 => some ⟨.keccak, 136, 0, 64, .none⟩
  | 0x21 => some ⟨.sha2small, 64, 28, 28, .hmac⟩ | 0x22 => some ⟨.sha2small, 64, 32, 32, .hmac⟩
  | 0x23 => some ⟨.sha2large, 128, 48, 48, .hmac⟩ | 0x24 => some ⟨.sha2large, 128, 64, 64, .hmac⟩
  | 0x25 => some ⟨.keccak, 136, 32, 32, .hmac⟩ | 0x26 => some ⟨.keccak, 72, 64, 64, .hmac⟩
  | 0x31 => some ⟨.keccak, 168, 0, 32, .kmac⟩ | 0x32 => some ⟨.keccak, 136, 0, 64, .kmac⟩
  | _ => none

/-- cSHAKE. -/
def isCshake (alg : Nat) : Bool := alg == 0x17 || alg == 0x18

/-- Chaining words as bytes. -/
def wordsOut (w : Nat) (ws : List (BitVec w)) : Bytes := (ws.map fun x => leBytes x.toNat (w / 8)).flatten

/-- Chaining words from bytes. -/
def wordsIn (w n : Nat) (b : Bytes) : List (BitVec w) :=
  (List.range n).map fun i => BitVec.ofNat w (leAt b (i * (w / 8)) (w / 8))

/-- Absorb whole blocks into a chaining state (R395). -/
def absorb (i : AlgInfo) (chain m : Bytes) : Bytes :=
  let bs := blocksOf i.block m.length m
  match i.core with
  | .sha2small => wordsOut 32 (bs.foldl sha256Block (wordsIn 32 8 chain))
  | .sha2large => wordsOut 64 (bs.foldl sha512Block (wordsIn 64 8 chain))
  | .keccak => wordsOut 64 (bs.foldl (keccakAbsorb i.block) (wordsIn 64 25 chain))

/-- The initial state of an algorithm. -/
def initial (alg : Nat) (i : AlgInfo) : Bytes :=
  match i.core with
  | .sha2small => wordsOut 32 (if alg = 0x01 ∨ alg = 0x21 then ivSha224 else ivSha256)
  | .sha2large => wordsOut 64 (if alg = 0x03 ∨ alg = 0x23 then ivSha384 else if alg = 0x05 then ivSha512t "SHA-512/224"
      else if alg = 0x06 then ivSha512t "SHA-512/256" else ivSha512)
  | .keccak => zeros 200

/-- The blocks absorbed at the start of a message: the HMAC key block (R398), the KMAC prefix and key (R399), or the
cSHAKE names. -/
def prefixOf (alg : Nat) (i : AlgInfo) (name custom key : Bytes) : Bytes :=
  match i.keying with
  | .hmac => (fitBytes key i.block).map fun x => x ^^^ 0x36
  | .kmac => bytepad (encodeString (asciiBytes "KMAC" 4) ++ encodeString custom) i.block
      ++ bytepad (encodeString key) i.block
  | .none => if isCshake alg ∧ (name ≠ [] ∨ custom ≠ []) then bytepad (encodeString name ++ encodeString custom) i.block
      else []

/-- The state of a context at the start of a message. -/
def startCtx (c : DigestCtx) (i : AlgInfo) (key : Bytes) : DigestCtx :=
  { c with blocks := 0, chain := absorb i (initial c.alg i) (prefixOf c.alg i c.name c.custom key) }

/-- A context after absorbing whole blocks. -/
def absorbCtx (c : DigestCtx) (i : AlgInfo) (m : Bytes) : DigestCtx :=
  { c with blocks := c.blocks + m.length / i.block, chain := absorb i c.chain m }

/-- The unkeyed hash under an HMAC. -/
def outerHash (alg : Nat) (m : Bytes) : Bytes :=
  match alg with
  | 0x21 => sha2Small ivSha224 28 m
  | 0x22 => sha256 m
  | 0x23 => sha384 m
  | 0x24 => sha512 m
  | 0x25 => sha3_256 m
  | _ => sponge 72 0x06 m 64

/-- The output of a context whose message has ended (R396, R398, R399). -/
def finishCtx (c : DigestCtx) (i : AlgInfo) (key : Bytes) : Bytes :=
  let n := if i.out = 0 then c.outLen else i.out
  let inner := match i.core with
    | .sha2small => ((wordsIn 32 8 c.chain).map fun w => beBytes w.toNat 4).flatten.take n
    | .sha2large => ((wordsIn 64 8 c.chain).map fun w => beBytes w.toNat 8).flatten.take n
    | .keccak => (keccakSqueeze i.block (ceilDiv n i.block) (wordsIn 64 25 c.chain)).take n
  match i.keying with
  | .hmac => outerHash c.alg (((fitBytes key i.block).map fun x => x ^^^ 0x5c) ++ inner)
  | _ => inner

/-! ### Contexts -/

/-- The key of a context in the table. -/
def ctxKey (inst ctx : Nat) : Nat := inst * 16384 + ctx

/-- CTX of a job. -/
def Job.ctxNo (b : Job) : Nat := tlvNat b.params 0x0091 0

/-- The context a job names. -/
def State.ctxOf (s : State) (b : Job) : Option DigestCtx := tget s.digests (ctxKey b.inst b.ctxNo)

/-- ALG of a job. -/
def Job.alg (b : Job) : Option Nat := (tlvGet b.params 0x0090).map leNat

/-- A job that releases its context (R401). -/
def Job.releases (b : Job) : Bool := b.opcode == opDIGEST_UPDATE && b.alg == some 0

/-- The output length an ALG and OUT_LEN give. -/
def Job.outLenFor (b : Job) (i : AlgInfo) : Nat := if i.out = 0 then tlvNat b.params 0x0092 i.dflt else i.out

/-- The output length of a context. -/
def ctxOut (c : DigestCtx) : Nat :=
  match algInfo c.alg with
  | some i => if i.out = 0 then c.outLen else i.out
  | none => 0

/-- Store, release or keep a job's context, with the charge of its record to the instance's scratch (R401, R404). -/
def State.setCtx (s : State) (b : Job) (e : CtxEffect) : State :=
  let k := ctxKey b.inst b.ctxNo
  let had := (tget s.digests k).isSome
  let charge := fun (s : State) (plus minus : Nat) =>
    let x : Instance := tgetD s.insts b.inst {}
    { s with insts := tput s.insts b.inst { x with scratch := x.scratch + plus - minus } {} }
  match e with
  | .keep => s
  | .release => let s := { s with digests := tdel s.digests k }; if had then charge s 0 512 else s
  | .store c => let s := { s with digests := tset s.digests k c }; if had then s else charge s 512 0

/-- Add to a 64-bit counter held as two words. -/
def State.bump64 (s : State) (off idx n : Nat) : State :=
  let v := s.cnt off idx + 2 ^ 32 * s.cnt (off + 4) idx + n
  (s.setCnt off idx v).setCnt (off + 4) idx (v / 2 ^ 32)

/-! ### Step 9 (R424) -/

/-- The slot type and value lengths of a keyed algorithm (R400). -/
def algKeyNeed (b : Job) (alg handle : Nat) (counted : Bool) : List KeyNeed :=
  match algInfo alg with
  | some i =>
    match i.keying with
    | .none => []
    | .hmac => [{ handle := handle, types := [0x04], policy := [3, 21], counted := counted }]
    | .kmac => [{ handle := handle, types := [0x05], policy := [3, 21], counted := counted,
                  lens := if alg = 0x32 then (List.range 33).map (· + 32) else [] }]
  | none => if b.handle = 0 then [] else [{ handle := handle, types := [], counted := counted }]

/-- The first MALFORMED row for ALG, OUT_LEN, FN_NAME and CUSTOM (R394, R399, R401, R424). -/
def Job.algBad (b : Job) : List (Bool × Nat) :=
  let n := (b.len 0x0093).getD 0
  let k := (b.len 0x0094).getD 0
  let extra := b.has 0x0092 || b.has 0x0093 || b.has 0x0094
  match b.alg with
  | none => [(extra, stMALFORMED), (b.handle != 0, stMALFORMED)]
  | some a =>
    if b.releases then [(extra || b.dataLen > 0 || b.handle != 0, stMALFORMED)]
    else match algInfo a with
      | none => [(true, stMALFORMED)]
      | some i =>
        let o := tlvNat b.params 0x0092 1
        [(b.has 0x0092 && (i.out != 0 || o == 0 || o > 65536), stMALFORMED), (b.has 0x0093 && !isCshake a, stMALFORMED),
         (b.has 0x0094 && !isCshake a && i.keying != .kmac, stMALFORMED), (n + k > 128, stMALFORMED),
         (i.keying == .kmac && k > 124, stMALFORMED), (i.keying == .none && b.handle != 0, stMALFORMED)]

/-- The job's input is whole blocks of an algorithm (R395). -/
def Job.wholeBlocks (b : Job) (alg : Nat) : Bool :=
  match algInfo alg with
  | some i => b.dataLen % i.block == 0
  | none => true

/-- Step 9 of the digest opcodes. Mark: DEDUCED (log entry 30). -/
def digestPlan (s : State) (b : Job) : Plan :=
  let c := s.ctxOf b
  let calg := (c.map (·.alg)).getD 0
  let out := (c.map ctxOut).getD 0
  let again := match c with
    | some c => if c.handle ≠ 0 then algKeyNeed b c.alg c.handle false else []
    | none => []
  let ctxBad := (b.has 0x0091 && b.ctxNo ≥ 16384, stMALFORMED)
  let room := (c.isNone && s.p7Short b.inst 512, stLIMIT_EXCEEDED)
  let exp := fun (n : Nat) => (b.has 0x0096 && ((b.len 0x0096).getD 0 < 8 || (b.len 0x0096).getD 0 > n), stMALFORMED)
  if b.opcode = opDIGEST_UPDATE then
    match b.alg with
    | some a =>
      { early := firstBad b.algBad, needs := if a = 0 then [] else algKeyNeed b a b.handle true,
        bad := firstBad [ctxBad, (!b.wholeBlocks a, stMALFORMED), (a != 0 && room.1, stLIMIT_EXCEEDED)] }
    | none =>
      { early := firstBad b.algBad, needs := again,
        bad := firstBad [ctxBad, (!b.wholeBlocks calg, stMALFORMED), (c.isNone, stMALFORMED)] }
  else if b.opcode = opDIGEST_FINAL then
    { needs := again, resultLen := tlvLen out,
      bad := firstBad [ctxBad, (!b.wholeBlocks calg, stMALFORMED), (c.isNone, stMALFORMED)] }
  else if b.opcode = opMAC_VERIFY then
    { needs := again,
      bad := firstBad [ctxBad, (!b.wholeBlocks calg, stMALFORMED), (c.isNone, stMALFORMED), exp out] }
  else if b.opcode = opDIGEST_SAVE then
    { resultLen := tlvLen 272,
      bad := firstBad [ctxBad, (c.isNone, stMALFORMED), (!bitAt b.deCtl 16, stPERMISSION)] }
  else if b.opcode = opDIGEST_RESTORE then
    let v := b.val 0x0097
    let keyed := bitAt (leAt v 7 1) 0
    let i := algInfo (leAt v 6 1)
    { needs := if keyed then algKeyNeed b (leAt v 6 1) (leAt v 24 8) false else [],
      bad := firstBad [ctxBad, (v.take 4 != asciiBytes "KDS1" 4 || leAt v 4 2 != 1 || i.isNone || leAt v 7 1 > 1
          || leAt v 44 4 != 0 || leAt v 264 8 != 0 || (i.any fun i => (i.keying != .none) != keyed)
          || (!keyed && (leAt v 24 8 != 0 || !allZero (slice v 32 12) || !allZero (slice v 248 16))), stMALFORMED),
        room, (!bitAt b.deCtl 16, stPERMISSION)] }
  else
    let a := b.alg.getD 0
    let n := ((algInfo a).map b.outLenFor).getD 0
    { early := firstBad ((b.alg == some 0, stMALFORMED) :: b.algBad), needs := algKeyNeed b a b.handle true,
      resultLen := if b.has 0x0096 then 0 else tlvLen n,
      bad := firstBad [(!b.wholeBlocks a, stMALFORMED), exp n] }

/-- The lengths of the input fragments. -/
def Job.inputs (b : Job) : List Nat := (b.frags.filter fun f => !f.out).map (·.len)

/-- The number of fragments that hold exactly `n` bytes, if some do. -/
def splitAtSum : (n : Nat) → List Nat → Option (List Nat × List Nat)
  | n, l =>
    if n = 0 then some ([], l)
    else match l with
      | [] => none
      | x :: r => if x ≤ n then (splitAtSum (n - x) r).map fun p => (x :: p.1, p.2) else none
  termination_by structural _ l => l

/-- Every fragment of a region but the last is a multiple of 16 (R415). -/
def regionOk (l : List Nat) : Bool := l.dropLast.all fun n => n % 16 == 0

/-- AAD_LEN of a job. -/
def Job.aadLen (b : Job) : Nat := tlvNat b.params 0x009A 0

/-- The regions of R415 for a GCM job. -/
def Job.gcmRegions (b : Job) : Bool :=
  match splitAtSum b.aadLen b.inputs with
  | some (a, t) => regionOk a && regionOk t
  | none => false

/-- TAG_LEN in force: the TLV, the length of a given TAG, or 16 (R414). -/
def Job.tagLen (b : Job) : Nat := tlvNat b.params 0x009B ((b.len 0x009C).getD 16)

/-- IV_GEN is 1. -/
def Job.ivGen (b : Job) : Bool := tlvNat b.params 0x0099 0 == 1

/-- Step 9 of the cipher opcodes; the last component is the first failing check of R413 to R418 (SE_LIMIT_REJECT).
Mark: DEDUCED (log entry 30). -/
def cipherPlan (b : Job) : Plan × Option Nat :=
  let aes := fun (op : Nat) => [b.keyNeed [0x02] [op, 20] none]
  let tagOk := (!([16, 15, 14, 13, 12, 8].contains b.tagLen), stMALFORMED)
  let tagSame := (b.has 0x009C && b.len 0x009C != some b.tagLen, stMALFORMED)
  let ivRule : List (Bool × Nat) := [(b.ivGen == b.has 0x0098 || !b.upTo 0x0099 1, stMALFORMED)]
  let ivPerm : List (Bool × Nat) := [(b.ivGen && !bitAt b.seCtl 16, stPERMISSION)]
  let short := (b.tagLen == 8 && !bitAt b.seCtl 17, stPERMISSION)
  let mk := fun (n : List KeyNeed) (r o : Nat) (pre core post : List (Bool × Nat)) =>
    let bad := firstBad (pre ++ core ++ post)
    (({ needs := n, resultLen := r, outLen := o, bad := bad } : Plan), if firstBad pre = none then firstBad core else none)
  if b.opcode = opAES_GCM_ENC ∨ b.opcode = opAES_GCM_DEC then
    let enc := b.opcode == opAES_GCM_ENC
    mk (aes (if enc then 1 else 2)) (if enc then tlvLen b.tagLen + if b.ivGen then tlvLen 12 else 0 else 0)
      (b.dataLen - b.aadLen) (if enc then ivRule else [])
      [tagOk, tagSame, (b.aadLen > b.dataLen, stMALFORMED), (!b.gcmRegions, stMALFORMED),
       (b.dataLen - b.aadLen > 2 ^ 36 - 32 || b.aadLen ≥ 2 ^ 32, stLIMIT_EXCEEDED), short] (if enc then ivPerm else [])
  else if b.opcode = opAES_GMAC then
    mk (aes 3) ((if b.has 0x009C then 0 else tlvLen b.tagLen) + if b.ivGen then tlvLen 12 else 0) 0 ivRule
      [tagOk, tagSame, (!regionOk b.inputs, stMALFORMED), (b.dataLen ≥ 2 ^ 32, stLIMIT_EXCEEDED), short] ivPerm
  else if b.opcode = opAES_CTR then
    let bits := tlvNat b.params 0x009D 32
    mk (aes (if b.opcode = opAES_CTR then 1 else 2)) (tlvLen 16) b.dataLen []
      [(!([32, 64, 128].contains bits), stMALFORMED), (!regionOk b.inputs, stMALFORMED),
       (ceilDiv b.dataLen 16 > 2 ^ bits, stLIMIT_EXCEEDED)] []
  else if b.opcode = opAES_CBC_ENC ∨ b.opcode = opAES_CBC_DEC then
    mk (aes (if b.opcode = opAES_CBC_ENC then 1 else 2)) (tlvLen 16) b.dataLen []
      [(b.dataLen % 16 != 0, stMALFORMED), (!regionOk b.inputs, stMALFORMED)] []
  else if b.opcode = opAES_XTS_ENC ∨ b.opcode = opAES_XTS_DEC then
    let du := tlvNat b.params 0x00A0 0
    mk [b.keyNeed [0x03] [if b.opcode = opAES_XTS_ENC then 1 else 2, 20] none] 0 b.dataLen []
      [(du < 16, stMALFORMED), (b.dataLen % du != 0 || (du % 16 != 0 && b.dataLen > du), stMALFORMED),
       (!regionOk b.inputs, stMALFORMED), (du > 2 ^ 24, stLIMIT_EXCEEDED)] []
  else
    mk (aes 3) (if b.has 0x009C then 0 else tlvLen b.tagLen) 0 []
      [(b.tagLen < 8 || b.tagLen > 16, stMALFORMED), tagSame, (!regionOk b.inputs, stMALFORMED)] []

/-- CTR serves both directions (R443): a key may carry either bit. -/
def ctrNeeds (s : State) (b : Job) : List KeyNeed :=
  let x := s.slot (hSlot b.handle)
  [b.keyNeed [0x02] [if bitAt x.policy 1 then 1 else 2, 20] none]

/-! ### The cipher opcodes -/

/-- The additional data and the text of a GCM job (R413). -/
def Job.aadText (b : Job) (data : Bytes) : Bytes × Bytes := (data.take b.aadLen, data.drop b.aadLen)

/-- The IV of a GCM or GMAC job, drawn from the DRBG when IV_GEN asks (R419), and the IV result TLV. -/
def State.ivOf (s : State) (b : Job) : Bytes × State × List Tlv :=
  if b.ivGen then
    let r := s.drawBytes 12
    (r.1, r.2, [⟨0x0098, r.1⟩])
  else (b.val 0x0098, s, [])

/-- A tag check or a tag result (R423): SE_TAG_FAIL counts fail verdicts. -/
def tagEnd (s : State) (b : Job) (tag : Bytes) (more : List Tlv) : State × Ending :=
  let t := tag.take b.tagLen
  if b.has 0x009C then
    let ok := t == b.val 0x009C
    (if ok then s else s.bump aSE_TAG_FAIL 0, { verdictEnd ok with results := if ok then more else [] })
  else (s, done (⟨0x009C, t⟩ :: more))

/-- Run a cipher operation and count its bytes (R431). -/
def seJob (s : State) (j code : Nat) (f : State → Job → State × Ending) : Result :=
  runJob s j code fun s b => f (s.bump64 aSE_BYTES_LO b.engineNo b.dataLen) b

/-- AES_GCM_ENC (R413, R414, R419). -/
def execAesGcmEnc (j : Nat) (data : Bytes) (s : State) : Result :=
  seJob s j opAES_GCM_ENC fun s b =>
    let iv := s.ivOf b
    let z := b.aadText data
    let r := gcmEnc b.key iv.1 z.1 z.2
    (iv.2.1, { done (⟨0x009C, r.2.take b.tagLen⟩ :: iv.2.2) with out := r.1 })

/-- AES_GCM_DEC (R420): on a wrong tag the output is overwritten with zeros. -/
def execAesGcmDec (j : Nat) (data : Bytes) (s : State) : Result :=
  seJob s j opAES_GCM_DEC fun s b =>
    let z := b.aadText data
    let iv := b.val 0x0098
    let ok := (gcmTag b.key iv z.1 z.2).take b.tagLen == b.val 0x009C
    (if ok then s else s.bump aSE_TAG_FAIL 0,
     { verdictEnd ok with out := if ok then gcmDec b.key iv z.2 else zeros (outputLen b.frags) })

/-- AES_CTR (R417). -/
def execAesCtr (j : Nat) (data : Bytes) (s : State) : Result :=
  seJob s j opAES_CTR fun s b =>
    let bits := tlvNat b.params 0x009D 32
    let iv := b.val 0x0098
    (s, { done [⟨0x009E, ctrAdd bits (ceilDiv data.length 16) iv⟩] with out := aesCtrMode b.key bits iv data })

/-- AES_CBC_ENC (R416). -/
def execAesCbcEnc (j : Nat) (data : Bytes) (s : State) : Result :=
  seJob s j opAES_CBC_ENC fun s b =>
    let c := aesCbcEncMode b.key (b.val 0x0098) (blocksOf16 data)
    (s, { done [⟨0x009E, if c = [] then b.val 0x0098 else c.drop (c.length - 16)⟩] with out := c })

/-- AES_CBC_DEC (R416). -/
def execAesCbcDec (j : Nat) (data : Bytes) (s : State) : Result :=
  seJob s j opAES_CBC_DEC fun s b =>
    (s, { done [⟨0x009E, if data = [] then b.val 0x0098 else data.drop (data.length - 16)⟩] with
          out := aesCbcDecMode b.key (b.val 0x0098) (blocksOf16 data) })

/-- AES_XTS (R412, R418). -/
def xtsEnd (enc : Bool) (s : State) (b : Job) (data : Bytes) : State × Ending :=
  let half := b.key.length / 2
  if b.key.take half = b.key.drop half then (s, failed stKEY_POLICY)
  else
    let r := aesXtsMode enc b.key (tlvNat b.params 0x00A0 0) (leNat (b.val 0x009F)) (data.length + 1) data
    (s, { done [] with out := r })

/-- AES_XTS_ENC. -/
def execAesXtsEnc (j : Nat) (data : Bytes) (s : State) : Result :=
  seJob s j opAES_XTS_ENC fun s b => xtsEnd true s b data

/-- AES_XTS_DEC. -/
def execAesXtsDec (j : Nat) (data : Bytes) (s : State) : Result :=
  seJob s j opAES_XTS_DEC fun s b => xtsEnd false s b data

/-- AES_CMAC (R411, R423). -/
def execAesCmac (j : Nat) (data : Bytes) (s : State) : Result :=
  seJob s j opAES_CMAC fun s b => tagEnd s b (aesCmacMode b.key data) []

/-- AES_GMAC (R413, R414). -/
def execAesGmac (j : Nat) (data : Bytes) (s : State) : Result :=
  seJob s j opAES_GMAC fun s b =>
    let iv := s.ivOf b
    tagEnd iv.2.1 b (gcmTag b.key iv.1 data []) iv.2.2

/-! ### The digest opcodes -/

/-- Count the blocks a DE absorbed (R432). Mark: DEDUCED (log entry 30). -/
def State.deBlocks (s : State) (b : Job) (i : AlgInfo) (bytes : Nat) : State :=
  s.bump64 aDE_BLOCKS_LO b.engineNo (bytes / i.block)

/-- Two blocks for the outer hash of an HMAC. -/
def outerBytes (i : AlgInfo) : Nat := if i.keying = .hmac then 2 * i.block else 0

/-- The bytes of a message start. -/
def Job.startBytes (c : DigestCtx) (i : AlgInfo) (key : Bytes) : Nat := (prefixOf c.alg i c.name c.custom key).length

/-- A new context as a job asks for it. -/
def Job.newCtx (b : Job) (alg : Nat) (i : AlgInfo) : DigestCtx :=
  { alg := alg, outLen := if i.out = 0 then b.outLenFor i else 0, name := b.val 0x0093, custom := b.val 0x0094,
    handle := b.handle }

/-- DIGEST_UPDATE with an ALG starts a message; without one it continues (R402). -/
def execDigestUpdate (j : Nat) (data : Bytes) (s : State) : Result :=
  match s.job j with
  | some b0 =>
    if b0.releases then .next s
    else runJob s j opDIGEST_UPDATE fun s b =>
      match b.alg with
      | some a =>
        match algInfo a with
        | some i =>
          let c := startCtx (b.newCtx a i) i b.key
          (s.deBlocks b i (data.length + Job.startBytes c i b.key), { done [] with ctx := .store (absorbCtx c i data) })
        | none => (s, failed stMALFORMED)
      | none =>
        match s.ctxOf b with
        | some c =>
          match algInfo c.alg with
          | some i => (s.deBlocks b i data.length, { done [] with ctx := .store (absorbCtx c i data) })
          | none => (s, failed stMALFORMED)
        | none => (s, failed stMALFORMED)
  | none => .next s

/-- DIGEST_UPDATE with ALG 0x00 releases the record (R401). -/
def execDigestRelease (j : Nat) (s : State) : Result :=
  match s.job j with
  | some b0 =>
    if b0.releases then runJob s j opDIGEST_UPDATE fun s _ => (s, { done [] with ctx := .release })
    else .next s
  | none => .next s

/-- Finish a context's message (R405): the output, and the context at the start of a new message. -/
def finishJob (s : State) (b : Job) (data : Bytes) (f : State → Bytes → CtxEffect → State × Ending) : State × Ending :=
  match s.ctxOf b with
  | some c =>
    match algInfo c.alg with
    | some i =>
      let c' := absorbCtx c i data
      let s := s.deBlocks b i (data.length + outerBytes i + Job.startBytes c i b.key)
      f s (finishCtx c' i b.key) (.store (startCtx c i b.key))
    | none => (s, failed stMALFORMED)
  | none => (s, failed stMALFORMED)

/-- DIGEST_FINAL (R405). -/
def execDigestFinal (j : Nat) (data : Bytes) (s : State) : Result :=
  runJob s j opDIGEST_FINAL fun s b => finishJob s b data fun s d e => (s, { done [⟨0x0095, d⟩] with ctx := e })

/-- A comparison of an output with EXPECTED (R410). -/
def compareEnd (s : State) (b : Job) (d : Bytes) (e : CtxEffect) : State × Ending :=
  let x := b.val 0x0096
  let ok := d.take x.length == x
  (if ok then s else s.bump aDE_VERIFY_FAIL 0, { verdictEnd ok with ctx := e })

/-- MAC_VERIFY (R410). -/
def execMacVerify (j : Nat) (data : Bytes) (s : State) : Result :=
  runJob s j opMAC_VERIFY fun s b => finishJob s b data fun s d e => compareEnd s b d e

/-- The blob of a context but for its wrapping (R407). Mark: DEDUCED (log entry 80). -/
def blobHead (b : Job) (c : DigestCtx) : Bytes :=
  asciiBytes "KDS1" 4 ++ leBytes 1 2 ++ leBytes c.alg 1 ++ leBytes (b2n (c.handle != 0)) 1 ++ leBytes c.blocks 8
    ++ leBytes b.inst 2 ++ leBytes c.outLen 4 ++ leBytes (c.name.length + c.custom.length) 2 ++ leBytes c.handle 8

/-- DIGEST_SAVE (R407, R408): a keyed state is wrapped under the instance's context-wrap key and its next IV. -/
def execDigestSave (j : Nat) (s : State) : Result :=
  runJob s j opDIGEST_SAVE fun s b =>
    match s.ctxOf b with
    | none => (s, failed stMALFORMED)
    | some c =>
      let head := blobHead b c
      let st := fitBytes c.chain 200
      if c.handle = 0 then (s, done [⟨0x0097, head ++ zeros 16 ++ st ++ zeros 24⟩])
      else
        let x := tgetD s.insts b.inst {}
        let iv := leBytes x.wrapCount 12
        let r := gcmEnc x.wrapKey iv head st
        ({ s with insts := tset s.insts b.inst { x with wrapCount := x.wrapCount + 1 } },
         done [⟨0x0097, head ++ iv ++ zeros 4 ++ r.1 ++ r.2 ++ zeros 8⟩])

/-- DIGEST_RESTORE (R409). The blob gives the length of N and S and not their bytes, so a restored context holds that many
free ones. Mark: DESIGN CHOICE (log entry 114). -/
def execDigestRestore (j : Nat) (s : State) : Result :=
  runJob s j opDIGEST_RESTORE fun s b =>
    let v := b.val 0x0097
    let keyed := bitAt (leAt v 7 1) 0
    let key := (tgetD s.insts b.inst {}).wrapKey
    let tagOk := !keyed || gcmTag key (slice v 32 12) (v.take 32) (slice v 48 200) == slice v 248 16
    if leAt v 16 2 ≠ b.inst ∧ keyed ∨ !tagOk then (s.bump aDE_RESTORE_REJECT 0, failed stINPUT_ENCODING)
    else
      let alg := leAt v 6 1
      let n := match (algInfo alg).map (·.core) with
        | some .sha2small => 32
        | some .sha2large => 64
        | _ => 200
      let st := if keyed then gcmDec key (slice v 32 12) (slice v 48 200) else slice v 48 200
      let names := s.drawBytes (min 128 (leAt v 22 2))
      (names.2, { done [] with ctx := .store { alg := alg, outLen := leAt v 18 4, custom := names.1, handle := leAt v 24 8,
                                               blocks := leAt v 8 8, chain := st.take n } })

/-- DIGEST_ONESHOT (R423): no context and no P7. -/
def execDigestOneshot (j : Nat) (data : Bytes) (s : State) : Result :=
  runJob s j opDIGEST_ONESHOT fun s b =>
    match (b.alg.bind algInfo) with
    | none => (s, failed stMALFORMED)
    | some i =>
      let c := startCtx (b.newCtx (b.alg.getD 0) i) i b.key
      let s := s.deBlocks b i (data.length + outerBytes i + Job.startBytes c i b.key)
      let d := finishCtx (absorbCtx c i data) i b.key
      if b.has 0x0096 then compareEnd s b d .keep else (s, done [⟨0x0095, d⟩])

end Sys2Proof.Machine
end

