-- ==== Sys2Proof/Machine/Lattice.lean ====
section
/-!
DEFINITION. The lattice opcodes (chapter 05), and the verdict of a fork-mode round (R228, R229).
-/

namespace Sys2Proof.Machine

/-- Every 12-bit coefficient of an encapsulation key decodes below q = 3,329 (R223). -/
def coefficientsOk : (fuel : Nat) → Bytes → Bool
  | 0, _ => true
  | f + 1, b =>
    match b with
    | x :: y :: z :: r =>
      decide (x.toNat + 256 * (y.toNat % 16) < 3329) && decide (y.toNat / 16 + 16 * z.toNat < 3329) && coefficientsOk f r
    | _ => true

/-- The encapsulation-key check of R223: all of `ek` but its last 32 bytes are coefficients. -/
def ekOk (ek : Bytes) : Bool := coefficientsOk ek.length (ek.take (ek.length - 32))

/-- ML-KEM key generation from the 64-byte seed (R211, R212). -/
def mlkemPublic (p : Nat) (seed : Bytes) : Bytes :=
  Config.standard "ML-KEM.keygen" p [seed] (((mlkemSizes p).map (·.1)).getD 0)

/-- ML-KEM encapsulation with the message `m`: ciphertext and shared secret. Mark: DESIGN CHOICE (log entry 2). -/
def mlkemEncaps (p : Nat) (ek m : Bytes) : Bytes × Bytes :=
  (Config.standard "ML-KEM.encaps.c" p [ek, m] (((mlkemSizes p).map (·.2)).getD 0),
   Config.standard "ML-KEM.encaps.k" p [ek, m] 32)

/-- ML-KEM decapsulation, with its implicit rejection (R224). -/
def mlkemDecaps (p : Nat) (seed c : Bytes) : Bytes := Config.standard "ML-KEM.decaps" p [seed, c] 32

/-- The ML-DSA public key of a seed (R213). -/
def mldsaPublic (p : Nat) (seed : Bytes) : Bytes :=
  Config.standard "ML-DSA.keygen" p [seed] (((mldsaSizes p).map (·.1)).getD 0)

/-- What an ML-DSA job signs or verifies (R214): the variant, the context and the message, pre-hash or μ. -/
def mldsaInput (b : Job) (data : Bytes) : List Bytes :=
  if b.has 0x0058 then [[2], [], b.val 0x0058]
  else if b.has 0x0057 then [[1], b.val 0x0056, b.val 0x0057]
  else [[0], b.val 0x0056, data]

/-- The attempts that the sequential algorithm of FIPS 204 needs (R228), 1 upward. -/
def mldsaAttempts (p : Nat) (args : List Bytes) : Nat := Config.standardNat "ML-DSA.rejections" p args + 1

/-- The output of the accepted attempt. Mark: DESIGN CHOICE (log entry 2). -/
def mldsaSignature (p : Nat) (args : List Bytes) : Bytes :=
  Config.standard "ML-DSA.sign" p args (((mldsaSizes p).map (·.2)).getD 0)

/-- The classical half of a composite signature (R248). -/
def compositeClassical (c hash : Nat) (key extra m : Bytes) : Bytes :=
  if c = 0x20 then eddsaSign c key [] [] m else ecdsaSign c key (hashOf hash m) extra

/-- The ML-DSA set of a signing job. -/
def Job.signSet (b : Job) : Nat :=
  if b.opcode = opCOMPOSITE_SIGN then ((compositeOf b.combo).map (·.1)).getD 0 else b.pset

/-- The ML-DSA operands of a signing job once its randomness is drawn: `work` holds the keys, rnd, the classical half's
additional data and the message. -/
def Job.signArgs (b : Job) : List Bytes :=
  let rnd := (b.work.drop 2).headD []
  let m := (b.work.drop 4).headD []
  if b.opcode = opCOMPOSITE_SIGN then [b.key, [0], [], compositeMessage b.combo (b.val 0x0056) m, rnd]
  else b.key :: mldsaInput b m ++ [rnd]

/-- The SIGNATURE a signing job returns. -/
def Job.signature (b : Job) : Bytes :=
  let sig := mldsaSignature b.signSet b.signArgs
  if b.opcode = opCOMPOSITE_SIGN then
    match compositeOf b.combo with
    | some (_, c, h, _, _) =>
      sig ++ compositeClassical c h (b.ecKey2 c) ((b.work.drop 3).headD [])
        (compositeMessage b.combo (b.val 0x0056) ((b.work.drop 4).headD []))
    | none => sig
  else sig

/-- A signing job ends by its attempt count (R230, R231): `rounds` as R228 counts them, `cap` the limit. -/
def State.signEnd (s : State) (b : Job) (rounds cap hist : Nat) : State × Ending :=
  if rounds ≤ cap then (s.bump hist rounds, { done [⟨0x0055, b.signature⟩] with rounds := rounds })
  else (s.bump aPE_EXHAUSTED 0, { failed stSIGN_RETRY_EXHAUSTED with rounds := cap })

/-- Count attempts on every engine of a job. -/
def State.countAttempts (s : State) (b : Job) (n : Nat) : State :=
  b.engines.foldl (fun s k => s.bumpBy aPE_ATTEMPTS (k % 64) n) s

/-- Draw what a signature needs: rnd (zero in deterministic mode, R214) and the classical half's additional data. -/
def State.signDraw (s : State) (b : Job) (data : Bytes) : State × Job :=
  let det := tlvNat b.params 0x0059 0 == 1
  let r := if det then (zeros 32, s) else s.drawBytes 32
  let x := if det then ([], r.2) else r.2.drawBytes 32
  (x.2, { b with work := [b.key, b.key2, r.1, x.1, data] })

/-- The public key of a signing job: ML-DSA, or the composite form of R248. -/
def Job.signerPublic (b : Job) : Bytes :=
  let ml := mldsaPublic b.signSet b.key
  if b.opcode = opCOMPOSITE_SIGN then
    match compositeOf b.combo with
    | some (_, c, _, _, _) => ml ++ ecPublic c (b.ecKey2 c)
    | none => ml
  else ml

/-- Bytes 0 to 37 of the signed-event value of a policy's signature (R522). -/
def eventHead (b : Job) (policy seq : Nat) : Bytes :=
  let comp := b.opcode == opCOMPOSITE_SIGN
  let alg := if comp then b.combo else if b.pset = 44 then 1 else if b.pset = 65 then 2 else 3
  let len := if comp then ((compositeOf b.combo).map (·.2.2.2.2)).getD 0 else ((mldsaSizes b.pset).map (·.2)).getD 0
  [1] ++ beBytes alg 1 ++ beBytes policy 2 ++ beBytes seq 4 ++ beBytes b.start.bits 8 ++ beBytes b.startNs 4
    ++ (sha3_256 b.signerPublic).take 16 ++ beBytes len 2

/-- What a signing job signs: its message; for an event (R522) the frame's bytes followed by bytes 0 to 37 of the value,
which takes the policy's next EVENT_SEQ. Mark: DEDUCED (log entry 57). -/
def State.signMessage (s : State) (b : Job) (data : Bytes) : Bytes × State :=
  match b.src, b.policy with
  | .event ev, some p =>
    match tget s.tr.flights ev, tget s.tr.policies p with
    | some f, some pol =>
      let head := eventHead b p pol.seq
      (f.frame.body ++ head, { s with tr := { s.tr with
        flights := tset s.tr.flights ev { f with head := head },
        policies := tset s.tr.policies p { pol with seq := (pol.seq + 1) % 2 ^ 32 } } })
    | _, _ => (data, s)
  | _, _ => (data, s)

/-- A signing job (MLDSA_SIGN or COMPOSITE_SIGN, R228 to R232): on one PE it runs to its end, the attempt issued beside the
accepted one counted with it (R229, R259); in fork mode the first
round is issued, and `FORK_ROUND_VERDICT` carries it on. -/
def signJob (s : State) (j code : Nat) (data : Bytes) : Result :=
  match s.job j with
  | none => .next s
  | some b =>
    if b.opcode = code ∧ b.phase = .running ∧ b.wait = .no ∧ !b.interrupted ∧ b.forkRound = none then
      let m := (s.expandKey b 0x11 b.signSet true).signMessage b data
      let d := m.2.signDraw b m.1
      if b.forkEngines = [] then
        let n := mldsaAttempts d.2.signSet d.2.signArgs
        let r := (d.1.countAttempts d.2 (min (n + 1) 200)).signEnd d.2 n 200 aPE_HIST_SINGLE
        .next (r.1.endJob j r.2)
      else .next ((d.1.countAttempts d.2 1).setJob j { d.2 with forkRound := some 1 })
    else .next s

/-- MLKEM_KEYGEN (R215): the public key of the seed; the slot is bound to the set and the expanded form stays cached. -/
def execMlkemKeygen (j : Nat) (s : State) : Result :=
  runJob s j opMLKEM_KEYGEN fun s b =>
    (s.expandKey b 0x10 b.pset false, { done [⟨0x0051, mlkemPublic b.pset b.key⟩] with bind := b.pset })

/-- MLKEM_ENCAPS (R223, R225). -/
def execMlkemEncaps (j : Nat) (s : State) : Result :=
  runJob s j opMLKEM_ENCAPS fun s b =>
    let ek := b.val 0x0051
    if !ekOk ek then (s, failed stINPUT_ENCODING)
    else
      let m := s.drawBytes 32
      let r := mlkemEncaps b.pset ek m.1
      (m.2, b.sharedEnd [⟨0x0052, r.1⟩] r.2)

/-- MLKEM_DECAPS (R224): always DONE for a ciphertext of the right length. -/
def execMlkemDecaps (j : Nat) (s : State) : Result :=
  runJob s j opMLKEM_DECAPS fun s b =>
    (s.expandKey b 0x10 b.pset true, b.sharedEnd [] (mlkemDecaps b.pset b.key (b.val 0x0052)))

/-- MLDSA_KEYGEN (R215). -/
def execMldsaKeygen (j : Nat) (s : State) : Result :=
  runJob s j opMLDSA_KEYGEN fun s b =>
    (s.expandKey b 0x11 b.pset false, { done [⟨0x0051, mldsaPublic b.pset b.key⟩] with bind := b.pset })

/-- MLDSA_SIGN (R214, R228 to R232). -/
def execMldsaSign (j : Nat) (data : Bytes) (s : State) : Result := signJob s j opMLDSA_SIGN data

/-- MLDSA_VERIFY (R214, R217): with its own key it uses the cache as a signing job does. -/
def execMldsaVerify (j : Nat) (data : Bytes) (s : State) : Result :=
  runJob s j opMLDSA_VERIFY fun s b =>
    let own := b.handle != 0
    let pk := if own then mldsaPublic b.pset b.key else b.val 0x0051
    (if own then s.expandKey b 0x11 b.pset true else s,
     verdictEnd (Config.standardCheck "ML-DSA.verify" b.pset (pk :: mldsaInput b data ++ [b.val 0x0055])))

/-- FNDSA_VERIFY (R240, R241). -/
def execFndsaVerify (j : Nat) (data : Bytes) (s : State) : Result :=
  runJob s j opFNDSA_VERIFY fun s b =>
    (s, verdictEnd ((b.val 0x0055).length ≥ 42 &&
      Config.standardCheck "FN-DSA.verify" b.pset [b.val 0x0051, b.val 0x0056, data, b.val 0x0055]))

/-- The shared key of the hybrid KEM (R244). -/
def hybridKey (combo : Nat) (ssM ssT ctM ctT : Bytes) : Bytes :=
  sha3_256 (asciiBytes "KRYTORATI-HKEM-1" 16 ++ leBytes combo 1 ++ ssM ++ ssT ++ ctM ++ ctT)

/-- A hybrid job's halves end together in its result; the PE is free from then on, and the BNE until the job completes
(R245, R348). Mark: DESIGN CHOICE (log entry 103). -/
def runHybrid (s : State) (j code : Nat) (f : State → Job → State × Ending) : Result :=
  match s.job j with
  | some b =>
    if b.opcode = code ∧ b.phase = .running ∧ b.wait = .no ∧ !b.interrupted then
      let r := f s b
      .next ((r.1.endJob j r.2).freePes j b)
    else .next s
  | none => .next s

/-- HYBRID_KEM_ENCAPS (R242 to R246, R348). -/
def execHybridKemEncaps (j : Nat) (s : State) : Result :=
  runHybrid s j opHYBRID_KEM_ENCAPS fun s b =>
    match hybridOf b.combo with
    | none => (s, failed stMALFORMED)
    | some (p, ec, _, _) =>
      let n := ((mlkemSizes p).map (·.1)).getD 0
      let ek := (b.val 0x0051).take n
      let pkT := (b.val 0x0051).drop n
      let c := if ec then 1 else 0x10
      if !ekOk ek then (s, failed stINPUT_ENCODING)
      else
        let m := s.drawBytes 32
        let e := m.2.drawBytes 32
        let d := ecPrivate c false e.1
        match ecAgree c d pkT with
        | none => (e.2, failed stPOINT_INVALID)
        | some ssT =>
          let r := mlkemEncaps p ek m.1
          let ctT := ecPublic c d
          (e.2, b.sharedEnd [⟨0x0052, r.1 ++ ctT⟩] (hybridKey b.combo r.2 ssT r.1 ctT))

/-- HYBRID_KEM_DECAPS (R242 to R246): the lattice half never changes the status. -/
def execHybridKemDecaps (j : Nat) (s : State) : Result :=
  runHybrid s j opHYBRID_KEM_DECAPS fun s b =>
    match hybridOf b.combo with
    | none => (s, failed stMALFORMED)
    | some (p, ec, _, _) =>
      let n := ((mlkemSizes p).map (·.2)).getD 0
      let ctM := (b.val 0x0052).take n
      let ctT := (b.val 0x0052).drop n
      let c := if ec then 1 else 0x10
      let s := s.expandKey b 0x10 p true
      match ecAgree c (b.ecKey2 c) ctT with
      | none => (s, failed stPOINT_INVALID)
      | some ssT => (s, b.sharedEnd [] (hybridKey b.combo (mlkemDecaps p b.key ctM) ssT ctM ctT))

/-- COMPOSITE_SIGN (R247 to R249). -/
def execCompositeSign (j : Nat) (data : Bytes) (s : State) : Result := signJob s j opCOMPOSITE_SIGN data

/-- The two halves of a composite verification (R248, R249): `none` when the classical public key is not on its curve. -/
def compositeVerify (combo : Nat) (ctx m pk sig : Bytes) : Option Bool :=
  match compositeOf combo with
  | none => none
  | some (p, c, h, _, _) =>
    let z := (mldsaSizes p).getD (0, 0)
    let m' := compositeMessage combo ctx m
    let pkT := pk.drop z.1
    let sigT := sig.drop z.2
    let lat := Config.standardCheck "ML-DSA.verify" p [pk.take z.1, [0], [], m', sig.take z.2]
    if !pointOk c pkT then none
    else if c = 0x20 then some (lat && eddsaVerify c pkT [] [] m' sigT)
    else
      let l := (ecField c).getD 0
      some (lat && ecdsaVerify c pkT (hashOf h m') (beNat (sigT.take l)) (beNat (sigT.drop l)))

/-- COMPOSITE_VERIFY (R249). -/
def execCompositeVerify (j : Nat) (data : Bytes) (s : State) : Result :=
  runJob s j opCOMPOSITE_VERIFY fun s b =>
    match compositeVerify b.combo (b.val 0x0056) data (b.val 0x0051) (b.val 0x0055) with
    | none => (s, failed stPOINT_INVALID)
    | some ok => (s, verdictEnd ok)

/-- In an EVENT_SIGN berth the four PEs take the next signature while the last one is packed (R234): they are free, and keep
their working region until the last signature's end. Mark: DESIGN CHOICE (log entry 104). -/
def State.yieldPes (s : State) (b : Job) : State :=
  if b.berth.isSome ∧ b.policy.isSome then
    b.engines.foldl (fun s k => s.onEng k fun e => { e with busy := none }) s
  else s

/-- FORK_ROUND_VERDICT (R228 to R230): round r covers attempts 4(r − 1) to 4r − 1. The first round that accepts ends the
job and abandons the round already issued; after 50 rounds the job is exhausted. -/
def execForkRoundVerdict (j : Nat) (s : State) : Result :=
  match s.job j with
  | none => .next s
  | some b =>
    match b.forkRound with
    | none => .next s
    | some r =>
      if b.phase = .running then
        let n := mldsaAttempts b.signSet b.signArgs
        let s := if r < 50 then s.countAttempts b 1 else s
        if n ≤ 4 * r ∨ r ≥ 50 then
          let e := s.signEnd b (if n ≤ 4 * r then r else 51) 50 aPE_HIST_FORK
          .next ((e.1.endJob j e.2).yieldPes b)
        else .next (s.setJob j { b with forkRound := some (r + 1) })
      else .next s

end Sys2Proof.Machine
end

