-- ==== Sys2Proof/Machine/TwinOps.lean ====
section
/-!
DEFINITION. What the families share of the twin pair (chapter 15): the identity (R461), pairing frames (R565), records
(R572), whether a command is mirrored (R571, R576), and events (R586).
-/

namespace Sys2Proof.Machine

/-! ### Identity (R437, R461) -/

/-- A seed derived from RK_ID (R437). -/
def State.idSeed (s : State) (label : String) (n : Nat) : Bytes := kmac256 s.ks.rkId [] n label

/-- The public key of the identity key, COMBO 0x25 (R461). -/
def State.identityPublic (s : State) : Bytes :=
  mldsaPublic 87 (s.idSeed "KRYTORATI-IDMLDSA-1" 32)
    ++ ecPublic 2 (ecPrivate 2 false (s.idSeed "KRYTORATI-IDECDSA-1" 32))

/-- The module's identity MID (R461). -/
def State.mid (s : State) : Bytes := sha3_256 s.identityPublic

/-- Byte strings compared as R568 and R454 compare MIDs. -/
def bytesLe : Bytes → Bytes → Bool
  | [], _ => true
  | _ :: _, [] => false
  | a :: r, b :: t => a.toNat < b.toNat || (a == b && bytesLe r t)

/-- The pair ID of two MIDs (R568). -/
def pairIdOf (a b : Bytes) : Bytes := if bytesLe a b then sha3_256 (a ++ b) else sha3_256 (b ++ a)

/-! ### State words -/

/-- The codes of TW_STATE.STATE (R587). -/
def pairStateCode : PairState → Nat
  | .unpaired => 0 | .pairing => 1 | .paired => 2 | .frozen => 3 | .alone => 4 | .rejoining => 5 | .diverged => 6

/-- The path code of R565. -/
def pathCode : TwinPath → Nat
  | .plA => 1 | .plB => 2 | .mgmt => 3

/-- A path of the pair. -/
def State.path (s : State) (p : TwinPath) : PairPath := tgetD s.tw.paths (pathCode p) {}

/-- Change a path. -/
def State.onPath (s : State) (p : TwinPath) (f : PairPath → PairPath) : State :=
  { s with tw := { s.tw with paths := tput s.tw.paths (pathCode p) (f (s.path p)) {} } }

/-- The three paths. -/
abbrev allPaths : List TwinPath := [.plA, .plB, .mgmt]

/-- The management path is in use (R562). -/
def State.mgmtPath (s : State) : Bool := s.fld aTW_CTL 1 1 == 1

/-- A pairing link is up. Mark: DEDUCED (log entry 64). -/
def State.linkUp (s : State) : Bool := (s.path .plA).up || (s.path .plB).up

/-- The partner is lost on every path (R564). -/
def State.allLost (s : State) : Bool := !s.linkUp && (!s.mgmtPath || !(s.path .mgmt).up)

/-- The partner's heartbeats carry FAULT. -/
def State.partnerFault (s : State) : Bool := s.tw.lastHb.any (·.fault)

/-- PATHS of PAIR_INFO (R584). -/
def State.pathBits (s : State) : Nat := b2n (s.path .plA).up + 2 * b2n (s.path .plB).up + 4 * b2n (s.path .mgmt).up

/-- TW_STATE (R587). -/
def State.twState (s : State) : Nat :=
  s.tw.role + 16 * pairStateCode s.tw.state + 2 ^ 8 * s.tw.version + 2 ^ 12 * s.pathBits
    + 2 ^ 15 * b2n s.partnerFault + 2 ^ 16 * s.hbs.parity

/-- Post a PAIR_ event (R586). -/
def State.pairEvent (s : State) (code : Nat) (path : Option TwinPath) : State :=
  s.postEvent 0 code none (match path with
    | some p => pathCode p
    | none => s.twState) ((s.tw.lastHb.map (·.updCounter)).getD 0)

/-- Take a pair state and a role; N6 records them (R577). -/
def State.setPairState (s : State) (st : PairState) (role : Nat) : State :=
  { s with tw := { s.tw with state := st, role := role, recorded := if role = 0 then s.tw.recorded else role } }

/-! ### Frames (R565) -/

/-- The IV of a frame (R565). -/
def frameIv (path ctr : Nat) : Bytes := leBytes path 1 ++ zeros 3 ++ beBytes ctr 8

/-- Bytes 0 to 15 of a frame (R565). -/
def frameHead (version kind len ctr mseq : Nat) : Bytes :=
  leBytes version 1 ++ leBytes kind 1 ++ beBytes len 2 ++ beBytes ctr 8 ++ beBytes mseq 4

/-- Send one frame on one path (R565): records encrypted; HELLO, PROOF and KEYX, which precede the
keys, with a zero tag. Mark: DEDUCED (log entry 61). -/
def State.sendFrame (s : State) (p : TwinPath) (kind mseq : Nat) (body : Bytes) : State :=
  let ctr := (s.path p).txCtr + 1
  let head := frameHead (if s.tw.version = 1 then 1 else 2) kind body.length ctr mseq
  let iv := frameIv (pathCode p) ctr
  let frame :=
    if 3 ≤ kind ∧ kind ≤ 5 then head ++ body ++ zeros 16
    else if kind ≥ 0x10 then head ++ (gcmEnc s.tw.sendKey iv head body).1 ++ (gcmEnc s.tw.sendKey iv head body).2
    else head ++ body ++ gcmTag s.tw.sendKey iv head body
  (s.onPath p fun x => { x with txCtr := ctr }).emit (.pairing p frame)

/-- The frames that travel on every live path (R563): heartbeats, acknowledgements, HBS records. -/
def onEveryPath (kind : Nat) : Bool := kind == 1 || kind == 2 || kind == 0x20 || kind == 0x21

/-- Send a frame on the paths R563 gives its kind. -/
def State.sendOnPaths (s : State) (kind mseq : Nat) (body : Bytes) : State :=
  let ps := if onEveryPath kind then allPaths.filter fun p => (s.path p).up && (p != .mgmt || s.mgmtPath)
    else [.plA, .plB]
  ps.foldl (fun s p => s.sendFrame p kind mseq body) s

/-- Send a record with the next MSEQ (R572, R574); without a link that carries it, it stays queued (R576). -/
def State.sendRecord (s : State) (kind : Nat) (body : Bytes) (job : Option Nat) : State :=
  let n := s.tw.sent + 1
  let go := if onEveryPath kind then s.linkUp || (s.mgmtPath && (s.path .mgmt).up) else s.linkUp
  let r : PairRecord := { mseq := n, kind := kind, body := body, job := job,
                          sentAt := if go then some s.tb.crossings else none }
  let s := { s with tw := { s.tw with sent := n, queue := s.tw.queue ++ [r] } }
  if go then s.sendOnPaths kind n body else s

/-- Acknowledge a record (R566). -/
def State.sendAck (s : State) (mseq status : Nat) : State :=
  s.sendOnPaths 2 0 (beBytes mseq 4 ++ beBytes status 2 ++ zeros 2)

/-- The body of this module's heartbeat (R566). -/
def State.heartbeatBody (s : State) : Bytes :=
  let go := s.tw.castle.any fun c => c.acked && c.c.any fun t => t.bits ≤ s.tb.stamp.bits
  leBytes s.tw.role 1 ++ leBytes (pairStateCode s.tw.state) 1
    ++ leBytes (b2n (s.fc.mstate != .service) + 2 * b2n (s.mp.state == .run) + 4 * s.pathBits + 32 * b2n go) 1
    ++ leBytes s.hbs.parity 1 ++ beBytes s.stampNow 8 ++ beBytes s.tw.applied 4 ++ beBytes s.ks.updCounter 8

/-- Send the heartbeats of a crossing on each path (R564). -/
def State.sendHeartbeats (s : State) : State :=
  if s.tw.state = .unpaired ∨ s.tw.sendKey = [] ∨ !s.ready 22 ∧ s.fc.mstate = .service then s
  else (allPaths.filter fun p => p != .mgmt || s.mgmtPath).foldl
    (fun s p => s.sendFrame p 1 s.tw.sent s.heartbeatBody) s

/-! ### Mirroring (R571, R573, R576) -/

/-- What a command that changes mirrored state does: apply it here only, mirror it, or end with a status. -/
inductive MirrorMode where
  | here | send | refuse (status : Nat)
  deriving DecidableEq, Repr

/-- Whether a new command is mirrored (R571, R576): the follow refuses it, the lead mirrors it in PAIRED and refuses it
during a castling (R579), in FROZEN and in DIVERGED. Mark: DEDUCED (log entry 66). -/
def State.mirrorMode (s : State) : MirrorMode :=
  match s.tw.state with
  | .unpaired => .here
  | .alone => .here
  | .paired => if s.tw.role = 2 then .refuse stPERMISSION else if s.tw.castle.isSome then .refuse stNOT_READY else .send
  | .frozen => .refuse (if s.tw.role = 2 then stPERMISSION else stNOT_READY)
  | .diverged => .refuse (if s.tw.role = 2 then stPERMISSION else stNOT_READY)
  | .pairing => .refuse stNOT_READY
  | .rejoining => .refuse stNOT_READY

/-- A job waits for the acknowledgement of the record just sent for it. -/
def State.awaitAck (s : State) (j : Nat) : State :=
  s.onJob j fun b => { b with wait := .ack s.tw.sent, waitUp := some s.now }

/-- The commands that wait for an acknowledgement (R584, R587). -/
def State.pairPending (s : State) : Nat := (s.tw.queue.filter fun r => r.job.isSome).length

/-- PAIR_INFO (R584). -/
def State.pairInfo (s : State) : Bytes :=
  leBytes s.tw.role 1 ++ leBytes (pairStateCode s.tw.state) 1 ++ leBytes s.tw.version 1 ++ leBytes s.pathBits 1
    ++ leBytes s.hbs.parity 1 ++ leBytes (b2n s.partnerFault + 2 * s.fld aTW_CTL 8 8 + 4 * b2n s.ks.pairChk) 1 ++ zeros 2
    ++ fitBytes s.tw.pairId 32 ++ leBytes s.tw.sent 4 ++ leBytes s.tw.acked 4 ++ leBytes s.tw.lastCastle.bits 8
    ++ leBytes s.pairPending 4 ++ leBytes (s.cnt aTW_CASTLE_CNT 0) 4

end Sys2Proof.Machine
end

