-- ==== Sys2Proof/Machine/HbsOps.lean ====
section
/-!
DEFINITION. The shared operations of the stateful keys (chapter 06): the journal (R275, R276), reservations (R273, R280),
leaves (R272), the tree cache (R284, R285), and the discard of blocks (R279).
-/

namespace Sys2Proof.Machine

/-! ### The journal -/

/-- One bit of the CRC-16 of R275. -/
def crcBit (c : BitVec 16) : BitVec 16 := if c.msb then (c <<< 1) ^^^ 0x1021#16 else c <<< 1

/-- One byte of the CRC-16. -/
def crcByte (c : BitVec 16) (b : Byte) : BitVec 16 :=
  (List.range 8).foldl (fun c _ => crcBit c) (c ^^^ (BitVec.ofNat 16 b.toNat <<< 8))

/-- The CRC-16 with polynomial 0x1021 and initial value 0xFFFF (R275). -/
def crc16 (bs : Bytes) : Nat :=
  (bs.foldl crcByte 0xFFFF#16).toNat

/-- A record as its 16 bytes in N3 (R275). -/
def JRecord.image (r : JRecord) : Bytes :=
  let head := leBytes r.seq 4 ++ leBytes (r.node % 4096 + 4096 * r.kind) 2
  let tail := leBytes r.nextEven 4 ++ leBytes r.nextOdd 4
  head ++ leBytes (crc16 (head ++ tail)) 2 ++ tail

/-- The CRC of a record's 16 bytes fits. -/
def crcOk (i : Bytes) : Bool := leAt i 6 2 == crc16 (i.take 6 ++ i.drop 8)

/-- The valid record that 16 bytes hold: SEQ is not 0 and the CRC fits (R275, R277). -/
def readRecord (i : Bytes) : Option JRecord :=
  if leAt i 0 4 = 0 ∨ !crcOk i then none
  else some { seq := leAt i 0 4, node := leAt i 4 2 % 4096, kind := leAt i 4 2 / 4096, nextEven := leAt i 8 4,
              nextOdd := leAt i 12 4 }

/-- The journal's valid records, by slot. -/
def State.records (s : State) : Tab JRecord := s.hbs.journal.filterMap fun e => (readRecord e.2).map fun r => (e.1, r)

/-- The highest SEQ of a node's valid records. -/
def State.latestSeq (s : State) (node : Nat) : Nat :=
  ((s.records.filter fun e => e.2.node == node).map fun e => e.2.seq).foldl max 0

/-- The record at a journal slot when it is its node's latest (R276). A RETIRE record ends its key and is not live. -/
def State.liveAt (s : State) (slot : Nat) : Option JRecord :=
  match (tget s.hbs.journal slot).bind readRecord with
  | some r => if r.kind ≠ 6 ∧ r.seq = s.latestSeq r.node then some r else none
  | none => none

/-- Write a record at W with the next SEQ and advance W; a lap ends at the last slot (R276, R278). The record is then to be
read back. -/
def State.putRecord (s : State) (r : JRecord) : State :=
  let n := s.hbs.seq + 1
  let w := s.hbs.w
  { s with hbs := { s.hbs with
    journal := tset s.hbs.journal w { r with seq := n }.image
    unread := (s.hbs.unread.filter fun u => u.1 != w) ++ [(w, tgetD s.hbs.journal w (zeros 16))]
    w := (w + 1) % 4096
    seq := n
    laps := if w = 4095 then s.hbs.laps + 1 else s.hbs.laps } }

/-- Step 1 of R276: while the slot after W holds a node's latest record, a REFRESH copy is written at W.
Mark: DEDUCED (log entry 81). -/
def State.refreshAhead (s : State) : (fuel : Nat) → State
  | 0 => s
  | f + 1 =>
    match s.liveAt ((s.hbs.w + 1) % 4096) with
    | some r => (s.putRecord { r with kind := 4 }).refreshAhead f
    | none => s

/-- Append a record to the journal (R276). -/
def State.appendJournal (s : State) (node kind nextEven nextOdd : Nat) : State :=
  (s.refreshAhead 4096).putRecord { seq := 0, node := node, kind := kind, nextEven := nextEven, nextOdd := nextOdd }

/-! ### Keys, blocks and leaves -/

/-- T of a key (R271). -/
def HbsKey.blocks (k : HbsKey) : Nat := blockCount k.height

/-- Store a registered key. -/
def State.setHbs (s : State) (node : Nat) (k : HbsKey) : State :=
  { s with hbs := { s.hbs with keys := tset s.hbs.keys node k } }

/-- The block a module of a parity reserves next (R280); `none` when its parity is spent (R283). -/
def HbsKey.nextBlock (k : HbsKey) (parity : Nat) : Option Nat :=
  let b := if parity = 1 then k.nextEven else if parity = 2 then k.nextOdd else min k.nextEven k.nextOdd
  if b < k.blocks then some b else none

/-- Advance the pointer of a reserved block by 2 (R280). -/
def HbsKey.advance (k : HbsKey) (b : Nat) : HbsKey :=
  if b % 2 = 0 then { k with nextEven := b + 2 } else { k with nextOdd := b + 2 }

/-- The blocks from `b` of its parity that nobody has reserved. -/
def freeBlocks (b t : Nat) : Nat := if b < t then (t - b + 1) / 2 else 0

/-- LEFT_OWN (R290). -/
def HbsKey.leftOwn (k : HbsKey) (parity : Nat) : Nat :=
  let e := freeBlocks k.nextEven k.blocks
  let o := freeBlocks k.nextOdd k.blocks
  k.held + k.leaves * (if parity = 1 then e else if parity = 2 then o else e + o)

/-- LEFT_ALL (R290). -/
def HbsKey.leftAll (k : HbsKey) : Nat :=
  k.held + k.leaves * (freeBlocks k.nextEven k.blocks + freeBlocks k.nextOdd k.blocks)

/-- The leaf that the next signature of a key takes (R272), if one is usable. -/
def HbsKey.nextLeaf (k : HbsKey) : Option Nat :=
  match k.cur, k.ahead with
  | some b, a => if k.left > 0 then some (k.leaves * b + (k.leaves - k.left)) else a.map (k.leaves * ·)
  | none, a => a.map (k.leaves * ·)

/-- Assign the next leaf (R272): the current block, or the one reserved ahead when that is spent. -/
def HbsKey.takeLeaf (k : HbsKey) : HbsKey :=
  if k.cur.isSome ∧ k.left > 0 then { k with left := k.left - 1 }
  else { k with cur := k.ahead, ahead := none, left := k.leaves - 1 }

/-! ### The tree cache (R284, R285) -/

/-- The expansion of a stateful seed (R269): the label, the typecodes or OID, and σ. Mark: DEDUCED (log entry 38). -/
def hbsExpand (xmss : Bool) (params seed : Bytes) : Bytes :=
  let n := ((hbsInfo xmss params).map (·.n)).getD 0
  let codes := if xmss then params else params.drop 1
  shake256 (asciiBytes (if xmss then "KRYTORATI-XMSS-1" else "KRYTORATI-LMSS-1") 16 ++ codes ++ seed)
    (if xmss then 3 * n else 16 + n)

/-- The root of a tree of a key: its level from the top and its number in the level. -/
def HbsKey.treeRoot (k : HbsKey) (seed : Bytes) (level index : Nat) : Bytes :=
  Config.standard (if k.xmss then "XMSS.root" else "LMS.root") level
    [k.params, hbsExpand k.xmss k.params seed, leBytes index 8] (((hbsInfo k.xmss k.params).map (·.n)).getD 0)

/-- The signature of a lower tree's root by the tree above it, all levels' the same share of the key's signature. -/
def HbsKey.rootSignature (k : HbsKey) (seed : Bytes) (level index : Nat) : Bytes :=
  let i := hbsInfo k.xmss k.params
  Config.standard (if k.xmss then "XMSS.signRoot" else "LMS.signRoot") level
    [k.params, hbsExpand k.xmss k.params seed, leBytes index 8] ((i.map fun i => i.sig / max 1 i.levels.length).getD 0)

/-- The tree of a level that a leaf lies in. -/
def LevelTrees.treeOf (t : LevelTrees) (leaf : Nat) : Nat := leaf / 2 ^ t.below

/-- The leaves a module comes to next, in order: its next leaf, the rest of the current block, and the blocks reserved or to
be reserved. -/
def HbsKey.comingLeaves (k : HbsKey) (parity : Nat) (t : LevelTrees) : List Nat :=
  let after := (t.active + 1) * 2 ^ t.below
  k.nextLeaf.toList ++ (k.cur.filter fun b => after < k.leaves * (b + 1)).toList.map (fun _ => after)
    ++ (k.ahead.toList ++ k.pend.toList ++ (k.nextBlock parity).toList).map (k.leaves * ·)

/-- The next tree of a level (R285): the first one other than the active tree that the module comes to; none where it comes to
no further tree. Mark: DEDUCED (log entry 81). -/
def HbsKey.nextTree (k : HbsKey) (parity : Nat) (t : LevelTrees) : Option Nat :=
  ((k.comingLeaves parity t).map t.treeOf).find? (· != t.active)

/-- A level with its next tree built. -/
def HbsKey.buildNext (k : HbsKey) (seed : Bytes) (parity : Nat) (t : LevelTrees) : LevelTrees :=
  { t with next := (k.nextTree parity t).map fun i => (i, k.treeRoot seed t.level i) }

/-- The cache of a key, complete (R284): the top tree, and of every lower level the active tree, the tree that the next leaf
lies in, the signature of its root, and the next tree. -/
def HbsKey.built (k : HbsKey) (seed : Bytes) (parity : Nat) : HbsKey :=
  let hs := ((hbsInfo k.xmss k.params).map (·.levels)).getD []
  let first := k.leaves * ((k.nextBlock parity).getD 0)
  let leaf := k.nextLeaf.getD ((k.pend.map (k.leaves * ·)).getD first)
  { k with
    tree := .ready
    progress := 1000
    parts := 0
    top := k.treeRoot seed 0 0
    lower := (List.range (hs.length - 1)).map fun j =>
      let below := (hs.drop (j + 1)).sum
      let i := leaf / 2 ^ below
      k.buildNext seed parity { level := j + 1, below := below, active := i, root := k.treeRoot seed (j + 1) i,
                                rootSig := k.rootSignature seed (j + 1) i } }

/-- The next leaf needs a next tree that is not complete (R285). -/
def HbsKey.treeMissing (k : HbsKey) : Bool :=
  k.nextLeaf.any fun l => k.lower.any fun t => t.treeOf l != t.active && t.next.all (·.1 != t.treeOf l)

/-- Take a leaf into use: in a level whose next tree it lies in, that tree becomes the active one, its root signed by the
level above, and a further next tree is to be built. -/
def HbsKey.useLeaf (k : HbsKey) (seed : Bytes) (leaf : Nat) : HbsKey :=
  { k.takeLeaf with lower := k.lower.map fun t =>
      match t.next with
      | some (i, r) =>
        if t.treeOf leaf = i then
          { t with active := i, root := r, rootSig := k.rootSignature seed t.level i, next := none }
        else t
      | none => t }

/-- The seed σ of a stateful key's node (R269). -/
def State.hbsSeed (s : State) (node : Nat) : Bytes := s.nodeValue 9 node

/-- The MEs that ME_CTL.REBUILD_MASK names (R263). -/
def State.buildMes (s : State) : Nat := ((List.range 8).filter (bitAt (s.fld aME_CTL 23 16))).length

/-- The rebuild of the first key in node order whose cache is not complete starts, as subtree jobs charged to the instance that
owns it, one for each ME of the rebuild mask (R263, R286). Mark: DESIGN CHOICE (log entry 105). -/
def State.launchRebuild (s : State) : State :=
  match s.hbs.keys.find? fun e => e.2.tree == .rebuilding with
  | none => s
  | some (n, k) =>
    if k.parts ≠ 0 ∨ tget s.hbs.keys n ≠ some k then s
    else
      let parts := max 1 s.buildMes
      let op := if k.xmss then opXMSS_KEYGEN else opLMS_KEYGEN
      (List.range parts).foldl (fun s _ =>
        (s.addJob (taskJob k.inst s.nextJob op [] { cls := 2, parent := 0, node := some n })).2)
        (s.setHbs n { k with parts := parts, progress := 0 })

/-- The STATE of HBS_STATE (R290). -/
def hbsStateCode (k : Option HbsKey) (parity : Nat) : Nat :=
  match k with
  | none => 0
  | some k =>
    match k.tree with
    | .full => 5
    | .rebuilding => 2
    | .absent => 2
    | .ready =>
      if k.nextLeaf.isNone ∧ k.pend.isNone ∧ (k.nextBlock parity).isNone then 4 else if k.waiting then 3 else 1

/-! ### Reservations (R273) -/

/-- A reservation needs no acknowledgement: no partner, a partner lost on every path or in FAULT (R273), or PL1 (R569).
In PAIRING the earlier state decides. -/
def State.ackFree (s : State) : Bool :=
  s.tw.version == 1 || s.partnerFault ||
    match s.tw.state with
    | .unpaired => true
    | .alone => true
    | .pairing => s.tw.hs.any fun h => h.before == .unpaired || h.before == .alone
    | _ => false

/-- Make a pending reservation usable once it is read back and, where needed, acknowledged. -/
def HbsKey.settle (k : HbsKey) (free : Bool) : HbsKey :=
  match k.pend with
  | none => k
  | some b =>
    if k.readBack && (k.acked || free) then
      if k.ahead.isNone && (k.cur.isNone || k.left == 0) then
        { k with cur := some b, left := k.leaves, pend := none, waiting := false }
      else { k with ahead := some b, pend := none, waiting := false }
    else k

/-- Settle every key's reservation, and let the signing jobs that wait for a leaf go back to the grant. -/
def State.settleHbs (s : State) : State :=
  let free := s.ackFree
  let keys := s.hbs.keys.map fun e => (e.1, e.2.settle free)
  let s := { s with hbs := { s.hbs with keys := keys } }
  s.onJobs fun b => match b.wait with
    | .reservation n => if (tget keys n).any fun k => k.nextLeaf.isSome then { b with wait := .no } else b
    | _ => b

/-- The body of an HBS record (R572): node and both pointers. -/
def hbsBody (node : Nat) (k : HbsKey) : Bytes := beBytes node 2 ++ beBytes k.nextEven 4 ++ beBytes k.nextOdd 4

/-- Whether the key store reserves a key's next block now (R273): the current block is low, or a signature waits without
one, and no block is reserved ahead. -/
def State.reserveDue (s : State) (node : Nat) (k : HbsKey) : Bool :=
  let low := min (s.fld aME_CTL 9 0) (k.leaves / 2)
  k.ahead.isNone && k.pend.isNone &&
    (if k.cur.isSome then k.left ≤ low else s.jobs.any fun e => e.2.wait == .reservation node)

/-- Mirror a reservation to the partner (R283). -/
def State.mirrorKey (s : State) (node : Nat) (k : HbsKey) : State :=
  match s.tw.state with
  | .paired => s.sendRecord 0x20 (hbsBody node k) none
  | .frozen => s.sendRecord 0x20 (hbsBody node k) none
  | .diverged => s.sendRecord 0x20 (hbsBody node k) none
  | _ => s

/-- Mirror every reservation that is not yet acknowledged, as the pair forms again (R273, R283). -/
def State.mirrorPending (s : State) : State :=
  s.hbs.keys.foldl (fun s e => if e.2.pend.isSome && !e.2.acked then s.mirrorKey e.1 e.2 else s) s

/-- Reserve the next block of the module's parity: journal, and mirror to a partner (R273, R280, R283). -/
def State.reserve (s : State) (node : Nat) (k : HbsKey) (b : Nat) : State :=
  let k := { (k.advance b) with pend := some b, readBack := false, acked := false }
  (((s.setHbs node k).appendJournal node 2 k.nextEven k.nextOdd).bump aME_RSV_CNT 0).mirrorKey node k

/-! ### Discard (R279) -/

/-- Post HBS_LOW when LEFT_OWN has first fallen below 2^h / 16 and below 2^h / 256 (R291). -/
def State.checkLow (s : State) (node : Nat) : State :=
  match tget s.hbs.keys node with
  | none => s
  | some k =>
    let own := k.leftOwn s.hbs.parity
    let n := if own < 2 ^ k.height / 256 then 2 else if own < 2 ^ k.height / 16 then 1 else 0
    if n > k.low then
      let s := s.setHbs node { k with low := n }
      (List.range (n - k.low)).foldl (fun s _ => s.postEvent k.inst 0x0210 none node own) s
    else s

/-- The same for every key, after what may have lowered LEFT_OWN of several. -/
def State.checkLows (s : State) : State := (s.hbs.keys.map (·.1)).foldl State.checkLow s

/-- Take the parity of a new role, with every block discarded (R281, R579). -/
def State.takeParity (s : State) (p : Nat) : State :=
  let s := s.discardBlocks fun _ => true
  ({ s with hbs := { s.hbs with parity := p } } : State).checkLows

/-- Give the parity up as a pair is dissolved (R280): a change discards every block (R279). -/
def State.dropParity (s : State) : State := if s.hbs.parity = 0 then s else s.takeParity 0

/-- End a stateful key with its node (R458): RETIRE is journalled and the key forgotten. -/
def State.retireHbs (s : State) (node : Nat) : State :=
  match tget s.hbs.keys node with
  | none => s
  | some k =>
    let s := s.appendJournal node 6 k.nextEven k.nextOdd
    ({ s with hbs := { s.hbs with keys := tdel s.hbs.keys node } } : State).launchRebuild

end Sys2Proof.Machine
end

