-- ==== Sys2Proof/Machine/Admission.lean ====
section
/-!
DEFINITION. The way of a packet into the module: the checks of R121, steps 1 to 8, the admission of MP commands (R139,
R140), and the making of a job.
-/

namespace Sys2Proof.Machine

/-! ### Channels (R123 to R126) -/

/-- The versions the module supports (R122). -/
abbrev versionsSupported : List (Nat × Nat) := [(1, 0), (1, 1), (1, 2), (1, 3), (2, 0), (2, 1), (2, 2)]

/-- A session. -/
def State.session (s : State) (port id : Nat) : Option Session :=
  s.mp.sessions.find? fun x => x.port == port && x.id == id

/-- The version negotiated on a channel (R123); (0, 0) before its first HELLO. Mark: DEDUCED (log entry 83). -/
def State.channelVersion (s : State) (src : Source) (inst : Nat) : Nat × Nat :=
  match src with
  | .queue _ => tgetD s.versions inst (0, 0)
  | .session p i => ((s.session p i).map (·.version)).getD (0, 0)
  | .console => s.mp.consoleVersion
  | .mp => (2, 2)
  | .event _ => (2, 2)

/-- The issuer bit of R128: M, T, P, S. -/
def issuerBit (src : Source) (inst : Nat) : Nat :=
  match src with
  | .queue _ => if inst = 0 then 0 else 1
  | .session _ _ => 2
  | .console => 3
  | .mp => 0
  | .event _ => 0

/-! ### The slow-command queue (R138 to R140) -/

/-- An MP job. -/
def Job.isMp (b : Job) : Bool := (opInfo b.opcode).any (·.mp)

/-- The occupancy of the slow-command queue: an entry is held from admission until its completion is written (R138). -/
def State.mpOccupancy (s : State) : Nat := (s.jobs.filter fun e => e.2.isMp).length

/-- MP_DRAIN: commands completed in the last 16 crossings. -/
def State.mpDrain (s : State) : Nat := s.mp.drain.sum

/-- RETRY_AFTER (R140), in crossings; a started crossing counts whole. Mark: DESIGN CHOICE (log entry 100). -/
def State.retryAfter (s : State) : Nat :=
  if s.mp.state = .restart then
    max 1 (ceilDiv ((s.mp.restartUp + 200000000 - s.now) * s.tb.rate) (10 ^ 9))
  else
    let occ := s.mpOccupancy
    if occ ≤ 512 then 1 else max 1 (ceilDiv (16 * (occ - 512)) (max s.mpDrain 1))

/-- An MP command is refused at admission (R139). -/
def State.mpBusy (s : State) (src : Source) : Bool :=
  s.mp.state == .restart ||
    match src with
    | .queue _ => s.mpOccupancy > 768 || s.mp.util0 > 900
    | .session _ _ => s.mpOccupancy ≥ 1024
    | .console => s.mpOccupancy ≥ 1024
    | .mp => false
    | .event _ => false

/-! ### The checks of R121 -/

/-- The TLV types and values of a parameter area as far as it can be read, without any check. -/
def rawTlvs : (fuel : Nat) → Bytes → List Tlv
  | 0, _ => []
  | f + 1, b =>
    if b.length < 8 then []
    else
      let n := leAt b 4 4
      ⟨leAt b 0 2, slice b 8 n⟩ :: rawTlvs f (b.drop (8 + roundUp n 8))

/-- Step 1: header (R111, R113). Mark: DEDUCED (log entry 83). -/
def headerStatus (h : Header) (src : Source) (ver : Nat × Nat) : Option Nat :=
  let limit := match src with
    | .console => 4096
    | _ => 4194304
  if h.flags ≥ 4 ∨ (bitAt h.flags 1 ∧ !versionGe ver (2, 2)) then some stMALFORMED
  else if h.paramLen % 8 ≠ 0 then some stMALFORMED
  else if h.paramLen > limit then some stLIMIT_EXCEEDED
  else none

/-- Step 2: version (R124). -/
def versionStatus (h : Header) (ver : Nat × Nat) : Option Nat :=
  if h.opcode = opHELLO then
    if versionsSupported.contains (h.major, h.minor) then none else some stVERSION_UNSUPPORTED
  else if ver ≠ (0, 0) ∧ (h.major, h.minor) = ver then none
  else some stVERSION_UNSUPPORTED

/-- Step 3: the opcode exists at the version and has its microcode (R127, R129). -/
def State.opcodeOk (s : State) (o : OpInfo) (ver : Nat × Nat) : Bool :=
  (o.code == opHELLO || o.exists_ ver) && s.microcoded o.cls o.code

/-- Step 4: issuer, channel and queue class (R128, R130). -/
def State.issuerOk (s : State) (o : OpInfo) (src : Source) (inst : Nat) (fills : Bool) : Bool :=
  bitAt o.issuers (issuerBit src inst) &&
    match src with
    | .queue q => s.qControl q || !(o.control || fills)
    | .session _ _ => o.mp
    | .console => o.mp
    | .mp => true
    | .event _ => true

/-- Step 5, beyond the TLVs: KEY_HANDLE is zero where the opcode takes no key (R112), and only opcodes with data
fragments carry any (R165). -/
def shapeOk (o : OpInfo) (handle dataLen : Nat) (frags : List Fragment) : Bool :=
  (o.key || handle == 0)
    && (o.data || (dataLen == 0 && frags.all fun f => f.out))
    && (o.outData || frags.all fun f => !f.out)

/-- The opcodes LATCHED accepts (R608); FAULT_CLEAR not on the console. -/
def latchedAccepts (code : Nat) (src : Source) : Bool :=
  [opHELLO, opCAPS, opREADY_QUERY, opFW_STATUS, opFAULT_LOG_READ, opSELFTEST].contains code
    || (code == opFAULT_CLEAR && src != .console)

/-- A job names a key handle. -/
def namesKey (handle : Nat) (ts : List Tlv) : Bool :=
  handle != 0 || tlvHas ts 0x005A || tlvHas ts 0x0054 || tlvHas ts 0x0070

/-- Step 7: the ID_READY bits of R641. -/
def State.readyFor (s : State) (o : OpInfo) (src : Source) (handle : Nat) (ts : List Tlv) : Bool :=
  (s.fc.mstate != .latched || latchedAccepts o.code src)
    && o.ready.all (fun g => g.any s.ready)
    && (o.cls == 0 || o.cls > 4 || (clustersOf o.cls).any fun k =>
          s.ready (clusterReadyBit k) && (s.packOf k).has (tableOpcode o.code) none)
    && (!namesKey handle ts || s.ready 2)
    && (!o.needsRng ts || s.ready 3)
    && (o.code != opKEY_DERIVE || tlvNat ts 0x00B0 0 != 1 || s.ready 23)
    && (o.code != opMACSEC_SA_INSTALL || s.ready (17 + tlvNat ts 0x00E3 0 / 128 % 4))

/-- An outcome of the checks: refused with an ending, or passed with the opcode's row and its TLVs. -/
inductive Checked where
  | refused (e : Ending)
  | passed (o : OpInfo) (ts : List Tlv)
  deriving DecidableEq, Repr

/-- Steps 1 to 8 of R121. -/
def State.check (s : State) (src : Source) (inst : Nat) (e : Entry) : Checked :=
  let h := e.header
  let ver := s.channelVersion src inst
  let refuse := fun (st : Nat) => Checked.refused { status := st }
  match headerStatus h src ver with
  | some st => refuse st
  | none =>
    match versionStatus h ver with
    | some st => refuse st
    | none =>
      match opInfo h.opcode with
      | none => refuse stOPCODE_UNKNOWN
      | some o =>
        if !s.opcodeOk o ver then refuse stOPCODE_UNKNOWN
        else if !s.issuerOk o src inst (o.fillsSlot (rawTlvs (e.params.length + 1) e.params)) then refuse stPERMISSION
        else
          match parseTlvs o.tlvs h.paramLen (h.paramLen + 1) 0 (fitBytes e.params h.paramLen) [] with
          | .error f => .refused { status := stMALFORMED, results := [detailTlv f] }
          | .ok ts =>
            if !shapeOk o h.handle e.dataLen e.frags then refuse stMALFORMED
            else if ver.1 ≠ 1 ∧ h.deadline ≠ 0 ∧ h.deadline ≤ s.stampNow then refuse stDEADLINE_MISSED
            else if !s.readyFor o src h.handle ts then refuse stNOT_READY
            else if o.mp ∧ s.mpBusy src then
              .refused { status := stMP_BUSY, results := [⟨3, leBytes s.retryAfter 4⟩] }
            else .passed o ts

/-! ### Making jobs -/

/-- Jobs fetched so far from the pair of a source. -/
def State.fetchedOf (s : State) (src : Source) : Nat :=
  match src with
  | .queue q => (s.pair q).fetched
  | _ => 0

/-- The job of a packet. -/
def State.jobOf (s : State) (src : Source) (inst : Nat) (e : Entry) (ts : List Tlv) (phase : JobPhase) : Job :=
  let h := e.header
  let ver := s.channelVersion src inst
  { src := src, inst := inst, opcode := h.opcode, tag := h.tag, major := ver.1, minor := ver.2, flags := h.flags,
    handle := h.handle, deadline := if ver.1 = 1 then 0 else h.deadline, params := ts, paramLen := h.paramLen,
    resultCap := e.resultCap, resultAddr := e.resultAddr, dataLen := e.dataLen, frags := e.frags, order := s.nextJob,
    seqInQueue := s.fetchedOf src, phase := phase, seCtl := s.reg aSE_CTL, deCtl := s.reg aDE_CTL }

/-- An earlier entry of the same SQ has not completed (R677). -/
def State.fenced (s : State) (src : Source) (flags : Nat) : Bool :=
  bitAt flags 0 && s.jobs.any fun e => e.2.src == src && match src with
    | .queue _ => true
    | _ => false

/-- The high-water mark of the slow-command queue (R149). -/
def State.markHwm (s : State) : State :=
  { s with mp := { s.mp with hwm := max s.mp.hwm s.mpOccupancy } }

/-- Complete a packet at once without running it. -/
def State.complete (s : State) (src : Source) (inst : Nat) (e : Entry) (ending : Ending) : State :=
  let r := s.addJob { (s.jobOf src inst e [] .ended) with ending := some ending }
  r.2.writeCompletion r.1

/-- Take a packet in: run the checks, and complete it or make its job (R121, R677, R138). -/
def State.accept (s : State) (src : Source) (inst : Nat) (e : Entry) : State :=
  match s.check src inst e with
  | .refused ending =>
    (if ending.status = stMP_BUSY then s.bump aMP_BUSY_CNT 0 else s).complete src inst e ending
  | .passed o ts =>
    let phase := if s.fenced src e.header.flags then .fenced else if o.mp then .slow else .fifo
    let s := (s.addJob (s.jobOf src inst e ts phase)).2
    if o.mp then s.markHwm else s

/-- Write the completion of a job that has ended, counting an MP command towards MP_DRAIN (R140). -/
def State.finish (s : State) (j : Nat) : State :=
  let mp := (s.job j).any fun b => b.isMp && b.ending.isSome
  let s := s.writeCompletion j
  if mp then { s with mp := { s.mp with drainNow := s.mp.drainNow + 1 } } else s

end Sys2Proof.Machine
end

