-- ==== Sys2Proof/Machine/SetupOps.lean ====
section
/-!
DEFINITION. Setting up, enabling and disabling queue pairs (chapter 04): the values of a pair as a set would leave them,
the checks of R205 and R206, and what an enable, a disable and a discard do.
-/

namespace Sys2Proof.Machine

/-! ### Staged values (R103) -/

/-- The commit group of the register at an offset, for an RWS register. -/
def groupOf (off : Nat) : Option Nat :=
  (rowAt off).bind fun w => if w.kind = .rws then some w.group else none

/-- Groups 2, 8, 9, 12 and 14 are MP-owned (R108). -/
abbrev mpGroups : BitVec 16 := 0x5304

/-- The value a register has once a set of groups is applied: staged values of the set, active ones else. -/
def State.proposed (s : State) (set : BitVec 16) (off : Nat) : Nat :=
  match groupOf off with
  | some g => if set.getLsbD g then s.shadowReg off else s.reg off
  | none => s.reg off

/-- The offsets of a group whose shadow was written. -/
def State.stagedOffs (s : State) (g : Nat) : List Nat := (s.shadow.map (·.1)).filter fun o => groupOf o == some g

/-- A register's value changes when the set is applied. -/
def State.changes (s : State) (off : Nat) : Bool := s.shadowReg off != s.reg off

/-! ### Which pair a doorbell names (R46, R49) -/

/-- Virtual function `n` is enabled (R541). Mark: DEDUCED (log entry 14). -/
def State.vfOn (s : State) (n : Nat) : Bool := s.pcie.vfEnable && n ≤ s.pcie.numVfs

/-- The pair behind a doorbell block: of the physical function, the global pair while no tenant owns it; of virtual
function `fn`, while it is enabled (R541), the pair that the instance maps at that local index. -/
def State.doorPair (s : State) (fn pair : Nat) : Option Nat :=
  if fn = 0 then (if pair < 2048 ∧ (s.pair pair).owner = 0 then some pair else none)
  else if !s.vfOn fn then none
  else (s.pairs.find? fun e => e.2.owner == fn && e.2.loc == pair).map (·.1)

/-- Write the mirror line if a STATE bit differs from what it was (R177). -/
def State.mirrorIf (s : State) (q before : Nat) : State :=
  if s.qStatus q % 2 ^ 16 = before % 2 ^ 16 then s else s.mirror q

/-! ### The setup words of a pair (R155, R156) -/

/-- The doorbell-block offset of a Q_ register (R208), and back. -/
def dbOffset (q : Nat) : Nat := if q = aQ_MOD then 0x30 else if q = aQ_VECTOR then 0x34 else if q = aQ_POLL then 0x38 else q + 0x14

/-- The Q_ registers of the QUEUE group within a set (R207). -/
abbrev queueRegs : List Nat := [0x00, 0x04, 0x08, 0x0C, 0x10, 0x14, 0x18, 0x1C]

/-- The Q_ register a setup word stands for (R208). -/
def setupReg (off : Nat) : Option Nat :=
  (queueRegs ++ [aQ_MOD, aQ_VECTOR]).find? fun r => dbOffset r == off

/-- The writable bits and the reset value of a Q_ register. -/
def qMask (r : Nat) : Nat × Nat :=
  match rowsQueue.find? fun w => w.addr == r with
  | some w => (w.mask, w.reset)
  | none => (0, 0)

/-- The low words of the 64-bit Q_ registers; the high word of each stands 4 bytes above (R207). -/
def wideRegs : List Nat := [aQ_SQ_BASE_LO, aQ_CQ_BASE_LO, aQ_MIRROR_LO]

/-- The offset, in the BAR0 of function `fn`, of the low word of a 64-bit register that is written (R19, R20): the bases
and the mirror address of a pair, in the register map, in its shadows and in the doorbell blocks, and XS_TIME_SET.
Mark: DEDUCED (log entry 11). -/
def wideLow (fn off : Nat) : Bool :=
  if fn = 0 then
    off == aXS_TIME_SET_LO
      || ((queueOfOff off).orElse fun _ => queueOfOff (off - 0x8000)).any (fun x => wideRegs.contains x.2)
      || (decide (0x200000 ≤ off ∧ off < 0xA00000) && (wideRegs.map dbOffset).contains (off % 0x1000))
  else decide (0x4000 ≤ off ∧ off < 0x8000) && (wideRegs.map dbOffset).contains (off % 64)

/-- The offset of the high word of such a register. -/
def wideHigh (fn off : Nat) : Bool := decide (4 ≤ off) && wideLow fn (off - 4)

/-- Where the high word of a 64-bit register is latched when its low word is read (R19). -/
def latchKey (fn off : Nat) : Nat := fn * 2 ^ 26 + off

/-- Write a word of a pair's 64-bit registers (R20): a low word is held; the high word stores both with `put`; any other
word is stored at once. -/
def State.putWide (s : State) (q r : Nat) (w : Reg) (put : State → Nat → Reg → State) : State :=
  if wideRegs.contains r then s.onPair q fun p => { p with lowHeld := tset p.lowHeld r w }
  else
    match if 4 ≤ r then tget (s.pair q).lowHeld (r - 4) else none with
    | some lo => put (put (s.onPair q fun p => { p with lowHeld := tdel p.lowHeld (r - 4) }) (r - 4) lo) r w
    | none => put s r w

/-- A tenant's setup word as a request took it. -/
def QPair.askedWord (p : QPair) (r : Nat) : Nat := (tgetD p.asked (dbOffset r) (BitVec.ofNat 32 (qMask r).2)).toNat

/-! ### The checks of R205 and R206 -/

/-- The bytes a ring takes (R154). -/
def sqBytes (kind fmt log : Nat) : Nat := 2 ^ log * (if kind = 2 then 16384 else if fmt = 0 then 64 else 32)

/-- R205 for pair `q`, with the values `w` it would take; `others` are kinds that other pairs of its instance are about
to take. The fail code and the offending register. Mark: DEDUCED (log entry 30). -/
def State.pairCheck (s : State) (q : Nat) (w : Nat → Nat) (others : List Nat) : Option (Nat × Nat) :=
  let p := s.pair q
  let c := w aQ_CTL
  let kind := bitsAt c 25 24
  let cq := bitsAt c 20 16
  let sq := bitsAt c 12 8
  let fmt := bitsAt c 2 2
  let sqBase := w aQ_SQ_BASE_LO + 2 ^ 32 * w aQ_SQ_BASE_HI
  let cqBase := w aQ_CQ_BASE_LO + 2 ^ 32 * w aQ_CQ_BASE_HI
  let active := p.enabled || p.enabling
  let same := fun (r : Nat) => w r == s.reg (qReg q r)
  if kind = 3 ∨ sq < 4 ∨ sq > 16 ∨ cq < 4 ∨ cq > 16 then some (1, aQ_CTL)
  else if w aQ_POLL < 1 ∨ w aQ_POLL > 4000 then some (1, aQ_POLL)
  else if (if kind = 1 then sqBase ≠ 0 else sqBase = 0 ∨ sqBase % sqBytes kind fmt sq ≠ 0) then some (2, aQ_SQ_BASE_LO)
  else if cqBase = 0 ∨ cqBase % (2 ^ cq * 32) ≠ 0 then some (2, aQ_CQ_BASE_LO)
  else if kind = 2 ∧ sq ≠ cq then some (2, aQ_CTL)
  else if (p.created.any fun x => x.kind != kind || x.cls != bitsAt c 1 1 || x.fmt != fmt) then some (2, aQ_CTL)
  else if active ∧ (bitsAt c 3 3 ≠ bitsAt (s.reg (qReg q aQ_CTL)) 3 3 ∨ cq ≠ s.fld (qReg q aQ_CTL) 20 16
      ∨ sq ≠ s.fld (qReg q aQ_CTL) 12 8) then some (2, aQ_CTL)
  else if active ∧ !(queueRegs.drop 1).dropLast.all same then
    some (2, ((queueRegs.drop 1).dropLast.find? fun r => !same r).getD 0)
  else if bitAt c 0 ∧ !p.enabled ∧ !p.idle then some (2, aQ_CTL)
  else if kind ≠ 0 ∧ (others.contains kind
      ∨ s.pairs.any fun e => e.1 != q && e.2.owner == p.owner && e.2.created.any fun x => x.kind == kind) then
    some (3, aQ_CTL)
  else none

/-- The vectors of an instance (R547, R561). -/
def State.vectors (s : State) (inst : Nat) : Nat := s.fld (inReg inst aIN_VECTORS) 6 0

/-- R206 for pair `q`, with the values it would take. -/
def State.intCheck (s : State) (q : Nat) (w : Nat → Nat) : Option (Nat × Nat) :=
  let m := w aQ_MOD
  let mode := bitsAt m 1 0
  let timer := bitsAt m 27 16
  if (mode = 1 ∧ bitsAt m 15 8 = 0) ∨ (mode = 2 ∧ timer = 0) ∨ timer > 4000 then some (1, aQ_MOD)
  else if bitsAt (w aQ_VECTOR) 5 0 ≥ s.vectors (s.pair q).owner then some (4, aQ_VECTOR)
  else none

/-! ### Enabling -/

/-- An enable takes effect (R153, R158): indices and laps return to 0, and the first enable creates the pair. -/
def State.enablePair (s : State) (q : Nat) : State :=
  let p := s.pair q
  let c := s.reg (qReg q aQ_CTL)
  let fresh : PairCreated := { kind := bitsAt c 25 24, cls := bitsAt c 1 1, fmt := bitsAt c 2 2 }
  let new := p.created.isNone
  let s := if new then s.setCnt aQ_STALL_CNT q 0 else s
  let s := s.setPair q { p with
    created := some (p.created.getD fresh), enabled := true, enabling := false, idle := false, draining := false,
    error := false, stall := false, sqHead := 0, sqTail := 0, sqLap := 0, cqHead := 0, cqTail := 0, cqLap := 0,
    armed := false, modCount := 0, modFirst := 0, copySeq := if new then 0 else p.copySeq,
    copyLost := if new then 0 else p.copyLost, hold := [], adopt := [], partialEntry := false }
  (s.mirror q).useSpace q

/-! ### Disabling (R184 to R186) -/

/-- A job of a data-class pair that is being disabled, or any waiting MP command of it, completes ABORTED; a saved one
is wiped. -/
def State.abortJob (s : State) (j : Nat) : State :=
  match s.job j with
  | none => s
  | some b =>
    let s := if b.phase = JobPhase.saved then s.dropContext j else s
    (s.failJob j stABORTED).finish j

/-- The jobs that a disable ends at once: waiting MP commands; of a data-class pair also unstarted and saved jobs. -/
def State.abortable (s : State) (q : Nat) (b : Job) : Bool :=
  b.src == .queue q && (b.phase == .slow || b.phase == .fenced && b.isMp
    || (!s.qControl q && !b.isMp && (b.phase == .fifo || b.phase == .fenced || b.phase == .saved && b.half.isNone)))

/-- A disable takes effect (R184, R170): the pair fetches nothing new and drains. Running data-class jobs are asked to
stop at their next preemption point. -/
def State.disablePair (s : State) (q : Nat) : State :=
  let p := s.pair q
  if !p.enabled then s
  else
    let s := s.setPair q { p with enabled := false, enabling := false, draining := true, error := false, armed := false }
    let s := (s.mirror q)
    let s := (s.jobsWhere (s.abortable q)).foldl State.abortJob s
    let s := s.onJobs fun b =>
      if b.src == .queue q && !s.qControl q && b.phase == .running then { b with preemptAsked := true } else b
    s.checkIdle q

/-- A pair stops at once, as an instance reset makes it (R557): unfetched entries stay unread, completions are
discarded, and nothing is reported. -/
def State.killPair (s : State) (q : Nat) : State :=
  let p := s.pair q
  s.setPair q { owner := p.owner, loc := p.loc }

/-- Take a job's space in a state away without a completion. -/
def State.removeJob (s : State) (j : Nat) : State :=
  let s := (s.dropContext j).dropJob j
  s.onEngines fun e => { e with busy := if e.busy = some j then none else e.busy }

end Sys2Proof.Machine
end

