-- ==== Sys2Proof/Machine/RandomOps.lean ====
section
/-!
DEFINITION. The shared operations of the random subsystem (chapter 12): generate requests, epochs, expander cover, and
waiting for randomness.
-/

namespace Sys2Proof.Machine

/-! ### DRBGs (R481 to R485) -/

/-- The DRBGs in seed priority (R481). -/
abbrev seedOrder : List Nat := [1, 2, 5, 3, 4, 6, 7, 8, 0]

/-- The generate requests of a DRBG between reseeds (R483). -/
abbrev reseedInterval : Nat := 65536

/-- A DRBG. -/
def State.drbg (s : State) (d : Nat) : Drbg := tgetD s.rng.drbgs d {}

/-- Store a DRBG. -/
def State.setDrbg (s : State) (d : Nat) (x : Drbg) : State :=
  { s with rng := { s.rng with drbgs := tput s.rng.drbgs d x {} } }

/-- OLD_EPOCH (R485). -/
def State.oldEpoch (s : State) (d : Nat) : Bool := (s.drbg d).inst && (s.drbg d).epoch < s.rng.epoch

/-- Reseed from a block of epoch `e` (R483). Mark: DEDUCED (log entry 41). -/
def State.reseed (s : State) (d e : Nat) : State :=
  let x := s.drbg d
  (s.setDrbg d { x with left := reseedInterval, epoch := e, stopped := false }).bump aRNG_DRBG_RESEEDS d

/-- At its limit a DRBG reseeds from its staged seed, or stops without one (R483). Mark: DEDUCED (log entry 41). -/
def State.atLimit (s : State) (d : Nat) : State :=
  let x := s.drbg d
  if !x.inst ∨ x.left ≠ 0 ∨ x.stopped then s
  else match x.staged with
    | some e => (s.setDrbg d { x with staged := none }).reseed d e
    | none => (s.setDrbg d { x with stopped := true }).bump aRNG_DRBG_STOPS d

/-- The requests a DRBG can serve without a further block: what is left, and its staged seed (R496). -/
def State.drbgCover (s : State) (d : Nat) : Nat :=
  let x := s.drbg d
  if !x.inst then 0 else x.left + if x.staged.isSome then reseedInterval else 0

/-- Serve `n` generate requests of a DRBG that covers them; whether any of the output is of an old epoch (R488). -/
def State.generate (s : State) (d n : Nat) : Bool × State :=
  let x := s.drbg d
  if n ≤ x.left then
    (s.oldEpoch d, (s.setDrbg d { x with left := x.left - n }).atLimit d)
  else
    let old := s.oldEpoch d && x.left != 0
    let s := (s.setDrbg d { x with left := 0 }).atLimit d
    let y := s.drbg d
    (old || s.oldEpoch d, (s.setDrbg d { y with left := y.left - (n - x.left) }).atLimit d)

/-! ### Expanders (R486) -/

/-- The DRBG that serves the expanders or generators of an engine class (R481). -/
def classDrbg (cls : Nat) : Nat :=
  match cls with
  | 1 => 2 | 2 => 3 | 3 => 4 | 4 => 5 | 7 => 7 | _ => 6

/-- An engine's expander. -/
def State.expander (s : State) (k : Nat) : Expander := tgetD s.rng.expanders k {}

/-- Store an expander. -/
def State.setExpander (s : State) (k : Nat) (x : Expander) : State :=
  { s with rng := { s.rng with expanders := tput s.rng.expanders k x {} } }

/-- The bytes of masks and randomness an operation demands of an expander: the spec gives no number, so it is a value of
the implementation. Logged as assumption 4. Mark: DESIGN CHOICE (log entry 4). -/
def Job.demand (b : Job) : Nat := Config.standardNat "expander.demand" b.opcode [leBytes (tlvNat b.params 0x0050 0) 2]

/-- A job draws from an expander (R256, R489): an engine with one, and an opcode that needs randomness. -/
def Job.needsExpander (b : Job) (cls : Nat) : Bool :=
  1 ≤ cls && cls ≤ 4 && (opInfo b.opcode).any fun o => o.needsRng b.params

/-- A job draws an IV from D6 (R419). -/
def Job.needsIv (b : Job) (cls : Nat) : Bool := cls == 5 && (opInfo b.opcode).any fun o => o.needsRng b.params

/-- The randomness a job needs on engine `k` is there. Mark: DESIGN CHOICE (log entry 4). -/
def State.covered (s : State) (b : Job) (cls k : Nat) : Bool :=
  if b.needsExpander cls then b.demand ≤ (s.expander k).left
  else if b.needsIv cls then 1 ≤ s.drbgCover 6
  else true

/-- Take a job's randomness; whether it is of an old epoch (R488). -/
def State.takeRandom (s : State) (b : Job) (cls k : Nat) : Bool × State :=
  if b.needsExpander cls then
    let x := s.expander k
    (x.old || s.rng.failed, s.setExpander k { x with left := x.left - b.demand })
  else if b.needsIv cls then s.generate 6 1
  else (false, s)

/-- Complete a job with RNG_UNAVAILABLE (R489). -/
def State.rngUnavailable (s : State) (j : Nat) : State := (s.failJob j stRNG_UNAVAILABLE).bump aRNG_UNAVAIL_CNT 0

/-- A job finds randomness lacking (R489, R492): it waits, or completes at once while no block can arrive. -/
def State.lacksRandom (s : State) (j : Nat) : State :=
  if s.rng.failed then s.rngUnavailable j
  else s.onJob j fun b => { b with lackUp := some (b.lackUp.getD s.now) }

/-! ### Sources (R476 to R494) -/

/-- A noise source. -/
def State.source (s : State) (i : Nat) : NoiseSource := tgetD s.rng.sources i {}

/-- Store a noise source. -/
def State.setSource (s : State) (i : Nat) (x : NoiseSource) : State :=
  { s with rng := { s.rng with sources := tput s.rng.sources i x {} } }

/-- The sources in a state. -/
def State.sourcesIn (s : State) (x : SourceState) : List Nat := (List.range 4).filter fun i => (s.source i).state == x

/-- E increments, and every staged seed is discarded (R485). -/
def State.nextEpoch (s : State) : State :=
  { s with rng := { s.rng with
      epoch := s.rng.epoch + 1, drbgs := s.rng.drbgs.map fun e => (e.1, { e.2 with staged := none }) } }

/-- Enter FAILED when no source is left (R492). Mark: DEDUCED (log entry 41). -/
def State.checkLost (s : State) : State :=
  if !s.rng.failed ∧ s.sourcesIn .off = [] ∧ s.sourcesIn .active = [] ∧ s.sourcesIn .startup = [] ∧ s.sourcesIn .standby = [] then
    let s := { s with rng := { s.rng with failed := true } }
    (s.raise { source := 0x434, access := 0, kind := 0x31, master := 0, address := 0, fatal := false }).postEvent 0
      0x0231 none 0 0
  else s

/-- The lowest-numbered STANDBY source runs the start-up test to join (R490). Mark: DEDUCED (log entry 41). -/
def State.callStandby (s : State) : State :=
  match s.sourcesIn .standby with
  | i :: _ => s.setSource i { (s.source i) with state := .startup, joining := true }
  | [] => s

/-- Steps 1 and 2 of R490 after an ACTIVE source, or the one that was to replace it, is gone: the epoch moves, RNG_SWITCH
is posted with the cause of R491, and the next STANDBY source is called. Mark: DEDUCED (log entry 41). -/
def State.switchSource (s : State) (i cause : Nat) : State :=
  let s := s.nextEpoch
  (s.postEvent 0 0x0230 none (i + 256 * cause) s.rng.epoch).callStandby

end Sys2Proof.Machine
end

