-- ==== Sys2Proof/Machine/Grant.lean ====
section
/-!
DEFINITION. How the XS grants engines (R76 to R99, R121 step 9, R133, R210, R216, R232, R233, R446): the fixed times of
jobs, which jobs an engine may take, the order among them, and what a grant checks and does.
-/

namespace Sys2Proof.Machine

/-! ### Times -/

/-- Cycles of the 1.25 GHz engine clock in nanoseconds, rounded up. -/
def cyclesNs (c : Nat) : Nat := ceilDiv (4 * c) 5

/-- Cycles in manifest units of 128 ns, rounded up (R252). -/
def cyclesUnits (c : Nat) : Nat := ceilDiv c 160

/-- The opcode-table parameter of a job (R378): the set, COMBO, typecode, curve or length class its time depends on. -/
def State.profParam (s : State) (b : Job) : Nat :=
  let op := b.opcode
  if op = opHYBRID_KEM_ENCAPS ∨ op = opHYBRID_KEM_DECAPS ∨ op = opCOMPOSITE_SIGN ∨ op = opCOMPOSITE_VERIFY then b.combo
  else if op = opLMS_SIGN ∨ op = opXMSS_SIGN then
    (((s.hbsOf b.handle).bind fun k => hbsInfo k.xmss k.params).map (·.param)).getD 0
  else if op = opLMS_VERIFY then beNat (slice (b.val 0x0051) 8 4)
  else if op = opXMSS_VERIFY then beNat (slice (b.val 0x0051) 0 4) % 65536
  else if op = opBN_MODEXP ∨ op = opBN_MODMUL ∨ op = opBN_MODINV ∨ op = opRSA_PUBLIC then
    (([256, 512, 1024, 1536, 2048, 3072, 4096, 6144, 8192, 12288, 16384] : List Nat).find? fun c =>
      8 * (b.len 0x0081).getD 0 ≤ c).getD 0
  else if op = opRSA_PRIVATE then (s.slot (hSlot b.handle)).pset
  else if op = opX25519 then 0x10
  else if op = opX448 then 0x11
  else if b.has 0x0080 then b.curve
  else b.pset

/-- The time of the attempt limit of a signing entry (R229, R230), with `n` rounds, and its turnover (R250). -/
def OpTime.signCycles (t : OpTime) (n : Nat) : Nat := t.s + t.a + (n - 1) * t.i + t.f + 762

/-- The cycles that the message adds beyond 1,024 bytes (R251, R295, R339). -/
def OpTime.messageCycles (t : OpTime) (len : Nat) : Nat :=
  if len ≤ 1024 ∨ t.blockBytes = 0 then 0 else ceilDiv (len - 1024) t.blockBytes * t.blockCycles

/-- The cycles of a host SE job (R425). -/
def State.seCycles (s : State) (b : Job) : Nat :=
  let long := (s.slot (hSlot b.handle)).val.length == 32
  let blocks := ceilDiv b.aadLen 16 + ceilDiv (b.dataLen - b.aadLen) 16
  let serial := if long then 32 else 24
  if b.opcode = opAES_GCM_ENC ∨ b.opcode = opAES_GCM_DEC ∨ b.opcode = opAES_GMAC then 64 + blocks + 48
  else if b.opcode = opAES_CBC_ENC then 40 + blocks * serial + 24
  else if b.opcode = opAES_CMAC then 56 + blocks * serial + 40
  else if b.opcode = opAES_XTS_ENC ∨ b.opcode = opAES_XTS_DEC then
    40 + 40 * ceilDiv b.dataLen (tlvNat b.params 0x00A0 1) + blocks + 24
  else 40 + blocks + 24

/-- The extra blocks of a message start (R426). -/
def startExtra (alg : Nat) (i : AlgInfo) (named : Bool) : Nat :=
  match i.keying with
  | .hmac => 1
  | .kmac => 2
  | .none => if isCshake alg && named then 1 else 0

/-- The cycles of a DE job (R426): DIGEST_SAVE adds no block, DIGEST_RESTORE two at Keccak speed, and the finish of a
context's message also the start re-applied under R405. -/
def State.deCycles (s : State) (b : Job) : Nat :=
  if b.opcode = opDIGEST_SAVE then 200
  else if b.opcode = opDIGEST_RESTORE then 200 + 2 * 26
  else
    let ctx := if b.opcode = opDIGEST_ONESHOT then none else s.ctxOf b
    let alg := b.alg.getD ((ctx.map (·.alg)).getD 0)
    match algInfo alg with
    | none => 200
    | some i =>
      let c := match i.core with
        | .sha2small => 66
        | .sha2large => 82
        | .keccak => 26
      let start := if b.alg.isSome then startExtra alg i ((b.len 0x0093).getD 0 + (b.len 0x0094).getD 0 ≠ 0) else 0
      let again := match ctx with
        | some x => startExtra alg i (x.name.length + x.custom.length ≠ 0)
        | none => 0
      let out := match ctx with
        | some x => ctxOut x
        | none => b.outLenFor i
      let finishes := b.opcode == opDIGEST_FINAL || b.opcode == opMAC_VERIFY || b.opcode == opDIGEST_ONESHOT
      let finish := if finishes then (if i.keying = .hmac then 2 else 0) + again + (ceilDiv out i.block - 1) else 0
      120 + c * (ceilDiv b.dataLen i.block + start + finish) + 80

/-- The key a PE job expands is in the engine's cache under the job's handle (R216). -/
def State.keyCached (s : State) (b : Job) (k : Nat) : Bool :=
  s.cacheOn k && (s.eng k).cache.any fun c => c.slot == hSlot b.handle && c.gen == hGen b.handle && c.inst == b.inst && c.expanded

/-- The lattice parameter set under which a PE job expands its key. Mark: DEDUCED (log entry 92). -/
def Job.latticeSet (b : Job) : Nat :=
  if b.opcode = opHYBRID_KEM_DECAPS then ((hybridOf b.combo).map (·.1)).getD 0
  else if b.opcode = opCOMPOSITE_SIGN then ((compositeOf b.combo).map (·.1)).getD 0
  else b.pset

/-- The cycles of expanding or loading a PE job's key (R216, R217); a generation's own time covers its expansion (R250). -/
def State.missCycles (s : State) (b : Job) (k : Nat) : Nat :=
  let x := s.slot (hSlot b.handle)
  if b.handle = 0 ∨ s.keyCached b k ∨ b.opcode = opMLKEM_KEYGEN ∨ b.opcode = opMLDSA_KEYGEN then 0
  else if s.fld aPE_CTL 12 12 = 1 ∧ s.hasSealed b.handle then 600
  else match x.type, b.latticeSet with
    | 0x10, 512 => 700 | 0x10, 768 => 1000 | 0x10, 1024 => 1450
    | 0x11, 44 => 1600 | 0x11, 65 => 2400 | 0x11, 87 => 3600
    | _, _ => 0

/-- A signing opcode that fork mode serves (R232). -/
def forkable (op : Nat) : Bool := op == opMLDSA_SIGN || op == opCOMPOSITE_SIGN

/-- The length of the string that an operation's message time counts (R251): for ML-DSA and FN-DSA the message with its
FIPS 204 prefix, for a composite M′ with that prefix, under PREHASH the encoded pre-hash (an 11-byte object identifier and
the digest), under MU none; for the other opcodes the message itself. -/
def Job.stringLen (b : Job) : Nat :=
  let ctx := (b.val 0x0056).length
  if b.opcode = opMLDSA_SIGN ∨ b.opcode = opMLDSA_VERIFY ∨ b.opcode = opFNDSA_VERIFY then
    if b.has 0x0058 then 0
    else if b.has 0x0057 then 2 + ctx + 11 + ((b.val 0x0057).length - 2)
    else 2 + ctx + b.dataLen
  else if b.opcode = opCOMPOSITE_SIGN ∨ b.opcode = opCOMPOSITE_VERIFY then 20 + ctx + b.dataLen
  else b.dataLen

/-- What the levels of a stateful key add to the occupancy of its top level (R294): HSS signing 64 cycles for each lower
level, HSS verification the sum over its levels, and XMSS^MT verification d times XMSS's. -/
def State.levelCycles (s : State) (b : Job) (cls i o : Nat) : Nat :=
  if b.opcode = opLMS_SIGN then
    o + 64 * ((((s.hbsOf b.handle).bind fun k => hbsInfo k.xmss k.params).map (·.levels.length)).getD 1 - 1)
  else if b.opcode = opLMS_VERIFY then
    match clusterOf cls i with
    | some k => ((hssLevels (min 8 (beNat ((b.val 0x0051).take 4))) ((b.val 0x0055).drop 4)).map fun t =>
        ((s.opTime k opLMS_VERIFY t).map (·.o)).getD 0).sum
    | none => o
  else if b.opcode = opXMSS_VERIFY then xmssLayers (beNat ((b.val 0x0051).take 4)) ((b.len 0x0055).getD 0) * o
  else o

/-- An encapsulation (R316): `o` through a peer handle; a store alone takes the store-only time, and an inline key or a store
adds it. -/
def mceCycles (b : Job) (o : Nat) : Nat :=
  let store := ([7000, 13500, 26500, 34300] : List Nat).getD ((b.pset + 1) / 2 - 1) 0
  if b.handle ≠ 0 then o else if tlvNat b.params 0x0073 0 = 1 then store else o + store

/-- The fixed time of an RSA_PUBLIC whose exponent has at most 4 bytes, for the length class whose longer column is `o`
(R345); a loaded pack's own time stands for both. Mark: DEDUCED (log entry 89). -/
def rsaPublicCycles (b : Job) (o : Nat) : Nat :=
  if (b.len 0x0084).getD 0 > 4 then o
  else tgetD ([(22000, 4080), (26160, 4656), (30320, 5232), (38640, 6384), (46960, 7536), (113520, 16752), (146800, 21360),
    (313200, 44400), (546160, 76656)] : Tab Nat) o o

/-- The entry with the message block of the job's hash, for ECDSA (R347); every other entry as it is. -/
def OpTime.hashed (t : OpTime) (b : Job) : OpTime :=
  if b.opcode = opECDSA_SIGN ∨ b.opcode = opECDSA_VERIFY then
    let n := t.blockBytes
    { t with blockBytes := [n, 64, 128, 128, 136, 72, n, 136].getD (tlvNat b.params 0x0088 0) n }
  else t

/-- The fixed time of a job at grant, in cycles (R78, R233, R252); `none` where the spec gives the operation no fixed
time (a generation or regeneration, R316, R345). Mark: DEDUCED (log entry 89). -/
def State.jobCycles (s : State) (b : Job) (cls i : Nat) (fork : Bool) : Option Nat :=
  if cls = 5 then some (s.seCycles b)
  else if cls = 6 then some (s.deCycles b)
  else if b.opcode = opLMS_KEYGEN ∨ b.opcode = opXMSS_KEYGEN then
    some (ceilDiv (buildCycles (b.opcode == opXMSS_KEYGEN) (b.val 0x0060)) (max 1 s.buildMes))
  else
    match (clusterOf cls i).bind fun k => s.opTime k b.opcode (s.profParam b) with
    | none => none
    | some t =>
      let regen := (b.opcode == opMCE_DECAPS || b.opcode == opRSA_PRIVATE) && !s.hasSealed b.handle
      let miss := if cls = 1 then s.missCycles b (engKey cls i) else 0
      if regen then none
      else if forkable b.opcode then some (t.signCycles (if fork then 50 else 200) + t.messageCycles b.stringLen + miss)
      else if t.o = 0 then none
      else if b.opcode = opMCE_ENCAPS then some (mceCycles b t.o)
      else if b.opcode = opRSA_PUBLIC then some (rsaPublicCycles b t.o)
      else some (s.levelCycles b cls i t.o + (t.hashed b).messageCycles b.stringLen + miss)

/-! ### Berths on an engine -/

/-- The active manifest's entry of a berth. -/
def State.berthOf (s : State) (id : Nat) : Option Berth := s.xs.active.bind fun m => m.berths.find? fun b => b.id == id

/-- A berth reserves an engine. -/
def Berth.covers (b : Berth) (cls i : Nat) : Bool := b.cls == cls && bitAt b.mask i

/-- The run state of a berth in this crossing. -/
def State.run (s : State) (id : Nat) : BerthRun := tgetD s.xs.runs id {}

/-- Store the run state of a berth. -/
def State.setRun (s : State) (id : Nat) (r : BerthRun) : State :=
  { s with xs := { s.xs with runs := tput s.xs.runs id r {} } }

/-- LEND is in force for a berth (R80). -/
def State.lends (s : State) (b : Berth) : Bool := bitAt b.flags 1 && s.fld aXS_QUANTUM 16 16 == 1

/-- The nanoseconds from now to the next start of a berth that begins `units` into each crossing of the active
manifest. -/
def State.untilUnit (s : State) (units : Nat) : Nat :=
  let start := 128 * units
  if s.tb.ns < start then start - s.tb.ns
  else crossLen s.tb.rate s.tb.stamp.idx + s.tb.extra - s.tb.ns + start

/-- The nanoseconds from now to the start of a crossing at the rate in force. -/
def State.untilStamp (s : State) (t : Stamp) : Nat :=
  t.sec * 10 ^ 9 + crossStart s.tb.rate t.idx - (s.tb.stamp.sec * 10 ^ 9 + crossStart s.tb.rate s.tb.stamp.idx + s.tb.ns)

/-- The nanoseconds from now to the first crossing under the manifest whose activation is pending (R674): after the next
guard, or the guard before its AT_STAMP (R87); at the next second after that where it brings its rate (R88). -/
def State.untilNext (s : State) (m : Manifest) : Nat :=
  let wait := (s.xs.activation.bind s.job).bind fun b => match b.wait with
    | .guardBefore t _ => t
    | _ => none
  let edge := stampSucc s.tb.rate s.tb.stamp
  let first := if s.tb.inGuard ∧ !s.xs.atRate then stampSucc s.tb.rate edge else edge
  let first := match wait with
    | some t => if first.bits < t.bits then t else first
    | none => first
  let first := if m.rate = s.tb.rate ∨ first.idx = 0 then first else ⟨first.sec + 1, 0⟩
  s.untilStamp first

/-- The nanoseconds to the next berth on an engine (R76, R674), under the active manifest and under one whose activation
is pending; `none` where no berth holds the engine. -/
def State.nextBerth (s : State) (cls i : Nat) : Option Nat :=
  let of := fun (m : Option Manifest) (at_ : Manifest → Nat → Nat) => (m.map fun m =>
    m.berths.filterMap fun b => if b.covers cls i then some (at_ m b.start) else none).getD []
  (of s.xs.active (fun _ u => s.untilUnit u) ++ of s.xs.next fun m u => s.untilNext m + 128 * u).min?

/-! ### Which jobs an engine may take -/

/-- The class of a job's engine. -/
def Job.cls (b : Job) : Nat := (b.task.map (·.cls)).getD (((opInfo b.opcode).map (·.cls)).getD 0)

/-- Jobs of an engine class that take no engine: a digest release (R402) and HBS_RESERVE_STATUS (R290).
Mark: DEDUCED (log entry 59). -/
def Job.noEngine (b : Job) : Bool := b.releases || b.opcode == opHBS_RESERVE_STATUS

/-- Generation work runs only on the engines named for it (R263, R327, R354). -/
def State.maskAllows (s : State) (b : Job) (cls i : Nat) : Bool :=
  let op := b.opcode
  if op = opSLHDSA_KEYGEN ∨ op = opLMS_KEYGEN ∨ op = opXMSS_KEYGEN then bitAt (s.fld aME_CTL 23 16) i
  else if op = opMCE_KEYGEN ∨ op = opMCE_DECAPS && !s.hasSealed b.handle then bitAt (s.fld aCE_CTL 1 0) i
  else if op = opRSA_KEYGEN ∨ op = opRSA_PRIVATE && !s.hasSealed b.handle then bitAt (s.fld aBN_CTL 7 0) i
  else if cls = 5 then bitAt (s.fld aSE_CTL 7 0) i
  else if cls = 6 then bitAt (s.fld aDE_CTL 11 0) i
  else b.task.all fun t => t.mask == 0 || bitAt t.mask i

/-- A cluster's pack implements a job (R210): its opcode, and its parameter set unless no cluster has that set. -/
def State.clusterTakes (s : State) (b : Job) (cls i : Nat) : Bool :=
  match clusterOf cls i with
  | none => true
  | some k =>
    let op := tableOpcode b.opcode
    let p := s.profParam b
    !((s.cluster k).load == .draining || (s.cluster k).load == .writing)
      && (op == 0 || (s.packOf k).has op none || !s.microcoded cls b.opcode)
      && (cls != 1 || (s.packOf k).has op (some p) || (clustersOf cls).all fun k => !(s.packOf k).has op (some p))

/-- A DE job waits while an earlier job of its context has not ended (R403). -/
def State.contextBusy (s : State) (b : Job) : Bool :=
  b.cls == 6 && b.has 0x0091 && s.jobs.any fun e =>
    e.2.cls == 6 && e.2.inst == b.inst && e.2.has 0x0091 && e.2.ctxNo == b.ctxNo && e.2.order < b.order
      && e.2.ending.isNone

/-- The saved jobs whose control records lie in the engine's own context memory (R98), those of quantum switching alone
or all of them. -/
def State.ownRecords (s : State) (k : Nat) (quantum : Bool) : Nat :=
  ((s.eng k).saved.filter fun j => (s.job j).any fun b => !b.spilled && (!quantum || b.quantumOver)).length

/-- The instance has a saved context here and no scratch for a further control record (R98). -/
def State.spillFull (s : State) (b : Job) (k : Nat) : Bool :=
  s.ownRecords k true ≥ 15 && s.p7Short b.inst 1024
    && (s.eng k).saved.any fun j => (s.job j).any fun x => x.inst == b.inst

/-- A job waits for an engine of a class. -/
def Job.waitsFor (b : Job) (cls : Nat) : Bool :=
  b.phase == .fifo && b.ending.isNone && b.wait == .no && b.cls == cls && cls != 0

/-- An engine is powered, in service and not busy. -/
def State.engUsable (s : State) (cls i : Nat) : Bool :=
  let e := s.eng (engKey cls i)
  i < classSize cls && s.fc.mstate != .fault && s.ready (engReadyBit cls i) && s.domain (engDomain cls i) == .on
    && !e.oos && !e.held && e.busy.isNone
    && (clusterOf cls i).all fun k => !(s.cluster k).oos

/-- No lead-in and no berth that does not lend keeps an engine from best-effort work (R76, R80). -/
def State.freeOfBerth (s : State) (cls i : Nat) : Bool :=
  let e := s.eng (engKey cls i)
  e.leadIn.isNone && (e.berth.bind s.berthOf).all s.lends

/-- The BNE that can take a classical half, as an engine key: the first that is free (R245).
Mark: DESIGN CHOICE (log entry 103). -/
def State.halfFor (s : State) : Option Nat :=
  ((List.range (classSize 4)).find? fun i => s.engUsable 4 i && s.freeOfBerth 4 i).map (engKey 4)

/-- A job may be granted engine `i` of its class. -/
def State.candidate (s : State) (b : Job) (cls i : Nat) : Bool :=
  b.waitsFor cls && s.clusterTakes b cls i && s.maskAllows b cls i && !s.contextBusy b
    && !s.spillFull b (engKey cls i)
    && !((b.opcode == opMCE_DECAPS || b.opcode == opRSA_PRIVATE) && s.parts.regen.contains (hSlot b.handle))
    && (!b.twoHalves || s.halfFor.isSome)

/-- The four PEs of a cluster. -/
def clusterPes (k : Nat) : List Nat := (List.range 4).map (4 * k + ·)

/-! ### Best-effort order (R91) -/

/-- The best-effort weight of an instance for an engine class (R545). -/
def State.weight (s : State) (inst cls : Nat) : Nat :=
  match cls with
  | 1 => s.fld (inReg inst aIN_WEIGHT_A) 7 0
  | 2 => s.fld (inReg inst aIN_WEIGHT_A) 15 8
  | 3 => s.fld (inReg inst aIN_WEIGHT_A) 23 16
  | 4 => s.fld (inReg inst aIN_WEIGHT_A) 31 24
  | 5 => s.fld (inReg inst aIN_WEIGHT_B) 7 0
  | 6 => s.fld (inReg inst aIN_WEIGHT_B) 15 8
  | _ => 0

/-- The number that orders a job's queue among its instance's queues. -/
def Job.queueNo (b : Job) : Nat :=
  match b.src with
  | .queue q => q
  | _ => 2048

/-- The instances among some jobs, rising, without repeats. -/
def instancesOf (js : List Job) : List Nat := (List.range 129).filter fun n => js.any fun b => b.inst == n

/-- Raise the credits of the waiting instances, take the largest (ties to the lower number) among those in `able`, and
charge it the sum of the weights (R91). -/
def State.pickInstance (s : State) (cls : Nat) (waiting able : List Nat) : Option Nat × State :=
  let w := waiting.filter fun n => s.weight n cls != 0
  let raised := w.map fun n => (n, tgetD s.xs.credits (cls * 256 + n) 0 + (s.weight n cls : Int))
  let total : Nat := (w.map fun n => s.weight n cls).sum
  let best := (raised.filter fun e => able.contains e.1).foldl
    (fun (a : Option (Nat × Int)) e => match a with
      | none => some e
      | some x => if e.2 > x.2 then some e else some x) none
  match best with
  | none => (none, s)
  | some (n, c) =>
    let old := s.xs.credits.filter fun e => e.1 / 256 != cls
    let cs := raised.foldl (fun (t : Tab Int) e =>
      tput t (cls * 256 + e.1) (if e.1 = n then c - (total : Int) else e.2) 0) old
    (some n, { s with xs := { s.xs with credits := cs } })

/-- The next queue of an instance in turn after the last one granted, and its oldest job.
Mark: DEDUCED (log entry 30). -/
def State.pickJob (s : State) (cls inst : Nat) (js : List (Nat × Job)) : Option Nat :=
  let last := tgetD s.xs.lastQueue (cls * 256 + inst) 4096
  let mine := js.filter fun e => e.2.inst == inst
  let qs := mine.map fun e => e.2.queueNo
  let q := match (qs.filter (· > last)).min? with
    | some q => some q
    | none => qs.min?
  q.bind fun q =>
    let of := mine.filter fun e => e.2.queueNo == q
    ((of.map fun e => e.2.order).min?).bind fun o => (of.find? fun e => e.2.order == o).map (·.1)

/-! ### The checks and effects of a grant -/

/-- Step 9 of R121 for an engine job. -/
def State.planOf (s : State) (b : Job) : Plan × Option Nat :=
  if b.task.isSome then ({}, none)
  else match b.cls with
  | 1 => (latticePlan b, none)
  | 2 => (hashPlan s b, none)
  | 3 => (codePlan s b, none)
  | 4 => (classicalPlan s b, none)
  | 5 =>
    let p := cipherPlan b
    (if b.opcode = opAES_CTR then { p.1 with needs := ctrNeeds s b } else p.1, p.2)
  | _ => (digestPlan s b, none)

/-- The job's deadline has been reached (R133, R134). -/
def State.deadlinePassed (s : State) (b : Job) : Bool := b.deadline != 0 && b.deadline ≤ s.stampNow

/-- A stateful signing job takes its leaf at grant (R272, R274, R285, R292): the status it fails with, or `wait`. -/
inductive LeafGrant where
  | none | fail (status : Nat) | wait (node : Nat) | take (node leaf : Nat)
  deriving DecidableEq, Repr

/-- What the grant of a stateful signing job finds. -/
def State.leafGrant (s : State) (b : Job) : LeafGrant :=
  if b.opcode ≠ opLMS_SIGN ∧ b.opcode ≠ opXMSS_SIGN then .none
  else match s.nodeOf b.handle, s.hbsOf b.handle with
    | some node, some k =>
      if k.treeMissing then .fail stNOT_READY
      else match k.nextLeaf with
        | some l => .take node l
        | none => if k.pend.isNone ∧ (k.nextBlock s.hbs.parity).isNone then .fail stHBS_EXHAUSTED else .wait node
    | _, _ => .fail stNOT_READY

/-- The engine belongs to another instance than the last job it ran (R258, R352, R430): its memory and its
key cache are wiped, pinned keys excepted. -/
def State.changeOwner (s : State) (cls i inst : Nat) : State :=
  let k := engKey cls i
  let e := s.eng k
  if e.owner = some inst then s
  else
    let s := if e.owner.isSome then
        (if cls = 1 then s.bump aPE_OWNER_WIPES i else if cls = 4 then s.bump aBN_OWNER_WIPES i else s) else s
    let kept := e.cache.filter (·.pinned)
    let l : Lvu := tgetD s.lvus i {}
    let s := if cls = 1 then
        { s with lvus := tput s.lvus i { mem := l.mem.filter fun b => kept.any (·.covers b.1) } {} }
      else s
    s.setEng k { e with owner := some inst, cache := kept, keys := [], lanes := none, mem := [] }

/-- The scratch in bytes that a CE key generation takes while it runs (R306). -/
def Job.runScratch (b : Job) : Nat :=
  if b.opcode = opMCE_KEYGEN then ((mceSizes b.pset).map fun z => z.2.2.2.2 * 2 ^ 20).getD 0 else 0

/-- The bytes of a PE's key region that the cached entry of a key holds. Mark: DEDUCED (log entry 46). -/
def keyRegion (slot gen : Nat) (c : List CacheEntry) : Option (Nat × Nat) :=
  (c.find? fun e => e.slot == slot && e.gen == gen).map fun e => (e.base * 1024, (e.base + e.size) * 1024 - 1)

/-- Where a key that is not cached will be expanded: the place in the key region that evicting makes for it (R216); none
where the pinned entries leave no room. Mark: DEDUCED (log entry 46). -/
def fillRegion (size : Nat) (c : List CacheEntry) : Option (Nat × Nat) :=
  if size = 0 then none
  else (firstGap size 32 (places (evict size 64 c))).map fun base => (base * 1024, (base + size) * 1024 - 1)

/-- The micro-address at which a job's routine starts: the ENTRY of its opcode and parameter (R378). The spec does not
print the base packs. Mark: DEDUCED (log entry 46). -/
def State.entryOf (s : State) (b : Job) (cls k : Nat) : Nat :=
  match clusterOf cls (k % 64) with
  | none => 0
  | some c =>
    let op := tableOpcode b.opcode
    let p := s.profParam b
    if (s.packOf c).base then Config.standardNat "MC.baseEntry" cls [leBytes op 2, leBytes p 2]
    else ((s.opTime c op p).map (·.entry)).getD 0

/-- The XS sets WIN and starts the sequencer for the job it grants (R364, R365, R369): both windows cover the working
region, the read window the key's entry too, the write window that entry while it is being filled.
Mark: DEDUCED (log entry 46). -/
def State.startUnit (s : State) (b : Job) (cls k : Nat) : State :=
  let s := { s with seqs := tput s.seqs k { pc := s.entryOf b cls k } {} }
  if cls ≠ 1 then s
  else
    let work := (0x8000, 0x1FFFF)
    let c := (s.eng k).cache
    let key := keyRegion (hSlot b.handle) (hGen b.handle) c
    let fill := if key.isSome then none else fillRegion (expandedSize (s.slot (hSlot b.handle)).type b.pset) c
    let l : Lvu := tgetD s.lvus (k % 64) {}
    let l := { l with v := [], p := [], modq := 0, barrett := 0, pany := false, restart := none,
                      winR := work :: (key.toList ++ fill.toList),
                      winW := work :: fill.toList }
    { s with lvus := tput s.lvus (k % 64) l {} }

/-- What the hash lanes of an ME are set to for its job's parameter (R261): Keccak for a SHAKE set, SHA-512 for the SLH-DSA
SHA2 sets of n above 16, SHA-256 for every other. Mark: DESIGN CHOICE (log entry 93). -/
def Job.laneOf (b : Job) (param : Nat) : HashLane :=
  if b.opcode = opSLHDSA_KEYGEN ∨ b.opcode = opSLHDSA_SIGN ∨ b.opcode = opSLHDSA_VERIFY then
    if param / 16 = 2 then .keccak else if param % 16 ≥ 3 then .sha512 else .sha256
  else if b.opcode = opXMSS_KEYGEN ∨ b.opcode = opXMSS_SIGN ∨ b.opcode = opXMSS_VERIFY then
    if (0x10 ≤ param ∧ param ≤ 0x15) ∨ 0x29 ≤ param then .keccak else .sha256
  else if (lmotsType param).any fun t => t.1 == 1 then .keccak else .sha256

/-- The keys that a job's approval names, as the gangway loads them (R34). -/
def State.needKeys (s : State) (b : Job) (needs : List KeyNeed) : List LoadedKey :=
  (needs.filter fun n => n.role == .key).map fun n =>
    let h := hSlot n.handle
    ({ slot := h, gen := (s.slot h).gen, inst := b.inst, value := (s.slot h).val } : LoadedKey)

/-- The keys a job needs in an engine, as its approval reserved them (R446): the sealing key goes with the first where the
job reads or writes a sealed copy (R30). -/
def State.jobKeys (s : State) (b : Job) (needs : List KeyNeed) : List LoadedKey :=
  let keys := s.needKeys b needs
  let op := b.opcode
  let seals := op == opMCE_KEYGEN || op == opMCE_DECAPS || op == opRSA_KEYGEN || op == opRSA_PRIVATE
    || (b.cls == 1 && s.fld aPE_CTL 12 12 == 1)
  match keys with
  | k :: _ => if seals then keys ++ [{ k with value := s.sealingKey k.slot k.gen }] else keys
  | [] => []

/-- An engine takes a job: the keys of its cache that the job does not use are zeroed (R430), a BNE and an ME receive the
job's operands (R330), and the keys that are missing are asked for over the gangway (R34, R35), unless the PE holds the
expanded key (R216). Mark: DESIGN CHOICE (log entry 93). -/
def State.loadEngine (s : State) (j : Nat) (b : Job) (cls k : Nat) (keys : List LoadedKey) (berth : Bool) : State :=
  let keys := if cls = 1 ∧ s.keyCached b k then [] else keys
  let ops := b.params.flatMap (·.val)
  let s := s.onEng k fun e => { e with
    busy := some j, keys := e.keys.filter keys.contains
    lanes := if cls = 2 then some (b.laneOf (s.profParam b)) else none
    mem := if cls = 2 then byteEntries 0 (ops.take 0x10000) else if cls = 3 then byteEntries 0 (ops.take 0x20000) else if cls = 4 then setArea e.mem bneInput.1 bneInput.2 ops else e.mem }
  s.askKeys (if berth then 1 else 3) k j (keys.filter fun x => !(s.eng k).keys.contains x)

/-- A job reads the sealed copy of its key (R217, R306, R336). -/
def State.readsCopy (s : State) (b : Job) (cls k : Nat) : Bool :=
  s.hasSealed b.handle && (b.opcode == opMCE_DECAPS || b.opcode == opRSA_PRIVATE
    || cls == 1 && s.fld aPE_CTL 12 12 == 1 && !s.keyCached b k && b.opcode != opMLKEM_KEYGEN && b.opcode != opMLDSA_KEYGEN)

/-- Queue DMA allots the pages of a peer or transient entry and copies the key into them before the CE is granted (R310,
R311). -/
def State.allotPeer (s : State) (j : Nat) (b : Job) : State :=
  if b.opcode ≠ opMCE_ENCAPS ∨ b.handle ≠ 0 ∨ b.task.isSome then s
  else
    let n := s.parts.nextPeer
    let pages := ((mceSizes b.pset).map (·.2.2.2.1)).getD 0
    let key := b.val 0x0051
    { s with parts := { s.parts with
      nextPeer := n + 1
      peers := tset s.parts.peers n { inst := b.inst, slot := none, pset := b.pset, pages := pages, digest := sha3_256 key,
                                      key := key, job := some j } } }

/-- Put a job that passed every check on its engines: it is running, and its keys have been reserved (R446). -/
def State.beginJob (s : State) (j : Nat) (b : Job) (cls i : Nat) (fork : List Nat) (berth : Option Nat)
    (needs : List KeyNeed) (old : Bool) (leaf : Option Nat) : State :=
  let keys := (needs.filter fun n => n.role == .key).map fun n => s.slot (hSlot n.handle)
  let b := { b with
    phase := .running, engine := some (cls, i), berth := berth, forkEngines := fork, start := s.tb.stamp,
    startUp := s.now, startNs := s.tb.ns, grantUp := s.now, approved := needs.map fun n => hSlot n.handle,
    destSlot := if b.has 0x0054 then some (hSlot (b.handleIn 0x0054)) else none,
    work := keys.map (·.val), imported := keys.map fun x => x.origin == 4, drbgOnly := b.drbgOnly || old, leaf := leaf,
    form := formCheck s b, lackUp := none, half := if b.twoHalves then s.halfFor else none }
  let copies := (if fork = [] then [engKey cls i] else fork).any (s.readsCopy b cls)
  let s := (s.setJob j b).allotPeer j b
  if b.noEngine then s
  else
    let ks := if fork = [] then [engKey cls i] else fork
    let s := ks.foldl (fun s k =>
      ((s.changeOwner cls (k % 64) b.inst).loadEngine j b cls k (s.jobKeys b (if b.half.isSome then needs.take 1 else needs))
        berth.isSome).startUnit b cls k) s
    let s := match b.half with
      | some k =>
        ((s.changeOwner 4 (k % 64) b.inst).loadEngine j b 4 k (s.needKeys b (needs.drop 1)) berth.isSome).startUnit b 4 k
      | none => s
    let s := s.chargeScratch b.inst b.runScratch 0
    if copies then s.readCopy b.handle cls i
    else if b.task.isSome then s.endJob j (done []) else s

/-- The grant of job `j` (R121 step 9, R133, R446): every check in its order; a job that fails one completes with its
status and takes no engine time. -/
def State.tryStart (s : State) (j : Nat) (b : Job) (cls i : Nat) (fork : List Nat) (berth : Option Nat) : State :=
  let (p, limit) := s.planOf b
  let engines := (if fork = [] then [engKey cls i] else fork) ++ (if b.twoHalves then s.halfFor.toList else [])
  if s.deadlinePassed b then s.failJob j stDEADLINE_MISSED
  else match p.early with
    | some st => s.failJob j st
    | none =>
      if b.resultCap < p.resultLen ∧ b.policy = none then s.failJob j stLIMIT_EXCEEDED
      else if outputLen b.frags < p.outLen then s.failJob j stLENGTH_MISMATCH
      else match p.needs.findSome? (s.refusal b.inst) with
        | some st => (s.failJob j st).bump aKS_REFUSALS 0
        | none =>
          match p.bad with
          | some st =>
            let s := if limit = some st ∧ cls = 5 then s.bump aSE_LIMIT_REJECT 0 else s
            s.failJob j st
          | none =>
            if b.task.isNone ∧ !((clusterOf cls i).all fun k =>
                (s.packOf k).has (tableOpcode b.opcode) (if cls = 1 then some (s.profParam b) else none)) then
              s.failJob j stOPCODE_UNKNOWN
            else match s.leafGrant b with
              | .fail st => s.failJob j st
              | .wait node => s.setJob j { b with wait := .reservation node, waitUp := some (b.waitUp.getD s.now) }
              | lg =>
                if !engines.all (fun k => s.covered b (k / 64) k) then s.lacksRandom j
                else match s.approve b.inst p.needs with
                  | .error st => s.failJob j st
                  | .ok s' =>
                    let r := engines.foldl (fun (a : Bool × State) k =>
                      let x := a.2.takeRandom b (k / 64) k
                      (a.1 || x.1, x.2)) (false, s')
                    match lg with
                    | .take node leaf =>
                      let s'' := match tget r.2.hbs.keys node with
                        | some k => (r.2.setHbs node (k.useLeaf (r.2.hbsSeed node) leaf)).checkLow node
                        | none => r.2
                      let d := s''.drawBytes (((s''.hbsOf b.handle).bind fun k => hbsInfo k.xmss k.params).map (·.n) |>.getD 0)
                      d.2.beginJob j { b with rand := d.1 } cls i fork berth p.needs r.1 (some leaf)
                    | _ => r.2.beginJob j b cls i fork berth p.needs r.1 none

/-! ### Saving and resuming contexts (R95 to R99) -/

/-- Save the context of the job an engine runs (R97, R98): its sequencer, lanes and keys go into its control record, the
operand window of an ME, CE or BNE to the owner's P7 scratch, and the operand memory is wiped. Quantum switching uses 15
control records and a zwischenzug the sixteenth too; a further one spills to the owner's P7 scratch, past its quota where
that is full. Mark: DESIGN CHOICE (log entry 96). -/
def State.saveContext (s : State) (cls i : Nat) (quantum : Bool) : State :=
  let k := engKey cls i
  match (s.eng k).busy with
  | none => s
  | some j =>
    match s.job j with
    | none => s.onEng k fun e => { e with busy := none }
    | some b =>
      let spill := if quantum then s.ownRecords k true ≥ 15 else s.ownRecords k false ≥ 16
      let s := if spill then (s.bump aXS_SPILL_CNT 0).chargeScratch b.inst 1024 0 else s
      let s := if quantum then s else s.bump aXS_PREEMPT_CNT 0
      let s := if cls = 5 then s.bump aSE_PREEMPT i else if cls = 6 then s.bump aDE_PREEMPT i else s
      let seq : Sequencer := tgetD s.seqs k {}
      let s := s.onEng k fun e => { e with
        busy := none, saved := e.saved ++ [j], keys := [], lanes := none, mem := [],
        records := tset e.records j { seq := seq, keys := e.keys, lanes := e.lanes, window := e.mem } }
      { s with seqs := tdel s.seqs k }.setJob j { b with
        phase := .saved, preemptAsked := false, quantumOver := quantum, spilled := spill,
        preempts := if quantum then b.preempts else b.preempts + 1 }

/-- Resume a saved job on its engine from its control record: with the key of that record, its sequencer where it stopped,
and its operand window (R97, R99). Mark: DEDUCED (log entry 59). -/
def State.resumeJob (s : State) (j : Nat) : State :=
  match s.job j with
  | none => s
  | some b =>
    match b.engine with
    | none => s
    | some (c, i) =>
      let k := b.half.getD (engKey c i)
      let r : ControlRecord := tgetD (s.eng k).records j {}
      let s := ((s.changeOwner (k / 64) (k % 64) b.inst).dropContext j).onEng k fun e =>
        { e with busy := some j, keys := r.keys, lanes := r.lanes, mem := r.window }
      { s with seqs := tput s.seqs k r.seq {} }.setJob j { b with
        phase := .running, quantumOver := false, spilled := false, grantUp := s.now }

/-- The job cut in last by zwischenzug on an engine. Mark: DEDUCED (log entry 59). -/
def State.cutIn (s : State) (k : Nat) : Option Nat :=
  (s.eng k).saved.reverse.find? fun j => (s.job j).any fun b => !b.quantumOver

/-! ### Choosing the job -/

/-- An EVENT_SIGN berth of the active manifest serves an event's policy; where none does, its work is best-effort (R89). -/
def State.hasEventBerth (s : State) (b : Job) : Bool :=
  b.policy.any fun p => s.xs.active.any fun m => m.berths.any fun w => w.kind == 2 && w.owner == p

/-- Signing in a berth runs in fork mode: in an EVENT_SIGN berth, and in an INSTANCE berth with a signing profile (R232). -/
def Berth.inFork (w : Berth) : Bool := w.kind == 2 || w.kind == 3 && forkable w.profOp

/-- The engines of a signing job on a PE (R232): a berth decides its own, and best-effort work asks with FORK = 1 for the
four PEs of a cluster of BE_FORK_MASK, all free and none in a berth that does not lend; `some []` is one PE, and none a
fork that has to wait. -/
def State.forkSet (s : State) (b : Job) (cls i : Nat) (berth : Option Berth) : Option (List Nat) :=
  let want := cls == 1 && forkable b.opcode && (match berth with
    | some w => w.inFork
    | none => tlvNat b.params 0x005C 0 == 1)
  if !want then some []
  else
    let pes := clusterPes (i / 4)
    let named := berth.isSome || bitAt (s.fld aPE_CTL 11 8) (i / 4) && pes.all (s.freeOfBerth 1)
    if named && pes.all (s.engUsable 1) then some (pes.map (engKey 1)) else none

/-- A PE job ends before the next berth of each engine it takes (R76, R233). -/
def State.clearsBerth (s : State) (b : Job) (cls i : Nat) (fork : List Nat) : Bool :=
  cls != 1 || (if fork = [] then [i] else fork.map (· % 64)).all fun p =>
    match s.nextBerth 1 p with
    | none => true
    | some t => match s.jobCycles b 1 p (fork != []) with
      | some c => cyclesUnits c * 128 ≤ t
      | none => true

/-- Grant best-effort work on an engine: a job cut in earlier first (R99), else by R91 among the waiting jobs and the
contexts that quantum switching saved here. `cut` allows resuming (not inside an unlent berth). -/
def State.grantBestEffort (s : State) (cls i : Nat) : State :=
  let k := engKey cls i
  match s.cutIn k with
  | some j => s.resumeJob j
  | none =>
    let waits := s.jobs.filter fun e => e.2.waitsFor cls && !s.hasEventBerth e.2 || (s.eng k).saved.contains e.1
    let able := s.jobs.filter fun e =>
      (s.eng k).saved.contains e.1
        || (s.candidate e.2 cls i && !s.hasEventBerth e.2 && match s.forkSet e.2 cls i none with
            | some f => s.clearsBerth e.2 cls i f
            | none => false)
    let stays := (cls == 5 || cls == 6) && !bitAt (if cls = 5 then s.fld aSE_CTL 7 0 else s.fld aDE_CTL 11 0) i
    let able := if stays then able.filter fun e => (s.eng k).saved.contains e.1 else able
    match s.pickInstance cls (instancesOf (waits.map (·.2))) (instancesOf (able.map (·.2))) with
    | (none, _) => s
    | (some n, s') =>
      match s'.pickJob cls n able with
      | none => s
      | some j =>
        match s'.job j with
        | none => s
        | some b =>
          let more := waits.any fun e => e.1 != j && e.2.inst == n
          let s' := { s' with xs := { s'.xs with
            lastQueue := tset s'.xs.lastQueue (cls * 256 + n) b.queueNo,
            credits := if more then s'.xs.credits else tdel s'.xs.credits (cls * 256 + n) } }
          if b.phase = .saved then s'.resumeJob j
          else s'.tryStart j b cls i ((s.forkSet b cls i none).getD []) none

/-- The stream class of the frame whose work a job does, if it does any (R518). -/
def State.eventClass (s : State) (b : Job) : Option Nat :=
  match b.src with
  | .event ev => (tget s.tr.flights ev).bind fun f => (tget s.tr.streams f.stream).map (·.cls)
  | _ => none

/-- A host SE or DE job longer than the profile of its owner's berth: it never starts there and runs as best-effort
(R428). -/
def Berth.tooLong (w : Berth) (b : Job) : Bool := w.kind == 3 && (w.cls == 5 || w.cls == 6) && 1024 * w.profSet < b.dataLen

/-- The owner's jobs that wait for a berth, oldest first (R77, R78). -/
def State.ownerJobs (s : State) (w : Berth) : List (Nat × Job) :=
  let mine := s.jobs.filter fun e =>
    e.2.waitsFor w.cls && (if w.kind = 2 then e.2.policy == some w.owner
      else if w.kind = 1 then e.2.policy.isNone && s.eventClass e.2 == some w.owner
      else e.2.policy.isNone && e.2.inst == w.owner && !w.tooLong e.2)
  mine.mergeSort fun a b => a.2.order ≤ b.2.order

/-- The units left of a berth. -/
def State.unitsLeft (s : State) (w : Berth) : Nat := w.start + w.len - ceilDiv s.tb.ns 128

/-- An engine has some of a berth's job budget left in this crossing (R78). -/
def State.budgetLeft (s : State) (w : Berth) (i : Nat) : Bool := tgetD (s.run w.id).started (engKey w.cls i) 0 < w.budget

/-- The XS may start the head job of a berth's owner on an engine so that it ends in time (R78, R237); SLH-DSA signing never
runs in a berth (R295). Mark: DEDUCED (log entry 89). -/
def State.berthFits (s : State) (w : Berth) (b : Job) (i : Nat) (fork : Bool) : Bool :=
  if w.kind = 2 then
    match (clusterOf w.cls i).bind fun k => s.opTime k b.opcode (s.profParam b) with
    | some t => cyclesUnits (t.a + t.f) ≤ s.unitsLeft w
    | none => false
  else if b.opcode = opSLHDSA_SIGN then false
  else match s.jobCycles b w.cls i fork with
    | some c => cyclesUnits c ≤ s.unitsLeft w
    | none => false

/-- Grant work on an engine inside a running berth: the owner's head job, in strict arrival order; a head job that ends in
time on no engine with budget left is held back, and with it the owner for the rest of the crossing (R78); lent time goes to
best-effort work (R80). -/
def State.grantInBerth (s : State) (w : Berth) (i : Nat) : State :=
  let lend := fun (s : State) => if s.lends w then s.grantBestEffort w.cls i else s
  let r := s.run w.id
  match s.ownerJobs w with
  | [] => lend s
  | (j, b) :: _ =>
    if r.blocked then lend s
    else if !s.candidate b w.cls i then lend s
    else match s.forkSet b w.cls i (some w) with
      | none => s
      | some f =>
        let fits := fun k => s.budgetLeft w k && s.berthFits w b k (f != [])
        if !(((List.range (classSize w.cls)).filter (bitAt w.mask)).any fits) then lend (s.setRun w.id { r with blocked := true })
        else if !fits i then lend s
        else
          let s := s.tryStart j b w.cls i f (some w.id)
          if (s.job j).any fun b => b.phase == .running then
            let ks := if f = [] then [engKey w.cls i] else f
            s.setRun w.id { r with started := ks.foldl (fun t k => tset t k (tgetD t k 0 + 1)) r.started }
          else s

/-- An engine of a draining domain takes no new job: it resumes its saved contexts (R629). -/
def State.drainEngine (s : State) (k : Nat) : State :=
  let e := s.eng k
  if s.fc.mstate = .fault ∨ e.oos ∨ e.held ∨ e.busy.isSome then s
  else match e.saved with
    | j :: _ => s.resumeJob j
    | [] => s

/-- Grant an engine; a grant that the XS copies disagree on is withheld until they have recomputed it (R595). -/
def State.grant (s : State) (cls i : Nat) : State :=
  let e := s.eng (engKey cls i)
  if i < classSize cls ∧ s.domain (engDomain cls i) = .draining then s.drainEngine (engKey cls i)
  else if !s.engUsable cls i ∨ e.leadIn.isSome ∨ s.fc.withheld = some (cls, i) then s
  else match e.berth.bind s.berthOf with
    | some w => s.grantInBerth w i
    | none => s.grantBestEffort cls i

end Sys2Proof.Machine
end

