-- ==== Sys2Proof/Machine/LvuOps.lean ====
section
/-!
DEFINITION. What the LVU instructions share (R355 to R368): register and predicate operands, operand memory and its
windows, rounding and saturation, the modular and FIPS functions, and the commit or discard of a whole instruction.
-/

namespace Sys2Proof.Machine

/-! ### Operand memory (R209, R364) -/

/-- One byte of a PE's operand memory. -/
def memGet (m : Tab Byte) (a : Nat) : Byte := tgetD m a 0

/-- Write one byte. -/
def memSet (m : Tab Byte) (a : Nat) (b : Byte) : Tab Byte := tput m a b 0

/-- A little-endian value of `n` bytes. -/
def memLoad (m : Tab Byte) (a n : Nat) : Nat := leNat ((List.range n).map fun i => memGet m (a + i))

/-- Store a little-endian value of `n` bytes. -/
def memStore (m : Tab Byte) (a n v : Nat) : Tab Byte :=
  (List.range n).foldl (fun m i => memSet m (a + i) (BitVec.ofNat 8 (v / 256 ^ i))) m

/-- The `n` bytes at `a` lie wholly inside a window (R364). -/
def inWindow (w : List (Nat × Nat)) (a n : Nat) : Bool := w.any fun x => x.1 ≤ a && a + n ≤ x.2 + 1

/-! ### Operands (R356) -/

/-- The registers of a group. -/
def lopG (o : LvuOp) : Nat := 2 ^ (o.grp % 4)

/-- The bits of an element. -/
def lopW (o : LvuOp) : Nat := if o.w32 then 32 else 16

/-- The elements of one register. -/
def lopPer (o : LvuOp) : Nat := if o.w32 then 128 else 256

/-- The elements of an operand. -/
def lopN (o : LvuOp) : Nat := (lopG o) * (lopPer o)

/-- The bytes of an element. -/
def lopBytes (o : LvuOp) : Nat := (lopW o) / 8

/-- A register number is a valid operand: aligned to its group and inside V0 to V31.
Mark: DESIGN CHOICE (log entry 44). -/
def lopValid (o : LvuOp) (r : Nat) : Bool := r % (lopG o) == 0 && r + (lopG o) ≤ 32

/-- One vector register. -/
def Lvu.vreg (l : Lvu) (r : Nat) : BitVec 4096 := tgetD l.v r 0

/-- One predicate register; P0 reads as all ones. -/
def Lvu.preg (l : Lvu) (r : Nat) : BitVec 2048 := if r = 0 then BitVec.allOnes 2048 else tgetD l.p r 0

/-- Write a predicate register; P0 ignores writes. -/
def Lvu.setP (l : Lvu) (r : Nat) (v : BitVec 2048) : Lvu := if r = 0 then l else { l with p := tput l.p r v 0 }

/-- Write a vector register. -/
def Lvu.setV (l : Lvu) (r : Nat) (v : BitVec 4096) : Lvu := { l with v := tput l.v r v 0 }

/-- The elements of one register, lowest first, as `w`-bit values. -/
def splitReg (w per : Nat) (v : BitVec 4096) : List Nat :=
  let x := v.toNat
  (List.range per).map fun i => x >>> (i * w) % 2 ^ w

/-- A register from its elements. -/
def joinReg (w : Nat) (es : List Nat) : BitVec 4096 := BitVec.ofNat 4096 (es.foldr (fun e a => a <<< w ||| e % 2 ^ w) 0)

/-- The elements of the operand at register `r`. -/
def Lvu.elems (l : Lvu) (o : LvuOp) (r : Nat) : List Nat :=
  ((List.range (lopG o)).map fun k => splitReg (lopW o) (lopPer o) (l.vreg (r + k))).flatten

/-- The 16-bit index lanes of the operand at register `r` (R361). -/
def Lvu.lanes (l : Lvu) (o : LvuOp) (r : Nat) : List Nat :=
  ((List.range (lopG o)).map fun k => splitReg 16 256 (l.vreg (r + k))).flatten

/-- Bit `i` of the governing predicate. -/
def Lvu.governs (l : Lvu) (o : LvuOp) (i : Nat) : Bool := (l.preg o.pred).getLsbD i

/-- Choose per element: the new value where the predicate bit is 1, else the old one. -/
def mergeElems (p : Nat → Bool) : Nat → List Nat → List Nat → List Nat
  | i, n :: ns, o :: os => (if p i then n else o) :: mergeElems p (i + 1) ns os
  | _, _, os => os

/-- Write an operand whole. -/
def Lvu.putElems (l : Lvu) (o : LvuOp) (r : Nat) (es : List Nat) : Lvu :=
  (List.range (lopG o)).foldl (fun l k => l.setV (r + k) (joinReg (lopW o) ((es.drop (k * (lopPer o))).take (lopPer o)))) l

/-- Write the elements of an operand that the predicate governs (R360). -/
def Lvu.write (l : Lvu) (o : LvuOp) (r : Nat) (es : List Nat) : Lvu :=
  l.putElems o r (mergeElems (l.governs o) 0 es (l.elems o r))

/-! ### Element arithmetic -/

/-- A `w`-bit value as a signed number. -/
def sInt (w x : Nat) : Int := if x < 2 ^ (w - 1) then (x : Int) else (x : Int) - 2 ^ w

/-- A signed number as a `w`-bit value, wrapping. -/
def wrapTo (w : Nat) (x : Int) : Nat := (x % 2 ^ w).toNat

/-- A signed number as a `w`-bit value, saturating (R356). -/
def satTo (w : Nat) (x : Int) : Nat :=
  wrapTo w (if x < -(2 ^ (w - 1)) then -(2 ^ (w - 1)) else if x > 2 ^ (w - 1) - 1 then 2 ^ (w - 1) - 1 else x)

/-- A value of the LVU that the spec leaves open, as a function of the operands. Mark: DESIGN CHOICE (log entry 43). -/
def lvuOpen (w lop : Nat) (xs : List Nat) : Nat := Config.standardNat "LVU.open" lop (xs.map fun x => leBytes x 4) % 2 ^ w

/-- An arithmetic right shift by `n`, rounded (R360); `none` for the reserved RND code. -/
def shiftRound (rnd : Nat) (x : Int) (n : Nat) : Option Int :=
  let fl := x / 2 ^ n
  if n = 0 then some x
  else match rnd with
    | 0 => some fl
    | 1 => some ((x + 2 ^ (n - 1)) / 2 ^ n)
    | 2 =>
      let r := x % 2 ^ n
      some (if r > 2 ^ (n - 1) ∨ (r = 2 ^ (n - 1) ∧ fl % 2 = 1) then fl + 1 else fl)
    | _ => none

/-- A modular input is in the range of R361. -/
def modIn (w32 : Bool) (q x : Nat) : Bool :=
  if w32 then decide (-(q : Int) < sInt 32 x) && decide (sInt 32 x < q) else decide (x < q)

/-- A modular instruction on one pair of elements (R361): exact for inputs in range, open for others.
Mark: DESIGN CHOICE (log entry 43). -/
def modElem (o : LvuOp) (q lop : Nat) (f : Int → Int → Int) (a b : Nat) : Nat :=
  if modIn o.w32 q a && modIn o.w32 q b then wrapTo (lopW o) (f (sInt (lopW o) a) (sInt (lopW o) b) % q)
  else lvuOpen (lopW o) lop [a, b, q]

/-- R^−1 mod an odd q, for R = 2^`radix`. -/
def montInv (q radix : Nat) : Nat := ((q + 1) / 2) ^ radix % q

/-- The representative of x mod m in (−m/2, m/2]. -/
def centred (x m : Int) : Int :=
  let r := x % m
  if 2 * r > m then r - m else r

/-- Compress_d of FIPS 203. -/
def compressD (q d x : Nat) : Nat := (x * 2 ^ (d + 1) + q) / (2 * q) % 2 ^ d

/-- Decompress_d of FIPS 203. -/
def decompressD (q d y : Nat) : Nat := (2 * q * y + 2 ^ d) / 2 ^ (d + 1)

/-- Power2Round of FIPS 204: (r1, r0). -/
def power2Round (q d : Nat) (x : Int) : Int × Int :=
  let r := x % q
  let r0 := centred r (2 ^ d)
  ((r - r0) / 2 ^ d, r0)

/-- Decompose of FIPS 204: (r1, r0). -/
def decomposeQ (q gamma2 : Nat) (x : Int) : Int × Int :=
  let r := x % q
  let r0 := centred r (2 * gamma2)
  if r - r0 = q - 1 then (0, r0 - 1) else ((r - r0) / (2 * gamma2), r0)

/-- γ2 of an AUX code (R361). -/
def gamma2Of (q aux : Nat) : Nat := if aux = 0 then (q - 1) / 88 else (q - 1) / 32

/-- The reversal of the low `k` bits of an index. Mark: DEDUCED (log entry 45). -/
def bitRev : (k i : Nat) → Nat
  | 0, _ => 0
  | k + 1, i => i % 2 * 2 ^ k + bitRev k (i / 2)

/-- Where an element of VPERM comes from: AUX 0 reverses the coefficient index, AUX 1 interleaves halves at distance `d`
inside blocks of 2d. Mark: DEDUCED (log entry 45). -/
def permSource (aux n d i : Nat) : Nat :=
  if aux = 0 then
    let k := if n < 256 then 7 else 8
    i / 2 ^ k * 2 ^ k + bitRev k (i % 2 ^ k)
  else
    let b := i / (2 * d) * (2 * d)
    let r := i % (2 * d)
    b + r / 2 + r % 2 * d

/-- Where an element of VDEINT comes from: the inverse of VPERM AUX 1. -/
def deintSource (d i : Nat) : Nat :=
  let b := i / (2 * d) * (2 * d)
  let r := i % (2 * d)
  b + if r < d then 2 * r else 2 * (r - d) + 1

/-- Permute elements by their sources. -/
def permute (f : Nat → Nat) (es : List Nat) : List Nat :=
  let a := es.toArray
  (List.range es.length).map fun i => a.getD (f i) 0

/-! ### Whole-instruction commit (R366 to R368) -/

/-- The LVU of a PE. -/
def State.lvu (s : State) (pe : Nat) : Lvu := tgetD s.lvus pe {}

/-- Replace the LVU of a PE. -/
def State.setLvu (s : State) (pe : Nat) (l : Lvu) : State := { s with lvus := tput s.lvus pe l {} }

/-- What an instruction does when it does not fault: the LVU after, and the faults it meets, as pairs of a cause and the
faulting element with its byte address. -/
structure LvuEffect where
  after : Lvu
  faults : List (Nat × Nat × Nat) := []
  deriving DecidableEq, Repr

/-- The lowest-numbered faulting element (R366), by element, then by cause. -/
def firstFault : List (Nat × Nat × Nat) → Option (Nat × Nat × Nat)
  | [] => none
  | f :: fs =>
    match firstFault fs with
    | none => some f
    | some g => some (if g.2.1 < f.2.1 ∨ (g.2.1 = f.2.1 ∧ g.1 < f.1) then g else f)

/-- The read errors of an operation, as faults; the address of an operand-memory error (cause 1) is its element's. -/
def hwFaults (hw : List (Nat × Nat)) (addr : Nat → Nat) : List (Nat × Nat × Nat) :=
  (hw.filter fun h => h.1 == 1 || h.1 == 3).map fun h => (h.1, h.2, if h.1 = 1 then addr h.2 else 0)

/-- Latch a fault record while none is held (R368); answers whether this one was latched. -/
def State.latchLvu (s : State) (pe lop uaddr : Nat) (f : Nat × Nat × Nat) (multi : Bool) : Bool × State :=
  match s.mc.flt with
  | some _ => (false, s)
  | none => (true, { s with mc := { s.mc with flt := some ⟨f.1, pe, false, multi, f.2.1, uaddr, lop, f.2.2⟩ } })

/-- Mark a job RETRIED (R593). -/
def State.markRetried (s : State) (pe : Nat) : State :=
  match (s.eng (engKey 1 pe)).busy with
  | some j => s.onJob j fun b => { b with retried := true }
  | none => s

/-- An instruction ends (R366, R367): without a fault its results commit; with one it is discarded whole. A first fault
latches the record and waits for the restart; a fault of the restart ends the job FAULT_CONTAINED. -/
def State.lvuEnd (s : State) (pe lop : Nat) (o : LvuOp) (rand : List Nat) (e : LvuEffect) (again : Option LvuRestart) :
    State :=
  match firstFault e.faults with
  | none =>
    let s := s.setLvu pe { e.after with restart := none }
    match again with
    | none => s
    | some a => ((s.markRetried pe).bump aMC_LVU_RESTARTS 0).raiseEng 1 pe 0x12 a.element
  | some f =>
    let multi := e.faults.any fun g => g.2.1 != f.2.1
    match again with
    | none =>
      let r := s.latchLvu pe lop o.uaddr f multi
      r.2.setLvu pe { r.2.lvu pe with restart := some ⟨lop, o, rand, r.1, f.2.1⟩ }
    | some a =>
      let s := if a.latched then
          { s with mc := { s.mc with flt := s.mc.flt.map fun x => if x.engine = pe then { x with rep := true } else x } }
        else s
      let s := (s.setLvu pe { s.lvu pe with restart := none }).bump aMC_LVU_CONTAINED 0
      s.raiseEng 1 pe 0x13 f.2.1

/-! ### The instructions (R361) -/

/-- Element addresses outside a window (cause 2), among the elements `is`. Mark: DEDUCED (log entry 45). -/
def windowFaults (w : List (Nat × Nat)) (bytes : Nat) (addr : Nat → Nat) (is : List Nat) : List (Nat × Nat × Nat) :=
  (is.filter fun i => !inWindow w (addr i) bytes).map fun i => (2, i, addr i)

/-- One element at a time from one source. -/
def Lvu.map1 (l : Lvu) (o : LvuOp) (f : Nat → Nat) : LvuEffect := ⟨l.write o o.vd ((l.elems o o.va).map f), []⟩

/-- One element at a time from two sources. -/
def Lvu.map2 (l : Lvu) (o : LvuOp) (f : Nat → Nat → Nat) : LvuEffect :=
  ⟨l.write o o.vd (List.zipWith f (l.elems o o.va) (l.elems o o.vb)), []⟩

/-- Two results from one source: r1 to VD, r0 to VD + g. -/
def Lvu.mapPair (l : Lvu) (o : LvuOp) (f : Nat → Nat × Nat) : LvuEffect :=
  let rs := (l.elems o o.va).map f
  ⟨(l.write o o.vd (rs.map (·.1))).write o (o.vd + (lopG o)) (rs.map (·.2)), []⟩

/-- VLD. -/
def lvuVld (o : LvuOp) (l : Lvu) : LvuEffect :=
  let a := fun i => o.portA % 2 ^ 18 + i * (lopBytes o)
  ⟨l.write o o.vd ((List.range (lopN o)).map fun i => memLoad l.mem (a i) (lopBytes o)),
   hwFaults o.hw a ++ windowFaults l.winR (lopBytes o) a (List.range (lopN o))⟩

/-- VST. -/
def lvuVst (o : LvuOp) (l : Lvu) : LvuEffect :=
  let a := fun i => o.portA % 2 ^ 18 + i * (lopBytes o)
  let es := (l.elems o o.va).zipIdx.filter fun e => l.governs o e.2
  ⟨{ l with mem := es.foldl (fun m e => memStore m (a e.2) (lopBytes o) e.1) l.mem },
   hwFaults o.hw (fun _ => 0) ++ windowFaults l.winW (lopBytes o) a (List.range (lopN o))⟩

/-- The element addresses of VGATHER and VSCATTER. -/
def Lvu.indexed (l : Lvu) (o : LvuOp) : Nat → Nat :=
  let idx := (l.lanes o o.vb).toArray
  fun i => o.portB % 2 ^ 18 + idx.getD i 0 * (lopBytes o)

/-- The element count of VGATHER and VSCATTER: IMM[11:0]. -/
def lopCount (o : LvuOp) : Nat := o.imm % 4096

/-- VGATHER: elements at and above N keep their values. -/
def lvuVgather (o : LvuOp) (l : Lvu) : LvuEffect :=
  let a := l.indexed o
  let is := List.range (lopCount o)
  ⟨l.write o o.vd ((is.map fun i => memLoad l.mem (a i) (lopBytes o)) ++ (l.elems o o.vd).drop (lopCount o)),
   hwFaults o.hw a ++ windowFaults l.winR (lopBytes o) a is⟩

/-- VSCATTER: the writes are performed in element order, so the higher index wins (R363). -/
def lvuVscatter (o : LvuOp) (l : Lvu) : LvuEffect :=
  let a := l.indexed o
  let is := List.range (lopCount o)
  let es := ((l.elems o o.va).take (lopCount o)).zipIdx.filter fun e => l.governs o e.2
  ⟨{ l with mem := es.foldl (fun m e => memStore m (a e.2) (lopBytes o) e.1) l.mem },
   hwFaults o.hw (fun _ => 0) ++ windowFaults l.winW (lopBytes o) a is⟩

/-- VRAND: the expander values `rand`, uniform mod q (AUX 0) or uniform bits (AUX 1). -/
def lvuVrand (o : LvuOp) (rand : List Nat) (l : Lvu) : LvuEffect :=
  ⟨l.write o o.vd (rand.map fun x => if o.aux = 0 ∧ l.modq ≠ 0 then x % l.modq else x % 2 ^ (lopW o)), []⟩

/-- VSETQ (R357). -/
def lvuVsetq (o : LvuOp) (l : Lvu) : LvuEffect :=
  let a := o.portA % 2 ^ 18
  let q := memLoad l.mem a 4
  let k := if q = 0 then 0 else Nat.log2 q + 1
  ⟨{ l with modq := q, barrett := 2 ^ (2 * k) / q, radix := (lopW o) },
   hwFaults o.hw (fun _ => a) ++ windowFaults l.winR 4 (fun _ => a) [0] ++
   (if q % 2 = 0 ∨ q < 3 ∨ q ≥ (if o.w32 then 2 ^ 23 else 2 ^ 15) then [(4, 0, 0)] else [])⟩

/-- VMADD, VMSUB. -/
def lvuModAdd (sub : Bool) (o : LvuOp) (l : Lvu) : LvuEffect :=
  l.map2 o (modElem o l.modq (if sub then 0x0A else 0x09) fun a b => if sub then a - b else a + b)

/-- VMMUL: AUX 0 Barrett, AUX 1 Montgomery. -/
def lvuVmmul (o : LvuOp) (l : Lvu) : LvuEffect :=
  let r : Int := if o.aux = 1 then (montInv l.modq l.radix : Int) else 1
  l.map2 o (modElem o l.modq 0x0B fun a b => a * b * r)

/-- VREDUCE: AUX 0 to [0, q), AUX 1 to (−q/2, q/2]. -/
def lvuVreduce (o : LvuOp) (l : Lvu) : LvuEffect :=
  l.map1 o fun a =>
    if modIn o.w32 l.modq a then
      wrapTo (lopW o) (if o.aux = 1 then centred (sInt (lopW o) a) l.modq else sInt (lopW o) a % l.modq)
    else lvuOpen (lopW o) 0x0C [a, o.aux, l.modq]

/-- VADD, VSUB, VSADD, VSSUB. -/
def lvuAddSub (sub sat : Bool) (o : LvuOp) (l : Lvu) : LvuEffect :=
  l.map2 o fun a b =>
    let r := if sub then sInt (lopW o) a - sInt (lopW o) b else sInt (lopW o) a + sInt (lopW o) b
    if sat then satTo (lopW o) r else wrapTo (lopW o) r

/-- VMULHR. Mark: DESIGN CHOICE (log entry 43). -/
def lvuVmulhr (o : LvuOp) (l : Lvu) : LvuEffect :=
  l.map2 o fun a b =>
    match shiftRound o.rnd (sInt (lopW o) a * sInt (lopW o) b) ((lopW o) - 1) with
    | some r => satTo (lopW o) r
    | none => lvuOpen (lopW o) 0x14 [a, b]

/-- VSHRR. Mark: DESIGN CHOICE (log entry 43). -/
def lvuVshrr (o : LvuOp) (l : Lvu) : LvuEffect :=
  l.map1 o fun a =>
    match shiftRound o.rnd (sInt (lopW o) a) (o.imm % 32) with
    | some r => wrapTo (lopW o) r
    | none => lvuOpen (lopW o) 0x15 [a]

/-- VSHL. -/
def lvuVshl (o : LvuOp) (l : Lvu) : LvuEffect :=
  l.map1 o fun a =>
    let r := sInt (lopW o) a * 2 ^ (o.imm % 32)
    if o.sat then satTo (lopW o) r else wrapTo (lopW o) r

/-- VAND, VOR, VXOR. -/
def lvuLogic (f : Nat → Nat → Nat) (o : LvuOp) (l : Lvu) : LvuEffect := l.map2 o f

/-- VCOMPRESS, d = IMM[3:0]. Mark: DESIGN CHOICE (log entry 43). -/
def lvuVcompress (o : LvuOp) (l : Lvu) : LvuEffect :=
  let d := o.imm % 16
  l.map1 o fun a =>
    if modIn o.w32 l.modq a ∧ 1 ≤ d ∧ d ≤ 12 then compressD l.modq d (sInt (lopW o) a % l.modq).toNat
    else lvuOpen (lopW o) 0x20 [a, d, l.modq]

/-- VDECOMPRESS. -/
def lvuVdecompress (o : LvuOp) (l : Lvu) : LvuEffect :=
  let d := o.imm % 16
  l.map1 o fun a =>
    if a < 2 ^ d ∧ l.modq ≠ 0 ∧ 1 ≤ d ∧ d ≤ 12 then decompressD l.modq d a % 2 ^ (lopW o) else lvuOpen (lopW o) 0x21 [a, d, l.modq]

/-- VP2R. -/
def lvuVp2r (o : LvuOp) (l : Lvu) : LvuEffect :=
  let d := o.imm % 16
  l.mapPair o fun a =>
    if modIn o.w32 l.modq a then
      let r := power2Round l.modq d (sInt (lopW o) a)
      (wrapTo (lopW o) r.1, wrapTo (lopW o) r.2)
    else (lvuOpen (lopW o) 0x22 [a, d, l.modq, 1], lvuOpen (lopW o) 0x22 [a, d, l.modq, 0])

/-- Decompose of one element; open where the input is out of range or MODQ has no γ2.
Mark: DESIGN CHOICE (log entry 43). -/
def decomposeElem (o : LvuOp) (q a : Nat) : Nat × Nat :=
  if modIn o.w32 q a ∧ gamma2Of q o.aux ≠ 0 then
    let r := decomposeQ q (gamma2Of q o.aux) (sInt (lopW o) a)
    (wrapTo (lopW o) r.1, wrapTo (lopW o) r.2)
  else (lvuOpen (lopW o) 0x23 [a, o.aux, q, 1], lvuOpen (lopW o) 0x23 [a, o.aux, q, 0])

/-- The comparison of VCMP. Mark: DEDUCED (log entry 45). -/
def cmpElem (o : LvuOp) (a b : Nat) : Bool :=
  match o.aux with
  | 0 => sInt (lopW o) a < sInt (lopW o) b
  | 1 => a == b
  | 2 => sInt (lopW o) a ≤ sInt (lopW o) b
  | _ => (sInt (lopW o) a).natAbs ≥ o.imm % 2 ^ 15

/-- VCMP: bit i of P[VD[2:0]], for the elements the predicate governs. -/
def lvuVcmp (o : LvuOp) (l : Lvu) : LvuEffect :=
  let new := List.zipWith (cmpElem o) (l.elems o o.va) (l.elems o o.vb)
  let old := l.preg (o.vd % 8)
  let bits := new.zipIdx.foldr (fun e a => a <<< 1 ||| b2n (if l.governs o e.2 then e.1 else old.getLsbD e.2)) 0
  ⟨l.setP (o.vd % 8) (BitVec.ofNat 2048 (old.toNat >>> new.length <<< new.length ||| bits)), []⟩

/-- VSEL. -/
def lvuVsel (o : LvuOp) (l : Lvu) : LvuEffect :=
  ⟨l.putElems o o.vd (mergeElems (l.governs o) 0 (l.elems o o.va) (l.elems o o.vb)), []⟩

/-- What an instruction does, by LOP (R361); `rand` are the expander values of a VRAND. Mark: DEDUCED (log entry 45). -/
def lvuDo (lop : Nat) (rand : List Nat) (o : LvuOp) (l : Lvu) : LvuEffect :=
  match lop with
  | 0x01 => lvuVld o l
  | 0x02 => lvuVst o l
  | 0x03 => lvuVgather o l
  | 0x04 => lvuVscatter o l
  | 0x05 => l.map1 o id
  | 0x06 => ⟨l.write o o.vd (List.replicate (lopN o) (wrapTo (lopW o) (sInt 15 (o.imm % 2 ^ 15)))), []⟩
  | 0x07 => lvuVrand o rand l
  | 0x08 => lvuVsetq o l
  | 0x09 => lvuModAdd false o l
  | 0x0A => lvuModAdd true o l
  | 0x0B => lvuVmmul o l
  | 0x0C => lvuVreduce o l
  | 0x10 => lvuAddSub false false o l
  | 0x11 => lvuAddSub true false o l
  | 0x12 => lvuAddSub false true o l
  | 0x13 => lvuAddSub true true o l
  | 0x14 => lvuVmulhr o l
  | 0x15 => lvuVshrr o l
  | 0x16 => lvuVshl o l
  | 0x18 => lvuLogic (· &&& ·) o l
  | 0x19 => lvuLogic (· ||| ·) o l
  | 0x1A => lvuLogic (· ^^^ ·) o l
  | 0x20 => lvuVcompress o l
  | 0x21 => lvuVdecompress o l
  | 0x22 => lvuVp2r o l
  | 0x23 => l.mapPair o (decomposeElem o l.modq)
  | 0x24 => l.map1 o fun a => (decomposeElem o l.modq a).1
  | 0x28 => lvuVcmp o l
  | 0x29 => lvuVsel o l
  | 0x2A => ⟨{ l with pany := l.preg o.pred != 0 }, []⟩
  | 0x30 => ⟨l.write o o.vd (permute (permSource o.aux (lopN o) (2 ^ (o.imm % 8))) (l.elems o o.va)), []⟩
  | 0x31 => ⟨l.write o o.vd (permute (deintSource (2 ^ (o.imm % 8))) (l.elems o o.va)), []⟩
  | _ => ⟨l, []⟩

/-! ### Issue -/

/-- The sizes of a format: header, opcode-table entry, microword, nanoword, and what follows the body.
Mark: DEDUCED (log entry 49). -/
def packShape (fmt : Nat) : Nat × Nat × Nat × Nat × Nat := if fmt = 1 then (64, 16, 8, 32, 6778) else (128, 32, 4, 24, 9446)

/-- The LVU field that an instruction's fields spell (R360). -/
def lvuField (lop : Nat) (o : LvuOp) : Nat :=
  ([(lop, 26), (o.vd, 21), (o.va, 16), (o.vb, 11), (o.pred, 8), (o.grp, 6), (b2n o.w32, 5), (o.rnd, 3), (b2n o.sat, 2),
    (o.aux, 0)].map fun f => f.1 * 2 ^ f.2).sum

/-- The instruction is the one that the nanoword last issued by the sequencer of a PE holds, where a loaded pack gives it
(R369, R370, R373). The words of a base pack are the firmware's. Mark: DESIGN CHOICE (log entry 48). -/
def State.nanowordHolds (s : State) (pe lop : Nat) (o : LvuOp) : Bool :=
  let p := s.packOf (pe / 4)
  let q := tgetD s.seqs (engKey 1 pe) {}
  let n := (packShape p.fmt).2.2.2.1
  let w := slice p.body (leAt p.body 36 4 + n * q.nptr) n
  p.base || (leAt w 20 4 == lvuField lop o && o.portA % 2 ^ 18 == bitsAt (leAt w 8 4) 17 0
    && o.portB % 2 ^ 18 == bitsAt (leAt w 4 4) 17 0 && o.imm % 2 ^ 15 == q.imm % 2 ^ 15 && o.uaddr == q.issued)

/-- An instruction can be issued on a PE: a job runs on it, no restart is awaited, and its operands are ones a pack may
hold (R356, R384 check 8), of the nanoword issued. Mark: DESIGN CHOICE (log entries 5, 44). -/
def State.lvuReady (s : State) (pe lop : Nat) (o : LvuOp) (regs : List Nat) (auxOk : Bool) : Bool :=
  pe < 16 && (s.eng (engKey 1 pe)).busy.isSome && (s.lvu pe).restart.isNone && regs.all (lopValid o) && o.pred < 8 && auxOk
    && s.nanowordHolds pe lop o

/-- Issue an instruction: nothing happens unless it can be issued; the read errors of its checkers count whatever it
reads. Mark: DEDUCED (log entry 47). -/
def State.issue (s : State) (pe lop : Nat) (o : LvuOp) (regs : List Nat) (auxOk : Bool) : State :=
  if s.lvuReady pe lop o regs auxOk then
    let e := lvuDo lop [] o (s.lvu pe)
    s.lvuEnd pe lop o [] { e with faults := if e.faults = [] then hwFaults o.hw (fun _ => 0) else e.faults } none
  else s

end Sys2Proof.Machine
end

