-- ==== Sys2Proof/Machine/Lvu.lean ====
section
/-!
DEFINITION. The LVU instructions (R361), one meaning each, and the LVU restart (R367).
-/

namespace Sys2Proof.Machine

/-- VNOP. -/
def execVnop (pe : Nat) (o : LvuOp) (s : State) : Result :=
  .next (s.issue pe 0x00 o [] true)

/-- VLD: VD ← operand memory from the port-A address. -/
def execVld (pe : Nat) (o : LvuOp) (s : State) : Result :=
  .next (s.issue pe 0x01 o [o.vd] true)

/-- VST: operand memory at the port-A address ← VA. -/
def execVst (pe : Nat) (o : LvuOp) (s : State) : Result :=
  .next (s.issue pe 0x02 o [o.va] true)

/-- N of a gather or scatter is from 1 to the element count (R361). -/
def countOk (o : LvuOp) : Bool := 1 ≤ lopCount o && lopCount o ≤ lopN o

/-- VGATHER. -/
def execVgather (pe : Nat) (o : LvuOp) (s : State) : Result :=
  .next (s.issue pe 0x03 o [o.vd, o.vb] (countOk o))

/-- VSCATTER. -/
def execVscatter (pe : Nat) (o : LvuOp) (s : State) : Result :=
  .next (s.issue pe 0x04 o [o.va, o.vb] (countOk o))

/-- VMOV: VD ← VA. -/
def execVmov (pe : Nat) (o : LvuOp) (s : State) : Result :=
  .next (s.issue pe 0x05 o [o.vd, o.va] true)

/-- VBCAST: every element of VD ← IMM, sign-extended. -/
def execVbcast (pe : Nat) (o : LvuOp) (s : State) : Result :=
  .next (s.issue pe 0x06 o [o.vd] true)

/-- VRAND: VD ← expander output; the values are held for a restart (R367). -/
def execVrand (pe : Nat) (o : LvuOp) (s : State) : Result :=
  if s.lvuReady pe 0x07 o [o.vd] (o.aux ≤ 1) then
    let r := (List.range (lopN o)).foldl (fun (a : List Nat × State) _ =>
      let x := a.2.drawNat (2 ^ 32)
      (x.1 :: a.1, x.2)) ([], s)
    let e := lvuDo 0x07 r.1 o (r.2.lvu pe)
    .next (r.2.lvuEnd pe 0x07 o r.1 { e with faults := hwFaults o.hw (fun _ => 0) } none)
  else .next s

/-- VSETQ (R357). -/
def execVsetq (pe : Nat) (o : LvuOp) (s : State) : Result :=
  .next (s.issue pe 0x08 o [] true)

/-- VMADD: VD ← VA + VB mod q. -/
def execVmadd (pe : Nat) (o : LvuOp) (s : State) : Result :=
  .next (s.issue pe 0x09 o [o.vd, o.va, o.vb] true)

/-- VMSUB: VD ← VA − VB mod q. -/
def execVmsub (pe : Nat) (o : LvuOp) (s : State) : Result :=
  .next (s.issue pe 0x0A o [o.vd, o.va, o.vb] true)

/-- VMMUL: VD ← VA × VB mod q. -/
def execVmmul (pe : Nat) (o : LvuOp) (s : State) : Result :=
  .next (s.issue pe 0x0B o [o.vd, o.va, o.vb] (o.aux ≤ 1))

/-- VREDUCE. -/
def execVreduce (pe : Nat) (o : LvuOp) (s : State) : Result :=
  .next (s.issue pe 0x0C o [o.vd, o.va] (o.aux ≤ 1))

/-- VADD: wrapping. -/
def execVadd (pe : Nat) (o : LvuOp) (s : State) : Result :=
  .next (s.issue pe 0x10 o [o.vd, o.va, o.vb] true)

/-- VSUB: wrapping. -/
def execVsub (pe : Nat) (o : LvuOp) (s : State) : Result :=
  .next (s.issue pe 0x11 o [o.vd, o.va, o.vb] true)

/-- VSADD: saturating. -/
def execVsadd (pe : Nat) (o : LvuOp) (s : State) : Result :=
  .next (s.issue pe 0x12 o [o.vd, o.va, o.vb] true)

/-- VSSUB: saturating. -/
def execVssub (pe : Nat) (o : LvuOp) (s : State) : Result :=
  .next (s.issue pe 0x13 o [o.vd, o.va, o.vb] true)

/-- VMULHR. -/
def execVmulhr (pe : Nat) (o : LvuOp) (s : State) : Result :=
  .next (s.issue pe 0x14 o [o.vd, o.va, o.vb] true)

/-- VSHRR. -/
def execVshrr (pe : Nat) (o : LvuOp) (s : State) : Result :=
  .next (s.issue pe 0x15 o [o.vd, o.va] true)

/-- VSHL. -/
def execVshl (pe : Nat) (o : LvuOp) (s : State) : Result :=
  .next (s.issue pe 0x16 o [o.vd, o.va] true)

/-- VAND. -/
def execVand (pe : Nat) (o : LvuOp) (s : State) : Result :=
  .next (s.issue pe 0x18 o [o.vd, o.va, o.vb] true)

/-- VOR. -/
def execVor (pe : Nat) (o : LvuOp) (s : State) : Result :=
  .next (s.issue pe 0x19 o [o.vd, o.va, o.vb] true)

/-- VXOR. -/
def execVxor (pe : Nat) (o : LvuOp) (s : State) : Result :=
  .next (s.issue pe 0x1A o [o.vd, o.va, o.vb] true)

/-- VCOMPRESS: Compress_d of FIPS 203. -/
def execVcompress (pe : Nat) (o : LvuOp) (s : State) : Result :=
  .next (s.issue pe 0x20 o [o.vd, o.va] true)

/-- VDECOMPRESS: Decompress_d of FIPS 203. -/
def execVdecompress (pe : Nat) (o : LvuOp) (s : State) : Result :=
  .next (s.issue pe 0x21 o [o.vd, o.va] true)

/-- VP2R: Power2Round of FIPS 204. -/
def execVp2r (pe : Nat) (o : LvuOp) (s : State) : Result :=
  .next (s.issue pe 0x22 o [o.vd, o.vd + lopG o, o.va] true)

/-- VDECOMPOSE: Decompose of FIPS 204. -/
def execVdecompose (pe : Nat) (o : LvuOp) (s : State) : Result :=
  .next (s.issue pe 0x23 o [o.vd, o.vd + lopG o, o.va] (o.aux ≤ 1))

/-- VHIGHBITS: HighBits of FIPS 204. -/
def execVhighbits (pe : Nat) (o : LvuOp) (s : State) : Result :=
  .next (s.issue pe 0x24 o [o.vd, o.va] (o.aux ≤ 1))

/-- VCMP. -/
def execVcmp (pe : Nat) (o : LvuOp) (s : State) : Result :=
  .next (s.issue pe 0x28 o [o.va, o.vb] (o.aux ≤ 3))

/-- VSEL. -/
def execVsel (pe : Nat) (o : LvuOp) (s : State) : Result :=
  .next (s.issue pe 0x29 o [o.vd, o.va, o.vb] true)

/-- VANY: PANY is set when any bit of PRED is 1. -/
def execVany (pe : Nat) (o : LvuOp) (s : State) : Result :=
  .next (s.issue pe 0x2A o [] true)

/-- VPERM. -/
def execVperm (pe : Nat) (o : LvuOp) (s : State) : Result :=
  .next (s.issue pe 0x30 o [o.vd, o.va] (o.aux ≤ 1))

/-- VDEINT: the inverse of VPERM AUX 1. -/
def execVdeint (pe : Nat) (o : LvuOp) (s : State) : Result :=
  .next (s.issue pe 0x31 o [o.vd, o.va] true)

/-- LVU_RESTART (R367): the discarded instruction runs once more from the same sources; `hw` are the read errors the
checkers raise this time. -/
def execLvuRestart (pe : Nat) (hw : List (Nat × Nat)) (s : State) : Result :=
  match (s.lvu pe).restart with
  | none => .next s
  | some a =>
    let o := { a.op with hw := hw }
    let e := lvuDo a.lop a.rand o (s.lvu pe)
    .next (s.lvuEnd pe a.lop o a.rand
      { e with faults := if e.faults = [] then hwFaults hw (fun _ => 0) else e.faults } (some a))

end Sys2Proof.Machine
end

