-- ==== Sys2Proof/Machine/Queues.lean ====
section
/-!
DEFINITION. The queue commands of chapter 04: fetching entries, doorbells, tenant setup requests, fences, interrupts and
the power states of a function's queues.
-/

namespace Sys2Proof.Machine

/-! ### Fetching (R167, R170, R182 to R188) -/

/-- The pair may fetch an entry now: the module takes commands, PCIe is ready, the pair is a WORK pair that is enabled or
drains data-class entries, its SQ could be read, and there is room for its completion (R184, R188, R204). -/
def State.fetchOpen (s : State) (q : Nat) : Bool :=
  let p := s.pair q
  s.fc.mstate != .fault && s.ready 6 && s.qKind q == 0 && p.created.isSome
    && (p.enabled || (p.draining && !s.qControl q)) && !p.error && !s.inD3 p.owner && s.mayFetch q

/-- Units between head and tail. -/
def State.sqFilled (s : State) (q : Nat) : Nat :=
  let p := s.pair q
  let n := s.sqSize q
  (p.sqTail + n - p.sqHead) % n

/-- The phase of the lap the SQ head is in (R178). -/
def State.lapPhase (s : State) (q : Nat) : Bool := (s.pair q).sqLap % 2 == 0

/-- Move the SQ head past an entry; the lap counts ring wraps. -/
def State.advanceHead (s : State) (q units : Nat) : State :=
  let n := s.sqSize q
  s.onPair q fun p =>
    { p with sqHead := (p.sqHead + units) % n, sqLap := if p.sqHead + units ≥ n then p.sqLap + 1 else p.sqLap }

/-- An entry as far as a completion needs it, when its checks have failed or are not made. -/
def bareEntry (b : Bytes) : Entry := ⟨parseHeader b, 1, [], 0, 0, 0, []⟩

/-- The module fetches the entry at the SQ head of pair `q` (R167): `params` is the parameter area and `table` the
indirect fragment table as DMA reads them, `none` where they cannot be read. Mark: DESIGN CHOICE (log entry 27). -/
def execEntryFetch (q : Nat) (entry : Bytes) (params table : Option Bytes) (s : State) : Host.Outcome State Fault Refusal :=
  let fmt2 := s.qFmt2 q
  let units := entryUnits fmt2 entry
  let phase := s.qPhase q
  let valid := if phase then (s.pair q).armed && bitAt (leAt entry 8 2) 15 == s.lapPhase q
    else 0 < s.sqFilled q && units ≤ s.sqFilled q
  if !s.fetchOpen q then .next s
  else if !valid then
    .next ((s.onPair q fun p => { p with armed := false, partialEntry := !phase && 0 < s.sqFilled q }).checkIdle q)
  else
    let s1 := (s.advanceHead q units).mirror q
    let before := s1.qStatus q
    let inst := (s.pair q).owner
    let src := Source.queue q
    let s2 :=
      if (s.pair q).draining then s1.complete src inst (bareEntry entry) { status := stABORTED }
      else match parseEntry fmt2 entry params table with
        | .error st => (s1.bump aQ_REJECT_CNT q).complete src inst (bareEntry entry) { status := st }
        | .ok e => s1.accept src inst e
    .next (((s2.checkStall q).checkIdle q).mirrorIf q before)

/-- The SQ entry itself cannot be read (R170). -/
def execSqReadFailed (q : Nat) (s : State) : Host.Outcome State Fault Refusal :=
  if s.fetchOpen q ∧ (s.sqWaiting q ∨ s.qPhase q) then
    let p := s.pair q
    .next ((((s.setPair q { p with error := true }).mirror q).postEvent p.owner 4 (some q) 1 p.sqHead).checkIdle q)
  else .next s

/-- The module examines the SQ of a phase-mode pair (R181, R182): `unit` holds the 32 bytes it reads at the SQ head. -/
def execPhasePoll (q : Nat) (unit : Bytes) (s : State) : Host.Outcome State Fault Refusal :=
  let p := s.pair q
  if p.enabled ∧ s.qPhase q ∧ s.qKind q = 0 ∧ !s.inD3 p.owner ∧ !p.error then
    let before := s.qStatus q
    .next ((s.onPair q fun p => { p with armed := bitAt (leAt unit 8 2) 15 == s.lapPhase q }).mirrorIf q before)
  else .next s

/-- Every earlier entry of a fenced job's SQ has completed, and the job starts on its way (R677). -/
def execFenceRelease (j : Nat) (s : State) : Host.Outcome State Fault Refusal :=
  match s.job j with
  | some b =>
    let clear := s.jobs.all fun e => e.2.src != b.src || e.2.seqInQueue ≥ b.seqInQueue
    if b.phase = .fenced ∧ clear then
      .next (s.setJob j { b with phase := if b.isMp then .slow else .fifo })
    else .next s
  | none => .next s

/-! ### Doorbells (R174, R175) -/

/-- A write of DB_SQ_TAIL: the new tail, or a wake-up in phase mode (R182). -/
def execDbSqTail (fn pair : Nat) (v : Reg) (s : State) : Host.Outcome State Fault Refusal :=
  match s.doorPair fn pair with
  | none => .next s
  | some q =>
    let p := s.pair q
    let tail := v.toNat % 65536
    let before := s.qStatus q
    if !p.enabled then .next s
    else if s.qPhase q then .next ((s.setPair q { p with armed := true }).mirrorIf q before)
    else if tail ≥ s.sqSize q then .next (s.setPair q { p with dbErr := true })
    else .next ((s.setPair q { p with sqTail := tail, partialEntry := false }).mirrorIf q before)

/-- A write of DB_CQ_HEAD (R175): the head moves within the range up to the tail. -/
def execDbCqHead (fn pair : Nat) (v : Reg) (s : State) : Host.Outcome State Fault Refusal :=
  match s.doorPair fn pair with
  | none => .next s
  | some q =>
    let p := s.pair q
    let n := s.cqSize q
    let head := v.toNat % 65536
    let before := s.qStatus q
    if !(p.enabled || p.draining) then .next s
    else if head ≥ n ∨ (head + n - p.cqHead) % n > (p.cqTail + n - p.cqHead) % n then
      .next (s.setPair q { p with dbErr := true })
    else
      let s := (s.setPair q { p with cqHead := head }).useSpace q
      .next (((s.checkUnstall q).checkIdle q).mirrorIf q before)

/-! ### Tenant setup requests (R156) -/

/-- Store a setup word (R20), or set WR_IGNORED where the pair does not take it. -/
def State.setupWrite (s : State) (q r : Nat) (v : Reg) : State :=
  let p := s.pair q
  let w := BitVec.ofNat 32 (qMask r).1 &&& v
  if p.enabled ∨ p.draining then s.setPair q { p with wrIgnored := true }
  else s.putWide q r w fun t r w =>
    t.onPair q fun p => { p with setup := tput p.setup (dbOffset r) w (BitVec.ofNat 32 (qMask r).2) }

/-- Store a setup word and ask for a change in the next boundary guard; every setup word is taken as it stands now. -/
def State.askSetup (s : State) (q r : Nat) (v : Reg) (what : SetupRequest) : State :=
  let p := s.pair q
  let w := BitVec.ofNat 32 (qMask r).1 &&& v
  let setup := tput p.setup (dbOffset r) w (BitVec.ofNat 32 (qMask r).2)
  s.setPair q { p with setup := setup, asked := setup, requests := (p.requests.erase what) ++ [what] }

/-- The pair of a tenant's setup word: the physical function's words are read-only (R155). -/
def State.tenantPair (s : State) (fn pair : Nat) : Option Nat := if fn = 0 then none else s.doorPair fn pair

/-- A write that sets DB_CTL.ENABLE: an enable request while the pair is disabled and IDLE. -/
def execTenantEnableRequest (fn pair : Nat) (v : Reg) (s : State) : Host.Outcome State Fault Refusal :=
  match s.tenantPair fn pair with
  | none => .next s
  | some q =>
    let p := s.pair q
    if !p.enabled ∧ p.idle ∧ bitAt v.toNat 0 then .next (s.askSetup q aQ_CTL v .enable)
    else .next (s.setupWrite q aQ_CTL v)

/-- A write that clears DB_CTL.ENABLE: a disable request while the pair is enabled. -/
def execTenantDisableRequest (fn pair : Nat) (v : Reg) (s : State) : Host.Outcome State Fault Refusal :=
  match s.tenantPair fn pair with
  | none => .next s
  | some q =>
    if (s.pair q).enabled ∧ !bitAt v.toNat 0 then .next (s.askSetup q aQ_CTL v .disable)
    else .next (s.setupWrite q aQ_CTL v)

/-- A write of DB_VECTOR (`vector`) or DB_MOD: an interrupt change request while the pair is enabled. -/
def execTenantInterruptChange (fn pair : Nat) (vector : Bool) (v : Reg) (s : State) :
    Host.Outcome State Fault Refusal :=
  match s.tenantPair fn pair with
  | none => .next s
  | some q =>
    let r := if vector then aQ_VECTOR else aQ_MOD
    if (s.pair q).enabled then .next (s.askSetup q r v .interrupt)
    else .next (s.setupWrite q r v)

/-! ### Interrupts and power states (R198 to R204) -/

/-- The moderation timer of a pair has run out (R199). -/
def execModerationDue (q : Nat) (s : State) : Host.Outcome State Fault Refusal :=
  if s.timerDue q then .next (s.deliver q) else .next s

/-- The link is in L0 again: the messages that waited for it go out (R201). -/
def execLinkL0Reached (s : State) : Host.Outcome State Fault Refusal :=
  if s.pcie.link = .l1 ∨ s.pcie.link = .l12 then
    let due := s.pcie.waiting
    let s := { s with pcie := { s.pcie with link := .l0, waiting := [] } }
    .next (due.foldl (fun s x => s.fireVector x.1 x.2) s)
  else .next s

/-- Deliver the vectors of a function whose PBA bit is set (R202). Mark: PRESUMED (log entry 85). -/
def State.deliverPba (s : State) (fn : Nat) : State :=
  let due := s.pcie.pba.filter fun x => x.1 == fn
  let s := { s with pcie := { s.pcie with pba := s.pcie.pba.filter fun x => x.1 != fn } }
  due.foldl (fun s x => s.fireVector x.1 x.2) s

/-- Write what a pair held for the return to D0 (R204): its completions, then events and copies. -/
def State.releaseD3 (s : State) (q : Nat) : State :=
  let held := (s.pair q).d3
  let s := (s.flushHold q 16).onPair q fun p => { p with d3 := [] }
  let s := held.foldl (fun s e => s.placeCompletion q e) s
  let s := if s.qKind q = 1 then s.postLost q else s
  if s.qKind q = 2 then s.flushCopies q 4096 else s

/-- A function returns to D0 (R202 to R204): held completions, mirror lines, then pending interrupts. -/
def execD0Return (fn : Nat) (s : State) : Host.Outcome State Fault Refusal :=
  if s.inD3 fn then
    let s := { s with pcie := { s.pcie with d3 := s.pcie.d3.erase fn } }
    let qs := (s.pairs.filter fun e => e.2.owner == fn && e.2.created.isSome).map (·.1)
    let s := qs.foldl State.releaseD3 s
    let s := qs.foldl State.mirror s
    let s := qs.foldl State.moderate s
    let s := s.deliverPba fn
    .next (qs.foldl State.checkIdle (qs.foldl State.checkStall s))
  else .next s

/-- The host puts a function into D3hot (R204). -/
def execD3hotEntry (fn : Nat) (s : State) : Host.Outcome State Fault Refusal :=
  if s.inD3 fn ∨ s.pcie.link = .down then .next s
  else .next { s with pcie := { s.pcie with d3 := s.pcie.d3 ++ [fn] } }

/-- The host's power management puts the link into L1, or L1.2 (R201). -/
def execAspmL1Entry (l12 : Bool) (s : State) : Host.Outcome State Fault Refusal :=
  if s.pcie.link = .l0 then .next { s with pcie := { s.pcie with link := if l12 then .l12 else .l1 } }
  else .next s

end Sys2Proof.Machine
end

