-- ==== Sys2Proof/Machine/StreamOps.lean ====
section
/-!
DEFINITION. What the ports and streams share (R500 to R533): lanes and ports, sending on a lane with redundancy and
MACsec, stream keys, the order of checks, the replay and duplicate windows, events and their host copies.
-/

namespace Sys2Proof.Machine

/-! ### Lanes and ports (R500 to R504) -/

/-- A field of PT_LANEl. -/
def State.lane (s : State) (l h lo : Nat) : Nat := s.fld (aPT_LANE + 4 * l) h lo

/-- SPEED of a lane. -/
def State.speed (s : State) (l : Nat) : Nat := s.lane l 2 0

/-- The link of a lane is up; in FAULT it stays up on a lane whose FAIL_STATE is IDLE, and the transmitter of any other is
squelched (R503). -/
def State.laneLit (s : State) (l : Nat) : Bool :=
  l < 512 && s.tr.up.contains l && (s.fc.mstate != .fault || s.lane l 19 18 == 1)

/-- A lane carries frames: its link is up and the module is in SERVICE (R503, R608). -/
def State.laneUp (s : State) (l : Nat) : Bool := s.laneLit l && s.fc.mstate == .service

/-- The port code of a lane: a gang is named by its lead lane (R501). -/
def State.portOf (s : State) (l : Nat) : Nat := if s.speed l = 5 then l / 4 * 4 else l

/-- A port code that names a port: a lane, not a gang member, that is not off (R538). -/
def State.portOk (s : State) (p : Nat) : Bool := p < 512 && s.speed p != 0 && s.speed p != 5

/-- The partner lane of a PRP or HSR pair (R504). -/
def State.redPeer (s : State) (l : Nat) : Option Nat :=
  let p := s.fld (aPT_PEER + 4 * l) 9 0
  if s.lane l 17 16 ≠ 0 ∧ p < 512 then some p else none

/-- The longest frame of a port (R501). -/
def State.maxFrame (s : State) (l : Nat) : Nat := if s.lane l 7 7 = 1 then 9216 else 1536

/-! ### MACsec (R505 to R508) -/

/-- A lane runs MACsec. -/
def State.macsecOn (s : State) (l : Nat) : Bool := s.lane l 6 6 == 1

/-- MACsec on a port. -/
def State.macsecOf (s : State) (p : Nat) : Macsec := tgetD s.tr.macsec p {}

/-- Replace MACsec on a port. -/
def State.setMacsec (s : State) (p : Nat) (m : Macsec) : State :=
  { s with tr := { s.tr with macsec := tput s.tr.macsec p m {} } }

/-- The PN past which a transmit SA is exhausted, and the one that posts MACSEC_PN_LOW (R508). -/
def pnLimits (xpn : Bool) : Nat × Nat := if xpn then (2 ^ 64, 2 ^ 62) else (2 ^ 32, 0xC0000000)

/-- A frame dropped by MACsec is counted. -/
def State.macsecDrop (s : State) (l : Nat) : State := s.bump aPT_MACSEC_DROP l

/-- Protect a frame under the transmit SA of a port (R505, R508): `none` without an SA that has PNs left.
Mark: DEDUCED (log entry 56). -/
def State.protect (s : State) (l : Nat) (bytes : Bytes) : Option (Bytes × State) :=
  match (s.macsecOf l).tx with
  | none => none
  | some c =>
    match tget c.sas c.active with
    | none => none
    | some a =>
      let lim := pnLimits a.xpn
      if a.pn ≥ lim.1 then none
      else
        let out := Config.standard "IEEE802.1AE.protect" (b2n a.xpn)
          [a.key, leBytes c.sci 8, leBytes c.active 1, leBytes a.pn 8, leBytes a.ssci 4, a.salt, bytes] (bytes.length + 32)
        let low := a.pn + 1 ≥ lim.2 && !a.low
        let a' := { a with pn := a.pn + 1, low := a.low || low }
        let m := s.macsecOf l
        let s' := s.setMacsec l { m with tx := some { c with sas := tset c.sas c.active a' } }
        some (out, if low then s'.postEvent 0 0x0240 none (l + 2 ^ 16 * c.active) a'.pn else s')

/-- Screen a received SecTAG under strict validation and the replay window (R505): the state after, or `none` for a
frame that is dropped. -/
def State.unprotect (s : State) (l : Nat) (tag : Nat × Nat × Nat × Bool) : Option State :=
  let (sci, an, pn, ok) := tag
  let m := s.macsecOf l
  match m.rx.find? fun c => c.sci == sci with
  | none => none
  | some c =>
    match tget c.sas an with
    | none => none
    | some a =>
      if !ok ∨ pn + a.replay < a.pn then none
      else
        let c' := { c with sas := tset c.sas an { a with pn := max a.pn (pn + 1) } }
        some (s.setMacsec l { m with rx := m.rx.map fun x => if x.sci = sci then c' else x })

/-! ### Sending -/

/-- Send bytes on a lane: protected under MACsec where the lane runs it, dropped and counted when no SA can; nothing
leaves a lane that is down. -/
def State.sendLane (s : State) (l : Nat) (vid : Option Nat) (bytes : Bytes) : State :=
  if !s.laneUp l then s
  else if s.macsecOn l then
    match s.protect l bytes with
    | some (out, s') => (s'.emit (.frame l vid out)).bump aPT_TX_FRAMES l
    | none => s.macsecDrop l
  else (s.emit (.frame l vid bytes)).bump aPT_TX_FRAMES l

/-- A frame with its redundancy trailer or tag (R504, IEC 62439-3): LAN A, LAN B, or HSR.
Mark: PRESUMED (log entry 55). -/
def redundant (redund seq : Nat) (bytes : Bytes) : Bytes :=
  let size := bytes.length % 4096
  if redund = 3 then beBytes 0x892F 2 ++ beBytes size 2 ++ beBytes seq 2 ++ bytes
  else bytes ++ beBytes seq 2 ++ beBytes ((if redund = 1 then 0xA else 0xB) * 4096 + size) 2 ++ beBytes 0x88FB 2

/-- Send a frame from a port: on both lanes of a pair with one sequence number where `both` is set, else on the port's
own lane. Mark: PRESUMED (log entry 55). -/
def State.sendPort (s : State) (p src : Nat) (both : Bool) (vid : Option Nat) (bytes : Bytes) : State :=
  match s.redPeer p with
  | some q =>
    if both then
      let n := tgetD s.tr.seqs src 0
      let s := { s with tr := { s.tr with seqs := tput s.tr.seqs src ((n + 1) % 65536) 0 } }
      (s.sendLane p vid (redundant (s.lane p 17 16) n bytes)).sendLane q vid (redundant (s.lane q 17 16) n bytes)
    else s.sendLane p vid bytes
  | none => s.sendLane p vid bytes

/-! ### Stream contexts -/

/-- A field of ST_CLASSc. -/
def State.cls (s : State) (c h lo : Nat) : Nat := s.fld (aST_CLASS + 4 * c) h lo

/-- A GOOSE class: KIND 1 or 2. -/
def gooseKind (k : Nat) : Bool := k == 1 || k == 2

/-- One stream's context. -/
def State.stream (s : State) (id : Nat) : Option Stream := tget s.tr.streams id

/-- Replace a stream's context. -/
def State.setStream (s : State) (id : Nat) (x : Stream) : State :=
  { s with tr := { s.tr with streams := tset s.tr.streams id x } }

/-- Count one of a stream's sixteen counters, which saturate (R537). Mark: DEDUCED (log entry 53). -/
def State.countStream (s : State) (id k : Nat) : State :=
  match s.stream id with
  | none => s
  | some x => s.setStream id { x with stats := tset x.stats k (min (tgetD x.stats k 0 + 1) (2 ^ 32 - 1)) }

/-- The per-frame cycles of a class (R511). -/
def classCycles (mode len : Nat) : Nat :=
  match mode with
  | 0 => 16
  | 2 => 20 + ceilDiv len 16
  | _ => 162 + 66 * ceilDiv (len + 9) 64

/-- The per-frame occupancy of a class word, in units (R511). -/
def classUnits (w : Nat) : Nat := cyclesUnits (classCycles (bitsAt w 27 26) (bitsAt w 10 0))

/-- A class is pinned by a PIN berth of the active manifest (R81). -/
def State.pinned (s : State) (c : Nat) : Bool :=
  s.xs.active.any fun m => m.berths.any fun w => w.kind == 1 && w.owner == c && bitAt w.flags 0

/-- The pinned contexts. -/
def State.pinnedCount (s : State) : Nat := (s.tr.streams.filter fun e => s.pinned e.2.cls).length

/-- Use a context (R524): a miss is counted and the least recently used unpinned contexts leave. Before DDR sets the cache holds
every context and none leaves (R642). -/
def State.touchContext (s : State) (id : Nat) (x : Stream) : State :=
  if s.pinned x.cls then s
  else
    let hit := s.tr.cache.contains id || !s.ready 4
    let all := id :: s.tr.cache.erase id
    let s := { s with tr := { s.tr with cache := if s.ready 4 then all.take (65536 - s.pinnedCount) else all } }
    if hit then s else (s.bump aST_CACHE_MISS 0).countStream id 11

/-- The stream a frame of a port belongs to (R502, R513). Mark: DEDUCED (log entry 54). -/
def State.classify (s : State) (p : Nat) (f : Frame) : Option (Nat × Stream) :=
  let ports := p :: (s.redPeer p).toList
  s.tr.streams.find? fun e =>
    let x := e.2
    ports.contains x.inPort && x.addr == f.dst && x.appid == f.appid && (x.vid == 0xFFFF || x.vid == f.vid)
      && f.routable == (s.cls x.cls 30 28 ≥ 2)

/-! ### Stream SEs and their FIFOs (R527 to R529) -/

/-- Items a flight holds in the ingress FIFO of an SE. Mark: DEDUCED (log entry 52). -/
def State.seItems (s : State) (se : Nat) : Nat := ((s.tr.flights.filter fun e => e.2.se == se).map fun e => e.2.items).sum

/-- The SEs that may take a frame of a class in a cluster: those of a berth of the class, else every one that serves
streams. Mark: DEDUCED (log entry 52). -/
def State.streamSes (s : State) (cluster c : Nat) : List Nat :=
  let free := ((List.range 10).filter fun i => !bitAt (s.fld (aPT_CL_CTL + 4 * cluster) 9 0) i).map (10 * cluster + ·)
  let free := free.filter fun i => !(s.eng (engKey 7 i)).oos
  let named := free.filter fun i =>
    s.xs.active.any fun m => m.berths.any fun w => w.kind == 1 && w.cls == 7 && w.owner == c && bitAt w.mask i
  if named = [] then free else named

/-- The stream-class berth that runs on an SE. -/
def State.seBerth (s : State) (se : Nat) : Option Berth :=
  ((s.eng (engKey 7 se)).berth.bind s.berthOf).filter fun w => w.kind == 1

/-- An SE may start a frame of a class now (R77, R78): no berth of another owner reserves it, unlent, and a berth of the class
has budget left. -/
def State.seOpen (s : State) (c se : Nat) : Bool :=
  match s.seBerth se with
  | none => true
  | some w => if w.owner == c then s.budgetLeft w se else s.lends w

/-- The SE that takes a frame: the first that may start it now, else the first at all, with credits for all its items, 48 of
each FIFO being kept for classes that hold a berth on it (R528). Mark: DEDUCED (log entry 52). -/
def State.takeSe (s : State) (cluster c items : Nat) : Option Nat :=
  let room := (s.streamSes cluster c).filter fun i =>
    let holds := s.xs.active.any fun m => m.berths.any fun w => w.kind == 1 && w.cls == 7 && w.owner == c && bitAt w.mask i
    s.seItems i + items ≤ (if holds then 128 else 80)
  (room.find? (s.seOpen c)).or room.head?

/-- A frame counts against the budget of its class's berth on the SE (R78). -/
def State.countFrame (s : State) (c se : Nat) : State :=
  match s.seBerth se with
  | none => s
  | some w =>
    if w.owner ≠ c then s
    else
      let r := s.run w.id
      s.setRun w.id { r with started := tset r.started (engKey 7 se) (tgetD r.started (engKey 7 se) 0 + 1) }

/-! ### Windows (R518, R519) -/

/-- Judge a counter modulo `w` against a window whose map bit b stands for `high` − b − 1 + `self` (`self` is 1 where the
map covers the highest counter itself): the window after, or `none` for a REPLAY. Mark: DEDUCED (log entry 54). -/
def judgeCounter (w span : Nat) (self : Bool) (x : Window) (c : Nat) : Option Window :=
  let d := (c + w - x.high % w) % w
  let b := (x.high + w - c % w) % w
  let k := b2n self
  if 1 ≤ d ∧ 2 * d < w then
    some { x with high := c, map := (if d > 64 then 0 else x.map * 2 ^ d % 2 ^ 64) ||| (if self then 1 else
      if d ≤ 64 then 2 ^ (d - 1) else 0) }
  else if 1 ≤ b ∧ b ≤ span ∧ !bitAt x.map (b + k - 1) then some { x with map := x.map ||| 2 ^ (b + k - 1) }
  else none

/-- Judge a frame against its stream's window (R518): `none` for a REPLAY, else the window after and whether the frame
starts a new state. -/
def judgeFrame (goose : Bool) (wrap : Nat) (x : Window) (f : Frame) : Option (Window × Bool) :=
  if !goose then
    if !x.started then some ({ started := true, high := f.smpCnt % wrap }, false)
    else (judgeCounter wrap 64 false x (f.smpCnt % wrap)).map fun w => (w, false)
  else if !x.started then some ({ started := true, stNum := f.stNum, high := f.sqNum, map := 1 }, false)
  else
    let d := (f.stNum + 2 ^ 32 - x.stNum) % 2 ^ 32
    if d = 0 then (judgeCounter (2 ^ 32) 63 true x f.sqNum).map fun w => (w, false)
    else if d < 2 ^ 31 then some ({ started := true, stNum := f.stNum, high := f.sqNum, map := 1 }, true)
    else none

/-- A redundancy number is marked already (R519). Mark: DEDUCED (log entry 54). -/
def Stream.seen (x : Stream) (src n : Nat) : Bool :=
  match tget x.marks src with
  | none => false
  | some (h, m) =>
    let b := (h + 65536 - n % 65536) % 65536
    b < 64 && bitAt m b

/-- Mark a redundancy number. -/
def Stream.mark (x : Stream) (src n : Nat) : Stream :=
  let n := n % 65536
  match tget x.marks src with
  | none => { x with marks := tset x.marks src (n, 1) }
  | some (h, m) =>
    let d := (n + 65536 - h) % 65536
    let b := (h + 65536 - n) % 65536
    let v := if b < 64 then (h, m ||| 2 ^ b)
      else if d < 32768 then (n, (if d < 64 then m * 2 ^ d % 2 ^ 64 else 0) ||| 1) else (h, m)
    { x with marks := tset x.marks src v }

/-! ### Keys and authentication (R511, R514) -/

/-- The key a stream's MODE asks for (R443, R514): counted uses do not apply (R444). Mark: DEDUCED (log entry 53). -/
def streamNeed (mode handle : Nat) : KeyNeed :=
  if mode = 3 then { handle := handle, types := [0x23], policy := [4, 19], counted := false }
  else { handle := handle, types := if mode = 1 then [4] else [2], lens := if mode = 1 then [] else [32],
         policy := [3, 9, 22], counted := false }

/-- The handle a frame is authenticated under: current or next, by the key identifier it carries; `none` when it carries
neither. A frame that is to be protected uses the current key. Mark: DEDUCED (log entry 53). -/
def Stream.keyFor (x : Stream) (f : Frame) : Option Nat :=
  if x.protect then some x.key
  else match x.keyIds with
    | none => some x.key
    | some (a, b) => if f.keyId = a then some x.key else if f.keyId = b ∧ x.nextKey ≠ 0 then some x.nextKey else none

/-- The length of an authentication value. -/
def tagLen (mode trunc : Nat) : Nat :=
  if mode = 2 then (if trunc = 0 then 8 else 16) else if trunc = 0 then 10 else if trunc = 1 then 16 else 32

/-- The authentication value of a frame under HMAC or GMAC. -/
def streamTag (mode trunc : Nat) (key body : Bytes) : Bytes :=
  if mode = 1 then (hmac sha256 64 key body).take (tagLen 1 trunc)
  else Config.standard "IEC62351-6.gmac" trunc [key, body] (tagLen 2 trunc)

/-! ### Flights -/

/-- One stream frame inside the module. -/
def State.flight (s : State) (ev : Nat) : Option Flight := tget s.tr.flights ev

/-- Replace a flight. -/
def State.setFlight (s : State) (ev : Nat) (f : Flight) : State :=
  { s with tr := { s.tr with flights := tset s.tr.flights ev f } }

/-- Take a flight away; its items leave the FIFO and their credits return. -/
def State.dropFlight (s : State) (ev : Nat) : State := { s with tr := { s.tr with flights := tdel s.tr.flights ev } }

/-- The causes of R516 that a failure policy handles, with the stream counters of R537. -/
inductive Cause where
  | oversize | keyStale | noKey | authFail | replay
  deriving DecidableEq, Repr

/-- Count a cause. -/
def State.countCause (s : State) (id : Nat) (c : Cause) : State :=
  match c with
  | .oversize => s.countStream id 8
  | .keyStale => (s.countStream id 6).bump aST_STALE_FAIL 0
  | .noKey => (s.countStream id 7).bump aST_STALE_FAIL 0
  | .authFail => (s.countStream id 2).bump aST_AUTH_FAIL 0
  | .replay => (s.countStream id 3).bump aST_REPLAY 0

/-- A frame meets a cause (R517): the stream's failure policy decides. -/
def State.frameFail (s : State) (ev : Nat) (c : Cause) : State :=
  match s.flight ev with
  | none => s
  | some f =>
    let x := f.ctx
    let s := s.countCause f.stream c
    if x.policy = 0 then (s.countStream f.stream 10).setFlight ev { f with stage := .egress, drop := true }
    else if x.policy = 1 then
      ((s.countStream f.stream 9).bump aST_FLAGGED 0).setFlight ev { f with stage := .egress, flagged := true }
    else s.setFlight ev { f with stage := .egress }

/-- The policy that signs the events of a stream (R520): the lowest that names it. Mark: DEDUCED (log entry 57). -/
def State.policyOf (s : State) (id : Nat) : Option (Nat × EventPolicy) :=
  s.tr.policies.find? fun e => e.2.sources.contains id

/-- The stamp `n` crossings after one. -/
def stampAfter (rate : Nat) (t : Stamp) (n : Nat) : Nat :=
  (⟨t.sec + (t.idx + n) / rate, (t.idx + n) % rate⟩ : Stamp).bits

/-- A job of instance 0 that the stream path issues. -/
def State.streamJob (s : State) (ev opcode handle : Nat) (params : List Tlv) (policy : Option Nat) (deadline : Nat)
    (dataLen : Nat) : Nat × State :=
  s.addJob { src := .event ev, inst := 0, opcode := opcode, tag := 0, major := 2, minor := 2, flags := 0,
             handle := handle, deadline := deadline, params := params, paramLen := (params.map tlvSize).sum,
             resultCap := 65536, resultAddr := 0, dataLen := dataLen, frags := [], order := s.nextJob, seqInQueue := 0,
             phase := .fifo, policy := policy, seCtl := s.reg aSE_CTL, deCtl := s.reg aDE_CTL }

/-- A new state of a source stream is an event (R521): it is held while its policy's berth signs it.
Mark: DEDUCED (log entry 57). -/
def State.startEvent (s : State) (ev : Nat) (f : Flight) (p : Nat) (pol : EventPolicy) : State :=
  let ctx : Tlv := ⟨0x0056, asciiBytes "KRYTORATI-SEVT-1" 16⟩
  let params := if pol.combo ≠ 0 then [⟨0x005A, leBytes pol.second 8⟩, ⟨0x005B, leBytes pol.combo 1⟩, ctx]
    else [⟨0x0050, leBytes pol.pset 2⟩, ctx]
  let dl := stampAfter s.tb.rate s.tb.stamp pol.limit
  let r := s.streamJob ev (if pol.combo ≠ 0 then opCOMPOSITE_SIGN else opMLDSA_SIGN) pol.key params (some p) dl
    (f.frame.body.length + 38)
  r.2.setFlight ev { f with stage := .event r.1, items := 0, policy := p, inst := pol.inst, lateDrop := pol.lateDrop,
                            limit := pol.limit, arrived := s.tb.crossings }

/-- Steps 6 and 7 of R516 for a frame whose authentication passed or was computed. -/
def State.frameAccept (s : State) (ev : Nat) (auth : Bytes) : State :=
  match s.flight ev with
  | none => s
  | some f =>
    let x := (s.stream f.stream).getD f.ctx
    let goose := gooseKind (s.cls x.cls 30 28)
    let j := judgeFrame goose x.wrap x.window f.frame
    if j.isNone ∧ !f.ctx.protect then s.frameFail ev .replay
    else
      let w := match j with
        | some (w, _) => w
        | none => x.window
      let x := { x with window := w }
      let x := match f.frame.seqTag, s.redPeer f.frame.lane with
        | some n, some _ => x.mark f.frame.src n
        | _, _ => x
      let f := { f with stage := .egress, auth := auth }
      let s := if (s.stream f.stream).isSome then s.setStream f.stream x else s
      let s := s.setFlight ev f
      match j, s.policyOf f.stream with
      | some (_, true), some (p, pol) => s.startEvent ev f p pol
      | _, _ => s

/-- Step 5 of R516 for RSA2007: the SE's digest goes to a BNE as best-effort work or berth work (R518). -/
def State.frameRsa (s : State) (ev : Nat) (f : Flight) (x : Stream) (handle : Nat) : State :=
  let digest : Tlv := ⟨0x0057, leBytes 1 2 ++ sha256 f.frame.body⟩
  let pad : Tlv := ⟨0x0087, [1]⟩
  let r := if x.protect then s.streamJob ev opRSA_PRIVATE handle [digest, pad] none 0 0
    else s.streamJob ev opRSA_PUBLIC 0
      [⟨0x0055, f.frame.tag⟩, digest, ⟨0x0081, x.pub⟩, ⟨0x0084, beBytes 65537 3⟩, pad] none 0 0
  r.2.setFlight ev { f with stage := .bne r.1, items := 0 }

/-- The key of a frame lies in its SE's key cache, or the gangway is asked for it (R34, R35): first for a frame in a berth of
its class, else as a load for a stream SE. Mark: DESIGN CHOICE (log entry 93). -/
def State.loadSe (s : State) (f : Flight) (h : Nat) : State :=
  let k := engKey 7 f.se
  let x := s.slot (hSlot h)
  let key : LoadedKey := { slot := hSlot h, gen := x.gen, inst := x.inst, value := x.val }
  if (s.eng k).keys.contains key || s.ks.gangway.any (fun t => t.engine == k && t.key == key) then s
  else s.askKeys (if (s.seBerth f.se).any fun w => w.owner == f.ctx.cls then 1 else 2) k 0 [key]

/-- Steps 1 to 7 of R516 for flight `ev`. -/
def State.frameChecks (s : State) (ev : Nat) (f : Flight) (x : Stream) : State :=
  let fr := f.frame
  let id := f.stream
  let mode := s.cls x.cls 27 26
  if fr.declaredLen ≠ fr.receivedLen then
    ((s.countStream id 5).bump aST_LEN_MISMATCH 0).setFlight ev { f with drop := true }
  else if fr.authLen > s.cls x.cls 10 0 then s.frameFail ev .oversize
  else if (fr.seqTag.any fun n => x.seen fr.src n) ∧ (s.redPeer fr.lane).isSome then
    ((s.countStream id 4).bump aST_DUPLICATE 0).setFlight ev { f with drop := true }
  else if mode = 0 then s.frameAccept ev []
  else if mode = 3 ∧ !x.protect then s.frameRsa ev f x 0
  else match x.keyFor fr with
    | none => s.frameFail ev .noKey
    | some h =>
      match s.refusal 0 (streamNeed mode h) with
      | some st => s.frameFail ev (if st = stKEY_STALE then .keyStale else .noKey)
      | none =>
        if mode = 3 then s.frameRsa ev f x h
        else
          let s := s.loadSe f h
          let tag := streamTag mode (s.cls x.cls 25 24) (s.slot (hSlot h)).val fr.body
          if x.protect then s.frameAccept ev tag
          else if fr.tag = tag then s.frameAccept ev []
          else s.frameFail ev .authFail

/-! ### Leaving -/

/-- The bytes of a frame as it leaves, with the authentication value it carries or was given. -/
def Flight.bytes (f : Flight) : Bytes := f.frame.body ++ f.frame.tag ++ f.auth

/-- A frame leaves on its stream's egress port (R504, R517). -/
def State.sendFlight (s : State) (f : Flight) (bytes : Bytes) : State :=
  let x := f.ctx
  let vid := if f.flagged then some x.flagVid else none
  (s.sendPort x.outPort f.frame.src (x.protect || f.signed) vid bytes).countStream f.stream 1

/-- The signed-event value as a private element of the security extension (R522). -/
def signedElement (f : Flight) : Bytes :=
  let v := f.head ++ f.signature
  [0xF1] ++ beBytes v.length 2 ++ v

/-- A host copy of a signed frame (R195 to R197): written, held, or dropped and counted; without a SIGNED_EVENT pair
nothing happens. Its LOST is the count when the copy is made; a pair that exists and is disabled holds it.
Mark: DESIGN CHOICE (log entry 111). -/
def State.postCopy (s : State) (inst stream lane : Nat) (frame : Bytes) : State :=
  match s.signedPair inst with
  | none => s
  | some q =>
    let p := s.pair q
    let c : SignedCopy := { seq := p.copySeq, stream := stream, lane := lane, lost := p.copyLost, stamp := s.tb.stamp,
                            ns := s.tb.ns, frame := frame }
    let s := s.setPair q { p with copySeq := (p.copySeq + 1) % 2 ^ 32 }
    if p.enabled ∧ p.copies = [] ∧ s.cqFree q ≠ 0 ∧ !s.inD3 p.owner then ((s.writeCopy q c).mirror q).moderate q
    else if p.copies.length < 4096 then s.onPair q fun p => { p with copies := p.copies ++ [c] }
    else (s.onPair q fun p => { p with copyLost := min (p.copyLost + 1) (2 ^ 32 - 1) }).mirror q

/-- The LATE action on an event (R521). Mark: DEDUCED (log entry 57). -/
def State.lateEvent (s : State) (ev : Nat) : State :=
  match s.flight ev with
  | none => s
  | some f =>
    let s := ((s.bump aST_EVT_UNSIGNED 0).countStream f.stream 13).dropFlight ev
    if f.lateDrop then s else s.sendFlight f f.bytes

/-- A job of the stream path has ended: its outcome goes to its frame (R516 step 5, R518, R521). -/
def State.flightOutcome (s : State) (ev : Nat) (e : Ending) : State :=
  match s.flight ev with
  | none => s
  | some f =>
    let value := ((e.results.head?).map (·.val)).getD []
    match f.stage with
    | .event _ =>
      if e.status = stDONE then s.setFlight ev { f with signature := value, signed := true } else s.lateEvent ev
    | .bne _ =>
      if e.status = stDONE then s.frameAccept ev (if f.ctx.protect then value else [])
      else if e.status = stFAULT_CONTAINED then
        (s.bump aFC_FRAME_DROP 0).setFlight ev { f with stage := .egress, drop := true }
      else s.frameFail ev (if e.status = stKEY_STALE then .keyStale
        else if [stKEY_ABSENT, stKEY_POLICY].contains e.status then .noKey else .authFail)
    | .egress => s

end Sys2Proof.Machine
end

