-- ==== Sys2Proof/Machine/Jobs.lean ====
section
/-!
DEFINITION. The life of a job: the grant, the end and its completion, deadlines, MP command starts, and the berths and
preemptions around them (chapters 02, 03 and 04).
-/

namespace Sys2Proof.Machine

/-- JOB_GRANT (R91, R78, R121 step 9, R446). -/
def execJobGrant (cls : EngClass) (eng : Nat) (s : State) : Result := .next (s.grant (classCode cls) eng)

/-- MP_COMMAND_START (R133, R138): lockstep pair 0 takes the oldest waiting command while it runs fewer than 4; one of a
quiescing or quiesced instance completes ABORTED (R554). Mark: DEDUCED (log entry 28). -/
def execMpCommandStart (s : State) : Result :=
  let running := (s.jobsWhere fun b => b.isMp && b.phase == .running).length
  if s.mp.state ≠ .run ∨ running ≥ 4 ∨ s.fc.mstate = .fault then .next s
  else
    let waiting := s.jobs.filter fun e => e.2.phase == .slow
    match (waiting.map fun e => e.2.order).min?.bind fun o => waiting.find? fun e => e.2.order == o with
    | none => .next s
    | some (j, b) =>
      let x := tgetD s.insts b.inst {}
      if s.deadlinePassed b then .next (s.failJob j stDEADLINE_MISSED)
      else if b.inst ≠ 0 ∧ (x.state = .quiescing ∨ x.state = .quiesced) then .next (s.failJob j stABORTED)
      else .next (s.setJob j { b with phase := .running, started := true, start := s.tb.stamp, startUp := s.now, startNs := s.tb.ns })

/-- DEADLINE_MISSED (R133): a job that has not started when the stamp reaches its deadline.
Mark: DESIGN CHOICE (log entry 9). -/
def execDeadlineMissed (j : Nat) (s : State) : Result :=
  match s.job j with
  | none => .next s
  | some b =>
    if (b.phase = .fifo ∨ b.phase = .fenced ∨ b.phase = .slow) ∧ b.ending.isNone ∧ s.deadlinePassed b = true then
      .next (s.failJob j stDEADLINE_MISSED)
    else .next s

/-! ### The end of a job (R131, R172) -/

/-- The JOBS counter of an engine class. -/
def jobsCounter : Nat → Option Nat
  | 1 => some aPE_JOBS | 2 => some aME_JOBS | 3 => some aCE_JOBS | 4 => some aBN_JOBS | 5 => some aSE_JOBS
  | 6 => some aDE_JOBS | _ => none

/-- A fragment of a job that could not be read or written over PCIe ends it FRAGMENT_FAULT and is reported as PCIE_UNCORR
(R675); one of a job that did not get as far as its data has no effect. -/
def State.fragFault (s : State) (j : Nat) (b : Job) (dmaFault : Option Nat) : State :=
  match dmaFault.bind fun n => b.frags[n]? with
  | none => s
  | some f =>
    if b.ending.any fun e => e.status == stDONE || e.status == stVERIFY_FAIL then
      (s.failJob j stFRAGMENT_FAULT).raise
        { source := 0x470, access := if f.out then 8 else 7, kind := 0x61, master := 3, address := f.addr, fatal := false }
    else s

/-- What the engine's own checks and DMA met at the end of a job: a failed result check re-executes the job and is counted
and reported as masked; a second failure is CONTAINED too (R257, R297, R322, R351, R392); a failed fragment access ends the
job FRAGMENT_FAULT (R675). -/
def State.endChecks (s : State) (j : Nat) (b : Job) (cls i failedChecks : Nat) (dmaFault : Option Nat) : State :=
  let s := if failedChecks ≥ 1 then
      let s := match engCounter cls true with
        | some c => s.bump c i
        | none => s
      (s.onJob j fun b => { b with retried := true }).raiseEng cls i 0x10 (s.microAddress cls i)
    else s
  if failedChecks ≥ 2 then (s.failJob j stFAULT_CONTAINED).raiseEng cls i 0x11 (s.microAddress cls i) else s.fragFault j b dmaFault

/-- A running data-class job of a pair that is draining stops (R184). -/
def State.drainAborts (s : State) (b : Job) : Bool :=
  match b.src with
  | .queue q => (s.pair q).draining && !s.qControl q && b.preemptAsked && !b.isMp
  | _ => false

/-- What takes effect only when a job ends DONE (R131, R215, R447), or returns when it does not. -/
def State.settleEnd (s : State) (b : Job) (e : Ending) : State :=
  if b.discard then b.approved.foldl State.unpend s
  else
    let s := if (e.status = stDONE ∨ e.status = stVERIFY_FAIL) ∧ e.ctx ≠ .keep then s.setCtx b e.ctx else s
    if e.status = stDONE then
      let s := if e.bind ≠ 0 then s.bindSlot b.handle e.bind else s
      let s := if e.sealSize ≠ 0 then s.sealKey (hSlot b.handle) (hGen b.handle) b.inst e.sealSize else s
      match e.secret, b.destSlot with
      | some v, some d => s.fillDest d v
      | _, some d => s.unpend d
      | _, none => s
    else b.approved.foldl State.unpend s

/-- The counters of a job that ends on an engine. -/
def State.countEnd (s : State) (b : Job) (e : Ending) (cls i : Nat) : State :=
  let s := match jobsCounter cls with
    | some c => s.bump c i
    | none => s
  let s := if b.policy.isSome ∧ b.start ≠ s.tb.stamp then s.bump aPE_EVT_SPAN 0 else s
  if cls = 4 ∧ (e.status = stABORTED ∨ e.status = stFAULT_CONTAINED) then s.bump aBN_ABORT_WIPES i else s

/-- The end of a job on an engine: checks, effects, counters, and the release of its engines. -/
def State.endOnEngine (s : State) (j : Nat) (b : Job) (cls i failedChecks : Nat) (dmaFault : Option Nat) : State :=
  let seat := b.lastSeat cls i
  let s := s.endChecks j b seat.1 seat.2 failedChecks dmaFault
  let s := if s.drainAborts b then s.failJob j stABORTED else s
  match s.job j with
  | none => s
  | some b =>
    match b.ending with
    | none => s
    | some e =>
      let s := s.settleEnd b e
      let s := s.countEnd b e cls i
      let verify := (opInfo b.opcode).any fun o => o.isVerdict b.params
      let s := (b.engines ++ b.half.toList).foldl (fun s k => s.freeEngine j k verify) (s.dropContext j)
      s.chargeScratch b.inst 0 b.runScratch

/-- The end of a job that no engine runs. -/
def State.endPlain (s : State) (b : Job) (e : Ending) : State :=
  let s := if b.cls = 1 ∧ e.status = stRNG_UNAVAILABLE then s.bump aPE_RNG_STARVE 0 else s
  if b.engine.isSome then s.settleEnd b e else s

/-- A job that has ended leaves: its completion is written, or its outcome goes to the frame it works for. -/
def State.leave (s : State) (j : Nat) : State :=
  match s.job j with
  | none => s
  | some b =>
    let s := if b.revoked then s.bump aKS_REVOKED_DURING 0 else s
    match b.src, b.ending with
    | .event ev, some e => ((s.dropJob j).flightOutcome ev e).sweepPeers
    | _, _ => (s.finish j).sweepPeers

/-- The end of a job that no engine runs: what DMA met, its effects, and its completion. -/
def State.endWithout (s : State) (j : Nat) (b : Job) (dmaFault : Option Nat) : State :=
  let s := s.fragFault j b dmaFault
  match (s.job j).bind (·.ending) with
  | some e => (s.endPlain b e).leave j
  | none => s.leave j

/-- JOB_COMPLETE (R131, R172): a job whose outcome is known ends at `ns`.
Mark: DEDUCED (log entry 89), DESIGN CHOICE (log entry 27). -/
def execJobComplete (j ns failedChecks : Nat) (dmaFault : Option Nat) (s : State) : Result :=
  let s := (s.at_ ns).gangServe 16
  match s.job j with
  | none => .next s
  | some b =>
    match b.phase, b.ending with
    | .ended, some _ =>
      if b.interrupted then .next s
      else match b.engine with
      | some (cls, i) =>
        if b.noEngine then .next (s.endWithout j b dmaFault)
        else .next ((s.endOnEngine j b cls i failedChecks dmaFault).leave j)
      | none => .next (s.endWithout j b dmaFault)
    | _, _ => .next s

/-! ### Berths (R76 to R80) -/

/-- The engines of a berth, as keys. -/
def Berth.engKeys (w : Berth) : List Nat :=
  ((List.range (classSize w.cls)).filter (bitAt w.mask)).map (engKey w.cls)

/-- Ask the best-effort job on an engine to stop at its next preemption point (R95); PEs and stream SEs are never cut in
on (R96). -/
def State.cutInOn (s : State) (k : Nat) : State :=
  if k / 64 = 1 ∨ k / 64 = 7 then s
  else match (s.eng k).busy with
    | some j => s.onJob j fun b => if b.berth.isNone then { b with preemptAsked := true } else b
    | none => s

/-- BERTH_LEAD_IN (R76): the engines start no best-effort job and cut in on the one they run. -/
def execBerthLeadIn (berth : Nat) (s : State) : Result :=
  match s.berthOf berth with
  | none => .next s
  | some w =>
    if w.cls = 1 ∨ w.cls = 7 then .next s
    else .next (w.engKeys.foldl (fun s k => (s.onEng k fun e => { e with leadIn := some berth }).cutInOn k) s)

/-- BERTH_START (R77, R78): the berth holds its engines and the owner's ready jobs start in arrival order. -/
def execBerthStart (berth : Nat) (s : State) : Result :=
  match s.berthOf berth with
  | none => .next s
  | some w =>
    let s := (s.at_ (w.start * 128)).setRun berth { running := true }
    let s := w.engKeys.foldl (fun s k => s.onEng k fun e => { e with berth := some berth, leadIn := none }) s
    .next (w.engKeys.foldl (fun s k => s.grant w.cls (k % 64)) s)

/-- BERTH_END (R78, R79): the engines return to best-effort work; a job still running has run into the tail.
Mark: DESIGN CHOICE (log entry 9). -/
def execBerthEnd (berth : Nat) (s : State) : Result :=
  match s.berthOf berth with
  | none => .next s
  | some w =>
    let s := s.at_ ((w.start + w.len) * 128)
    let late := s.jobsWhere fun b => b.berth == some berth && b.phase == .running
    let s := s.bumpBy aXS_TAIL_CNT 0 late.length
    let s := s.setRun berth { s.run berth with running := false }
    .next (w.engKeys.foldl (fun s k => s.onEng k fun e => if e.berth = some berth then { e with berth := none } else e) s)

/-- OWNER_ARRIVAL_LENT (R80, R95): owner work arriving in lent time cuts in on one of the berth's engines that runs
best-effort work and has not been asked yet, unless one that can take the work is idle. -/
def execOwnerArrivalLent (berth j : Nat) (s : State) : Result :=
  match s.berthOf berth with
  | none => .next s
  | some w =>
    if !(s.run berth).running ∨ !s.lends w ∨ !(s.ownerJobs w).any (fun e => e.1 == j)
        ∨ w.engKeys.any (fun k => s.engUsable w.cls (k % 64) && s.budgetLeft w (k % 64)) then .next s
    else
      let lent := w.engKeys.filter fun k => s.budgetLeft w (k % 64)
        && ((s.eng k).busy.bind s.job).any fun b => b.berth.isNone && b.phase == .running && !b.preemptAsked
      match lent with
      | [] => .next s
      | k :: _ => .next (s.cutInOn k)

/-! ### Preemption (R92, R95 to R101) -/

/-- Another instance waits for an engine. Mark: DEDUCED (log entry 28). -/
def State.othersWait (s : State) (cls i inst : Nat) : Bool :=
  s.jobs.any fun e => e.2.inst != inst && (s.candidate e.2 cls i || (s.eng (engKey cls i)).saved.contains e.1)

/-- The job of an engine reaches a preemption point: a data-class job that a disable or a reset stops ends here; a
requested cut-in or an expired quantum with another instance waiting saves its context. Mark: DEDUCED (log entry 28). -/
def State.preemptPoint (s : State) (cls i : Nat) : State :=
  if cls = 1 ∨ cls = 7 then s
  else match (s.eng (engKey cls i)).busy with
    | none => s
    | some j =>
      match s.job j with
      | none => s
      | some b =>
        if b.phase ≠ .running ∨ b.wait ≠ .no then s
        else if b.half.isNone ∧ (s.drainAborts b ∨ b.discard ∧ b.preemptAsked) then s.failJob j stABORTED
        else if b.preemptAsked then s.saveContext cls i false
        else if b.quantumOver ∧ s.othersWait cls i b.inst then s.saveContext cls i true
        else s

/-- PREEMPTION_POINT (R95, R97). -/
def execPreemptionPoint (cls : EngClass) (eng : Nat) (s : State) : Result := .next (s.preemptPoint (classCode cls) eng)

/-- QUANTUM_EXPIRY (R92): from now on the best-effort job is switched out once another instance waits. -/
def execQuantumExpiry (cls : EngClass) (eng : Nat) (s : State) : Result :=
  let c := classCode cls
  if c = 1 ∨ c = 7 then .next s
  else match (s.eng (engKey c eng)).busy with
    | some j => .next (s.onJob j fun b =>
        if b.berth.isNone ∧ s.passed b.grantUp (s.reg aXS_QUANTUM) then { b with quantumOver := true } else b)
    | none => .next s

end Sys2Proof.Machine
end

