-- ==== Sys2Proof/Machine/Sessions.lean ====
section
/-!
DEFINITION. Administration opcodes, the management sessions and the console, and the states of the management processor
(chapter 03).
-/

namespace Sys2Proof.Machine

/-! ### Administration opcodes (R122 to R126, R148) -/

/-- End an MP command DONE with results, unless its queue's result buffer cannot hold them (R169). -/
def Job.doneFit (b : Job) (results : List Tlv) : Ending :=
  match b.src with
  | .queue _ => if b.resultCap < (tlvsBytes results).length then failed stLIMIT_EXCEEDED else done results
  | _ => done results

/-- The highest supported version in a range (R122). -/
def chooseVersion (lo hi : Nat × Nat) : Option (Nat × Nat) :=
  (versionsSupported.filter fun v => versionGe v lo && versionGe hi v).getLast?

/-- HELLO (R122 to R126): the completion is written in the chosen version, and the channel takes it then; HOST_ID goes to
the audit log. Mark: DESIGN CHOICE (log entry 99). -/
def execHello (j : Nat) (s : State) : Result :=
  match s.job j with
  | none => .next s
  | some b =>
    if b.opcode = opHELLO ∧ b.phase = .running ∧ b.wait = .no then
      let r := b.val 0x0010
      let host := b.val 0x0011
      if b.has 0x0011 ∧ (host.length < 1 ∨ host.length > 64) then .next (s.failJob j stMALFORMED)
      else match chooseVersion (leAt r 0 1, leAt r 1 1) (leAt r 2 1, leAt r 3 1) with
      | none => .next (s.endJob j (failed stVERSION_UNSUPPORTED))
      | some v =>
        let b := { b with major := v.1, minor := v.2 }
        let s := if b.has 0x0011 then { s with fc := { s.fc with audit := s.fc.audit ++ [⟨b.inst, s.tb.stamp, s.tb.ns, host⟩] } } else s
        .next ((s.setJob j b).endJob j (b.doneFit [⟨0x0012, leBytes v.1 1 ++ leBytes v.2 1⟩, ⟨0x0013, [2, 2]⟩]))
    else .next s

/-- An opcode would pass steps 3 and 4 of R121 for the issuer of a job. -/
def State.mayIssue (s : State) (b : Job) (n : Nat) : Bool :=
  match opInfo n with
  | none => false
  | some o => s.opcodeOk o (b.major, b.minor) && s.issuerOk o b.src b.inst false

/-- OPCODE_MAP (R148). -/
def State.opcodeMap (s : State) (b : Job) : Bytes :=
  let ns := (opTable.map (·.code)).filter (s.mayIssue b)
  ns.foldl (fun m n => m.set (n / 8) (m.getD (n / 8) 0 ||| BitVec.ofNat 8 (2 ^ (n % 8)))) (zeros 8192)

/-- The order code of the module. -/
def State.orderCode (s : State) : String := if s.pw.variant = 1 then "KQM-5120-UC" else "KQM-5120-UA"

/-- CAPS (R148). -/
def execCaps (j : Nat) (s : State) : Result :=
  runJob s j opCAPS fun s b =>
    (s, b.doneFit
      [⟨0x0020, [0x42, 0x31]⟩,
       ⟨0x0021, leBytes s.mp.fw.1 1 ++ leBytes s.mp.fw.2.1 1 ++ leBytes s.mp.fw.2.2 2⟩,
       ⟨0x0022, [2, 2]⟩, ⟨0x0023, s.opcodeMap b⟩, ⟨0x0024, fitBytes s.pw.serial 16⟩,
       ⟨0x0025, asciiBytes s.orderCode 12⟩])

/-- The STATE field of MP_STATE. -/
def mpStateCode : MpState → Nat
  | .boot => 0 | .run => 1 | .restart => 2 | .halted => 3

/-- READY_QUERY (R148). -/
def execReadyQuery (j : Nat) (s : State) : Result :=
  runJob s j opREADY_QUERY fun s b =>
    (s, b.doneFit [⟨0x0030, leBytes s.pw.ready.toNat 4⟩, ⟨0x0031, leBytes (mpStateCode s.mp.state) 1⟩])

/-- FW_STATUS (R148): a cluster that runs no pack yet reports format 0 and identifier 0, a value R148 does not list.
Mark: DESIGN CHOICE (log entry 72). -/
def execFwStatus (j : Nat) (s : State) : Result :=
  runJob s j opFW_STATUS fun s b =>
    let image := fun (l v st : Nat) => (⟨0x0040, leBytes l 1 ++ leBytes v 4 ++ leBytes st 1⟩ : Tlv)
    let code := fun (k : Nat) =>
      let p := (s.cluster k).pack
      (⟨0x0042, leBytes k 1 ++ leBytes ((p.map (·.fmt)).getD 0) 1 ++
        leBytes ((p.map fun p => if p.base then 0 else p.id).getD 0) 4⟩ : Tlv)
    (s, b.doneFit ([image 0x41 s.pw.imgAVersion s.pw.imgA, image 0x42 s.pw.imgBVersion s.pw.imgB,
      ⟨0x0041, leBytes s.pw.floor 4⟩] ++ (List.range 8).map code))

/-! ### Management sessions and the console (R135 to R137) -/

/-- The MP serves its channels. -/
def State.mpServes (s : State) : Bool := s.mp.state == .run

/-- The hybrid key-exchange groups (R135): X25519MLKEM768 and SecP256r1MLKEM768. Mark: PRESUMED (log entry 98). -/
abbrev tlsGroups : List Nat := [0x11EC, 0x11EB]

/-- TLS_AES_256_GCM_SHA384 (R135). Mark: PRESUMED (log entry 98). -/
abbrev tlsSuite : Nat := 0x1302

/-- The signature schemes (R135): ecdsa_secp384r1_sha384, ML-DSA-65 and ML-DSA-87. Mark: PRESUMED (log entry 98). -/
abbrev tlsSigs : List Nat := [0x0503, 0x0905, 0x0906]

/-- MGMT_SESSION_OPEN (R135, R136): a connection to the port of MP_MGMT_TCP whose ClientHello offers `groups`, `suites` and
`sigs`. It is refused with an alert when no hybrid group is offered; a session needs its port's bit, the one cipher suite and
an accepted signature scheme, with which the module presents its certificate from N5, and a client certificate that chains to
a manager-authority certificate in N5; at most 4 on a port. -/
def execMgmtSessionOpen (client : MgmtEndpoint) (groups suites sigs : List Nat) (clientCertOk : Bool) (s : State) :
    Result :=
  let port := client.port
  if !s.mpServes ∨ port > 1 ∨ s.fld aMP_MGMT_EN port port = 0 ∨ client.tcp ≠ s.fld aMP_MGMT_TCP 15 0 then .next s
  else if !groups.any tlsGroups.contains then .next (s.emit (.alert port))
  else if !suites.contains tlsSuite ∨ !sigs.any tlsSigs.contains then .next s
  else
    let s := s.emit (.certificate port (s.ks.certs.headD []))
    if !clientCertOk ∨ !s.ks.trust.any (fun t => t.role == 2)
        ∨ (s.mp.sessions.filter fun x => x.port == port).length ≥ 4 then .next s
    else
      .next { s with mp := { s.mp with
        sessions := s.mp.sessions ++ [{ port := port, id := s.mp.nextSession, lastPacket := s.now }]
        nextSession := s.mp.nextSession + 1 } }

/-- The packets of a channel that have no reply yet. -/
def State.outstanding (s : State) (src : Source) : Nat := (s.jobs.filter fun e => e.2.src == src).length

/-- A packet that arrives on a channel without an entry of its own: 32 bytes, then its parameters. -/
def packetEntry (p : Bytes) : Entry := { bareEntry (p.take 32) with params := p.drop 32 }

/-- MGMT_PACKET (R136): taken while fewer than 16 packets of the session are outstanding.
Mark: DESIGN CHOICE (log entry 77). -/
def execMgmtPacket (port session : Nat) (packet : Bytes) (s : State) : Result :=
  let src := Source.session port session
  if (s.session port session).isNone ∨ !s.mpServes ∨ packet.length < 32 ∨ s.outstanding src ≥ 16 then .next s
  else
    let s := { s with mp := { s.mp with sessions := s.mp.sessions.map fun (x : Session) =>
      if x.port = port ∧ x.id = session then { x with lastPacket := s.now } else x } }
    .next (s.accept src 0 (packetEntry packet))

/-- A channel closes: its version is forgotten (R126) and no reply can be delivered. Mark: DEDUCED (log entry 59). -/
def State.closeChannel (s : State) (src : Source) : State :=
  let s := s.onJobs fun b => if b.src = src then { b with discard := true } else b
  match src with
  | .session p i => { s with mp := { s.mp with sessions := s.mp.sessions.filter fun x => !(x.port == p && x.id == i) } }
  | .console => { s with mp := { s.mp with consoleOpen := false, consoleVersion := (0, 0) } }
  | _ => s

/-- Close every session and the console (R146). -/
def State.closeAll (s : State) : State :=
  (s.mp.sessions.foldl (fun s x => s.closeChannel (.session x.port x.id)) s).closeChannel .console

/-- MGMT_SESSION_IDLE (R136): 600 s without a packet close the session. -/
def execMgmtSessionIdle (port session : Nat) (s : State) : Result :=
  if (s.session port session).any fun x => s.passed x.lastPacket (600 * 10 ^ 9) then
    .next (s.closeChannel (.session port session))
  else .next s

/-- MGMT_SESSION_CLOSE (R126): the client closes its session; port 2 names the console.
Mark: DESIGN CHOICE (log entry 77). -/
def execMgmtSessionClose (port session : Nat) (s : State) : Result :=
  .next (s.closeChannel (if port = 2 then .console else .session port session))

/-- The inner bytes of an HDLC frame: flags stripped, stuffed bytes restored (R137, RFC 1662).
Mark: DESIGN CHOICE (log entry 77). -/
def unstuff : Bytes → Bytes
  | [] => []
  | [b] => if b = 0x7E then [] else [b]
  | b :: c :: r => if b = 0x7E then unstuff (c :: r) else if b = 0x7D then (c ^^^ 0x20) :: unstuff r else b :: unstuff (c :: r)

/-- CONSOLE_FRAME (R137): a frame with a bad FCS is discarded; one packet may be outstanding.
Mark: DESIGN CHOICE (log entry 77). -/
def execConsoleFrame (frame : Bytes) (s : State) : Result :=
  let bs := unstuff frame
  let p := bs.take (bs.length - 4)
  if !s.mpServes ∨ bs.length < 36 ∨ fcs32 p ≠ leNat (bs.drop (bs.length - 4)) ∨ s.outstanding .console ≥ 1 then .next s
  else
    let s := { s with mp := { s.mp with consoleOpen := true } }
    .next (s.accept .console 0 (packetEntry p))

/-! ### The states of the MP (R144 to R147) -/

/-- A fault of a lockstep pair. -/
def pairFault (pair kind : Nat) (fatal : Bool) : FaultMsg :=
  { source := 0x440 + pair, access := 0, kind := kind, master := 1 + pair, address := pair, fatal := fatal }

/-- The MP halts (R144, R145). -/
def State.haltMp (s : State) : State := { s with mp := { s.mp with state := .halted } }

/-- MP_WATCHDOG_EXPIRY (R145): both pairs restart; a second expiry within 10 s of returning to RUN is FATAL.
Mark: DESIGN CHOICE (log entry 9). -/
def execMpWatchdogExpiry (pair ns : Nat) (s : State) : Result :=
  let s := s.at_ ns
  if s.mp.state ≠ .run then .next s
  else if s.mp.runSince.any fun t => s.now < t + 10 * 10 ^ 9 then
    let s := { s with mp := { s.mp with restartStamp := s.tb.stamp } }
    .next ((s.raise (pairFault pair 0x24 true)).haltMp)
  else
    let s := ((s.raise (pairFault pair 0x24 false)).closeAll).onJobs fun b =>
      if b.isMp && (b.phase == .running || (b.phase == .ended && b.started)) then { b with interrupted := true } else b
    .next { s with mp := { s.mp with state := .restart, restartUp := s.now, restartStamp := s.tb.stamp } }

/-- Commands that the MP had started end FAULT_CONTAINED when it runs again (R147). -/
def State.endInterrupted (s : State) : State :=
  (s.jobsWhere fun b => b.interrupted).foldl (fun s j =>
    (s.failJob j stFAULT_CONTAINED).onJob j fun b => { b with interrupted := false }) s

/-- MP_RESTART_DONE (R145, R147). -/
def execMpRestartDone (s : State) : Result :=
  if s.mp.state ≠ .restart ∨ s.mp.restartUp + 10 ^ 9 ≤ s.now then .next s
  else
    let s := (s.endInterrupted).bump aMP_RESTART_CNT 0
    .next { s with mp := { s.mp with state := .run, runSince := some s.now } }

/-- MP_RESTART_TIMEOUT (R145): a restart not complete within 1 s is FATAL. -/
def execMpRestartTimeout (s : State) : Result :=
  if s.mp.state ≠ .restart ∨ !s.passed s.mp.restartUp (10 ^ 9) then .next s
  else .next ((s.raise (pairFault 0 0x24 true)).haltMp)

/-- MP_LOCKSTEP (R144): a mismatch in either pair is FATAL and halts the MP. Mark: DEDUCED (log entry 69). -/
def execMpLockstep (pair : Nat) (s : State) : Result :=
  if s.domain 1 ≠ .on ∨ s.mp.state = .halted then .next s
  else
    let s := { s with mp := if pair = 0 then { s.mp with pair0Ok := false } else { s.mp with pair1Ok := false } }
    .next ((s.raise (pairFault pair 0x23 true)).haltMp)

/-- MP_SLOWQ_HWM_CLR (R149): 1 sets HWM to OCC. -/
def execMpSlowqHwmClr (v : Reg) (s : State) : Result :=
  if v.getLsbD 0 then .next { s with mp := { s.mp with hwm := s.mpOccupancy } } else .next s

/-- MP_MGMT_EN (R149): clearing a bit closes the sessions open on that port. -/
def execMpMgmtEn (v : Reg) (s : State) : Result :=
  let s := s.setReg aMP_MGMT_EN (v.toNat % 4)
  let gone := s.mp.sessions.filter fun x => !bitAt v.toNat x.port
  .next (gone.foldl (fun s x => s.closeChannel (.session x.port x.id)) s)

end Sys2Proof.Machine
end

