-- ==== Sys2Proof/Machine/Time.lean ====
section
/-!
DEFINITION. The timebase: its sources, its states, steps and slews, and the inputs that feed it (R61 to R72).
-/

namespace Sys2Proof.Machine

/-- The priority of a source (R61). -/
def timePriority : TimeSource → Nat
  | .ptpPrimary => 1 | .ptpBackup => 2 | .ppsIrig => 3 | .irigOnly => 4

/-- The inputs a source needs are enabled (XS_TB_CTRL, XS_PTP_PORT). -/
def State.timeEnabled (s : State) (x : TimeSource) : Bool :=
  match x with
  | .ptpPrimary => s.fld aXS_TB_CTRL 0 0 == 1 && s.fld aXS_PTP_PORT 9 0 != 0x3FF
  | .ptpBackup => s.fld aXS_TB_CTRL 0 0 == 1 && s.fld aXS_PTP_PORT 25 16 != 0x3FF
  | .ppsIrig => s.fld aXS_TB_CTRL 1 1 == 1 && s.fld aXS_TB_CTRL 2 2 == 1
  | .irigOnly => s.fld aXS_TB_CTRL 2 2 == 1

/-- The best of some sources. -/
def bestSource (xs : List TimeSource) : Option TimeSource :=
  [TimeSource.ptpPrimary, .ptpBackup, .ppsIrig, .irigOnly].find? xs.contains

/-- The Announce interval of both profiles of R62, in nanoseconds. Mark: PRESUMED (log entry 115). -/
abbrev announceNs : Nat := 10 ^ 9

/-- A PTP port has no Announce message for 3 announce intervals, or no Sync message for 3 s (R61). -/
def ptpSilent (now : Nat) (c : PtpClient) : Bool := c.lastAnnounce + 3 * announceNs ≤ now || c.lastSync + 3 * 10 ^ 9 ≤ now

/-- A source meets its criterion for qualifying (R61). Mark: DESIGN CHOICE (log entry 90). -/
def State.timeQualifies (s : State) (x : TimeSource) : Bool :=
  let ptp := fun (c : PtpClient) => c.grandmaster && 10 ≤ c.goodSeconds && !ptpSilent s.now c
  s.timeEnabled x && match x with
    | .ptpPrimary => ptp s.tb.ptpPrimary
    | .ptpBackup => ptp s.tb.ptpBackup
    | .ppsIrig => 10 ≤ s.tb.ppsCount && 2 ≤ s.tb.irigCount
    | .irigOnly => 10 ≤ s.tb.irigCount

/-- A source meets its criterion for being lost (R61), or its input is disabled. Missing frames count by the whole seconds
since the last one. Mark: DESIGN CHOICE (log entry 90). -/
def State.timeLost (s : State) (x : TimeSource) : Bool :=
  !s.timeEnabled x || match x with
    | .ptpPrimary => ptpSilent s.latest s.tb.ptpPrimary
    | .ptpBackup => ptpSilent s.latest s.tb.ptpBackup
    | .ppsIrig => s.tb.ppsLast + 1100000000 ≤ s.latest
    | .irigOnly => 2 ≤ s.tb.irigBad + (s.latest - s.tb.irigLast) / 10 ^ 9

/-- The offset of a source whose seconds come from IRIG-B: they are its UTC seconds plus XS_TAI_UTC, in place of the TAI
seconds `tai` that the offset was measured against (R63). Mark: DESIGN CHOICE (log entry 90). -/
def State.taiOffset (s : State) (x : TimeSource) (offsetNs : Int) (tai : Nat) : Int :=
  match x with
  | .ptpPrimary | .ptpBackup => offsetNs
  | .ppsIrig | .irigOnly => offsetNs + ((tai : Int) - (s.tb.irigUtc + s.fld aXS_TAI_UTC 7 0 : Nat)) * 10 ^ 9

/-- The timebase becomes LOCKED and TIMEBASE_LOCK sets. -/
def State.lockTime (s : State) : State :=
  { s with tb := { s.tb with state := .locked, holdSeconds := 0 } }.setReady 5 true

/-- TIME_SOURCE_QUALIFIED (R61, R63, R66): a source that meets its criterion, while the servo runs (R146). `offsetNs` is module
time less source time, measured with the source's TAI seconds at `tai`. From FREE and HOLDOVER a small offset is slewed and
a large one stepped in the next guard, or slewed without a lock while steps are not allowed.
Mark: DESIGN CHOICE (log entry 90). -/
def execTimeSourceQualified (src : TimeSource) (offsetNs : Int) (tai : Nat) (s : State) : Result :=
  if !s.timeQualifies src ∨ s.mp.state ≠ .run then .next s
  else
    let off := s.taiOffset src offsetNs tai
    let q := if s.tb.qualified.contains src then s.tb.qualified else s.tb.qualified ++ [src]
    let better := s.tb.source.all fun x => timePriority src < timePriority x
    let s := { s with tb := { s.tb with qualified := q } }
    if !better then .next s
    else
      let s := { s with tb := { s.tb with source := some src, offset := off } }
      if s.tb.state = .locked then .next { s with tb := { s.tb with slewing := true } }
      else if off.natAbs ≤ 50000 then .next { s with tb := { s.tb with slewing := true } }.lockTime
      else if s.fld aXS_TB_CTRL 4 4 = 1 then .next { s with tb := { s.tb with step := some (.source off) } }
      else .next { s with tb := { s.tb with slewing := true, state := .free } }

/-- TIME_SOURCE_LOST (R61, R66): a source that meets its criterion, while the servo runs (R146). The next qualified source
takes over, or the last steered frequency is held. Mark: DESIGN CHOICE (log entry 90). -/
def execTimeSourceLost (src : TimeSource) (s : State) : Result :=
  if !s.timeLost src ∨ s.mp.state ≠ .run then .next s
  else
    let q := s.tb.qualified.filter (· != src)
    let s := { s with tb := { s.tb with qualified := q } }
    if s.tb.source ≠ some src then .next s
    else match bestSource q with
      | some x => .next { s with tb := { s.tb with source := some x, slewing := true } }
      | none =>
        let drop := match s.tb.step with
          | some (.source _) => none
          | x => x
        let s := { s with tb := { s.tb with source := none, slewing := false, step := drop } }
        if s.tb.state = .locked then
          .next ({ s with tb := { s.tb with state := .holdover, holdSeconds := 0 } }.setReady 5 false)
        else .next s

/-- SLEW_LOCK (R66, R146): a slew brings the offset within 1 µs. Mark: DESIGN CHOICE (log entry 90). -/
def execSlewLock (offsetNs : Int) (s : State) : Result :=
  if s.tb.source.isNone ∨ !s.tb.slewing ∨ s.mp.state ≠ .run then .next s
  else
    let s := { s with tb := { s.tb with offset := offsetNs } }
    if s.tb.state = .free ∧ offsetNs.natAbs ≤ 1000 then .next s.lockTime else .next s

/-- HOLDOVER_LIMIT (R66): outside a restart (R146), XS_HOLDOVER_TIME has reached XS_HOLDOVER_LIMIT.
Mark: DESIGN CHOICE (log entry 9). -/
def execHoldoverLimit (s : State) : Result :=
  if s.mp.state ≠ .restart ∧ s.tb.state = .holdover ∧ s.tb.holdSeconds ≥ s.fld aXS_HOLDOVER_LIMIT 16 0 then
    .next { s with tb := { s.tb with state := .free } }
  else .next s

/-- What the slave-only client keeps of a PTP message (R61, R62). Mark: DESIGN CHOICE (log entry 90). -/
def ptpTake (now : Nat) (c : PtpClient) : PtpKind → PtpClient
  | .announce cc utc => { c with grandmaster := cc == 6 || cc == 7, utcOffset := utc, lastAnnounce := now }
  | .sync o => { c with servoNs := o, lastSync := now, goodSeconds := if o.natAbs ≤ 1000 then c.goodSeconds else 0 }
  | .peerDelay => { c with peerDelays := c.peerDelays + 1 }

/-- PTP_MESSAGE (R62): the client runs on the MP (R37, R146) and takes the messages of the domain in
XS_TB_CTRL.PTP_DOMAIN. -/
def execPtpMessage (backup : Bool) (m : PtpMessage) (s : State) : Result :=
  if !s.timeEnabled (if backup then .ptpBackup else .ptpPrimary) ∨ s.mp.state ≠ .run ∨ m.domain ≠ s.fld aXS_TB_CTRL 15 8 then
    .next s
  else if backup then .next { s with tb := { s.tb with ptpBackup := ptpTake s.now s.tb.ptpBackup m.kind } }
  else .next { s with tb := { s.tb with ptpPrimary := ptpTake s.now s.tb.ptpPrimary m.kind } }

/-- PPS_PULSE (R61): consecutive pulses 1 s ± 1 µs apart are counted; any other pulse is the first of a new run. -/
def execPpsPulse (gapNs : Nat) (s : State) : Result :=
  if s.fld aXS_TB_CTRL 1 1 = 0 then .next s
  else
    let good := 10 ^ 9 ≤ gapNs + 1000 ∧ gapNs ≤ 10 ^ 9 + 1000
    .next { s with tb := { s.tb with ppsLast := s.now, ppsCount := if good then s.tb.ppsCount + 1 else 1 } }

/-- IRIGB_FRAME (R61, R63): consecutive valid frames, and consecutive bad ones, are counted; a valid frame gives UTC. -/
def execIrigbFrame (valid : Bool) (utc : Nat) (s : State) : Result :=
  if s.fld aXS_TB_CTRL 2 2 = 0 then .next s
  else if valid then
    .next { s with tb := { s.tb with irigCount := s.tb.irigCount + 1, irigBad := 0, irigLast := s.now, irigUtc := utc } }
  else .next { s with tb := { s.tb with irigCount := 0, irigBad := s.tb.irigBad + 1, irigLast := s.now } }

/-- The 10 MHz input steers the OCXO frequency (R64). -/
def State.oscillatorSteered (s : State) : Bool := s.tb.ref10m && s.fld aXS_TB_CTRL 3 3 == 1

/-- REF10M_SIGNAL_CHANGE (R64): the input steers the frequency and never gives phase or seconds. -/
def execRef10mSignalChange (present : Bool) (s : State) : Result := .next { s with tb := { s.tb with ref10m := present } }

/-- XS_TIME_SET (R20, R67): the write of the high word asks for a step to the written second, in FREE only. -/
def execXsTimeSet (v : Reg) (s : State) : Result :=
  let s := s.setReg aXS_TIME_SET_HI (v.toNat % 65536)
  if s.tb.state ≠ .free then .next s
  else
    let sec := v.toNat % 65536 * 2 ^ 32 + s.reg aXS_TIME_SET_LO
    .next { s with tb := { s.tb with step := some (.second sec) } }

/-- The first boundary of the time scale at or after nanosecond `t` since the epoch: its stamp and its time. -/
def boundaryFrom (rate t : Nat) : Stamp × Nat :=
  let sec := t / 10 ^ 9
  let r := t % 10 ^ 9
  let n := ceilDiv (r * rate) (10 ^ 9)
  let n := if crossStart rate n < r then n + 1 else n
  if n ≥ rate then (⟨sec + 1, 0⟩, (sec + 1) * 10 ^ 9) else (⟨sec, n⟩, sec * 10 ^ 9 + crossStart rate n)

/-- Take a pending step in the guard of the current crossing (R71, R72): the crossing grows to the first boundary of the
new time scale at least 4 µs after its scheduled end, and TIME_STEP is posted with the count and the size.
Mark: DEDUCED (log entries 58, 86). -/
def State.takeStep (s : State) : State :=
  match s.tb.step with
  | none => s
  | some st =>
    let finish : Nat := s.tb.stamp.sec * 10 ^ 9 + crossStart s.tb.rate (s.tb.stamp.idx + 1)
    let (next, grow, size) : Stamp × Nat × Int := match st with
      | .second sec => (⟨sec, 0⟩, 4000, (sec : Int) * 10 ^ 9 - ((finish : Int) + 4000))
      | .source off =>
        let e := ((finish : Int) - off).toNat
        let b := boundaryFrom s.tb.rate (e + 4000)
        (b.1, b.2 - e, -off)
    let n := s.tb.stepCount + 1
    let s := { s with tb := { s.tb with
      step := none, stretched := some next, extra := grow, stepCount := n, slewing := s.tb.source.isSome } }
    let s := s.postEvent 0 0x0101 none (n % 2 ^ 32) ((size % 2 ^ 64).toNat)
    match st with
    | .second _ => s
    | .source _ => s.lockTime

end Sys2Proof.Machine
end

