-- ==== Sys2Proof/Machine/Manifest.lean ====
section
/-!
DEFINITION. The manifest: its image, the admission proof, loading, activation and restoring (R81 to R90).
-/

namespace Sys2Proof.Machine

/-! ### The image (R82, R83) -/

/-- Parse one entry. -/
def parseBerth (b : Bytes) : Berth :=
  { id := leAt b 0 2, kind := leAt b 2 1, flags := leAt b 3 1, owner := leAt b 4 2, cls := leAt b 6 1,
    mask := leAt b 8 8, start := leAt b 16 2, len := leAt b 18 2, tail := leAt b 20 2, budget := leAt b 22 2,
    profOp := leAt b 24 2, profSet := leAt b 26 2 }

/-- Parse an image. -/
def parseManifest (img : Bytes) : Manifest :=
  let n := leAt img 8 2
  { id := leAt img 12 4, rate := leAt img 10 2, digest := slice img 24 32,
    berths := (List.range n).map fun i => parseBerth (slice img (64 + 32 * i) 32), image := img }

/-- The first failure of the proof: check number and entry index, 0xFFFF for none (R84). -/
abbrev ProofFail : Type := Nat × Nat

/-- The index of the first entry that a predicate holds of. -/
def firstEntry (p : Nat → Berth → Bool) (bs : List Berth) : Option Nat :=
  (bs.zipIdx.find? fun e => p e.2 e.1).map (·.2)

/-- Check 1 on the header. -/
def headerBad (img : Bytes) : Bool :=
  slice img 0 4 != asciiBytes "KXMF" 4 || leAt img 4 2 != 1 || leAt img 6 2 != 64
    || leAt img 16 4 != 64 + 32 * leAt img 8 2 || img.length != leAt img 16 4 || !allZero (slice img 20 4)
    || !allZero (slice img 56 8) || leAt img 12 4 == 0
    || sha256 (img.take 24 ++ zeros 32 ++ img.drop 56) != slice img 24 32

/-- Check 1 on an entry: its reserved fields. -/
def entryBad (b : Bytes) : Bool := leAt b 3 1 ≥ 4 || leAt b 7 1 != 0 || leAt b 28 4 != 0

/-! ### Times and units (R74 to R76) -/

/-- U at a rate. -/
def usableUnits (rate : Nat) : Nat := (10 ^ 9 / rate - 4000) / 128

/-- The reservation ceiling at a rate. -/
def ceilingUnits (rate : Nat) : Nat := 3 * usableUnits rate / 4

/-- The lead-in of an engine class. -/
def leadUnits (cls : Nat) : Nat := if 2 ≤ cls ∧ cls ≤ 4 then 16 else if cls = 5 ∨ cls = 6 then 2 else 0

/-- Kind and engine class that go together: stream classes on stream SEs and BNEs, event signing on PEs, instances on
every class but stream SEs. Mark: DEDUCED (log entry 59). -/
def kindOk (w : Berth) : Bool :=
  match w.kind with
  | 1 => w.cls == 7 || w.cls == 4
  | 2 => w.cls == 1
  | 3 => 1 ≤ w.cls && w.cls ≤ 6
  | _ => false

/-- The mask of a berth names no part of a PE cluster without the rest of it. -/
def Berth.wholeClusters (w : Berth) : Bool :=
  (List.range 4).all fun k => w.mask / 2 ^ (4 * k) % 16 == 0 || w.mask / 2 ^ (4 * k) % 16 == 15

/-- Check 4, with R232 (a tenant's signing berth covers whole clusters) and R509. Mark: DEDUCED (log entry 59). -/
def State.berthShape (s : State) (w : Berth) : Bool :=
  kindOk w && w.mask != 0 && w.mask < 2 ^ classSize w.cls && (w.kind == 2 || w.tail == 0)
    && (w.kind == 1 || !bitAt w.flags 0) && w.budget != 0
    && (w.kind != 3 || w.cls != 1 || !forkable w.profOp || w.wholeClusters)
    && (w.kind != 1 || w.cls != 7 || (List.range 40).all fun i =>
          !(bitAt w.mask i && bitAt (s.fld (aPT_CL_CTL + 4 * (i / 10)) 9 0) (i % 10)))

/-- The instance exists (R541, R559). -/
def State.instExists (s : State) (n : Nat) : Bool := n == 0 || (tgetD s.insts n {}).state != .absent

/-- Check 5. -/
def State.ownerOk (s : State) (w : Berth) : Bool :=
  match w.kind with
  | 1 => w.owner < 256 && s.cls w.owner 31 31 == 1
  | 2 => (tget s.tr.policies w.owner).isSome
  | _ => w.owner ≤ 128 && s.instExists w.owner && s.weight w.owner w.cls != 0

/-- Check 6. -/
def timesOk (rate : Nat) (w : Berth) : Bool := leadUnits w.cls ≤ w.start && w.start + w.len ≤ usableUnits rate

/-- Two half-open intervals overlap. -/
def meets (a b : Nat × Nat) : Bool := a.1 < b.2 && b.1 < a.2

/-- A berth with its lead-in. -/
def Berth.body (w : Berth) : Nat × Nat := (w.start - leadUnits w.cls, w.start + w.len)

/-- The tail of a berth; beyond U it continues from unit 0. -/
def Berth.tails (w : Berth) (u : Nat) : List (Nat × Nat) :=
  let e := w.start + w.len
  if e + w.tail ≤ u then [(e, e + w.tail)] else [(e, u), (0, e + w.tail - u)]

/-- Check 7 on two berths. -/
def clash (rate : Nat) (a b : Berth) : Bool :=
  let u := usableUnits rate
  a.cls == b.cls && a.mask &&& b.mask != 0 &&
    (meets a.body b.body || (a.tails u).any (meets b.body) || (b.tails u).any (meets a.body))

/-- The units a manifest reserves on an engine (R75). -/
def reservedUnits (bs : List Berth) (cls i : Nat) : Nat :=
  ((bs.filter fun w => w.covers cls i).map fun w => w.len + leadUnits cls).sum

/-! ### Sizing (R235, R511, R252) -/

/-- s_p of R235 as a fraction. -/
def attemptOdds (p : Nat) : Nat × Nat :=
  match p with
  | 44 => (13 ^ 4, 17 ^ 4)
  | 65 => (41 ^ 4, 51 ^ 4)
  | _ => (57 ^ 4, 77 ^ 4)

/-- The coefficients C(r, 0) to C(r, n − 1), each from the one before. -/
def binomialRow (r : Nat) : (n i c : Nat) → List Nat
  | 0, _, _ => []
  | n + 1, i, c => c :: binomialRow r n (i + 1) (c * (r - i) / (i + 1))

/-- The probability that n round counts sum to more than r is below 2^−40. -/
def roundsEnough (p n r : Nat) : Bool :=
  let (a, b) := attemptOdds p
  let sum := ((binomialRow r n 0 1).zipIdx.map fun e => e.1 * (b - a) ^ e.2 * a ^ (r - e.2)).sum
  2 ^ 40 * sum < b ^ r

/-- R_p(n), searched from `r`. -/
def roundsBound (p n : Nat) : (fuel r : Nat) → Nat
  | 0, r => r
  | f + 1, r => if roundsEnough p n r then r else roundsBound p n f (r + 1)

/-- The ML-DSA set of an EVENT_SIGN profile. Mark: DEDUCED (log entry 58). -/
def profileSet (w : Berth) : Nat :=
  if w.profOp = opCOMPOSITE_SIGN then ((compositeOf w.profSet).map (·.1)).getD 0 else w.profSet

/-- The sizing rule of an EVENT_SIGN berth (R235). -/
def signSized (w : Berth) (t : OpTime) : Bool :=
  let r := roundsBound (profileSet w) w.budget (64 * w.budget + 64) w.budget
  cyclesUnits (t.s + t.f + w.budget * (t.a - t.i) + t.i * r) ≤ w.len
    && cyclesUnits (t.s + t.a + 49 * t.i + t.f) ≤ w.tail

/-- The fixed time of a host SE or DE profile (R425, R426, R428): the costliest job of as many KiB as the profile's
parameter says, an XTS job being one data unit; `none` for an opcode of another class. Mark: DEDUCED (log entry 58). -/
def hostProfileCycles (w : Berth) : Option Nat :=
  let op := w.profOp
  let blocks := 64 * w.profSet
  if w.profSet = 0 ∨ (opInfo op).map (·.cls) ≠ some w.cls then none
  else if w.cls = 6 then some (120 + 66 * (16 * w.profSet + 4) + 80)
  else if op = opAES_GCM_ENC ∨ op = opAES_GCM_DEC ∨ op = opAES_GMAC then some (64 + blocks + 48)
  else if op = opAES_CBC_ENC then some (40 + blocks * 32 + 24)
  else if op = opAES_CMAC then some (56 + blocks * 32 + 40)
  else if op = opAES_XTS_ENC ∨ op = opAES_XTS_DEC then some (40 + 40 + blocks + 24)
  else some (40 + blocks + 24)

/-- The microcoded clusters of a berth's engines. -/
def Berth.clusters (w : Berth) : List Nat :=
  (clustersOf w.cls).filter fun k => (List.range (classSize w.cls)).any fun i => bitAt w.mask i && clusterOf w.cls i == some k

/-- The fixed time of a berth's profile, in cycles, on one cluster (R84 check 9, R379, R518).
Mark: DEDUCED (log entry 58). -/
def State.profileCycles (s : State) (w : Berth) (k : Nat) : Option Nat :=
  let op := if w.kind = 1 then opRSA_PRIVATE else w.profOp
  let set := if w.kind = 1 ∧ w.profSet = 0 then 3072 else w.profSet
  match if op = opSLHDSA_SIGN then none else s.opTime k op set with
  | none => none
  | some t =>
    if forkable op then (if t.a = 0 then none else some (t.signCycles 50))
    else if t.o = 0 then none else some t.o

/-- Check 9. -/
def State.sized (s : State) (w : Berth) : Bool :=
  let fits := fun (c : Option Nat) => c.any fun c => w.budget * cyclesUnits c ≤ w.len
  if w.kind = 1 ∧ w.cls = 7 then w.budget * classUnits (s.reg (aST_CLASS + 4 * w.owner)) ≤ w.len
  else if w.kind = 2 then w.clusters.all fun k =>
    match s.opTime k w.profOp w.profSet with
    | some t => t.a != 0 && forkable w.profOp && signSized w t
    | none => false
  else if w.cls = 5 ∨ w.cls = 6 then fits (hostProfileCycles w)
  else w.clusters.all fun k => fits (s.profileCycles w k)

/-- The contexts that a manifest's PIN entries pin (R81). -/
def State.pinsOf (s : State) (bs : List Berth) : Nat :=
  (s.tr.streams.filter fun e => bs.any fun w => w.kind == 1 && w.owner == e.2.cls && bitAt w.flags 0).length

/-! ### The proof (R84) -/

/-- Check 5 on every entry. -/
def State.proofOwners (s : State) (bs : List Berth) : Option ProofFail :=
  (firstEntry (fun _ w => !s.ownerOk w) bs).map fun i => (5, i)

/-- The first entry with which some engine's reserved units pass the ceiling. -/
def overCeiling (rate : Nat) (bs : List Berth) : Option Nat :=
  firstEntry (fun i w => (List.range (classSize w.cls)).any fun e =>
    bitAt w.mask e && reservedUnits (bs.take (i + 1)) w.cls e > ceilingUnits rate) bs

/-- Checks 8 to 10. -/
def State.proofLoad (s : State) (rate : Nat) (bs : List Berth) : Option ProofFail :=
  match overCeiling rate bs with
  | some i => some (8, i)
  | none => match firstEntry (fun _ w => !s.sized w) bs with
    | some i => some (9, i)
    | none => if s.pinsOf bs > 61440 then some (10, 0xFFFF) else none

/-- Checks 1 to 10, in order. -/
def State.proof (s : State) (img : Bytes) : Option ProofFail :=
  let m := parseManifest img
  let n := leAt img 8 2
  let bs := m.berths
  if headerBad img then some (1, 0xFFFF)
  else match (List.range n).find? fun i => entryBad (slice img (64 + 32 * i) 32) with
    | some i => some (1, i)
    | none =>
      if m.rate < 1000 ∨ m.rate > 20000 then some (2, 0xFFFF)
      else if n > 4096 then some (3, 0xFFFF)
      else match firstEntry (fun i w => (bs.take i).any fun x => x.id == w.id) bs with
        | some i => some (3, i)
        | none => match firstEntry (fun _ w => !s.berthShape w) bs with
          | some i => some (4, i)
          | none => match s.proofOwners bs with
            | some f => some f
            | none => match firstEntry (fun _ w => !timesOk m.rate w) bs with
              | some i => some (6, i)
              | none => match firstEntry (fun i w => (bs.take i).any fun x => clash m.rate x w) bs with
                | some i => some (7, i)
                | none => s.proofLoad m.rate bs

/-- The status of a failed check. -/
def proofStatus (check : Nat) : Nat := if check ≤ 4 then stMALFORMED else stCONFIG_INCONSISTENT

/-! ### Opcodes (R85 to R88) -/

/-- An activation waits for its guard or for its rate. -/
def State.activationPending (s : State) : Bool := s.xs.next.isSome || s.mpSets.any (·.manifest.isSome)

/-- Run a command of the MP on its job (R133); the operation ends the job or leaves it waiting. One that the MP had started
when it restarted does not go on (R147). Mark: DESIGN CHOICE (log entry 5). -/
def runMp (s : State) (j code : Nat) (f : State → Job → State) : Result :=
  match s.job j with
  | some b =>
    if b.opcode = code ∧ b.phase = .running ∧ (b.wait = .no ∨ b.wait = .random) ∧ !b.interrupted then .next (f s b)
    else .next s
  | none => .next s

/-- The MP starts engine work as a best-effort job of instance 0, and the command waits for it (R142). -/
def State.addTask (s : State) (j cls mask opcode : Nat) (ps : List Tlv) : State :=
  (s.addJob (taskJob 0 s.nextJob opcode ps { cls := cls, mask := mask, parent := j })).2.onJob j fun p => { p with wait := .engine }

/-- An engine of a class is ready. -/
def State.classUp (s : State) (cls : Nat) : Bool := (List.range (classSize cls)).any fun i => s.ready (engReadyBit cls i)

/-- Run the engine work of a command, once, and then the rest of the command; with no engine of the class ready the MP does the
work itself. Mark: DESIGN CHOICE (log entry 101). -/
def State.withEngine (s : State) (j : Nat) (b : Job) (cls opcode : Nat) (ps : List Tlv) (f : State → State) : State :=
  match b.engineStatus with
  | some st => if st = stDONE then f s else s.failJob j st
  | none => if s.classUp cls then s.addTask j cls 0 opcode ps else f s

/-- Whether manifests are mirrored (R569, R571): not under PL1. -/
def State.manifestMode (s : State) : MirrorMode := if s.tw.version = 1 then .here else s.mirrorMode

/-- The loaded manifest is replaced (R86). -/
def State.loadManifest (s : State) (m : Manifest) : State := { s with xs := { s.xs with loaded := some m } }

/-- What the pair does with a command that is mirrored: nothing more once its record is acknowledged, or once the pair
lets it run here alone (R574, R576). -/
def Job.mirrorStep (b : Job) (mode : MirrorMode) : MirrorMode := if b.cleared then .here else mode

/-- MANIFEST_LOAD (R84 to R86, R571): a lead loads it once its partner has acknowledged it. -/
def manifestLoad (s : State) (j : Nat) (b : Job) : State :=
  let img := b.val 0x0110
  let m := parseManifest img
  let e := b.doneFit [⟨0x0111, leBytes m.id 4⟩, ⟨0x0112, m.digest⟩]
  if e.status ≠ stDONE then s.endJob j e
  else match b.mirrorStep s.manifestMode with
  | .refuse st => s.failJob j st
  | mode =>
    if s.activationPending then s.failJob j stCONFIG_INCONSISTENT
    else match s.proof img with
      | some (c, i) =>
        s.endJob j { status := proofStatus c, results := [⟨0x0113, leBytes c 1 ++ leBytes i 2⟩] }
      | none =>
        if mode = .send then (s.sendRecord 0x30 img (some j)).awaitAck j
        else (s.loadManifest m).endJob j e

/-- MANIFEST_LOAD. -/
def execManifestLoad (j : Nat) (s : State) : Result := runMp s j opMANIFEST_LOAD fun s b => manifestLoad s j b

/-- The groups an activation commits: MANIFEST, with TIMEBASE when the rate changes (R88). -/
def State.manifestGroups (s : State) (m : Manifest) : BitVec 16 :=
  if m.rate = s.fld aXS_RATE 15 0 ∧ s.tb.pendingRate.isNone then 0x4 else 0x5

/-- The loaded manifest may be activated under this identifier (R86): its proof is repeated against the current
configuration. -/
def State.activatable (s : State) (id : Nat) : Option Manifest :=
  match s.xs.loaded with
  | none => none
  | some m =>
    if id ≠ m.id ∨ s.activationPending = true ∨ (s.proofOwners m.berths).isSome ∨ (s.proofLoad m.rate m.berths).isSome then
      none
    else some m

/-- The job waits for the guard of its activation (R87, R88). -/
def State.armActivation (s : State) (j : Nat) (m : Manifest) (at_ : Option Stamp) : State :=
  let s := { s with xs := { s.xs with next := some m, activation := some j } }
  s.onJob j fun b => { b with wait := .guardBefore at_ (s.manifestGroups m) }

/-- AT_STAMP of a job. Mark: DEDUCED (log entry 21). -/
def Job.atStamp (b : Job) (ty : Nat) : Option Stamp := (tlvGet b.params ty).map fun v => Stamp.ofBits (leNat v)

/-- The stamp `n` crossings from now. -/
def State.stampIn (s : State) (n : Nat) : Stamp := (List.range n).foldl (fun t _ => stampSucc s.tb.rate t) s.tb.stamp

/-- MANIFEST_ACTIVATE (R86 to R88): the loaded manifest waits for its guard; a lead names the crossing to its partner and
waits for the acknowledgement first (R575). -/
def manifestActivate (s : State) (j : Nat) (b : Job) : State :=
  if (b.doneFit [⟨0x0115, zeros 8⟩]).status ≠ stDONE then s.failJob j stLIMIT_EXCEEDED
  else match b.mirrorStep s.manifestMode with
  | .refuse st => s.failJob j st
  | mode =>
    match s.activatable (leNat (b.val 0x0111)) with
    | none => s.failJob j stCONFIG_INCONSISTENT
    | some m =>
      if mode = .send then
        let t := (b.atStamp 0x0114).getD (s.stampIn 3)
        let s := s.onJob j fun b => { b with params := b.params ++ [⟨0x0114, leBytes t.bits 8⟩] }
        (s.sendRecord 0x31 (beBytes m.id 4 ++ beBytes t.bits 8) (some j)).awaitAck j
      else s.armActivation j m (b.atStamp 0x0114)

/-- MANIFEST_ACTIVATE. -/
def execManifestActivate (j : Nat) (s : State) : Result :=
  runMp s j opMANIFEST_ACTIVATE fun s b => manifestActivate s j b

/-- The identifier and digest TLVs of a manifest. -/
def manifestTlvs (m : Option Manifest) : List Tlv :=
  [⟨0x0111, leBytes ((m.map (·.id)).getD 0) 4⟩, ⟨0x0112, (m.map (·.digest)).getD (zeros 32)⟩]

/-- The highest reserved units on any engine of a class in the active manifest. -/
def State.highestReserved (s : State) (cls : Nat) : Nat :=
  let bs := (s.xs.active.map (·.berths)).getD []
  ((List.range (classSize cls)).map fun i => reservedUnits bs cls i).foldl max 0

/-- MANIFEST_QUERY (R85). -/
def execManifestQuery (j : Nat) (s : State) : Result :=
  runJob s j opMANIFEST_QUERY fun s b =>
    (s, b.doneFit (manifestTlvs s.xs.active ++ manifestTlvs s.xs.loaded ++
      [⟨0x0116, ((List.range 7).map fun c => leBytes (s.highestReserved (c + 1)) 2).flatten⟩]))

/-! ### Activation (R81, R89, R234) -/

/-- The key that an EVENT_SIGN berth pins, with its type and set. -/
def State.pinKey (s : State) (w : Berth) : Option (Nat × Nat) :=
  (tget s.tr.policies w.owner).map fun p =>
    (p.key, if p.combo ≠ 0 then ((compositeOf p.combo).map (·.1)).getD 0 else p.pset)

/-- Pin a policy's expanded key in the PEs of its berth's cluster. -/
def State.pinBerth (s : State) (w : Berth) : State :=
  match s.pinKey w with
  | none => s
  | some (h, set) =>
    if (s.slot (hSlot h)).state ≠ .loaded then s
    else
      let size := expandedSize 0x11 set
      let ent : CacheEntry := { slot := hSlot h, gen := hGen h, expanded := true, size := size, pinned := true, inst := 0 }
      let pes := (List.range 16).filter (bitAt w.mask)
      pes.foldl (fun s i => (s.dropEntries (engKey 1 i) fun c => c.slot == ent.slot && c.gen == ent.gen).placeEntry
        (engKey 1 i) ent) s

/-- Release the pins of the old manifest. -/
def State.unpinAll (s : State) : State :=
  s.onEngines fun e => { e with cache := e.cache.map fun c => { c with pinned := false } }

/-- A manifest becomes the active one: pinned contexts of the old stay in the cache until evicted, the engines' berths
end, the event keys of the new are pinned, and N6 holds it. -/
def State.activate (s : State) (m : Manifest) : State :=
  let was := (s.tr.streams.filter fun e => s.pinned e.2.cls).map (·.1)
  let s := s.unpinAll.onEngines fun e => { e with berth := none, leadIn := none }
  let s := { s with
    xs := { s.xs with active := some m, loaded := none, next := none, activation := none, atRate := false, runs := [] } }
  let s := s.writeN6 { s.n6 with manifest := some m }
  let now := (s.tr.streams.filter fun e => s.pinned e.2.cls).map (·.1)
  let s := { s with tr := { s.tr with
    cache := ((was.filter fun i => !now.contains i) ++ s.tr.cache.filter fun i => !now.contains i).take
      (if s.ready 4 then 65536 - now.length else 65536) } }
  (m.berths.filter fun w => w.kind == 2).foldl State.pinBerth s

/-! ### Sets staged by the MP (R105, R106, R108) -/

/-- One of the groups is requested already. -/
def State.groupsBusy (s : State) (groups : BitVec 16) : Bool := (s.cfg.pending &&& groups) != 0

/-- A command waits until its groups are free, and then runs again (R105). Mark: DEDUCED (log entry 21). -/
def State.awaitGroups (s : State) (j : Nat) (groups : BitVec 16) : State :=
  s.onJob j fun b => { b with wait := .freeGroups groups }

/-- The MP writes the shadows of a command's set and requests its groups; the command ends in the guard that applies or
refuses the set. -/
def State.stageSet (s : State) (j : Nat) (groups : BitVec 16) (writes : List (Nat × Nat)) (after : Ending) : State :=
  let s := writes.foldl (fun s w => s.setShadow w.1 w.2) s
  let s := { s with cfg := { s.cfg with pending := s.cfg.pending ||| groups, byMp := s.cfg.byMp ||| groups } }
  s.onJob j fun b => { b with wait := .applied groups, after := some after }

/-- The groups of a set: a manifest's are those it changes now. -/
def State.groupsOf (s : State) (x : MpSet) : BitVec 16 := (x.manifest.map s.manifestGroups).getD x.groups

/-- The MP cannot stage a set yet: it does not run, a ready bit is missing (R636), or a group is requested already. -/
def State.setWaits (s : State) (x : MpSet) : Bool :=
  s.mp.state != .run || x.need.any (fun b => !s.ready b) || s.groupsBusy (s.groupsOf x)
    || (x.manifest.isSome && s.xs.next.isSome)

/-- The MP stages a set and requests its groups; a command it belongs to ends with the guard (R106). -/
def State.stageMp (s : State) (x : MpSet) : State :=
  let groups := s.groupsOf x
  let ws := match x.manifest with
    | some m => if groups.getLsbD 0 then [(aXS_RATE, m.rate)] else []
    | none => x.writes
  let s := ws.foldl (fun s w => s.setShadow w.1 w.2) s
  let s : State := { s with
    cfg := { s.cfg with pending := s.cfg.pending ||| groups, byMp := s.cfg.byMp ||| groups }
    xs := { s.xs with next := x.manifest.or s.xs.next } }
  match x.job with
  | some (j, e) => s.onJob j fun b => { b with wait := .applied groups, after := some e }
  | none => s

/-- The MP asks for a set (R105): it stages it at once, or keeps it, and the command with it, until the set can be staged;
sets of one group keep their order. Mark: DEDUCED (log entry 21). -/
def State.requestSet (s : State) (x : MpSet) : State :=
  if s.setWaits x ∨ s.mpSets.any (fun y => s.groupsOf y &&& s.groupsOf x != 0) then
    let s := { s with mpSets := s.mpSets ++ [x] }
    match x.job with
    | some (j, _) => s.onJob j fun b => { b with wait := .staging }
    | none => s
  else s.stageMp x

/-- The sets that waited and can be staged now. -/
def State.drainSets (s : State) : State :=
  s.mpSets.foldl State.requestSet { s with mpSets := [] }

/-- MANIFEST_RESTORE (R90): once the instances, the ports, the stream classes and the policies are restored, the manifest of N6 is proved again and activated, or becomes the loaded one.
Mark: DEDUCED (log entry 26). -/
def execManifestRestore (s : State) : Result :=
  match s.n6.manifest with
  | none => .next s
  | some m =>
    if !s.ready 1 ∨ !s.pw.restored ∨ !s.ready 21 ∨ s.xs.active.isSome ∨ s.activationPending = true then .next s
    else match s.proof m.image with
      | some (c, i) =>
        .next ({ s with xs := { s.xs with loaded := some m } }.postEvent 0 0x0102 none m.id (c + i * 256))
      | none => .next (s.requestSet { manifest := some m })

end Sys2Proof.Machine
end

