-- ==== Sys2Proof/Machine/Merkle.lean ====
section
/-!
DEFINITION. The hash-based opcodes (chapter 06) and the events of the stateful keys. A stateful signing job has its leaf
from the grant (R272).
-/

namespace Sys2Proof.Machine

/-- Run a key generation (R263): as subtree jobs on the MEs of the rebuild mask, one on the ME it was granted and the others
best-effort jobs of the same instance that it waits for. A key that is registered needs none of them.
Mark: DESIGN CHOICE (log entry 105). -/
def runKeygen (s : State) (j code : Nat) (known : State → Job → Bool) (f : State → Job → State × Ending) : Result :=
  match s.job j with
  | some b =>
    if b.opcode = code ∧ b.phase = .running ∧ b.wait = .no ∧ !b.interrupted then
      let r := f s b
      match b.engineStatus with
      | some st => if st = stDONE then .next (r.1.endJob j r.2) else .next (s.failJob j st)
      | none =>
        if s.buildMes ≤ 1 ∨ known s b then .next (r.1.endJob j r.2)
        else
          .next (((List.range (s.buildMes - 1)).foldl (fun s _ =>
            (s.addJob (taskJob b.inst s.nextJob code [] { cls := 2, parent := j })).2) s).onJob j fun b =>
              { b with wait := .engine })
    else .next s
  | none => .next s

/-! ### SLH-DSA (R264 to R266) -/

/-- The expansion of an SLH-DSA seed (R265): SK.seed, SK.prf and PK.seed. Mark: DEDUCED (log entry 38). -/
def slhExpand (p : Nat) (seed : Bytes) : Bytes :=
  shake256 (asciiBytes "KRYTORATI-SLHS-1" 16 ++ leBytes p 2 ++ seed) (3 * ((slhSizes p).map (·.1)).getD 0)

/-- The SLH-DSA public key of a seed: PK.seed and PK.root (R265). -/
def slhPublic (p : Nat) (seed : Bytes) : Bytes :=
  let n := ((slhSizes p).map (·.1)).getD 0
  let x := slhExpand p seed
  x.drop (2 * n) ++ Config.standard "SLH-DSA.root" p [x] n

/-- SLHDSA_KEYGEN (R265). -/
def execSlhdsaKeygen (j : Nat) (s : State) : Result :=
  runKeygen s j opSLHDSA_KEYGEN (fun _ _ => false) fun s b =>
    (s, { done [⟨0x0051, slhPublic b.pset b.key⟩] with bind := b.pset })

/-- SLHDSA_SIGN (R266): hedged with opt_rand from the DRBG, or deterministic with PK.seed. -/
def execSlhdsaSign (j : Nat) (data : Bytes) (s : State) : Result :=
  runJob s j opSLHDSA_SIGN fun s b =>
    let z := (slhSizes b.pset).getD (0, 0, 0)
    let x := slhExpand b.pset b.key
    let r := if tlvNat b.params 0x0059 0 = 1 then (x.drop (2 * z.1), s) else s.drawBytes z.1
    (r.2, done [⟨0x0055, Config.standard "SLH-DSA.sign" b.pset (x :: mldsaInput b data ++ [r.1]) z.2.2⟩])

/-- SLHDSA_VERIFY (R266). -/
def execSlhdsaVerify (j : Nat) (data : Bytes) (s : State) : Result :=
  runJob s j opSLHDSA_VERIFY fun s b =>
    let pk := if b.handle = 0 then b.val 0x0051 else slhPublic b.pset b.key
    (s, verdictEnd (Config.standardCheck "SLH-DSA.verify" b.pset (pk :: mldsaInput b data ++ [b.val 0x0055])))

/-! ### Stateful schemes (R267 to R291) -/

/-- The public key of a stateful seed. -/
def hbsPublic (xmss : Bool) (params seed : Bytes) : Bytes :=
  Config.standard (if xmss then "XMSS.keygen" else "LMS.keygen") 0 [params, hbsExpand xmss params seed]
    (((hbsInfo xmss params).map (·.pk)).getD 0)

/-- The node a job's key was instantiated from. -/
def State.jobNode (s : State) (b : Job) : Nat := (s.nodeOf b.handle).getD 0

/-- The node of a key generation is registered (R270). -/
def State.hbsKnown (s : State) (b : Job) : Bool := (tget s.hbs.keys (s.jobNode b)).isSome

/-- LMS_KEYGEN and XMSS_KEYGEN (R270): on a node not yet registered the tree cache is built and REGISTER journalled, while P4
and the 512 keys still have room. -/
def hbsKeygen (xmss : Bool) (s : State) (b : Job) : State × Ending :=
  let v := b.val 0x0060
  let node := s.jobNode b
  let e := done [⟨0x0051, hbsPublic xmss v b.key⟩]
  match tget s.hbs.keys node with
  | some _ => (s, e)
  | none =>
    let h := ((hbsInfo xmss v).map (·.height)).getD 2
    let k : HbsKey := { xmss := xmss, params := v, inst := b.inst, height := h }
    if s.hbs.keys.length ≥ 512 ∨ s.treesUsed + k.treeBytes > s.partBytes 4 then (s, failed stLIMIT_EXCEEDED)
    else ((s.setHbs node (k.built b.key s.hbs.parity)).appendJournal node 1 0 1, e)

/-- LMS_SIGN and XMSS_SIGN (R272, R289): SIGNATURE and LEAF, with the randomizer drawn for the leaf (R262).
Mark: DEDUCED (log entries 79, 81). -/
def hbsSign (xmss : Bool) (data : Bytes) (s : State) (b : Job) : State × Ending :=
  let node := s.jobNode b
  match s.hbsOf b.handle, b.leaf with
  | some k, some leaf =>
    let i := hbsInfo xmss k.params
    let sig := Config.standard (if xmss then "XMSS.sign" else "LMS.sign") 0
      [k.params, hbsExpand xmss k.params b.key, leBytes leaf 8, b.rand, data] ((i.map (·.sig)).getD 0)
    (s.checkLow node, done [⟨0x0055, sig⟩, ⟨0x0061, leBytes leaf 8⟩])
  | _, _ => (s, failed stNOT_READY)

/-- Verification of a stateful signature (R289, R292). -/
def hbsVerify (xmss : Bool) (data : Bytes) (s : State) (b : Job) : State × Ending :=
  (s, verdictEnd (Config.standardCheck (if xmss then "XMSS.verify" else "LMS.verify") 0
    [b.val 0x0051, data, b.val 0x0055]))

/-- LMS_KEYGEN. -/
def execLmsKeygen (j : Nat) (s : State) : Result := runKeygen s j opLMS_KEYGEN State.hbsKnown (hbsKeygen false)

/-- LMS_SIGN. -/
def execLmsSign (j : Nat) (data : Bytes) (s : State) : Result := runJob s j opLMS_SIGN (hbsSign false data)

/-- LMS_VERIFY. -/
def execLmsVerify (j : Nat) (data : Bytes) (s : State) : Result := runJob s j opLMS_VERIFY (hbsVerify false data)

/-- XMSS_KEYGEN. -/
def execXmssKeygen (j : Nat) (s : State) : Result := runKeygen s j opXMSS_KEYGEN State.hbsKnown (hbsKeygen true)

/-- XMSS_SIGN. -/
def execXmssSign (j : Nat) (data : Bytes) (s : State) : Result := runJob s j opXMSS_SIGN (hbsSign true data)

/-- XMSS_VERIFY. -/
def execXmssVerify (j : Nat) (data : Bytes) (s : State) : Result := runJob s j opXMSS_VERIFY (hbsVerify true data)

/-- HBS_STATE of a key (R290). -/
def hbsStateBytes (k : Option HbsKey) (parity height : Nat) : Bytes :=
  let d : HbsKey := k.getD { xmss := false, params := [], inst := 0, height := height }
  leBytes (hbsStateCode k parity) 1 ++ leBytes parity 1 ++ leBytes d.progress 2 ++ leBytes d.leaves 4
    ++ leBytes (2 ^ d.height) 8 ++ leBytes (d.leftOwn parity) 8 ++ leBytes d.leftAll 8

/-- HBS_RESERVE_STATUS (R290). -/
def execHbsReserveStatus (j : Nat) (s : State) : Result :=
  runJob s j opHBS_RESERVE_STATUS fun s b =>
    let node := (s.nodeOf b.handle).bind fun n => tget s.ks.nodes n
    let h := (node.bind fun n => hbsInfo (n.type == 0x14) n.context).map (·.height)
    (s, done [⟨0x0062, hbsStateBytes (s.hbsOf b.handle) s.hbs.parity (h.getD 2)⟩])

/-! ### Events -/

/-- BLOCK_RESERVE (R273): nothing happens while the next block is not due or the module's parity is spent. -/
def execBlockReserve (node : Nat) (s : State) : Result :=
  match tget s.hbs.keys node with
  | none => .next s
  | some k =>
    match k.nextBlock s.hbs.parity with
    | some b => if s.reserveDue node k ∧ s.fc.mstate = .service then .next (s.reserve node k b) else .next s
    | none => .next s

/-- The oldest record of a node that has not been read back: its slot and fields. -/
def State.unreadOf (s : State) (node : Nat) : Option (Nat × JRecord) :=
  (s.hbs.unread.filterMap fun u => ((tget s.hbs.journal u.1).bind readRecord).map fun r => (u.1, r)).find? fun e =>
    e.2.node == node

/-- A record has been read back. -/
def State.clearUnread (s : State) (slot : Nat) : State :=
  { s with hbs := { s.hbs with unread := s.hbs.unread.filter fun u => u.1 != slot } }

/-- JOURNAL_READBACK (R276): the oldest record of a node that was written is read back. One that is as written stands, and a
reservation becomes usable by it (R273); one that differs leaves its slot as it is read and is written again.
Mark: DEDUCED (log entry 81). -/
def execJournalReadback (node : Nat) (ok : Bool) (s : State) : Result :=
  match s.unreadOf node with
  | none => .next s
  | some (slot, r) =>
    let s := s.clearUnread slot
    if !ok then
      let d := s.drawBytes 16
      .next (({ d.2 with hbs := { d.2.hbs with journal := tset d.2.hbs.journal slot d.1 } } : State).appendJournal node r.kind
        r.nextEven r.nextOdd)
    else match tget s.hbs.keys node with
      | some k =>
        if r.kind = 2 ∧ k.pend.isSome ∧ k.nextEven = r.nextEven ∧ k.nextOdd = r.nextOdd then
          .next ((s.setHbs node { k with readBack := true }).settleHbs)
        else .next s
      | none => .next s

/-- The subtree jobs of a node's rebuild are all done. -/
def State.subtreesDone (s : State) (node : Nat) : Bool :=
  !(s.jobs.any fun x => x.2.task.any fun u => u.node == some node)

/-- TREE_REBUILD_DONE (R286, R291): caches are rebuilt in node order; once its subtree jobs are done a key's cache is
complete, HBS_REBUILT is posted, and the next key's rebuild starts. -/
def execTreeRebuildDone (node : Nat) (s : State) : Result :=
  match s.hbs.keys.find? fun e => e.2.tree == .rebuilding with
  | some (n, k) =>
    if n = node ∧ k.parts ≠ 0 ∧ s.subtreesDone node then
      let s := s.setHbs node (k.built (s.hbsSeed node) s.hbs.parity)
      .next (((s.postEvent k.inst 0x0211 none node 0).checkLow node).launchRebuild)
    else .next s
  | none => .next s

/-- NEXT_TREE_BUILT (R285): the next tree of a lower level of a key is complete. -/
def execNextTreeBuilt (tree : KeyTree) (s : State) : Result :=
  match tget s.hbs.keys tree.node with
  | some k =>
    if k.tree = .ready then
      let seed := s.hbsSeed tree.node
      .next (s.setHbs tree.node { k with lower := k.lower.map fun t =>
        if t.level = tree.level then k.buildNext seed s.hbs.parity t else t })
    else .next s
  | none => .next s

/-- The keys whose cache is not there begin to rebuild in node order while their trees fit in P4; one that no longer fits is
CACHE_FULL (R286). -/
def fitTrees (room : Nat) : Nat → List (Nat × HbsKey) → List (Nat × HbsKey)
  | _, [] => []
  | used, (n, k) :: r =>
    let fits := decide (used + k.treeBytes ≤ room)
    (n, if k.tree = .absent then { k with tree := if fits then .rebuilding else .full } else k)
      :: fitTrees room (if fits then used + k.treeBytes else used) r

/-- The rebuilds begin once P4 can be used (R286). -/
def State.startRebuilds (s : State) : State :=
  if !s.ready 4 then s
  else ({ s with hbs := { s.hbs with keys := fitTrees (s.partBytes 4) 0 s.hbs.keys } } : State).launchRebuild

/-- A key as the start-up scan finds it: its pointers from its latest record, its parameters from its node. -/
def scannedKey (r : JRecord) (d : Node) (failed_ : Bool) : HbsKey :=
  let i := hbsInfo (d.type == 0x14) d.context
  { xmss := d.type == 0x14, params := d.context, inst := d.owner, height := (i.map (·.height)).getD 2,
    nextEven := r.nextEven + (if failed_ then 4 else 0), nextOdd := r.nextOdd + (if failed_ then 4 else 0),
    tree := .absent }

/-- The slots whose record's CRC fails (R277): SEQ 0 marks an empty record. -/
def State.badSlots (s : State) : List Nat :=
  (s.hbs.journal.filter fun e => leAt e.2 0 4 != 0 && !crcOk e.2).map (·.1)

/-- JOURNAL_STARTUP_SCAN (R277): W, SEQ and every key from the journal; a record whose CRC fails is counted, raises a
CONTAINED fault against the NV store at its offset in N3 (R592), and advances both pointers of every key by 4. -/
def execJournalStartupScan (s : State) : Result :=
  if !s.hbs.keys.isEmpty ∨ s.domain 3 ≠ .on then .next s
  else
    let bad := s.badSlots
    let top := s.records.foldl (fun a (e : Nat × JRecord) => if e.2.seq > a.2 then (e.1 + 1, e.2.seq) else a) (0, 0)
    let s := { s with hbs := { s.hbs with w := top.1 % 4096, seq := top.2, crcFailed := bad.length } }
    let live := ((List.range 4096).filterMap s.liveAt).mergeSort fun a b => a.node ≤ b.node
    let keys := live.foldl (fun t r => match tget s.ks.nodes r.node with
      | some d => tset t r.node (scannedKey r d (bad != []))
      | none => t) []
    let s := { s with hbs := { s.hbs with keys := keys } }.startRebuilds
    .next (bad.foldl (fun s slot =>
      s.raise { source := 0x610, access := 0, kind := 0x06, master := 0, address := 0x30000 + 16 * slot, fatal := false }) s)

/-- RESERVE_WAIT_EXPIRY (R274): a signing job that has waited 2 crossings for a usable reservation. -/
def execReserveWaitExpiry (j : Nat) (s : State) : Result :=
  match s.job j with
  | none => .next s
  | some b =>
    match b.wait with
    | .reservation node =>
      let late := b.waitUp.any fun t => s.passed t (s.crossingsNs 2)
      if !late then .next s
      else
        let s := match tget s.hbs.keys node with
          | some k => s.setHbs node { k with waiting := true }
          | none => s
        .next (s.failJob j stNOT_READY)
    | _ => .next s

end Sys2Proof.Machine
end

