-- ==== Sys2Proof/Machine/Random.lean ====
section
/-!
DEFINITION. The random commands (chapter 12): RNG_GET and RNG_STATUS, the RNG_DATA word port, the noise sources, the
conditioner, the DRBGs and the expanders.
-/

namespace Sys2Proof.Machine

/-! ### Jobs that no engine runs -/

/-- Start a hardware-interpreted job that needs no engine, and end it with what `f` answers; `f` may leave it waiting.
Mark: DEDUCED (log entry 31), DESIGN CHOICE (log entry 5). -/
def runDirect (s : State) (j code : Nat) (f : State → Job → State) : Result :=
  match s.job j with
  | some b =>
    if b.opcode = code ∧ b.phase = .fifo ∧ b.ending = none then
      .next (if s.deadlinePassed b then s.failJob j stDEADLINE_MISSED else f s b)
    else .next s
  | none => .next s

/-- The start of a job without an engine (R133). Mark: DEDUCED (log entry 31). -/
def State.startDirect (s : State) (j : Nat) : State :=
  s.onJob j fun b => { b with started := true, start := s.tb.stamp, startUp := s.now }

/-! ### RNG_GET and RNG_STATUS (R496, R497) -/

/-- RNG_GET. Mark: DEDUCED (log entry 31). -/
def execRngGet (j : Nat) (s : State) : Result :=
  runDirect s j opRNG_GET fun s b =>
    let n := tlvNat b.params 0x00D0 0
    if outputLen b.frags < n then s.failJob j stLENGTH_MISMATCH
    else if n = 0 then s.failJob j stMALFORMED
    else if n > 1048576 then s.failJob j stLIMIT_EXCEEDED
    else
      let m := ceilDiv n 4096
      if s.drbgCover 0 < m then s.lacksRandom j
      else
        let g := (s.startDirect j).generate 0 m
        let d := g.2.drawBytes n
        (d.2.onJob j fun b => { b with drbgOnly := g.1 }).endJob j { status := stDONE, out := d.1 }

/-- STATE of RNG_SRC_STATE (R498). -/
def State.rngState (s : State) : Nat :=
  if s.domain 4 != .on then 0
  else if s.rng.failed then 4
  else match (s.sourcesIn .active).length with
    | 0 => 1
    | 1 => 3
    | _ => 2

/-- The code of a source's state (R498). -/
def sourceCode : SourceState → Nat
  | .off => 0 | .startup => 1 | .standby => 2 | .active => 3 | .retired => 4 | .disabled => 5

/-- The fields NS0 to NS3 of RNG_SRC_STATE (R498). -/
def State.sourceBits (s : State) : Nat := ((List.range 4).map fun i => sourceCode (s.source i).state * 16 ^ i).sum

/-- RNG_INFO (R497). -/
def State.rngInfo (s : State) : Bytes :=
  let d := s.drbg 0
  leBytes s.rngState 1 ++ zeros 1 ++ leBytes s.sourceBits 2 ++ leBytes s.rng.epoch 4 ++ leBytes d.left 4
    ++ leBytes (b2n d.stopped + 2 * b2n (s.oldEpoch 0) + 4 * b2n d.staged.isSome) 1 ++ zeros 3

/-- RNG_STATUS. -/
def execRngStatus (j : Nat) (s : State) : Result :=
  runDirect s j opRNG_STATUS fun s b =>
    if b.resultCap < tlvLen 16 then s.failJob j stLIMIT_EXCEEDED
    else (s.startDirect j).endJob j (done [⟨0x00D1, s.rngInfo⟩])

/-! ### The word port (R495) -/

/-- A function's RNG_DATA buffer. Mark: DEDUCED (log entry 42). -/
def State.rngWords (s : State) (fn : Nat) : List Nat := tgetD s.rng.words fn []

/-- Store a function's buffer. -/
def State.setRngWords (s : State) (fn : Nat) (w : List Nat) : State :=
  { s with rng := { s.rng with words := tput s.rng.words fn w [] } }

/-- Function `fn` has a buffer: the physical function, or that of an instance that exists (R542). -/
def State.rngPort (s : State) (fn : Nat) : Bool := fn == 0 || (tgetD s.insts fn {}).state != .absent

/-- A read of RNG_DATA takes one word, or returns zero and sets ERR (R495, R542). -/
def execRngData (fn : Nat) (s : State) : Result :=
  match s.rngWords fn, s.rngPort fn with
  | w :: r, true => .next ((s.setRngWords fn r).emit (.readData fn aRNG_DATA (BitVec.ofNat 32 (2 ^ 31 + w % 65536))))
  | _, _ =>
    let s := { s with rng := { s.rng with err := if s.rng.err.contains fn then s.rng.err else s.rng.err ++ [fn] } }
    .next ((s.bump aRNG_EMPTY_READS 0).emit (.readData fn aRNG_DATA 0))

/-- A function's buffer is refilled from D0 by one generate request (R495). -/
def execRngBufferRefill (fn : Nat) (s : State) : Result :=
  if s.ready 3 ∧ s.rngPort fn ∧ (s.rngWords fn).length ≤ 32 ∧ 1 ≤ s.drbgCover 0 then
    let s := (s.generate 0 1).2
    let d := s.drawBytes 64
    .next (d.2.setRngWords fn (s.rngWords fn ++ (List.range 32).map fun i => leAt d.1 (2 * i) 2))
  else .next s

/-! ### Waiting (R489) -/

/-- A job's wait for randomness runs out, 2 crossings after it first found randomness lacking (R256, R419, R486, R489). -/
def execRngWaitExpiry (j : Nat) (s : State) : Result :=
  match s.job j with
  | some b =>
    if b.ending = none ∧ (b.phase = .fifo ∨ b.wait = .random)
        ∧ (b.lackUp.any fun t => s.passed t (s.crossingsNs 2)) = true then .next (s.rngUnavailable j)
    else .next s
  | none => .next s

/-! ### Noise sources -/

/-- A source's feedback loop has settled (R476): it runs its start-up test, unless SRC_EN forbids it. -/
def execNoiseSourceSettled (src : Nat) (s : State) : Result :=
  if src < 4 ∧ s.domain 4 = .on ∧ (s.source src).state = .off then
    .next (s.setSource src { state := if bitAt (s.fld aRNG_CTL 3 0) src then .startup else .disabled })
  else .next s

/-- A source fails a health test (R477, R478, R490): 1 repetition count, 2 adaptive proportion, 3 start-up. -/
def execNoiseSourceFail (src test : Nat) (s : State) : Result :=
  let x := s.source src
  let running := x.state = .active ∨ x.state = .standby
  if src < 4 ∧ (running ∧ (test = 1 ∨ test = 2) ∨ x.state = .startup ∧ test = 3) then
    let s := if test = 1 then s.bump aRNG_RCT_FAIL 0 else if test = 2 then s.bump aRNG_APT_FAIL 0 else s
    let s := s.bump aRNG_RETIRE_CNT 0
    let s := s.setSource src { state := .retired, retiredAt := s.now, retestPassed := x.retestPassed }
    let s := s.raise { source := 0x430 + src, access := 0, kind := 0x30, master := 0, address := test, fatal := false }
    let s := if x.state = .active then s.bump aRNG_BLOCKS_DISCARDED 0 else s
    let s := if x.state = .active ∨ x.joining then s.switchSource src test else s.nextEpoch
    .next s.checkLost
  else .next s

/-- A source passes the start-up test (R478, R490, R494): it becomes ACTIVE where it is to join, or while the subsystem
starts and fewer than two are, or where none is; else STANDBY. Mark: DEDUCED (log entry 41). -/
def execStartupTestPass (src : Nat) (s : State) : Result :=
  let x := s.source src
  if src < 4 ∧ x.state = .startup then
    let n := (s.sourcesIn .active).length
    let join := n = 0 ∨ n < 2 ∧ (x.joining ∨ !s.rng.ready)
    let s := s.setSource src { state := if join then .active else .standby, retiredAt := x.retiredAt,
                               retestPassed := if x.auto then some s.now else x.retestPassed }
    .next { s with rng := { s.rng with failed := false } }
  else .next s

/-- The automatic retest of a retired source, 1 s after its retirement (R478), except within 24 hours of the last one it passed. -/
def execAutoRetest (src : Nat) (s : State) : Result :=
  let x := s.source src
  let barred := x.retestPassed.any fun t => x.retiredAt < t + 86400 * 10 ^ 9
  if src < 4 ∧ x.state = .retired ∧ s.fld aRNG_CTL 8 8 = 1 ∧ !barred ∧ s.passed x.retiredAt (10 ^ 9) then
    .next (s.setSource src { x with state := .startup, auto := true })
  else .next s

/-- A write of RNG_RETEST (R478): each named RETIRED source runs the start-up test. -/
def execRngRetest (v : Reg) (s : State) : Result :=
  .next ((List.range 4).foldl (fun s i =>
    let x := s.source i
    if bitAt v.toNat i ∧ x.state = .retired then s.setSource i { x with state := .startup, auto := false } else s) s)

/-! ### The conditioner and the DRBGs -/

/-- The conditioner releases a block (R479): it goes to the first DRBG in the order of R484. -/
def execConditionerBlock (s : State) : Result :=
  if s.sourcesIn .active = [] then .next s
  else
    let s := s.bump aRNG_BLOCKS 0
    let e := s.rng.epoch
    match seedOrder.find? fun d => (s.drbg d).stopped with
    | some d => .next (s.reseed d e)
    | none =>
      match seedOrder.find? fun d => !(s.drbg d).inst with
      | some d => .next (s.setDrbg d { inst := true, left := reseedInterval, epoch := e })
      | none =>
        match seedOrder.find? fun d => (s.drbg d).staged.isNone with
        | some d => .next (s.setDrbg d { (s.drbg d) with staged := some e })
        | none => .next s

/-- A DRBG has made its last request and reseeds from its staged seed, or stops (R483). -/
def execDrbgReseed (d : Nat) (s : State) : Result :=
  if d ≤ 8 then .next (s.atLimit d) else .next s

/-- An expander takes a seed by one generate request of its class DRBG (R486). -/
def execExpanderSeed (cls : EngClass) (eng : Nat) (s : State) : Result :=
  let c := classCode cls
  let k := engKey c eng
  if 1 ≤ c ∧ c ≤ 4 ∧ eng < classSize c ∧ (s.expander k).left ≤ 65536 ∧ s.ready 3 ∧ 1 ≤ s.drbgCover (classDrbg c) then
    let g := s.generate (classDrbg c) 1
    .next (g.2.setExpander k { left := 1048576, old := g.1 })
  else .next s

/-- No source is left (R492). -/
def execRngFailed (s : State) : Result := if s.domain 4 = .on then .next s.checkLost else .next s

end Sys2Proof.Machine
end

