-- ==== Sys2Proof/Machine/UpdateOps.lean ====
section
/-!
DEFINITION. The shared operations of the key commands (chapter 11): creating slots, invalidation with what hangs on a key,
public keys and the identity, and key-update messages.
-/

namespace Sys2Proof.Machine

/-! ### Creating slots (R450, R451, R472, R573) -/

/-- A queue's result buffer cannot hold `n` bytes (R168). -/
def Job.noRoom (b : Job) (n : Nat) : Bool :=
  match b.src with
  | .queue _ => b.resultCap < n
  | _ => false

/-- Approve the handles of a command that no engine runs (R446); the first refusal ends it. -/
def State.withKeys (s : State) (j inst : Nat) (ns : List KeyNeed) (f : State → State) : State :=
  match s.approve inst ns with
  | .error st => (s.failJob j st).bump aKS_REFUSALS 0
  | .ok s' => f (s'.onJob j fun b => { b with approved := ns.map fun n => hSlot n.handle })

/-- KEY_FLAGS asks for a mirrored slot. -/
def Job.mirrors (b : Job) : Bool := tlvNat b.params 0x00C6 0 == 1

/-- KEY_TYPE, KEY_LEN, POLICY, USE_LIMIT or KEY_FLAGS of a creation is refused (R442 to R444, R472). -/
def Job.newBad (b : Job) : Bool :=
  let type := tlvNat b.params 0x00B4 0
  let pol := tlvNat b.params 0x00B6 0
  !typeLenOk type (tlvNat b.params 0x00B5 0) || persistentOnly type || !policyClean pol
    || (bitAt pol 9 && tlvNat b.params 0x00B7 0 != 0) || tlvNat b.params 0x00C6 0 > 1

/-- The slot a creation fills: what its TLVs give it. -/
def Job.newSlot (b : Job) (v : Bytes) (level origin : Nat) : Slot :=
  let limit := tlvNat b.params 0x00B7 0
  { state := .loaded, type := tlvNat b.params 0x00B4 0, val := v, policy := tlvNat b.params 0x00B6 0,
    uses := if limit = 0 then none else some limit, level := level, origin := origin, mirror := b.mirrors }

/-- What the pair does with a creation (R571, R573). -/
def State.mirrorFor (s : State) (b : Job) : MirrorMode := if b.mirrors then s.mirrorMode else .here

/-- The body of a SLOT_FILL record (R572). -/
def State.slotFill (s : State) (n : Nat) : Bytes :=
  beBytes (s.handleOf n) 8 ++ s.keyAttr n false ++ fitBytes (s.slot n).val 64

/-- Create a slot and end the command with its handle; a mirrored slot lies in the mirror range, is filled before its
record is sent, and the command waits for the acknowledgement (R573, R574). -/
def State.createKey (s : State) (j : Nat) (b : Job) (x : Slot) : State :=
  match s.createSlot b.inst (if b.mirrors then 0xF000 else 0) (if b.mirrors then 0x10000 else 0xF000) x with
  | .error st => s.failJob j st
  | .ok (n, s) =>
    let e := done [⟨0x00B8, leBytes (s.handleOf n) 8⟩]
    match s.mirrorFor b with
    | .send =>
      let s := s.onJob j fun b => { b with phase := .running, after := some e }
      (s.sendRecord 0x50 (s.slotFill n) (some j)).awaitAck j
    | _ => s.endJob j e

/-- Run a creation unless the pair refuses it. -/
def State.mayCreate (s : State) (j : Nat) (b : Job) (f : State → State) : State :=
  match s.mirrorFor b with
  | .refuse st => s.failJob j st
  | _ => f s

/-! ### Invalidation (R314, R464, R467) -/

/-- The sealed copies and peer entries of slots go (R314, R467). -/
def State.dropCopies (s : State) (ns : List Nat) : State :=
  let s := { s with parts := { s.parts with sealed := s.parts.sealed.filter fun c => !ns.contains c.slot } }
  ns.foldl State.freePeerOf s

/-- T_inv on a slot, with what its descendants lose. -/
def State.invalidateKey (s : State) (n : Nat) : State :=
  let family := n :: (s.ks.slots.map (·.1)).filter fun k => s.descends n 8 k
  (s.invalidate n).dropCopies family

/-- The lead sends slot records to its partner (R573, R576). -/
def State.mirrorsSlots (s : State) : Bool := s.tw.role == 1 && (s.tw.state == .paired || s.tw.state == .frozen)

/-- Send SLOT_INVALIDATE for a handle (R572). -/
def State.sendInvalidate (s : State) (h scope : Nat) (job : Option Nat) : State :=
  if s.mirrorsSlots ∧ 0xF000 ≤ hSlot h then s.sendRecord 0x51 (beBytes h 8 ++ leBytes scope 1) job else s

/-- The slots that the running scan will make STALE (R464). -/
def State.scanHits (s : State) : List Nat :=
  (s.ks.slots.map (·.1)).filter fun k => (s.slot k).counts && (s.slot k).state != .stale
    && s.ks.scanOf.any fun r => s.descends r 8 k

/-! ### Public keys (R461, R471) -/

/-- The public key of an asymmetric slot bound to its set, curve or parameters; `none` for any other.
Mark: DEDUCED (log entry 34). -/
def State.publicOf (s : State) (x : Slot) : Option Bytes :=
  let ctx := ((x.node.bind fun n => tget s.ks.nodes n).map (·.context)).getD []
  let known := x.node.any fun n => (tget s.hbs.keys n).isSome
  match x.type with
  | 0x13 => if known then some (hbsPublic false ctx x.val) else none
  | 0x14 => if known then some (hbsPublic true ctx x.val) else none
  | _ =>
    if x.pset = 0 then none
    else match x.type with
      | 0x10 => some (mlkemPublic x.pset x.val)
      | 0x11 => some (mldsaPublic x.pset x.val)
      | 0x12 => some (slhPublic x.pset x.val)
      | 0x18 => some (mcePublic x.pset x.val)
      | 0x19 => some (Config.standard "HQC.keygen" x.pset [hqcExpand x.pset x.val] (((hqcSizes x.pset).map (·.1)).getD 0))
      | 0x20 => some (ecPublic x.pset (ecPrivate x.pset (x.origin == 4) x.val))
      | 0x21 => some (ecPublic x.pset x.val)
      | 0x22 => some (ecPublic x.pset x.val)
      | 0x23 => some (rsaModulus x.pset x.val)
      | _ => none

/-- The engine bit of a type's keygen (R443). -/
def keygenEngine (type : Nat) : Nat :=
  if type = 0x10 ∨ type = 0x11 then 16 else if type = 0x12 ∨ type = 0x13 ∨ type = 0x14 then 17
  else if type = 0x18 ∨ type = 0x19 then 18 else 19

/-- Sign with the identity key, COMBO 0x25, over a body and a context (R461, R462). -/
def State.identitySign (s : State) (ctx : String) (body : Bytes) : Bytes × State :=
  let m := compositeMessage 0x25 (asciiBytes ctx ctx.length) body
  let r := s.drawBytes 32
  let x := r.2.drawBytes 32
  (mldsaSignature 87 [s.idSeed "KRYTORATI-IDMLDSA-1" 32, [0], [], m, r.1]
    ++ compositeClassical 2 2 (ecPrivate 2 false (s.idSeed "KRYTORATI-IDECDSA-1" 32)) x.1 m, x.2)

/-- The seeds of the update-transport key (R437): ML-KEM-1024 and X25519. -/
def State.transportSeeds (s : State) : Bytes × Bytes :=
  (s.idSeed "KRYTORATI-TRMLKEM-1" 64, s.idSeed "KRYTORATI-TRX25519-1" 32)

/-- The public update-transport key, COMBO 0x03 (R461). -/
def State.transportPublic (s : State) : Bytes :=
  mlkemPublic 1024 s.transportSeeds.1 ++ ecPublic 0x10 s.transportSeeds.2

/-- AES key unwrapping with padding (RFC 5649), for two semiblocks or more. -/
def aesUnwrapPad (key c : Bytes) : Option Bytes :=
  let n := c.length / 8 - 1
  let r := (List.range n).map fun i => slice c (8 * (i + 1)) 8
  let z := unwrapSteps key n (6 * n) (c.take 8) r
  let v := z.2.flatten
  let m := beNat (z.1.drop 4)
  if c.length % 8 = 0 ∧ z.1.take 4 = [0xA6, 0x59, 0x59, 0xA6] ∧ m ≤ v.length ∧ v.length < m + 8 ∧ allZero (v.drop m) = true then
    some (v.take m)
  else none

/-! ### Key-update messages (R454 to R457) -/

/-- One record (R456). -/
structure UpdRecord where
  op : Nat
  node : Nat
  body : Bytes
  deriving DecidableEq, Repr

/-- Read the records; `none` when the framing fails. -/
def parseRecords : (fuel : Nat) → Bytes → Option (List UpdRecord)
  | 0, b => if b.isEmpty then some [] else none
  | f + 1, b =>
    if b.isEmpty then some []
    else
      let n := leAt b 4 4
      let size := 8 + roundUp n 8
      if b.length < 8 ∨ leAt b 1 1 ≠ 0 ∨ b.length < size ∨ !allZero (slice b (8 + n) (size - 8 - n)) then none
      else (parseRecords f (b.drop size)).map (⟨leAt b 0 1, leAt b 2 2, slice b 8 n⟩ :: ·)

/-- The descriptor of a PUT record has its KIND, and its reserved and unused bytes are zero (R453). -/
def descOk (b : Bytes) (kind : Nat) : Bool :=
  leAt b 5 1 == kind && leAt b 7 1 < 4 && leAt b 26 2 == 0 && 1 ≤ leAt b 24 1 && leAt b 24 1 ≤ 64 && leAt b 25 1 ≤ 72
    && allZero (slice b (28 + leAt b 24 1) (64 - leAt b 24 1)) && allZero (slice b (92 + leAt b 25 1) (72 - leAt b 25 1))

/-- A record has the LEN, NODE and reserved fields of its operation (R456). -/
def recordOk (r : UpdRecord) : Bool :=
  let len := r.body.length
  match r.op with
  | 0x01 => r.node < 4096 && len == 164 && descOk r.body 1
  | 0x02 => r.node < 4096 && len == 236 && descOk r.body 2
  | 0x03 => r.node < 4096 && len == 0
  | 0x10 => r.node == 0 && 4 < len && len ≤ 8192 && 1 ≤ leAt r.body 0 1 && leAt r.body 0 1 ≤ 3
      && allZero (slice r.body 1 3) && (leAt r.body 0 1 == 2 || len == 4 + 2689)
  | 0x11 => r.node == 0 && len == 32
  | 0x20 => r.node == 0 && len == 4 && leAt r.body 0 4 < 4
  | _ => false

/-- The records of a message. -/
def updRecords (m : Bytes) : Option (List UpdRecord) :=
  parseRecords (leAt m 12 2) (slice m (leAt m 104 4) (leAt m 108 4))

/-- Check 1 on the header (R454). -/
def updHeaderBad (m : Bytes) (rs : List UpdRecord) : Bool :=
  let kem := if rs.any fun r => r.op == 0x02 then 1600 else 0
  slice m 0 4 != asciiBytes "KKU1" 4 || leAt m 4 2 != 1 || leAt m 6 2 != 128
    || leAt m 8 4 != 128 + leAt m 100 4 + leAt m 108 4 + 4723 || m.length != leAt m 8 4
    || rs.length != leAt m 12 2 || rs.length == 0 || rs.length > 256 || leAt m 14 1 == 0 || leAt m 14 1 > 2
    || leAt m 15 1 != 0 || leAt m 48 8 ≥ 2 ^ 62 || leAt m 96 4 != 128 || leAt m 100 4 != kem
    || leAt m 104 4 != 128 + kem || !allZero (slice m 112 16)

/-- What a message makes of the key store: nodes, trust records, a new KS_CTL, and the nodes replaced or deleted. -/
structure UpdResult where
  nodes : Tab Node
  trust : List Trust
  ctl : Option Nat := none
  changed : List Nat := []
  deriving DecidableEq, Repr

/-- Apply one record; `k` unwraps sealed values. -/
def applyRecord (k : Bytes) (u : UpdResult) (r : UpdRecord) : UpdResult :=
  let touch := if (tget u.nodes r.node).isSome then u.changed ++ [r.node] else u.changed
  match r.op with
  | 0x01 => { u with nodes := tset u.nodes r.node (parseDesc r.body []).2, changed := touch }
  | 0x02 =>
    let n := leAt r.body 23 1
    let v := (aesUnwrapPad k (slice r.body 164 (8 + roundUp n 8))).getD []
    { u with nodes := tset u.nodes r.node (parseDesc r.body v).2, changed := touch }
  | 0x03 => { u with nodes := tdel u.nodes r.node, changed := touch }
  | 0x10 =>
    let t : Trust := ⟨leAt r.body 0 1, r.body.drop 4⟩
    { u with trust := if u.trust.contains t then u.trust else u.trust ++ [t] }
  | 0x11 => { u with trust := u.trust.filter fun t => sha3_256 t.body != r.body }
  | _ => { u with ctl := some (leNat r.body) }

/-- Apply all records. -/
def State.updResult (s : State) (k : Bytes) (rs : List UpdRecord) : UpdResult :=
  rs.foldl (applyRecord k) { nodes := s.ks.nodes, trust := s.ks.trust }

/-- A node agrees with R442 to R444, and a stateful one's CONTEXT with R452. -/
def nodeOk (d : Node) : Bool :=
  typeLenOk d.type d.valLen && policyClean d.policy && !(bitAt d.policy 9 && d.useLimit != 0)
    && (d.type != 0x13 || (lmsInfo d.context).isSome) && (d.type != 0x14 || (xmssInfo d.context).isSome)

/-- Every parent exists and every LEVEL is right (R452). -/
def levelsOk (t : Tab Node) : Bool :=
  t.all fun e =>
    if e.2.parent = 0xFFFF then e.2.level == 1
    else match tget t e.2.parent with
      | some p => e.2.level == p.level + 1 && e.2.level ≤ 8
      | none => false

/-- Check 8 on one record: its descriptor, and no registered stateful node replaced (R270). -/
def State.putOk (s : State) (r : UpdRecord) : Bool :=
  if r.op = 0x01 ∨ r.op = 0x02 then
    leAt r.body 0 2 == r.node && nodeOk (parseDesc r.body []).2 && (tget s.hbs.keys r.node).isNone
  else true

/-- K_upd (R455): the KEM ciphertext decapsulated with the update-transport key; empty when there is none. -/
def State.updKey (s : State) (m : Bytes) : Option Bytes :=
  if leAt m 100 4 = 0 then some []
  else
    let ctM := slice m 128 1568
    let ctT := slice m (128 + 1568) 32
    (ecAgree 0x10 s.transportSeeds.2 ctT).map fun ssT =>
      kmac256 (hybridKey 0x03 (mlkemDecaps 1024 s.transportSeeds.1 ctM) ssT ctM ctT) (slice m 16 40) 32
        "KRYTORATI-KUPD-WRAP"

/-- A sealed value unwraps with the length VAL_LEN. -/
def unwrapsOk (k : Bytes) (r : UpdRecord) : Bool :=
  r.op != 0x02 || (aesUnwrapPad k (slice r.body 164 (8 + roundUp (leAt r.body 23 1) 8))).any fun v =>
    v.length == leAt r.body 23 1

/-- The key that signed: an owner-authority key of N5, or in a claim from instance 0 the message's own (R457, R459). -/
def State.updSigner (s : State) (m : Bytes) (rs : List UpdRecord) (host : Bool) : Option Bytes :=
  let id := slice m 64 32
  let owners := (s.ks.trust.filter fun t => t.role == 1).map (·.body)
  if owners.isEmpty then
    if host then
      ((rs.filter fun r => r.op == 0x10 && leAt r.body 0 1 == 1).map fun r => r.body.drop 4).find? fun k => sha3_256 k == id
    else none
  else owners.find? fun k => sha3_256 k == id

/-- The module is paired. -/
def State.isPaired (s : State) : Bool := s.tw.state != .unpaired && s.tw.state != .pairing

/-- A failed check: its code, record index, status, and whether the signature had verified. -/
structure UpdFail where
  code : Nat
  record : Nat := 0xFFFF
  status : Nat
  verified : Bool := true
  deriving DecidableEq, Repr

/-- The index of the first record a predicate fails on. -/
def firstRecord (p : UpdRecord → Bool) (rs : List UpdRecord) : Option Nat :=
  (rs.zipIdx.find? fun e => !p e.1).map (·.2)

/-- Checks 4 to 8 of R457. -/
def State.updTarget (s : State) (m : Bytes) (rs : List UpdRecord) : Except UpdFail UpdResult :=
  let no := fun (c : Nat) => (Except.error { code := c, status := stUPDATE_REJECTED } : Except UpdFail UpdResult)
  let bindOk := if s.isPaired then leAt m 14 1 == 2 && slice m 16 32 == s.tw.pairId
    else leAt m 14 1 == 1 && slice m 16 32 == s.mid
  if !bindOk then no 4
  else if leAt m 48 8 ≤ s.ks.updCounter then no 5
  else if leAt m 56 8 ≠ 0 ∧ leAt m 56 8 ≤ s.stampNow then no 6
  else match s.updKey m with
    | none => no 7
    | some k =>
      match firstRecord (unwrapsOk k) rs with
      | some i => .error { code := 7, record := i, status := stUPDATE_REJECTED }
      | none =>
        match firstRecord s.putOk rs with
        | some i => .error { code := 8, record := i, status := stCONFIG_INCONSISTENT }
        | none =>
          let u := s.updResult k rs
          if levelsOk u.nodes ∧ u.nodes.length ≤ 4096 then .ok u
          else .error { code := 8, status := stCONFIG_INCONSISTENT }

/-- Checks 1 to 8 of R457, in order. Mark: DEDUCED (log entry 35). -/
def State.checkUpdate (s : State) (m : Bytes) (host : Bool) : Except UpdFail UpdResult :=
  match updRecords m with
  | none => .error { code := 1, status := stMALFORMED, verified := false }
  | some rs =>
    if updHeaderBad m rs then .error { code := 1, status := stMALFORMED, verified := false }
    else match firstRecord recordOk rs with
      | some i => .error { code := 1, record := i, status := stMALFORMED, verified := false }
      | none =>
        match s.updSigner m rs host with
        | none => .error { code := 2, status := stUPDATE_REJECTED, verified := false }
        | some pk =>
          if compositeVerify 0x25 (asciiBytes "KRYTORATI-KUPD-1" 16) (m.take (m.length - 4723)) pk
              (m.drop (m.length - 4723)) ≠ some true then
            .error { code := 3, status := stUPDATE_REJECTED, verified := false }
          else s.updTarget m rs

/-- A refused message is counted, and its check code kept (R457, R473). -/
def State.rejectUpdate (s : State) (f : UpdFail) : State :=
  { s with ks := { s.ks with lastFail := f.code, lastRecord := f.record } }.bump aKS_UPD_REJECT 0

/-- How a refused KEY_UPDATE_APPLY ends. -/
def UpdFail.ending (f : UpdFail) : Ending :=
  { status := f.status, verdict := verdictOf f.verified, results := [⟨0x00C1, leBytes f.code 1 ++ leBytes f.record 2⟩] }

/-- Store what a message or a RESYNC makes of the key store (R458, R578), but for KS_CTL.
Mark: DEDUCED (log entry 35). -/
def State.storeUpdate (s : State) (u : UpdResult) (counter : Nat) : State :=
  let gone := u.changed.filter fun n => (tget u.nodes n).isNone
  let s := s.storeNodes u.nodes u.trust
  let s := { s with ks := { s.ks with updCounter := counter } }
  let hit := (s.ks.slots.filter fun e => e.2.counts && e.2.state != .stale && e.2.node.any u.changed.contains).map (·.1)
  let s := hit.foldl State.invalidateKey s
  gone.foldl State.retireHbs s

/-- How an applied message ends. -/
def State.updateDone (s : State) : Ending :=
  { done [⟨0x00C0, leBytes s.ks.updCounter 8⟩] with verdict := verdictOf true }

/-- The effects of an accepted message (R458). The counter of a message that passed check 5 is above the stored one; one
whose partner acknowledged it later does not lower what was stored meanwhile. KS_CTL is staged, and the command `job` ends
with its guard (R106); without KS_CTL it ends at once. Mark: DESIGN CHOICE (log entry 36). -/
def State.commitUpdate (s : State) (u : UpdResult) (counter : Nat) (job : Option Nat) : State :=
  let s := (s.storeUpdate u (max s.ks.updCounter counter)).bump aKS_UPD_OK 0
  match u.ctl, job with
  | some v, _ => s.requestSet { groups := 0x1000, writes := [(aKS_CTL, v)], job := job.map fun j => (j, s.updateDone) }
  | none, some j => s.endJob j s.updateDone
  | none, none => s

end Sys2Proof.Machine
end

