-- ==== Sys2Proof/Machine/Keys.lean ====
section
/-!
DEFINITION. The key commands (chapter 11).
-/

namespace Sys2Proof.Machine

/-! ### KEY_DERIVE (R448 to R450, R471, R472) -/

/-- A KEY_DERIVE job's TLVs beyond ACTION are exactly those its ACTION may carry. -/
def Job.deriveTlvs (b : Job) (must may : List Nat) : Bool :=
  must.all b.has && b.params.all fun t => t.type == 0x00B0 || must.contains t.type || may.contains t.type

/-- ACTION of a KEY_DERIVE job. -/
def Job.action (b : Job) : Nat := tlvNat b.params 0x00B0 0

/-- KEY_DERIVE with ACTION 0: a child slot with the value of R448. Mark: DEDUCED (log entry 32). -/
def deriveChild (s : State) (j : Nat) (b : Job) : State :=
  let label := b.val 0x00B2
  let ctx := b.val 0x00B3
  let n := hSlot b.handle
  if b.resultCap < tlvLen 8 then s.failJob j stLIMIT_EXCEEDED
  else if !b.deriveTlvs [0x00B2, 0x00B4, 0x00B5, 0x00B6] [0x00B3, 0x00B7, 0x00C6] ∨ b.newBad ∨ label.length = 0
      ∨ label.length > 64 ∨ ctx.length > 72 then s.failJob j stMALFORMED
  else if (s.slot n).level ≥ 8 ∧ s.checkOk b.handle then s.failJob j stMALFORMED
  else s.mayCreate j b fun s =>
    s.withKeys j b.inst [b.keyNeed [0x01] [0, 23] none] fun s =>
      let p := s.slot n
      let v := kdf p.val ctx label (tlvNat b.params 0x00B5 0)
      s.createKey j b { b.newSlot v (p.level + 1) 2 with parent := some (n, p.gen) }

/-- KEY_DERIVE, ACTION 0; an ACTION that R469 does not give is MALFORMED. Mark: DEDUCED (log entries 31, 32). -/
def execKeyDerive (j : Nat) (s : State) : Result :=
  runDirect s j opKEY_DERIVE fun s b =>
    if b.action = 0 then deriveChild (s.startDirect j) j b
    else if b.action > 2 then s.failJob j stMALFORMED
    else s

/-- The slot of an instance that holds an instantiation of a node (R449). -/
def State.instantiated (s : State) (inst node : Nat) : Option Nat :=
  (s.ks.slots.find? fun e => e.2.state == .loaded && e.2.inst == inst && e.2.node == some node).map (·.1)

/-- KEY_DERIVE with ACTION 1 (R449): the existing handle, or a slot with the node's value and attributes. -/
def instantiate (s : State) (j : Nat) (b : Job) : State :=
  let node := tlvNat b.params 0x00B1 0
  if b.resultCap < tlvLen 8 then s.failJob j stLIMIT_EXCEEDED
  else if !b.deriveTlvs [0x00B1] [] ∨ b.handle ≠ 0 then s.failJob j stMALFORMED
  else match tget s.ks.nodes node with
    | none => s.failJob j stKEY_ABSENT
    | some d =>
      if d.owner ≠ b.inst ∧ d.owner ≠ 0xFF then s.failJob j stKEY_POLICY
      else match s.instantiated b.inst node with
        | some n => s.endJob j (done [⟨0x00B8, leBytes (s.handleOf n) 8⟩])
        | none =>
          s.createKey j b
            { state := .loaded, type := d.type, pset := d.pset, val := s.nodeValue 9 node, policy := d.policy,
              uses := if d.useLimit = 0 then none else some d.useLimit, level := d.level,
              origin := if d.kind = 2 then 6 else 5, node := some node }

/-- INSTANTIATE. Mark: DEDUCED (log entry 33). -/
def execKeyInstantiate (j : Nat) (s : State) : Result :=
  runDirect s j opKEY_DERIVE fun s b => if b.action = 1 then instantiate (s.startDirect j) j b else s

/-- KEY_DERIVE with ACTION 2 (R450): an EMPTY slot. -/
def reserveSlot (s : State) (j : Nat) (b : Job) : State :=
  let type := tlvNat b.params 0x00B4 0
  if b.resultCap < tlvLen 8 then s.failJob j stLIMIT_EXCEEDED
  else if !b.deriveTlvs [0x00B4] [] ∨ b.handle ≠ 0 ∨ (type ≠ 0x01 ∧ type ≠ 0x1A) then s.failJob j stMALFORMED
  else s.createKey j b { state := .empty, type := type }

/-- RESERVE. -/
def execKeyReserve (j : Nat) (s : State) : Result :=
  runDirect s j opKEY_DERIVE fun s b => if b.action = 2 then reserveSlot (s.startDirect j) j b else s

/-! ### KEY_INVALIDATE (R464 to R466) -/

/-- SCOPE of a KEY_INVALIDATE job; 0 when absent. -/
def Job.scope (b : Job) : Nat := tlvNat b.params 0x00C2 0

/-- The instance a KEY_INVALIDATE or KEY_INFO handle is compared with (R466). -/
def Job.targetInst (b : Job) : Nat := tlvNat b.params 0x0004 b.inst

/-- Steps 1 to 3 of R446 for a handle. -/
def State.ownedBy (s : State) (inst h : Nat) : Bool :=
  let x := s.slot (hSlot h)
  s.checkOk h && hInst h == inst && x.inst == inst && x.state != .free && x.state != .retired

/-- Step 4 of R446 fails for a handle. -/
def State.handleStale (s : State) (h : Nat) : Bool :=
  let x := s.slot (hSlot h)
  hGen h != x.gen || x.state == .stale || !s.ancestorsOk 8 x.parent

/-- What the pair does with a KEY_INVALIDATE (R571): only a mirror-range slot concerns it. -/
def State.mirrorOf (s : State) (h : Nat) : MirrorMode := if 0xF000 ≤ hSlot h then s.mirrorMode else .here

/-- What both scopes check first: the issuer (R466), steps 1 to 3 of R446, and the pair. -/
def State.invalidateGuard (s : State) (j : Nat) (b : Job) (f : State → State) : State :=
  if b.scope > 1 then s.failJob j stMALFORMED
  else if b.has 0x0004 ∧ b.inst ≠ 0 then s.failJob j stPERMISSION
  else if !s.ownedBy b.targetInst b.handle then (s.failJob j stKEY_ABSENT).bump aKS_REFUSALS 0
  else match s.mirrorOf b.handle with
    | .refuse st => s.failJob j st
    | _ => f s

/-- Start the wait for the scan. -/
def State.awaitScan (s : State) (j : Nat) : State :=
  s.onJob j fun b => { b with phase := .running, wait := .scan, after := some (done []) }

/-- A KEY_INVALIDATE whose scan has ended: a release frees its slot, and a mirrored one waits for its partner.
Mark: DEDUCED (log entry 35). -/
def State.scanned (s : State) (j : Nat) : State :=
  match s.job j with
  | none => s
  | some b =>
    let n := hSlot b.handle
    let s := if b.scope = 1 ∧ (s.slot n).state = .stale ∧ (s.slot n).inst = b.targetInst then s.freeSlot n else s
    if s.tw.queue.any fun r => r.job == some j then s.awaitAck j else s.endJob j (done [])

/-- KEY_INVALIDATE, SCOPE 0: T_inv, then the scan; a handle already stale changes nothing. -/
def execKeyInvalidate (j : Nat) (s : State) : Result :=
  runDirect s j opKEY_INVALIDATE fun s b =>
    if b.scope = 1 then s
    else (s.startDirect j).invalidateGuard j b fun s =>
      let s := (s.bump aKS_INVAL_CNT 0).bump aKS_APPROVALS 0
      if s.handleStale b.handle then s.endJob j (done [])
      else ((s.invalidateKey (hSlot b.handle)).sendInvalidate b.handle 0 (some j)).awaitScan j

/-- KEY_INVALIDATE, SCOPE 1 (R465): the slot is invalidated unless it is STALE, and freed when its scan has ended.
Mark: DEDUCED (log entry 35). -/
def execKeyRelease (j : Nat) (s : State) : Result :=
  runDirect s j opKEY_INVALIDATE fun s b =>
    if b.scope ≠ 1 then s
    else (s.startDirect j).invalidateGuard j b fun s =>
      let n := hSlot b.handle
      let x := s.slot n
      if hGen b.handle < x.filledGen ∨ x.gen < hGen b.handle then (s.failJob j stKEY_STALE).bump aKS_REFUSALS 0
      else
        let s := (s.bump aKS_INVAL_CNT 0).bump aKS_APPROVALS 0
        let stale := x.state == .stale && !s.ks.scanOf.contains n
        let s := if x.state = .stale then s else s.invalidateKey n
        let s := (s.sendInvalidate b.handle 1 (some j)).awaitScan j
        if stale then s.scanned j else s

/-- INVALIDATION_SCAN_END (R464, R573). Mark: DEDUCED (log entry 35). -/
def execInvalidationScanEnd (s : State) : Result :=
  let waiting := s.jobsWhere fun b => b.wait == .scan
  if s.ks.scanOf = [] ∧ waiting = [] then .next s
  else
    let hits := s.scanHits
    let handles := hits.map s.handleOf
    let s := handles.foldl (fun s h => s.sendInvalidate h 0 none) (s.scanAll.dropCopies hits)
    .next (waiting.foldl State.scanned s)

/-! ### KEY_INFO (R466, R470, R471) -/

/-- KEY_INFO on a node. Mark: DEDUCED (log entry 33). -/
def nodeInfo (s : State) (j : Nat) (b : Job) : State :=
  let node := tlvNat b.params 0x00B1 0
  match tget s.ks.nodes node with
  | none => s.failJob j (if b.inst = 0 then stKEY_ABSENT else stPERMISSION)
  | some d =>
    if b.inst ≠ 0 ∧ d.owner ≠ b.inst ∧ d.owner ≠ 0xFF then s.failJob j stPERMISSION
    else s.endJob j (done [⟨0x00C5, nodeDesc node d⟩, ⟨0x00C0, leBytes s.ks.updCounter 8⟩])

/-- KEY_INFO: a slot's attributes, reported STALE for a handle that no longer stands, or a node's descriptor.
Mark: DEDUCED (log entry 33). -/
def execKeyInfo (j : Nat) (s : State) : Result :=
  runDirect s j opKEY_INFO fun s b =>
    let s := s.startDirect j
    if b.resultCap < (if b.handle = 0 then tlvLen 164 + tlvLen 8 else tlvLen 32) then s.failJob j stLIMIT_EXCEEDED
    else if b.has 0x00B1 ≠ (b.handle == 0) then s.failJob j stMALFORMED
    else if b.has 0x0004 ∧ b.inst ≠ 0 then s.failJob j stPERMISSION
    else if b.handle = 0 then nodeInfo s j b
    else if !s.ownedBy b.targetInst b.handle then (s.failJob j stKEY_ABSENT).bump aKS_REFUSALS 0
    else (s.bump aKS_APPROVALS 0).endJob j (done [⟨0x00BB, s.keyAttr (hSlot b.handle) (s.handleStale b.handle)⟩])

/-! ### MP commands on keys -/

/-- KEY_GENERATE (R451): KEY_LEN bytes from D1; without randomness the command waits (R489). -/
def execKeyGenerate (j : Nat) (s : State) : Result :=
  runMp s j opKEY_GENERATE fun s b =>
    let n := tlvNat b.params 0x00B5 0
    if b.noRoom (tlvLen 8) then s.failJob j stLIMIT_EXCEEDED
    else if b.newBad then s.failJob j stMALFORMED
    else s.mayCreate j b fun s =>
      if s.drbgCover 1 = 0 then
        if s.rng.failed then s.rngUnavailable j
        else s.onJob j fun b => { b with wait := .random, lackUp := some (b.lackUp.getD s.now) }
      else
        let g := s.generate 1 1
        let d := g.2.drawBytes n
        let s := d.2.onJob j fun b => { b with drbgOnly := b.drbgOnly || g.1, wait := .no }
        s.createKey j b (b.newSlot d.1 1 1)

/-- The curves whose scalars are `n` bytes long (R334). Mark: DEDUCED (log entry 34). -/
def curvesOf (n : Nat) : List Nat := [1, 2, 5, 6, 7].filter fun c => ecField c == some n

/-- An imported EC scalar is 0, or not below the order of any curve of its length (R334).
Mark: DEDUCED (log entry 34). -/
def scalarBad (v : Bytes) : Bool :=
  beNat v == 0 || !(curvesOf v.length).any fun c => beNat v < Config.standardNat "EC.order" c []

/-- KEY_IMPORT_WRAPPED (R451). Mark: DEDUCED (log entry 32). -/
def execKeyImportWrapped (j : Nat) (s : State) : Result :=
  runMp s j opKEY_IMPORT_WRAPPED fun s b =>
    let w := b.val 0x00B9
    let alg := tlvNat b.params 0x00BA 0
    let type := tlvNat b.params 0x00B4 0
    if b.noRoom (tlvLen 8) then s.failJob j stLIMIT_EXCEEDED
    else if b.newBad ∨ w.length < 24 ∨ w.length > 72 ∨ alg = 0 ∨ alg > 2 then s.failJob j stMALFORMED
    else s.mayCreate j b fun s =>
      s.withKeys j b.inst [b.keyNeed [0x06] [8] none] fun s =>
        let key := (s.slot (hSlot b.handle)).val
        let v := if alg = 1 then (if w.length % 8 = 0 then aesUnwrap key w else none) else aesUnwrapPad key w
        match v with
        | none => s.failJob j stINPUT_ENCODING
        | some v =>
          if v.length ≠ tlvNat b.params 0x00B5 0 then s.failJob j stINPUT_ENCODING
          else if type = 0x20 ∧ scalarBad v then s.failJob j stINPUT_RANGE
          else s.createKey j b (b.newSlot v 1 4)

/-- The key types that KEY_ATTEST takes: all but PAIRING and AUTHORITY (R462). -/
abbrev attestable : List Nat :=
  [0x01, 0x02, 0x03, 0x04, 0x05, 0x06, 0x10, 0x11, 0x12, 0x13, 0x14, 0x18, 0x19, 0x1A, 0x20, 0x21, 0x22, 0x23]

/-- The 160-byte body of a statement (R462). -/
def State.attestBody (s : State) (h : Nat) (nonce : Bytes) : Bytes :=
  let x := s.slot (hSlot h)
  asciiBytes "KKA1" 4 ++ leBytes 1 2 ++ leBytes 160 2 ++ s.mid ++ fitBytes nonce 32 ++ leBytes h 8
    ++ leBytes x.type 1 ++ leBytes x.origin 1 ++ leBytes x.pset 2 ++ leBytes x.level 1 ++ leBytes (slotFlags x) 1
    ++ leBytes (x.node.getD 0xFFFF) 2 ++ leBytes x.policy 8 ++ leBytes (usesLeft x) 4 ++ zeros 4
    ++ leBytes s.stampNow 8 ++ leBytes s.tb.ns 4
    ++ leBytes s.mp.fw.1 1 ++ leBytes s.mp.fw.2.1 1 ++ leBytes s.mp.fw.2.2 2
    ++ ((s.publicOf x).map sha3_256).getD (zeros 32) ++ [0x42, 0x31] ++ zeros 6

/-- KEY_ATTEST (R462): the identity key signs on a PE (R142, R461). -/
def execKeyAttest (j : Nat) (s : State) : Result :=
  runMp s j opKEY_ATTEST fun s b =>
    if b.noRoom (tlvLen 4883) then s.failJob j stLIMIT_EXCEEDED
    else if s.fld aKS_CTL 0 0 = 0 then s.failJob j stPERMISSION
    else
      let need := b.keyNeed attestable [] none
      let sign := fun (s : State) => s.withKeys j b.inst [need] fun s =>
        let body := s.attestBody b.handle (b.val 0x00BC)
        let g := s.identitySign "KRYTORATI-KATT-1" body
        g.2.endJob j (done [⟨0x00BD, body ++ g.1⟩])
      if (s.refusal b.inst need).isSome then sign s
      else s.withEngine j b 1 opCOMPOSITE_SIGN [⟨0x005B, [0x25]⟩] sign

/-- KEY_EXPORT_PUBLIC (R461, R471): the engine of the key's type computes its public key (R142).
Mark: DEDUCED (log entry 34). -/
def execKeyExportPublic (j : Nat) (s : State) : Result :=
  runMp s j opKEY_EXPORT_PUBLIC fun s b =>
    let which := tlvNat b.params 0x00C3 0
    if which > 2 ∨ (which = 0) ≠ (b.handle ≠ 0) then s.failJob j stMALFORMED
    else if which = 1 then
      s.endJob j (b.doneFit [⟨0x0051, s.identityPublic⟩, ⟨0x00C4, (s.ks.certs.headD []).take 8192⟩])
    else if which = 2 then s.endJob j (b.doneFit [⟨0x0051, s.transportPublic⟩])
    else
      let type := hType b.handle
      let need := b.keyNeed [0x10, 0x11, 0x12, 0x13, 0x14, 0x18, 0x19, 0x20, 0x21, 0x22, 0x23] [7, keygenEngine type] none
      let give := fun (s : State) => s.withKeys j b.inst [need] fun s =>
        match s.publicOf (s.slot (hSlot b.handle)) with
        | some pk => s.endJob j (b.doneFit [⟨0x0051, pk⟩])
        | none => s.failJob j stKEY_POLICY
      let op := if type = 0x10 then opMLKEM_KEYGEN else if type = 0x11 then opMLDSA_KEYGEN else 0
      if (s.refusal b.inst need).isSome then give s
      else s.withEngine j b (keygenEngine type - 15) op [⟨0x0050, leBytes (s.slot (hSlot b.handle)).pset 2⟩] give

/-- CHALLENGE_RESPOND (R463). Mark: DEDUCED (log entry 32). -/
def execChallengeRespond (j : Nat) (s : State) : Result :=
  runMp s j opCHALLENGE_RESPOND fun s b =>
    if b.noRoom (tlvLen 32) then s.failJob j stLIMIT_EXCEEDED
    else s.withKeys j b.inst [b.keyNeed [0x30, 0x31] [10] none] fun s =>
      s.endJob j (done [⟨0x00BE, kmac256 (s.slot (hSlot b.handle)).val (s.mid ++ b.val 0x00BC) 32 "KRYTORATI-CHAL-1"⟩])

/-! ### KEY_UPDATE_APPLY (R454 to R460, R576) -/

/-- A key update cannot reach the partner (check 9): FROZEN, DIVERGED or in between, and ALONE unless SOLO_UPD_EN. -/
def State.updateUnmirrored (s : State) : Bool :=
  match s.tw.state with
  | .unpaired => false
  | .paired => false
  | .alone => s.fld aTW_CTL 8 8 == 0
  | _ => true

/-- KEY_UPDATE_APPLY: the checks of R457 in order, with the signature checked on a PE (R142); a lead sends the message and applies it on the acknowledgement. -/
def updateApply (s : State) (j : Nat) (b : Job) : State :=
  let m := b.val 0x00BF
  let session := match b.src with
    | .session _ _ => true
    | _ => false
  let commit := fun (s : State) (u : UpdResult) => s.commitUpdate u (leAt m 48 8) (some j)
  let verified := fun (f : State → State) => s.withEngine j b 1 opCOMPOSITE_VERIFY [⟨0x005B, [0x25]⟩] f
  if b.cleared then
    match updRecords m, s.updKey m with
    | some rs, some k => commit s (s.updResult k rs)
    | _, _ => s.failJob j stMALFORMED
  else if b.noRoom (tlvLen 8) then s.failJob j stLIMIT_EXCEEDED
  else if s.isPaired ∧ s.tw.role = 2 then s.failJob j stPERMISSION
  else if s.fld aKS_CTL 1 1 = 1 ∧ !session then s.failJob j stPERMISSION
  else if s.tw.castle.isSome then s.failJob j stNOT_READY
  else match s.checkUpdate m (b.inst == 0) with
    | .error f =>
      let refuse := fun (s : State) => (s.rejectUpdate f).endJob j f.ending
      if f.code ≤ 2 then refuse s else verified refuse
    | .ok u =>
      let f9 : UpdFail := { code := 9, status := stUPDATE_REJECTED }
      verified fun s =>
        if s.updateUnmirrored then (s.rejectUpdate f9).endJob j f9.ending
        else if s.tw.state = .paired then (s.sendRecord 0x10 m (some j)).awaitAck j
        else commit s u

/-- KEY_UPDATE_APPLY. -/
def execKeyUpdateApply (j : Nat) (s : State) : Result := runMp s j opKEY_UPDATE_APPLY fun s b => updateApply s j b

end Sys2Proof.Machine
end

