-- ==== Sys2Proof/Machine/InstanceOps.lean ====
section
/-!
DEFINITION. The shared operations of instances (chapter 14): the sets the MP stages for a command (R105, R108), the queue
map, shares, quiescing, and the reset and removal of an instance.
-/

namespace Sys2Proof.Machine

/-! ### Instances -/

/-- An instance. -/
def State.inst (s : State) (n : Nat) : Instance := tgetD s.insts n {}

/-- Store an instance. -/
def State.setInst (s : State) (n : Nat) (x : Instance) : State := { s with insts := tput s.insts n x {} }

/-- A GENERATION TLV. -/
def genTlv (g : Nat) : Tlv := ⟨0x0137, leBytes g 4⟩

/-- The pairs of a function. -/
def State.pairsOf (s : State) (n : Nat) : List Nat :=
  if n = 0 then (List.range 2048).filter fun q => (s.pair q).owner == 0 && (tget s.pairs q).isSome
  else (s.pairs.filter fun e => e.2.owner == n).map (·.1)

/-! ### The queue map (R545, R548, R561) -/

/-- The map a tenant's registers hold: pairs of local and global index. -/
def State.mapOf (s : State) (reg : Nat → Nat) (n : Nat) : List (Nat × Nat) :=
  ((List.range 128).filter fun i => (tget s.regs (qmapReg n i)).isSome || (tget s.shadow (qmapReg n i)).isSome).flatMap fun i =>
    let v := reg (qmapReg n i)
    (if bitAt v 15 then [(2 * i, bitsAt v 10 0)] else []) ++ (if bitAt v 31 then [(2 * i + 1, bitsAt v 26 16)] else [])

/-- The register that holds locals 2i and 2i + 1 of a map. -/
def mapWord (m : List (Nat × Nat)) (i : Nat) : Nat :=
  let half := fun (j : Nat) => ((m.find? fun e => e.1 == j).map fun e => 2 ^ 15 + e.2).getD 0
  half (2 * i) + 2 ^ 16 * half (2 * i + 1)

/-- The entries of a QUEUE_MAP (R560): local, global, and whether it removes the local. -/
def mapEntries (v : Bytes) : List (Nat × Nat × Bool) :=
  (List.range (v.length / 4)).map fun i => (leAt v (4 * i) 2, leAt v (4 * i + 2) 2 % 2 ^ 15, bitAt (leAt v (4 * i + 2) 2) 15)

/-- A map after the entries of a QUEUE_MAP. -/
def applyMap (m : List (Nat × Nat)) (es : List (Nat × Nat × Bool)) : List (Nat × Nat) :=
  es.foldl (fun m e =>
    let rest := m.filter fun x => x.1 != e.1
    if e.2.2 then rest else rest ++ [(e.1, e.2.1)]) m

/-- An entry names an index out of range, or a local twice (R548). -/
def mapBad (es : List (Nat × Nat × Bool)) : Bool :=
  es.any (fun e => e.1 > 255 || (!e.2.2 && e.2.1 > 2047))
    || (es.zipIdx.any fun e => (es.take e.2).any fun x => x.1 == e.1.1)

/-- A pair that a change of map removes or takes over is not disabled and IDLE (R548). -/
def State.mapBusy (s : State) (old new : List (Nat × Nat)) : Bool :=
  let held := fun (q : Nat) => (s.pair q).enabled || !(s.pair q).idle
  (old.any fun e => !(new.any fun x => x.2 == e.2) && held e.2)
    || new.any fun e => !(old.any fun x => x.2 == e.2) && held e.2

/-! ### Shares (R545 to R548) -/

/-- TARGET_INSTANCE of an instance command. -/
def Job.target (b : Job) : Nat := tlvNat b.params 0x0004 0

/-- The share TLVs of a command have their form (R560). -/
def Job.shareFormBad (b : Job) : Bool :=
  let v := b.val 0x0130
  (b.has 0x0130 && (v.length % 4 != 0 || v.length == 0 || v.length > 1024))
    || (b.has 0x0134 && !allZero ((b.val 0x0134).drop 6))

/-- A share value lies outside its range (R545, R560). Mark: DEDUCED (log entry 67). -/
def Job.shareRangeBad (b : Job) : Bool :=
  tlvNat b.params 0x0131 0 > 64 || tlvNat b.params 0x0132 0 > 65536 || tlvNat b.params 0x0133 0 > 131071
    || mapBad (mapEntries (b.val 0x0130))

/-- What a share command asks for that its set must be refused for and that the registers cannot hold (R548): the fail
code, and the register that was to hold it. Mark: DEDUCED (log entry 67). -/
def Job.shareFault (b : Job) : Option (Nat × Nat) :=
  let n := b.target
  let es := mapEntries (b.val 0x0130)
  let entry := fun (code : Nat) (e : Nat × Nat × Bool) => (code, qmapReg n (min (e.1 / 2) 127))
  let vectors := if tlvNat b.params 0x0131 0 > 64 then some (1, inReg n aIN_VECTORS) else none
  let outside := (es.find? fun e => e.1 > 255 || (!e.2.2 && e.2.1 > 2047)).map (entry 1)
  let twice := (es.zipIdx.find? fun e => (es.take e.2).any fun x => x.1 == e.1.1).map fun e => entry 2 e.1
  let slots := if tlvNat b.params 0x0132 0 > 65536 then some (4, inReg n aIN_SLOT_QUOTA) else none
  let scratch := if tlvNat b.params 0x0133 0 > 131071 then some (4, inReg n aIN_SCRATCH) else none
  outside.or (vectors.or (twice.or (slots.or scratch)))

/-- Values that an earlier, refused change left in the shadow registers of the INSTANCE group (R106): the next change
writes the active values back over them, so that what it omits stays as it is (R546). Mark: DEDUCED (log entry 67). -/
def State.staleShares (s : State) : List (Nat × Nat) :=
  ((s.shadow.map (·.1)).filter fun o => groupOf o == some 8 && s.changes o).map fun o => (o, s.reg o)

/-- The registers a share command writes (R546): an omitted value is 0 (a weight 1) at creation, else unchanged. -/
def State.shareWrites (s : State) (n : Nat) (b : Job) (create : Bool) : List (Nat × Nat) :=
  let one := fun (ty reg d : Nat) =>
    if b.has ty then [(inReg n reg, tlvNat b.params ty 0)] else if create then [(inReg n reg, d)] else []
  let w := b.val 0x0134
  let weights := if b.has 0x0134 then [(inReg n aIN_WEIGHT_A, leAt w 0 4), (inReg n aIN_WEIGHT_B, leAt w 4 2)]
    else if create then [(inReg n aIN_WEIGHT_A, 0x01010101), (inReg n aIN_WEIGHT_B, 0x0101)] else []
  let old := s.mapOf s.reg n
  let new := applyMap old (mapEntries (b.val 0x0130))
  let maps := ((List.range 128).filter fun i => mapWord new i != mapWord old i).map fun i => (qmapReg n i, mapWord new i)
  s.staleShares ++ one 0x0131 aIN_VECTORS 0 ++ one 0x0132 aIN_SLOT_QUOTA 0 ++ one 0x0133 aIN_SCRATCH 0 ++ weights ++ maps

/-- The registers of a tenant's share. -/
def shareRegs (n : Nat) : List Nat :=
  [aIN_VECTORS, aIN_SLOT_QUOTA, aIN_SCRATCH, aIN_WEIGHT_A, aIN_WEIGHT_B].map (inReg n)
    ++ (List.range 128).map (qmapReg n)

/-! ### Reset and removal (R557, R558) -/

/-- A Q_ register of pair `q`, other than its counters, lies at an offset. -/
def isSetupOf (q off : Nat) : Bool := (queueRegs ++ [aQ_MOD, aQ_VECTOR]).any fun r => qReg q r == off

/-- A pair stops, and its setup words return to their reset values. -/
def State.resetPair (s : State) (q : Nat) : State :=
  { s with regs := s.regs.filter fun e => !isSetupOf q e.1, shadow := s.shadow.filter fun e => !isSetupOf q e.1 }.killPair q

/-- A job came from a queue of an instance. -/
def Job.queuedBy (b : Job) (n : Nat) : Bool :=
  b.inst == n && match b.src with
    | .queue _ => true
    | _ => false

/-- The queue class of a job's pair is control. -/
def State.controlJob (s : State) (b : Job) : Bool :=
  match b.src with
  | .queue q => s.qControl q
  | _ => true

/-- What a reset does to a job (R101, R557): a job that runs, and a saved one of a control-class pair or whose PE runs on,
goes on with its outcome discarded, a data-class one only to its next preemption point; any other is removed. -/
def State.resetJob (s : State) (j : Nat) : State :=
  match s.job j with
  | none => s
  | some b =>
    let control := s.controlJob b
    if b.phase = .running then s.setJob j { b with discard := true, preemptAsked := b.preemptAsked || (!control && !b.isMp) }
    else if b.phase = .saved ∧ (control ∨ b.half.isSome) then s.setJob j { b with discard := true }
    else (b.approved.foldl State.unpend s).removeJob j

/-- The queue effects of a function's reset (R557). -/
def State.resetQueues (s : State) (n : Nat) : State :=
  let s := (s.jobsWhere fun b => b.queuedBy n).foldl State.resetJob s
  let s := (s.pairsOf n).foldl State.resetPair s
  { s with
    versions := tdel s.versions n
    pcie := { s.pcie with
      msix := s.pcie.msix.filter fun e => e.1 / 1024 != n
      pba := s.pcie.pba.filter fun e => e.1 != n
      waiting := s.pcie.waiting.filter fun e => e.1 != n
      d3 := s.pcie.d3.erase n
      pmeEn := s.pcie.pmeEn.erase n
      pmeStatus := s.pcie.pmeStatus.erase n } }

/-- The scratch that jobs still running hold. Mark: DEDUCED (log entry 68). -/
def State.heldScratch (s : State) (n : Nat) : Nat :=
  (s.jobs.map fun e => if e.2.inst = n ∧ e.2.phase = .running then e.2.runScratch else 0).sum

/-- Wipe what an instance holds (R558): slots, cached keys, sealed copies, digest contexts, peers, HBS blocks and scratch;
its context-wrap key is drawn anew. Mark: DEDUCED (log entries 25, 42, 68). -/
def State.wipeInstance (s : State) (n : Nat) : State :=
  let s := (s.freeSlotsOf n).freePeersOf n
  let s := s.retireEntries (fun e => e.busy.isSome) fun c => c.inst == n
  let s := (s.discardBlocks fun k => k.inst == n).checkLows
  let s := { s with
    parts := { s.parts with sealed := s.parts.sealed.filter fun c => c.inst != n }
    digests := s.digests.filter fun e => e.1 / 16384 != n }
  let d := s.drawBytes 32
  let x := d.2.inst n
  let keep := d.2.heldScratch n
  d.2.setInst n { x with wrapKey := d.1, wrapCount := 0, scratch := min x.scratch keep,
                         zeroing := x.zeroing + (x.scratch - keep) }

/-- End the commands that wait for an instance to become QUIESCED or ACTIVE. -/
def State.endQuiesce (s : State) (n : Nat) (resume : Bool) (e : Ending) : State :=
  (s.jobsWhere fun b => b.wait == .quiesce n resume).foldl (fun s j => s.endJob j e) s

/-- A reset of a tenant instance (R557, R558, R559): it is RESETTING, and later takes the state `after`. -/
def State.resetInstance (s : State) (n : Nat) (after : InstState) (tell : Bool) : State :=
  let s := (s.resetQueues n).wipeInstance n
  let x := s.inst n
  s.setInst n { x with state := .resetting, after := after, tell := tell, bumpGen := true, disableAsked := false,
                       resumeAsked := false }

/-- A function-level reset of instance `n` (R557): it becomes ACTIVE again, or QUIESCED where it was quiescing.
Mark: DEDUCED (log entry 68). -/
def State.functionReset (s : State) (n : Nat) : State :=
  let x := s.inst n
  let s := s.bump aIN_FLR_CNT n
  match x.state with
  | .absent => s
  | .active => s.resetInstance n .active false
  | .quiescing => s.resetInstance n .quiesced true
  | .quiesced => s.resetInstance n .quiesced false
  | .resetting => s.resetInstance n x.after x.tell

/-- Remove an instance (R556, R558): its share returns to zero and its pairs to instance 0. -/
def State.removeInstance (s : State) (n : Nat) : State :=
  let qs := s.pairsOf n
  let s := (s.resetQueues n).wipeInstance n
  let s := qs.foldl (fun s q => s.setPair q {}) s
  let mine := fun (e : Nat × Reg) => !(shareRegs n).contains e.1
  let s := { s with
    regs := s.regs.filter mine, shadow := s.shadow.filter mine }
  let s := s.writeN6 { s.n6 with regs := s.n6.regs.filter mine, insts := s.n6.insts.erase n }
  s.setInst n { zeroing := (s.inst n).zeroing }

/-- A quiescing instance has every pair IDLE and no job or command left (R554). -/
def State.quiet (s : State) (n : Nat) : Bool :=
  (s.pairsOf n).all (fun q => !(s.pair q).enabled && (s.pair q).idle) && !s.jobs.any fun e => e.2.inst == n

/-- A quiescing instance becomes QUIESCED (R554). -/
def State.becomeQuiesced (s : State) (n : Nat) : State :=
  let x := s.inst n
  let s := (s.setInst n { x with state := .quiesced, tell := false, disableAsked := false }).postEvent 0 0x0251 none n 0
  s.endQuiesce n false (done [genTlv x.gen])

end Sys2Proof.Machine
end

