-- ==== Sys2Proof/Machine/Instances.lean ====
section
/-!
DEFINITION. The instance commands, function-level resets and the PCIe functions (chapter 14).
-/

namespace Sys2Proof.Machine

/-! ### Shares (R545 to R548, R559) -/

/-- The body of an INSTANCE record (R572). Mark: DEDUCED (log entry 67). -/
def Job.instanceBody (b : Job) : Bytes := beBytes b.opcode 2 ++ tlvsBytes b.params

/-- Stage a share (R548): the queue map first, then the set; a lead sends the command to its partner before (R574).
Values outside their ranges are staged as such: the guard refuses the set for them. -/
def stageShare (s : State) (j : Nat) (b : Job) (create : Bool) : State :=
  let n := b.target
  let old := s.mapOf s.reg n
  let new := applyMap old (mapEntries (b.val 0x0130))
  if s.groupsBusy 0x0100 then s.awaitGroups j 0x0100
  else if s.mapBusy old new then s.failJob j stINSTANCE_BUSY
  else if b.shareRangeBad then
    let t := s.stageSet j 0x0100 s.staleShares (failed stCONFIG_INCONSISTENT)
    { t with cfg := { t.cfg with shareFault := b.shareFault } }
  else if b.mirrorStep s.mirrorMode = .send then (s.sendRecord 0x40 b.instanceBody (some j)).awaitAck j
  else s.stageSet j 0x0100 (s.shareWrites n b create) (done [genTlv ((s.inst n).gen + 1)])

/-- What INSTANCE_CREATE, INSTANCE_SHARE_SET and INSTANCE_REMOVE check first: the result buffer (R168), the target, the form of the TLVs and the
pair (R571). -/
def instanceGuard (s : State) (j : Nat) (b : Job) (f : State → State) : State :=
  if b.noRoom (tlvLen 4) then s.failJob j stLIMIT_EXCEEDED
  else if b.target = 0 ∨ b.target > 128 ∨ b.shareFormBad = true ∨ tlvNat b.params 0x0136 0 > 1 then s.failJob j stMALFORMED
  else match b.mirrorStep s.mirrorMode with
    | .refuse st => s.failJob j st
    | _ => f s

/-- INSTANCE_CREATE (R559). -/
def instanceCreate (s : State) (j : Nat) (b : Job) : State :=
  instanceGuard s j b fun s =>
    if (s.inst b.target).state ≠ .absent then s.failJob j stCONFIG_INCONSISTENT else stageShare s j b true

/-- INSTANCE_CREATE. -/
def execInstanceCreate (j : Nat) (s : State) : Result := runMp s j opINSTANCE_CREATE fun s b => instanceCreate s j b

/-- INSTANCE_SHARE_SET (R559). -/
def instanceShareSet (s : State) (j : Nat) (b : Job) : State :=
  instanceGuard s j b fun s =>
    match (s.inst b.target).state with
    | .absent => s.failJob j stCONFIG_INCONSISTENT
    | .resetting => s.failJob j stINSTANCE_BUSY
    | _ => stageShare s j b false

/-- INSTANCE_SHARE_SET. -/
def execInstanceShareSet (j : Nat) (s : State) : Result := runMp s j opINSTANCE_SHARE_SET fun s b => instanceShareSet s j b

/-! ### Quiescing (R554, R555, R559) -/

/-- RESUME of an INSTANCE_QUIESCE. -/
def Job.resume (b : Job) : Bool := tlvNat b.params 0x0136 0 == 1

/-- Start quiescing: the next guard disables every pair, and waiting MP commands of the tenant complete ABORTED. -/
def State.startQuiesce (s : State) (n wait : Nat) : State :=
  let x := s.inst n
  let s := s.setInst n { x with state := .quiescing, disableAsked := true, resumeAsked := false,
                                waitUntil := s.tb.crossings + wait }
  (s.jobsWhere fun b => b.inst == n && b.phase == .slow).foldl State.abortJob s

/-- INSTANCE_QUIESCE without RESUME. -/
def execInstanceQuiesce (j : Nat) (s : State) : Result :=
  runMp s j opINSTANCE_QUIESCE fun s b =>
    let n := b.target
    let x := s.inst n
    let wait := tlvNat b.params 0x0135 4800
    if b.resume then s
    else if b.noRoom (tlvLen 4) then s.failJob j stLIMIT_EXCEEDED
    else if n = 0 ∨ n > 128 ∨ wait = 0 ∨ wait > 96000 ∨ tlvNat b.params 0x0136 0 > 1 then s.failJob j stMALFORMED
    else match x.state with
      | .absent => s.failJob j stCONFIG_INCONSISTENT
      | .resetting => s.failJob j stINSTANCE_BUSY
      | .quiesced => s.endJob j (done [genTlv x.gen])
      | .quiescing => s.onJob j fun b => { b with wait := .quiesce n false }
      | .active => (s.startQuiesce n wait).onJob j fun b => { b with wait := .quiesce n false }

/-- INSTANCE_QUIESCE with RESUME: the instance is ACTIVE again in the next guard. Mark: DEDUCED (log entry 67). -/
def execInstanceResume (j : Nat) (s : State) : Result :=
  runMp s j opINSTANCE_QUIESCE fun s b =>
    let n := b.target
    let x := s.inst n
    if !b.resume then s
    else if b.noRoom (tlvLen 4) then s.failJob j stLIMIT_EXCEEDED
    else if n = 0 ∨ n > 128 then s.failJob j stMALFORMED
    else match x.state with
      | .absent => s.failJob j stCONFIG_INCONSISTENT
      | .resetting => s.failJob j stINSTANCE_BUSY
      | .active => s.endJob j (done [genTlv x.gen])
      | _ => (s.setInst n { x with resumeAsked := true }).onJob j fun b => { b with wait := .quiesce n true }

/-- INSTANCE_QUIESCED (R554). -/
def execInstanceQuiesced (n : Nat) (s : State) : Result :=
  if (s.inst n).state = .quiescing ∧ s.quiet n = true then .next (s.becomeQuiesced n) else .next s

/-- QUIESCE_WAIT_EXPIRY (R554): WAIT crossings have passed. -/
def execQuiesceWaitExpiry (n : Nat) (s : State) : Result :=
  if (s.inst n).state = .quiescing ∧ (s.inst n).waitUntil ≤ s.tb.crossings then .next (s.endQuiesce n false (failed stINSTANCE_BUSY)) else .next s

/-! ### Reset and removal (R556 to R559) -/

/-- A reset or removal is accepted: QUIESCED, or QUIESCING with FORCE (R556). -/
def Job.mayReset (b : Job) (x : Instance) : Bool :=
  x.state == .quiesced || (x.state == .quiescing && tlvNat b.params 0x0136 0 == 1)

/-- INSTANCE_RESET: DONE with the generation that the next guard gives (R558); local on a pair (R571).
Mark: DEDUCED (log entry 67). -/
def execInstanceReset (j : Nat) (s : State) : Result :=
  runMp s j opINSTANCE_RESET fun s b =>
    let n := b.target
    let x := s.inst n
    if b.noRoom (tlvLen 4) then s.failJob j stLIMIT_EXCEEDED
    else if n = 0 ∨ n > 128 ∨ tlvNat b.params 0x0136 0 > 1 then s.failJob j stMALFORMED
    else if x.state = .absent then s.failJob j stCONFIG_INCONSISTENT
    else if !b.mayReset x then s.failJob j stINSTANCE_BUSY
    else
      let s := (s.endQuiesce n false (failed stABORTED)).endQuiesce n true (failed stABORTED)
      ((s.resetInstance n .active false).bump aIN_RESET_CNT n).endJob j (done [genTlv (x.gen + 1)])

/-- INSTANCE_REMOVE; a mirrored one is a forced removal on the follow (R575). -/
def instanceRemove (s : State) (j : Nat) (b : Job) : State :=
  instanceGuard s j b fun s =>
    let n := b.target
    let x := s.inst n
    let owns := (s.xs.active.map (·.berths)).any fun bs => bs.any fun w => w.kind == 3 && w.owner == n
    let forced := b.src == .mp && x.state != .resetting
    if x.state = .absent ∨ owns then s.failJob j stCONFIG_INCONSISTENT
    else if !b.mayReset x ∧ !forced then s.failJob j stINSTANCE_BUSY
    else if b.mirrorStep s.mirrorMode = .send then (s.sendRecord 0x40 b.instanceBody (some j)).awaitAck j
    else
      let s := (s.endQuiesce n false (failed stABORTED)).endQuiesce n true (failed stABORTED)
      (s.removeInstance n).endJob j (done [genTlv 0])

/-- INSTANCE_REMOVE. -/
def execInstanceRemove (j : Nat) (s : State) : Result := runMp s j opINSTANCE_REMOVE fun s b => instanceRemove s j b

/-- INSTANCE_RESET_DONE (R559): a RESETTING instance takes its state; one that was quiescing is told as QUIESCED. -/
def execInstanceResetDone (n : Nat) (s : State) : Result :=
  let x := s.inst n
  if x.state ≠ .resetting then .next s
  else if x.tell then .next (s.becomeQuiesced n)
  else .next (s.setInst n { x with state := x.after })

/-- SCRATCH_ZEROING_DONE (R558): the zeroed pages may be allotted again. -/
def execScratchZeroingDone (n : Nat) (s : State) : Result := .next (s.setInst n { (s.inst n) with zeroing := 0 })

/-! ### Functions (R541, R543, R557, R634) -/

/-- FUNCTION_LEVEL_RESET (R557). -/
def execFunctionLevelReset (n : Nat) (s : State) : Result :=
  if n = 0 ∨ n > 128 then .next s else .next (s.functionReset n)

/-- The tenants whose function was enabled before and is not now are reset (R543). -/
def State.takeVfs (s : State) (enable : Bool) (num : Nat) : State :=
  let was := (List.range 129).filter fun n => n != 0 && s.vfOn n
  let s := { s with pcie := { s.pcie with vfEnable := enable, numVfs := min num 128 } }
  (was.filter fun n => !s.vfOn n && (s.inst n).state != .absent).foldl State.functionReset s

/-- VF_DISABLE: VF Enable cleared, or NumVFs lowered. -/
def execVfDisable (enable : Bool) (numVfs : Nat) (s : State) : Result := .next (s.takeVfs enable numVfs)

/-- VF_ENABLE: VF Enable set, or NumVFs raised. -/
def execVfEnable (numVfs : Nat) (s : State) : Result := .next (s.takeVfs true numVfs)

/-- A PCIe reset (R634): every tenant instance is reset, instance 0's queues are, and the link and its functions start
anew. -/
def State.resetPcie (s : State) : State :=
  let s := ((List.range 129).filter fun n => n != 0 && (s.inst n).state != .absent).foldl State.functionReset s
  let s := s.resetQueues 0
  ({ s with pcie := {} }).setReady 6 false

/-- PCIE_RESET. -/
def execPcieReset (s : State) : Result := .next s.resetPcie

end Sys2Proof.Machine
end

