-- ==== Sys2Proof/Machine/Streams.lean ====
section
/-!
DEFINITION. The port and stream commands (chapter 13): stream contexts, ports, MACsec, event policies, frames, FIFOs, lanes
and cages.
-/

namespace Sys2Proof.Machine

/-! ### Context changes (R515) -/

/-- What one staged change makes of the contexts. -/
def applyChange (t : Tab Stream) (id : Nat) (c : StreamChange) : Tab Stream :=
  match c with
  | .create x => tset t id x
  | .delete => tdel t id
  | .modify x promote restart =>
    match tget t id with
    | none => t
    | some o =>
      let inc := fun (st : Tab Nat) (k : Nat) => tset st k (min (tgetD st k 0 + 1) (2 ^ 32 - 1))
      let st := if promote then inc o.stats 14 else o.stats
      let st := if restart then inc st 15 else st
      tset t id { x with window := if promote || restart then {} else o.window, marks := o.marks, stats := st }

/-- The contexts as the next guard leaves them. -/
def State.streamsNext (s : State) : Tab Stream := s.tr.staged.foldl (fun t e => applyChange t e.1 e.2) s.tr.streams

/-- Stage a context change for the next guard. Mark: DEDUCED (log entry 54). -/
def State.stageStream (s : State) (id : Nat) (c : StreamChange) : State :=
  { s with tr := { s.tr with staged := s.tr.staged ++ [(id, c)] } }

/-- The guard applies the staged changes; a deleted context leaves the cache (R515, R525).
Mark: DEDUCED (log entry 54). -/
def State.applyStreams (s : State) : State :=
  let t := s.streamsNext
  { s with tr := { s.tr with
    streams := t, staged := [], cache := s.tr.cache.filter fun id => (tget t id).isSome } }

/-! ### Checks of the stream commands (R536, R538) -/

/-- A port code above 511. -/
def Job.portBad (b : Job) (ty : Nat) : Bool := tlvNat b.params ty 0 > 511

/-- The address of a MATCH (R535): a MAC address in 6 bytes, or an IPv6 address. -/
def matchAddr (routable : Bool) (v : Bytes) : Nat := if routable then beNat (v.take 16) else beNat (v.take 6)

/-- A MATCH suits a class's KIND: a MAC match has zero bytes behind the address. -/
def matchSuits (routable : Bool) (v : Bytes) : Bool :=
  (routable || allZero (slice v 6 10)) && (leAt v 16 2 == 0xFFFF || leAt v 16 2 < 4096)

/-- A key suits the MODE of a class (R446, R514). -/
def State.keyRefused (s : State) (mode h : Nat) : Option Nat := s.refusal 0 (streamNeed mode h)

/-- An egress port that a policy's stream may not use: one without JUMBO (R520). -/
def State.jumboMissing (s : State) (id port : Nat) : Bool :=
  (s.tr.policies.any fun e => e.2.sources.contains id) && s.lane port 7 7 == 0

/-- FLAG_VID is present where PASS_FLAGGED needs it, and in range. -/
def Job.flagOk (b : Job) (policy had : Nat) : Bool :=
  (if b.has 0x00E7 then 1 ≤ tlvNat b.params 0x00E7 0 && tlvNat b.params 0x00E7 0 ≤ 4094 else policy != 1 || had != 0)

/-- KEY_IDS of a job. -/
def Job.keyIds (b : Job) : Option (Nat × Nat) :=
  if b.has 0x00EA then some (leAt (b.val 0x00EA) 0 4, leAt (b.val 0x00EA) 4 4) else none

/-- The form of STREAM_CREATE for the KIND and MODE of its class (R536). -/
def createBad (b : Job) (kind mode : Nat) : Bool :=
  let verify := tlvNat b.params 0x00E2 0 == 0
  let rsaVerify := mode == 3 && verify
  let sv := !gooseKind kind
  let n := (b.val 0x0051).length
  (sv != b.has 0x00E8) || (sv && (tlvNat b.params 0x00E8 0 < 128 || tlvNat b.params 0x00E8 0 > 65536))
    || (rsaVerify != b.has 0x0051) || (rsaVerify && n != 256 && n != 384)
    || ((mode == 0 || rsaVerify) && (b.handle != 0 || b.has 0x00E9))

/-- The context STREAM_CREATE makes. -/
def Job.newStream (b : Job) (kind : Nat) : Stream :=
  let m := b.val 0x00E5
  { cls := tlvNat b.params 0x00E1 0, protect := tlvNat b.params 0x00E2 0 == 1, inPort := tlvNat b.params 0x00E3 0,
    outPort := tlvNat b.params 0x00E4 0, addr := matchAddr (kind ≥ 2) m,
    vid := if kind ≥ 2 then 0xFFFF else leAt m 16 2, appid := leAt m 18 2, policy := tlvNat b.params 0x00E6 0,
    flagVid := tlvNat b.params 0x00E7 0, wrap := tlvNat b.params 0x00E8 65536, key := b.handle,
    nextKey := tlvNat b.params 0x00E9 0, keyIds := b.keyIds, pub := b.val 0x0051 }

/-- The first key of a stream that its MODE refuses. -/
def State.firstRefused (s : State) (mode : Nat) (hs : List Nat) : Option Nat :=
  if mode = 0 then none else (hs.filter (· != 0)).findSome? (s.keyRefused mode)

/-- Why STREAM_CREATE is refused (R513 to R515, R538, R642): the status, and whether the key store refused it.
Mark: DEDUCED (log entry 58). -/
def State.createRefused (s : State) (b : Job) : Option (Nat × Bool) :=
  let id := tlvNat b.params 0x00E0 0
  let c := tlvNat b.params 0x00E1 0
  let kind := s.cls c 30 28
  let mode := s.cls c 27 26
  let rsaVerify := mode = 3 ∧ tlvNat b.params 0x00E2 0 = 0
  let x := b.newStream kind
  let next := s.streamsNext
  if id ≥ 1048576 ∨ b.portBad 0x00E3 ∨ b.portBad 0x00E4 ∨ tlvNat b.params 0x00E2 0 > 1 ∨ x.policy > 2
      ∨ !b.flagOk x.policy 0 ∨ !allZero ((b.val 0x00E5).drop 20) then some (stMALFORMED, false)
  else if (tget next id).isSome ∨ s.cls c 31 31 = 0 then some (stCONFIG_INCONSISTENT, false)
  else if createBad b kind mode then some (stMALFORMED, false)
  else if !matchSuits (kind ≥ 2) (b.val 0x00E5) ∨ !s.portOk x.inPort ∨ !s.portOk x.outPort
      ∨ s.jumboMissing id x.outPort ∨ (s.pinned c ∧ s.pinnedCount ≥ 61440) then some (stCONFIG_INCONSISTENT, false)
  else if mode ≠ 0 ∧ !rsaVerify ∧ b.handle = 0 then some (stKEY_ABSENT, false)
  else match s.firstRefused mode [x.key, x.nextKey] with
    | some st => some (st, true)
    | none =>
      if rsaVerify ∧ (next.filter fun e => e.2.pub != []).length ≥ 4096 then some (stLIMIT_EXCEEDED, false)
      else if !s.ready 4 ∧ next.length ≥ 65536 then some (stNOT_READY, false)
      else none

/-- End a stream command that is refused. -/
def State.refuseStream (s : State) (j : Nat) (f : Nat × Bool) : State :=
  let s := s.failJob j f.1
  if f.2 then s.bump aKS_REFUSALS 0 else s

/-- STREAM_CREATE (R513 to R515, R538): refused, or the new context is staged. -/
def streamCreate (s : State) (j : Nat) (b : Job) : State :=
  match s.createRefused b with
  | some f => s.refuseStream j f
  | none =>
    let x := b.newStream (s.cls (tlvNat b.params 0x00E1 0) 30 28)
    (s.stageStream (tlvNat b.params 0x00E0 0) (.create x)).endJob j (done [])

/-- STREAM_CREATE. -/
def execStreamCreate (j : Nat) (s : State) : Result := runMp s j opSTREAM_CREATE fun s b => streamCreate s j b

/-- The context STREAM_MODIFY makes of one (R514, R536). Mark: DEDUCED (log entry 53). -/
def Job.modified (b : Job) (x : Stream) (promote : Bool) : Stream :=
  let next := tlvNat b.params 0x00E9 (if promote then 0 else x.nextKey)
  let ids := match b.keyIds with
    | some i => some i
    | none => if promote then x.keyIds.map fun i => (i.2, 0) else x.keyIds
  { x with
    policy := tlvNat b.params 0x00E6 x.policy, flagVid := tlvNat b.params 0x00E7 x.flagVid,
    outPort := tlvNat b.params 0x00E4 x.outPort, nextKey := next, keyIds := ids,
    key := if promote then x.nextKey else if b.handle ≠ 0 then b.handle else x.key }

/-- Why STREAM_MODIFY of the context `x` is refused: the status, and whether the key store refused it.
Mark: DEDUCED (log entry 53). -/
def State.modifyRefused (s : State) (b : Job) (x : Stream) : Option (Nat × Bool) :=
  let promote := tlvNat b.params 0x00EB 0 == 1
  let y := b.modified x promote
  let mode := s.cls x.cls 27 26
  let keyless := mode = 0 ∨ (mode = 3 ∧ !x.protect)
  if b.portBad 0x00E4 ∨ y.policy > 2 ∨ !b.flagOk y.policy x.flagVid ∨ tlvNat b.params 0x00EB 0 > 1
      ∨ tlvNat b.params 0x00EC 0 > 1 ∨ (promote ∧ b.handle ≠ 0) ∨ (keyless ∧ (b.handle ≠ 0 ∨ b.has 0x00E9)) then
    some (stMALFORMED, false)
  else if !s.portOk y.outPort ∨ s.jumboMissing (tlvNat b.params 0x00E0 0) y.outPort ∨ (promote ∧ x.nextKey = 0) then
    some (stCONFIG_INCONSISTENT, false)
  else (s.firstRefused mode [b.handle, tlvNat b.params 0x00E9 0]).map fun st => (st, true)

/-- STREAM_MODIFY (R514, R515, R536): refused, or the changed context is staged. -/
def streamModify (s : State) (j : Nat) (b : Job) : State :=
  let id := tlvNat b.params 0x00E0 0
  match tget s.streamsNext id with
  | none => s.failJob j (if id ≥ 1048576 then stMALFORMED else stCONFIG_INCONSISTENT)
  | some x =>
    match s.modifyRefused b x with
    | some f => s.refuseStream j f
    | none =>
      let promote := tlvNat b.params 0x00EB 0 == 1
      (s.stageStream id (.modify (b.modified x promote) promote (tlvNat b.params 0x00EC 0 == 1))).endJob j (done [])

/-- STREAM_MODIFY. -/
def execStreamModify (j : Nat) (s : State) : Result := runMp s j opSTREAM_MODIFY fun s b => streamModify s j b

/-- STREAM_DELETE (R515, R525). -/
def execStreamDelete (j : Nat) (s : State) : Result :=
  runMp s j opSTREAM_DELETE fun s b =>
    let id := tlvNat b.params 0x00E0 0
    if id ≥ 1048576 then s.failJob j stMALFORMED
    else if (tget s.streamsNext id).isNone then s.failJob j stCONFIG_INCONSISTENT
    else (s.stageStream id .delete).endJob j (done [])

/-- STREAM_STATS (R537). -/
def execStreamStats (j : Nat) (s : State) : Result :=
  runMp s j opSTREAM_STATS fun s b =>
    let id := tlvNat b.params 0x00E0 0
    if (b.doneFit [⟨0x00ED, zeros 64⟩]).status ≠ stDONE then s.failJob j stLIMIT_EXCEEDED
    else if id ≥ 1048576 then s.failJob j stMALFORMED
    else match s.stream id with
      | none => s.failJob j stCONFIG_INCONSISTENT
      | some x => s.endJob j (done [⟨0x00ED, ((List.range 16).map fun k => leBytes (tgetD x.stats k 0) 4).flatten⟩])

/-! ### Ports and MACsec (R506, R536) -/

/-- The bits of a register's word that a write keeps. -/
def writable (off v : Nat) : Nat := Nat.land v (((rowAt off).map (·.mask)).getD 0)

/-- PORT_CONFIG: the shadows of PT_LANEl and PT_PEERl are written and the PORT group committed. -/
def execPortConfig (j : Nat) (s : State) : Result :=
  runMp s j opPORT_CONFIG fun s b =>
    let cs := tlvAll b.params 0x00FC
    if cs.length > 512 ∨ cs.any fun v => leAt v 0 2 > 511 || !allZero (v.drop 10) then s.failJob j stMALFORMED
    else if s.groupsBusy 0x0040 then s.awaitGroups j 0x0040
    else
      let ws := cs.flatMap fun v =>
        let l := leAt v 0 2
        [(aPT_LANE + 4 * l, writable (aPT_LANE + 4 * l) (leAt v 2 4)),
         (aPT_PEER + 4 * l, writable (aPT_PEER + 4 * l) (leAt v 6 4))]
      s.stageSet j 0x0040 ws (done [])

/-- Put an SA into a channel. Mark: DEDUCED (log entry 56). -/
def SecureChannel.install (c : SecureChannel) (an : Nat) (a : MacsecSa) : SecureChannel :=
  { c with active := an, sas := tset c.sas an a }

/-- Install an SA on a port (R505); `none` past its channels. Mark: DEDUCED (log entry 56). -/
def Macsec.install (m : Macsec) (sci an : Nat) (tx : Bool) (a : MacsecSa) : Option Macsec :=
  let fresh : SecureChannel := { sci := sci }
  if tx then
    match m.tx with
    | none => some { m with tx := some (fresh.install an a) }
    | some c => if c.sci = sci then some { m with tx := some (c.install an a) } else none
  else if m.rx.any fun c => c.sci == sci then
    some { m with rx := m.rx.map fun c => if c.sci = sci then c.install an a else c }
  else if m.rx.length ≥ 16 then none
  else some { m with rx := m.rx ++ [fresh.install an a] }

/-- MACSEC_SA_INSTALL (R505, R506, R538). -/
def execMacsecSaInstall (j : Nat) (s : State) : Result :=
  runMp s j opMACSEC_SA_INSTALL fun s b =>
    let p := tlvNat b.params 0x00E3 0
    let an := tlvNat b.params 0x00F5 0
    let dir := tlvNat b.params 0x00F6 0
    let xpn := tlvNat b.params 0x00F7 0
    if b.portBad 0x00E3 ∨ an > 3 ∨ dir > 1 ∨ xpn > 1 ∨ b.has 0x00F9 ≠ (xpn == 1) ∨ b.has 0x00FA ≠ (xpn == 1)
        ∨ tlvNat b.params 0x00FB 0 > 2 ^ 30 then s.failJob j stMALFORMED
    else if !s.portOk p ∨ !s.macsecOn p then s.failJob j stCONFIG_INCONSISTENT
    else
      let need : KeyNeed := { handle := b.handle, types := [0x02], lens := [32], policy := [if dir = 1 then 1 else 2, 9, 22],
                              counted := false }
      s.withKeys j 0 [need] fun s =>
        let a : MacsecSa := { slot := hSlot b.handle, key := (s.slot (hSlot b.handle)).val, xpn := xpn == 1,
                              ssci := tlvNat b.params 0x00F9 0, salt := b.val 0x00FA,
                              replay := tlvNat b.params 0x00FB 0, pn := tlvNat b.params 0x00F8 0 }
        match (s.macsecOf p).install (tlvNat b.params 0x00F4 0) an (dir == 1) a with
        | none => s.failJob j stLIMIT_EXCEEDED
        | some m => (s.setMacsec p m).endJob j (done [])

/-! ### Event-signing policies (R520) -/

/-- The source streams a policy names. -/
def Job.sources (b : Job) : List Nat :=
  (List.range ((b.val 0x00F0).length / 4)).map fun i => leAt (b.val 0x00F0) (4 * i) 4

/-- The form of EVENT_SIGN_POLICY (R535, R536). -/
def policyBad (b : Job) : Bool :=
  let n := (b.val 0x00F0).length
  let limit := leAt (b.val 0x00F1) 1 2
  tlvNat b.params 0x00EE 0 > 255 || b.has 0x0050 == b.has 0x005B || b.has 0x005A != b.has 0x005B
    || n % 4 != 0 || n == 0 || n > 1024 || tlvNat b.params 0x00F3 0 > 1
    || (b.has 0x00F1 && (leAt (b.val 0x00F1) 0 1 > 1 || limit == 0 || limit > 4800))
    || (b.has 0x0050 && (mldsaSizes b.pset).isNone) || (b.has 0x005B && (compositeOf b.combo).isNone)

/-- The keys of a policy (R520). -/
def policyNeeds (b : Job) : List KeyNeed :=
  let c := compositeOf b.combo
  let p := if b.has 0x005B then (c.map (·.1)).getD 0 else b.pset
  let first : KeyNeed := { handle := b.handle, types := [0x11], policy := [4, 16], pset := some p, counted := false }
  let curve := (c.map (·.2.1)).getD 0
  if b.has 0x005B then
    [first, { handle := b.handleIn 0x005A, types := if curve = 0x20 then [0x22] else [0x20], policy := [4, 19],
              pset := some curve, counted := false }]
  else [first]

/-- A source stream does not exist, is no GOOSE stream, or leaves a port without JUMBO. -/
def State.sourceBad (s : State) (id : Nat) : Bool :=
  match tget s.streamsNext id with
  | none => true
  | some x => !gooseKind (s.cls x.cls 30 28) || s.lane x.outPort 7 7 == 0

/-- Region N6 records the policies, each with the persistent nodes of its keys (R638). -/
def State.recordPolicies (s : State) : State :=
  s.writeN6 { s.n6 with policies := s.tr.policies.map fun (e : Nat × EventPolicy) =>
    (e.1, e.2, (s.slot (hSlot e.2.key)).node, (s.slot (hSlot e.2.second)).node) }

/-- EVENT_SIGN_POLICY (R520, R538). Mark: DEDUCED (log entry 57). -/
def execEventSignPolicy (j : Nat) (s : State) : Result :=
  runMp s j opEVENT_SIGN_POLICY fun s b =>
    let p := tlvNat b.params 0x00EE 0
    let inst := tlvNat b.params 0x0004 0
    let had := tget s.tr.policies p
    if policyBad b then s.failJob j stMALFORMED
    else if tlvNat b.params 0x00F3 0 = 1 then
      if had.isNone then s.failJob j stCONFIG_INCONSISTENT
      else ({ s with tr := { s.tr with policies := tdel s.tr.policies p } }.recordPolicies).endJob j (done [])
    else if b.sources.any s.sourceBad ∨ inst > 128 ∨ !s.instExists inst then s.failJob j stCONFIG_INCONSISTENT
    else
      s.withKeys j 0 (policyNeeds b) fun s =>
        let pol : EventPolicy :=
          { key := b.handle, second := b.handleIn 0x005A, pset := b.pset, combo := b.combo, sources := b.sources,
            lateDrop := leAt (b.val 0x00F1) 0 1 == 1, limit := if b.has 0x00F1 then leAt (b.val 0x00F1) 1 2 else 4800,
            inst := inst, seq := (had.map (·.seq)).getD 0 }
        let s := { s with tr := { s.tr with policies := tset s.tr.policies p pol } }.recordPolicies
        let ws := ((s.xs.active.map (·.berths)).getD []).filter fun w => w.kind == 2 && w.owner == p
        (ws.foldl State.pinBerth s).endJob j (done [])

/-! ### Frames (R501, R502, R507, R516, R526) -/

/-- Forward an unmatched frame (R502). -/
def State.forwardFrame (s : State) (p : Nat) (f : Frame) : State :=
  let fwd := s.fld (aPT_PEER + 4 * p) 25 16
  if fwd > 511 then s else s.sendLane fwd none (f.body ++ f.tag)

/-- MACsec on a received frame (R505, R507): the state after, or `none` where the frame goes no further. -/
def State.screenFrame (s : State) (p : Nat) (f : Frame) : Option State :=
  if !s.macsecOn p ∨ f.eapol then some s
  else f.secTag.bind fun t => s.unprotect p t

/-- A frame that has passed the MAC: the classifier, the SE's credits, and the checks of R516. -/
def State.takeFrame (s : State) (p : Nat) (f : Frame) : State :=
  match s.classify p f with
  | none => s.forwardFrame p f
  | some (id, x) =>
    let s := (s.countStream id 0).touchContext id x
    let items := ceilDiv f.wireLen 64
    match s.takeSe (f.lane / 128) x.cls items with
    | none => s.bump aPT_SE_OVERRUN 0
    | some se =>
      let ev := s.tr.nextFlight
      let fl : Flight := { frame := f, stream := id, ctx := x, se := se, items := items, stage := .egress }
      let s := s.countFrame x.cls se
      let s := { s with tr := { s.tr with nextFlight := ev + 1, flights := tset s.tr.flights ev fl } }
      s.frameChecks ev fl x

/-- STREAM_FRAME. Mark: DESIGN CHOICE (log entry 88). -/
def execStreamFrame (f : Frame) (s : State) : Result :=
  let l := f.lane
  let p := s.portOf l
  if !s.laneUp l then .next s
  else
    let s := s.bump aPT_RX_FRAMES l
    if f.wireLen < 64 ∨ f.wireLen > s.maxFrame p then .next (s.bump aPT_RX_ERR l)
    else match s.screenFrame p f with
      | none => .next (s.macsecDrop l)
      | some s =>
        if s.macsecOn p ∧ f.eapol = true then .next (s.emit (.mgmt0 (l + 1) (f.body ++ f.tag)))
        else
          let s := match s.redPeer l with
            | some q => if s.lane l 17 16 = 3 ∧ !f.forModule then s.sendLane q none (f.body ++ f.tag) else s
            | none => s
          .next (s.takeFrame p f)

/-- FRAME_EGRESS (R526). -/
def execFrameEgress (id : Nat) (s : State) : Result :=
  match s.flight id with
  | none => .next s
  | some f =>
    if f.stage ≠ .egress then .next s
    else .next ((if f.drop then s else s.sendFlight f f.bytes).dropFlight id)

/-- MGMT_LANE_FRAME (R507). -/
def execMgmtLaneFrame (vid : Nat) (bytes : Bytes) (s : State) : Result :=
  let l := vid - 1
  if vid = 0 ∨ !s.laneUp l ∨ !s.macsecOn l then .next s
  else .next ((s.emit (.frame l none bytes)).bump aPT_TX_FRAMES l)

/-- SIGNED_EVENT_RELEASE (R522, R523): the frame leaves with its signed-event value, and a host copy is written. -/
def execSignedEventRelease (ev : Nat) (s : State) : Result :=
  match s.flight ev with
  | none => .next s
  | some f =>
    if !f.signed then .next s
    else if f.drop then .next (s.dropFlight ev)
    else
      let bytes := f.bytes ++ signedElement f
      let s := ((s.dropFlight ev).sendFlight f bytes).countStream f.stream 12
      .next ((s.bump aST_EVT_SIGNED 0).postCopy f.inst f.stream f.ctx.outPort bytes)

/-- LATE_LIMIT_EXPIRY (R521): signing has not started within the policy's limit. -/
def execLateLimitExpiry (ev : Nat) (s : State) : Result :=
  match s.flight ev with
  | none => .next s
  | some f =>
    match f.stage with
    | .event j =>
      if f.arrived + f.limit ≤ s.tb.crossings ∧ (s.job j).any (fun b => b.phase == .fifo) = true then
        .next ((s.removeJob j).lateEvent ev)
      else .next s
    | _ => .next s

/-! ### FIFOs (R527 to R531) -/

/-- The class a dispatch FIFO serves: 86 the key store, 87 the RNG. -/
def fifoHolds (fifo : Nat) (b : Job) : Bool :=
  b.phase == .fifo && !b.isMp && (opInfo b.opcode).any fun o =>
    if fifo < 86 then o.cls == fifo - 79
    else o.cls == 0 && (fifo == 87) == (b.opcode == opRNG_GET || b.opcode == opRNG_STATUS)

/-- The items a waiting job holds: its packet in 64-byte items. Mark: DEDUCED (log entry 52). -/
def Job.items (b : Job) : Nat := ceilDiv (32 + b.paramLen) 64

/-- The items a FIFO holds. -/
def State.fifoItems (s : State) (fifo : Nat) : Nat :=
  if fifo < 40 then s.seItems fifo
  else if fifo < 80 then 0
  else ((s.jobs.filter fun e => fifoHolds fifo e.2).map fun e => e.2.items).sum

/-- Discard what a FIFO holds; its credits return. Mark: DEDUCED (log entry 52). -/
def State.emptyFifo (s : State) (fifo : Nat) : State :=
  if fifo < 40 then
    { s with tr := { s.tr with flights := s.tr.flights.filter fun e => !(e.2.se == fifo && e.2.items != 0) } }
  else if fifo < 80 then s
  else
    let js := s.jobsWhere (fifoHolds fifo)
    let pairOf := fun (j : Nat) => match (s.job j).map fun (b : Job) => b.src with
      | some (Source.queue q) => some q
      | _ => none
    let qs := js.filterMap pairOf
    qs.foldl State.checkIdle (js.foldl State.removeJob s)

/-- PT_FIFO_FLUSH (R530). -/
def execPtFifoFlush (v : Reg) (s : State) : Result :=
  let fifo := v.toNat % 128
  if fifo > 87 then .next s
  else .next ((s.bumpBy aPT_FIFO_DISCARD fifo (s.fifoItems fifo)).emptyFifo fifo)

/-- FIFO_POINTER_MISMATCH (R531). -/
def execFifoPointerMismatch (fifo : Nat) (s : State) : Result :=
  if fifo > 87 then .next s
  else
    let n := s.fifoItems fifo
    let s := ((s.bumpBy aPT_FIFO_LOST fifo n).bump aPT_FIFO_RESETS fifo).emptyFifo fifo
    .next (s.raise { source := 0x480 + fifo, access := 6, kind := 0x20, master := 0, address := n, fatal := false })

/-! ### Lanes and cages (R500, R534, R630, R650, R651) -/

/-- A cage. -/
def State.cage (s : State) (c : Nat) : Cage := tgetD s.tr.cages c {}

/-- A cage carries a lane of its own: it holds a module, and a four-lane module has lanes 0 to 3 alone (R650). -/
def Cage.carries (x : Cage) (l : Nat) : Bool := x.present && (!x.narrow || l % 8 < 4)

/-- Store a cage; the lanes it does not carry lose their link. -/
def State.setCage (s : State) (c : Nat) (x : Cage) : State :=
  let up := s.tr.up.filter fun l => l / 8 != c || x.carries l
  { s with tr := { s.tr with cages := tput s.tr.cages c x {}, up := up } }

/-- The bit of a cage in PWR_CAGE_EN. -/
def cageOn (w : Nat → Nat) (c : Nat) : Bool :=
  if c < 32 then bitAt (w aPWR_CAGE_EN_LO) c else bitAt (w aPWR_CAGE_EN_HI) (c - 32)

/-- LANE_LINK_CHANGE: LINK_UP sets once a configured lane of a powered cluster has trained, and clears when it loses its
link. -/
def execLaneLinkChange (lane : Nat) (up : Bool) (s : State) : Result :=
  let rest := s.tr.up.filter (· != lane)
  if !up then .next { s with tr := { s.tr with up := rest } }
  else if lane < 512 ∧ s.speed lane ≠ 0 ∧ s.ready (17 + lane / 128) ∧ (s.cage (lane / 8)).carries lane then
    .next { s with tr := { s.tr with up := rest ++ [lane] } }
  else .next s

/-- CAGE_OVERCURRENT (R651): the cage loses its power and OPTIC_FAULT is raised. -/
def execCageOvercurrent (cage : Nat) (s : State) : Result :=
  if !(s.cage cage).powered then .next s
  else .next ((s.setCage cage { fault := true }).raise
    { source := 0x650 + cage, access := 0, kind := 0x54, master := 0, address := cage, fatal := false })

/-- CAGE_MODULE_PRESENT (R630, R650): a QSFP-DD module, or a four-lane QSFP28 or QSFP+ one. -/
def execCageModulePresent (m : CageModule) (s : State) : Result :=
  if (s.cage m.cage).powered then .next (s.setCage m.cage { powered := true, present := true, narrow := m.narrow })
  else .next s

/-- CAGE_MODULE_UNPLUGGED (R650). -/
def execCageModuleUnplugged (cage : Nat) (s : State) : Result :=
  .next (s.setCage cage { (s.cage cage) with present := false, narrow := false })

end Sys2Proof.Machine
end

