-- ==== Sys2Proof/Machine/Microcode.lean ====
section
/-!
DEFINITION. Microwords, the machine checks of the microcode stores, and microcode packs: their checks, MICROCODE_LOAD and
the loading at start-up (chapter 09).
-/

namespace Sys2Proof.Machine

/-! ### Sequencers (R369 to R372) -/

/-- The sequencer of an engine. -/
def State.seq (s : State) (k : Nat) : Sequencer := tgetD s.seqs k {}

/-- Store a sequencer. -/
def State.setSeq (s : State) (k : Nat) (q : Sequencer) : State := { s with seqs := tput s.seqs k q {} }

/-- Microwords and nanowords of a cluster's segment (R374). -/
def segmentSize (k : Nat) : Nat × Nat := if k < 4 then (10240, 2048) else if k < 6 then (4096, 1024) else (8192, 3072)

/-- A sequencer fault (R370, R372, R375): CONTAINED, and counted. -/
def State.sequencerFault (s : State) (cls i : Nat) : State :=
  (s.bump aMC_SEQ_FAULTS 0).raiseEng cls i 0x14 (s.seq (engKey cls i)).pc

/-- The values a conditional microword branches on (R371); those of the engine's own units are free.
Mark: DESIGN CHOICE (log entry 48). -/
def State.branchOn (s : State) (cls i : Nat) (b : Job) (cond : Nat) : Bool × State :=
  match cond with
  | 0 => (true, s)
  | 1 => (cls == 1 && (s.lvu i).pany, s)
  | 2 => (!(cls == 1 && (s.lvu i).pany), s)
  | 6 => (b.forkEngines != [], s)
  | 7 => (if cls = 1 then (s.lvu i).winW.length < (s.lvu i).winR.length else s.keyCached b (engKey cls i), s)
  | 8 => (s.hasSealed b.handle, s)
  | _ => if cond ≤ 5 then
      let d := s.drawNat 2
      (d.1 == 1, d.2)
    else (false, s)

/-- Where a cluster's segment begins in the micro-store of R374, in microwords: the segments lie in MC_SEL order.
Mark: DEDUCED (log entry 51). -/
def segmentOffset (k : Nat) : Nat := ((List.range k).map fun i => (segmentSize i).1).sum

/-- One microword of an image: SEQ, NPTR and IMM, and the bits above them. -/
def uwFields (fmt w : Nat) : Nat × Nat × Nat × Nat :=
  if fmt = 1 then (w / 2 ^ 33 % 8, w / 2 ^ 19 % 2 ^ 14, w % 2 ^ 19, w / 2 ^ 36)
  else (w / 2 ^ 29 % 8, w / 2 ^ 15 % 2 ^ 14, w % 2 ^ 15, 0)

/-- The microword that a loaded pack holds at a micro-address (R369, R377, R380). -/
def Pack.microword (p : Pack) (pc : Nat) : Nat × Nat × Nat × Nat :=
  let n := (packShape p.fmt).2.2.1
  uwFields p.fmt (leAt p.body (leAt p.body 28 4 + n * pc) n)

/-- The low bits of a microword's IMM: 15 in MCI2, 19 in MCI1 (R370, R380). -/
def immOf (fmt imm : Nat) : Nat := if fmt = 1 then imm % 2 ^ 19 else imm % 2 ^ 15

/-- The address a relative target names: IMM[10:0] sign-extended (R370). -/
def branchTarget (pc imm : Nat) : Nat :=
  ((pc : Int) + (if imm % 2048 < 1024 then (imm % 2048 : Int) else (imm % 2048 : Int) - 2048)).toNat

/-- What a microword does to its sequencer: the new one, or a sequencer fault. -/
inductive UwEnd where
  | go (q : Sequencer)
  | fault
  deriving DecidableEq, Repr

/-- One microword on an engine (R369, R370, R372, R375), with its SEQ code: it runs while the engine runs a job, its
routine has not ended and no LVU restart is due, and it is the one that a loaded pack holds there. A word outside the pack
is a fault, and so are 2,000 cycles without YIELD on an ME, CE or BNE.
Mark: DEDUCED (log entry 47), DESIGN CHOICE (log entries 5, 48). -/
def State.microword (s : State) (cls i sq nptr imm : Nat) (f : State → Job → Sequencer → Nat → UwEnd × State) : State :=
  let k := engKey cls i
  match clusterOf cls i, ((s.eng k).busy).bind s.job with
  | some c, some b =>
    let q := s.seq k
    let p := s.packOf c
    if b.phase ≠ .running ∨ q.ended ∨ (cls = 1 ∧ (s.lvu i).restart.isSome) then s
    else if p.uw ≤ q.pc ∨ p.nw ≤ nptr % 16384 then s.sequencerFault cls i
    else if !p.base ∧ p.microword q.pc ≠ (sq, nptr % 16384, immOf p.fmt imm, 0) then s
    else
      let r := f s b { q with cycles := q.cycles + 1, nptr := nptr % 16384, imm := 0, issued := q.pc } (immOf p.fmt imm)
      match r.1 with
      | .fault => r.2.sequencerFault cls i
      | .go x => if cls ≠ 1 ∧ x.cycles > 2000 then r.2.sequencerFault cls i else r.2.setSeq k x
  | _, _ => s

/-- NEXT (R370). -/
def execUwNext (cls : EngClass) (eng nptr imm : Nat) (s : State) : Result :=
  .next (s.microword (classCode cls) eng 0 nptr imm fun s _ q v => (.go { q with pc := q.pc + 1, imm := v }, s))

/-- JUMP (R370). -/
def execUwJump (cls : EngClass) (eng nptr imm : Nat) (s : State) : Result :=
  .next (s.microword (classCode cls) eng 1 nptr imm fun s _ q v => (.go { q with pc := 2 * v }, s))

/-- BRANCH (R370, R371). -/
def execUwBranch (cls : EngClass) (eng nptr imm : Nat) (s : State) : Result :=
  .next (s.microword (classCode cls) eng 2 nptr imm fun s b q v =>
    let r := s.branchOn (classCode cls) eng b (v / 2048 % 16)
    (.go { q with pc := if r.1 then branchTarget q.pc v else q.pc + 1 }, r.2))

/-- LOOP (R370). -/
def execUwLoop (cls : EngClass) (eng nptr imm : Nat) (s : State) : Result :=
  .next (s.microword (classCode cls) eng 3 nptr imm fun s _ q v =>
    let c := v / 2 ^ 13 % 4
    let n := (tgetD q.lc c 0 + 65535) % 65536
    (.go { q with lc := tput q.lc c n 0, pc := if n ≠ 0 then branchTarget q.pc v else q.pc + 1 }, s))

/-- CALL: a full return stack is a fault (R370). -/
def execUwCall (cls : EngClass) (eng nptr imm : Nat) (s : State) : Result :=
  .next (s.microword (classCode cls) eng 4 nptr imm fun s _ q v =>
    if q.ret.length ≥ 8 then (.fault, s) else (.go { q with ret := (q.pc + 1) :: q.ret, pc := 2 * v }, s))

/-- RETURN: an empty return stack is a fault (R370). -/
def execUwReturn (cls : EngClass) (eng nptr imm : Nat) (s : State) : Result :=
  .next (s.microword (classCode cls) eng 5 nptr imm fun s _ q _ =>
    match q.ret with
    | [] => (.fault, s)
    | a :: t => (.go { q with ret := t, pc := a }, s))

/-- YIELD: a preemption point (R95, R370). No PE pack holds one (R372). -/
def execUwYield (cls : EngClass) (eng nptr imm : Nat) (s : State) : Result :=
  let c := classCode cls
  if c = 1 then .next s
  else .next ((s.microword c eng 6 nptr imm fun s _ q v =>
    (.go { q with pc := q.pc + 1, imm := v, cycles := 0 }, s)).preemptPoint c eng)

/-- END: the routine ends with this microword (R370). -/
def execUwEnd (cls : EngClass) (eng nptr imm : Nat) (s : State) : Result :=
  .next (s.microword (classCode cls) eng 7 nptr imm fun s _ q v => (.go { q with imm := v, ended := true }, s))

/-- SEQUENCER_GUARD_EXPIRY (R372). -/
def execSequencerGuardExpiry (cls : EngClass) (eng : Nat) (s : State) : Result :=
  let c := classCode cls
  match clusterOf c eng, ((s.eng (engKey c eng)).busy).bind s.job with
  | some _, some b =>
    if c ≠ 1 ∧ b.phase = .running ∧ s.passed b.grantUp 1600 then .next (s.sequencerFault c eng) else .next s
  | _, _ => .next s

/-! ### Machine checks (R376) -/

/-- MCODE_PARITY: the job of the engine ends FAULT_CONTAINED, and the cluster goes out of service for its reload. An
MCI1 segment has no parity. -/
def execMcodeParity (cls : EngClass) (eng addr : Nat) (s : State) : Result :=
  let c := classCode cls
  match clusterOf c eng, ((s.eng (engKey c eng)).busy).bind s.job with
  | some k, some b =>
    if b.phase = .running ∧ (s.packOf k).fmt = 2 then
      .next (((s.onCluster k fun x => { x with oos := true, load := .reloading }).bump aMC_MCHK_CNT k).raiseEng c eng
        0x15 addr)
    else .next s
  | _, _ => .next s

/-- A MICROCODE_LOAD drains cluster `k`. -/
def State.drains (s : State) (k : Nat) : Bool :=
  s.jobs.any fun e => match e.2.wait with
    | .segments m => bitAt m k
    | _ => false

/-- A segment that fails its verification is FATAL (R376, R385). Mark: DEDUCED (log entry 51). -/
def State.segmentFailed (s : State) (k : Nat) : State :=
  (s.onCluster k fun x => { x with load := .failed }).raise
    { source := 0x4E0, access := 0, kind := 0x16, master := 0, address := segmentOffset k, fatal := true }

/-- SEGMENT_RELOAD_DONE (R376). -/
def execSegmentReloadDone (k : Nat) (ok : Bool) (s : State) : Result :=
  if (s.cluster k).load ≠ .reloading then .next s
  else if ok then
    .next (s.onCluster k fun x => { x with oos := false, load := if s.drains k then .draining else .active })
  else .next (s.segmentFailed k)

/-! ### Pack images (R377 to R382) -/

/-- The format an image's magic and version name (R377, R380). -/
def packFormat (m : Bytes) : Option Nat :=
  if m.take 4 = asciiBytes "KMC2" 4 ∧ leAt m 4 2 = 2 then some 2
  else if m.take 4 = asciiBytes "KMC1" 4 ∧ leAt m 4 2 = 1 then some 1
  else none

/-- One opcode-table entry (R378, R380). Mark: DEDUCED (log entry 49). -/
def parseOp (fmt : Nat) (b : Bytes) : OpTime :=
  let e : OpTime := { opcode := leAt b 0 2, param := leAt b 2 2, entry := leAt b 4 2, flags := leAt b 6 2, o := leAt b 8 4 }
  if fmt = 1 then e
  else { e with
    s := leAt b 12 4, a := leAt b 16 4, i := leAt b 20 4, f := leAt b 24 4, sb := leAt b 28 2,
    blockBytes := leAt b 30 1, blockCycles := leAt b 31 1 }

/-- The bytes of an image that its body digest and the vendor signature cover. -/
def packBody (m : Bytes) : Bytes := m.take (leAt m 40 4)

/-- The pack an image holds. -/
def parsePack (fmt : Nat) (m : Bytes) : Pack :=
  let z := packShape fmt
  { id := leAt m 8 4, version := leAt m 12 4, fmt := fmt, base := false, cls := leAt m 16 1, uw := leAt m 32 2,
    nw := leAt m 34 2, digest := sha512 (packBody m), body := m,
    ops := (List.range (leAt m 24 2)).map fun n => parseOp fmt (slice m (z.1 + z.2.1 * n) z.2.1) }

/-- Check 1 of R384: magic, version, lengths, offsets and reserved fields. Mark: DEDUCED (log entry 50). -/
def packFormBad (fmt : Nat) (m : Bytes) : Bool :=
  let z := packShape fmt
  let n := leAt m 24 2
  let uwOff := z.1 + z.2.1 * n
  let nwOff := uwOff + z.2.2.1 * leAt m 32 2
  let body := nwOff + z.2.2.2.1 * leAt m 34 2
  leAt m 6 2 != z.1 || leAt m 8 4 == 0 || leAt m 20 4 != z.1 || n == 0 || n > 1024 || leAt m 28 4 != uwOff
    || leAt m 32 2 == 0 || leAt m 34 2 == 0 || leAt m 36 4 != nwOff || leAt m 40 4 != body
    || leAt m 44 4 != body + z.2.2.2.2 || m.length != body + z.2.2.2.2
    || leAt m 18 1 > 9 || leAt m 19 1 != 0 || leAt m 26 2 != 0
    || (if fmt = 1 then !allZero (slice m 48 16) else !allZero (slice m 112 16))
    || (List.range n).any fun i =>
      let flags := leAt m (z.1 + z.2.1 * i + 6) 2
      flags / 8 != 0 || (fmt == 1 && flags % 2 == 1)

/-- The composite, contexts and signature length of a format (R381). -/
def packSigner (fmt : Nat) : Nat × String × String × Nat :=
  if fmt = 1 then (0x23, "KMC1-VENDOR", "KMC1-OWNER", 3373) else (0x25, "KMC2-VENDOR", "KMC2-OWNER", 4723)

/-- Zenneha's microcode key, which the running firmware image carries (R381). -/
def vendorKey (combo : Nat) : Bytes := Config.standard "firmware.microcodeKey" combo [] (((compositeOf combo).map (·.2.2.2.1)).getD 0)

/-- The digest that names the owner's key: OWNER_ID, or the 32 bytes before the owner block (R377, R380).
Mark: DEDUCED (log entry 49). -/
def ownerDigest (fmt : Nat) (m : Bytes) : Bytes :=
  if fmt = 1 then slice m (leAt m 40 4 + 3373) 32 else slice m 80 32

/-- The countersigning key of N5 with a digest (R381). -/
def State.ownerKey (s : State) (d : Bytes) : Option Bytes :=
  ((s.ks.trust.filter fun t => t.role == 3).map (·.body)).find? fun k => sha3_256 k == d

/-- Whether a signature block verifies. -/
def packVerifies (fmt : Nat) (ctx : String) (key m sig : Bytes) : Bool :=
  (compositeVerify (packSigner fmt).1 (asciiBytes ctx ctx.length) m key sig).getD false

/-- A microword violates check 8 of R384. -/
def uwBad (p : Pack) (w : Nat) : Bool :=
  let (sq, nptr, imm, high) := uwFields p.fmt w
  high != 0 || nptr ≥ p.nw || ((sq == 1 || sq == 4) && 2 * imm ≥ p.uw) || (sq == 2 && imm / 2048 % 16 > 8)
    || (p.cls == 1 && sq == 6)

/-- The register operands an LVU instruction names (R361), or `none` for an unassigned LOP; VD + g of the two that write
a pair of operands. Mark: DESIGN CHOICE (log entry 44). -/
def lvuOperands (lop : Nat) (vd va vb g : Nat) : Option (List Nat) :=
  match lop with
  | 0x00 | 0x08 | 0x2A => some []
  | 0x01 | 0x06 | 0x07 => some [vd]
  | 0x02 => some [va]
  | 0x03 => some [vd, vb]
  | 0x04 | 0x28 => some [va, vb]
  | 0x05 | 0x0C | 0x15 | 0x16 | 0x20 | 0x21 | 0x24 | 0x30 | 0x31 => some [vd, va]
  | 0x09 | 0x0A | 0x0B | 0x10 | 0x11 | 0x12 | 0x13 | 0x14 | 0x18 | 0x19 | 0x1A | 0x29 => some [vd, va, vb]
  | 0x22 | 0x23 => some [vd, vd + g, va]
  | _ => none

/-- The highest AUX code assigned to an instruction that has variants (R361). -/
def auxMax (lop : Nat) : Nat :=
  if [0x07, 0x0B, 0x0C, 0x23, 0x24, 0x30].contains lop then 1 else 3

/-- A nanoword violates check 8 of R384: its LVU field on a PE, which the other classes leave zero, and the reserved
bits of MEMB. Mark: DEDUCED (log entry 50), DESIGN CHOICE (log entry 44). -/
def nwBad (p : Pack) (b : Bytes) : Bool :=
  let f := leAt b 20 4
  let g := 2 ^ bitsAt f 7 6
  let lop := bitsAt f 31 26
  let lvuBad := if p.cls = 1 then
      match lvuOperands lop (bitsAt f 25 21) (bitsAt f 20 16) (bitsAt f 15 11) g with
      | none => true
      | some rs => rs.any (fun r => r % g != 0 || r + g > 32) || bitsAt f 1 0 > auxMax lop
    else p.fmt == 2 && f != 0
  lvuBad || (p.fmt == 2 && bitsAt (leAt b 4 4) 31 20 != 0) || !allZero (b.drop 27)

/-- Check 8 of R384. -/
def packWordsBad (p : Pack) : Bool :=
  let z := packShape p.fmt
  let uwOff := leAt p.body 28 4
  let nwOff := leAt p.body 36 4
  (List.range p.uw).any (fun n => uwBad p (leAt p.body (uwOff + z.2.2.1 * n) z.2.2.1))
    || (List.range p.nw).any (fun n => nwBad p (slice p.body (nwOff + z.2.2.2.1 * n) z.2.2.2.1))
    || !allZero (slice p.body nwOff z.2.2.2.1) || p.ops.any fun t => t.entry ≥ p.uw

/-- The engines of a cluster: its class and their numbers (R374). -/
def clusterEngines (k : Nat) : List (Nat × Nat) :=
  let c := clusterClass k
  ((List.range (classSize c)).filter fun i => clusterOf c i == some k).map fun i => (c, i)

/-- The clusters of a mask. -/
def clustersIn (mask : Nat) : List Nat := (List.range 8).filter fun k => bitAt mask k

/-- A cluster has berths in the active manifest or holds a pinned event key (R384, R389). -/
def State.clusterHeld (s : State) (k : Nat) : Bool :=
  (s.xs.active.any fun m => m.berths.any fun w => w.clusters.contains k)
    || (clusterEngines k).any fun e => (s.eng (engKey e.1 e.2)).cache.any (·.pinned)

/-- An MCI1 pack may not run on a PE cluster of BE_FORK_MASK (R384, R389). -/
def forkHeld (forkMask : Nat) (p : Pack) (k : Nat) : Bool := p.fmt == 1 && k < 4 && bitAt forkMask k

/-- Checks 1 to 8 of R384 on an image for the clusters of a mask: the pack, or the failing check, its status and the
verdict. Mark: DEDUCED (log entry 50). -/
def State.checkPack (s : State) (m : Bytes) (mask : Nat) : Except (Nat × Nat × Nat) Pack :=
  match packFormat m with
  | none => .error (1, stMALFORMED, 0)
  | some fmt =>
    let n := leAt m 40 4
    let (combo, vctx, octx, len) := packSigner fmt
    let vendor := slice m n len
    let owner := m.drop (m.length - len)
    let p := parsePack fmt m
    if packFormBad fmt m then .error (1, stMALFORMED, 0)
    else if !packVerifies fmt vctx (vendorKey combo) (packBody m) vendor then .error (2, stVERIFY_FAIL, 1)
    else match s.ownerKey (ownerDigest fmt m) with
      | none => .error (3, stCONFIG_INCONSISTENT, 0)
      | some key =>
        if !packVerifies fmt octx key (packBody m ++ vendor) owner then .error (4, stVERIFY_FAIL, 1)
        else if leAt m 17 1 ≠ s.fld aID_FABRIC_REV 15 8 ∨ s.fld aID_FABRIC_REV 7 0 < 0x30 + leAt m 18 1 then
          .error (5, stCONFIG_INCONSISTENT, 0)
        else if p.version < tgetD s.mc.floors p.id 0 then .error (6, stINPUT_RANGE, 0)
        else if (clustersIn mask).any (fun k => clusterClass k != p.cls || (segmentSize k).1 < p.uw || (segmentSize k).2 < p.nw)
            ∨ (fmt = 1 ∧ p.cls = 3) then .error (7, stCONFIG_INCONSISTENT, 0)
        else if packWordsBad p then .error (8, stMALFORMED, 0)
        else .ok p

/-! ### MICROCODE_LOAD (R383 to R386) -/

/-- CLUSTERS of a load. -/
def Job.loadMask (b : Job) : Nat := tlvNat b.params 0x0121 0

/-- The clusters with a load in progress (MC_LOAD_MASK): they drain or wait for their commit.
Mark: DEDUCED (log entry 50). -/
def State.loading (s : State) : Nat :=
  (s.jobs.map fun e => if e.2.opcode = opMICROCODE_LOAD ∧ e.2.phase = .running ∧ e.2.wait ≠ .no then e.2.loadMask else 0).foldl
    Nat.lor 0

/-- A load that fails (R383). -/
def loadFailed (check status verdict : Nat) : Ending :=
  { status := status, verdict := verdict, results := [⟨0x0127, leBytes check 1⟩] }

/-- A load whose commit was applied (R385). -/
def loadDone (p : Pack) : Ending :=
  { status := stDONE, verdict := vPass,
    results := [⟨0x0125, leBytes p.id 4 ++ leBytes p.version 4⟩, ⟨0x0126, p.digest⟩] }

/-- Once no segment is left to write, the load waits for its guard (R385 step 4). -/
def State.awaitLoad (s : State) (j : Nat) (mask : Nat) : State :=
  s.onJob j fun b => { b with wait := if mask = 0 then .guardBefore (b.atStamp 0x0124) 0x4000 else .segments mask }

/-- MICROCODE_LOAD: the checks, with the signatures checked on a PE (R142), then the drain of each selected cluster. A load of a cluster that another load holds is
taken up when that one ends. Mark: DEDUCED (log entry 50). -/
def execMicrocodeLoad (j : Nat) (s : State) : Result :=
  runMp s j opMICROCODE_LOAD fun s b =>
    let mask := b.loadMask
    if b.noRoom (tlvLen 8 + tlvLen 64) then s.failJob j stLIMIT_EXCEEDED
    else if tlvNat b.params 0x0122 1 > 1 ∨ tlvNat b.params 0x0123 0 > 1 then s.failJob j stMALFORMED
    else if Nat.land s.loading mask ≠ 0 then s
    else s.withEngine j b 1 opCOMPOSITE_VERIFY [⟨0x005B, [0x25]⟩] fun s => match s.checkPack (b.val 0x0120) mask with
      | .error e => s.endJob j (loadFailed e.1 e.2.1 e.2.2)
      | .ok p =>
        if (clustersIn mask).any fun k => s.clusterHeld k || forkHeld (s.fld aPE_CTL 11 8) p k then
          s.endJob j (loadFailed 9 stCONFIG_INCONSISTENT 0)
        else
          let s := (clustersIn mask).foldl (fun s k => s.onCluster k fun x =>
            { x with load := if x.load = .reloading then .reloading else .draining }) s
          (s.onJob j fun b => { b with after := some (loadDone p) }).awaitLoad j mask

/-- The load that drains cluster `k`. -/
def State.loadOf (s : State) (k : Nat) : Option Nat :=
  (s.jobsWhere fun b => match b.wait with
    | .segments m => bitAt m k
    | _ => false).head?

/-- MICROCODE_DRAIN_END (R385 steps 2 and 3): no job runs on the cluster and no context waits there; its segment is
written and verified. -/
def execMicrocodeDrainEnd (k : Nat) (ok : Bool) (s : State) : Result :=
  match s.loadOf k with
  | none => .next s
  | some j =>
    match s.job j with
    | none => .next s
    | some b =>
      let still := (clusterEngines k).any fun e =>
        let x := s.eng (engKey e.1 e.2)
        x.busy.isSome || x.saved != []
      if (s.cluster k).load ≠ .draining ∨ still then .next s
      else if !ok then .next (s.segmentFailed k)
      else
        let img := b.val 0x0120
        let p := parsePack ((packFormat img).getD 2) img
        let left := match b.wait with
          | .segments m => if bitAt m k then m - 2 ^ k else m
          | _ => 0
        .next ((s.onCluster k fun x => { x with load := .writing, written := some p }).awaitLoad j left)

/-- The MC_ASSIGN values of a load. -/
def Job.assignWrites (b : Job) (p : Pack) : List (Nat × Nat) :=
  (clustersIn b.loadMask).map fun k => (aMC_ASSIGN + 4 * k, p.id)

/-- The pack of a load. -/
def Job.loadPack (b : Job) : Pack :=
  let img := b.val 0x0120
  parsePack ((packFormat img).getD 2) img

/-- The pack written into a cluster becomes active (R385). -/
def State.activatePack (s : State) (k : Nat) : State :=
  match (s.cluster k).written with
  | none => s
  | some p => (s.onCluster k fun x => { x with load := .active, pack := some p, written := none }).bump aMC_LOAD_CNT k

/-- The effects of an applied load on N1 and the boot flash (R382, R385). Mark: DESIGN CHOICE (log entry 36). -/
def State.recordLoad (s : State) (b : Job) : State :=
  let p := b.loadPack
  let mc := s.mc
  let mc := if tlvNat b.params 0x0123 0 = 1 then
      { mc with floors := tset mc.floors p.id (max (tgetD mc.floors p.id 0) p.version) }
    else mc
  let mc := if tlvNat b.params 0x0122 1 = 1 then
      { mc with
        flash := (mc.flash.filter fun x => x.id != p.id || x.version != p.version) ++ [p]
        assigned := (clustersIn b.loadMask).foldl (fun t k => tset t k (p.id, p.version)) mc.assigned }
    else mc
  { s with mc := mc }

/-- A refused load leaves every cluster on its previous pack (R389). -/
def State.undoLoad (s : State) (b : Job) : State :=
  (clustersIn b.loadMask).foldl (fun s k => s.onCluster k fun x => { x with load := .active, written := none }) s

/-- The first refusal of the MICROCODE group (R389): its fail code and register. `proposed` gives the values the set
asks for; `forkMask` is BE_FORK_MASK as the set leaves it. -/
def State.microcodeCheck (s : State) (proposed : Nat → Nat) (forkMask : Nat) : Option (Nat × Nat) :=
  (List.range 8).findSome? fun k =>
    let off := aMC_ASSIGN + 4 * k
    let v := proposed off
    if v = s.reg off ∧ (s.cluster k).written.all (·.id != v) then none
    else match (s.cluster k).written with
      | none => some (2, off)
      | some p =>
        if p.id ≠ v then some (2, off)
        else if s.clusterHeld k ∨ forkHeld forkMask p k then some (3, off)
        else none

/-! ### Start-up (R387) -/

/-- The pack that N1 assigns to a cluster, or the check that its image fails; `none` where N1 assigns none or the flash
holds no such image. -/
def State.assignedPack (s : State) (k : Nat) : Option (Except Nat Pack) :=
  match tget s.mc.assigned k with
  | none => none
  | some a =>
    match s.mc.flash.find? fun p => p.id == a.1 && p.version == a.2 with
    | none => some (.error 1)
    | some p => some (match s.checkPack p.body (2 ^ k) with
        | .ok q => .ok q
        | .error e => .error e.1)

/-- A cluster starts with a pack: its segment is written and verified, and its ready bit sets, in SERVICE only (R608).
Mark: DEDUCED (log entry 51). -/
def State.startCluster (s : State) (k : Nat) (p : Pack) : State :=
  let s := s.onCluster k fun x => { x with load := .active, pack := some p, written := none, oos := false }
  let s := (s.setReg (aMC_ASSIGN + 4 * k) p.id).setShadow (aMC_ASSIGN + 4 * k) p.id
  let s := s.bump aMC_LOAD_CNT k
  if s.fc.mstate = .service then s.setReady (clusterReadyBit k) true else s

/-- The domain of a cluster's engines. -/
def clusterDomain (k : Nat) : Nat := ((clusterEngines k).head?.map fun e => engDomain e.1 e.2).getD 0

/-- STARTUP_MICROCODE_LOAD: the assigned pack if it passes checks 1 to 8, else the base pack; MC_FALLBACK reports a
failure. A PE cluster whose pack is MCI1 first leaves BE_FORK_MASK by a commit of the ENGINE group.
Mark: DEDUCED (log entry 51). -/
def execStartupMicrocodeLoad (k : Nat) (s : State) : Result :=
  if k ≥ 8 ∨ s.mp.state ≠ .run ∨ !s.ready 4 ∨ s.domain (clusterDomain k) ≠ .on ∨ (s.cluster k).load ≠ .empty then .next s
  else
    let base := basePack (clusterClass k)
    match s.assignedPack k with
    | none => .next (s.startCluster k base)
    | some (.error c) => .next ((s.startCluster k base).postEvent 0 0x0220 none k c)
    | some (.ok p) =>
      let ctl := s.reg aPE_CTL
      if forkHeld (bitsAt ctl 11 8) p k then
        if s.groupsBusy 0x2000 then .next s
        else
          let s := s.setShadow aPE_CTL (setBits (s.shadowReg aPE_CTL) 11 8 (bitsAt (s.shadowReg aPE_CTL) 11 8 - 2 ^ k))
          .next { s with cfg := { s.cfg with pending := s.cfg.pending ||| 0x2000, byMp := s.cfg.byMp ||| 0x2000 } }
      else .next (s.startCluster k p)

/-! ### Registers -/

/-- MC_LVU_FLT0_RELEASE (R368): a 1 in VALID releases the record. -/
def execMcLvuFlt0Release (v : Reg) (s : State) : Result :=
  if v.getLsbD 31 then .next { s with mc := { s.mc with flt := none } } else .next s

/-- PE_KC_FLUSH (R218, R259): the unpinned entries of every PE of the named clusters become unusable; a job that holds
one finishes with it. -/
def execPeKcFlush (v : Reg) (s : State) : Result :=
  .next (((List.range 16).filter fun i => v.getLsbD (i / 4)).foldl (fun s i => s.flushEntries (engKey 1 i)) s)

end Sys2Proof.Machine
end

