-- ==== Sys2Proof/Machine/PowerOps.lean ====
section
/-!
DEFINITION. The shared operations of power and start-up (chapter 17): what each kind of reset keeps (R633), how the ready
bits build up (R639), and the power domains (R627 to R630).
-/

namespace Sys2Proof.Machine

/-! ### What resets keep (R632, R633) -/

/-- The pair as region N6 holds it (R577): every paired state becomes REJOINING, and the role is given up; no partner has
been heard since `now`. -/
def Twin.kept (t : Twin) (now : Nat) : Twin :=
  let was := if t.state = .pairing then (t.hs.map (·.before)).getD .unpaired else t.state
  { state := if was = .unpaired then .unpaired else .rejoining, recorded := t.recorded, node := t.node,
    version := t.version, pairId := t.pairId, partnerMid := t.partnerMid, silentSince := now }

/-- The stored sizes of the partitions that can be set (R51). -/
def Store.parts (n : Store) : List (Nat × Reg) :=
  [aPWR_PART_P2, aPWR_PART_P3, aPWR_PART_P4, aPWR_PART_P6].map fun o => (o, tgetD n.regs o (regReset o))

/-- The journal after a reset (R276): the last record written, if it was not read back, may be whole, half written (bytes 8 to
15 alone) or not there; which of these is free. Mark: DESIGN CHOICE (log entry 106). -/
def State.tornJournal (s : State) : Tab Bytes :=
  match s.hbs.unread.getLast? with
  | none => s.hbs.journal
  | some (w, old) =>
    let new := tgetD s.hbs.journal w (zeros 16)
    match Config.freeNat s.free % 3 with
    | 0 => s.hbs.journal
    | 1 => tset s.hbs.journal w (old.take 8 ++ new.drop 8)
    | _ => tset s.hbs.journal w old

/-- The module with nothing but its NV store, boot flash and alarm latch: every other register at its reset value, the
partition sizes of N6 in force. -/
def State.nvKept (s : State) : State :=
  let parts := s.n6.parts
  let regs : Tab Reg := (parts.filter fun e => e.2 != regReset e.1).foldl (fun t e => tset t e.1 e.2) []
  { ks := {
      roots := if s.al.perm then .erased else .pending, nodes := s.ks.nodes, badNodes := s.ks.badNodes,
      nodesOld := s.ks.nodesOld, n4Copy := s.ks.n4Copy, trust := s.ks.trust, trustOld := s.ks.trustOld,
      n5Copy := s.ks.n5Copy, n0 := s.ks.n0, certs := s.ks.certs, updCounter := s.ks.updCounter }
    fc := {
      exits := s.fc.exits, recoveries := s.fc.recoveries, latchHeld := s.fc.latchHeld, history := s.fc.history,
      mstate := if s.fc.latchHeld then .latched else .service }
    al := { record := s.al.record, perm := s.al.perm }
    n6 := s.n6, n6Old := s.n6Old, n6Copy := s.n6Copy
    regs := regs, shadow := regs
    hbs := { journal := s.tornJournal, parity := s.hbs.parity, laps := s.hbs.laps }
    mc := { floors := s.mc.floors, assigned := s.mc.assigned, flash := s.mc.flash }
    tw := s.tw.kept 0
    pw := {
      imgAVersion := s.pw.imgAVersion, imgBVersion := s.pw.imgBVersion, preferred := s.pw.preferred,
      floor := s.pw.floor, variant := s.pw.variant, serial := s.pw.serial,
      partsNow := parts.map fun e => e.2.toNat }
    outbox := s.outbox, pending := s.pending, free := s.free + 1 }

/-- The domains marked Fixed (R627). -/
abbrev fixedDomains : List Nat := [0, 1, 2, 3, 4, 18, 19, 20, 22]

/-- The boot hardware has powered the fixed domains (R635), and AON sets. -/
def State.bootPower (s : State) (cause boots : Nat) : State :=
  { s with pw := { s.pw with
    rails := true, ready := 1, readyUs := [(0, s.now / 1000)], boots := boots, resetCause := cause,
    domains := fixedDomains.map fun d => (d, .on) } }

/-- The timebase after a module or recovery reset (R633): time, frequency and the rate in force stay, LOCKED becomes
HOLDOVER, and 4,800 Hz comes with the next second. -/
def Timebase.kept (t : Timebase) : Timebase :=
  { state := if t.state = .locked then .holdover else t.state,
    holdSeconds := if t.state = .holdover then t.holdSeconds else 0,
    stamp := t.stamp, ns := t.ns, up := t.up, crossings := t.crossings, rate := t.rate,
    pendingRate := if t.rate = 4800 then none else some 4800, stretched := t.stretched, extra := t.extra,
    ref10m := t.ref10m }

/-- The registers of PD0 that a module reset keeps (R633). -/
def keptReg (off : Nat) : Bool :=
  [aFC_CTL, aFC_WINDOW, aAL_ACTION, aAL_LOOP_EN, aAL_DCM].contains off

/-- The counters of PD0 lie in the FC and AL blocks. -/
def keptCnt (key : Nat) : Bool := 0x40000 ≤ key / 65536 && key / 65536 < 0x60000

/-- A module reset (cause 1) or recovery reset (cause 2): all but PD0 (R632, R633).
Mark: DEDUCED (log entries 39, 73). -/
def State.moduleReset (s : State) (cause : Nat) : State :=
  let k := s.nvKept
  let put := fun (t : Tab Reg) (kept : Tab Reg) => kept.foldl (fun t e => tset t e.1 e.2) t
  let k := { k with
    tb := s.tb.kept
    tw := s.tw.kept s.now
    regs := put k.regs (s.regs.filter fun e => keptReg e.1)
    shadow := put k.shadow (s.shadow.filter fun e => keptReg e.1)
    cnts := s.cnts.filter fun e => keptCnt e.1
    fc := { s.fc with
      mstate := k.fc.mstate, log := [], logSeq := 0, withheld := none }
    al := s.al
    pw := { k.pw with
      feedA := s.pw.feedA, feedB := s.pw.feedB, psuA := s.pw.psuA, psuB := s.pw.psuB, fans := s.pw.fans } }
  k.bootPower cause (s.pw.boots + 1)

/-- A recovery reset into SERVICE or LATCHED (R607, R608). -/
def State.recover (s : State) : State := s.moduleReset 2

/-- Releasing the latch clears the recovery history and recovers into SERVICE (R608). -/
def State.releaseLatch (s : State) : State :=
  ({ s with fc := { s.fc with exits := [], latchHeld := false } } : State).recover

/-- A power-on reset: PD0 powers, the timebase starts FREE, crossing 0 of TAI second 0 begins (R632, R635, R67).
Mark: DESIGN CHOICE (log entries 6, 70). -/
def State.powerOn (s : State) (feedA feedB : Bool) : State :=
  let k := s.nvKept
  ({ k with pw := { k.pw with feedA := feedA, feedB := feedB, psuA := feedA, psuB := feedB } } : State).bootPower 0 1

/-! ### Readiness (R438, R638, R639) -/

/-- The handle of a persistent node's key for instance 0 (R449, R638), instantiated if it is not yet; 0 where it cannot
be. -/
def State.instantiateNode (s : State) (node : Nat) : Nat × State :=
  match tget s.ks.nodes node with
  | none => (0, s)
  | some d =>
    match s.instantiated 0 node with
    | some n => (s.handleOf n, s)
    | none =>
      match s.createSlot 0 0 0xF000
          { state := .loaded, type := d.type, pset := d.pset, val := s.nodeValue 9 node, policy := d.policy,
            uses := if d.useLimit = 0 then none else some d.useLimit, level := d.level,
            origin := if d.kind = 2 then 6 else 5, node := some node } with
      | .ok (n, s) => (s.handleOf n, s)
      | .error _ => (0, s)

/-- A policy is restored with its keys instantiated again, or without a key (R638). Mark: DEDUCED (log entry 73). -/
def State.restorePolicy (s : State) (p : Nat) (pol : EventPolicy) (node second : Option Nat) : State :=
  let take := fun (s : State) (n : Option Nat) => match n with
    | some n => s.instantiateNode n
    | none => (0, s)
  let a := take s node
  let b := take a.2 second
  { b.2 with tr := { b.2.tr with policies := tset b.2.tr.policies p { pol with key := a.1, second := b.1 } } }

/-- Nodes whose record fails its tag, and nodes marked EXPIRE_AT_RESET, go before KEYSTORE sets (R453). -/
def State.scanNodes (s : State) : State :=
  let bad := s.ks.nodes.filter fun e => s.ks.badNodes.contains e.1
  let s := bad.foldl (fun s e => (s.bump aKS_N4_FAIL 0).raise
    { source := 0x610, access := 0, kind := 0x06, master := 0, address := 0x40000 + 2 ^ 20 * s.ks.n4Copy + 256 * e.1, fatal := false }) s
  let s := s.storeNodes (s.ks.nodes.filter fun e => !s.ks.badNodes.contains e.1 && !bitAt e.2.flags 0) s.ks.trust
  { s with ks := { s.ks with badNodes := [] } }

/-- The key of DDR5 partition `p` (R53): AES-XTS-256, derived from RK_SEAL and the boot nonce.
Mark: DESIGN CHOICE (log entry 95). -/
def State.partitionKey (s : State) (p : Nat) : Bytes :=
  Config.standard "DDR.partitionKey" p [s.ks.rkSeal, s.ks.bootNonce] 64

/-- KEYSTORE sets: roots, RNG and NVSTORE are there; K_chk and the boot nonce are drawn and the partition keys derived (R53,
R438, R441). -/
def State.keystoreUp (s : State) : State :=
  if s.ks.roots ≠ .ready ∨ !s.ready 3 ∨ !s.ready 23 ∨ s.ready 2 ∨ s.fc.mstate = .fault then s
  else
    let s := s.scanNodes
    let a := s.drawBytes 32
    let b := a.2.drawBytes 32
    let s := { b.2 with ks := { b.2.ks with kchk := a.1, bootNonce := b.1 } }
    ({ s with ks := { s.ks with partKeys := (List.range 8).map s.partitionKey } } : State).setReady 2 true

/-- DDR sets: trained, with the partition keys of KEYSTORE; DE and the tree caches follow (R53, R286, R390). -/
def State.ddrUp (s : State) : State :=
  if !s.pw.ddrTrained ∨ !s.ready 2 ∨ s.ready 4 ∨ s.fc.mstate = .fault then s
  else
    let s := s.setReady 4 true
    let s := if s.domain 13 = .on ∧ s.fc.mstate = .service then s.setReady 16 true else s
    s.startRebuilds

/-- STREAMS sets: MP_FW, KEYSTORE, and classes and policies restored (R638, R639). -/
def State.streamsUp (s : State) : State :=
  if !s.ready 1 ∨ !s.ready 2 ∨ !s.pw.restored ∨ s.ready 21 ∨ s.fc.mstate ≠ .service then s
  else
    let s := s.n6.policies.foldl (fun s e => s.restorePolicy e.1 e.2.1 e.2.2.1 e.2.2.2) s
    s.setReady 21 true

/-- Every ready bit that has become due sets. -/
def State.readyUp (s : State) : State := s.keystoreUp.ddrUp.streamsUp

/-! ### Domains (R629, R630) -/

/-- The engines of a domain. -/
def domainEngines (d : Nat) : List (Nat × Nat) :=
  [1, 2, 3, 4, 5, 6, 7].flatMap fun c => ((List.range (classSize c)).filter fun i => engDomain c i == d).map fun i => (c, i)

/-- The ready bits of a domain's functions (R639). -/
def domainBits (d : Nat) : List Nat :=
  if 5 ≤ d ∧ d ≤ 12 then [d + 2] else if d = 13 then [15, 16] else if 14 ≤ d ∧ d ≤ 17 then [d + 3]
  else if d = 21 then [22] else []

/-- A ready bit's other conditions hold: a segment is loaded (R387), or DDR is there (R390). -/
def State.bitDue (s : State) (b : Nat) : Bool :=
  if 7 ≤ b ∧ b ≤ 14 then (s.cluster (b - 7)).load == .active else if b = 16 then s.ready 4 else true

/-- What a domain's engines hold is gone: caches, contexts, operand memories, expander seeds (R629). -/
def State.clearDomain (s : State) (d : Nat) : State :=
  let ks := (domainEngines d).map fun e => engKey e.1 e.2
  { s with
    engines := s.engines.filter fun e => !ks.contains e.1
    seqs := s.seqs.filter fun e => !ks.contains e.1
    lvus := s.lvus.filter fun e => !ks.contains (engKey 1 e.1)
    rng := { s.rng with expanders := s.rng.expanders.filter fun e => !ks.contains e.1 } }

end Sys2Proof.Machine
end

