-- ==== Sys2Proof/Machine/Power.lean ====
section
/-!
DEFINITION. Start-up, power domains, feeds and the PCIe link (chapters 17 and 18).
-/

namespace Sys2Proof.Machine

/-! ### Feeds and rails (R620, R661, R662) -/

/-- POWER_ON_RESET (R635): PD0 powers. Where no feed is known to be present, both are.
Mark: DESIGN CHOICE (log entries 6, 70). -/
def execPowerOnReset (s : State) : Result :=
  if s.pw.rails then .next s
  else
    let none_ := !s.pw.feedA && !s.pw.feedB
    .next (s.powerOn (s.pw.feedA || none_) (s.pw.feedB || none_))

/-- FEED_RETURN (R662): after the loss of both feeds one returns, and the module runs a power-on reset.
Mark: DESIGN CHOICE (log entry 70). -/
def execFeedReturn (s : State) : Result :=
  if s.pw.feedA ∨ s.pw.feedB then .next s
  else
    let d := s.drawNat 2
    .next (d.2.powerOn (d.1 == 0) (d.1 == 1))

/-- FEED_LOST (R661). Mark: DESIGN CHOICE (log entry 70). -/
def execFeedLost (feed : Nat) (s : State) : Result :=
  let had := if feed = 0 then s.pw.feedA else feed == 1 && s.pw.feedB
  if !had then .next s
  else
    let s := { s with pw := if feed = 0 then { s.pw with feedA := false } else { s.pw with feedB := false } }
    .next (s.raise { source := 0x630 + feed, access := 0, kind := 0x50, master := 0, address := feed, fatal := false })

/-- FEED_RESTORED (R661): a lost feed returns while the other supplies the module. -/
def execFeedRestored (feed : Nat) (s : State) : Result :=
  if feed = 0 ∧ !s.pw.feedA ∧ s.pw.feedB then .next { s with pw := { s.pw with feedA := true, psuA := true } }
  else if feed = 1 ∧ !s.pw.feedB ∧ s.pw.feedA then .next { s with pw := { s.pw with feedB := true, psuB := true } }
  else .next s

/-- RAILS_FALL (R620): only PD0 and PD3 stay powered, with the key store and the FC and AL blocks.
Mark: DEDUCED (log entry 71). -/
def execRailsFall (s : State) : Result :=
  if s.pw.feedA ∨ s.pw.feedB ∨ !s.pw.rails then .next s
  else
    let k := s.moduleReset s.pw.resetCause
    .next { k with
      ks := s.ks
      fc := { k.fc with mstate := s.fc.mstate }
      pw := { k.pw with
        rails := false, boots := s.pw.boots, psuA := false, psuB := false, fans := [],
        ready := s.pw.ready &&& 0x800005, lostBits := s.pw.lostBits ||| (s.pw.ready &&& ~~~(0x800005 : BitVec 24)),
        readyUs := s.pw.readyUs, domains := [(0, .on), (3, .on)] } }

/-- SUPERCAP_EXHAUSTED (R620): PD0 and PD3 lose power. -/
def execSupercapExhausted (s : State) : Result :=
  if s.pw.feedA ∨ s.pw.feedB ∨ s.pw.rails then .next s else .next s.nvKept

/-- SUPERCAP_READY (R620). -/
def execSupercapReady (charge : Nat) (s : State) : Result :=
  if s.domain 0 = .on then .next { s with al := { s.al with capReady := true, charge := min 100 charge } } else .next s

/-! ### Boot (R434 to R438, R636 to R639) -/

/-- FIRMWARE_VERIFY (R636, R637): the preferred image first, the other when it fails; with neither
the MP halts in BOOT. PAIR0_LS_OK and PAIR1_LS_OK set as verified firmware starts to run.
Mark: DESIGN CHOICE (log entry 72). -/
def execFirmwareVerify (sigA sigB : Bool) (s : State) : Result :=
  if s.mp.state ≠ .boot ∨ s.domain 1 ≠ .on ∨ (s.pw.imgA = 2 ∧ s.pw.imgB = 2) then .next s
  else
    let okA := sigA && s.pw.floor ≤ s.pw.imgAVersion
    let okB := sigB && s.pw.floor ≤ s.pw.imgBVersion
    let firstA := s.pw.preferred == 0
    let ran : Option Bool := if firstA then (if okA then some true else if okB then some false else none)
      else if okB then some false else if okA then some true else none
    let code := fun (ok runs tested : Bool) (was : Nat) => if !tested then was else if runs then 3 else if ok then 1 else 2
    let s := { s with pw := { s.pw with
      imgA := code okA (ran == some true) (firstA || !okB) s.pw.imgA
      imgB := code okB (ran == some false) (!firstA || !okA) s.pw.imgB } }
    match ran with
    | none => .next s
    | some a =>
      let v := if a then s.pw.imgAVersion else s.pw.imgBVersion
      let s := { s with mp := { s.mp with
        state := .run, pair0Ok := true, pair1Ok := true, fw := (v % 256, v / 256 % 256, v / 65536 % 65536) } }
      .next (if s.fc.mstate = .fault then s else (s.setReady 1 true).readyUp)

/-- NV_STARTUP_SCAN (R639): the scan ends, and NVSTORE sets. -/
def execNvStartupScan (s : State) : Result :=
  if s.domain 3 ≠ .on ∨ s.fc.mstate = .fault then .next s else .next ((s.setReady 23 true).readyUp)

/-- The helper data that the PUF is read with (R434). -/
def KeyStore.helper (k : KeyStore) : Bytes := (k.n0.map (·.data)).getD []

/-- PUF_RECONSTRUCTION (R434, R435): up to four attempts, once the supercapacitor bank holds its charge.
Mark: DEDUCED (log entry 40). -/
def execPufReconstruction (failedAttempts : Nat) (s : State) : Result :=
  if s.domain 3 ≠ .on ∨ !s.al.capReady ∨ s.ks.roots ≠ .pending ∨ s.fc.mstate = .fault then .next s
  else if failedAttempts ≥ 4 then
    .next (({ s with ks := { s.ks with roots := .failed } } : State).raise
      { source := 0x420, access := 0, kind := 0x32, master := 5, address := 4, fatal := true })
  else
    .next (({ s with ks := { s.ks with
      roots := .ready, rkId := Config.standard "PUF.RK_ID" 0 [s.ks.helper] 32, rkSeal := Config.standard "PUF.RK_SEAL" 0 [s.ks.helper] 32 } } :
        State).readyUp)

/-- Every condition of R493 holds, and ID_READY bit 3 sets. -/
def execRngReady (s : State) : Result :=
  let all := (List.range 9).all fun d => (s.drbg d).inst && (s.drbg d).staged.isSome
  if !s.rng.ready ∧ all ∧ s.domain 4 = .on ∧ s.fc.mstate ≠ .fault then
    .next ((({ s with rng := { s.rng with ready := true } } : State).setReady 3 true).readyUp)
  else .next s

/-- DDR_TRAINING_DONE (R639). -/
def execDdrTrainingDone (s : State) : Result :=
  if s.domain 19 ≠ .on then .next s else .next ({ s with pw := { s.pw with ddrTrained := true } } : State).readyUp

/-- The groups that CONFIG_RESTORE stages: POWER, PORT and STREAM at once, INSTANCE once KEYSTORE is set and TWIN once PAIRING
is. Mark: DEDUCED (log entry 73). -/
def restoreGroups : List (Nat × Option Nat) := [(15, none), (6, none), (7, none), (8, some 2), (9, some 22)]

/-- CONFIG_RESTORE (R636): the MP stages POWER, which powers on the domains that PWR_CTL enables, and the groups that N6 holds,
each with its stored values; the alarm latch goes to N7 (R619). Mark: DEDUCED (log entry 73). -/
def execConfigRestore (s : State) : Result :=
  if s.mp.state ≠ .run ∨ s.pw.restored ∨ s.pw.restoring ≠ 0 then .next s
  else
    let s := s.al.record.toList.foldl State.keepRecord s
    let s := { s with
      pw := { s.pw with restoring := 0x83C0 }
      al := { s.al with record := none } }
    .next (restoreGroups.foldl (fun s g => s.requestSet
      { groups := BitVec.ofNat 16 (2 ^ g.1), need := g.2,
        writes := (s.n6.regs.filter fun e => groupOf e.1 == some g.1).map fun e => (e.1, e.2.toNat) }) s)

/-! ### Domains (R629, R630) -/

/-- DOMAIN_POWER_ON: a POWERING domain is on with its memories zeroed, and its ready bits set; in LATCHED they do not
(R608). -/
def execDomainPowerOn (d : Nat) (s : State) : Result :=
  if s.domain d ≠ .powering ∨ !s.pw.rails then .next s
  else
    let s := (s.clearDomain d).setDomain d .on
    let cages := if d = 23 then (List.range 64).filter fun c => cageOn s.reg c && !(s.cage c).fault else []
    let s := cages.foldl (fun s c => s.setCage c { powered := true }) s
    if s.fc.mstate = .service then
      .next ((domainBits d).foldl (fun s b => if s.bitDue b then s.setReady b true else s) s)
    else .next s

/-- DOMAIN_POWER_OFF: the last job of a draining domain has ended. -/
def execDomainPowerOff (d : Nat) (s : State) : Result :=
  let still := (domainEngines d).any fun e =>
    let x := s.eng (engKey e.1 e.2)
    x.busy.isSome || x.saved != []
  if s.domain d ≠ .draining ∨ still then .next s else .next ((s.clearDomain d).setDomain d .off)

/-! ### Resets and the link -/

/-- PWR_RESET: the key starts a module reset (R632); every other value is ignored. -/
def execPwrReset (v : Reg) (s : State) : Result := if v = 0x52535421 then .next (s.moduleReset 1) else .next s

/-- The generations (3, 4 or 5) that link training chooses, of the whole link or of each x8 half (R9): a free value.
Mark: DESIGN CHOICE (log entry 1). -/
def State.trainLink (s : State) : List Nat × State :=
  let (halves, s) := s.drawNat 2
  let (g, s) := s.drawNat 3
  let (h, s) := s.drawNat 3
  (if halves = 0 then [3 + g] else [3 + g, 3 + h], s)

/-- PCIE_LINK_UP (R639): the link trains to L0. -/
def execPcieLinkUp (s : State) : Result :=
  if s.domain 20 ≠ .on ∨ s.pcie.link ≠ .down then .next s
  else
    let (gens, s) := s.trainLink
    let s := ({ s with pcie := { s.pcie with link := .l0, gens := gens } } : State).setReady 6 true
    .next ((s.pcie.pba.map (·.1)).dedup.foldl State.deliverPba s)

/-- PCIE_LINK_DOWN (R640): the link leaves L0 for a reason other than a low-power state. -/
def execPcieLinkDown (s : State) : Result :=
  if s.pcie.link = .down then .next s
  else .next (({ s with pcie := { s.pcie with link := .down, gens := [] } } : State).setReady 6 false)

end Sys2Proof.Machine
end

