-- ==== Sys2Proof/Machine/Faults.lean ====
section
/-!
DEFINITION. The fault collector and the alarms: messages, captures, the log, the FAULT and LATCHED states (chapter 16), and
the monitors of chapter 18.
-/

namespace Sys2Proof.Machine

/-! ### Captures and held engines (R596, R599) -/

/-- Release the captures of a mask, with their MORE bits. -/
def State.releaseCaptures (s : State) (mask : Nat) : State :=
  let out := fun (c : Nat) => bitAt mask c && c < 3
  { s with fc := { s.fc with
    captures := s.fc.captures.filter fun e => !out e.1, more := s.fc.more.filter fun c => !out c } }

/-- FC_FEC_VALID (R599). -/
def execFcFecValid (v : Reg) (s : State) : Result := .next (s.releaseCaptures (v.toNat % 8))

/-- FC_RELEASE (R608): the key releases LATCHED; every other value is ignored. -/
def execFcRelease (v : Reg) (s : State) : Result :=
  if v = 0x4C45524B ∧ s.fc.mstate = .latched then .next s.releaseLatch else .next s

/-- Return held engines to service (R596). -/
def State.returnHeld (s : State) (p : Nat → Bool) : State :=
  { s with engines := s.engines.map fun (e : Nat × Engine) =>
    (e.1, if e.2.held && p e.1 then { e.2 with held := false, oos := false, faultUps := [] } else e.2) }

/-- The held engine a SOURCE names. -/
def State.heldKey (s : State) (src : Nat) : Option Nat :=
  (engOfSource src).bind fun e =>
    let k := engKey e.1 e.2
    if (s.eng k).held then some k else none

/-! ### The opcodes (R621 to R623) -/

/-- The 32 bytes of a log record (R602). -/
def LogRecord.bytes (r : LogRecord) : Bytes :=
  fitBytes r.msg 16 ++ leBytes r.stamp.bits 8 ++ leBytes r.ns 4 ++ leBytes r.step 2 ++ leBytes r.rpt 2

/-- The records of the P6 log or of the N7 history, with their sequence numbers: a place in the history counts from its
oldest record. Mark: DEDUCED (log entry 75). -/
def State.logOf (s : State) (history : Bool) : List (Nat × LogRecord) :=
  if history then s.fc.history.zipIdx.map fun e => (e.2, e.1) else s.fc.log.map fun r => (r.seq, r)

/-- FAULT_LOG_READ (R622). Mark: DEDUCED (log entry 75). -/
def execFaultLogRead (j : Nat) (s : State) : Result :=
  runMp s j opFAULT_LOG_READ fun s b =>
    let from_ := tlvNat b.params 0x0152 0
    let max_ := tlvNat b.params 0x0153 0
    let log := tlvNat b.params 0x0154 0
    if b.noRoom (tlvLen (32 * max_) + tlvLen 8) then s.failJob j stLIMIT_EXCEEDED
    else if max_ = 0 ∨ max_ > (if b.src = .console then 120 else 1024) ∨ log > 1 then s.failJob j stMALFORMED
    else
      let rs := ((s.logOf (log == 1)).filter fun e => from_ ≤ e.1).take max_
      let next := match rs.getLast? with
        | some e => e.1 + 1
        | none => from_
      s.endJob j (done [⟨0x0155, (rs.map fun e => e.2.bytes).flatten⟩, ⟨0x0156, leBytes next 8⟩])

/-- FAULT_CLEAR (R622). A release completes before the recovery reset it starts. Mark: DEDUCED (log entry 76). -/
def execFaultClear (j : Nat) (s : State) : Result :=
  runMp s j opFAULT_CLEAR fun s b =>
    let mask := tlvNat b.params 0x0157 0
    let back := tlvNat b.params 0x0158 0
    let rel := tlvNat b.params 0x0159 0
    if mask > 7 ∨ rel > 1 then s.failJob j stMALFORMED
    else if (rel = 1 ∧ s.fc.mstate ≠ .latched) ∨ (b.has 0x0158 ∧ back ≠ 0xFFFF ∧ s.heldKey back = none) then
      s.failJob j stCONFIG_INCONSISTENT
    else
      let s := s.releaseCaptures mask
      let s := if !b.has 0x0158 then s
        else if back = 0xFFFF then s.returnHeld fun _ => true
        else s.returnHeld fun k => s.heldKey back == some k
      let s := s.endJob j (done [])
      if rel = 1 then (s.writeCompletion j).releaseLatch else s

/-- The ready bit of a self-test target (R621, R639). -/
def targetBit (t : Nat) : Nat :=
  if t < 10 then t + 7 else if t = 10 then 21 else if t = 11 then 2 else 3

/-- The engines a self-test target covers. -/
def targetEngines (t : Nat) : List (Nat × Nat) :=
  if t < 8 then clusterEngines t
  else if t = 8 then (List.range 8).map fun i => (5, i)
  else if t = 9 then (List.range 12).map fun i => (6, i)
  else if t = 10 then (List.range 40).map fun i => (7, i)
  else []

/-- SOURCE of a failing target (R590): its cluster, or its block. -/
def targetSource (t : Nat) : Nat :=
  if t < 8 then 0x200 + 32 * t else if t < 10 then 0x380 else if t = 10 then 0x300 else if t = 11 then 0x420 else 0x435

/-- One target's known-answer tests: their outcome is a free value; a failure is reported and holds its engines.
Mark: DEDUCED (log entry 75). -/
def State.testTarget (s : State) (t : Nat) : Bool × State :=
  let d := s.drawNat 2
  let ok := d.1 == 1
  let s := { d.2 with selftests := tset d.2.selftests t (verdictOf ok) }
  if ok then (true, s)
  else
    let s := s.raise { source := targetSource t, access := 6, kind := 0x18, master := 0, address := t, fatal := false }
    (false, (targetEngines t).foldl (fun s e => s.holdEngine e.1 e.2 (s.eng (engKey e.1 e.2)).faultUps.length) s)

/-- The known-answer tests of a target's engines, as a best-effort job of instance 0 (R142, R623). -/
def State.addSelftest (s : State) (j t : Nat) : State :=
  let es := targetEngines t
  s.addTask j ((es.head?.map (·.1)).getD 0) (es.map fun e => 2 ^ e.2).sum 0 []

/-- SELFTEST (R623, R641): the tests run on the targets' engines, and the outcomes follow; a target whose ready bit is clear is
not run, and then not every target passes. Mark: DEDUCED (log entry 75). -/
def execSelftest (j : Nat) (s : State) : Result :=
  runMp s j opSELFTEST fun s b =>
    let mask := tlvNat b.params 0x0150 0
    if b.noRoom (tlvLen 4) then s.failJob j stLIMIT_EXCEEDED
    else if mask ≥ 2 ^ 13 then s.failJob j stMALFORMED
    else
      let ts := (List.range 13).filter fun t => bitAt mask t
      let work := ts.filter fun t => s.ready (targetBit t) && (targetEngines t).any (·.1 ≤ 6)
      if b.engineStatus.isNone ∧ work ≠ [] then work.foldl (fun s t => s.addSelftest j t) s
      else
        let r := ts.foldl (fun (a : Nat × Bool × State) t =>
          if a.2.2.ready (targetBit t) then
            let x := a.2.2.testTarget t
            (a.1 + 4 ^ t * verdictOf x.1, a.2.1 && x.1, x.2)
          else (a.1, false, a.2.2)) (0, true, s)
        r.2.2.endJob j { verdictEnd r.2.1 with results := [⟨0x0151, leBytes r.1 4⟩] }

/-! ### Messages and returns (R592 to R596, R600, R605 to R607) -/

/-- What a message means besides its class: live clock and power conditions (R606), a withheld grant (R595), a
PSU out of regulation (R592), a job masked by re-execution (R593), a read of P2 whose MAC fails (R54).
Mark: DEDUCED (log entry 74). -/
def State.noteFault (s : State) (m : FaultMsg) : State :=
  match m.kind with
  | 0x40 => { s with fc := { s.fc with live := s.fc.live ||| 1, fatalHeld := s.fc.fatalHeld.erase 0x40 ++ [0x40] } }
  | 0x41 => { s with fc := { s.fc with live := s.fc.live ||| 2, fatalHeld := s.fc.fatalHeld.erase 0x41 ++ [0x41] } }
  | 0x21 =>
    { s with
      xs := { s.xs with grantMismatch := true }
      fc := { s.fc with withheld := some (m.address / 256 % 8, m.address % 64) } }
  | 0x22 => { s with xs := { s.xs with stateMismatch := true } }
  | 0x51 => { s with pw := if m.address = 0 then { s.pw with psuA := false } else { s.pw with psuB := false } }
  | 0x10 => match engOfSource m.source with
    | some (c, i) =>
      let s := match engCounter c true with
        | some n => s.bump n i
        | none => s
      match (s.eng (engKey c i)).busy with
      | some j => s.onJob j fun b => { b with retried := true }
      | none => s
    | none => s
  | 0x05 => match s.copyAt m.address with
    | some c => s.loseCopy c
    | none => s
  | _ => s

/-- What the MP's address map excludes (R39). -/
inductive MpExcluded where
  | keySlots | roots | gangway | keyCaches | operandMemories | contextMemories | packetBuffer | streamContextCache
  | partition (p : Fin 8) | region (n : Fin 8)
  deriving DecidableEq, Repr

/-- The areas of R39: of the partitions P1, P2, P5 and P7, of the regions N0 and N4. -/
def mpExcluded : List MpExcluded :=
  [.keySlots, .roots, .gangway, .keyCaches, .operandMemories, .contextMemories, .packetBuffer, .streamContextCache,
   .partition 1, .partition 2, .partition 5, .partition 7, .region 0, .region 4]

/-- An MP access to an excluded area (R39): it completes with zero data, changes nothing, and raises MP_FENCE. -/
def State.mpAccess (s : State) (m : FaultMsg) : Reg × State := (0, s.raise m)

/-- FAULT_MESSAGE (R592). -/
def execFaultMessage (m : FaultMsg) (ns : Nat) (s : State) : Result :=
  if s.domain 0 ≠ .on then .next s
  else if m.kind = 0x25 then .next ((s.at_ ns).mpAccess m).2
  else .next (((s.at_ ns).noteFault m).raise m)

/-- ENGINE_RETURN (R594): a contained engine returns to service, unless it is held (R596).
Mark: DEDUCED (log entry 26). -/
def execEngineReturn (source : Nat) (s : State) : Result :=
  match engOfSource source with
  | none => .next s
  | some (c, i) => .next (s.onEng (engKey c i) fun e => if e.held then e else { e with oos := false })

/-- XS_GRANT_RECOMPUTE (R595): agreement lets the grant go on; a second mismatch is FATAL.
Mark: DEDUCED (log entry 74). -/
def execXsGrantRecompute (agree : Bool) (s : State) : Result :=
  match s.fc.withheld with
  | none => .next s
  | some (c, i) =>
    let s := { s with fc := { s.fc with withheld := none } }
    if agree then .next s
    else .next (({ s with xs := { s.xs with grantMismatch := true } } : State).raise
      { source := 0x400, access := 6, kind := 0x21, master := 4, address := 256 * c + i, fatal := true })

/-- LOG_RING_DRAIN (R600 to R602): the ring goes into the P6 log, which keeps its last 33,554,432 records. -/
def execLogRingDrain (s : State) : Result :=
  if !s.pw.ddrTrained then .next s
  else
    let n := s.fc.ring.length
    let new := s.fc.ring.zipIdx.map fun e => ({ e.1 with seq := s.fc.logSeq + e.2 } : LogRecord)
    let log := s.fc.log ++ new
    .next { s with fc := { s.fc with ring := [], log := log.drop (log.length - 33554432), logSeq := s.fc.logSeq + n } }

/-- The quiet period runs (R606): in FAULT, with no FATAL condition and no alarm input asserted.
Mark: DEDUCED (log entry 86). -/
def State.quietRuns (s : State) : Bool := s.fc.mstate == .fault && s.fc.fatalHeld == [] && s.al.live == 0

/-- QUIET_PERIOD_END (R606, R607), FC_CTL.QUIET_S seconds after the period began: a recovery reset, into LATCHED at the
latch count. -/
def execQuietPeriodEnd (s : State) : Result :=
  if !s.quietRuns ∨ !s.passed s.fc.quietFrom (s.fld aFC_CTL 9 0 * 10 ^ 9) then .next s
  else
    let exits := s.fc.exits ++ [s.tb.stamp.sec]
    let s := { s with fc := { s.fc with exits := exits.drop (exits.length - 15), recoveries := s.fc.recoveries + 1 } }
    .next ({ s with fc := { s.fc with
      latchHeld := s.fc.latchHeld || s.fld aFC_CTL 13 10 ≤ s.recentExits } } : State).recover

/-- FATAL_CONDITION_CLEAR (R606): the quiet period runs from this moment. -/
def execFatalConditionClear (kind : Nat) (s : State) : Result :=
  let off : BitVec 6 := if kind = 0x40 then 1 else if kind = 0x41 then 2 else 0
  .next { s with fc := { s.fc with
    live := s.fc.live &&& ~~~off, fatalHeld := s.fc.fatalHeld.erase kind, quietFrom := s.now } }

/-! ### Alarms (R614 to R618) -/

/-- An input is monitored: a loop while its bit of AL_LOOP_EN is set; the loss of power while both feeds have failed. -/
def State.monitored (s : State) (input : Nat) : Bool :=
  if 5 ≤ input ∧ input ≤ 8 then s.fld aAL_LOOP_EN (input - 5) (input - 5) == 1
  else if input = 10 then !s.pw.feedA && !s.pw.feedB
  else input < 10

/-- ALARM: an input asserts. Mark: DEDUCED (log entry 76). -/
def execAlarm (input eraseNs : Nat) (s : State) : Result :=
  if s.domain 0 ≠ .on ∨ !s.monitored input ∨ s.al.live.getLsbD input then .next s
  else .next (s.alarmInput input eraseNs)

/-- ALARM_INPUT_CLEAR (R606, R615). -/
def execAlarmInputClear (input : Nat) (s : State) : Result :=
  .next { s with
    al := { s.al with live := s.al.live &&& ~~~(BitVec.ofNat 11 (2 ^ input)) }
    fc := { s.fc with quietFrom := s.now } }

/-! ### Fans, temperature, scrubbing (R612, R665, R667) -/

/-- FAN_CHANGE (R665): a fan that stands still raises FAN_FAIL; one that turns clears the condition.
Mark: DEDUCED (log entry 76). -/
def execFanChange (fan rpm : Nat) (s : State) : Result :=
  if fan ≥ 6 ∨ s.domain 1 ≠ .on then .next s
  else
    let s := { s with pw := { s.pw with fans := tset s.pw.fans fan rpm } }
    if rpm = 0 then
      .next (s.raise { source := 0x640 + fan, access := 0, kind := 0x52, master := 0, address := rpm, fatal := false })
    else .next s

/-- The upper operating limit of the variant, in tenths of a degree (R1, R668). Mark: DEDUCED (log entry 76). -/
def State.inletLimit (s : State) : Nat := if s.pw.variant = 0 then 550 else 700

/-- TEMP_HIGH (R667): the inlet is measured; above the limit the fault is raised, and FC_LIVE.TEMP shows it.
Mark: DEDUCED (log entry 76). -/
def execTempHigh (deciC : Nat) (s : State) : Result :=
  if s.domain 0 ≠ .on then .next s
  else if deciC > s.inletLimit then
    .next (({ s with fc := { s.fc with live := s.fc.live ||| 16 } } : State).raise
      { source := 0x6A0, access := 0, kind := 0x53, master := 0, address := deciC, fatal := false })
  else .next { s with fc := { s.fc with live := s.fc.live &&& ~~~(16 : BitVec 6) } }

/-- SCRUB_PASS (R612). -/
def execScrubPass (ddr : Bool) (s : State) : Result :=
  .next (s.bump (if ddr then aFC_SCRUB_DDR else aFC_SCRUB_SRAM) 0)

end Sys2Proof.Machine
end

