-- ==== Sys2Proof/Machine/Twins.lean ====
section
/-!
DEFINITION. The twin pair (chapter 15): sessions, mirrored records, heartbeats, pair states, castling and promotion.
-/

namespace Sys2Proof.Machine

/-! ### Waiting commands (R574, R576) -/

/-- Take a waiting command up again, by its opcode: what it mirrors is acknowledged, or it may go on here alone. -/
def State.resumeCommand (s : State) (j : Nat) : State :=
  match s.job j with
  | none => s
  | some b =>
    if b.opcode = opKEY_UPDATE_APPLY then updateApply s j b
    else if b.opcode = opMANIFEST_LOAD then manifestLoad s j b
    else if b.opcode = opMANIFEST_ACTIVATE then manifestActivate s j b
    else if b.opcode = opINSTANCE_CREATE then instanceCreate s j b
    else if b.opcode = opINSTANCE_SHARE_SET then instanceShareSet s j b
    else if b.opcode = opINSTANCE_REMOVE then instanceRemove s j b
    else s

/-- A command is cleared to go on, with MIRRORED where its record was acknowledged. -/
def State.clearCommand (s : State) (j : Nat) (mirrored : Bool) : State :=
  (s.onJob j fun b => { b with cleared := true, mirrored := mirrored, wait := .no }).resumeCommand j

/-- A slot command ends as its key store left it. Mark: DEDUCED (log entry 66). -/
def State.endSlotJob (s : State) (j : Nat) (mirrored : Bool) : State :=
  let s := s.onJob j fun b => { b with mirrored := mirrored }
  s.endJob j (((s.job j).bind (·.after)).getD (done []))

/-- A record whose partner is out of reach (R576): slot commands end without MIRRORED, an update is rejected, and the
others are applied here. Mark: DEDUCED (log entry 62). -/
def State.soloRecord (s : State) (r : PairRecord) : State :=
  match r.job with
  | none => s
  | some j =>
    if r.kind = 0x50 ∨ r.kind = 0x51 then s.endSlotJob j false
    else if r.kind = 0x10 then
      let f : UpdFail := { code := 9, status := stUPDATE_REJECTED }
      (s.rejectUpdate f).endJob j f.ending
    else if r.kind = 0x60 then s
    else s.clearCommand j false

/-- No record waits any longer. -/
def State.dropRecords (s : State) : State :=
  let rs := s.tw.queue
  rs.foldl State.soloRecord { s with tw := { s.tw with queue := [] } }

/-! ### Castling (R579) -/

/-- The crossing before a stamp. -/
def stampPred (rate : Nat) (t : Stamp) : Stamp := if t.idx = 0 then ⟨t.sec - 1, rate - 1⟩ else ⟨t.sec, t.idx - 1⟩

/-- The castling ends, and its command with it. -/
def State.endCastle (s : State) (status : Nat) : State :=
  match s.tw.castle with
  | none => s
  | some c =>
    let s := { s with tw := { s.tw with castle := none } }
    match c.job with
    | none => s
    | some j =>
      if status = stDONE then
        (s.onJob j fun b => { b with mirrored := true }).endJob j (done [⟨0x0148, s.pairInfo⟩])
      else s.failJob j status

/-- Step 2 of R579, once every record is acknowledged: the CASTLE record names crossing c. -/
def State.castleStep (s : State) : State :=
  match s.tw.castle with
  | none => s
  | some c =>
    if c.c.isSome ∨ s.tw.queue ≠ [] ∨ s.mp.state ≠ .run ∨ s.tw.state ≠ .paired then s
    else
      let soon := s.stampIn 2
      let t := match c.at_ with
        | some a => if soon.bits < (stampPred s.tb.rate a).bits then stampPred s.tb.rate a else soon
        | none => soon
      let s := s.sendRecord 0x60 (beBytes t.bits 8) c.job
      { s with tw := { s.tw with castle := some { c with c := some t, mseq := s.tw.sent } } }

/-- At the start of a crossing: a castling whose acknowledgement has not come before c began ends, and a staged swap
whose crossing has passed is dropped. -/
def State.castleTick (s : State) : State :=
  let late := s.tw.castle.any fun c => !c.acked && c.c.any fun t => t.bits ≤ s.tb.stamp.bits
  let s := if late then s.endCastle stNOT_READY else s
  if s.tw.staged.any fun t => t.bits < s.tb.stamp.bits then { s with tw := { s.tw with staged := none, goHeard := false } }
  else s.castleStep

/-- Take a role, as a role change of the guard (R579, R580): it holds from the next boundary.
Mark: DEDUCED (log entry 66). -/
def State.changeRole (s : State) (st : PairState) (role : Nat) : State :=
  let s := s.setPairState st role
  { s with tw := { s.tw with lastCastle := s.stampIn 1 } }

/-! ### Pair states (R577) -/

/-- The lead's partner is lost or in FAULT: ALONE (R576). -/
def State.becomeAlone (s : State) : State :=
  let s := ((s.endCastle stNOT_READY).setPairState .alone 1).dropRecords
  ({ s with tw := { s.tw with staged := none, goHeard := false, hs := none } } : State).settleHbs

/-- The histories disagree. -/
def State.diverge (s : State) : State :=
  let s := { s with tw := { s.tw with state := .diverged, hs := none } }
  s.pairEvent 0x0264 none

/-- A handshake fails (R567, R585): its command ends, and the state is the one before. -/
def State.failPairing (s : State) (e : Ending) : State :=
  match s.tw.hs with
  | none => s
  | some h =>
    let st := if s.tw.state = .pairing then h.before else s.tw.state
    let s := { s with tw := { s.tw with hs := none, state := st } }
    match h.job with
    | some j => s.endJob j e
    | none => s

/-! ### RESYNC (R572, R578): the model's own layout of what the table lists -/

/-- One item: a tag, a length, a body. Mark: DESIGN CHOICE (log entry 63). -/
def resyncItem (tag : Nat) (b : Bytes) : Bytes := leBytes tag 1 ++ beBytes b.length 4 ++ b

/-- The items of a body. -/
def resyncItems : (fuel : Nat) → Bytes → List (Nat × Bytes)
  | 0, _ => []
  | _, [] => []
  | fuel + 1, t :: r => (t.toNat, slice r 4 (beNat (r.take 4))) :: resyncItems fuel (r.drop (4 + beNat (r.take 4)))

/-- An instance with the registers of its share. -/
def State.instItem (s : State) (n : Nat) : Bytes :=
  leBytes n 1 ++ ((s.regs.filter fun e => (shareRegs n).contains e.1).flatMap fun e => beBytes e.1 4 ++ beBytes e.2.toNat 4)

/-- The registers of an instance item. -/
def itemRegs : (fuel : Nat) → Bytes → List (Nat × Reg)
  | 0, _ => []
  | fuel + 1, b =>
    if b.length < 8 then []
    else (beNat (b.take 4), BitVec.ofNat 32 (beNat (slice b 4 4))) :: itemRegs fuel (b.drop 8)

/-- The body a lead sends. Mark: DESIGN CHOICE (log entry 63). -/
def State.resyncBody (s : State) : Bytes :=
  let nodes := s.ks.nodes.flatMap fun e => resyncItem 1 (nodeDesc e.1 e.2 ++ fitBytes e.2.value 64)
  let trust := s.ks.trust.flatMap fun t => resyncItem 2 (leBytes t.role 1 ++ t.body)
  let certs := s.ks.certs.flatMap (resyncItem 3)
  let man := fun (tag : Nat) (m : Option Manifest) => ((m.map fun m => resyncItem tag m.image).getD [])
  let insts := (s.insts.filter fun e => e.2.state != .absent).flatMap fun e => resyncItem 7 (s.instItem e.1)
  let slots := (s.ks.slots.filter fun e => 0xF000 ≤ e.1 && e.2.state == .loaded).flatMap fun e => resyncItem 8 (s.slotFill e.1)
  nodes ++ trust ++ certs ++ resyncItem 4 (beBytes s.ks.updCounter 8) ++ man 5 s.xs.active ++ man 6 s.xs.loaded ++ insts
    ++ slots

/-- Fill a slot of the mirror range from a SLOT_FILL body (R572, R573). -/
def State.fillMirror (s : State) (b : Bytes) : State :=
  let h := beNat (b.take 8)
  let a := slice b 8 32
  let parent := leAt a 24 8
  s.setSlot (hSlot h)
    { state := .loaded, gen := hGen h, filledGen := hGen h, inst := hInst h, type := leAt a 1 1, pset := leAt a 2 2,
      val := slice b 40 (leAt a 4 1), policy := leAt a 8 8,
      uses := if leAt a 16 4 = 2 ^ 32 - 1 then none else some (leAt a 16 4), level := leAt a 5 1, origin := leAt a 6 1,
      parent := if parent = 0 then none else some (hSlot parent, hGen parent),
      node := if leAt a 20 2 = 0xFFFF then none else some (leAt a 20 2), mirror := true, mirrored := true }

/-- Take an instance as the lead has it. -/
def State.takeInstance (s : State) (b : Bytes) : State :=
  let n := leAt b 0 1
  let regs := itemRegs 256 (b.drop 1)
  let old := s.mapOf s.reg n
  let d := s.drawBytes 32
  let s := if (s.inst n).state = .absent then d.2.setInst n { state := .active, gen := 1, wrapKey := d.1 } else s
  let keep := fun (t : Tab Reg) => regs.foldl (fun t e => tset t e.1 e.2) (t.filter fun e => !(shareRegs n).contains e.1)
  let s := { s with
    regs := keep s.regs, shadow := keep s.shadow }
  let s := s.writeN6 { s.n6 with regs := keep s.n6.regs, insts := s.n6.insts.erase n ++ [n] }
  let new := s.mapOf s.reg n
  let s := (old.filter fun e => !(new.any fun x => x.2 == e.2)).foldl (fun s e => s.setPair e.2 {}) s
  new.foldl (fun s e => s.onPair e.2 fun p => { p with owner := n, loc := e.1 }) s

/-- A RESYNC replaces nodes, trust records, manifests, instances and mirror range; the counters become the higher.
Mark: DESIGN CHOICE (log entry 63). -/
def State.applyResync (s : State) (b : Bytes) : State :=
  let items := resyncItems b.length b
  let of_ := fun (t : Nat) => (items.filter fun e => e.1 == t).map (·.2)
  let nodes := (of_ 1).foldl (fun t x => let d := parseDesc (x.take 164) []
    tset t d.1 { d.2 with value := slice x 164 d.2.valLen }) []
  let trust := (of_ 2).map fun x => ({ role := leAt x 0 1, body := x.drop 1 } : Trust)
  let changed := (s.ks.nodes.filter fun e => tget nodes e.1 != some e.2).map (·.1)
  let counter := max s.ks.updCounter (beNat ((of_ 4).headD []))
  let s := s.storeUpdate { nodes := nodes, trust := trust, changed := changed } counter
  let s := { s with ks := { s.ks with certs := of_ 3 } }
  let s := { s with xs := { s.xs with loaded := (of_ 6).head?.map parseManifest } }
  let s := match (of_ 5).head? with
    | none => s
    | some img =>
      let m := parseManifest img
      if (s.xs.active.map fun (a : Manifest) => a.image) = some img then s else s.requestSet { manifest := some m }
  let named := (of_ 7).map fun x => leAt x 0 1
  let gone := (s.insts.filter fun e => e.2.state != .absent && !named.contains e.1).map (·.1)
  let s := gone.foldl State.removeInstance s
  let s := (of_ 7).foldl State.takeInstance s
  let mine := (s.ks.slots.map (·.1)).filter fun n => 0xF000 ≤ n
  (of_ 8).foldl State.fillMirror ((s.dropCopies mine) |> mine.foldl State.freeSlot)

/-! ### Sessions (R567, R568, R570) -/

/-- The value V of a pairing node. -/
def State.pairSecret (s : State) (node : Nat) : Bytes := s.nodeValue 9 node

/-- A response of R463: KMAC256(V, MID ‖ nonce). -/
def pairProof (v mid nonce : Bytes) : Bytes := kmac256 v (mid ++ nonce) 32 "KRYTORATI-CHAL-1"

/-- The body of this module's HELLO. Mark: DEDUCED (log entry 61). -/
def State.helloBody (s : State) (h : Handshake) : Bytes :=
  leBytes 1 1 ++ leBytes 2 1 ++ leBytes s.mp.fw.1 1 ++ leBytes h.role 1 ++ beBytes (s.reg aXS_RATE) 2 ++ s.mid ++ h.nonce

/-- The module can run a handshake: MP pair 1 runs, with KEYSTORE and the pairing links (R562, R586). -/
def State.canPair (s : State) : Bool :=
  s.fc.mstate == .service && s.mp.state == .run && s.ready 2 && s.ready 22

/-- Send this module's HELLO, with a nonce of its own (R567 step 1). Mark: DEDUCED (log entry 61). -/
def State.sendHello (s : State) : State :=
  match s.tw.hs with
  | none => s
  | some h =>
    let d := s.drawBytes 32
    let h := if h.nonce = [] then { h with nonce := d.1, sent := true } else { h with sent := true }
    let s := { (if h.nonce = d.1 then d.2 else s) with tw := { s.tw with hs := some h } }
    s.sendOnPaths 3 0 (s.helloBody h)

/-- A REJOINING module opens a handshake, and a HELLO without an answer is sent again at each crossing (R567, R577).
Mark: DEDUCED (log entry 61). -/
def State.helloTick (s : State) : State :=
  if !s.canPair then s
  else match s.tw.hs with
    | some h => if h.peerNonce = [] ∧ s.tw.state ≠ .alone then s.sendHello else s
    | none =>
      if s.tw.state = .rejoining ∧ s.tw.sendKey = [] then
        let h : Handshake :=
          { before := .rejoining, node := s.tw.node, role := s.tw.recorded, partner := some s.tw.partnerMid,
            since := s.tb.crossings }
        ({ s with tw := { s.tw with hs := some h } } : State).sendHello
      else s

/-- Which side leads the session: the one that asked for lead, or the lower MID where both or neither did.
Mark: DEDUCED (log entry 62). -/
def State.leadsSession (s : State) (h : Handshake) : Bool :=
  if h.role = 1 ∧ h.peerRole ≠ 1 then true
  else if h.role ≠ 1 ∧ h.peerRole = 1 then false
  else bytesLe s.mid h.peerMid

/-- Send the records of a new session (R570, R577, R578): each side its pointers, the lead K_chk and RESYNC.
Mark: DEDUCED (log entry 62). -/
def State.startSync (s : State) (role : Nat) : State :=
  let h := s.tw.hs.getD { before := s.tw.state, node := s.tw.node }
  if h.syncing then s
  else
    let s := { s with tw := { s.tw with hs := some { h with role := role, syncing := true, synced := role == 1 } } }
    let s := s.hbs.keys.foldl (fun s e => s.sendRecord 0x21 (hbsBody e.1 e.2) none) s
    if role = 1 then (s.sendRecord 0x58 s.ks.kchk none).sendRecord 0x61 s.resyncBody none else s

/-- Both sides have the session's keys (R567 step 4): counters and sequence numbers start anew, and the paths are up.
Mark: DEDUCED (log entry 62). -/
def State.openSession (s : State) (h : Handshake) (k : Bytes) : State :=
  let lead := s.leadsSession h
  let v := s.pairSecret h.node
  let both := kmac256 v (k ++ (if lead then h.nonce ++ h.peerNonce else h.peerNonce ++ h.nonce)) 64 "KRYTORATI-PLSK-1"
  let s := s.dropRecords
  let paths : Tab PairPath := (allPaths.filter fun p => p != .mgmt || s.mgmtPath).map fun p => (pathCode p, { up := true })
  let s := { s with tw := { s.tw with
    hs := some { h with eph := [] }, version := h.version, paths := paths, sent := 0, acked := 0, applied := 0, early := [],
    sendKey := if lead then both.take 32 else both.drop 32, recvKey := if lead then both.drop 32 else both.take 32,
    partnerMid := h.peerMid, pairId := pairIdOf s.mid h.peerMid, lastHb := none, silentSince := s.now } }
  if h.job.isSome then s.startSync h.role else s

/-- The common PL version of two ranges (R568); this module supports 1 and 2. -/
def commonPl (lo hi : Nat) : Option Nat := if lo ≤ 2 ∧ 2 ≤ hi then some 2 else if lo ≤ 1 ∧ 1 ≤ hi then some 1 else none

/-- What refuses a HELLO (R568, R585). -/
def State.helloBad (s : State) (h : Handshake) (lo hi fw role rate : Nat) (mid partnerOf : Bytes) : Option Nat :=
  if commonPl lo hi = none ∨ fw > s.mp.fw.1 + 1 ∨ s.mp.fw.1 > fw + 1 then some stVERSION_UNSUPPORTED
  else if (h.job.isSome ∧ h.role = role) ∨ rate ≠ s.reg aXS_RATE ∨ h.partner.any (· != mid)
      ∨ (partnerOf ≠ [] ∧ partnerOf ≠ s.mid) then some stCONFIG_INCONSISTENT
  else none

/-- The handshake a HELLO belongs to: the one in progress, or one that an ALONE or REJOINING module answers with. -/
def State.handshakeFor (s : State) : Option Handshake :=
  match s.tw.hs with
  | some h => some h
  | none =>
    if s.tw.state = .alone ∨ s.tw.state = .rejoining then
      some { before := s.tw.state, node := s.tw.node, role := if s.tw.role = 1 then 1 else s.tw.recorded,
             partner := some s.tw.partnerMid, since := s.tb.crossings }
    else none

/-- A HELLO arrives (R567 steps 1 and 2): this module's own goes out if it has not, then PROOF. A copy changes nothing; a
new nonce starts the handshake again. -/
def State.takeHello (s : State) (lo hi fw role rate : Nat) (mid nonce partnerOf : Bytes) : State :=
  if !s.canPair then s
  else match s.handshakeFor with
    | none => s
    | some h =>
      if h.peerNonce = nonce then s
      else
        let h := if h.peerNonce = [] then h else { h with nonce := [], sent := false, proved := false, eph := [], syncing := false }
        match s.helloBad h lo hi fw role rate mid partnerOf with
        | some st => ({ s with tw := { s.tw with hs := some h } } : State).failPairing (failed st)
        | none =>
          let h := { h with peerMid := mid, peerNonce := nonce, peerRole := role, version := (commonPl lo hi).getD 1 }
          let st := if h.job.isSome then PairState.pairing else s.tw.state
          let s := { s with tw := { s.tw with hs := some h, state := st } }
          let s := if h.sent then s else s.sendHello
          s.sendOnPaths 4 0 (pairProof (s.pairSecret h.node) s.mid nonce)

/-- The seeds of an ephemeral key of COMBO 0x02 (R242): the lattice half's, then the curve's. -/
def ephPublic (eph : Bytes) : Bytes :=
  match hybridOf 2 with
  | none => []
  | some (p, ec, _, _) =>
    let c := if ec then 1 else 0x10
    mlkemPublic p (eph.take 64) ++ ecPublic c (ecPrivate c false (eph.drop 64))

/-- PROOF arrives (R567 step 2): a failed one ends the handshake; then the follow sends its ephemeral key (PL2), or both
open the session (PL1). -/
def State.takeProof (s : State) (response : Bytes) : State :=
  match s.tw.hs with
  | none => s
  | some h =>
    if !s.canPair ∨ h.peerNonce = [] ∨ h.proved then s
    else if response ≠ pairProof (s.pairSecret h.node) h.peerMid h.nonce then
      (s.bump aTW_AUTH_FAIL 0).failPairing { status := stVERIFY_FAIL, verdict := vFail }
    else
      let h := { h with proved := true }
      let s := { s with tw := { s.tw with hs := some h } }
      if h.version = 1 then s.openSession h []
      else if s.leadsSession h then s
      else
        let d := s.drawBytes 96
        let s := { d.2 with tw := { d.2.tw with hs := some { h with eph := d.1 } } }
        s.sendOnPaths 5 0 (ephPublic d.1)

/-- KEYX arrives (R567 step 3): the lead encapsulates and answers, the follow decapsulates. -/
def State.takeKeyx (s : State) (material : Bytes) : State :=
  match s.tw.hs, hybridOf 2 with
  | some h, some (p, ec, _, _) =>
    let c := if ec then 1 else 0x10
    let z := (mlkemSizes p).getD (0, 0)
    if !s.canPair ∨ !h.proved ∨ h.version = 1 ∨ h.syncing then s
    else if s.leadsSession h then
      let m := s.drawBytes 32
      let e := m.2.drawBytes 32
      let d := ecPrivate c false e.1
      match ecAgree c d (material.drop z.1) with
      | none => s
      | some ssT =>
        let r := mlkemEncaps p (material.take z.1) m.1
        let ctT := ecPublic c d
        (e.2.sendOnPaths 5 0 (r.1 ++ ctT)).openSession h (hybridKey 2 r.2 ssT r.1 ctT)
    else if h.eph = [] then s
    else
      let ctM := material.take z.2
      let ctT := material.drop z.2
      match ecAgree c (ecPrivate c false (h.eph.drop 64)) ctT with
      | none => s
      | some ssT => s.openSession h (hybridKey 2 (mlkemDecaps p (h.eph.take 64) ctM) ssT ctM ctT)
  | _, _ => s

/-- The TW_ registers that a PAIR_ESTABLISH sets (R583). -/
def State.twinWrites (s : State) (b : Job) : List (Nat × Nat) :=
  let a := b.val 0x0146
  let ctl := s.reg aTW_CTL
  let ctl := setBits ctl 0 0 1
  let ctl := if b.has 0x0144 then setBits ctl 8 8 (tlvNat b.params 0x0144 0) else ctl
  let ctl := if b.has 0x0145 then setBits ctl 23 16 (tlvNat b.params 0x0145 0) else ctl
  if b.has 0x0146 then
    [(aTW_CTL, setBits (setBits ctl 1 1 1) 2 2 (leAt a 18 1)), (aTW_PEER_UDP, leAt a 16 2)]
      ++ (List.range 4).map fun k => (aTW_PEER_IP + 4 * k, leAt a (4 * k) 4)
  else [(aTW_CTL, setBits ctl 1 1 0)]

/-- What refuses the TWIN group (R588): its fail code and register. Mark: DEDUCED (log entry 65). -/
def twinRefused (reg : Nat → Nat) : Option (Nat × Nat) :=
  let ctl := reg aTW_CTL
  if bitsAt ctl 23 16 = 0 ∨ bitsAt ctl 23 16 > 60 then some (1, aTW_CTL)
  else if bitAt ctl 1 ∧ (List.range 4).all fun k => reg (aTW_PEER_IP + 4 * k) == 0 then some (2, aTW_CTL)
  else none

/-- How a PAIR_ESTABLISH ends. -/
def State.pairDone (s : State) : Ending := { done [⟨0x0148, s.pairInfo⟩] with verdict := vPass }

/-- The MP requests the TWIN group for a PAIR_ESTABLISH, which ends with the guard (R106).
Mark: DEDUCED (log entry 65). -/
def State.requestTwin (s : State) (ws : List (Nat × Nat)) (j : Nat) : State :=
  s.requestSet { groups := 0x0200, writes := ws, job := some (j, s.pairDone) }

/-- The session's records are applied and acknowledged on both sides: PAIRED (R577). PAIR_ESTABLISH sets the parity and
the TW_ registers; a rejoin leaves the parity alone and is told. -/
def State.settleSync (s : State) : State :=
  match s.tw.hs with
  | none => s
  | some h =>
    if !h.syncing ∨ !h.synced ∨ s.tw.queue ≠ [] then s
    else
      let s := s.setPairState .paired h.role
      let s := { s with tw := { s.tw with hs := none, node := h.node }, ks := { s.ks with pairChk := true } }
      match h.job.bind s.job, h.job with
      | some b, some j =>
        (s.takeParity h.role).requestTwin (s.twinWrites b) j
      | _, _ => s.mirrorPending.pairEvent 0x0265 none

/-! ### Records (R572, R574) -/

/-- A record is handled by the MP. -/
def mpRecord (kind : Nat) : Bool := [0x10, 0x30, 0x31, 0x40, 0x60, 0x61].contains kind

/-- Run a command of the lead's here, for no host: its status so far. Mark: DEDUCED (log entry 66). -/
def State.runInternal (s : State) (opcode : Nat) (params : List Tlv) (f : State → Nat → Job → State) : Nat × State :=
  let b : Job :=
    { src := .mp, inst := 0, opcode := opcode, tag := 0, major := 2, minor := 2, flags := 0, handle := 0, deadline := 0,
      params := params, paramLen := 0, resultCap := 2 ^ 20, resultAddr := 0, dataLen := 0, frags := [], order := s.nextJob,
      seqInQueue := 0, phase := .running, cleared := true }
  let r := s.addJob b
  let s := f r.2 r.1 b
  match (s.job r.1).bind (·.ending) with
  | some e => (e.status, s.dropJob r.1)
  | none => (stDONE, s)

/-- Adopt the lead's K_chk (R570): where it differs, every slot's handle is lost. -/
def State.adoptKchk (s : State) (k : Bytes) : State :=
  if s.ks.kchk = k then { s with ks := { s.ks with pairChk := true } }
  else
    let all := s.ks.slots.map (·.1)
    let s := (all.foldl State.freeSlot (s.dropCopies all))
    ({ s with ks := { s.ks with kchk := k, pairChk := true } } : State).pairEvent 0x0266 none

/-- Take the partner's pointers of a stateful key (R281, R283), journalled as PEER_RESERVE or PAIR_ADOPT, for a node that is
not registered here too. -/
def State.takePointers (s : State) (kind : Nat) (b : Bytes) : State :=
  let node := beNat (b.take 2)
  match tget s.hbs.keys node with
  | none => s.appendJournal node kind (beNat (slice b 2 4)) (beNat (slice b 6 4))
  | some k =>
    let k := { k with nextEven := max k.nextEven (beNat (slice b 2 4)), nextOdd := max k.nextOdd (beNat (slice b 6 4)) }
    ((s.setHbs node k).appendJournal node kind k.nextEven k.nextOdd).checkLow node

/-- Apply a record of the partner: the status it is acknowledged with. Mark: DEDUCED (log entry 66). -/
def State.takeRecord (s : State) (kind : Nat) (b : Bytes) : Nat × State :=
  match kind with
  | 0x10 => match s.checkUpdate b false with
    | .error f => (f.status, s.rejectUpdate f)
    | .ok u => (stDONE, s.commitUpdate u (leAt b 48 8) none)
  | 0x20 => (stDONE, s.takePointers 3 b)
  | 0x21 => (stDONE, s.takePointers 5 b)
  | 0x30 => s.runInternal opMANIFEST_LOAD [⟨0x0110, b⟩] manifestLoad
  | 0x31 => s.runInternal opMANIFEST_ACTIVATE [⟨0x0111, (b.take 4).reverse⟩, ⟨0x0114, (slice b 4 8).reverse⟩] manifestActivate
  | 0x40 =>
    let op := beNat (b.take 2)
    let ts := rawTlvs b.length (b.drop 2)
    if op = opINSTANCE_CREATE then s.runInternal op ts instanceCreate
    else if op = opINSTANCE_SHARE_SET then s.runInternal op ts instanceShareSet
    else if op = opINSTANCE_REMOVE then s.runInternal op ts instanceRemove
    else (stMALFORMED, s)
  | 0x50 =>
    let h := beNat (b.take 8)
    if s.slotsUsed (hInst h) ≥ s.slotQuota (hInst h) then (stLIMIT_EXCEEDED, s) else (stDONE, s.fillMirror b)
  | 0x51 =>
    let h := beNat (b.take 8)
    if s.handleStale h ∨ (s.slot (hSlot h)).gen ≠ hGen h then (stDONE, s)
    else (stDONE, s.invalidateKey (hSlot h))
  | 0x58 => (stDONE, s.adoptKchk b)
  | 0x60 => (stDONE, { s with tw := { s.tw with staged := some (Stamp.ofBits (beNat (b.take 8))), goHeard := false } })
  | 0x61 =>
    let s := s.applyResync b
    (stDONE, { s with tw := { s.tw with hs := s.tw.hs.map fun h => { h with synced := true } } })
  | _ => (stMALFORMED, s)

/-- Apply the records that are next in MSEQ order, and acknowledge each (R574); an MP record waits for the MP (R146). -/
def State.takeNext : (fuel : Nat) → State → State
  | 0, s => s
  | fuel + 1, s =>
    match s.tw.early.find? fun r => r.mseq == s.tw.applied + 1 with
    | none => s
    | some r =>
      if mpRecord r.kind && s.mp.state != .run then s
      else
        let s := { s with tw := { s.tw with
          early := s.tw.early.filter fun x => x.mseq != r.mseq, applied := r.mseq } }
        let a := s.takeRecord r.kind r.body
        (a.2.sendAck r.mseq a.1).settleSync.takeNext fuel

/-- A record arrives (R563, R574): a later copy is discarded. Mark: DEDUCED (log entry 66). -/
def State.recordArrives (s : State) (mseq kind : Nat) (body : Bytes) : State :=
  if s.tw.recvKey = [] ∨ s.fc.mstate ≠ .service then s
  else if mseq ≤ s.tw.applied ∨ s.tw.early.any (·.mseq == mseq) then State.takeNext (s.tw.early.length + 1) s
  else
    let r : PairRecord := { mseq := mseq, kind := kind, body := body }
    let s := { s with tw := { s.tw with early := s.tw.early ++ [r] } }
    State.takeNext (s.tw.early.length + 1) s

/-- What an acknowledgement does to the record it answers (R574). -/
def State.ackRecord (s : State) (r : PairRecord) (status : Nat) : State :=
  if r.kind = 0x20 then
    let node := beNat (r.body.take 2)
    match tget s.hbs.keys node with
    | some k => (s.setHbs node { k with acked := true }).settleHbs
    | none => s
  else if r.kind = 0x60 then
    match s.tw.castle with
    | none => s
    | some c =>
      if status ≠ stDONE then s.endCastle status
      else { s with tw := { s.tw with castle := some { c with
        acked := c.acked || c.c.any fun t => s.tb.stamp.bits < t.bits } } }
  else if r.kind = 0x50 then
    let n := hSlot (beNat (r.body.take 8))
    let s := if status = stDONE then s.setSlot n { s.slot n with mirrored := true }
      else if r.job.isSome then s.freeSlot n else s
    match r.job with
    | some j => if status = stDONE then s.endSlotJob j true else s.failJob j status
    | none => s
  else match r.job with
    | none => s
    | some j =>
      if status ≠ stDONE then s.failJob j status
      else if r.kind = 0x51 then s.endSlotJob j true
      else s.clearCommand j true

/-- An acknowledgement arrives. -/
def State.takeAck (s : State) (mseq status : Nat) : State :=
  match s.tw.queue.find? fun r => r.mseq == mseq with
  | none => s
  | some r =>
    let s := { s with tw := { s.tw with
      queue := s.tw.queue.filter fun x => x.mseq != mseq, acked := max s.tw.acked mseq } }
    (s.ackRecord r status).castleStep.settleSync

/-! ### Heartbeats (R564, R566, R577) -/

/-- What a heartbeat of the partner means in PAIRED and FROZEN; `first` for the first one heard in this crossing. -/
def State.hearPaired (s : State) (hb : Heartbeat) (first : Bool) : State :=
  if hb.fault then
    if s.tw.role = 2 then { s with tw := { s.tw with promote := true } } else s.becomeAlone
  else match s.tw.castle with
    | some c =>
      if !c.committed then s
      else if hb.role = 1 then s.endCastle stDONE
      else if first then { s with tw := { s.tw with castle := some { c with stillFollow := c.stillFollow + 1 } } }
      else s
    | none =>
      if hb.castleGo && s.tw.staged == some s.tb.stamp then { s with tw := { s.tw with goHeard := true } } else s

/-- A REJOINING module hears its partner (R577). -/
def State.hearRejoining (s : State) (hb : Heartbeat) : State :=
  if s.tw.hs.any (·.syncing) then s
  else if hb.role = 1 then if hb.updCounter ≥ s.ks.updCounter then s.startSync 2 else s.diverge
  else if hb.state = 5 then
    let own := s.tw.recorded == 1
    let peer := s.tw.hs.any fun h => h.peerRole == 1
    if own && !peer then s.startSync 1 else if !own && peer then s.startSync 2 else s.diverge
  else s

/-- An ALONE module hears its partner (R577). -/
def State.hearAlone (s : State) (hb : Heartbeat) : State :=
  if hb.fault ∨ s.tw.hs.any (·.syncing) = true then s
  else if hb.role = 1 ∨ hb.updCounter > s.ks.updCounter then s.diverge
  else if hb.state = 5 then s.startSync 1
  else s

/-- A heartbeat on a path: its tag and counter, then what it says (R564, R566). -/
def State.heartbeat (s : State) (p : TwinPath) (ctr : Nat) (tagOk : Bool) (hb : Heartbeat) : State :=
  if s.tw.recvKey = [] ∨ s.fc.mstate ≠ .service ∨ (p = .mgmt ∧ !s.mgmtPath) then s
  else if !tagOk ∨ ctr ≤ (s.path p).rxCtr then s.bump aTW_AUTH_FAIL 0
  else
    let first := !(allPaths.any fun q => (s.path q).heard)
    let s := s.onPath p fun x => { x with rxCtr := ctr, heard := true }
    let s := { s with tw := { s.tw with lastHb := some hb, silentSince := s.now } }
    let s := match s.tw.state with
      | .paired => s.hearPaired hb first
      | .frozen => s.hearPaired hb first
      | .alone => s.hearAlone hb
      | .rejoining => s.hearRejoining hb
      | _ => s
    s.settleHbs

/-- HEARTBEAT_RECEIVE. -/
def execHeartbeatReceive (path : TwinPath) (ctr _mseq : Nat) (tagOk : Bool) (hb : Heartbeat) (s : State) : Result :=
  .next (s.heartbeat path ctr tagOk hb)

/-- PAIRING_HANDSHAKE (R567). -/
def execPairingHandshake (m : HandshakeMsg) (s : State) : Result :=
  match m with
  | .hello lo hi fw role rate mid nonce partnerOf => .next (s.takeHello lo hi fw role rate mid nonce partnerOf)
  | .proof r => .next (s.takeProof r)
  | .keyx k => .next (s.takeKeyx k)

/-- MIRROR_RECORD (R574). -/
def execMirrorRecord (mseq kind : Nat) (body : Bytes) (s : State) : Result := .next (s.recordArrives mseq kind body)

/-- MIRROR_ACK (R574). -/
def execMirrorAck (mseq status : Nat) (s : State) : Result := .next (s.takeAck mseq status)

/-- The heartbeat a body holds (R566). -/
def parseHeartbeat (b : Bytes) : Heartbeat :=
  let f := leAt b 2 1
  { role := leAt b 0 1, state := leAt b 1 1, fault := bitAt f 0, mpRun := bitAt f 1, castleGo := bitAt f 5,
    parity := leAt b 3 1, stamp := Stamp.ofBits (beNat (slice b 4 8)), mseqAcked := beNat (slice b 12 4),
    updCounter := beNat (slice b 16 8) }

/-- PAIRING_FRAME (R563, R565): a frame is authenticated, its counter checked, and what it carries applied. -/
def execPairingFrame (path : TwinPath) (frame : Bytes) (s : State) : Result :=
  let n := beNat (slice frame 2 2)
  let kind := leAt frame 1 1
  let ctr := beNat (slice frame 4 8)
  let mseq := beNat (slice frame 12 4)
  let head := frame.take 16
  let body := slice frame 16 n
  let iv := frameIv (pathCode path) ctr
  let tagOk := frame.drop (16 + n) == gcmTag s.tw.recvKey iv head body
  if frame.length ≠ 32 + n ∨ s.fc.mstate ≠ .service ∨ (path = .mgmt ∧ !s.mgmtPath) then .next s
  else if kind = 3 then
    if n ≠ 70 then .next s
    else .next (s.takeHello (leAt body 0 1) (leAt body 1 1) (leAt body 2 1) (leAt body 3 1) (beNat (slice body 4 2))
      (slice body 6 32) (slice body 38 32) [])
  else if kind = 4 then .next (s.takeProof body)
  else if kind = 5 then .next (s.takeKeyx body)
  else if s.tw.recvKey = [] then .next s
  else if kind = 1 then .next (s.heartbeat path ctr (tagOk && n == 24) (parseHeartbeat body))
  else if !tagOk then .next (s.bump aTW_AUTH_FAIL 0)
  else if ctr ≤ (s.path path).rxCtr then .next s
  else
    let s := s.onPath path fun x => { x with rxCtr := ctr }
    if kind = 2 then .next (s.takeAck (beNat (body.take 4)) (beNat (slice body 4 2)))
    else .next (s.recordArrives mseq kind (gcmDec s.tw.recvKey iv body))

/-- Judge one path at the end of a crossing (R564). Mark: DEDUCED (log entry 64). -/
def State.judgePath (s : State) (p : TwinPath) : State :=
  let x := s.path p
  let y := if x.heard then { x with heard := false, miss := 0, good := x.good + 1 }
    else { x with heard := false, miss := min 255 (x.miss + 1), good := 0 }
  let s := s.onPath p fun _ => y
  if !x.up ∧ y.good ≥ 2 then (s.onPath p fun z => { z with up := true }).pairEvent 0x0261 (some p)
  else if x.up ∧ y.miss ≥ 3 then
    let s := (s.onPath p fun z => { z with up := false }).bump aTW_PATH_LOST_CNT 0
    if s.linkUp then s.pairEvent 0x0260 (some p) else s
  else s

/-- Records that waited for a pairing link are sent (R576). -/
def State.sendQueued (s : State) : State :=
  let rs := s.tw.queue.filter fun r => r.sentAt.isNone
  let s := rs.foldl (fun s r => s.sendOnPaths r.kind r.mseq r.body) s
  { s with tw := { s.tw with queue := s.tw.queue.map fun r => { r with sentAt := some (r.sentAt.getD s.tb.crossings) } } }

/-- PATH_LOSS_CHECK (R564, R577). -/
def execPathLossCheck (s : State) : Result :=
  if s.tw.recvKey = [] ∨ s.fc.mstate ≠ .service then .next s
  else
    let s := (allPaths.filter fun p => p != .mgmt || s.mgmtPath).foldl State.judgePath s
    match s.tw.state with
    | .paired =>
      if s.allLost then .next (if s.tw.role = 2 then { s with tw := { s.tw with promote := true } } else s.becomeAlone)
      else if !s.linkUp then .next (({ s with tw := { s.tw with state := .frozen } } : State).pairEvent 0x0262 none)
      else .next s
    | .frozen =>
      if s.allLost then .next (if s.tw.role = 2 then { s with tw := { s.tw with promote := true } } else s.becomeAlone)
      else if s.linkUp then .next ({ s with tw := { s.tw with state := .paired } } : State).sendQueued
      else .next s
    | _ => .next s

/-- SLOT_RECORD_TIMEOUT (R576): in FROZEN a slot command that has waited 2 crossings ends without MIRRORED, and its record stays queued. -/
def execSlotRecordTimeout (j : Nat) (s : State) : Result :=
  let mine := fun (r : PairRecord) => r.job == some j && (r.kind == 0x50 || r.kind == 0x51)
  let late := ((s.job j).bind (·.waitUp)).any fun t => s.passed t (s.crossingsNs 2)
  if s.tw.state ≠ .frozen ∨ !s.tw.queue.any mine ∨ !late then .next s
  else
    let s := { s with tw := { s.tw with queue := s.tw.queue.map fun r => if mine r then { r with job := none } else r } }
    .next (s.endSlotJob j false)

/-! ### Guard events (R579, R580) -/

/-- PROMOTION (R580, R282): the parity stays. -/
def execPromotion (s : State) : Result :=
  if !s.tw.promote ∨ !s.tb.inGuard ∨ s.tw.role ≠ 2 then .next s
  else
    let s := { s with tw := { s.tw with promote := false, staged := none, goHeard := false, hs := none } }
    let s := (s.changeRole .alone 1).dropRecords.settleHbs
    .next ((s.bump aTW_PROMOTE_CNT 0).pairEvent 0x0263 none)

/-- CASTLE_COMMIT (R579 step 3): the lead with the acknowledgement, the follow that has heard CASTLE_GO. -/
def execCastleCommit (s : State) : Result :=
  if !s.tb.inGuard then .next s
  else match s.tw.castle with
    | some c =>
      if c.acked ∧ !c.committed ∧ c.c = some s.tb.stamp then
        let s := { s with tw := { s.tw with castle := some { c with committed := true, parity := s.hbs.parity } } }
        .next (((s.changeRole s.tw.state 2).takeParity 2).bump aTW_CASTLE_CNT 0)
      else .next s
    | none =>
      if s.tw.staged = some s.tb.stamp ∧ s.tw.goHeard then
        let s := { s with tw := { s.tw with staged := none, goHeard := false } }
        .next (((s.changeRole s.tw.state 1).takeParity 1).bump aTW_CASTLE_CNT 0)
      else .next s

/-- CASTLE_TAKEBACK (R579): after 2 crossings in which the partner still reports follow. -/
def execCastleTakeback (s : State) : Result :=
  match s.tw.castle with
  | none => .next s
  | some c =>
    if s.tb.inGuard ∧ c.committed ∧ c.stillFollow ≥ 2 then
      .next (((s.changeRole s.tw.state 1).takeParity c.parity).endCastle stNOT_READY)
    else .next s

/-! ### Waits (R577, R579) -/

/-- JOIN_WAIT_EXPIRY: a REJOINING module that hears no partner for TW_CTL.JOIN_WAIT seconds takes lead. -/
def execJoinWaitExpiry (s : State) : Result :=
  if s.tw.state ≠ .rejoining ∨ s.tw.hs.any (·.syncing) ∨ !s.passed s.tw.silentSince (s.fld aTW_CTL 23 16 * 10 ^ 9) then
    .next s
  else .next (({ s with tw := { s.tw with hs := none } } : State).setPairState .alone 1).settleHbs

/-- PAIR_WAIT_EXPIRY: PAIR_ESTABLISH, or a CASTLE whose steps 1 and 2 have not finished, ends NOT_READY. -/
def execPairWaitExpiry (s : State) : Result :=
  let n := s.tb.crossings
  let s := if s.tw.hs.any (fun h => h.job.isSome && h.since + h.wait ≤ n) then s.failPairing (failed stNOT_READY) else s
  .next (if s.tw.castle.any fun c => !c.acked && c.since + c.wait ≤ n then s.endCastle stNOT_READY else s)

/-! ### Commands (R582 to R585) -/

/-- The form of a PAIR_ESTABLISH that establishes (R582, R583). -/
def Job.pairBad (b : Job) : Bool :=
  !(b.has 0x0140 && b.has 0x0141 && b.has 0x0142) || tlvNat b.params 0x0142 0 == 0 || tlvNat b.params 0x0142 0 > 2
    || tlvNat b.params 0x0144 0 > 1 || tlvNat b.params 0x0147 1 == 0 || tlvNat b.params 0x0147 1 > 96000
    || leAt (b.val 0x0146) 18 1 > 1

/-- PAIR_ESTABLISH (R577, R578, R583, R585): the handshake begins with HELLO.
Mark: DEDUCED (log entry 65), DESIGN CHOICE (log entry 60). -/
def execPairEstablish (j : Nat) (s : State) : Result :=
  runMp s j opPAIR_ESTABLISH fun s b =>
    let node := tlvNat b.params 0x0140 0
    let ws := s.twinWrites b
    let reg := fun (o : Nat) => ((ws.find? fun w => w.1 == o).map (·.2)).getD (s.reg o)
    if b.has 0x0143 then s
    else if b.noRoom (tlvLen 64) then s.failJob j stLIMIT_EXCEEDED
    else if b.pairBad then s.failJob j stMALFORMED
    else match tget s.ks.nodes node with
      | none => s.failJob j stKEY_ABSENT
      | some d =>
        if d.type ≠ 0x30 ∨ !bitAt d.policy 10 then s.failJob j stKEY_POLICY
        else if (twinRefused reg).isSome then s.failJob j stCONFIG_INCONSISTENT
        else if s.tw.hs.isSome ∨ s.tw.castle.isSome then s.failJob j stNOT_READY
        else
          let h : Handshake :=
            { job := some j, before := s.tw.state, node := node, role := tlvNat b.params 0x0142 0,
              partner := some (b.val 0x0141), since := s.tb.crossings, wait := tlvNat b.params 0x0147 48000 }
          let s := s.onJob j fun b => { b with wait := .pairing }
          ({ s with tw := { s.tw with hs := some h } } : State).sendHello

/-- PAIR_ESTABLISH with DISSOLVE (R577, R280): the module is UNPAIRED, without parity, and its heartbeats stop.
Mark: DESIGN CHOICE (log entry 60). -/
def execPairDissolve (j : Nat) (s : State) : Result :=
  runMp s j opPAIR_ESTABLISH fun s b =>
    if !b.has 0x0143 then s
    else if b.noRoom (tlvLen 64) then s.failJob j stLIMIT_EXCEEDED
    else if b.params.length ≠ 1 ∨ tlvNat b.params 0x0143 0 ≠ 1 then s.failJob j stMALFORMED
    else
      let s := ((s.failPairing (failed stNOT_READY)).endCastle stNOT_READY).dropRecords.dropParity
      let s := { s with tw := {}, ks := { s.ks with pairChk := false } }
      s.settleHbs.requestTwin [(aTW_CTL, setBits (setBits (s.reg aTW_CTL) 0 0 0) 1 1 0)] j

/-- CASTLE (R579, R583, R585). -/
def execCastle (j : Nat) (s : State) : Result :=
  runMp s j opCASTLE fun s b =>
    let wait := tlvNat b.params 0x0147 48000
    if b.noRoom (tlvLen 64) then s.failJob j stLIMIT_EXCEEDED
    else if wait = 0 ∨ wait > 96000 then s.failJob j stMALFORMED
    else if s.isPaired ∧ s.tw.role = 2 then s.failJob j stPERMISSION
    else if s.tw.state ≠ .paired ∨ s.tw.role ≠ 1 ∨ s.tw.castle.isSome ∨ !(s.tw.lastHb.any (·.mpRun)) then
      s.failJob j stCONFIG_INCONSISTENT
    else
      let s := s.onJob j fun b => { b with wait := .castle }
      let c : Castling := { job := some j, at_ := b.atStamp 0x0149, since := s.tb.crossings, wait := wait }
      ({ s with tw := { s.tw with castle := some c } } : State).castleStep

/-- PAIR_STATUS (R583). -/
def execPairStatus (j : Nat) (s : State) : Result :=
  runMp s j opPAIR_STATUS fun s b =>
    if b.noRoom (tlvLen 64) then s.failJob j stLIMIT_EXCEEDED else s.endJob j (done [⟨0x0148, s.pairInfo⟩])

end Sys2Proof.Machine
end

