-- ==== Sys2Proof/Machine/Staging.lean ====
section
/-!
DEFINITION. The consistency checks of the commit groups (R108): for each group the first fail code and register, under
the values that the whole set proposes (R103, R106).
-/

namespace Sys2Proof.Machine

/-- A fail code and the register it is found in (R106). -/
abbrev GroupFail : Type := Nat × Nat

/-- The first of several tests that fails. -/
def firstFail (ts : List (Bool × Nat × Nat)) : Option GroupFail := (ts.find? fun t => t.1).map (·.2)

/-- A value outside a range. -/
def outside (v lo hi : Nat) : Bool := v < lo || hi < v

/-! ### What the set would make active -/

/-- The rate that holds once every committed change has taken effect (R59). -/
def State.committedRate (s : State) : Nat := s.tb.pendingRate.getD (s.fld aXS_RATE 15 0)

/-- The manifests whose berths a check reads: the active one, one that waits for its second (R88), and one that the set
activates. -/
def State.manifestsIn (s : State) (set : BitVec 16) : List Manifest :=
  let next := if set.getLsbD 2 || s.xs.atRate then s.xs.next.toList else []
  let old := if set.getLsbD 2 && !set.getLsbD 0 then [] else s.xs.active.toList
  old ++ next

/-- The berths that a check reads. -/
def State.berthsIn (s : State) (set : BitVec 16) : List Berth := (s.manifestsIn set).flatMap (·.berths)

/-- An engine holds a berth. -/
def berthOn (bs : List Berth) (cls i : Nat) : Bool := bs.any fun w => w.covers cls i

/-! ### Timebase, scheduler, manifest, partitions (R52, R60, R673) -/

/-- A port code of XS_PTP_PORT. -/
def portCodeOk (c : Nat) : Bool := c ≤ 0x201 || c == 0x3FF

/-- TIMEBASE (R60, R673). -/
def State.timebaseCheck (s : State) (set : BitVec 16) (w : Nat → Nat) : Option GroupFail :=
  let rate := w aXS_RATE
  let port := w aXS_PTP_PORT
  let held := s.manifestsIn set
  firstFail [
    (outside rate 1000 20000, 1, aXS_RATE),
    (!portCodeOk (bitsAt port 25 16) || !portCodeOk (bitsAt port 9 0), 1, aXS_PTP_PORT),
    (outside (w aXS_HOLDOVER_LIMIT) 60 86400, 1, aXS_HOLDOVER_LIMIT),
    (outside (w aXS_PPS_WIDTH) 1 500000, 1, aXS_PPS_WIDTH),
    (!set.getLsbD 2 && rate != s.committedRate && (held.any fun m => m.berths != [] && m.rate != rate), 3, aXS_RATE)]

/-- SCHED (R673). -/
def schedCheck (w : Nat → Nat) : Option GroupFail :=
  firstFail [(outside (bitsAt (w aXS_QUANTUM) 15 0) 1000 64000, 1, aXS_QUANTUM)]

/-- MANIFEST: the manifest and the rate of the set agree (R88). Mark: DEDUCED (log entry 22). -/
def State.manifestCheck (s : State) (w : Nat → Nat) : Option GroupFail :=
  firstFail [(s.xs.next.any fun m => m.rate != w aXS_RATE, 3, aXS_RATE)]

/-- PARTITION (R50, R52): each size within its limits, and at least 8 GiB left for P7. Mark: DEDUCED (log entry 22). -/
def partitionCheck (w : Nat → Nat) : Option GroupFail :=
  let a := w aPWR_PART_P2
  let b := w aPWR_PART_P3
  let c := w aPWR_PART_P4
  let d := w aPWR_PART_P6
  firstFail [
    (outside a 4 32, 1, aPWR_PART_P2), (outside b 16 256, 1, aPWR_PART_P3), (outside c 8 64, 1, aPWR_PART_P4),
    (outside d 16 128, 1, aPWR_PART_P6), (512 < a + b + c + d + 35 + 32, 4, aPWR_PART_P2)]

/-! ### Queue pairs of instance 0 (R155, R205, R206) -/

/-- The pairs of instance 0 with a staged change among some of their registers. -/
def State.stagedPairs (s : State) (regs : List Nat) : List Nat :=
  ((s.shadow.filterMap fun e => (queueOfOff e.1).map fun x => (e.1, x)).filter fun x =>
    regs.contains x.2.2 && (s.pair x.2.1).owner == 0 && s.changes x.1).map (fun x => x.2.1) |>.dedup

/-- The tenants with a share. -/
def State.tenants (s : State) (w : Nat → Nat) : List Nat :=
  (List.range 128).map (· + 1) |>.filter fun n => (s.inst n).state != .absent
    || [aIN_VECTORS, aIN_SLOT_QUOTA, aIN_SCRATCH, aIN_WEIGHT_A, aIN_WEIGHT_B].any fun r => w (inReg n r) != 0

/-- The pairs that the set gives to tenants. -/
def State.pairsGiven (s : State) (set : BitVec 16) : List Nat :=
  if set.getLsbD 8 then
    (s.tenants (s.proposed set)).flatMap fun n => (s.mapOf (s.proposed set) n).map (·.2)
  else []

/-- QUEUE over the pairs it touches. The kinds that other pairs of the set take count against R151.
Mark: DEDUCED (log entry 22). -/
def State.queueCheck (s : State) (set : BitVec 16) : Option GroupFail :=
  let qs := s.stagedPairs queueRegs
  let given := s.pairsGiven set
  let word := fun (q r : Nat) => s.proposed set (qReg q r)
  let taken := fun (q : Nat) => (qs.filter fun x => x != q && (s.pair x).created.isNone && bitAt (word x aQ_CTL) 0).map
    fun x => bitsAt (word x aQ_CTL) 25 24
  qs.findSome? fun q =>
    if given.contains q then some (4, qReg q aQ_CTL)
    else (s.pairCheck q (word q) (taken q)).map fun f => (f.1, qReg q f.2)

/-- INTERRUPT over the pairs it touches. -/
def State.interruptCheck (s : State) (set : BitVec 16) : Option GroupFail :=
  (s.stagedPairs [aQ_MOD, aQ_VECTOR]).findSome? fun q =>
    (s.intCheck q fun r => s.proposed set (qReg q r)).map fun f => (f.1, qReg q f.2)

/-! ### Ports and streams (R512, R533, R534) -/

/-- The lanes whose port registers are not at reset under the set, with PT_LANE. -/
def State.lanesOf (s : State) (w : Nat → Nat) : List (Nat × Nat) :=
  ((List.range 512).filter fun l => (tget s.regs (aPT_LANE + 4 * l)).isSome || (tget s.shadow (aPT_LANE + 4 * l)).isSome).map
    fun l => (l, w (aPT_LANE + 4 * l))

/-- The rate of a port in Gb/s; 0 for a lane that leads no port. -/
def laneGbps (v : Nat) : Nat :=
  match bitsAt v 2 0 with
  | 1 => 1
  | 2 => 10
  | 3 => 25
  | 4 => 100
  | _ => 0

/-- The headroom in KiB of one lossless priority over a link of `km` (R533). Mark: DEDUCED (log entry 23). -/
def headroom (v km : Nat) : Nat :=
  let f := if bitAt v 7 then 9216 else 1536
  4 * ceilDiv ((km * 10000 + 1200) * laneGbps v / 8 + 2 * f + 3840) 4096

/-- How many priorities are lossless. Mark: DEDUCED (log entry 23). -/
def lossless (v : Nat) : Nat := ((List.range 8).filter fun i => bitAt v (8 + i)).length

/-- The on-chip headroom of a lane in KiB. -/
def onChip (v : Nat) : Nat := if laneGbps v = 0 then 0 else lossless v * headroom v (min (bitsAt v 31 24) 10)

/-- What a lane reserves of P5 in KiB. -/
def p5Reserve (v : Nat) : Nat :=
  if laneGbps v = 0 ∨ bitsAt v 31 24 ≤ 10 then 0 else lossless v * (headroom v (bitsAt v 31 24) - headroom v 10)

/-- A lane is part of a gang that is not whole (R500). -/
def gangBad (w : Nat → Nat) (l v : Nat) : Bool :=
  let speed := fun (i : Nat) => bitsAt (w (aPT_LANE + 4 * i)) 2 0
  if bitsAt v 2 0 = 4 then l % 4 != 0 || [1, 2, 3].any fun i => speed (l + i) != 5
  else if bitsAt v 2 0 = 5 then l % 4 == 0 || speed (l / 4 * 4) != 4
  else false

/-- A PRP or HSR lane and its partner do not name each other with matching REDUND (R504).
Mark: DEDUCED (log entry 23). -/
def peerBad (w : Nat → Nat) (l v : Nat) : Bool :=
  let red := bitsAt v 17 16
  let p := bitsAt (w (aPT_PEER + 4 * l)) 9 0
  if red = 0 then false
  else
    p ≥ 512 || bitsAt (w (aPT_PEER + 4 * p)) 9 0 != l
      || bitsAt (w (aPT_LANE + 4 * p)) 17 16 != (if red = 1 then 2 else if red = 2 then 1 else 3)

/-- An egress port of a source stream of an event-signing policy (R521). -/
def State.signedEgress (s : State) (l : Nat) : Bool :=
  s.tr.streams.any fun e => e.2.outPort == l && s.tr.policies.any fun p => p.2.sources.contains e.1

/-- PORT (R534). Mark: DEDUCED (log entry 23). -/
def State.portCheck (s : State) (set : BitVec 16) (w : Nat → Nat) : Option GroupFail :=
  let ls := s.lanesOf w
  let bs := s.berthsIn set
  let reg := fun (l : Nat) => aPT_LANE + 4 * l
  let lane := fun (code : Nat) (p : Nat × Nat → Bool) => (ls.find? p).map fun x => (code, reg x.1)
  let range := lane 1 fun x =>
    bitsAt x.2 31 24 > 200 || bitsAt x.2 2 0 > 5 || bitsAt x.2 5 4 == 3 || bitsAt x.2 19 18 > 1
  let gang := lane 2 fun x => gangBad w x.1 x.2 || peerBad w x.1 x.2
  let se := ((List.range 4).find? fun k =>
      (List.range 10).any fun i => bitAt (w (aPT_CL_CTL + 4 * k)) i && berthOn bs 7 (10 * k + i)).map
    fun k => (3, aPT_CL_CTL + 4 * k)
  let jumbo := lane 3 fun x => s.signedEgress x.1 && s.lane x.1 7 7 == 1 && !bitAt x.2 7
  let room := if (ls.map fun x => onChip x.2).sum > 84992 ∨ (ls.map fun x => p5Reserve x.2).sum > 8388608 then
      some (4, reg ((ls.find? fun x => lossless x.2 != 0).map (·.1) |>.getD 0))
    else none
  let macsec := ((List.range 4).find? fun k =>
      let ses := ((List.range 10).filter fun i => bitAt (w (aPT_CL_CTL + 4 * k)) i).length
      80 * ses < ((ls.filter fun x => x.1 / 128 == k && bitAt x.2 6).map fun x => laneGbps x.2).sum).map
    fun k => (4, aPT_CL_CTL + 4 * k)
  range.or (gang.or (se.or (jumbo.or (room.or macsec))))

/-- STREAM (R512), for one class. -/
def State.classCheck (s : State) (bs : List Berth) (w : Nat → Nat) (c : Nat) : Option GroupFail :=
  let off := aST_CLASS + 4 * c
  let v := w off
  let mode := bitsAt v 27 26
  let trunc := bitsAt v 25 24
  let kept := fun (h l : Nat) => bitsAt v h l == s.cls c h l
  firstFail [
    (bitAt v 31 && (outside (bitsAt v 10 0) 64 1536 || bitsAt v 30 28 > 3 || (mode == 1 && trunc > 2)
      || (mode == 2 && trunc > 1)), 1, off),
    ((s.tr.streams.any fun e => e.2.cls == c) && !(bitAt v 31 && kept 30 28 && kept 27 26), 3, off),
    (bs.any fun b => b.kind == 1 && b.owner == c && b.len < classUnits v * b.budget, 3, off)]

/-- STREAM (R512). -/
def State.streamCheck (s : State) (set : BitVec 16) (w : Nat → Nat) : Option GroupFail :=
  let cs := ((s.stagedOffs 7).filter s.changes).map fun o => (o - aST_CLASS) / 4
  cs.findSome? fun c => s.classCheck (s.berthsIn set) w c

/-! ### Instances (R548) -/

/-- The weight of a class in WEIGHT_A and WEIGHT_B. -/
def weightIn (w : Nat → Nat) (n cls : Nat) : Nat :=
  if cls ≤ 4 then bitsAt (w (inReg n aIN_WEIGHT_A)) (8 * cls - 1) (8 * cls - 8)
  else bitsAt (w (inReg n aIN_WEIGHT_B)) (8 * cls - 33) (8 * cls - 40)

/-- P7 in MiB: what every scratch quota comes out of (R547). Mark: DEDUCED (log entry 82). -/
def State.p7Size (s : State) : Nat := s.scratchQuota 0 + s.tenantSum aIN_SCRATCH 16

/-- The tenants, those whose shares a set changes first: the first offending register is sought among theirs (R106).
Mark: DEDUCED (log entry 67). -/
def State.changedFirst (s : State) (w : Nat → Nat) : List Nat :=
  let ns := s.tenants w
  let changed := ns.filter fun n => (shareRegs n).any s.changes
  changed ++ ns.filter fun n => !changed.contains n

/-- INSTANCE (R548): what the staged command asks for beyond the registers' ranges, then the maps, the instances one by
one, and the quotas together. Mark: DEDUCED (log entries 23, 67). -/
def State.instanceCheck (s : State) (set : BitVec 16) (w : Nat → Nat) : Option GroupFail :=
  let ns := s.changedFirst w
  let bs := s.berthsIn set
  let maps := ns.map fun n => (n, s.mapOf w n)
  let all := maps.flatMap fun m => m.2.map (·.2)
  let twice := maps.findSome? fun m => (m.2.find? fun e => (all.filter (· == e.2)).length > 1).map
    fun e => (2, qmapReg m.1 (e.1 / 2))
  let perInst := ns.findSome? fun n =>
    let v := bitsAt (w (inReg n aIN_VECTORS)) 6 0
    let bare := fun (lo hi : Nat) =>
      bs.any fun b => b.kind == 3 && b.owner == n && lo ≤ b.cls && b.cls ≤ hi && weightIn w n b.cls == 0
    firstFail [
      (v > 64, 1, inReg n aIN_VECTORS),
      (v < s.vectors n && (s.pairsOf n).any fun q => (s.pair q).enabled && v ≤ s.fld (qReg q aQ_VECTOR) 5 0, 3, inReg n aIN_VECTORS),
      (bare 0 4, 3, inReg n aIN_WEIGHT_A), (bare 5 6, 3, inReg n aIN_WEIGHT_B)]
  let sum := fun (r h : Nat) => (ns.map fun n => bitsAt (w (inReg n r)) h 0).sum
  let first := ns.headD 0
  let quotas := firstFail [(sum aIN_SLOT_QUOTA 16 > 65536, 4, inReg first aIN_SLOT_QUOTA),
    (sum aIN_SCRATCH 17 > s.p7Size, 4, inReg first aIN_SCRATCH)]
  s.cfg.shareFault.or (twice.or (perInst.or quotas))

/-! ### Faults, random, engines, power (R260, R300, R327, R354, R433, R499, R626, R631) -/

/-- FAULT (R626). -/
def State.faultCheck (s : State) (w : Nat → Nat) : Option GroupFail :=
  let c := w aFC_CTL
  let a := w aAL_ACTION
  let field := fun (v i : Nat) => bitsAt v (2 * i + 1) (2 * i)
  firstFail [
    (outside (bitsAt c 9 0) 1 600 || outside (bitsAt c 13 10) 2 15 || outside (bitsAt c 23 16) 1 255, 1, aFC_CTL),
    (outside (w aFC_WINDOW) 60 86400, 1, aFC_WINDOW),
    ((List.range 11).any fun i => field a i == 3, 1, aAL_ACTION),
    (bitsAt (w aAL_DCM) 15 8 == 0 || bitsAt (w aAL_DCM) 7 0 == 0, 1, aAL_DCM),
    ((List.range 11).any fun i => field a i < field (regReset aAL_ACTION).toNat i || (i == 10 && field a i != 1), 3,
      aAL_ACTION),
    ((List.range 4).any fun i => bitAt (s.reg aAL_LOOP_EN) i && !bitAt (w aAL_LOOP_EN) i, 3, aAL_LOOP_EN)]

/-- A cluster of PEs holds a pinned event key (R234, R260). -/
def State.pinnedIn (s : State) (k : Nat) : Bool :=
  (clusterEngines k).any fun e => (s.eng (engKey e.1 e.2)).cache.any (·.pinned)

/-- A cluster runs an MCI1 pack. -/
def State.runsMci1 (s : State) (k : Nat) : Bool := (s.cluster k).pack.any fun p => p.fmt == 1

/-- ENGINE (R260, R300, R327, R354, R433). -/
def State.engineCheck (s : State) (set : BitVec 16) (w : Nat → Nat) : Option GroupFail :=
  let pe := w aPE_CTL
  let me := w aME_CTL
  let bs := s.berthsIn set
  let cleared := fun (off i : Nat) => bitAt (s.reg off) i && !bitAt (w off) i
  firstFail [
    ((List.range 4).any fun k => cleared aPE_CTL k && s.pinnedIn k, 3, aPE_CTL),
    ((List.range 4).any fun k => !bitAt (s.reg aPE_CTL) (8 + k) && bitAt pe (8 + k) && s.runsMci1 k, 3, aPE_CTL),
    (outside (bitsAt me 9 0) 16 1000 || bitsAt me 23 16 == 0, 1, aME_CTL),
    (bitsAt (w aCE_CTL) 1 0 == 0, 1, aCE_CTL),
    (bitsAt (w aBN_CTL) 7 0 == 0, 1, aBN_CTL),
    (bitsAt (w aSE_CTL) 7 0 == 0, 1, aSE_CTL),
    ((List.range 8).any fun i => cleared aSE_CTL i && berthOn bs 5 i, 3, aSE_CTL),
    (bitsAt (w aDE_CTL) 11 0 == 0, 1, aDE_CTL),
    ((List.range 12).any fun i => cleared aDE_CTL i && berthOn bs 6 i, 3, aDE_CTL)]

/-- POWER (R631). -/
def State.powerCheck (s : State) (set : BitVec 16) (w : Nat → Nat) : Option GroupFail :=
  let ls := (s.lanesOf w).filter fun x => bitsAt x.2 2 0 != 0
  let bs := s.berthsIn set
  let off := fun (d : Nat) => bitAt (s.reg aPWR_CTL) d && !bitAt (w aPWR_CTL) d
  let held := fun (d : Nat) => (domainEngines d).any fun e =>
    berthOn bs e.1 e.2 || (s.eng (engKey e.1 e.2)).cache.any (·.pinned)
  let cage := fun (lo hi : Nat) => (List.range 64).any fun c =>
    lo ≤ c && c < hi && cageOn s.reg c && !cageOn w c && ls.any fun x => x.1 / 8 == c
  firstFail [
    (fixedDomains.any fun d => !bitAt (w aPWR_CTL) d, 1, aPWR_CTL),
    ((List.range 24).any fun d => 5 ≤ d && d ≤ 17 && off d && (held d || (d ≤ 12 && bitAt s.loading (d - 5))), 3, aPWR_CTL),
    ((List.range 4).any fun k => off (14 + k) && ls.any fun x => x.1 / 128 == k, 3, aPWR_CTL),
    (off 23 && ls != [], 3, aPWR_CTL),
    (off 21 && bitAt (w aTW_CTL) 0, 3, aPWR_CTL),
    (cage 0 32, 3, aPWR_CAGE_EN_LO),
    (cage 32 64, 3, aPWR_CAGE_EN_HI)]

/-! ### The set (R106) -/

/-- The check of one group. KEYSTORE has none. -/
def State.groupCheck (s : State) (set : BitVec 16) (g : Nat) : Option GroupFail :=
  let w := s.proposed set
  match g with
  | 0 => s.timebaseCheck set w
  | 1 => schedCheck w
  | 2 => s.manifestCheck w
  | 3 => partitionCheck w
  | 4 => s.queueCheck set
  | 5 => s.interruptCheck set
  | 6 => s.portCheck set w
  | 7 => s.streamCheck set w
  | 8 => s.instanceCheck set w
  | 9 => twinRefused w
  | 10 => s.faultCheck w
  | 11 => firstFail [(bitsAt (w aRNG_CTL) 3 0 == 0, 1, aRNG_CTL)]
  | 13 => s.engineCheck set w
  | 14 => s.microcodeCheck w (bitsAt (w aPE_CTL) 11 8)
  | 15 => s.powerCheck set w
  | _ => none

/-- The groups of a set, in order. -/
def groupsIn (set : BitVec 16) : List Nat := (List.range 16).filter set.getLsbD

/-- The first offending group of a set, its fail code and register. -/
def State.setCheck (s : State) (set : BitVec 16) : Option (Nat × GroupFail) :=
  (groupsIn set).findSome? fun g => (s.groupCheck set g).map fun f => (g, f)

end Sys2Proof.Machine
end

