-- ==== Sys2Proof/Machine/Crossing.lean ====
section
/-!
DEFINITION. Crossings and staged configuration (chapter 02): the host's requests, the boundary guard with its checks and
its applies, and the boundary.
-/

namespace Sys2Proof.Machine

/-! ### Requests (R103 to R105, R108) -/

/-- Sets and commands that waited for groups which no set holds any more go on (R105). -/
def State.wakeGroups (s : State) : State :=
  let s := s.drainSets
  s.onJobs fun b => match b.wait with
    | .freeGroups g => if s.groupsBusy g then b else { b with wait := .no }
    | _ => b

/-- Groups under restoration were applied, refused or withdrawn (R636); with the instances, the ports and the stream classes
done, the readiness bits that waited for them set. Mark: DEDUCED (log entry 73). -/
def State.endRestore (s : State) (set : BitVec 16) : State :=
  if s.pw.restoring &&& set = 0 then s
  else
    let left := s.pw.restoring &&& ~~~set
    ({ s with pw := { s.pw with restoring := left, restored := s.pw.restored || left &&& 0x01C0 == 0 } } : State).readyUp

/-- The host-owned groups that a write names. Mark: DESIGN CHOICE (log entry 20). -/
def hostGroups (v : Reg) : BitVec 16 := v.setWidth 16 &&& ~~~mpGroups

/-- CFG_COMMIT (R103, R104). -/
def execCfgCommit (v : Reg) (s : State) : Result :=
  .next { s with cfg := { s.cfg with pending := s.cfg.pending ||| hostGroups v } }

/-- CFG_CANCEL (R105). Mark: DESIGN CHOICE (log entry 20). -/
def execCfgCancel (v : Reg) (s : State) : Result :=
  let keep := ~~~hostGroups v
  let s' := s.endRestore (s.cfg.pending &&& hostGroups v)
  .next ({ s' with cfg := { s.cfg with pending := s.cfg.pending &&& keep, byMp := s.cfg.byMp &&& keep } } : State).wakeGroups

/-- CFG_REVERT (R108): the shadows of the groups that are not pending follow the active values again. -/
def execCfgRevert (v : Reg) (s : State) : Result :=
  let groups := hostGroups v &&& ~~~s.cfg.pending
  .next { s with shadow := s.shadow.filter fun e => !(groupOf e.1).any groups.getLsbD }

/-! ### What a guard works on -/

/-- The stamp of the next crossing (R27, R71). -/
def State.nextStamp (s : State) : Stamp := s.tb.stretched.getD (stampSucc s.tb.rate s.tb.stamp)

/-- A value applied in this guard, active from the boundary that ends it (R103). -/
def State.take (s : State) (off v : Nat) : State :=
  { s with cfg := { s.cfg with taken := tset s.cfg.taken off (BitVec.ofNat 32 v) } }

/-- Interrupts of MODE 3 fall due at the start of the guard (R199). -/
def State.moderateCrossing (s : State) : State :=
  ((s.pairs.filter fun e => e.2.modCount != 0 && s.fld (qReg e.1 aQ_MOD) 1 0 == 3).map (·.1)).foldl State.deliver s

/-- The guard before AT_STAMP has come (R87). Mark: DEDUCED (log entry 21), DESIGN CHOICE (log entry 18). -/
def State.guardDue (s : State) (at_ : Option Stamp) : Bool := at_.all fun t => t.bits ≤ s.nextStamp.bits

/-- The MP stages and requests what a command has kept for this guard (R87, R88, R385), unless one of the groups is
already requested (R105). Mark: DEDUCED (log entry 21). -/
def State.stageDue (s : State) (j : Nat) : State :=
  match s.job j with
  | none => s
  | some b =>
    match b.wait with
    | .guardBefore at_ _ =>
      if !s.guardDue at_ then s
      else if b.opcode = opMICROCODE_LOAD then
        if s.groupsBusy 0x4000 then s else s.stageSet j 0x4000 (b.assignWrites b.loadPack) (loadDone b.loadPack)
      else match s.xs.next with
        | none => s
        | some m =>
          let groups := s.manifestGroups m
          if s.groupsBusy groups then s
          else s.stageSet j groups (if groups.getLsbD 0 then [(aXS_RATE, m.rate)] else []) (done [])
    | _ => s

/-- The jobs that wait for their guard. -/
def State.guardJobs (s : State) : List Nat :=
  s.jobsWhere fun b => match b.wait with
    | .guardBefore _ _ => true
    | _ => false

/-- The jobs whose set is `set`. -/
def State.setJobs (s : State) (set : BitVec 16) : List Nat :=
  s.jobsWhere fun b => match b.wait with
    | .applied g => (g &&& set) != 0
    | _ => false

/-! ### A refused set (R106, R107) -/

/-- A command whose set was refused completes CONFIG_INCONSISTENT; a load leaves its clusters as they were (R389). -/
def State.refuseJob (s : State) (j : Nat) : State :=
  match s.job j with
  | none => s
  | some b =>
    if b.opcode = opMICROCODE_LOAD then (s.undoLoad b).endJob j (loadFailed 9 stCONFIG_INCONSISTENT vPass)
    else s.failJob j stCONFIG_INCONSISTENT

/-- Refuse a set: shadows and active values stay. -/
def State.refuseSet (s : State) (set : BitVec 16) (g code off : Nat) : State :=
  let s := (s.setJobs set).foldl State.refuseJob s
  let xs := if set.getLsbD 2 then { s.xs with next := none, activation := none, loaded := s.xs.loaded.or s.xs.next } else s.xs
  let info := 256 * g + code
  let s : State := { s with
    xs := xs
    cfg := { s.cfg with
      pending := s.cfg.pending &&& ~~~set, byMp := s.cfg.byMp &&& ~~~set, refused := s.cfg.refused ||| set
      failInfo := info, failAddr := off
      shareFault := if set.getLsbD 8 then none else s.cfg.shareFault } }
  (s.endRestore set).postEvent 0 0x0100 none info off

/-! ### An applied set -/

/-- The staged values that a set makes active. XS_RATE waits for its second (R59), and a set never touches a tenant's
pair (R157). -/
def State.takenOf (s : State) (set : BitVec 16) : List (Nat × Nat) :=
  let ours := fun (o : Nat) => (queueOfOff o).all fun x => (s.pair x.1).owner == 0
  ((s.shadow.map (·.1)).filter fun o => o != aXS_RATE && ours o && (groupOf o).any set.getLsbD && s.changes o).map
    fun o => (o, s.shadowReg o)

/-- TIMEBASE: a new rate waits for the next TAI second (R59). -/
def State.applyRate (s : State) : State :=
  let rate := s.shadowReg aXS_RATE
  { s with tb := { s.tb with pendingRate := if rate = s.reg aXS_RATE then none else some rate } }

/-- MANIFEST: the manifest is active at once, or with its rate (R88, R89). -/
def State.applyManifest (s : State) (set : BitVec 16) : State :=
  match s.xs.next with
  | none => s
  | some m =>
    if set.getLsbD 0 ∧ s.tb.pendingRate.isSome then { s with xs := { s.xs with atRate := true } } else s.activate m

/-- A pair stops being enabled, in its Q_CTL as well. -/
def State.turnOff (s : State) (q : Nat) : State :=
  (s.take (qReg q aQ_CTL) (setBits (s.reg (qReg q aQ_CTL)) 0 0 0)).disablePair q

/-- QUEUE: pairs whose ENABLE changes. -/
def State.applyQueue (s : State) (set : BitVec 16) : State :=
  (s.stagedPairs queueRegs).foldl (fun s q =>
    let on := bitAt (s.proposed set (qReg q aQ_CTL)) 0
    if on ∧ !(s.pair q).enabled then s.onPair q fun p => { p with enabling := true }
    else if !on ∧ (s.pair q).enabled then s.disablePair q
    else s) s

/-- PORT: a lane whose SPEED, FEC or MACSEC changes retrains (R534). Mark: DEDUCED (log entry 25). -/
def State.applyPort (s : State) (w : Nat → Nat) : State :=
  let key := fun (v : Nat) => (bitsAt v 2 0, bitsAt v 6 4)
  { s with tr := { s.tr with up := s.tr.up.filter fun l => key (w (aPT_LANE + 4 * l)) == key (s.reg (aPT_LANE + 4 * l)) } }

/-- INSTANCE, for one tenant: pairs that leave go to instance 0 and pairs that come arrive disabled (R545, R550). -/
def State.applyMap (s : State) (w : Nat → Nat) (n : Nat) : State :=
  let old := s.mapOf s.reg n
  let new := s.mapOf w n
  let gone := old.filter fun e => !(new.any fun x => x.2 == e.2)
  let s := gone.foldl (fun (s : State) (e : Nat × Nat) => (s.resetPair e.2).setPair e.2 {}) s
  new.foldl (fun (s : State) (e : Nat × Nat) =>
    if old.any fun x => x.2 == e.2 then s.onPair e.2 fun p => { p with loc := e.1 }
    else (s.resetPair e.2).setPair e.2 { owner := n, loc := e.1 }) s

/-- An instance comes to exist, with a fresh context-wrap key (R559). Mark: DEDUCED (log entry 25). -/
def State.createInstance (s : State) (n : Nat) : State :=
  let d := s.drawBytes 32
  let s := d.2.setInst n { state := .active, gen := 1, wrapKey := d.1, zeroing := (s.inst n).zeroing }
  s.writeN6 { s.n6 with insts := (s.n6.insts.erase n) ++ [n] }

/-- RNG (R499): a source whose bit is cleared is DISABLED, one whose bit is set again starts up. -/
def State.applySource (s : State) (en i : Nat) : State :=
  let x := s.source i
  let was := bitAt (s.fld aRNG_CTL 3 0) i
  if was ∧ !bitAt en i ∧ x.state ≠ .off then
    let s := s.setSource i { state := .disabled }
    (if x.state = .active then s.switchSource i 4 else s).checkLost
  else if !was ∧ bitAt en i ∧ x.state = .disabled then s.setSource i { state := .startup }
  else s

/-- No cluster of a class is ready: its waiting jobs complete NOT_READY (R629). Mark: DESIGN CHOICE (log entry 20). -/
def State.failWaiting (s : State) (cls : Nat) : State :=
  if (List.range (classSize cls)).any fun i => s.ready (engReadyBit cls i) then s
  else (s.jobsWhere fun b => b.waitsFor cls).foldl (fun s j => (s.failJob j stNOT_READY).finish j) s

/-- POWER, for one domain whose bit is cleared (R629). -/
def State.domainOff (s : State) (d : Nat) : State :=
  let s := (domainBits d).foldl (fun s b => s.setReady b false) s
  let classes := ((domainEngines d).map (·.1)).dedup
  if 5 ≤ d ∧ d ≤ 13 then classes.foldl State.failWaiting (s.setDomain d .draining)
  else
    let s := ((domainEngines d).filter fun e => e.1 == 7).foldl (fun s e => s.dropFrames e.2) s
    let s := if d = 23 then { s with tr := { s.tr with
        cages := (s.tr.cages.filter fun e => e.2.fault).map fun e => (e.1, { fault := true })
        up := [] } } else s
    (s.clearDomain d).setDomain d .off

/-- POWER, for one domain whose bit is set (R630); one that still drains stays on. Mark: DEDUCED (log entry 25). -/
def State.domainOn (s : State) (d : Nat) : State :=
  match s.domain d with
  | .off => s.setDomain d .powering
  | .draining => (domainBits d).foldl (fun s b => if s.bitDue b then s.setReady b true else s) (s.setDomain d .on)
  | _ => s

/-- POWER (R629, R630, R636, R651): a domain whose bit is set and which is off powers on. -/
def State.applyPower (s : State) (w : Nat → Nat) : State :=
  let was := s.reg aPWR_CTL
  let s' := (List.range 24).foldl (fun s d =>
    if bitAt was d ∧ !bitAt (w aPWR_CTL) d then s.domainOff d
    else if bitAt (w aPWR_CTL) d ∧ (!bitAt was d ∨ s.domain d = .off) then s.domainOn d else s) s
  (List.range 64).foldl (fun t c =>
    if cageOn w c = cageOn s.reg c then t else t.setCage c { powered := cageOn w c && s'.domain 23 == .on }) s'

/-- An instance that N6 holds comes up ACTIVE with its pairs, generation 1 and a fresh context-wrap key (R544, R408). -/
def State.restoreInstance (s : State) (w : Nat → Nat) (n : Nat) : State :=
  let d := s.drawBytes 32
  (d.2.setInst n { state := .active, gen := 1, wrapKey := d.1 }).applyMap w n

/-- INSTANCE, while it is restored (R544, R636): each instance of N6 stands again. -/
def State.restoreInstances (s : State) (w : Nat → Nat) : State :=
  if s.pw.restoring.getLsbD 8 then s.n6.insts.foldl (fun s n => s.restoreInstance w n) s else s

/-- What one group does in the guard that applies it, beyond its values. -/
def State.applyGroup (s : State) (set : BitVec 16) (w : Nat → Nat) (g : Nat) : State :=
  match g with
  | 0 => s.applyRate
  | 2 => s.applyManifest set
  | 4 => s.applyQueue set
  | 6 => s.applyPort w
  | 8 => s.restoreInstances w
  | 11 => (List.range 4).foldl (fun s i => s.applySource (bitsAt (w aRNG_CTL) 3 0) i) s
  | 15 => s.applyPower w
  | _ => s

/-- What an applied set does for the command it was staged for, and the command's end (R87, R385, R545). An activation
that waits for its second ends then. -/
def State.applyJob (s : State) (w : Nat → Nat) (j : Nat) : State :=
  match s.job j with
  | none => s
  | some b =>
    let e := b.after.getD (done [])
    let n := b.target
    if b.opcode = opMICROCODE_LOAD then
      (((clustersIn b.loadMask).foldl State.activatePack s).recordLoad b).endJob j e
    else if b.opcode = opINSTANCE_CREATE then ((s.applyMap w n).createInstance n).endJob j e
    else if b.opcode = opINSTANCE_SHARE_SET then
      let s := s.applyMap w n
      (s.setInst n { (s.inst n) with bumpGen := true }).endJob j e
    else if b.opcode = opMANIFEST_ACTIVATE then
      if s.xs.atRate then s.setJob j { b with wait := .applied 0 }
      else s.endJob j (done [⟨0x0115, leBytes s.nextStamp.bits 8⟩])
    else s.endJob j e

/-- The groups whose values region N6 holds (R55). -/
abbrev n6Groups : BitVec 16 := 0x03C8

/-- Apply a set (R103): its values are taken, its groups act, and its commands end. -/
def State.applySet (s : State) (set : BitVec 16) : State :=
  let w := s.proposed set
  let taken := s.takenOf set
  let jobs := s.setJobs set
  let s := taken.foldl (fun s e => s.take e.1 e.2) s
  let kept := taken.filter fun e => (groupOf e.1).any n6Groups.getLsbD
  let put := fun (t : Tab Reg) (e : Nat × Nat) => tset t e.1 (BitVec.ofNat 32 e.2)
  let s := if kept = [] then s else s.writeN6 { s.n6 with regs := kept.foldl put s.n6.regs }
  let s := (groupsIn set).foldl (fun s g => s.applyGroup set w g) s
  let s := { s with cfg := { s.cfg with
    pending := s.cfg.pending &&& ~~~set, byMp := s.cfg.byMp &&& ~~~set, seq := (s.cfg.seq + 1) % 2 ^ 32
    appliedStamp := s.tb.stamp } }
  jobs.foldl (fun s j => s.applyJob w j) (s.endRestore set)

/-- Check the requested groups together, and apply or refuse all of them (R103, R106). -/
def State.decideSet (s : State) : State :=
  let set := s.cfg.pending
  if set = 0 then s
  else match s.setCheck set with
    | some (g, code, off) => s.refuseSet set g code off
    | none => s.applySet set

/-! ### Requests of tenants (R156, R157) -/

/-- A refused request: the pair's active state stays. Mark: DEDUCED (log entry 24). -/
def State.refuseSetup (s : State) (q : Nat) (f : GroupFail) : State :=
  let before := s.qStatus q
  let s := s.onPair q fun p => { p with setupRefused := true, setupFail := f.1 }
  (s.mirrorIf q before).postEvent (s.pair q).owner 5 (some q) f.1 (dbOffset f.2)

/-- The setup words of a request become active at the boundary. -/
def State.takeSetup (s : State) (q : Nat) (regs : List Nat) : State :=
  let p := s.pair q
  regs.foldl (fun s r => s.take (qReg q r) (p.askedWord r)) s

/-- One request of a tenant's pair. Mark: DEDUCED (log entry 24). -/
def State.decideRequest (s : State) (q : Nat) (r : SetupRequest) : State :=
  let p := s.pair q
  let word := p.askedWord
  match r with
  | .disable => s.turnOff q
  | .interrupt =>
    match s.intCheck q word with
    | some f => s.refuseSetup q f
    | none => s.takeSetup q [aQ_MOD, aQ_VECTOR]
  | .enable =>
    let x := s.inst p.owner
    let others := (s.pairs.filter fun e => e.1 != q && e.2.owner == p.owner && e.2.enabling && e.2.created.isNone).map
      fun e => bitsAt (e.2.askedWord aQ_CTL) 25 24
    if x.state ≠ .active then s.refuseSetup q (4, aQ_CTL)
    else match s.pairCheck q word others with
      | some f => s.refuseSetup q f
      | none => (s.takeSetup q (queueRegs ++ [aQ_MOD, aQ_VECTOR])).onPair q fun p => { p with enabling := true }

/-- The requests of every pair, in order of pairs. -/
def State.decideRequests (s : State) (decide : State → Nat → SetupRequest → State) : State :=
  (s.pairs.filter fun e => e.2.requests != []).foldl (fun s e =>
    let s := s.onPair e.1 fun p => { p with requests := [] }
    e.2.requests.foldl (fun s r => decide s e.1 r) s) s

/-! ### Instances in the guard (R551, R554, R555) -/

/-- A quiescing instance's pairs are disabled, and a resumed one is ACTIVE. -/
def State.instanceRequests (s : State) (n : Nat) : State :=
  let x := s.inst n
  let s := if x.disableAsked then
      (((s.pairsOf n).filter fun q => (s.pair q).enabled).foldl State.turnOff s).setInst n
        { x with disableAsked := false }
    else s
  if x.resumeAsked then
    let s := s.setInst n { (s.inst n) with state := .active, resumeAsked := false, tell := false, disableAsked := false }
    (s.endQuiesce n true (done [genTlv x.gen])).endQuiesce n false (failed stINSTANCE_BUSY)
  else s

/-- The generation of a share that changed, or of an instance that was reset (R551). Mark: DEDUCED (log entry 67). -/
def State.bumpGeneration (s : State) (n : Nat) : State :=
  let x := s.inst n
  if !x.bumpGen then s
  else
    let g := (x.gen + 1) % 2 ^ 32
    (s.setInst n { x with bumpGen := false, gen := g }).postEvent n 0x0250 none g 0

/-! ### The boundary guard (R73, R103) -/

/-- The state comparison failed (R107, R595): the set is refused, nothing is applied, and the fault is FATAL.
No register offends: the lowest pending group is reported, with offset 0.
Mark: DEDUCED (log entry 24), DESIGN CHOICE (log entry 107). -/
def State.guardMismatch (s : State) : State :=
  let s := { s with xs := { s.xs with stateMismatch := true } }
  let set := s.cfg.pending
  let s := if set = 0 then s else s.refuseSet set ((groupsIn set).headD 0) 5 0
  let s := s.decideRequests fun s q _ => s.refuseSetup q (5, aQ_CTL)
  s.wakeGroups.raise { source := 0x400, access := 0, kind := 0x22, master := 4, address := 0, fatal := true }

/-- Everything that a guard with agreeing copies applies. -/
def State.guardApply (s : State) : State :=
  let s := s.guardJobs.foldl State.stageDue s
  let s := s.decideSet.wakeGroups
  let s := s.decideRequests State.decideRequest
  let ns := s.insts.map (·.1)
  let s := ns.foldl State.instanceRequests s
  (ns.foldl State.bumpGeneration s).applyStreams

/-- The guard begins: the last 4,000 ns of the crossing. Mark: DESIGN CHOICE (log entry 18). -/
def State.guardStart (s : State) (agree : Bool) : State :=
  let s := (s.at_ (crossLen s.tb.rate s.tb.stamp.idx - 4000)).moderateCrossing
  let s := { s with tb := { s.tb with inGuard := true } }.takeStep
  if agree then s.guardApply else s.guardMismatch

/-- BOUNDARY_GUARD, with whether the two XS copies agree. Mark: DESIGN CHOICE (log entry 18). -/
def execBoundaryGuard (agree : Bool) (s : State) : Result :=
  if s.tb.inGuard then .next s else .next (s.guardStart agree)

/-! ### The boundary (R27, R59, R65, R103) -/

/-- Time moves to the next crossing. -/
def State.advanceTime (s : State) : State :=
  let t := s.tb
  let next := s.nextStamp
  let len := crossLen t.rate t.stamp.idx + t.extra
  let new := next.idx = 0
  let count := fun (c : PtpClient) =>
    if new ∧ s.mp.state = .run ∧ c.grandmaster ∧ c.servoNs.natAbs ≤ 1000 then { c with goodSeconds := c.goodSeconds + 1 } else c
  { s with tb := { t with
    stamp := next, ns := 0, up := t.up + len, crossings := t.crossings + 1, stretched := none, extra := 0
    inGuard := false, ptpPrimary := count t.ptpPrimary, ptpBackup := count t.ptpBackup
    holdSeconds := if new ∧ t.state = .holdover then t.holdSeconds + 1 else t.holdSeconds } }

/-- What the guard took is active. -/
def State.takeValues (s : State) : State :=
  let taken := s.cfg.taken
  taken.foldl (fun s e => s.setReg e.1 e.2.toNat) { s with cfg := { s.cfg with taken := [] } }

/-- A committed rate begins with crossing 0 of a second, and with it a manifest that waits for it (R59, R88).
Mark: DEDUCED (log entry 19). -/
def State.takeRate (s : State) : State :=
  match s.tb.pendingRate with
  | none => s
  | some r =>
    if s.tb.stamp.idx ≠ 0 then s
    else
      let s := { (s.setReg aXS_RATE r) with tb := { s.tb with rate := r, pendingRate := none } }
      if !s.xs.atRate then s
      else
        let job := s.xs.activation
        let s := match s.xs.next with
          | some m => s.activate m
          | none => s
        match job with
        | some j => s.endJob j (done [⟨0x0115, leBytes s.tb.stamp.bits 8⟩])
        | none => s

/-- What the MP reports of the crossing that has ended (R149). How busy its pairs were is a free value. -/
def State.countMp (s : State) : State :=
  let a := s.drawNat 1001
  let b := a.2.drawNat 1001
  let s := b.2
  let drain := s.mp.drain ++ [s.mp.drainNow]
  { s with mp := { s.mp with util0 := a.1, util1 := b.1, drain := drain.drop (drain.length - 16), drainNow := 0 } }

/-- The start of a crossing. Mark: DEDUCED (log entry 26). -/
def State.startCrossing (s : State) : State :=
  let s := s.advanceTime.takeValues.takeRate
  let s := ((s.pairs.filter fun e => e.2.enabling).map (·.1)).foldl State.enablePair s
  let s := s.onEngines fun e => if e.held then e else { e with oos := false }
  let s : State := { s with xs := { s.xs with runs := [] } }
  let s := s.countMp
  let s := if s.tb.stamp.idx = 0 ∧ s.fld aXS_TB_CTRL 5 5 = 1 then
      s.emit (.ppsPulse s.tb.stamp (s.fld aXS_PPS_WIDTH 19 0))
    else s
  s.castleTick.sendHeartbeats.helloTick

/-- The boundary that ends a crossing. A guard precedes every boundary (R73): where none was reported, the copies
agreed in it. Mark: DEDUCED (log entry 19), DESIGN CHOICE (log entry 18). -/
def State.crossBoundary (s : State) : State :=
  (if s.tb.inGuard then s else s.guardStart true).startCrossing

/-- CROSSING_BOUNDARY. -/
def execCrossingBoundary (s : State) : Result := .next s.crossBoundary

/-- RATE_CHANGE (R59): the boundary at which a committed rate takes over. Mark: DEDUCED (log entry 19). -/
def execRateChange (s : State) : Result :=
  if s.tb.pendingRate.isSome ∧ s.tb.inGuard ∧ s.nextStamp.idx = 0 then .next s.crossBoundary else .next s

end Sys2Proof.Machine
end

