-- ==== Sys2Proof/Machine/Registers.lean ====
section
/-!
DEFINITION. Register accesses (R15 to R20, R43 to R49): what every register of the physical function and of a virtual
function reads as, and what the writes without a row of their own do.
-/

namespace Sys2Proof.Machine

/-- What a read-only register shows, by offset. -/
abbrev View : Type := List (Nat × (State → Nat))

/-- Counters kept for one selector value: their offsets and the selection. -/
abbrev Counters : Type := List Nat × (State → Nat)

/-- A list of Booleans as the bits of a number, bit 0 first. -/
def bitsOf (bs : List Bool) : Nat := (bs.zipIdx.map fun e => b2n e.1 * 2 ^ e.2).sum

/-- Word `k` of some bytes (R12). -/
def wordAt (b : Bytes) (k : Nat) : Nat := leAt b (4 * k) 4

/-- The four words of a view at consecutive offsets. -/
def wordsView (off n : Nat) (f : State → Bytes) : View :=
  (List.range n).map fun k => (off + 4 * k, fun s => wordAt (f s) k)

/-! ### Scheduler, configuration, MP (R149, R673) -/

/-- XS_TB_STATE. -/
def tbStateWord (s : State) : Nat :=
  let t := s.tb
  let src := match t.source with
    | none => 0
    | some .ptpPrimary => 1
    | some .ptpBackup => 1
    | some .ppsIrig => 2
    | some .irigOnly => 3
  let st := match t.state with
    | .free => 0
    | .holdover => 1
    | .locked => 2
  2 ^ 8 * b2n t.step.isSome + 2 ^ 4 * src + 2 ^ 3 * b2n (t.source == some .ptpBackup) + st

/-- The XS_ block. XS_ENGINE_RES reports the engine of XS_ENGINE_SEL. -/
def xsView : View := [
  (aXS_TB_STATE, tbStateWord),
  (aXS_TB_OFFSET, fun s => (s.tb.offset % 2 ^ 32).toNat),
  (aXS_HOLDOVER_TIME, fun s => s.tb.holdSeconds),
  (aXS_STEP_COUNT, fun s => s.tb.stepCount),
  (aXS_NOW_STAMP_LO, fun s => s.stampNow % 2 ^ 32),
  (aXS_MANIFEST_ID, fun s => (s.xs.active.map (·.id)).getD 0),
  (aXS_MANIFEST_ENTRIES, fun s => (s.xs.active.map (·.berths.length)).getD 0),
  (aXS_ENGINE_RES, fun s =>
    reservedUnits ((s.xs.active.map (·.berths)).getD []) (s.fld aXS_ENGINE_SEL 10 8) (s.fld aXS_ENGINE_SEL 5 0)),
  (aXS_CMP_STATUS, fun s => 2 * b2n s.xs.stateMismatch + b2n s.xs.grantMismatch)]

/-- The CFG_ block. -/
def cfgView : View := [
  (aCFG_PENDING, fun s => s.cfg.pending.toNat), (aCFG_REFUSED, fun s => s.cfg.refused.toNat),
  (aCFG_WR_IGNORED, fun s => s.cfg.wrIgnored.toNat), (aCFG_SEQ, fun s => s.cfg.seq),
  (aCFG_APPLIED_STAMP_LO, fun s => s.cfg.appliedStamp.bits % 2 ^ 32),
  (aCFG_FAIL_INFO, fun s => s.cfg.failInfo), (aCFG_FAIL_ADDR, fun s => s.cfg.failAddr)]

/-- Open sessions of a management port. -/
def State.openSessions (s : State) (port : Nat) : Nat := (s.mp.sessions.filter fun x => x.port == port).length

/-- The MP_ block. The busy test is that of a work queue (R139). Mark: DESIGN CHOICE (log entry 10). -/
def mpView : View := [
  (aMP_FW_VERSION, fun s => s.mp.fw.1 * 2 ^ 24 + s.mp.fw.2.1 * 2 ^ 16 + s.mp.fw.2.2),
  (aMP_STATE, fun s =>
    let st := match s.mp.state with
      | .boot => 0
      | .run => 1
      | .restart => 2
      | .halted => 3
    2 ^ 10 * b2n s.mp.pair1Ok + 2 ^ 9 * b2n s.mp.pair0Ok + 2 ^ 8 * b2n (s.mpBusy (.queue 0)) + st),
  (aMP_SLOWQ, fun s => s.mp.hwm * 2 ^ 16 + s.mpOccupancy),
  (aMP_UTIL, fun s => s.mp.util1 * 2 ^ 16 + s.mp.util0),
  (aMP_DRAIN, fun s => s.mpDrain),
  (aMP_RETRY_HINT, fun s => if s.mpBusy (.queue 0) then s.retryAfter else 0),
  (aMP_RESTART_STAMP_LO, fun s => s.mp.restartStamp.bits % 2 ^ 32),
  (aMP_TREDY_VER, fun s => match tget s.versions (s.fld aMP_TREDY_SEL 7 0) with
    | some v => 2 ^ 16 + 2 ^ 8 * v.1 + v.2
    | none => 0),
  (aMP_SESSIONS, fun s => 2 ^ 8 * b2n s.mp.consoleOpen + 2 ^ 4 * s.openSessions 1 + s.openSessions 0)]

/-! ### Engines (R259, R299, R326, R353, R388, R431, R432) -/

/-- The OOS bits of a class's engines `lo` to `lo + n − 1`: out of service themselves, or their cluster is. -/
def State.oosBits (s : State) (cls lo n : Nat) : Nat :=
  bitsOf ((List.range n).map fun i =>
    (s.eng (engKey cls (lo + i))).oos || (clusterOf cls (lo + i)).any fun k => (s.cluster k).oos)

/-- The engines of a class that run a job. -/
def State.busyBits (s : State) (cls n : Nat) : Nat := bitsOf ((List.range n).map fun i => (s.eng (engKey cls i)).busy.isSome)

/-- The state byte of microcoded cluster `k` without its OOS bits: READY, BERTH, a third bit, and MCI1. -/
def State.clusterBits (s : State) (k : Nat) (third : Bool) : Nat :=
  let berth := s.xs.active.any fun m => m.berths.any fun w => w.clusters.contains k
  bitsOf [s.ready (7 + k), berth, third, s.runsMci1 k]

/-- The self-test field of target `t` (R623): the DONE bit and the true and complement bits, which read fail until a
self-test has passed. -/
def State.testBits (s : State) (t : Nat) : Nat := if tgetD s.selftests t 0 = 2 then 2 else 1

/-- A self-test of a target has run. -/
def State.tested (s : State) (t : Nat) : Bool := (tget s.selftests t).isSome

/-- The *_ST register of `n` targets from `t`: DONE above the pairs of bits. -/
def testWord (t n : Nat) (s : State) : Nat :=
  ((List.range n).map fun i => s.testBits (t + i) * 4 ^ i).sum
    + 4 ^ n * bitsOf ((List.range n).map fun i => s.tested (t + i))

/-- A cluster's MEs run rebuild work (R263, R299). -/
def State.rebuilds (s : State) (k : Nat) : Bool :=
  (List.range 4).any fun i => ((s.eng (engKey 2 (4 * k + i))).busy.bind s.job).any fun b => b.task.any fun t => t.node.isSome

/-- The engines of a class that run a regeneration (R307, R336). -/
def State.regenBits (s : State) (cls : Nat) : Nat :=
  bitsOf ((List.range (classSize cls)).map fun i =>
    ((s.eng (engKey cls i)).busy.bind s.job).any fun b => b.wait == .regeneration)

/-- BNEs that run a key generation. -/
def State.keygenBits (s : State) : Nat :=
  bitsOf ((List.range 8).map fun i =>
    ((s.eng (engKey 4 i)).busy.bind s.job).any fun b => b.opcode == opRSA_KEYGEN)

/-- The PE_, ME_, CE_ and BN_ blocks. PE_CAPS.FNDSA follows the active packs. -/
def engineView : View := [
  (aPE_CAPS, fun s => (regReset aPE_CAPS).toNat
    + 4 * b2n ((List.range 4).any fun k => (s.packOf k).has opFNDSA_VERIFY none && (s.cluster k).pack.isSome)),
  (aPE_CLUSTER_STATE, fun s => ((List.range 4).map fun k =>
    (s.clusterBits k (s.pinnedIn k) + 16 * s.oosBits 1 (4 * k) 4) * 2 ^ (8 * k)).sum),
  (aPE_ST, testWord 0 4),
  (aME_CLUSTER_STATE, fun s => ((List.range 2).map fun k =>
    (s.clusterBits (4 + k) (s.rebuilds k) + 16 * s.oosBits 2 (4 * k) 4) * 2 ^ (8 * k)).sum),
  (aME_ST, testWord 4 2),
  (aCE_STATE, fun s => s.clusterBits 6 (s.runsMci1 6) % 8 + 16 * s.regenBits 3
    + 64 * s.oosBits 3 0 2),
  (aCE_P3_USED, fun s => s.p3All), (aCE_P3_ENTRIES, fun s => (s.parts.peers.filter fun e => e.2.slot.isSome).length),
  (aCE_P3_QUOTA, fun s => s.p3Quota (s.fld aCE_P3_SEL 7 0)),
  (aCE_P3_INST_USED, fun s => s.p3Used (s.fld aCE_P3_SEL 7 0)), (aCE_ST, testWord 6 1),
  (aBN_STATE, fun s => s.clusterBits 7 (s.runsMci1 7) % 8
    + 2 ^ 8 * Nat.lor s.keygenBits (s.regenBits 4) + 2 ^ 16 * s.oosBits 4 0 8),
  (aBN_ST, testWord 7 1)]

/-- The stateful key of ME_HBS_SEL. -/
def State.selHbs (s : State) : Option HbsKey := tget s.hbs.keys (s.fld aME_HBS_SEL 11 0)

/-- ME_HBS_ and ME_JRNL_ (R299). -/
def hbsView : View := [
  (aME_HBS_STATE, fun s => hbsStateCode s.selHbs s.hbs.parity + 2 ^ 6 * s.hbs.parity
    + 2 ^ 16 * (s.selHbs.map (·.progress)).getD 0),
  (aME_HBS_NEXT_EVEN, fun s => (s.selHbs.map (·.nextEven)).getD 0),
  (aME_HBS_NEXT_ODD, fun s => (s.selHbs.map (·.nextOdd)).getD 1),
  (aME_HBS_CUR_BLOCK, fun s => (s.selHbs.bind (·.cur)).getD 0),
  (aME_HBS_CUR_LEFT, fun s => 2 ^ 31 * b2n (s.selHbs.bind (·.ahead)).isSome + (s.selHbs.map (·.left)).getD 0),
  (aME_JRNL_STATUS, fun s => 2 ^ 16 * s.hbs.keys.length + s.hbs.w),
  (aME_JRNL_SEQ, fun s => s.hbs.seq), (aME_JRNL_LAPS, fun s => s.hbs.laps),
  (aME_JRNL_CRC_FAIL, fun s => s.hbs.crcFailed), (aME_HBS_KEYS, fun s => s.hbs.keys.length),
  (aME_DISCARD_LO, fun s => s.hbs.discarded % 2 ^ 32)]

/-- LOAD_STATE (R388). -/
def loadCode : LoadState → Nat
  | .empty => 0 | .active => 1 | .draining => 2 | .writing => 3 | .reloading => 4 | .failed => 5

/-- The cluster of MC_SEL. -/
def State.selCluster (s : State) : Cluster := s.cluster (s.fld aMC_SEL 2 0)

/-- The latched LVU fault record as three words (R368, R388). -/
def fltWords (s : State) : Nat × Nat × Nat :=
  match s.mc.flt with
  | none => (0, 0, 0)
  | some f =>
    (2 ^ 31 + 2 ^ 28 * (f.cause % 8) + 2 ^ 24 * (f.engine % 16) + 2 ^ 13 * b2n f.rep + 2 ^ 12 * b2n f.multi
        + f.element % 4096,
      2 ^ 16 * (f.uaddr % 2 ^ 16) + 2 ^ 10 * (f.lop % 64), f.maddr % 2 ^ 18)

/-- The MC_ block. -/
def mcView : View := [
  (aMC_CL_STATE, fun s =>
    let p := s.selCluster.pack
    2 ^ 8 * loadCode s.selCluster.load + 4 * (p.map (·.fmt)).getD 0 + 2 * b2n (p.any (·.base)) + b2n s.selCluster.oos),
  (aMC_CL_PACK, fun s => (s.selCluster.pack.map (·.id)).getD 0),
  (aMC_CL_VER, fun s => (s.selCluster.pack.map (·.version)).getD 0),
  (aMC_CL_SEG, fun s =>
    let z := segmentSize (s.fld aMC_SEL 2 0)
    2 ^ 16 * z.2 + z.1),
  (aMC_CL_USED, fun s => 2 ^ 16 * (s.selCluster.pack.map (·.nw)).getD 0 + (s.selCluster.pack.map (·.uw)).getD 0),
  (aMC_LVU_FLT0, fun s => (fltWords s).1), (aMC_LVU_FLT1, fun s => (fltWords s).2.1),
  (aMC_LVU_FLT2, fun s => (fltWords s).2.2), (aMC_LOAD_MASK, State.loading)]

/-- The SE_ and DE_ blocks. -/
def bulkView : View := [
  (aSE_STATE, fun s => 2 ^ 24 * b2n (s.ready 15) + 2 ^ 16 * s.oosBits 5 0 8 + 2 ^ 8 * s.busyBits 5 8),
  (aSE_ST, testWord 8 1),
  (aDE_STATE, fun s => 2 ^ 24 * b2n (s.ready 16) + 2 ^ 12 * s.oosBits 6 0 12 + s.busyBits 6 12),
  (aDE_CTX_USED, fun s => (s.digests.filter fun e => e.1 / 16384 == s.fld aDE_CTX_SEL 7 0).length),
  (aDE_ST, testWord 9 1)]

/-! ### Key store and random (R473, R498) -/

/-- The slots in a state. -/
def State.slotsIn (s : State) (x : SlotState) : Nat := (s.ks.slots.filter fun e => e.2.state == x).length

/-- The KS_ block. CLAIMABLE: N5 holds no owner-authority key (R459). Mark: DESIGN CHOICE (log entry 16). -/
def ksView : View := [
  (aKS_STATUS, fun s =>
    let roots := match s.ks.roots with
      | .pending => 0
      | .ready => 1
      | .failed => 2
      | .erased => 3
    2 ^ 6 * b2n s.ks.pairChk + 2 ^ 5 * b2n (!s.ks.trust.any fun t => t.role == 1) + 2 ^ 4 * b2n (s.ks.scanOf != []) + roots),
  (aKS_SLOTS_USED, fun s => (s.ks.slots.filter fun e => e.2.counts).length),
  (aKS_SLOTS_STALE, fun s => s.slotsIn .stale), (aKS_SLOTS_RETIRED, fun s => s.slotsIn .retired),
  (aKS_NODES, fun s => s.ks.nodes.length), (aKS_UPD_CNT_LO, fun s => s.ks.updCounter % 2 ^ 32),
  (aKS_UPD_LAST_FAIL, fun s => 2 ^ 8 * s.ks.lastRecord + s.ks.lastFail),
  (aKS_INST_USED, fun s => s.slotsUsed (s.fld aKS_INST_SEL 7 0)),
  (aKS_INST_QUOTA, fun s => s.slotQuota (s.fld aKS_INST_SEL 7 0)), (aKS_ST, testWord 11 1)]
  ++ wordsView aKS_MID 8 fun s => if s.ks.roots = .ready then s.mid else []

/-- RNG_STATUS of a function (R498). -/
def State.rngStatus (s : State) (fn : Nat) : Nat :=
  2 ^ 16 * (s.rngWords fn).length + 2 ^ 3 * b2n (s.drbg 0).stopped + 2 ^ 2 * b2n (s.oldEpoch 0) + 2 * b2n (s.ready 3)
    + b2n (s.rng.err.contains fn)

/-- The RNG_ block. -/
def rngView : View := [
  (aRNG_SRC_STATE, fun s => 2 ^ 24 * s.rngState + s.sourceBits), (aRNG_EPOCH, fun s => s.rng.epoch),
  (aRNG_DRBG_STATE, fun s =>
    let k := s.fld aRNG_DRBG_SEL 3 0
    let d := s.drbg k
    if k > 8 then 0
    else 2 ^ 31 * b2n d.stopped + 2 ^ 30 * b2n d.staged.isSome + 2 ^ 29 * b2n (s.oldEpoch k) + 2 ^ 28 * b2n d.inst + d.left),
  (aRNG_ST, testWord 12 1), (aRNG_STATUS, fun s => s.rngStatus 0)]

/-! ### Ports and streams (R539, R540) -/

/-- PT_STATUS of a lane. The faults of its link, PFC_PAUSED of a lossless lane and SPILL of one that reserves P5 are
free values. -/
def State.laneStatus (s : State) (l : Nat) : Nat :=
  let v := s.reg (aPT_LANE + 4 * l)
  let free := fun (i : Nat) => bitAt (Config.freeNat (s.free + 1)) i
  let on := s.speed l != 0
  bitsOf [s.laneLit l && on, false, (s.cage (l / 8)).present, on && free 0, on && free 1, on && lossless v != 0 && free 2,
    p5Reserve v != 0 && free 3]

/-- The PT_ and ST_ blocks but PT_STATUS. Mark: DESIGN CHOICE (log entry 10). -/
def portView : View := [
  (aPT_HEADROOM, fun s => ((s.lanesOf s.reg).map fun x => onChip x.2).sum),
  (aPT_SPILL_RES, fun s => ((s.lanesOf s.reg).map fun x => p5Reserve x.2).sum),
  (aPT_FIFO_STATE, fun s =>
    let n := s.fifoItems (s.fld aPT_FIFO_SEL 6 0)
    if s.fld aPT_FIFO_SEL 6 0 > 87 then 0 else 2 ^ 8 * n + (128 - n)),
  (aST_CLASS_OCC, fun s =>
    let w := s.reg (aST_CLASS + 4 * s.fld aST_CLASS_SEL 7 0)
    if bitAt w 31 then classUnits w else 0),
  (aST_CLASS_STREAMS, fun s => (s.tr.streams.filter fun e => e.2.cls == s.fld aST_CLASS_SEL 7 0).length),
  (aST_STREAMS, fun s => s.tr.streams.length), (aST_POLICIES, fun s => s.tr.policies.length),
  (aST_CACHE_USED, fun s => s.pinnedCount + s.tr.cache.length), (aST_CACHE_PINNED, State.pinnedCount),
  (aST_ST, testWord 10 1)]

/-! ### Instances (R547, R553, R561) -/

/-- IN_STATE.STATE. -/
def instCode : InstState → Nat
  | .absent => 0 | .active => 1 | .quiescing => 2 | .quiesced => 3 | .resetting => 4

/-- The state of an instance; instance 0 always exists (R544). -/
def State.instState (s : State) (n : Nat) : Nat := if n = 0 then 1 else instCode (s.inst n).state

/-- INST_CAPS_GEN. -/
def State.instGen (s : State) (n : Nat) : Nat := if (s.inst n).state = .absent then 0 else (s.inst n).gen

/-- P7 in use, in MiB rounded up, with pages that await zeroing (R558, R561). -/
def State.scratchUsed (s : State) (n : Nat) : Nat := ceilDiv ((s.inst n).scratch + (s.inst n).zeroing) (2 ^ 20)

/-- The INSTANCE berths an instance owns in the active manifest. -/
def State.berthsOwned (s : State) (n : Nat) : Nat :=
  (((s.xs.active.map (·.berths)).getD []).filter fun w => w.kind == 3 && w.owner == n).length

/-- How many pairs an instance owns. -/
def State.pairCount (s : State) (n : Nat) : Nat :=
  if n = 0 then 2048 - (s.pairs.filter fun e => e.2.owner != 0).length
  else (s.pairs.filter fun e => e.2.owner == n).length

/-- A register of an instance's set, by its offset in instance 0's set. Mark: DEDUCED (log entry 86). -/
def State.instReg (s : State) (n r : Nat) : Nat :=
  let reg := s.reg (inReg n r)
  if r = aIN_SLOT_QUOTA then s.slotQuota n
  else if r = aIN_SCRATCH then s.scratchQuota n
  else if r = aIN_STATE then 2 ^ 8 * s.pairCount n + s.instState n
  else if r = aIN_GEN then s.instGen n
  else if r = aIN_SCRATCH_USED then s.scratchUsed n
  else if r = aIN_BERTHS then s.berthsOwned n
  else if r = aIN_FLR_CNT ∨ r = aIN_RESET_CNT then s.cnt r n
  else reg

/-- The IN_ block outside the sets. -/
def instView : View := [
  (aIN_VF_STATE, fun s => 2 ^ 8 * b2n s.pcie.vfEnable + s.pcie.numVfs),
  (aIN_COUNT, fun s => (s.insts.filter fun e => e.1 != 0 && e.2.state != .absent).length)]

/-- INST_CAPS of virtual function `n` (R553). -/
def State.instCaps (s : State) (n off : Nat) : Nat :=
  if (s.inst n).state = .absent then 0
  else if 0x40 ≤ off ∧ off < 0x60 then
    let k := (off - 0x40) / 4
    bitsOf ((List.range 32).map fun i => s.pairs.any fun e => e.2.owner == n && e.2.loc == 32 * k + i)
  else match off with
    | 0x00 => s.instGen n
    | 0x04 => 2 ^ 8 * s.instState n + n
    | 0x08 => s.pairCount n
    | 0x0C => s.vectors n
    | 0x10 => s.slotQuota n
    | 0x14 => s.slotsUsed n
    | 0x18 => s.scratchQuota n
    | 0x1C => s.scratchUsed n
    | 0x20 => s.reg (inReg n aIN_WEIGHT_A)
    | 0x24 => s.reg (inReg n aIN_WEIGHT_B)
    | 0x28 => s.berthsOwned n
    | 0x2C => s.p3Quota n
    | _ => 0

/-! ### Twin, faults, alarms, power, identity (R587, R624, R625, R645, R646) -/

/-- The TW_ block. -/
def twView : View := [
  (aTW_STATE, State.twState), (aTW_MSEQ_SENT, fun s => s.tw.sent), (aTW_MSEQ_ACKED, fun s => s.tw.acked),
  (aTW_PENDING, State.pairPending),
  (aTW_HB_MISS, fun s => min 255 (s.path .plA).miss + 2 ^ 8 * min 255 (s.path .plB).miss
    + 2 ^ 16 * min 255 (s.path .mgmt).miss),
  (aTW_LAST_CASTLE_LO, fun s => s.tw.lastCastle.bits % 2 ^ 32)] ++ wordsView aTW_PAIR_ID 8 fun s => s.tw.pairId

/-- FC_LIVE (R624). XS is live from a mismatch until its bit of XS_CMP_STATUS is cleared.
Mark: DESIGN CHOICE (log entry 16). -/
def State.fcLive (s : State) : Nat :=
  Nat.lor s.fc.live.toNat (bitsOf [false, false, s.fc.withheld.isSome || s.xs.stateMismatch || s.xs.grantMismatch,
    s.mp.state != .boot && !(s.mp.pair0Ok && s.mp.pair1Ok), false, !s.pw.feedA || !s.pw.feedB])

/-- HC1 (R610). Mark: DEDUCED (log entry 86). -/
def State.hc1 (s : State) : Bool := s.fc.mstate == .service && s.ready 1

/-- HC2 (R610). Mark: DEDUCED (log entry 86). -/
def State.hc2 (s : State) : Bool :=
  s.hc1 && s.al.live == 0 && !(s.engines.any fun e => e.2.held) && !((List.range 8).any s.runsMci1)

/-! ### The front panel and the console (R651, R653) -/

/-- What an indicator of the front panel shows (R651). -/
inductive Led where
  | off | green | amber | red
  deriving DecidableEq, Repr

/-- FEED A and FEED B: the feed is present, and its PSU in regulation. -/
def ledFeed (present inRegulation : Bool) : Led := if !present then .off else if inRegulation then .green else .amber

/-- STATE; the boot is complete once verified firmware runs. Mark: DEDUCED (log entry 112). -/
def State.ledState (s : State) : Led :=
  if s.fc.mstate = .latched ∨ s.al.perm then .red
  else if s.fc.mstate = .fault then .amber
  else if s.mp.state = .boot then .off
  else if s.hc1 && s.hc2 then .green
  else .amber

/-- ROLE; a module without a role shows nothing. Mark: DEDUCED (log entry 112). -/
def State.ledRole (s : State) : Led :=
  if s.tw.state = .diverged then .red else if s.tw.role = 1 then .green else if s.tw.role = 2 then .amber else .off

/-- TIME. -/
def State.ledTime (s : State) : Led :=
  match s.tb.state with
  | .locked => .green
  | .holdover => .amber
  | .free => .red

/-- Cage c: OPTIC_FAULT raised, no module, a configured lane down, or every configured lane up.
Mark: DEDUCED (log entry 112). -/
def State.ledCage (s : State) (c : Nat) : Led :=
  let down := (List.range 8).any fun i => s.speed (8 * c + i) != 0 && !s.laneLit (8 * c + i)
  if (s.cage c).fault then .red else if !(s.cage c).present then .off else if down then .amber else .green

/-- RTS and DTR of the console are asserted from the moment PD22 powers (R653). -/
def State.consoleAsserted (s : State) : Bool := s.domain 22 != .off

/-- FC_OOS_STATE (R624). -/
def oosWord (s : State) : Nat :=
  match engOfSource (s.fld aFC_OOS_SEL 11 0) with
  | none => 0
  | some (c, i) =>
    let e := s.eng (engKey c i)
    2 ^ 9 * b2n e.held + 2 ^ 8 * b2n e.oos + min 255 (e.faultUps.filter fun t => s.now < t + 10 ^ 9).length

/-- The FC_ block. -/
def fcView : View := [
  (aFC_STATUS, fun s =>
    let st := match s.fc.mstate with
      | .service => 0
      | .fault => 1
      | .latched => 2
    2 ^ 28 * min 15 s.recentExits + 2 ^ 8 * s.fc.cause + 2 ^ 4 * b2n s.quietRuns + 2 ^ 3 * b2n s.fc.byAlarm + st),
  (aFC_RECOVERY_CNT, fun s => s.fc.recoveries),
  (aFC_FEC_VALID, fun s =>
    bitsOf ((List.range 3).map fun c => (tget s.fc.captures c).isSome)
      + 16 * bitsOf ((List.range 3).map fun c => s.fc.more.contains c)),
  (aFC_LOG_SEQ_LO, fun s => s.fc.logSeq % 2 ^ 32), (aFC_LOG_RING, fun s => s.fc.ring.length),
  (aFC_LOG_LOST, fun s => s.fc.lost),
  (aFC_OOS_STATE, oosWord),
  (aFC_LIVE, State.fcLive), (aFC_HC, fun s => 2 * b2n s.hc2 + b2n s.hc1)]
  ++ ((List.range 3).map fun c => wordsView (aFC_FEC + 16 * c) 4 fun s => tgetD s.fc.captures c []).flatten

/-- The AL_ block. The die temperature is a free value. Mark: DESIGN CHOICE (log entry 10). -/
def alView : View := [
  (aAL_STATUS, fun s => s.al.live.toNat), (aAL_LATCH, fun s => s.al.latch.toNat),
  (aAL_LAST_LO, fun s => s.al.last.bits % 2 ^ 32),
  (aAL_LAST_INFO, fun s => 2 ^ 8 * (s.al.lastNs % 65536) + 2 ^ 4 * s.al.lastAction + s.al.lastInput),
  (aAL_SUPERCAP, fun s => 2 ^ 8 * b2n s.al.capReady + s.al.charge),
  (aAL_TEMP, fun s => Config.freeNat s.free % 65536), (aAL_PERM, fun s => b2n s.al.perm)]

/-- PWR_STATE of a domain. -/
def domainCode : DomainState → Nat
  | .off => 0 | .powering => 1 | .on => 2 | .draining => 3

/-- The domains `lo` to `lo + n − 1` as PWR_STATE reports them. -/
def State.domainWord (s : State) (lo n : Nat) : Nat :=
  ((List.range n).map fun i => domainCode (s.domain (lo + i)) * 4 ^ i).sum

/-- The size of partition `p` in units of 256 MiB; P7 is what the others leave (R50). Mark: DEDUCED (log entry 82). -/
def State.partUnits (s : State) (p : Nat) : Nat :=
  let u := fun (x : Nat) => s.partBytes x / 2 ^ 28
  if p = 7 then 512 - 35 - (u 2 + u 3 + u 4 + u 6) else u p

/-- The PWR_ and ID_ blocks. Measured powers are free values. Mark: DESIGN CHOICE (log entry 10). -/
def pwView : View := [
  (aPWR_STATE_LO, fun s => s.domainWord 0 16), (aPWR_STATE_HI, fun s => s.domainWord 16 8),
  (aPWR_FEED, fun s => bitsOf [s.pw.feedA, s.pw.feedB, s.pw.psuA, s.pw.psuB]),
  (aPWR_INPUT, fun s => Config.freeNat s.free % 65536), (aPWR_FABRIC, fun s => Config.freeNat (s.free + 1) % 65536),
  (aID_VARIANT, fun s => s.pw.variant), (aID_READY, fun s => s.pw.ready.toNat),
  (aID_READY_LOST, fun s => s.pw.lostBits.toNat),
  (aID_READY_US, fun s => tgetD s.pw.readyUs (s.fld aID_READY_SEL 4 0) 0),
  (aID_BOOT, fun s => 2 ^ 16 * s.pw.boots + 2 ^ 8 * s.pw.imgB + 2 ^ 4 * s.pw.imgA + s.pw.preferred),
  (aID_RESET_CAUSE, fun s => s.pw.resetCause)]
  ++ wordsView aID_SERIAL 4 (fun s => s.pw.serial)
  ++ ([(0, 2), (1, 3), (2, 4), (3, 6), (4, 7)].map fun (e : Nat × Nat) =>
    ((aPWR_PART_NOW + 4 * e.1, fun s => s.partUnits e.2) : Nat × (State → Nat)))

/-! ### Counters -/

/-- Counters by their selector registers; the first row counts for the module as a whole. -/
def counters : List Counters := [
  ([aXS_PREEMPT_CNT, aXS_SPILL_CNT, aXS_TAIL_CNT, aMP_BUSY_CNT, aMP_RESTART_CNT, aPE_EXHAUSTED, aPE_EVT_SPAN,
    aPE_RNG_STARVE, aME_RSV_CNT, aCE_DIGEST_FAIL, aBN_VALUE_REJECT, aMC_LVU_RESTARTS, aMC_LVU_CONTAINED, aMC_SEQ_FAULTS,
    aSE_TAG_FAIL, aSE_LIMIT_REJECT, aSE_ERASE, aDE_VERIFY_FAIL, aDE_RESTORE_REJECT, aKS_UPD_OK, aKS_UPD_REJECT,
    aKS_APPROVALS, aKS_REFUSALS, aKS_INVAL_CNT, aKS_REVOKED_DURING, aKS_N4_FAIL, aKS_ERASE_CNT, aRNG_BLOCKS,
    aRNG_BLOCKS_DISCARDED, aRNG_RCT_FAIL, aRNG_APT_FAIL, aRNG_RETIRE_CNT, aRNG_UNAVAIL_CNT, aRNG_EMPTY_READS,
    aPT_SE_OVERRUN, aST_CACHE_MISS, aST_AUTH_FAIL, aST_REPLAY, aST_DUPLICATE, aST_LEN_MISMATCH, aST_STALE_FAIL,
    aST_FLAGGED, aST_EVT_SIGNED, aST_EVT_UNSIGNED, aTW_CASTLE_CNT, aTW_PROMOTE_CNT, aTW_PATH_LOST_CNT, aTW_AUTH_FAIL,
    aFC_CNT_CORR, aFC_CNT_CONT, aFC_CNT_FATAL, aFC_FRAME_DROP, aFC_SCRUB_SRAM, aFC_SCRUB_DDR, aAL_ERASE_CNT], fun _ => 0),
  ([aPE_JOBS, aPE_ATTEMPTS, aPE_KC_HIT, aPE_KC_MISS, aPE_RETRIED, aPE_CONTAINED, aPE_OWNER_WIPES],
    fun s => s.fld aPE_SEL 3 0),
  ([aPE_HIST_FORK, aPE_HIST_SINGLE], fun s => s.fld aPE_HIST_SEL 7 0),
  ([aME_JOBS, aME_RETRIED, aME_CONTAINED], fun s => s.fld aME_SEL 2 0),
  ([aCE_JOBS, aCE_RETRIED, aCE_CONTAINED, aCE_KG_ATTEMPTS, aCE_REGEN], fun s => s.fld aCE_SEL 0 0),
  ([aBN_JOBS, aBN_RETRIED, aBN_CONTAINED, aBN_OWNER_WIPES, aBN_ABORT_WIPES, aBN_REGEN, aBN_KG_CANDIDATES],
    fun s => s.fld aBN_SEL 2 0),
  ([aMC_MCHK_CNT, aMC_LOAD_CNT], fun s => s.fld aMC_SEL 2 0),
  ([aSE_JOBS, aSE_BYTES_LO, aSE_PREEMPT, aSE_RETRIED, aSE_CONTAINED], fun s => s.fld aSE_SEL 2 0),
  ([aDE_JOBS, aDE_BLOCKS_LO, aDE_PREEMPT, aDE_RETRIED, aDE_CONTAINED], fun s => s.fld aDE_SEL 3 0),
  ([aRNG_DRBG_RESEEDS, aRNG_DRBG_STOPS], fun s => s.fld aRNG_DRBG_SEL 3 0),
  ([aPT_RX_FRAMES, aPT_TX_FRAMES, aPT_RX_ERR, aPT_PFC_TX, aPT_MACSEC_DROP], fun s => s.fld aPT_LANE_SEL 8 0),
  ([aPT_FIFO_DISCARD, aPT_FIFO_RESETS, aPT_FIFO_LOST], fun s => s.fld aPT_FIFO_SEL 6 0)]

/-- A counter's value for its selection. -/
def State.counterAt (s : State) (off : Nat) : Option Nat :=
  (counters.find? fun c => c.1.contains off).map fun c => s.cnt off (c.2 s)

/-! ### 64-bit registers (R19) -/

/-- The registers whose low word latches the high one, with the high word as it stands; XS_NOW_NS is latched with the
crossing stamp. Mark: DEDUCED (log entry 11). -/
def highWords : List (Nat × List (Nat × (State → Nat))) := [
  (aXS_NOW_STAMP_LO, [(aXS_NOW_STAMP_HI, fun s => s.stampNow / 2 ^ 32), (aXS_NOW_NS, fun s => s.tb.ns)]),
  (aCFG_APPLIED_STAMP_LO, [(aCFG_APPLIED_STAMP_HI, fun s => s.cfg.appliedStamp.bits / 2 ^ 32)]),
  (aMP_RESTART_STAMP_LO, [(aMP_RESTART_STAMP_HI, fun s => s.mp.restartStamp.bits / 2 ^ 32)]),
  (aME_DISCARD_LO, [(aME_DISCARD_HI, fun s => s.hbs.discarded / 2 ^ 32)]),
  (aSE_BYTES_LO, [(aSE_BYTES_HI, fun s => s.cnt aSE_BYTES_HI (s.fld aSE_SEL 2 0))]),
  (aDE_BLOCKS_LO, [(aDE_BLOCKS_HI, fun s => s.cnt aDE_BLOCKS_HI (s.fld aDE_SEL 3 0))]),
  (aKS_UPD_CNT_LO, [(aKS_UPD_CNT_HI, fun s => s.ks.updCounter / 2 ^ 32)]),
  (aTW_LAST_CASTLE_LO, [(aTW_LAST_CASTLE_HI, fun s => s.tw.lastCastle.bits / 2 ^ 32)]),
  (aFC_LOG_SEQ_LO, [(aFC_LOG_SEQ_HI, fun s => s.fc.logSeq / 2 ^ 32)]),
  (aAL_LAST_LO, [(aAL_LAST_HI, fun s => s.al.last.bits / 2 ^ 32)])]

/-- The offsets that return latched values. Mark: DEDUCED (log entry 11). -/
def latchedOffs : List Nat := highWords.flatMap fun e => e.2.map (·.1)

/-- Latch what a read of a low word of `highWords` latches. Mark: DEDUCED (log entry 11). -/
def State.latchListed (s : State) (off : Nat) : State :=
  match highWords.find? fun e => e.1 == off with
  | none => s
  | some e => e.2.foldl (fun t h => { t with latch := tput t.latch h.1 (BitVec.ofNat 32 (h.2 s)) 0 }) s

/-! ### Reads (R15 to R18, R44, R46, R48) -/

/-- The view of the block at a 64 KiB window. -/
def viewOf (b : Nat) : View :=
  match b with
  | 0x0 => pwView
  | 0x1 => pwView
  | 0x2 => xsView
  | 0x3 => cfgView
  | 0x4 => fcView
  | 0x5 => alView
  | 0x6 => ksView
  | 0x7 => rngView
  | 0x8 => mpView
  | 0x9 => engineView
  | 0xA => engineView ++ hbsView
  | 0xB => engineView
  | 0xC => engineView
  | 0xD => bulkView
  | 0xE => mcView
  | 0xA0 => portView
  | 0xA1 => portView
  | 0xC0 => twView
  | 0xD0 => instView
  | _ => []

/-- The read-only words of a queue pair (R207). -/
def State.pairReg (s : State) (q r : Nat) : Nat :=
  let p := s.pair q
  if r = aQ_OWNER then 2 ^ 8 * p.loc + p.owner
  else if r = aQ_STATUS then s.qStatus q
  else if r = aQ_SQ_IDX then 2 ^ 16 * p.sqTail + p.sqHead
  else if r = aQ_CQ_IDX then 2 ^ 16 * p.cqTail + p.cqHead
  else if r = aQ_INFLIGHT then s.inflight q
  else if r = aQ_STALL_CNT ∨ r = aQ_REJECT_CNT then s.cnt r q
  else if r = aQ_LOST then (if s.qKind q = 2 then p.copyLost else p.eventsLost)
  else if r = aQ_SEQ then p.copySeq
  else s.reg (qReg q r)

/-- A register of the physical function's BAR0 below the doorbells, or of the blocks above them; 0 where none stands
(R18). The shadow of an RWS register reads at offset + 0x8000 (R16). -/
def State.readReg (s : State) (off : Nat) : Nat :=
  match rowAt off with
  | some w =>
    if w.kind = .wo then 0
    else if latchedOffs.contains off then (tgetD s.latch off 0).toNat
    else match queueOfOff off with
      | some (q, r) => s.pairReg q r
      | none =>
        if aPT_STATUS ≤ off ∧ off < aPT_STATUS + 4 * 512 then s.laneStatus ((off - aPT_STATUS) / 4)
        else if 0xD10000 ≤ off ∧ off < 0xD14080 then
          s.instReg ((off - 0xD10000) / 0x80) (0xD10000 + (off - 0xD10000) % 0x80)
        else match (viewOf (off / 0x10000)).find? fun e => e.1 == off with
          | some e => e.2 s
          | none => (s.counterAt off).getD (s.reg off)
  | none =>
    if off % 0x10000 < 0x8000 then 0
    else if (groupOf (off - 0x8000)).isSome then s.shadowReg (off - 0x8000) else 0

/-- The doorbell block of a pair (R208), as its function sees it: a tenant reads its setup words as written, the physical
function the active values (R155, R156). -/
def State.doorReg (s : State) (fn q off : Nat) : Nat :=
  let p := s.pair q
  match off with
  | 0x00 => p.sqTail
  | 0x04 => p.cqHead
  | 0x08 => p.sqHead
  | 0x0C => p.cqTail
  | 0x10 => s.qStatus q
  | 0x3C => s.pairReg q aQ_LOST
  | _ =>
    match setupReg off with
    | none => 0
    | some r =>
      if fn = 0 then s.reg (qReg q r) else (tgetD p.setup off (BitVec.ofNat 32 (qMask r).2)).toNat

/-- A word of a function's MSI-X table: entry `off / 16`, with every vector masked at first.
Mark: PRESUMED (log entry 85). -/
def State.msixReg (s : State) (fn off : Nat) : Nat :=
  (tgetD s.pcie.msix (msixKey fn (off / 16) (off % 16)) (if off % 16 = 12 then 1 else 0)).toNat

/-- The PBA of a function, 32 vectors a word. -/
def State.pbaReg (s : State) (fn half : Nat) : Nat :=
  bitsOf ((List.range 32).map fun i => s.pcie.pba.contains (fn, 32 * half + i))

/-- The power domains that the units of a BAR0 block lie in (R43, R627). Mark: DEDUCED (log entry 13). -/
def blockDomains (off : Nat) : List Nat :=
  match off / 0x10000 with
  | 0x0 => [] | 0x1 => [] | 0x4 => [] | 0x5 => []
  | 0x6 => [3]
  | 0x7 => [4]
  | 0x8 => [1]
  | 0x9 => [5, 6, 7, 8]
  | 0xA => [9, 10]
  | 0xB => [11]
  | 0xC => [12]
  | 0xD => [13]
  | b => if 0xA0 ≤ b ∧ b < 0xC0 then [18] else if 0xC0 ≤ b ∧ b < 0xD0 then [21] else if b < 0x100 then [2] else [20]

/-- A BAR0 block can be reached (R628): one of its domains is powered, or it is one that always can.
Mark: DEDUCED (log entry 13). -/
def State.blockOn (s : State) (off : Nat) : Bool :=
  blockDomains off == [] || (blockDomains off).any fun d => s.domain d == .on || s.domain d == .draining

/-- What the physical function's BAR0 shows at an offset (R43, R46), before any latching; zero where its block is not powered (R628). RNG_DATA has its own
command. Mark: DEDUCED (log entry 13). -/
def State.livePf (s : State) (off : Nat) : Nat :=
  if !s.blockOn off then 0
  else if 0x200000 ≤ off ∧ off < 0xA00000 then
    let q := (off - 0x200000) / 0x1000
    if (s.pair q).owner = 0 then s.doorReg 0 q (off % 0x1000) else 0
  else if 0x1000000 ≤ off ∧ off < 0x1000400 then s.msixReg 0 (off - 0x1000000)
  else if off = 0x1001000 ∨ off = 0x1001004 then s.pbaReg 0 ((off - 0x1001000) / 4)
  else s.readReg off

/-- What a virtual function's BAR0 shows at an offset (R48, R542), before any latching. Mark: DEDUCED (log entry 14). -/
def State.liveVf (s : State) (fn off : Nat) : Nat :=
  if off < 0x1000 then s.instCaps fn off
  else if off = 0x1004 then
    if s.rngPort fn then s.rngStatus fn else b2n (s.rng.err.contains fn)
  else if 0x4000 ≤ off ∧ off < 0x8000 then
    match s.doorPair fn ((off - 0x4000) / 64) with
    | some q => s.doorReg fn q (off % 64)
    | none => 0
  else if 0x8000 ≤ off ∧ off < 0x8400 then s.msixReg fn (off - 0x8000)
  else if off = 0x9000 ∨ off = 0x9004 then s.pbaReg fn ((off - 0x9000) / 4)
  else 0

/-- A read of the physical function's BAR0: a high word of a written 64-bit register is the one latched (R19).
Mark: DEDUCED (log entries 11, 13). -/
def State.readPf (s : State) (off : Nat) : Nat :=
  if wideHigh 0 off ∧ s.blockOn off then (tgetD s.latch (latchKey 0 off) 0).toNat else s.livePf off

/-- A read of a virtual function's BAR0, as for the physical function. Mark: DEDUCED (log entries 11, 14). -/
def State.readVf (s : State) (fn off : Nat) : Nat :=
  if wideHigh fn off then (tgetD s.latch (latchKey fn off) 0).toNat else s.liveVf fn off

/-- Latch the high words that a read at an offset latches (R19). Mark: DEDUCED (log entry 11). -/
def State.latchHigh (s : State) (fn off : Nat) : State :=
  if wideLow fn off then
    let v := if fn = 0 then s.livePf (off + 4) else s.liveVf fn (off + 4)
    { s with latch := tput s.latch (latchKey fn (off + 4)) (BitVec.ofNat 32 v) 0 }
  else if fn = 0 ∧ s.blockOn off then s.latchListed off
  else s

/-- LATCHING_READ_LO (R19): the word read leaves the module, and a low word latches its high word. A read of RNG_DATA
takes a word from the function's buffer (R495). A disabled virtual
function has no BAR to read (R541). Mark: DEDUCED (log entry 11). -/
def execLatchingReadLo (fn off : Nat) (s : State) : Result :=
  if fn ≠ 0 ∧ !s.vfOn fn then .next s
  else if off = (if fn = 0 then aRNG_DATA else 0x1000) ∧ (fn ≠ 0 ∨ s.blockOn off) then execRngData fn s
  else
    let v := if fn = 0 then s.readPf off else s.readVf fn off
    let s := s.latchHigh fn off
    .next ({ s with free := s.free + 2 }.emit (.readData fn off (BitVec.ofNat 32 v)))

/-! ### Writes (R15 to R17, R105, R108, R155 to R157) -/

/-- The register that a shadow write names, at its own offset or 0x8000 above it (R16). -/
def shadowTarget (off : Nat) : Option Nat :=
  if (groupOf off).isSome then some off
  else if 0x8000 ≤ off % 0x10000 ∧ (groupOf (off - 0x8000)).isSome then some (off - 0x8000)
  else none

/-- Write the shadow of an RWS register, a 64-bit one by R20: ignored for an MP-owned group, for a tenant's pair and for instance 0's share,
and ignored with CFG_WR_IGNORED while the group is pending. Mark: DEDUCED (log entry 15). -/
def State.writeShadow (s : State) (off : Nat) (v : Reg) : State :=
  match groupOf off with
  | none => s
  | some g =>
    let ours := (queueOfOff off).all fun x => (s.pair x.1).owner == 0
    if !ours then s
    else if s.cfg.pending.getLsbD g then
      { s with cfg := { s.cfg with wrIgnored := s.cfg.wrIgnored ||| BitVec.ofNat 16 (2 ^ g) } }
    else if mpGroups.getLsbD g then s
    else
      match queueOfOff off with
      | some (q, r) => s.putWide q r (BitVec.ofNat 32 (writable off v.toNat)) fun t r w => t.setShadow (qReg q r) w.toNat
      | none => s.setShadow off (writable off v.toNat)

/-- SHADOW_WRITE. Mark: DEDUCED (log entry 15). -/
def execShadowWrite (off : Nat) (v : Reg) (s : State) : Result :=
  match shadowTarget off with
  | some r => if s.blockOn r then .next (s.writeShadow r v) else .next s
  | none => .next s

/-- Write 1 to clear, in a status word of the physical function's BAR0. An alarm's bit clears only while its input is
clear (R625). -/
def State.clearBits (s : State) (off : Nat) (v : Reg) : State :=
  let keep := fun (i : Nat) => !v.getLsbD i
  if off = aXS_CMP_STATUS then
    { s with xs := { s.xs with
      grantMismatch := s.xs.grantMismatch && keep 0, stateMismatch := s.xs.stateMismatch && keep 1 } }
  else if off = aCFG_REFUSED then { s with cfg := { s.cfg with refused := s.cfg.refused &&& ~~~(v.setWidth 16) } }
  else if off = aCFG_WR_IGNORED then { s with cfg := { s.cfg with wrIgnored := s.cfg.wrIgnored &&& ~~~(v.setWidth 16) } }
  else if off = aAL_LATCH then
    { s with al := { s.al with latch := s.al.latch &&& (~~~(v.setWidth 11) ||| s.al.live) } }
  else if off = aID_READY_LOST then { s with pw := { s.pw with lostBits := s.pw.lostBits &&& ~~~(v.setWidth 24) } }
  else if off = aFC_FEC_VALID then s.releaseCaptures (v.toNat % 8)
  else if off = aMC_LVU_FLT0 ∧ v.getLsbD 31 then { s with mc := { s.mc with flt := none } }
  else s

/-- Clear the sticky bits of a pair, in both views of its status (R208). -/
def State.clearPair (s : State) (q : Nat) (v : Reg) : State :=
  let before := s.qStatus q
  (s.onPair q fun p => { p with
    dbErr := p.dbErr && !v.getLsbD 16, setupRefused := p.setupRefused && !v.getLsbD 17
    wrIgnored := p.wrIgnored && !v.getLsbD 18 }).mirrorIf q before

/-- Clear ERR of a function's RNG_STATUS (R498). -/
def State.clearErr (s : State) (fn : Nat) (v : Reg) : State :=
  if v.getLsbD 0 then { s with rng := { s.rng with err := s.rng.err.filter (· != fn) } } else s

/-- Write a word of a function's MSI-X table; a vector whose mask clears delivers what is pending (R202).
Mark: DESIGN CHOICE (log entry 16). -/
def State.writeMsix (s : State) (fn off : Nat) (v : Reg) : State :=
  let vec := off / 16
  let w := if off % 16 = 12 then v &&& 1 else if off % 16 = 0 then v &&& 0xFFFFFFFC else v
  let s := { s with pcie := { s.pcie with
    msix := tput s.pcie.msix (msixKey fn vec (off % 16)) w (if off % 16 = 12 then 1 else 0) } }
  if off % 16 = 12 ∧ w = 0 ∧ s.pcie.pba.contains (fn, vec) ∧ !s.inD3 fn then
    { s with pcie := { s.pcie with pba := s.pcie.pba.erase (fn, vec) } }.fireVector fn vec
  else s

/-- A write of a doorbell block's word that is no doorbell and no setup request of its own row: the status word, and the
setup words of a tenant's pair (R155, R156). -/
def State.writeDoor (s : State) (fn q off : Nat) (v : Reg) : State :=
  if off = 0x10 then s.clearPair q v
  else if fn = 0 then s
  else match setupReg off with
    | some r => s.setupWrite q r v
    | none => s

/-- Writes that have rows of their own, at their offsets in the physical function's BAR0.
Mark: DEDUCED (log entry 12). -/
def ownRow (off : Nat) : Option (Reg → State → Result) :=
  if off = aCFG_COMMIT then some execCfgCommit
  else if off = aCFG_CANCEL then some execCfgCancel
  else if off = aCFG_REVERT then some execCfgRevert
  else if off = aXS_TIME_SET_HI then some execXsTimeSet
  else if off = aPE_KC_FLUSH then some execPeKcFlush
  else if off = aMP_SLOWQ_HWM_CLR then some execMpSlowqHwmClr
  else if off = aMP_MGMT_EN then some execMpMgmtEn
  else if off = aRNG_RETEST then some execRngRetest
  else if off = aPT_FIFO_FLUSH then some execPtFifoFlush
  else if off = aFC_RELEASE then some execFcRelease
  else if off = aPWR_RESET then some execPwrReset
  else none

/-- A write of the physical function's BAR0 outside the doorbells and the MSI-X table. CE_P3_QUOTA sets the quota of the
selected instance at once (R313). Mark: DEDUCED (log entry 12), DESIGN CHOICE (log entry 16). -/
def State.writePf (s : State) (off : Nat) (v : Reg) : State :=
  match shadowTarget off with
  | some r => s.writeShadow r v
  | none =>
    match queueOfOff off with
    | some (q, r) => if r = aQ_STATUS then s.clearPair q v else s
    | none =>
      if off = aRNG_STATUS then s.clearErr 0 v
      else if off = aCE_P3_QUOTA then
        let n := s.fld aCE_P3_SEL 7 0
        if n > 128 then s
        else { s with parts := { s.parts with quota := tput s.parts.quota n (writable off v.toNat) 0x1000000 } }
      else match rowAt off with
        | some w => if w.kind = .rw then s.setReg off (writable off v.toNat) else s.clearBits off v
        | none => s

/-- The doorbell word that a write of a doorbell block reaches, by its own rules (R156, R208).
Mark: DEDUCED (log entry 14). -/
def doorWrite (fn pair off : Nat) (v : Reg) (s : State) : Result :=
  let enabled := (s.doorPair fn pair).any fun q => (s.pair q).enabled
  if off = 0x00 then execDbSqTail fn pair v s
  else if off = 0x04 then execDbCqHead fn pair v s
  else if fn ≠ 0 ∧ off = 0x14 then
    if enabled then execTenantDisableRequest fn pair v s else execTenantEnableRequest fn pair v s
  else if fn ≠ 0 ∧ off = 0x30 then execTenantInterruptChange fn pair false v s
  else if fn ≠ 0 ∧ off = 0x34 then execTenantInterruptChange fn pair true v s
  else match s.doorPair fn pair with
    | some q => .next (s.writeDoor fn q off v)
    | none => .next s

/-- REGISTER_WRITE: a write acts by the access code of the register it reaches (R15). A write that has a row of its own
acts as that row; one that reaches no register has no effect (R18), nor has one to a block without power
(R628) or to a virtual function that is not enabled (R541). -/
def execRegisterWrite (fn off : Nat) (v : Reg) (s : State) : Result :=
  if fn = 0 then
    if !s.blockOn off then .next s
    else if 0x200000 ≤ off ∧ off < 0xA00000 then doorWrite 0 ((off - 0x200000) / 0x1000) (off % 0x1000) v s
    else if 0x1000000 ≤ off ∧ off < 0x1000400 then .next (s.writeMsix 0 (off - 0x1000000) v)
    else match ownRow off with
      | some f => f v s
      | none => .next (s.writePf off v)
  else if fn > 128 ∨ !s.vfOn fn then .next s
  else if off = 0x1004 then .next (s.clearErr fn v)
  else if 0x4000 ≤ off ∧ off < 0x8000 then doorWrite fn ((off - 0x4000) / 64) (off % 64) v s
  else if 0x8000 ≤ off ∧ off < 0x8400 then .next (s.writeMsix fn (off - 0x8000) v)
  else .next s

end Sys2Proof.Machine
end

