-- ==== Sys2Proof/Machine/Dispatch.lean ====
section
/-! DEFINITION. The dispatcher: one arm per command, each one direct call of its meaning. -/

namespace Sys2Proof.Machine

/-- The effect of a command on everything but the queue of waiting commands. -/
def exec (i : Instr) (s : State) : Host.Outcome State Fault Refusal :=
  match i with
  | .hello j => Sys2Proof.Machine.execHello j s
  | .caps j => Sys2Proof.Machine.execCaps j s
  | .readyQuery j => Sys2Proof.Machine.execReadyQuery j s
  | .fwStatus j => Sys2Proof.Machine.execFwStatus j s
  | .manifestLoad j => Sys2Proof.Machine.execManifestLoad j s
  | .manifestActivate j => Sys2Proof.Machine.execManifestActivate j s
  | .manifestQuery j => Sys2Proof.Machine.execManifestQuery j s
  | .keyDerive j => Sys2Proof.Machine.execKeyDerive j s
  | .keyInstantiate j => Sys2Proof.Machine.execKeyInstantiate j s
  | .keyReserve j => Sys2Proof.Machine.execKeyReserve j s
  | .keyInvalidate j => Sys2Proof.Machine.execKeyInvalidate j s
  | .keyRelease j => Sys2Proof.Machine.execKeyRelease j s
  | .keyInfo j => Sys2Proof.Machine.execKeyInfo j s
  | .keyUpdateApply j => Sys2Proof.Machine.execKeyUpdateApply j s
  | .challengeRespond j => Sys2Proof.Machine.execChallengeRespond j s
  | .keyImportWrapped j => Sys2Proof.Machine.execKeyImportWrapped j s
  | .keyGenerate j => Sys2Proof.Machine.execKeyGenerate j s
  | .keyAttest j => Sys2Proof.Machine.execKeyAttest j s
  | .keyExportPublic j => Sys2Proof.Machine.execKeyExportPublic j s
  | .mlkemKeygen j => Sys2Proof.Machine.execMlkemKeygen j s
  | .mlkemEncaps j => Sys2Proof.Machine.execMlkemEncaps j s
  | .mlkemDecaps j => Sys2Proof.Machine.execMlkemDecaps j s
  | .mldsaKeygen j => Sys2Proof.Machine.execMldsaKeygen j s
  | .mldsaSign j data => Sys2Proof.Machine.execMldsaSign j data s
  | .mldsaVerify j data => Sys2Proof.Machine.execMldsaVerify j data s
  | .fndsaVerify j data => Sys2Proof.Machine.execFndsaVerify j data s
  | .hybridKemEncaps j => Sys2Proof.Machine.execHybridKemEncaps j s
  | .hybridKemDecaps j => Sys2Proof.Machine.execHybridKemDecaps j s
  | .compositeSign j data => Sys2Proof.Machine.execCompositeSign j data s
  | .compositeVerify j data => Sys2Proof.Machine.execCompositeVerify j data s
  | .slhdsaKeygen j => Sys2Proof.Machine.execSlhdsaKeygen j s
  | .slhdsaSign j data => Sys2Proof.Machine.execSlhdsaSign j data s
  | .slhdsaVerify j data => Sys2Proof.Machine.execSlhdsaVerify j data s
  | .lmsKeygen j => Sys2Proof.Machine.execLmsKeygen j s
  | .lmsSign j data => Sys2Proof.Machine.execLmsSign j data s
  | .lmsVerify j data => Sys2Proof.Machine.execLmsVerify j data s
  | .xmssKeygen j => Sys2Proof.Machine.execXmssKeygen j s
  | .xmssSign j data => Sys2Proof.Machine.execXmssSign j data s
  | .xmssVerify j data => Sys2Proof.Machine.execXmssVerify j data s
  | .hbsReserveStatus j => Sys2Proof.Machine.execHbsReserveStatus j s
  | .mceKeygen j => Sys2Proof.Machine.execMceKeygen j s
  | .mceEncaps j => Sys2Proof.Machine.execMceEncaps j s
  | .mceDecaps j => Sys2Proof.Machine.execMceDecaps j s
  | .hqcKeygen j => Sys2Proof.Machine.execHqcKeygen j s
  | .hqcEncaps j => Sys2Proof.Machine.execHqcEncaps j s
  | .hqcDecaps j => Sys2Proof.Machine.execHqcDecaps j s
  | .bnModexp j => Sys2Proof.Machine.execBnModexp j s
  | .bnModmul j => Sys2Proof.Machine.execBnModmul j s
  | .bnModinv j => Sys2Proof.Machine.execBnModinv j s
  | .rsaKeygen j => Sys2Proof.Machine.execRsaKeygen j s
  | .rsaPrivate j => Sys2Proof.Machine.execRsaPrivate j s
  | .rsaPublic j => Sys2Proof.Machine.execRsaPublic j s
  | .ecKeygen j => Sys2Proof.Machine.execEcKeygen j s
  | .ecdsaSign j data => Sys2Proof.Machine.execEcdsaSign j data s
  | .ecdsaVerify j data => Sys2Proof.Machine.execEcdsaVerify j data s
  | .ecdh j => Sys2Proof.Machine.execEcdh j s
  | .x25519 j => Sys2Proof.Machine.execX25519 j s
  | .x448 j => Sys2Proof.Machine.execX448 j s
  | .eddsaSign j data => Sys2Proof.Machine.execEddsaSign j data s
  | .eddsaVerify j data => Sys2Proof.Machine.execEddsaVerify j data s
  | .aesGcmEnc j data => Sys2Proof.Machine.execAesGcmEnc j data s
  | .aesGcmDec j data => Sys2Proof.Machine.execAesGcmDec j data s
  | .aesCtr j data => Sys2Proof.Machine.execAesCtr j data s
  | .aesCbcEnc j data => Sys2Proof.Machine.execAesCbcEnc j data s
  | .aesCbcDec j data => Sys2Proof.Machine.execAesCbcDec j data s
  | .aesXtsEnc j data => Sys2Proof.Machine.execAesXtsEnc j data s
  | .aesXtsDec j data => Sys2Proof.Machine.execAesXtsDec j data s
  | .aesCmac j data => Sys2Proof.Machine.execAesCmac j data s
  | .aesGmac j data => Sys2Proof.Machine.execAesGmac j data s
  | .digestUpdate j data => Sys2Proof.Machine.execDigestUpdate j data s
  | .digestRelease j => Sys2Proof.Machine.execDigestRelease j s
  | .digestFinal j data => Sys2Proof.Machine.execDigestFinal j data s
  | .macVerify j data => Sys2Proof.Machine.execMacVerify j data s
  | .digestSave j => Sys2Proof.Machine.execDigestSave j s
  | .digestRestore j => Sys2Proof.Machine.execDigestRestore j s
  | .digestOneshot j data => Sys2Proof.Machine.execDigestOneshot j data s
  | .rngGet j => Sys2Proof.Machine.execRngGet j s
  | .rngStatus j => Sys2Proof.Machine.execRngStatus j s
  | .streamCreate j => Sys2Proof.Machine.execStreamCreate j s
  | .streamModify j => Sys2Proof.Machine.execStreamModify j s
  | .streamDelete j => Sys2Proof.Machine.execStreamDelete j s
  | .streamStats j => Sys2Proof.Machine.execStreamStats j s
  | .portConfig j => Sys2Proof.Machine.execPortConfig j s
  | .macsecSaInstall j => Sys2Proof.Machine.execMacsecSaInstall j s
  | .eventSignPolicy j => Sys2Proof.Machine.execEventSignPolicy j s
  | .instanceCreate j => Sys2Proof.Machine.execInstanceCreate j s
  | .instanceShareSet j => Sys2Proof.Machine.execInstanceShareSet j s
  | .instanceQuiesce j => Sys2Proof.Machine.execInstanceQuiesce j s
  | .instanceResume j => Sys2Proof.Machine.execInstanceResume j s
  | .instanceReset j => Sys2Proof.Machine.execInstanceReset j s
  | .instanceRemove j => Sys2Proof.Machine.execInstanceRemove j s
  | .pairEstablish j => Sys2Proof.Machine.execPairEstablish j s
  | .pairDissolve j => Sys2Proof.Machine.execPairDissolve j s
  | .castle j => Sys2Proof.Machine.execCastle j s
  | .pairStatus j => Sys2Proof.Machine.execPairStatus j s
  | .faultLogRead j => Sys2Proof.Machine.execFaultLogRead j s
  | .faultClear j => Sys2Proof.Machine.execFaultClear j s
  | .selftest j => Sys2Proof.Machine.execSelftest j s
  | .microcodeLoad j => Sys2Proof.Machine.execMicrocodeLoad j s
  | .vnop pe o => Sys2Proof.Machine.execVnop pe o s
  | .vld pe o => Sys2Proof.Machine.execVld pe o s
  | .vst pe o => Sys2Proof.Machine.execVst pe o s
  | .vgather pe o => Sys2Proof.Machine.execVgather pe o s
  | .vscatter pe o => Sys2Proof.Machine.execVscatter pe o s
  | .vmov pe o => Sys2Proof.Machine.execVmov pe o s
  | .vbcast pe o => Sys2Proof.Machine.execVbcast pe o s
  | .vrand pe o => Sys2Proof.Machine.execVrand pe o s
  | .vsetq pe o => Sys2Proof.Machine.execVsetq pe o s
  | .vmadd pe o => Sys2Proof.Machine.execVmadd pe o s
  | .vmsub pe o => Sys2Proof.Machine.execVmsub pe o s
  | .vmmul pe o => Sys2Proof.Machine.execVmmul pe o s
  | .vreduce pe o => Sys2Proof.Machine.execVreduce pe o s
  | .vadd pe o => Sys2Proof.Machine.execVadd pe o s
  | .vsub pe o => Sys2Proof.Machine.execVsub pe o s
  | .vsadd pe o => Sys2Proof.Machine.execVsadd pe o s
  | .vssub pe o => Sys2Proof.Machine.execVssub pe o s
  | .vmulhr pe o => Sys2Proof.Machine.execVmulhr pe o s
  | .vshrr pe o => Sys2Proof.Machine.execVshrr pe o s
  | .vshl pe o => Sys2Proof.Machine.execVshl pe o s
  | .vand pe o => Sys2Proof.Machine.execVand pe o s
  | .vor pe o => Sys2Proof.Machine.execVor pe o s
  | .vxor pe o => Sys2Proof.Machine.execVxor pe o s
  | .vcompress pe o => Sys2Proof.Machine.execVcompress pe o s
  | .vdecompress pe o => Sys2Proof.Machine.execVdecompress pe o s
  | .vp2r pe o => Sys2Proof.Machine.execVp2r pe o s
  | .vdecompose pe o => Sys2Proof.Machine.execVdecompose pe o s
  | .vhighbits pe o => Sys2Proof.Machine.execVhighbits pe o s
  | .vcmp pe o => Sys2Proof.Machine.execVcmp pe o s
  | .vsel pe o => Sys2Proof.Machine.execVsel pe o s
  | .vany pe o => Sys2Proof.Machine.execVany pe o s
  | .vperm pe o => Sys2Proof.Machine.execVperm pe o s
  | .vdeint pe o => Sys2Proof.Machine.execVdeint pe o s
  | .uwNext cls eng nptr imm => Sys2Proof.Machine.execUwNext cls eng nptr imm s
  | .uwJump cls eng nptr imm => Sys2Proof.Machine.execUwJump cls eng nptr imm s
  | .uwBranch cls eng nptr imm => Sys2Proof.Machine.execUwBranch cls eng nptr imm s
  | .uwLoop cls eng nptr imm => Sys2Proof.Machine.execUwLoop cls eng nptr imm s
  | .uwCall cls eng nptr imm => Sys2Proof.Machine.execUwCall cls eng nptr imm s
  | .uwReturn cls eng nptr imm => Sys2Proof.Machine.execUwReturn cls eng nptr imm s
  | .uwYield cls eng nptr imm => Sys2Proof.Machine.execUwYield cls eng nptr imm s
  | .uwEnd cls eng nptr imm => Sys2Proof.Machine.execUwEnd cls eng nptr imm s
  | .lvuRestart pe hw => Sys2Proof.Machine.execLvuRestart pe hw s
  | .sequencerGuardExpiry cls eng => Sys2Proof.Machine.execSequencerGuardExpiry cls eng s
  | .mcodeParity cls eng addr => Sys2Proof.Machine.execMcodeParity cls eng addr s
  | .segmentReloadDone k ok => Sys2Proof.Machine.execSegmentReloadDone k ok s
  | .microcodeDrainEnd k ok => Sys2Proof.Machine.execMicrocodeDrainEnd k ok s
  | .startupMicrocodeLoad k => Sys2Proof.Machine.execStartupMicrocodeLoad k s
  | .cfgCommit v => Sys2Proof.Machine.execCfgCommit v s
  | .cfgCancel v => Sys2Proof.Machine.execCfgCancel v s
  | .cfgRevert v => Sys2Proof.Machine.execCfgRevert v s
  | .shadowWrite off v => Sys2Proof.Machine.execShadowWrite off v s
  | .registerWrite fn off v => Sys2Proof.Machine.execRegisterWrite fn off v s
  | .latchingReadLo fn off => Sys2Proof.Machine.execLatchingReadLo fn off s
  | .xsTimeSet v => Sys2Proof.Machine.execXsTimeSet v s
  | .dbSqTail fn pair v => Sys2Proof.Machine.execDbSqTail fn pair v s
  | .dbCqHead fn pair v => Sys2Proof.Machine.execDbCqHead fn pair v s
  | .tenantEnableRequest fn pair v => Sys2Proof.Machine.execTenantEnableRequest fn pair v s
  | .tenantDisableRequest fn pair v => Sys2Proof.Machine.execTenantDisableRequest fn pair v s
  | .tenantInterruptChange fn pair vector v => Sys2Proof.Machine.execTenantInterruptChange fn pair vector v s
  | .peKcFlush v => Sys2Proof.Machine.execPeKcFlush v s
  | .mpSlowqHwmClr v => Sys2Proof.Machine.execMpSlowqHwmClr v s
  | .mpMgmtEn v => Sys2Proof.Machine.execMpMgmtEn v s
  | .rngRetest v => Sys2Proof.Machine.execRngRetest v s
  | .rngData fn => Sys2Proof.Machine.execRngData fn s
  | .ptFifoFlush v => Sys2Proof.Machine.execPtFifoFlush v s
  | .fcFecValid v => Sys2Proof.Machine.execFcFecValid v s
  | .mcLvuFlt0Release v => Sys2Proof.Machine.execMcLvuFlt0Release v s
  | .fcRelease v => Sys2Proof.Machine.execFcRelease v s
  | .pwrReset v => Sys2Proof.Machine.execPwrReset v s
  | .entryFetch q entry params table => Sys2Proof.Machine.execEntryFetch q entry params table s
  | .sqReadFailed q => Sys2Proof.Machine.execSqReadFailed q s
  | .phasePoll q unit => Sys2Proof.Machine.execPhasePoll q unit s
  | .fenceRelease j => Sys2Proof.Machine.execFenceRelease j s
  | .jobGrant cls eng => Sys2Proof.Machine.execJobGrant cls eng s
  | .mpCommandStart => Sys2Proof.Machine.execMpCommandStart s
  | .jobComplete j ns failedChecks dmaFault => Sys2Proof.Machine.execJobComplete j ns failedChecks dmaFault s
  | .deadlineMissed j => Sys2Proof.Machine.execDeadlineMissed j s
  | .rngWaitExpiry j => Sys2Proof.Machine.execRngWaitExpiry j s
  | .reserveWaitExpiry j => Sys2Proof.Machine.execReserveWaitExpiry j s
  | .moderationDue q => Sys2Proof.Machine.execModerationDue q s
  | .linkL0Reached => Sys2Proof.Machine.execLinkL0Reached s
  | .d0Return fn => Sys2Proof.Machine.execD0Return fn s
  | .functionLevelReset n => Sys2Proof.Machine.execFunctionLevelReset n s
  | .vfDisable enable numVfs => Sys2Proof.Machine.execVfDisable enable numVfs s
  | .pcieReset => Sys2Proof.Machine.execPcieReset s
  | .instanceQuiesced n => Sys2Proof.Machine.execInstanceQuiesced n s
  | .quiesceWaitExpiry n => Sys2Proof.Machine.execQuiesceWaitExpiry n s
  | .instanceResetDone n => Sys2Proof.Machine.execInstanceResetDone n s
  | .crossingBoundary => Sys2Proof.Machine.execCrossingBoundary s
  | .pathLossCheck => Sys2Proof.Machine.execPathLossCheck s
  | .boundaryGuard agree => Sys2Proof.Machine.execBoundaryGuard agree s
  | .rateChange => Sys2Proof.Machine.execRateChange s
  | .berthLeadIn berth => Sys2Proof.Machine.execBerthLeadIn berth s
  | .berthStart berth => Sys2Proof.Machine.execBerthStart berth s
  | .berthEnd berth => Sys2Proof.Machine.execBerthEnd berth s
  | .ownerArrivalLent berth j => Sys2Proof.Machine.execOwnerArrivalLent berth j s
  | .preemptionPoint cls eng => Sys2Proof.Machine.execPreemptionPoint cls eng s
  | .quantumExpiry cls eng => Sys2Proof.Machine.execQuantumExpiry cls eng s
  | .forkRoundVerdict j => Sys2Proof.Machine.execForkRoundVerdict j s
  | .manifestRestore => Sys2Proof.Machine.execManifestRestore s
  | .timeSourceQualified src offsetNs tai => Sys2Proof.Machine.execTimeSourceQualified src offsetNs tai s
  | .timeSourceLost src => Sys2Proof.Machine.execTimeSourceLost src s
  | .slewLock offsetNs => Sys2Proof.Machine.execSlewLock offsetNs s
  | .holdoverLimit => Sys2Proof.Machine.execHoldoverLimit s
  | .ptpMessage backup m => Sys2Proof.Machine.execPtpMessage backup m s
  | .ppsPulse gapNs => Sys2Proof.Machine.execPpsPulse gapNs s
  | .irigbFrame valid utc => Sys2Proof.Machine.execIrigbFrame valid utc s
  | .mpWatchdogExpiry pair ns => Sys2Proof.Machine.execMpWatchdogExpiry pair ns s
  | .mpRestartDone => Sys2Proof.Machine.execMpRestartDone s
  | .mpRestartTimeout => Sys2Proof.Machine.execMpRestartTimeout s
  | .mpLockstep pair => Sys2Proof.Machine.execMpLockstep pair s
  | .mgmtSessionOpen client groups suites sigs clientCertOk => Sys2Proof.Machine.execMgmtSessionOpen client groups suites sigs clientCertOk s
  | .mgmtPacket port session packet => Sys2Proof.Machine.execMgmtPacket port session packet s
  | .mgmtSessionIdle port session => Sys2Proof.Machine.execMgmtSessionIdle port session s
  | .mgmtSessionClose port session => Sys2Proof.Machine.execMgmtSessionClose port session s
  | .consoleFrame frame => Sys2Proof.Machine.execConsoleFrame frame s
  | .invalidationScanEnd => Sys2Proof.Machine.execInvalidationScanEnd s
  | .blockReserve node => Sys2Proof.Machine.execBlockReserve node s
  | .journalReadback node ok => Sys2Proof.Machine.execJournalReadback node ok s
  | .treeRebuildDone node => Sys2Proof.Machine.execTreeRebuildDone node s
  | .nextTreeBuilt tree => Sys2Proof.Machine.execNextTreeBuilt tree s
  | .journalStartupScan => Sys2Proof.Machine.execJournalStartupScan s
  | .mceRegenerationDone j => Sys2Proof.Machine.execMceRegenerationDone j s
  | .rsaRegenerationDone j => Sys2Proof.Machine.execRsaRegenerationDone j s
  | .noiseSourceFail src test => Sys2Proof.Machine.execNoiseSourceFail src test s
  | .startupTestPass src => Sys2Proof.Machine.execStartupTestPass src s
  | .autoRetest src => Sys2Proof.Machine.execAutoRetest src s
  | .conditionerBlock => Sys2Proof.Machine.execConditionerBlock s
  | .drbgReseed d => Sys2Proof.Machine.execDrbgReseed d s
  | .expanderSeed cls eng => Sys2Proof.Machine.execExpanderSeed cls eng s
  | .rngFailed => Sys2Proof.Machine.execRngFailed s
  | .rngReady => Sys2Proof.Machine.execRngReady s
  | .rngBufferRefill fn => Sys2Proof.Machine.execRngBufferRefill fn s
  | .streamFrame f => Sys2Proof.Machine.execStreamFrame f s
  | .frameEgress id => Sys2Proof.Machine.execFrameEgress id s
  | .mgmtLaneFrame vid bytes => Sys2Proof.Machine.execMgmtLaneFrame vid bytes s
  | .signedEventRelease ev => Sys2Proof.Machine.execSignedEventRelease ev s
  | .lateLimitExpiry ev => Sys2Proof.Machine.execLateLimitExpiry ev s
  | .fifoPointerMismatch fifo => Sys2Proof.Machine.execFifoPointerMismatch fifo s
  | .laneLinkChange lane up => Sys2Proof.Machine.execLaneLinkChange lane up s
  | .cageOvercurrent cage => Sys2Proof.Machine.execCageOvercurrent cage s
  | .cageModulePresent m => Sys2Proof.Machine.execCageModulePresent m s
  | .pairingFrame path frame => Sys2Proof.Machine.execPairingFrame path frame s
  | .heartbeatReceive path ctr mseq tagOk hb => Sys2Proof.Machine.execHeartbeatReceive path ctr mseq tagOk hb s
  | .pairingHandshake m => Sys2Proof.Machine.execPairingHandshake m s
  | .mirrorRecord mseq kind body => Sys2Proof.Machine.execMirrorRecord mseq kind body s
  | .mirrorAck mseq status => Sys2Proof.Machine.execMirrorAck mseq status s
  | .slotRecordTimeout j => Sys2Proof.Machine.execSlotRecordTimeout j s
  | .promotion => Sys2Proof.Machine.execPromotion s
  | .castleCommit => Sys2Proof.Machine.execCastleCommit s
  | .castleTakeback => Sys2Proof.Machine.execCastleTakeback s
  | .joinWaitExpiry => Sys2Proof.Machine.execJoinWaitExpiry s
  | .pairWaitExpiry => Sys2Proof.Machine.execPairWaitExpiry s
  | .faultMessage m ns => Sys2Proof.Machine.execFaultMessage m ns s
  | .engineReturn source => Sys2Proof.Machine.execEngineReturn source s
  | .xsGrantRecompute agree => Sys2Proof.Machine.execXsGrantRecompute agree s
  | .logRingDrain => Sys2Proof.Machine.execLogRingDrain s
  | .quietPeriodEnd => Sys2Proof.Machine.execQuietPeriodEnd s
  | .alarm input eraseNs => Sys2Proof.Machine.execAlarm input eraseNs s
  | .feedLost feed => Sys2Proof.Machine.execFeedLost feed s
  | .feedReturn => Sys2Proof.Machine.execFeedReturn s
  | .fanChange fan rpm => Sys2Proof.Machine.execFanChange fan rpm s
  | .tempHigh deciC => Sys2Proof.Machine.execTempHigh deciC s
  | .scrubPass ddr => Sys2Proof.Machine.execScrubPass ddr s
  | .domainPowerOn d => Sys2Proof.Machine.execDomainPowerOn d s
  | .domainPowerOff d => Sys2Proof.Machine.execDomainPowerOff d s
  | .powerOnReset => Sys2Proof.Machine.execPowerOnReset s
  | .firmwareVerify sigA sigB => Sys2Proof.Machine.execFirmwareVerify sigA sigB s
  | .configRestore => Sys2Proof.Machine.execConfigRestore s
  | .ddrTrainingDone => Sys2Proof.Machine.execDdrTrainingDone s
  | .supercapReady charge => Sys2Proof.Machine.execSupercapReady charge s
  | .pufReconstruction failedAttempts => Sys2Proof.Machine.execPufReconstruction failedAttempts s
  | .nvStartupScan => Sys2Proof.Machine.execNvStartupScan s
  | .d3hotEntry fn => Sys2Proof.Machine.execD3hotEntry fn s
  | .aspmL1Entry l12 => Sys2Proof.Machine.execAspmL1Entry l12 s
  | .pcieLinkUp => Sys2Proof.Machine.execPcieLinkUp s
  | .pcieLinkDown => Sys2Proof.Machine.execPcieLinkDown s
  | .vfEnable numVfs => Sys2Proof.Machine.execVfEnable numVfs s
  | .ref10mSignalChange present => Sys2Proof.Machine.execRef10mSignalChange present s
  | .noiseSourceSettled src => Sys2Proof.Machine.execNoiseSourceSettled src s
  | .cageModuleUnplugged cage => Sys2Proof.Machine.execCageModuleUnplugged cage s
  | .feedRestored feed => Sys2Proof.Machine.execFeedRestored feed s
  | .railsFall => Sys2Proof.Machine.execRailsFall s
  | .supercapExhausted => Sys2Proof.Machine.execSupercapExhausted s
  | .alarmInputClear input => Sys2Proof.Machine.execAlarmInputClear input s
  | .fatalConditionClear kind => Sys2Proof.Machine.execFatalConditionClear kind s
  | .scratchZeroingDone n => Sys2Proof.Machine.execScratchZeroingDone n s

end Sys2Proof.Machine
end

