-- ==== Sys2Proof/Machine/Step.lean ====
section
/-!
DEFINITION. One step of the block: it takes the command at the front of the queue and runs it on the state with the
queue's rest. With no command waiting the block idles (assumption 3): every event in time has a command of its own.
-/

namespace Sys2Proof.Machine

/-- One step. Mark: DESIGN CHOICE (log entries 3, 91). -/
def step (s : State) : Host.Outcome State Fault Refusal :=
  match s.pending with
  | [] => .next s
  | c :: r => exec c { s with pending := r }

/-- `s` with the command that a word spells put at the front of its queue. The opcode table gives no command any bits,
so no word spells one and `s` is unchanged. Mark: DESIGN CHOICE (log entry 3). -/
def State.withFetchWord (s : State) (nbits w : Nat) : State :=
  match Sys2Proof.decodeTableWord nbits w with
  | some c => { s with pending := c :: s.pending }
  | none => s

end Sys2Proof.Machine
end

