-- ==== Sys2Proof/Safety.lean ====
section
/-!
DEFINITION. What counts as a safe run of the block, and the vocabulary the claims are stated in: what a job that runs is,
how it ends, what a command leaves as it was, and the invariants that every step keeps.
-/

namespace Sys2Proof.Machine

/-! ### Runs -/

/-- A step is safe when it answers a next state: the block neither stops with a fault nor refuses the command. -/
def stepSafe (s : State) : Prop := ∃ t, step s = .next t

/-- The states that a run of any length from `s` passes through. -/
inductive Reaches (s : State) : State → Prop where
  | here : Reaches s s
  | step {t u : State} : Reaches s t → Sys2Proof.Machine.step t = .next u → Reaches s u

/-- A run from `s` is safe when every step of it is. -/
def runSafe (s : State) : Prop := ∀ t, Reaches s t → stepSafe t

/-- The command `c` completes at `s`: it answers a next state, and `P` holds of that state. -/
def answers (c : Instr) (s : State) (P : State → Prop) : Prop := ∃ t, exec c s = .next t ∧ P t

/-! ### Jobs -/

/-- Job `j` is `b`, runs the opcode `code`, and waits for nothing. -/
def runsOp (s : State) (j : Nat) (b : Job) (code : Nat) : Prop :=
  s.job j = some b ∧ b.opcode = code ∧ b.phase = .running ∧ b.wait = .no ∧ b.interrupted = false

/-- Job `j` is `b`, a management command with the opcode `code` that runs or asks again for random values. -/
def runsMp (s : State) (j : Nat) (b : Job) (code : Nat) : Prop :=
  s.job j = some b ∧ b.opcode = code ∧ b.phase = .running ∧ (b.wait = .no ∨ b.wait = .random) ∧ b.interrupted = false

/-- Job `j` is `b`, a command with the opcode `code` that needs no engine and waits in its FIFO before its deadline. -/
def runsDirect (s : State) (j : Nat) (b : Job) (code : Nat) : Prop :=
  s.job j = some b ∧ b.opcode = code ∧ b.phase = .fifo ∧ b.ending = none ∧ s.deadlinePassed b = false

/-- Job `j` has its outcome `e` and waits for its completion to be written. -/
def endedWith (t : State) (j : Nat) (e : Ending) : Prop :=
  ∃ b, t.job j = some b ∧ b.ending = some e ∧ b.phase = .ended ∧ b.wait = .no

/-- Every job but `j` stands as it did. -/
def otherJobsKept (s t : State) (j : Nat) : Prop := ∀ i, i ≠ j → t.job i = s.job i

/-- The registers, their shadows, staged configuration, queue pairs, key store, instances, and what has left the
module are as they were, and so is the queue of commands. -/
def surfaceKept (s t : State) : Prop :=
  t.regs = s.regs ∧ t.shadow = s.shadow ∧ t.cfg = s.cfg ∧ t.tb = s.tb ∧ t.pairs = s.pairs ∧ t.ks = s.ks
    ∧ t.insts = s.insts ∧ t.outbox = s.outbox ∧ t.pending = s.pending

/-- Job `j` ends with `e`, and nothing the host, the fabric or another job sees has changed yet. -/
def endsQuietly (s t : State) (j : Nat) (e : Ending) : Prop :=
  endedWith t j e ∧ otherJobsKept s t j ∧ surfaceKept s t

/-- The work that the command `b` needs of an engine of a class is done, or no engine of the class is ready, so that the
management processor does it itself (log entry 101). -/
def engineOver (s : State) (b : Job) (cls : Nat) : Prop :=
  b.engineStatus = some stDONE ∨ b.engineStatus = none ∧ s.classUp cls = false

/-- The command asks an engine of a class for its work: a job with the opcode joins the waiting ones, and job `j` waits. -/
def asksEngine (s t : State) (j cls opcode : Nat) : Prop :=
  t.nextJob = s.nextJob + 1 ∧ (∃ p, t.job s.nextJob = some p ∧ p.opcode = opcode ∧ p.task.any (·.cls == cls) = true) ∧
  (j ≠ s.nextJob → ∃ b, t.job j = some b ∧ b.wait = .engine) ∧
  ∀ i, i ≠ j → i ≠ s.nextJob → t.job i = s.job i

/-! ### Keys -/

/-- The instance of job `b` may hold one more slot, and one is free in the range its key would take (R472, R573). -/
def keyRoom (s : State) (b : Job) : Prop :=
  s.slotsUsed b.inst < s.slotQuota b.inst ∧
  ∃ n, (if b.mirrors then 0xF000 ≤ n ∧ n < 0x10000 else n < 0xF000) ∧ (s.slot n).state = .free

/-- Between `s` and `t` job `j` made the slot `x`, in a slot that was free, for its instance, under a new generation. It
is over and answers the handle; a mirrored key's job waits first for the partner's acknowledgement (R573). -/
def keyMade (s t : State) (j : Nat) (b : Job) (x : Slot) : Prop :=
  ∃ n, (if b.mirrors then 0xF000 ≤ n ∧ n < 0x10000 else n < 0xF000) ∧ (s.slot n).state = .free ∧
    t.slot n = { x with inst := b.inst, gen := nextGen (s.slot n).gen, filledGen := nextGen (s.slot n).gen } ∧
    let answer := done [⟨0x00B8, leBytes (t.handleOf n) 8⟩]
    if s.mirrorFor b = .send then ∃ b' k, t.job j = some b' ∧ b'.wait = .ack k ∧ b'.after = some answer
    else endedWith t j answer

/-! ### Vector units -/

/-- Element `i` of the operand at register `r`. -/
def lvuElem (l : Lvu) (o : LvuOp) (r i : Nat) : Nat := (l.elems o r).getD i 0

/-- Between `s` and `t` nothing changed but the vector unit of one PE. -/
def onlyLvuChanged (s t : State) (pe : Nat) : Prop :=
  t = { s with lvus := t.lvus } ∧ ∀ p, p ≠ pe → t.lvu p = s.lvu p

/-- Nothing changed but vector registers of one PE, and of these only the operand at register `r`: its element `i` is
`f i` where the predicate governs it, and what it was elsewhere (R360). -/
def lvuWrites (s t : State) (pe : Nat) (o : LvuOp) (r : Nat) (f : Nat → Nat) : Prop :=
  onlyLvuChanged s t pe ∧ t.lvu pe = { s.lvu pe with v := (t.lvu pe).v } ∧
  (∀ i, i < lopN o → lvuElem (t.lvu pe) o r i = if (s.lvu pe).governs o i then f i else lvuElem (s.lvu pe) o r i) ∧
  ∀ k, k < r ∨ r + lopG o ≤ k → (t.lvu pe).vreg k = (s.lvu pe).vreg k

/-- The instructions of the LVU (R361): opcode, command, the register operands that must be valid, and what the variant
must satisfy. -/
def lvuRows : List (Nat × (Nat → LvuOp → Instr) × (LvuOp → List Nat) × (LvuOp → Bool)) :=
  let none_ := fun (_ : LvuOp) => ([] : List Nat)
  let one := fun (o : LvuOp) => [o.vd, o.va]
  let two := fun (o : LvuOp) => [o.vd, o.va, o.vb]
  let pair := fun (o : LvuOp) => [o.vd, o.vd + lopG o, o.va]
  let any := fun (_ : LvuOp) => true
  let aux1 := fun (o : LvuOp) => decide (o.aux ≤ 1)
  [(0x00, .vnop, none_, any), (0x01, .vld, fun o => [o.vd], any), (0x02, .vst, fun o => [o.va], any),
   (0x03, .vgather, fun o => [o.vd, o.vb], countOk), (0x04, .vscatter, fun o => [o.va, o.vb], countOk),
   (0x05, .vmov, one, any), (0x06, .vbcast, fun o => [o.vd], any), (0x07, .vrand, fun o => [o.vd], aux1),
   (0x08, .vsetq, none_, any), (0x09, .vmadd, two, any), (0x0A, .vmsub, two, any), (0x0B, .vmmul, two, aux1),
   (0x0C, .vreduce, one, aux1), (0x10, .vadd, two, any), (0x11, .vsub, two, any), (0x12, .vsadd, two, any)] ++
  [(0x13, .vssub, two, any), (0x14, .vmulhr, two, any), (0x15, .vshrr, one, any), (0x16, .vshl, one, any),
   (0x18, .vand, two, any), (0x19, .vor, two, any), (0x1A, .vxor, two, any), (0x20, .vcompress, one, any),
   (0x21, .vdecompress, one, any), (0x22, .vp2r, pair, any), (0x23, .vdecompose, pair, aux1),
   (0x24, .vhighbits, one, aux1), (0x28, .vcmp, fun o => [o.va, o.vb], fun o => decide (o.aux ≤ 3)),
   (0x29, .vsel, two, any), (0x2A, .vany, none_, any), (0x30, .vperm, one, aux1), (0x31, .vdeint, one, any)]

/-- The faults an instruction meets: its own, or, if it has none, the read errors of its checkers. -/
def lvuFaults (lop : Nat) (o : LvuOp) (l : Lvu) : List (Nat × Nat × Nat) :=
  let e := lvuDo lop [] o l
  if e.faults = [] then hwFaults o.hw (fun _ => 0) else e.faults

/-! ### Invariants -/

/-- Operand memory is in canonical form: addresses strictly rising, and no entry equal to what an
unlisted address reads as. -/
def memCanonical (m : Tab Byte) : Prop := Tab.rising m = true ∧ ∀ e ∈ m, e.2 ≠ 0

/-- The operand memory of every vector unit of a table is canonical. -/
def lvusCanonical (t : Tab Lvu) : Prop := ∀ e ∈ t, memCanonical e.2.mem

/-- Every vector unit's operand memory is canonical. -/
def memoriesCanonical (s : State) : Prop := lvusCanonical s.lvus

/-- The stamp names a crossing of its second (R25, R27). -/
def stampInSecond (s : State) : Prop := s.tb.stamp.idx < s.tb.rate

end Sys2Proof.Machine
end

