-- ==== Sys2Proof/Certificates/Slice0/Obligations.lean ====
section
/-! DEFINITION. The statements about the model, each of them a proposition whose proof is somebody else's work.  A clause
`answers c s P` says that the command `c` completes at `s`, in a next state of which `P` holds. -/

open Sys2Proof Sys2Proof.Machine

/-- For every command c, every rest r of the queue and every state s, the step of s with c :: r as its waiting commands
is exec of c on s with r as its waiting commands. This is the model's own rule for its queue (log entry 3). On an
empty queue a step answers the same state (the model's choice, log entry 3). The opcode table gives its rows no
bits, so no word decodes to a command, and placing a word changes nothing. (00_scope.md) -/
def Obligations.StepRunsTheFrontCommand : Prop :=
  (∀ (c : Instr) (r : List Instr) (s : State), step { s with pending := c :: r } = exec c { s with pending := r }) ∧
  ((∀ s : State, s.pending = [] → step s = .next s) ∧
     (∀ nbits w : Nat, decodeTableWord nbits w = none) ∧
     (∀ (s : State) (nbits w : Nat), s.withFetchWord nbits w = s))

/-- For every command and every state, exec answers a next state; so every step does, and from every state every run is
safe: the block neither stops with a fault nor refuses a command. A command whose occasion does not hold leaves the
state as it is (the model's choice, log entry 5), and a command that is refused is answered by a status.
(00_scope.md) -/
def Obligations.EveryRunIsSafe : Prop :=
  (∀ (c : Instr) (s : State), answers c s fun _ => True) ∧ (∀ s : State, stepSafe s) ∧ (∀ s : State, runSafe s)

/-- For every state s and next state t of it, the waiting commands of t are those of s without the front one, and what
the module has sent in s is an initial part of what it has sent in t. So no command adds or drops another command,
and an output (a completion written, an interrupt fired, a frame or packet sent, a value read) is never changed
afterwards. This is a property of the model as a whole. (00_scope.md) -/
def Obligations.QueueAndOutboxDiscipline : Prop :=
  ∀ s t : State, step s = .next t → t.pending = s.pending.tail ∧ s.outbox <+: t.outbox

/-- From every state in which the operand memory of every vector unit is in canonical form (addresses strictly rising,
no entry equal to what an unlisted address reads as), every step, whatever the command, leads to a state in which it
is. So two states with equal memory contents hold equal data. (R209, R364, R366) -/
def Obligations.EveryStepKeepsMemoriesCanonical : Prop :=
  ∀ s t : State, memoriesCanonical s → step s = .next t → memoriesCanonical t

/-- For every state s and next state t of it, whatever the command was (an update, a resynchronisation from the partner,
a microcode load, a reset, an erasure, a loss of power), the key-update counter of t is at least that of s, and for
every PACK_ID the rollback floor of t is at least that of s. (R382, R457) -/
def Obligations.RollbackProtection : Prop :=
  ∀ s t : State, step s = .next t →
    s.ks.updCounter ≤ t.ks.updCounter ∧ ∀ k, tgetD s.mc.floors k 0 ≤ tgetD t.mc.floors k 0

/-- In the reset state every register and shadow has the value the register maps give, every counter is zero, every slot
is free, no job, pair, session, stream, instance, seed or pending command exists, no ready bit is set, the module is
in SERVICE and UNPAIRED, the timebase is FREE in crossing 0 of second 0, and the operand memory of every vector unit
is in canonical form. That all supply is absent in it is the model's reading (log entry 6). (R67, R440, R587, R604,
R632) -/
def Obligations.ResetState : Prop :=
  let s := State.reset
  (∀ off, s.reg off = (regReset off).toNat ∧ s.shadowReg off = s.reg off) ∧ (∀ off i, s.cnt off i = 0) ∧
  (∀ n, (s.slot n).state = .free) ∧ (∀ j, s.job j = none) ∧ (∀ q, s.pair q = {}) ∧ (∀ n, (s.inst n).state = .absent) ∧
  (∀ i, s.ready i = false) ∧ (∀ d, s.domain d = .off) ∧ (∀ k, s.eng k = {} ∧ s.lvu k = {}) ∧
  s.mp.sessions = [] ∧ s.tr.streams = [] ∧ s.pending = [] ∧ s.outbox = [] ∧ s.fc.mstate = .service ∧
  s.tw.state = .unpaired ∧ s.tw.role = 0 ∧ s.tb.state = .free ∧ s.tb.stamp = ⟨0, 0⟩ ∧ s.reg aXS_RATE = 4800 ∧
  stampInSecond s ∧ memoriesCanonical s

/-- CFG_COMMIT, CFG_CANCEL and CFG_REVERT act on the host-owned groups of their mask: they request them, withdraw them
(where the MP waits with no set and restores nothing), and make the shadows of those not pending follow the active
values. A shadow write in a powered block changes that shadow alone, at either of its offsets (of a queue's 64-bit
register the low word is held, and the high word's write changes both); to a pending group it only sets
CFG_WR_IGNORED, to a group of the MP nothing. A write to a plain read-write register changes it alone; one with a
row of its own acts as that row; one to an unassigned offset or an unpowered block, or to a disabled function,
changes nothing. XS_TIME_SET asks for its step in FREE only. A read answers the register's value, and of a low word
latches the high words that later reads return. A request withdrawn that the MP had made is the host's to withdraw
(log entry 20). (R15, R16, R18, R19, R20, R67, R103, R104, R105, R108, R541, R628) -/
def Obligations.RegistersAndStaging : Prop :=
  ∀ (s : State) (v : Reg),
    let mine := fun (g : Nat) => decide (g < 16) && v.getLsbD g && !mpGroups.getLsbD g
    answers (.cfgCommit v) s (fun t => t = { s with cfg := { s.cfg with pending := t.cfg.pending } } ∧
      ∀ g, g < 16 → t.cfg.pending.getLsbD g = (s.cfg.pending.getLsbD g || mine g)) ∧
    (s.mpSets = [] → s.pw.restoring = 0 → answers (.cfgCancel v) s fun t =>
      t.shadow = s.shadow ∧ t.regs = s.regs ∧ t.cfg.taken = s.cfg.taken ∧
      ∀ g, g < 16 → t.cfg.pending.getLsbD g = (s.cfg.pending.getLsbD g && !mine g)) ∧
    answers (.cfgRevert v) s (fun t => t = { s with shadow := t.shadow } ∧ ∀ o, t.shadowReg o =
      if (groupOf o).any (fun g => mine g && !s.cfg.pending.getLsbD g) then s.reg o else s.shadowReg o) ∧
    (∀ off g, groupOf off = some g → s.blockOn off = true → (∀ x, queueOfOff off = some x → (s.pair x.1).owner = 0) →
      (s.cfg.pending.getLsbD g = true → answers (.shadowWrite off v) s fun t =>
        t = { s with cfg := { s.cfg with wrIgnored := s.cfg.wrIgnored ||| BitVec.ofNat 16 (2 ^ g) } }) ∧
      (s.cfg.pending.getLsbD g = false → mpGroups.getLsbD g = true → answers (.shadowWrite off v) s fun t => t = s) ∧
      (s.cfg.pending.getLsbD g = false → mpGroups.getLsbD g = false →
        ((∀ x, queueOfOff off = some x → x.2 ∉ wideRegs ∧ (x.2 < 4 ∨ tget (s.pair x.1).lowHeld (x.2 - 4) = none)) →
          answers (.shadowWrite off v) s fun t =>
            t = { s with shadow := t.shadow } ∧ t.shadowReg off = writable off v.toNat % 2 ^ 32 ∧
            ∀ o, o ≠ off → t.shadowReg o = s.shadowReg o) ∧
        (∀ q r, queueOfOff off = some (q, r) → r ∈ wideRegs → answers (.shadowWrite off v) s fun t =>
          t = { s with pairs := t.pairs } ∧ tget (t.pair q).lowHeld r = some (BitVec.ofNat 32 (writable off v.toNat)) ∧
          ∀ p, p ≠ q → t.pair p = s.pair p) ∧
        (∀ q r lo, queueOfOff off = some (q, r) → r ∉ wideRegs → 4 ≤ r → tget (s.pair q).lowHeld (r - 4) = some lo →
          answers (.shadowWrite off v) s fun t =>
            t.shadowReg (off - 4) = lo.toNat ∧ t.shadowReg off = writable off v.toNat % 2 ^ 32 ∧ t.regs = s.regs ∧
            ∀ o, o ≠ off → o ≠ off - 4 → t.shadowReg o = s.shadowReg o)) ∧
      (off % 0x10000 < 0x8000 → groupOf (off + 0x8000) = none →
        answers (.shadowWrite (off + 0x8000) v) s fun t => exec (.shadowWrite off v) s = .next t)) ∧
    (∀ off, off < 0x200000 → s.blockOn off = true → shadowTarget off = none → queueOfOff off = none → ownRow off = none →
      (∀ w, rowAt off = some w → w.kind = .rw → off ≠ aRNG_STATUS → off ≠ aCE_P3_QUOTA →
        answers (.registerWrite 0 off v) s fun t => t = { s with regs := t.regs } ∧
          t.reg off = writable off v.toNat % 2 ^ 32 ∧ ∀ o, o ≠ off → t.reg o = s.reg o) ∧
      (rowAt off = none → answers (.registerWrite 0 off v) s fun t => t = s)) ∧
    (∀ off, s.blockOn off = false → answers (.registerWrite 0 off v) s fun t => t = s) ∧
    (∀ fn off, fn ≠ 0 → s.vfOn fn = false → answers (.registerWrite fn off v) s (fun t => t = s) ∧
      answers (.latchingReadLo fn off) s fun t => t = s) ∧
    (∀ e ∈ [(aCFG_COMMIT, Instr.cfgCommit), (aCFG_CANCEL, .cfgCancel), (aCFG_REVERT, .cfgRevert), (aXS_TIME_SET_HI, .xsTimeSet),
        (aPE_KC_FLUSH, .peKcFlush), (aMP_MGMT_EN, .mpMgmtEn), (aPT_FIFO_FLUSH, .ptFifoFlush), (aFC_RELEASE, .fcRelease),
        (aPWR_RESET, .pwrReset)], s.blockOn e.1 = true →
      answers (.registerWrite 0 e.1 v) s fun t => exec (e.2 v) s = .next t) ∧
    answers (.xsTimeSet v) s (fun t => t.reg aXS_TIME_SET_HI = v.toNat % 65536 ∧ t.tb.state = s.tb.state ∧
      (s.tb.state = .free → t.tb.step = some (.second (v.toNat % 65536 * 2 ^ 32 + s.reg aXS_TIME_SET_LO))) ∧
      (s.tb.state ≠ .free → t.tb = s.tb)) ∧
    (∀ off, off ≠ aRNG_DATA → answers (.latchingReadLo 0 off) s fun t =>
      t = { s with outbox := t.outbox, latch := t.latch, free := t.free } ∧
      t.outbox = s.outbox ++ [.readData 0 off (BitVec.ofNat 32 (s.readPf off))]) ∧
    (∀ e ∈ highWords, ∀ h ∈ e.2, s.blockOn e.1 = true → answers (.latchingReadLo 0 e.1) s fun t =>
      ∀ u : State, u.latch = t.latch → u.blockOn h.1 = true → u.readPf h.1 = h.2 s % 2 ^ 32) ∧
    (∀ off, wideLow 0 off = true → answers (.latchingReadLo 0 off) s fun t =>
      ∀ u : State, u.latch = t.latch → u.blockOn (off + 4) = true → u.readPf (off + 4) = s.livePf (off + 4) % 2 ^ 32) ∧
    (∀ fn off, fn ≠ 0 → s.vfOn fn = true → wideLow fn off = true → answers (.latchingReadLo fn off) s fun t =>
      t.outbox = s.outbox ++ [.readData fn off (BitVec.ofNat 32 (s.readVf fn off))] ∧
      ∀ u : State, u.latch = t.latch → u.readVf fn (off + 4) = s.liveVf fn (off + 4) % 2 ^ 32)

/-- At the start of a guard, where no command waits for that guard: the pending groups are refused together, with the
first failing group's code and register, or applied together and counted, their changed registers below the queues
taken; none stays pending, but for a set of the MP that waited for them. When the copies disagree nothing is
applied, the groups are refused, and the mismatch is FATAL. In a guard a second one does nothing. After a boundary
the time is the next crossing's, with no guard; after a reported guard each taken register below the queues reads
its new value, a pending rate holds from crossing 0 of a second and not before, and a contained engine that is not
held is in service. RATE_CHANGE is the boundary at which a pending rate takes over and else nothing. (R59, R71, R73,
R103, R104, R106, R107, R594, R595) -/
def Obligations.GuardsAndBoundaries : Prop :=
  ∀ (s : State),
    let next := s.nextStamp
    let rated := s.tb.pendingRate.isSome = true ∧ next.idx = 0
    let began := fun (t : State) => t.tb.ns = 0 ∧ t.tb.inGuard = false ∧ t.tb.crossings = s.tb.crossings + 1 ∧
      t.tb.stretched = none ∧ t.tb.extra = 0 ∧ t.xs.runs = [] ∧ (∀ k, (t.eng k).oos = true → (t.eng k).held = true)
    let passed := fun (t : State) => began t ∧ t.tb.stamp = next ∧ t.cfg.taken = [] ∧
      (Tab.rising s.cfg.taken = true → ∀ o v, tget s.cfg.taken o = some v → o ≠ aXS_RATE → t.reg o = v.toNat) ∧
      (∀ o, tget s.cfg.taken o = none → o ≠ aXS_RATE → t.reg o = s.reg o) ∧
      (rated → ∀ r, s.tb.pendingRate = some r → t.tb.rate = r ∧ t.tb.pendingRate = none ∧ t.reg aXS_RATE = r % 2 ^ 32) ∧
      (¬rated → t.tb.rate = s.tb.rate ∧ t.tb.pendingRate = s.tb.pendingRate)
    let m := ({ (s.at_ (crossLen s.tb.rate s.tb.stamp.idx - 4000)).moderateCrossing with
      tb := { (s.at_ (crossLen s.tb.rate s.tb.stamp.idx - 4000)).moderateCrossing.tb with inGuard := true } } : State).takeStep
    answers .crossingBoundary s began ∧
    (s.tb.inGuard = true → answers .crossingBoundary s passed) ∧
    (s.tb.inGuard = true → rated → answers .rateChange s passed) ∧
    (s.tb.inGuard = false ∨ ¬rated → answers .rateChange s fun t => t = s) ∧
    (∀ agree, s.tb.inGuard = true → answers (.boundaryGuard agree) s fun t => t = s) ∧
    (s.tb.inGuard = false → s.guardJobs = [] → answers (.boundaryGuard true) s fun t =>
      t.tb.inGuard = true ∧ t.tb.stamp = s.tb.stamp ∧ (s.mpSets = [] → t.cfg.pending = 0) ∧
      (s.cfg.pending = 0 → t.cfg.seq = s.cfg.seq ∧ t.cfg.refused = s.cfg.refused) ∧
      (s.cfg.pending ≠ 0 → match m.setCheck m.cfg.pending with
        | some f => t.cfg.refused = s.cfg.refused ||| s.cfg.pending ∧ t.cfg.failInfo = 256 * f.1 + f.2.1 ∧
            t.cfg.failAddr = f.2.2 ∧ t.cfg.seq = s.cfg.seq
        | none => t.cfg.seq = (s.cfg.seq + 1) % 2 ^ 32 ∧ t.cfg.appliedStamp = s.tb.stamp ∧ t.cfg.refused = s.cfg.refused ∧
            ∀ o g, o < 0x100000 → o ≠ aXS_RATE → groupOf o = some g → s.cfg.pending.getLsbD g = true →
              (tget s.shadow o).isSome → s.changes o = true → tget t.cfg.taken o = some (BitVec.ofNat 32 (s.shadowReg o)))) ∧
    (s.tb.inGuard = false → answers (.boundaryGuard false) s fun t =>
      t.tb.inGuard = true ∧ (s.mpSets = [] → t.cfg.pending = 0) ∧ t.cfg.taken = s.cfg.taken ∧ t.cfg.seq = s.cfg.seq ∧ t.regs = s.regs ∧
      t.cfg.refused = s.cfg.refused ||| s.cfg.pending ∧ t.xs.stateMismatch = true ∧
      (s.fc.mstate = .service → t.fc.mstate = .fault))

/-- For every operand: HELLO with a HOST_ID of no byte or of more than 64 ends MALFORMED, and else ends with the highest
common version and keeps it for the channel, or VERSION_UNSUPPORTED; CAPS, READY_QUERY, FW_STATUS and MANIFEST_QUERY
end with their result TLVs as they fit, and nothing else the host sees changes; MANIFEST_LOAD of an image that
passes the proof makes it the loaded manifest, and of another answers the failing check and loads nothing;
MANIFEST_ACTIVATE of the loaded manifest makes it the next one and waits for the guard before its crossing, and of
any other ends CONFIG_INCONSISTENT; MANIFEST_RESTORE of a stored manifest that passes its proof stages it as the
next one, at once or, where the MP has to wait, behind the staged sets, and one that does not pass is only loaded.
Stated of the manifest commands where no partner has to be told first, and where the results fit. (R75, R76, R77,
R78, R109, R113, R116, R118, R119, R576) -/
def Obligations.SessionAndManifestOperations : Prop :=
  ∀ (s : State) (j : Nat) (b : Job),
    (runsOp s j b opHELLO → answers (.hello j) s fun t => otherJobsKept s t j ∧ surfaceKept s t ∧
      let r := b.val 0x0010
      if b.has 0x0011 ∧ ((b.val 0x0011).length < 1 ∨ (b.val 0x0011).length > 64) then endedWith t j (failed stMALFORMED)
      else match chooseVersion (leAt r 0 1, leAt r 1 1) (leAt r 2 1, leAt r 3 1) with
      | none => endedWith t j (failed stVERSION_UNSUPPORTED)
      | some v => endedWith t j ({ b with major := v.1, minor := v.2 }.doneFit
            [⟨0x0012, leBytes v.1 1 ++ leBytes v.2 1⟩, ⟨0x0013, [2, 2]⟩]) ∧
          ∃ b', t.job j = some b' ∧ b'.major = v.1 ∧ b'.minor = v.2) ∧
    (runsOp s j b opCAPS → answers (.caps j) s fun t => endsQuietly s t j (b.doneFit
      [⟨0x0020, [0x42, 0x31]⟩,
       ⟨0x0021, leBytes s.mp.fw.1 1 ++ leBytes s.mp.fw.2.1 1 ++ leBytes s.mp.fw.2.2 2⟩,
       ⟨0x0022, [2, 2]⟩, ⟨0x0023, s.opcodeMap b⟩, ⟨0x0024, fitBytes s.pw.serial 16⟩,
       ⟨0x0025, asciiBytes s.orderCode 12⟩])) ∧
    (runsOp s j b opREADY_QUERY → answers (.readyQuery j) s fun t => endsQuietly s t j (b.doneFit
      [⟨0x0030, leBytes s.pw.ready.toNat 4⟩, ⟨0x0031, leBytes (mpStateCode s.mp.state) 1⟩])) ∧
    (runsOp s j b opFW_STATUS → answers (.fwStatus j) s fun t => ∃ packs : List Tlv, packs.length = 8 ∧
      (∀ p ∈ packs, p.type = 0x0042) ∧ endsQuietly s t j (b.doneFit
        ([⟨0x0040, leBytes 0x41 1 ++ leBytes s.pw.imgAVersion 4 ++ leBytes s.pw.imgA 1⟩,
          ⟨0x0040, leBytes 0x42 1 ++ leBytes s.pw.imgBVersion 4 ++ leBytes s.pw.imgB 1⟩,
          ⟨0x0041, leBytes s.pw.floor 4⟩] ++ packs))) ∧
    (runsOp s j b opMANIFEST_QUERY → answers (.manifestQuery j) s fun t => ∃ used : List Nat, used.length = 7 ∧
      endsQuietly s t j (b.doneFit (manifestTlvs s.xs.active ++ manifestTlvs s.xs.loaded ++
        [⟨0x0116, (used.map fun n => leBytes n 2).flatten⟩]))) ∧
    (runsMp s j b opMANIFEST_LOAD → b.mirrorStep s.manifestMode = .here → s.activationPending = false →
      answers (.manifestLoad j) s fun t =>
        let m := parseManifest (b.val 0x0110)
        let e := b.doneFit [⟨0x0111, leBytes m.id 4⟩, ⟨0x0112, m.digest⟩]
        if e.status ≠ stDONE then endsQuietly s t j e ∧ t.xs = s.xs
        else match s.proof (b.val 0x0110) with
        | some f => endsQuietly s t j
            { status := proofStatus f.1, results := [⟨0x0113, leBytes f.1 1 ++ leBytes f.2 2⟩] } ∧ t.xs = s.xs
        | none => endsQuietly s t j e ∧ t.xs = { s.xs with loaded := some m }) ∧
    (runsMp s j b opMANIFEST_ACTIVATE → b.mirrorStep s.manifestMode = .here → answers (.manifestActivate j) s fun t =>
      otherJobsKept s t j ∧ surfaceKept s t ∧
      if (b.doneFit [⟨0x0115, zeros 8⟩]).status ≠ stDONE then endedWith t j (failed stLIMIT_EXCEEDED)
      else match s.activatable (leNat (b.val 0x0111)) with
      | none => endedWith t j (failed stCONFIG_INCONSISTENT)
      | some m =>
        t.job j = some { b with wait := .guardBefore (b.atStamp 0x0114) (s.manifestGroups m) } ∧
          t.xs.next = some m ∧ t.xs.activation = some j) ∧
    (∀ m, s.n6.manifest = some m → s.ready 1 = true → s.pw.restored = true → s.ready 21 = true → s.xs.active = none →
      s.activationPending = false → s.mpSets = [] → answers .manifestRestore s fun t => match s.proof m.image with
        | some _ => t.xs = { s.xs with loaded := some m } ∧ t.mpSets = []
        | none =>
          if s.setWaits { manifest := some m } then t.mpSets = [{ manifest := some m }] ∧ t.xs = s.xs ∧ t.cfg = s.cfg
          else t.xs.next = some m ∧ t.cfg.pending = s.cfg.pending ||| s.manifestGroups m ∧ t.mpSets = [])

/-- A running job of MLKEM_KEYGEN, MLKEM_ENCAPS, MLKEM_DECAPS, HYBRID_KEM_ENCAPS or HYBRID_KEM_DECAPS ends, for every
operand, and nothing else the host sees changes. Key generation returns the public key of its seed and binds the
slot to the set; encapsulation under a key whose coefficients are below q returns the ciphertext of a fresh 32-byte
message and gives its shared secret to DEST_SLOT or SHARED_SECRET, and under another key ends INPUT_ENCODING;
decapsulation never fails (implicit rejection); a hybrid ends POINT_INVALID when its classical agreement fails, and
MALFORMED for an unlisted COMBO, and else gives the combined key of both secrets. ML-KEM and the curves are
uninterpreted functions of their standards (log entry 2). (R215, R217, R223, R224, R225, R243, R244, R245) -/
def Obligations.KemOperations : Prop :=
  ∀ (s : State) (j : Nat) (b : Job),
    let pk := b.val 0x0051
    let c := fun (ec : Bool) => if ec then 1 else 0x10
    (runsOp s j b opMLKEM_KEYGEN → answers (.mlkemKeygen j) s fun t =>
      endsQuietly s t j { done [⟨0x0051, mlkemPublic b.pset b.key⟩] with bind := b.pset }) ∧
    (runsOp s j b opMLKEM_ENCAPS → answers (.mlkemEncaps j) s fun t =>
      if ekOk pk then ∃ m : Bytes, m.length = 32 ∧
        endsQuietly s t j (b.sharedEnd [⟨0x0052, (mlkemEncaps b.pset pk m).1⟩] (mlkemEncaps b.pset pk m).2)
      else endsQuietly s t j (failed stINPUT_ENCODING)) ∧
    (runsOp s j b opMLKEM_DECAPS → answers (.mlkemDecaps j) s fun t =>
      endsQuietly s t j (b.sharedEnd [] (mlkemDecaps b.pset b.key (b.val 0x0052)))) ∧
    (runsOp s j b opHYBRID_KEM_ENCAPS → answers (.hybridKemEncaps j) s fun t =>
      match hybridOf b.combo with
      | none => endsQuietly s t j (failed stMALFORMED)
      | some (p, ec, _, _) =>
        let n := ((mlkemSizes p).map (·.1)).getD 0
        let ek := pk.take n
        if ekOk ek then ∃ m d : Bytes, m.length = 32 ∧ d.length = 32 ∧
          let e := ecPrivate (c ec) false d
          match ecAgree (c ec) e (pk.drop n) with
          | none => endsQuietly s t j (failed stPOINT_INVALID)
          | some z => endsQuietly s t j (b.sharedEnd
              [⟨0x0052, (mlkemEncaps p ek m).1 ++ ecPublic (c ec) e⟩]
              (hybridKey b.combo (mlkemEncaps p ek m).2 z (mlkemEncaps p ek m).1 (ecPublic (c ec) e)))
        else endsQuietly s t j (failed stINPUT_ENCODING)) ∧
    (runsOp s j b opHYBRID_KEM_DECAPS → answers (.hybridKemDecaps j) s fun t =>
      match hybridOf b.combo with
      | none => endsQuietly s t j (failed stMALFORMED)
      | some (p, ec, _, _) =>
        let n := ((mlkemSizes p).map (·.2)).getD 0
        let x := (b.val 0x0052).take n
        let y := (b.val 0x0052).drop n
        match ecAgree (c ec) (b.ecKey2 (c ec)) y with
        | none => endsQuietly s t j (failed stPOINT_INVALID)
        | some z => endsQuietly s t j (b.sharedEnd [] (hybridKey b.combo (mlkemDecaps p b.key x) z x y)))

/-- A running job of MLDSA_KEYGEN, MLDSA_VERIFY, FNDSA_VERIFY or COMPOSITE_VERIFY ends for every operand with the public
key or the doubled verdict of the check (COMPOSITE_VERIFY with POINT_INVALID for a classical key that is no point).
MLDSA_SIGN and COMPOSITE_SIGN on one PE draw 32 random bytes (zeros in deterministic mode), and end with the
signature and the attempt count, or SIGN_RETRY_EXHAUSTED with ROUNDS 200 past 200 attempts; in fork mode they issue
round 1 and run on, and each fork-round verdict ends the job with the round that holds the accepted attempt (four
attempts a round), goes on to the next round, or ends it SIGN_RETRY_EXHAUSTED with ROUNDS 50 after round 50. Nothing
else the host sees changes. The signature functions are uninterpreted (log entry 2). (R213, R214, R215, R228, R229,
R230, R231, R232, R248, R522) -/
def Obligations.LatticeSignatures : Prop :=
  ∀ (s : State) (j : Nat) (b : Job) (data : Bytes),
    let ends := fun (c : Instr) (e : Ending) => answers c s fun t => endsQuietly s t j e
    let drawn := fun (P : Job → Prop) => ∃ rnd extra : Bytes, rnd.length = 32 ∧
      (tlvNat b.params 0x0059 0 = 1 → rnd = zeros 32 ∧ extra = []) ∧
      P { b with work := [b.key, b.key2, rnd, extra, (s.signMessage b data).1] }
    let signs := fun (t : State) => drawn fun d =>
      let n := mldsaAttempts d.signSet d.signArgs
      if b.forkEngines = [] then
        endsQuietly s t j (if n ≤ 200 then { done [⟨0x0055, d.signature⟩] with rounds := n }
          else { failed stSIGN_RETRY_EXHAUSTED with rounds := 200 })
      else t.job j = some { d with forkRound := some 1 } ∧ otherJobsKept s t j ∧ surfaceKept s t
    (runsOp s j b opMLDSA_KEYGEN →
      ends (.mldsaKeygen j) { done [⟨0x0051, mldsaPublic b.pset b.key⟩] with bind := b.pset }) ∧
    (runsOp s j b opMLDSA_VERIFY → ends (.mldsaVerify j data) (verdictEnd (Config.standardCheck "ML-DSA.verify" b.pset
      ((if b.handle ≠ 0 then mldsaPublic b.pset b.key else b.val 0x0051) :: mldsaInput b data ++ [b.val 0x0055])))) ∧
    (runsOp s j b opFNDSA_VERIFY → ends (.fndsaVerify j data) (verdictEnd (decide ((b.val 0x0055).length ≥ 42) &&
      Config.standardCheck "FN-DSA.verify" b.pset [b.val 0x0051, b.val 0x0056, data, b.val 0x0055]))) ∧
    (runsOp s j b opCOMPOSITE_VERIFY → ends (.compositeVerify j data)
      (match compositeVerify b.combo (b.val 0x0056) data (b.val 0x0051) (b.val 0x0055) with
      | none => failed stPOINT_INVALID
      | some ok => verdictEnd ok)) ∧
    (runsOp s j b opMLDSA_SIGN → b.forkRound = none → answers (.mldsaSign j data) s signs) ∧
    (runsOp s j b opCOMPOSITE_SIGN → b.forkRound = none → answers (.compositeSign j data) s signs) ∧
    (∀ r, s.job j = some b → b.phase = .running → b.forkRound = some r → answers (.forkRoundVerdict j) s fun t =>
      let n := mldsaAttempts b.signSet b.signArgs
      if n ≤ 4 * r ∨ 50 ≤ r then
        endsQuietly s t j (if n ≤ 4 * r ∧ r ≤ 50 then { done [⟨0x0055, b.signature⟩] with rounds := r }
          else { failed stSIGN_RETRY_EXHAUSTED with rounds := 50 })
      else t.job j = some { b with forkRound := some (r + 1) } ∧ otherJobsKept s t j ∧ surfaceKept s t)

/-- For every operand, a running job of each of these opcodes ends and every other job stands (a key generation where it
is not split into subtree jobs, or once these are over; one whose subtree jobs fail ends with their status). Key
generation returns the public key, and registers a stateful key that was not registered, with pointers 0 and 1 and
the image of a REGISTER record (kind 1) in the journal, or ends LIMIT_EXCEEDED where 512 keys are registered or the
trees do not fit; SLH-DSA signing draws n random bytes unless deterministic; a stateful signature is made with the
leaf that the grant assigned and the randomizer drawn then, and names the leaf, and without a registered key or a
leaf ends NOT_READY; verification answers the doubled verdict; the reserve status reports the key's state. But for
the low-water event that a stateful signature may post, nothing the host sees changes. The signature functions are
uninterpreted (log entry 2). (R261, R262, R270, R271, R272, R274, R289, R290) -/
def Obligations.HashSignatureOperations : Prop :=
  ∀ (s : State) (j : Nat) (b : Job) (data : Bytes),
    let ends := fun (c : Instr) (e : Ending) => answers c s fun t => endsQuietly s t j e
    let z := (slhSizes b.pset).getD (0, 0, 0)
    let whole := fun (known : Bool) => b.engineStatus = some stDONE ∨ b.engineStatus = none ∧ (s.buildMes ≤ 1 ∨ known = true)
    let spoiled := fun (c : Instr) => ∀ st, b.engineStatus = some st → st ≠ stDONE →
      answers c s fun t => t = s.failJob j st
    let known := (tget s.hbs.keys (s.jobNode b)).isSome
    let keygen := fun (c : Instr) (xmss : Bool) => (whole known → answers c s fun t =>
      let v := b.val 0x0060
      let k₀ : HbsKey := { xmss := xmss, params := v, inst := b.inst, height := ((hbsInfo xmss v).map (·.height)).getD 2 }
      if known = false ∧ (s.hbs.keys.length ≥ 512 ∨ s.treesUsed + k₀.treeBytes > s.partBytes 4) then
        endsQuietly s t j (failed stLIMIT_EXCEEDED) ∧ t.hbs = s.hbs
      else endsQuietly s t j (done [⟨0x0051, hbsPublic xmss v b.key⟩]) ∧
        (known = false → ∃ k i, tget t.hbs.keys (s.jobNode b) = some k ∧
          k.xmss = xmss ∧ k.params = v ∧ k.inst = b.inst ∧ k.nextEven = 0 ∧ k.nextOdd = 1 ∧ k.tree = .ready ∧
          tget t.hbs.journal i = some (JRecord.image
            { seq := t.hbs.seq, node := s.jobNode b, kind := 1, nextEven := 0, nextOdd := 1 }))) ∧ spoiled c
    let sign := fun (c : Instr) (xmss : Bool) => answers c s fun t => otherJobsKept s t j ∧
      match s.hbsOf b.handle, b.leaf with
      | some k, some leaf =>
          endedWith t j (done [⟨0x0055, Config.standard (if xmss then "XMSS.sign" else "LMS.sign") 0
            [k.params, hbsExpand xmss k.params b.key, leBytes leaf 8, b.rand, data]
            (((hbsInfo xmss k.params).map (·.sig)).getD 0)⟩, ⟨0x0061, leBytes leaf 8⟩])
      | _, _ => endsQuietly s t j (failed stNOT_READY)
    let verify := fun (c : Instr) (f : String) => ends c
      (verdictEnd (Config.standardCheck f 0 [b.val 0x0051, data, b.val 0x0055]))
    (runsOp s j b opSLHDSA_KEYGEN → spoiled (.slhdsaKeygen j) ∧ (whole false →
      ends (.slhdsaKeygen j) { done [⟨0x0051, slhPublic b.pset b.key⟩] with bind := b.pset })) ∧
    (runsOp s j b opSLHDSA_SIGN → answers (.slhdsaSign j data) s fun t => ∃ r : Bytes,
      (if tlvNat b.params 0x0059 0 = 1 then r = (slhExpand b.pset b.key).drop (2 * z.1) else r.length = z.1) ∧
      endsQuietly s t j (done [⟨0x0055, Config.standard "SLH-DSA.sign" b.pset
        (slhExpand b.pset b.key :: mldsaInput b data ++ [r]) z.2.2⟩])) ∧
    (runsOp s j b opSLHDSA_VERIFY → ends (.slhdsaVerify j data) (verdictEnd (Config.standardCheck "SLH-DSA.verify" b.pset
      ((if b.handle = 0 then b.val 0x0051 else slhPublic b.pset b.key) :: mldsaInput b data ++ [b.val 0x0055])))) ∧
    (runsOp s j b opLMS_KEYGEN → keygen (.lmsKeygen j) false) ∧
    (runsOp s j b opXMSS_KEYGEN → keygen (.xmssKeygen j) true) ∧
    (runsOp s j b opLMS_SIGN → sign (.lmsSign j data) false) ∧
    (runsOp s j b opXMSS_SIGN → sign (.xmssSign j data) true) ∧
    (runsOp s j b opLMS_VERIFY → verify (.lmsVerify j data) "LMS.verify") ∧
    (runsOp s j b opXMSS_VERIFY → verify (.xmssVerify j data) "XMSS.verify") ∧
    (runsOp s j b opHBS_RESERVE_STATUS → answers (.hbsReserveStatus j) s fun t => ∃ h : Nat,
      endsQuietly s t j (done [⟨0x0062, hbsStateBytes (s.hbsOf b.handle) s.hbs.parity h⟩]))

/-- For every state and registered key: when a reservation is due and the module is in SERVICE, the next block of the
module's parity becomes pending, its pointer has advanced by two, and the newest journal record names the node and
both pointers; a read-back of that record that succeeds makes the block usable where no acknowledgement is owed, and
one of any record that fails appends the record again; the end of a rebuild whose subtree jobs are over makes the
tree ready; the next tree of a level is built only for a ready tree; the start-up scan of a journal with domain 3 on
and no key loaded takes over the highest sequence number of its good records; a signing job whose reservation is not
granted within two crossings ends NOT_READY and the key shows that a signature waits. (R273, R276, R277, R279, R280,
R284, R285, R288, R289) -/
def Obligations.StatefulKeyEvents : Prop :=
  ∀ (s : State) (node : Nat) (k : HbsKey),
    (∀ b, tget s.hbs.keys node = some k → k.nextBlock s.hbs.parity = some b → s.reserveDue node k = true →
      s.fc.mstate = .service → answers (.blockReserve node) s fun t => ∃ (k' : HbsKey) (i : Nat),
        tget t.hbs.keys node = some k' ∧ k' = { k.advance b with pend := some b, readBack := false, acked := false } ∧
        (if b % 2 = 0 then k'.nextEven else k'.nextOdd) = b + 2 ∧
        tget t.hbs.journal i =
          some (JRecord.image { seq := t.hbs.seq, node := node, kind := 2, nextEven := k'.nextEven, nextOdd := k'.nextOdd })) ∧
    (∀ i r, s.unreadOf node = some (i, r) →
      (answers (.journalReadback node true) s fun t => t.hbs.journal = s.hbs.journal ∧ (∀ u ∈ t.hbs.unread, u.1 ≠ i) ∧
        (tget s.hbs.keys node = some k → r.kind = 2 → k.pend.isSome → k.nextEven = r.nextEven → k.nextOdd = r.nextOdd →
          tget t.hbs.keys node = some ({ k with readBack := true }.settle s.ackFree))) ∧
      answers (.journalReadback node false) s fun t => t.hbs.keys = s.hbs.keys ∧ ∃ m : Nat,
        tget t.hbs.journal m = some (JRecord.image
          { seq := t.hbs.seq, node := node, kind := r.kind, nextEven := r.nextEven, nextOdd := r.nextOdd })) ∧
    (s.hbs.keys.find? (fun e => e.2.tree == .rebuilding) = some (node, k) → k.parts ≠ 0 → s.subtreesDone node = true →
      answers (.treeRebuildDone node) s fun t =>
        ∃ k' : HbsKey, tget t.hbs.keys node = some k' ∧ k'.tree = .ready ∧ k'.progress = 1000 ∧
          k'.nextEven = k.nextEven ∧ k'.nextOdd = k.nextOdd) ∧
    (∀ level, tget s.hbs.keys node = some k → k.tree = .ready → answers (.nextTreeBuilt ⟨node, level⟩) s fun t =>
      t = s.setHbs node { k with lower := k.lower.map fun x =>
        if x.level = level then k.buildNext (s.hbsSeed node) s.hbs.parity x else x }) ∧
    (s.hbs.keys = [] → s.domain 3 = .on → answers .journalStartupScan s fun t =>
      t.hbs.journal = s.hbs.journal ∧ (∀ e ∈ s.records, e.2.seq ≤ t.hbs.seq) ∧
      (t.hbs.seq = 0 ∨ ∃ e ∈ s.records, e.2.seq = t.hbs.seq)) ∧
    (∀ j b, s.job j = some b → b.wait = .reservation node → (b.waitUp.any fun u => s.passed u (s.crossingsNs 2)) = true →
      tget s.hbs.keys node = some k → answers (.reserveWaitExpiry j) s fun t => endedWith t j (failed stNOT_READY) ∧ otherJobsKept s t j ∧
        tget t.hbs.keys node = some { k with waiting := true })

/-- For every stateful key whose current block has at most its leaves left and is not the block reserved ahead: a leaf
that is assigned is not the next leaf afterwards, it lies in the block that is then the current one, fewer leaves
are left than the block has, and the block ahead is still another one. The block that a module reserves is below the
number of blocks, has the parity of the module (any parity when it has none), lies at or above its pointer, and is
not the one it reserves next; each reservation moves one pointer up by two and leaves the other. (R271, R272, R273,
R280) -/
def Obligations.LeavesAreUsedOnce : Prop :=
  (∀ (k : HbsKey) (l : Nat), k.left ≤ k.leaves → 0 < k.leaves → k.ahead ≠ k.cur → k.nextLeaf = some l →
    k.takeLeaf.nextLeaf ≠ some l ∧ k.takeLeaf.left < k.leaves ∧ k.takeLeaf.cur = some (l / k.leaves) ∧
    k.takeLeaf.ahead ≠ k.takeLeaf.cur) ∧
  ∀ (k : HbsKey) (p b : Nat), k.nextEven % 2 = 0 → k.nextOdd % 2 = 1 → k.nextBlock p = some b →
    b < k.blocks ∧ (p = 1 → b % 2 = 0) ∧ (p = 2 → b % 2 = 1) ∧ (k.advance b).nextBlock p ≠ some b ∧
    (b = k.nextEven ∧ (k.advance b).nextEven = b + 2 ∧ (k.advance b).nextOdd = k.nextOdd ∨
     b = k.nextOdd ∧ (k.advance b).nextOdd = b + 2 ∧ (k.advance b).nextEven = k.nextEven)

/-- For every operand: MCE_KEYGEN ends with the digest of its public key and the attempt count, the key as its output,
and counts the attempts for its engine; MCE_ENCAPS under a loaded peer whose key still has its recorded digest, or
under the operand key that the job's own entry of P3 holds, ends with the ciphertext of fresh error bytes and gives
its shared secret to DEST_SLOT or SHARED_SECRET; a peer key whose digest differs, or that is gone, ends
FAULT_CONTAINED, and with STORE_ONLY nothing is encapsulated; storing fills a PENDING slot, which is then LOADED.
MCE_DECAPS ends with the decapsulated secret when a sealed copy of the private key stands, and otherwise waits for
its regeneration, at whose end it waits no more. HQC operations end likewise, INPUT_ENCODING for a public key with
padding set. The code-based functions are uninterpreted (log entry 2). (R302, R303, R304, R305, R307, R310, R311,
R312, R316) -/
def Obligations.CodeBasedOperations : Prop :=
  ∀ (s : State) (j : Nat) (b : Job),
    let p := b.pset
    let attempts := mceAttempts p b.key
    let secret := fun (t : State) (pk : Bytes) (stored : List Tlv) => ∃ e : Bytes, e.length = 32 ∧
      endedWith t j (b.sharedEnd (stored ++ [⟨0x0052, (mceEncaps p pk e).1⟩]) (mceEncaps p pk e).2)
    let pk := b.val 0x0051
    let d := hSlot (b.handleIn 0x0070)
    let fill := b.has 0x0070 && (s.slot d).state == .pending
    let stored : Bytes → List Tlv := fun digest => if b.has 0x0070 then
      (if fill then [⟨0x0071, leBytes (s.handleOf d) 8⟩] else []) ++ [⟨0x0072, digest⟩] else []
    (runsOp s j b opMCE_KEYGEN → answers (.mceKeygen j) s fun t =>
      endsQuietly s t j { done [⟨0x0072, sha3_256 (mcePublic p b.key)⟩, ⟨0x0074, leBytes attempts 4⟩] with
        out := mcePublic p b.key, bind := p, sealSize := ((mceSizes p).map (·.2.1)).getD 0 } ∧
      t.cnt aCE_KG_ATTEMPTS b.engineNo = (s.cnt aCE_KG_ATTEMPTS b.engineNo + attempts) % 2 ^ 32) ∧
    (runsOp s j b opMCE_ENCAPS → s.peerFor j b = none → answers (.mceEncaps j) s fun t =>
      endsQuietly s t j (failed stFAULT_CONTAINED)) ∧
    (∀ n e, runsOp s j b opMCE_ENCAPS → s.peerFor j b = some (n, e) → b.handle ≠ 0 →
      (sha3_256 e.key = e.digest → answers (.mceEncaps j) s fun t => otherJobsKept s t j ∧ secret t e.key []) ∧
      (sha3_256 e.key ≠ e.digest → answers (.mceEncaps j) s fun t => ∀ b', t.job j = some b' →
        b'.ending = some (failed stFAULT_CONTAINED))) ∧
    (∀ n e, runsOp s j b opMCE_ENCAPS → s.peerFor j b = some (n, e) → b.handle = 0 → answers (.mceEncaps j) s fun t =>
      otherJobsKept s t j ∧ (fill = true → (t.slot d).state = .loaded ∧ (t.slot d).pset = p) ∧
      if tlvNat b.params 0x0073 0 = 1 then endedWith t j (done (stored e.digest)) else secret t e.key (stored e.digest)) ∧
    (runsOp s j b opMCE_DECAPS → answers (.mceDecaps j) s fun t =>
      if s.hasSealed b.handle then
        endsQuietly s t j (b.sharedEnd [] (Config.standard "McEliece.decaps" p [b.key, b.val 0x0052] 32))
      else t.job j = some { b with wait := .regeneration } ∧ otherJobsKept s t j ∧ surfaceKept s t ∧
        hSlot b.handle ∈ t.parts.regen) ∧
    (s.job j = some b → b.opcode = opMCE_DECAPS → b.wait = .regeneration → answers (.mceRegenerationDone j) s fun t =>
      t.job j = some { b with wait := .no } ∧ hSlot b.handle ∉ t.parts.regen ∧ surfaceKept s t ∧
      t.cnt aCE_REGEN b.engineNo = (s.cnt aCE_REGEN b.engineNo + 1) % 2 ^ 32) ∧
    (runsOp s j b opHQC_KEYGEN → answers (.hqcKeygen j) s fun t => endsQuietly s t j
      { done [⟨0x0051, Config.standard "HQC.keygen" p [hqcExpand p b.key] (((hqcSizes p).map (·.1)).getD 0)⟩] with
        bind := p }) ∧
    (runsOp s j b opHQC_ENCAPS → answers (.hqcEncaps j) s fun t =>
      if hqcPkOk p pk then ∃ r : Bytes, r.length = 64 ∧ endsQuietly s t j (b.sharedEnd
        [⟨0x0052, Config.standard "HQC.encaps.c" p [pk, r] (((hqcSizes p).map (·.2.1)).getD 0)⟩]
        (Config.standard "HQC.encaps.k" p [pk, r] 64))
      else endsQuietly s t j (failed stINPUT_ENCODING)) ∧
    (runsOp s j b opHQC_DECAPS → answers (.hqcDecaps j) s fun t => endsQuietly s t j
      (b.sharedEnd [] (Config.standard "HQC.decaps" p [hqcExpand p b.key, b.val 0x0052] 64)))

/-- For every operand: BN_MODEXP, BN_MODMUL and BN_MODINV end with A^E, A·B or the inverse of A modulo N, in the length
of the modulus, or with the status of the first value check that fails (a zero modulus MALFORMED; an even modulus or
1, or an operand not below it, or no inverse, INPUT_RANGE). RSA_KEYGEN ends with the modulus and the candidate count
and binds its slot; RSA_PRIVATE with a sealed copy of its key ends by its padding code, and without one waits for
regeneration, at whose end it waits no more; RSA_PUBLIC ends with the exponentiation, the OAEP ciphertext or the
verdict of its padding code, or the failing check's status. Nothing else the host sees changes. Padding and key
derivation are uninterpreted (log entry 2); exponentiation is the model's own. (R329, R330, R331, R332, R333, R335,
R336, R340, R341, R343, R344) -/
def Obligations.RsaAndBignumOperations : Prop :=
  ∀ (s : State) (j : Nat) (b : Job),
    let n := b.num 0x0081
    let a := b.num 0x0082
    let m := b.num 0x0083
    let e := b.num 0x0084
    let ends := fun (c : Instr) (checks : List (Bool × Nat)) (x : Ending) => answers c s fun t => endsQuietly s t j
      (match firstBad checks with
      | some st => { status := st, verdict := if st = stVERIFY_FAIL then vFail else 0 }
      | none => x)
    let padding := tlvNat b.params 0x0087 0
    let expBad := (e % 2 == 0 || decide (e < 3) || decide (e ≥ n), stINPUT_RANGE)
    let rep := beNat (b.val 0x0055)
    let bytes := (b.val 0x0081).length
    let candidates := rsaCandidates (tlvNat b.params 0x0086 0) b.key
    (runsOp s j b opBN_MODEXP → ends (.bnModexp j) (modulusBad n ++ [(decide (a ≥ n), stINPUT_RANGE)])
      (b.bnResult (if a = 0 then 0 else modPow a n (8 * (b.val 0x0084).length) e))) ∧
    (runsOp s j b opBN_MODMUL → ends (.bnModmul j) (modulusBad n ++ [(decide (a ≥ n ∨ m ≥ n), stINPUT_RANGE)])
      (b.bnResult (a * m % n))) ∧
    (runsOp s j b opBN_MODINV → ends (.bnModinv j)
      (modulusBad n ++ [(decide (a ≥ n), stINPUT_RANGE), ((modInv a n).isNone, stINPUT_RANGE)])
      (b.bnResult ((modInv a n).getD 0))) ∧
    (runsOp s j b opRSA_KEYGEN → answers (.rsaKeygen j) s fun t =>
      endsQuietly s t j { done [⟨0x0081, rsaModulus (tlvNat b.params 0x0086 0) b.key⟩, ⟨0x008B, leBytes candidates 4⟩] with
        bind := tlvNat b.params 0x0086 0, sealSize := rsaSealedSize (tlvNat b.params 0x0086 0) } ∧
      t.cnt aBN_KG_CANDIDATES b.engineNo = (s.cnt aBN_KG_CANDIDATES b.engineNo + candidates) % 2 ^ 32) ∧
    (runsOp s j b opRSA_PRIVATE → answers (.rsaPrivate j) s fun t =>
      if s.hasSealed b.handle then
        ∃ x : Ending, endsQuietly s t j x ∧ x.status = (rsaPrivate s b).2.status ∧
          (x.status = stDONE → ∃ tag v, x.results = [⟨tag, v⟩] ∧ tag = if padding = 0 ∨ padding = 3 then 0x0085 else 0x0055)
      else t.job j = some { b with wait := .regeneration } ∧ otherJobsKept s t j ∧ surfaceKept s t ∧
        hSlot b.handle ∈ t.parts.regen) ∧
    (s.job j = some b → b.opcode = opRSA_PRIVATE → b.wait = .regeneration → answers (.rsaRegenerationDone j) s fun t =>
      t.job j = some { b with wait := .no } ∧ hSlot b.handle ∉ t.parts.regen ∧ surfaceKept s t ∧
      t.cnt aBN_REGEN b.engineNo = (s.cnt aBN_REGEN b.engineNo + 1) % 2 ^ 32) ∧
    (runsOp s j b opRSA_PUBLIC → padding = 0 → ends (.rsaPublic j)
      (modulusBad n ++ [(decide (b.num 0x008A ≥ n), stINPUT_RANGE), expBad])
      (b.bnResult (if b.num 0x008A = 0 then 0 else modPow (b.num 0x008A) n 256 e))) ∧
    (runsOp s j b opRSA_PUBLIC → padding = 3 → ∃ seed : Bytes, seed.length = (hashLen b.hash).getD 0 ∧
      ends (.rsaPublic j) (modulusBad n ++ [expBad]) (b.bnResult (modPow (beNat (Config.standard "RSA.oaepEncode"
        (8 * bytes) [b.val 0x008A, leBytes b.hash 2, seed] bytes)) n 256 e))) ∧
    (runsOp s j b opRSA_PUBLIC → padding ≠ 0 → padding ≠ 3 → ends (.rsaPublic j)
      (modulusBad n ++ [expBad, (decide (rep ≥ n), stVERIFY_FAIL)])
      (verdictEnd (Config.standardCheck (if padding = 1 then "RSA.pkcs1Verify" else "RSA.pssVerify") (8 * bytes)
        [beBytes (modPow rep n 256 e) bytes, b.val 0x0057, b.val 0x0081])))

/-- For every modulus of 2 or more: modPow of a base, with as many bits as the exponent has, is the base to the exponent
modulo N; and modInv of A modulo N, if it answers, is a number below N whose product with A is 1 modulo N, and it
answers exactly when A and N have no common divisor. And for every state: a running BN_MODEXP, BN_MODMUL or
BN_MODINV of a job that runs with an odd modulus above 1 and operands below it (for the inverse, one that has an
inverse) answers a next state in which the job has ended DONE with A^E, A·B or the inverse modulo N; a running
RSA_KEYGEN answers one with the modulus of the key; a raw RSA_PUBLIC in its value range one with A^E mod N; and
RSA_PRIVATE with a sealed copy of its key and PKCS#1 padding one with the signature. (R329, R331, R332, R333, R335,
R336, R340, R344) -/
def Obligations.ModularArithmeticIsExact : Prop :=
  (∀ a n bits e : Nat, 1 < n → e < 2 ^ bits → modPow a n bits e = a ^ e % n) ∧
  (∀ a n : Nat, 1 < n → a < n →
    (∀ x, modInv a n = some x → x < n ∧ a * x % n = 1) ∧ ((modInv a n).isSome ↔ Nat.gcd a n = 1)) ∧
  ∀ (s : State) (j : Nat) (b : Job),
    let n := b.num 0x0081
    let a := b.num 0x0082
    let m := b.num 0x0083
    let e := b.num 0x0084
    let x := b.num 0x008A
    let answer := fun (v : Nat) => done [⟨0x0085, beBytes v (b.val 0x0081).length⟩]
    let bits := tlvNat b.params 0x0086 0
    (runsOp s j b opBN_MODEXP → 1 < n → n % 2 = 1 → a < n → 0 < a →
      ∃ t, exec (.bnModexp j) s = .next t ∧ endsQuietly s t j (answer (a ^ e % n))) ∧
    (runsOp s j b opBN_MODMUL → 1 < n → n % 2 = 1 → a < n → m < n →
      ∃ t, exec (.bnModmul j) s = .next t ∧ endsQuietly s t j (answer (a * m % n))) ∧
    (∀ y, runsOp s j b opBN_MODINV → 1 < n → n % 2 = 1 → a < n → y < n → a * y % n = 1 →
      ∃ t, exec (.bnModinv j) s = .next t ∧ endsQuietly s t j (answer y)) ∧
    (runsOp s j b opRSA_KEYGEN → ∃ t, exec (.rsaKeygen j) s = .next t ∧ endsQuietly s t j
      { done [⟨0x0081, rsaModulus bits b.key⟩, ⟨0x008B, leBytes (rsaCandidates bits b.key) 4⟩] with
        bind := bits, sealSize := rsaSealedSize bits }) ∧
    (runsOp s j b opRSA_PUBLIC → tlvNat b.params 0x0087 0 = 0 → n % 2 = 1 → x < n → 0 < x → e % 2 = 1 → 3 ≤ e → e < n →
      e < 2 ^ 256 → ∃ t, exec (.rsaPublic j) s = .next t ∧ endsQuietly s t j (answer (x ^ e % n))) ∧
    (runsOp s j b opRSA_PRIVATE → tlvNat b.params 0x0087 0 = 1 → s.hasSealed b.handle = true →
      ∃ t, exec (.rsaPrivate j) s = .next t ∧ endsQuietly s t j (done [⟨0x0055, Config.standard "RSA.pkcs1Sign"
        (s.slot (hSlot b.handle)).pset [b.key, b.val 0x0057] ((s.slot (hSlot b.handle)).pset / 8)⟩]))

/-- For every operand: EC_KEYGEN returns the public key of the slot's scalar and binds the curve; ECDSA_SIGN draws 32
random bytes unless deterministic and returns r and s, raw or as DER; ECDSA_VERIFY ends with the form check's
status, POINT_INVALID, or the doubled verdict; ECDH, X25519 and X448 give the agreed secret to DEST_SLOT or
SHARED_SECRET, or end with the form check's status or POINT_INVALID; EDDSA_SIGN and EDDSA_VERIFY end with the
signature and the verdict (POINT_INVALID for a key that is no point). Nothing else the host sees changes. The curve
functions are uninterpreted (log entry 2). (R334, R336, R337, R338, R339, R343, R344) -/
def Obligations.EllipticCurveOperations : Prop :=
  ∀ (s : State) (j : Nat) (b : Job) (data : Bytes),
    let c := b.curve
    let l := (ecField c).getD 0
    let ends := fun (i : Instr) (e : Ending) => answers i s fun t => endsQuietly s t j e
    let der := tlvNat b.params 0x0089 0 = 1
    let agree := fun (i : Instr) (c : Nat) => ends i (match b.form with
      | some st => { status := st, verdict := if st = stVERIFY_FAIL then vFail else 0 }
      | none => match ecAgree c (b.ecKey c) (b.val 0x0051) with
        | none => failed stPOINT_INVALID
        | some z => b.sharedEnd [] z)
    (runsOp s j b opEC_KEYGEN → ends (.ecKeygen j) { done [⟨0x0051, ecPublic c (b.ecKey c)⟩] with bind := c }) ∧
    (runsOp s j b opECDSA_SIGN → answers (.ecdsaSign j data) s fun t => ∃ extra : Bytes,
      (if tlvNat b.params 0x0059 0 = 1 then extra = [] else extra.length = 32) ∧
      let sig := ecdsaSign c (b.ecKey c) (b.ecdsaDigest data) extra
      endsQuietly s t j (done [⟨0x0055, if der then derOfSig (beNat (sig.take l)) (beNat (sig.drop l)) else sig⟩])) ∧
    (runsOp s j b opECDSA_VERIFY → ends (.ecdsaVerify j data) (match b.form with
      | some st => { status := st, verdict := if st = stVERIFY_FAIL then vFail else 0 }
      | none =>
        let sig := b.val 0x0055
        let rs := if der then (derSig l sig).getD (0, 0) else (beNat (sig.take l), beNat (sig.drop l))
        let pk := if b.handle ≠ 0 then ecPublic c (b.ecKey c) else b.val 0x0051
        if pointOk c pk then verdictEnd (ecdsaVerify c pk (b.ecdsaDigest data) rs.1 rs.2) else failed stPOINT_INVALID)) ∧
    (runsOp s j b opECDH → agree (.ecdh j) c) ∧
    (runsOp s j b opX25519 → agree (.x25519 j) 0x10) ∧
    (runsOp s j b opX448 → agree (.x448 j) 0x11) ∧
    (runsOp s j b opEDDSA_SIGN → ends (.eddsaSign j data)
      (done [⟨0x0055, eddsaSign c b.key (b.val 0x0056) (b.val 0x0057) data⟩])) ∧
    (runsOp s j b opEDDSA_VERIFY →
      let pk := if b.handle ≠ 0 then ecPublic c b.key else b.val 0x0051
      ends (.eddsaVerify j data) (if pointOk c pk then
        verdictEnd (eddsaVerify c pk (b.val 0x0056) (b.val 0x0057) data (b.val 0x0055)) else failed stPOINT_INVALID))

/-- For every operand and data, a running job of each AES mode ends, and nothing else the host sees changes. GCM
encryption and GMAC use the given IV or a fresh one of 12 random bytes, which is then returned; GCM decryption
releases plaintext only when the tag is right and else as many zero bytes as the output holds, with the verdict and
a count of tag failures; CTR and CBC return the next counter or chaining block; XTS refuses a key with equal halves
(KEY_POLICY); CMAC and GMAC compare with the tag given, or return it. The AES is the model's own (verified against
known vectors), not an uninterpreted function. (R398, R399, R402, R403, R404, R405, R406, R408, R409, R410, R411) -/
def Obligations.CipherOperations : Prop :=
  ∀ (s : State) (j : Nat) (b : Job) (data : Bytes),
    let quiet := fun (t : State) (e : Ending) => endsQuietly s t j e
    let text := data.drop b.aadLen
    let aad := data.take b.aadLen
    let iv := b.val 0x0098
    let withIv := fun (P : Bytes → List Tlv → Prop) =>
      if b.ivGen then ∃ x : Bytes, x.length = 12 ∧ P x [⟨0x0098, x⟩] else P iv []
    let tagged := fun (t : State) (tag : Bytes) (more : List Tlv) =>
      let g := tag.take b.tagLen
      if b.has 0x009C then
        quiet t (if g = b.val 0x009C then { verdictEnd true with results := more } else verdictEnd false) ∧
        (g ≠ b.val 0x009C → t.cnt aSE_TAG_FAIL 0 = (s.cnt aSE_TAG_FAIL 0 + 1) % 2 ^ 32)
      else quiet t (done (⟨0x009C, g⟩ :: more))
    let xts := fun (c : Instr) (enc : Bool) => answers c s fun t =>
      if b.key.take (b.key.length / 2) = b.key.drop (b.key.length / 2) then quiet t (failed stKEY_POLICY)
      else
        let r := aesXtsMode enc b.key (tlvNat b.params 0x00A0 0) (leNat (b.val 0x009F)) (data.length + 1) data
        quiet t { done [] with out := r }
    (runsOp s j b opAES_GCM_ENC → answers (.aesGcmEnc j data) s fun t => withIv fun x more =>
      let r := gcmEnc b.key x aad text
      quiet t { done (⟨0x009C, r.2.take b.tagLen⟩ :: more) with out := r.1 }) ∧
    (runsOp s j b opAES_GCM_DEC → answers (.aesGcmDec j data) s fun t =>
      if (gcmTag b.key iv aad text).take b.tagLen = b.val 0x009C then
        quiet t { verdictEnd true with out := gcmDec b.key iv text }
      else quiet t { verdictEnd false with out := zeros (outputLen b.frags) } ∧
        t.cnt aSE_TAG_FAIL 0 = (s.cnt aSE_TAG_FAIL 0 + 1) % 2 ^ 32) ∧
    (runsOp s j b opAES_CTR → answers (.aesCtr j data) s fun t =>
      let bits := tlvNat b.params 0x009D 32
      quiet t { done [⟨0x009E, ctrAdd bits (ceilDiv data.length 16) iv⟩] with out := aesCtrMode b.key bits iv data }) ∧
    (runsOp s j b opAES_CBC_ENC → answers (.aesCbcEnc j data) s fun t =>
      let c := aesCbcEncMode b.key iv (blocksOf16 data)
      quiet t { done [⟨0x009E, if c = [] then iv else c.drop (c.length - 16)⟩] with out := c }) ∧
    (runsOp s j b opAES_CBC_DEC → answers (.aesCbcDec j data) s fun t =>
      let e := done [⟨0x009E, if data = [] then iv else data.drop (data.length - 16)⟩]
      quiet t { e with out := aesCbcDecMode b.key iv (blocksOf16 data) }) ∧
    (runsOp s j b opAES_XTS_ENC → xts (.aesXtsEnc j data) true) ∧
    (runsOp s j b opAES_XTS_DEC → xts (.aesXtsDec j data) false) ∧
    (runsOp s j b opAES_CMAC → answers (.aesCmac j data) s fun t => tagged t (aesCmacMode b.key data) []) ∧
    (runsOp s j b opAES_GMAC → answers (.aesGmac j data) s fun t => withIv fun x more =>
      tagged t (gcmTag b.key x data []) more)

/-- For every AES key of 16 or 32 bytes: encrypting a block of 16 bytes gives 16 bytes, and decrypting them gives the
block back; applying counter mode twice with the same width and counter block gives the data back, whatever its
length; and CBC decryption of the CBC encryption of whole blocks under a 16-byte IV gives the data back. (R402,
R404) -/
def Obligations.BlockModesInvert : Prop :=
  ∀ key : Bytes, key.length = 16 ∨ key.length = 32 →
    (∀ x : Bytes, x.length = 16 → (aesEncrypt key x).length = 16 ∧ aesDecrypt key (aesEncrypt key x) = x) ∧
    (∀ (iv data : Bytes) (bits : Nat), aesCtrMode key bits iv (aesCtrMode key bits iv data) = data) ∧
    ∀ iv data : Bytes, iv.length = 16 → data.length % 16 = 0 →
      aesCbcDecMode key iv (blocksOf16 (aesCbcEncMode key iv (blocksOf16 data))) = data

/-- For every operand and data a running job of each digest opcode ends, every other job stands, and, but for the count
of wrapped contexts of a keyed save, nothing else the host sees changes. DIGEST_UPDATE absorbs the data into a new
or the named context and keeps it; with RELEASE it lets the context go; FINAL answers the digest and restarts the
context; MAC_VERIFY and a one-shot with an expected value answer the doubled verdict of the comparison; SAVE returns
the context as a blob, sealed under the instance's wrapping key when the context is keyed; RESTORE refuses a keyed
blob of another instance or with a bad tag (INPUT_ENCODING, counted), and else makes the context; ONESHOT answers
the digest. An algorithm or a context that does not exist is MALFORMED. The hash functions are the model's own
(verified against known vectors). (R413, R414, R416, R417, R418, R419, R420, R422, R424, R425) -/
def Obligations.DigestOperations : Prop :=
  ∀ (s : State) (j : Nat) (b : Job) (data : Bytes),
    let quiet := fun (t : State) (e : Ending) => endsQuietly s t j e
    let bad := fun (t : State) => quiet t (failed stMALFORMED)
    let compared := fun (t : State) (d : Bytes) (x : CtxEffect) =>
      quiet t { verdictEnd (d.take (b.val 0x0096).length == b.val 0x0096) with ctx := x }
    let final := fun (t : State) (P : Bytes → CtxEffect → Prop) => match s.ctxOf b with
      | none => bad t
      | some c => match algInfo c.alg with
        | none => bad t
        | some i => P (finishCtx (absorbCtx c i data) i b.key) (.store (startCtx c i b.key))
    let v := b.val 0x0097
    let keyed := bitAt (leAt v 7 1) 0
    let key := (s.inst b.inst).wrapKey
    let sealOk := !keyed || gcmTag key (slice v 32 12) (v.take 32) (slice v 48 200) == slice v 248 16
    (runsOp s j b opDIGEST_UPDATE → b.releases = false → answers (.digestUpdate j data) s fun t =>
      match b.alg with
      | some a => match algInfo a with
        | some i => quiet t { done [] with ctx := .store (absorbCtx (startCtx (b.newCtx a i) i b.key) i data) }
        | none => bad t
      | none => match s.ctxOf b with
        | some c => match algInfo c.alg with
          | some i => quiet t { done [] with ctx := .store (absorbCtx c i data) }
          | none => bad t
        | none => bad t) ∧
    (runsOp s j b opDIGEST_UPDATE → b.releases = true → answers (.digestRelease j) s fun t =>
      quiet t { done [] with ctx := .release }) ∧
    (runsOp s j b opDIGEST_FINAL → answers (.digestFinal j data) s fun t =>
      final t fun d x => quiet t { done [⟨0x0095, d⟩] with ctx := x }) ∧
    (runsOp s j b opMAC_VERIFY → answers (.macVerify j data) s fun t => final t fun d x => compared t d x) ∧
    (runsOp s j b opDIGEST_SAVE → answers (.digestSave j) s fun t => otherJobsKept s t j ∧ match s.ctxOf b with
      | none => bad t
      | some c =>
        let st := fitBytes c.chain 200
        let n := (s.inst b.inst).wrapCount
        let r := gcmEnc key (leBytes n 12) (blobHead b c) st
        if c.handle = 0 then quiet t (done [⟨0x0097, blobHead b c ++ zeros 16 ++ st ++ zeros 24⟩])
        else endedWith t j (done [⟨0x0097, blobHead b c ++ leBytes n 12 ++ zeros 4 ++ r.1 ++ r.2 ++ zeros 8⟩]) ∧
          t.insts = tset s.insts b.inst { s.inst b.inst with wrapCount := n + 1 }) ∧
    (runsOp s j b opDIGEST_RESTORE → answers (.digestRestore j) s fun t =>
      if (leAt v 16 2 ≠ b.inst ∧ keyed = true) ∨ sealOk = false then
        quiet t (failed stINPUT_ENCODING) ∧ t.cnt aDE_RESTORE_REJECT 0 = (s.cnt aDE_RESTORE_REJECT 0 + 1) % 2 ^ 32
      else ∃ c : DigestCtx, quiet t { done [] with ctx := .store c } ∧ c.alg = leAt v 6 1 ∧ c.outLen = leAt v 18 4 ∧
        c.handle = leAt v 24 8 ∧ c.blocks = leAt v 8 8 ∧
        ∃ n, c.chain = (if keyed then gcmDec key (slice v 32 12) (slice v 48 200) else slice v 48 200).take n) ∧
    (runsOp s j b opDIGEST_ONESHOT → answers (.digestOneshot j data) s fun t =>
      match b.alg.bind algInfo with
      | none => bad t
      | some i =>
        let d := finishCtx (absorbCtx (startCtx (b.newCtx (b.alg.getD 0) i) i b.key) i data) i b.key
        if b.has 0x0096 then compared t d .keep else quiet t (done [⟨0x0095, d⟩]))

/-- Where the command is well formed, its results fit, its keys are approved and the instance has room: deriving a child
fills a free slot of the job's instance with the KMAC derivation of the parent's value, one level below it, bound to
the parent's generation; instantiating a persistent node answers the slot that already holds it for the instance, or
fills one with the node's value, policy and limits; reserving makes an EMPTY slot of the type; generating fills one
with as many fresh random bytes as asked; importing unwraps the value (INPUT_ENCODING where the wrapping does not
check or the length differs, INPUT_RANGE for a bad scalar) and fills one with it. The handle carries a new
generation. A mirrored key's job waits for the partner first. (R441, R446, R448, R449, R450, R451, R452, R469, R471,
R472, R573) -/
def Obligations.KeyCreation : Prop :=
  ∀ (s : State) (j : Nat) (b : Job),
    (∀ s', runsDirect s j b opKEY_DERIVE → b.action = 0 → tlvLen 8 ≤ b.resultCap →
      b.deriveTlvs [0x00B2, 0x00B4, 0x00B5, 0x00B6] [0x00B3, 0x00B7, 0x00C6] = true → b.newBad = false →
      1 ≤ (b.val 0x00B2).length → (b.val 0x00B2).length ≤ 64 → (b.val 0x00B3).length ≤ 72 →
      (s.slot (hSlot b.handle)).level < 8 → (∀ st, s.mirrorFor b ≠ .refuse st) →
      (s.startDirect j).approve b.inst [b.keyNeed [0x01] [0, 23] none] = .ok s' → keyRoom s' b →
      answers (.keyDerive j) s fun t =>
        let p := s'.slot (hSlot b.handle)
        keyMade s' t j b { b.newSlot (kdf p.val (b.val 0x00B3) (b.val 0x00B2) (tlvNat b.params 0x00B5 0)) (p.level + 1) 2
          with parent := some (hSlot b.handle, p.gen) }) ∧
    (∀ node d, runsDirect s j b opKEY_DERIVE → b.action = 1 → tlvLen 8 ≤ b.resultCap →
      b.deriveTlvs [0x00B1] [] = true → b.handle = 0 → node = tlvNat b.params 0x00B1 0 →
      tget s.ks.nodes node = some d → (d.owner = b.inst ∨ d.owner = 0xFF) →
      (∀ n, s.instantiated b.inst node = some n →
        answers (.keyInstantiate j) s fun t => endsQuietly s t j (done [⟨0x00B8, leBytes (s.handleOf n) 8⟩])) ∧
      (s.instantiated b.inst node = none → keyRoom s b → answers (.keyInstantiate j) s fun t =>
        keyMade s t j b { state := .loaded, type := d.type, pset := d.pset, val := s.nodeValue 9 node, policy := d.policy,
                          uses := if d.useLimit = 0 then none else some d.useLimit, level := d.level,
                          origin := if d.kind = 2 then 6 else 5, node := some node })) ∧
    (∀ type, runsDirect s j b opKEY_DERIVE → b.action = 2 → tlvLen 8 ≤ b.resultCap → b.deriveTlvs [0x00B4] [] = true →
      b.handle = 0 → type = tlvNat b.params 0x00B4 0 → (type = 0x01 ∨ type = 0x1A) → keyRoom s b →
      answers (.keyReserve j) s fun t => keyMade s t j b { state := .empty, type := type }) ∧
    (runsMp s j b opKEY_GENERATE → b.noRoom (tlvLen 8) = false → b.newBad = false →
      (∀ st, s.mirrorFor b ≠ .refuse st) → s.drbgCover 1 ≠ 0 → keyRoom s b → answers (.keyGenerate j) s fun t =>
        ∃ v : Bytes, v.length = tlvNat b.params 0x00B5 0 ∧ keyMade s t j b (b.newSlot v 1 1)) ∧
    (∀ s', runsMp s j b opKEY_IMPORT_WRAPPED → b.noRoom (tlvLen 8) = false → b.newBad = false →
      24 ≤ (b.val 0x00B9).length → (b.val 0x00B9).length ≤ 72 →
      (tlvNat b.params 0x00BA 0 = 1 ∨ tlvNat b.params 0x00BA 0 = 2) → (∀ st, s.mirrorFor b ≠ .refuse st) →
      s.approve b.inst [b.keyNeed [0x06] [8] none] = .ok s' → keyRoom s' b →
      answers (.keyImportWrapped j) s fun t =>
        let w := b.val 0x00B9
        let key := (s'.slot (hSlot b.handle)).val
        match (if tlvNat b.params 0x00BA 0 = 1 then (if w.length % 8 = 0 then aesUnwrap key w else none)
            else aesUnwrapPad key w) with
        | none => endedWith t j (failed stINPUT_ENCODING)
        | some v =>
          if v.length ≠ tlvNat b.params 0x00B5 0 then endedWith t j (failed stINPUT_ENCODING)
          else if tlvNat b.params 0x00B4 0 = 0x20 ∧ scalarBad v = true then endedWith t j (failed stINPUT_RANGE)
          else keyMade s' t j b (b.newSlot v 1 4))

/-- A live key of the job's instance, named where no partner has to be told, becomes STALE at once under KEY_INVALIDATE
or KEY_RELEASE, its value zeroed, and the job waits for the scan of its descendants; a release of a key that is
STALE already and of which no scan is due frees its slot at once; at the scan's end nothing is left to scan, no job
waits for it, and every descendant found is STALE or free. Invalidating a stale key ends DONE. KEY_INFO reports the
slot or node it names; an approved key is attested over exactly the body of its attributes, exported as its public
value (KEY_POLICY when it has none), or answers a challenge with the KMAC of it; the identity and transport keys are
exported on request. The commands that need an engine ask one for its work first. KEY_UPDATE_APPLY on an unpaired
module reports the first check that fails and changes no node, or stores the nodes and trust anchors, never lowers
the counter, and ends DONE, with a changed KS_CTL once its set is applied. (R446, R457, R463, R464, R465, R466,
R467, R468, R470) -/
def Obligations.KeyUseAndRemoval : Prop :=
  (∀ (s : State) (j : Nat) (b : Job),
    let n := hSlot b.handle
    let free_ := (b.has 0x0004 = true → b.inst = 0) ∧ s.ownedBy b.targetInst b.handle = true ∧
      (∀ st, s.mirrorOf b.handle ≠ .refuse st)
    let scanning := fun (t : State) => (t.slot n).state = .stale ∧ (∀ v ∈ (t.slot n).val, v = 0) ∧ n ∈ t.ks.scanOf ∧
      ∃ b', t.job j = some b' ∧ b'.wait = .scan ∧ b'.after = some (done [])
    let needs := fun (types policy : List Nat) => [b.keyNeed types policy none]
    (runsDirect s j b opKEY_INVALIDATE → b.scope = 0 → free_ → answers (.keyInvalidate j) s fun t =>
      if s.handleStale b.handle then endedWith t j (done []) else scanning t) ∧
    (runsDirect s j b opKEY_INVALIDATE → b.scope = 1 → free_ → (s.slot n).filledGen ≤ hGen b.handle →
      hGen b.handle ≤ (s.slot n).gen → answers (.keyRelease j) s fun t =>
        if (s.slot n).state ≠ .stale then scanning t
        else if n ∈ s.ks.scanOf then (t.slot n).state = .stale ∧ ∃ b', t.job j = some b' ∧ b'.wait = .scan
        else ((t.slot n).state = .free ∨ (t.slot n).state = .retired) ∧
          (s.mirrorsSlots = false → (∀ r ∈ s.tw.queue, r.job ≠ some j) → endedWith t j (done []))) ∧
    (runsDirect s j b opKEY_INFO → b.has 0x00B1 = true → b.handle = 0 → tlvLen 164 + tlvLen 8 ≤ b.resultCap →
      (b.has 0x0004 = true → b.inst = 0) → ∀ d, tget s.ks.nodes (tlvNat b.params 0x00B1 0) = some d →
      (b.inst = 0 ∨ d.owner = b.inst ∨ d.owner = 0xFF) → answers (.keyInfo j) s fun t => endsQuietly s t j
        (done [⟨0x00C5, nodeDesc (tlvNat b.params 0x00B1 0) d⟩, ⟨0x00C0, leBytes s.ks.updCounter 8⟩])) ∧
    (runsDirect s j b opKEY_INFO → b.has 0x00B1 = false → b.handle ≠ 0 → tlvLen 32 ≤ b.resultCap →
      (b.has 0x0004 = true → b.inst = 0) → s.ownedBy b.targetInst b.handle = true → answers (.keyInfo j) s fun t =>
        endsQuietly s t j (done [⟨0x00BB, s.keyAttr n (s.handleStale b.handle)⟩])) ∧
    (∀ s', runsMp s j b opKEY_ATTEST → b.noRoom (tlvLen 4883) = false → s.fld aKS_CTL 0 0 = 1 →
      s.approve b.inst (needs attestable []) = .ok s' →
      (engineOver s b 1 → answers (.keyAttest j) s fun t => ∃ sig : Bytes,
        endedWith t j (done [⟨0x00BD, s'.attestBody b.handle (b.val 0x00BC) ++ sig⟩])) ∧
      (b.engineStatus = none → s.classUp 1 = true → answers (.keyAttest j) s fun t =>
        asksEngine s t j 1 opCOMPOSITE_SIGN)) ∧
    (∀ s', runsMp s j b opKEY_EXPORT_PUBLIC → tlvNat b.params 0x00C3 0 = 0 → b.handle ≠ 0 →
      s.approve b.inst (needs [0x10, 0x11, 0x12, 0x13, 0x14, 0x18, 0x19, 0x20, 0x21, 0x22, 0x23]
        [7, keygenEngine (hType b.handle)]) = .ok s' → engineOver s b (keygenEngine (hType b.handle) - 15) →
      answers (.keyExportPublic j) s fun t =>
        match s'.publicOf (s'.slot n) with
        | some pk => endedWith t j (b.doneFit [⟨0x0051, pk⟩])
        | none => endedWith t j (failed stKEY_POLICY)) ∧
    (runsMp s j b opKEY_EXPORT_PUBLIC → b.handle = 0 → answers (.keyExportPublic j) s fun t =>
      match tlvNat b.params 0x00C3 0 with
      | 1 => endsQuietly s t j (b.doneFit [⟨0x0051, s.identityPublic⟩, ⟨0x00C4, (s.ks.certs.headD []).take 8192⟩])
      | 2 => endsQuietly s t j (b.doneFit [⟨0x0051, s.transportPublic⟩])
      | _ => endsQuietly s t j (failed stMALFORMED)) ∧
    (∀ s', runsMp s j b opCHALLENGE_RESPOND → b.noRoom (tlvLen 32) = false →
      s.approve b.inst (needs [0x30, 0x31] [10]) = .ok s' → answers (.challengeRespond j) s fun t =>
        endedWith t j (done [⟨0x00BE, kmac256 (s'.slot n).val (s'.mid ++ b.val 0x00BC) 32 "KRYTORATI-CHAL-1"⟩])) ∧
    (runsMp s j b opKEY_UPDATE_APPLY → b.cleared = false → b.noRoom (tlvLen 8) = false → s.tw.state = .unpaired →
      s.fld aKS_CTL 1 1 = 0 → s.tw.castle = none → engineOver s b 1 → answers (.keyUpdateApply j) s fun t =>
        match s.checkUpdate (b.val 0x00BF) (b.inst == 0) with
        | .error f => endsQuietly { s with ks := t.ks } t j f.ending ∧ t.ks.nodes = s.ks.nodes ∧ t.ks.trust = s.ks.trust ∧
            t.ks.slots = s.ks.slots ∧ t.ks.updCounter = s.ks.updCounter ∧ t.ks.lastFail = f.code
        | .ok u => t.ks.nodes = u.nodes ∧ t.ks.trust = u.trust ∧
            t.ks.updCounter = max s.ks.updCounter (leAt (b.val 0x00BF) 48 8) ∧
            ∃ e, e.status = stDONE ∧ e.verdict = vPass ∧ if u.ctl = none then endedWith t j e else ∃ b', t.job j = some b' ∧
              (b'.wait = .applied 0x1000 ∧ b'.after = some e ∨ b'.wait = .staging))) ∧
  ∀ s : State, (s.ks.scanOf ≠ [] ∨ ∃ e ∈ s.jobs, e.2.wait = .scan) → answers .invalidationScanEnd s fun t =>
    t.ks.scanOf = [] ∧ (∀ j b, t.job j = some b → b.wait ≠ .scan) ∧ ∀ k ∈ s.scanHits, (t.slot k).state = .stale ∨ (t.slot k).state = .free ∨ (t.slot k).state = .retired

/-- For every request: RNG_GET of a length from 1 to 1,048,576 that its fragments hold, covered by the generate requests
of DRBG D0, ends with so many fresh bytes as its output; when D0 does not cover it, it waits in its FIFO and its
wait begins now if it had not begun, or, with no source left, ends RNG_UNAVAILABLE and is counted, as a job does
that has lacked random values for two crossings; RNG_STATUS ends with the status block. Reading RNG_DATA of a
function with a port pops one 16-bit word and answers it with the valid bit 31, and an empty buffer answers 0, sets
the function's error and is counted; a refill appends 32 words drawn from one generate request. (R483, R489, R495,
R496, R497) -/
def Obligations.RandomOperations : Prop :=
  ∀ (s : State) (j : Nat) (b : Job),
    let n := tlvNat b.params 0x00D0 0
    (runsDirect s j b opRNG_GET → 1 ≤ n → n ≤ 1048576 → n ≤ outputLen b.frags → ceilDiv n 4096 ≤ s.drbgCover 0 →
      answers (.rngGet j) s fun t => ∃ d : Bytes, d.length = n ∧ endsQuietly s t j { status := stDONE, out := d }) ∧
    (runsDirect s j b opRNG_GET → 1 ≤ n → n ≤ 1048576 → n ≤ outputLen b.frags → s.drbgCover 0 < ceilDiv n 4096 →
      answers (.rngGet j) s fun t =>
        if s.rng.failed then endsQuietly s t j (failed stRNG_UNAVAILABLE) ∧
          t.cnt aRNG_UNAVAIL_CNT 0 = (s.cnt aRNG_UNAVAIL_CNT 0 + 1) % 2 ^ 32
        else t = s.setJob j { b with lackUp := some (b.lackUp.getD s.now) }) ∧
    (runsDirect s j b opRNG_STATUS → tlvLen 16 ≤ b.resultCap → answers (.rngStatus j) s fun t =>
      endsQuietly s t j (done [⟨0x00D1, s.rngInfo⟩])) ∧
    (s.job j = some b → b.ending = none → (b.phase = .fifo ∨ b.wait = .random) →
      (b.lackUp.any fun u => s.passed u (s.crossingsNs 2)) = true → answers (.rngWaitExpiry j) s fun t => endsQuietly s t j (failed stRNG_UNAVAILABLE) ∧
        t.cnt aRNG_UNAVAIL_CNT 0 = (s.cnt aRNG_UNAVAIL_CNT 0 + 1) % 2 ^ 32) ∧
    (∀ fn w r, s.rngWords fn = w :: r → s.rngPort fn = true → answers (.rngData fn) s fun t =>
      t.rngWords fn = r ∧ t.outbox = s.outbox ++ [.readData fn aRNG_DATA (BitVec.ofNat 32 (2 ^ 31 + w % 65536))]) ∧
    (∀ fn, (s.rngWords fn = [] ∨ s.rngPort fn = false) → answers (.rngData fn) s fun t =>
      t.rngWords fn = s.rngWords fn ∧ fn ∈ t.rng.err ∧ t.outbox = s.outbox ++ [.readData fn aRNG_DATA 0] ∧
      t.cnt aRNG_EMPTY_READS 0 = (s.cnt aRNG_EMPTY_READS 0 + 1) % 2 ^ 32) ∧
    (∀ fn, s.ready 3 = true → s.rngPort fn = true → (s.rngWords fn).length ≤ 32 → 1 ≤ s.drbgCover 0 →
      answers (.rngBufferRefill fn) s fun t => ∃ ws : List Nat, ws.length = 32 ∧ (∀ w ∈ ws, w < 65536) ∧
        t.rngWords fn = s.rngWords fn ++ ws)

/-- For every state: a settled source starts up if enabled and is disabled otherwise; a failed test of a running or
starting source retires it at once, begins a new switch epoch, and throws away every staged seed; a passed start-up
test makes the source ACTIVE or STANDBY and ends the loss of the RNG; an automatic retest comes a second after the
retirement and is barred for a day after the last passed one; a retest on request starts exactly the retired sources
named; a conditioner block goes to the first stopped DRBG, else to the first not instantiated, else to the first
without a staged seed; a DRBG at its limit reseeds from its staged seed, or stops; an expander with 65,536 bytes or
less takes a new seed of 1,048,576 bytes; with no source left the RNG has failed. (R476, R478, R480, R483, R484,
R485, R486, R490, R492, R494) -/
def Obligations.NoiseSourcesAndSeeds : Prop :=
  ∀ (s : State) (i d : Nat),
    let x := s.source i
    (i < 4 → s.domain 4 = .on → x.state = .off → answers (.noiseSourceSettled i) s fun t =>
      (t.source i).state = if bitAt (s.fld aRNG_CTL 3 0) i then .startup else .disabled) ∧
    (∀ test, i < 4 → ((x.state = .active ∨ x.state = .standby) ∧ (test = 1 ∨ test = 2) ∨ x.state = .startup ∧ test = 3) →
      answers (.noiseSourceFail i test) s fun t => (t.source i).state = .retired ∧ (t.source i).retiredAt = s.now ∧
        t.rng.epoch = s.rng.epoch + 1 ∧ ∀ k, (t.drbg k).staged = none) ∧
    (i < 4 → x.state = .startup → answers (.startupTestPass i) s fun t => t.rng.failed = false ∧
      (t.source i).state = (if (s.sourcesIn .active).length = 0 ∨
        ((s.sourcesIn .active).length < 2 ∧ (x.joining = true ∨ s.rng.ready = false)) then .active else .standby)) ∧
    (i < 4 → x.state = .retired → s.fld aRNG_CTL 8 8 = 1 → s.passed x.retiredAt (10 ^ 9) = true →
      answers (.autoRetest i) s fun t =>
      (t.source i).state = if x.retestPassed.any (fun p => x.retiredAt < p + 86400 * 10 ^ 9) then .retired else .startup) ∧
    (∀ v : Reg, i < 4 → answers (.rngRetest v) s fun t =>
      (t.source i).state = if bitAt v.toNat i = true ∧ x.state = .retired then .startup else x.state) ∧
    (s.sourcesIn .active ≠ [] → answers .conditionerBlock s fun t =>
      (∀ k, seedOrder.find? (fun k => (s.drbg k).stopped) = some k →
        (t.drbg k).stopped = false ∧ (t.drbg k).left = reseedInterval ∧ (t.drbg k).epoch = s.rng.epoch) ∧
      (seedOrder.find? (fun k => (s.drbg k).stopped) = none →
        (∀ k, seedOrder.find? (fun k => !(s.drbg k).inst) = some k →
          t.drbg k = { inst := true, left := reseedInterval, epoch := s.rng.epoch }) ∧
        (seedOrder.find? (fun k => !(s.drbg k).inst) = none →
          ∀ k, seedOrder.find? (fun k => (s.drbg k).staged.isNone) = some k → (t.drbg k).staged = some s.rng.epoch))) ∧
    (d ≤ 8 → (s.drbg d).inst = true → (s.drbg d).left = 0 → (s.drbg d).stopped = false →
      answers (.drbgReseed d) s fun t => match (s.drbg d).staged with
        | some e => t.drbg d = { s.drbg d with staged := none, left := reseedInterval, epoch := e, stopped := false }
        | none => t.drbg d = { s.drbg d with stopped := true }) ∧
    (∀ cls eng, 1 ≤ classCode cls → classCode cls ≤ 4 → eng < classSize (classCode cls) →
      (s.expander (engKey (classCode cls) eng)).left ≤ 65536 → s.ready 3 = true →
      1 ≤ s.drbgCover (classDrbg (classCode cls)) → answers (.expanderSeed cls eng) s fun t =>
        (t.expander (engKey (classCode cls) eng)).left = 1048576) ∧
    (s.domain 4 = .on → s.rng.failed = false → (∀ k, k < 4 → (s.source k).state = .retired ∨ (s.source k).state = .disabled) →
      answers .rngFailed s fun t => t.rng.failed = true) ∧
    (s.rng.ready = false → (∀ k, k < 9 → (s.drbg k).inst = true ∧ (s.drbg k).staged.isSome) → s.domain 4 = .on →
      s.fc.mstate ≠ .fault → answers .rngReady s fun t => t.rng.ready = true ∧ t.ready 3 = true)

/-- For every operand: STREAM_CREATE and STREAM_MODIFY end with the status of the first check that fails and stage
nothing, or DONE with the new or changed context staged last for the next boundary; STREAM_DELETE stages the
deletion of a context that stands; STREAM_STATS returns the sixteen counters of one where its result fits;
PORT_CONFIG writes the lanes' shadow registers and waits for its group to be applied; with an approved key
MACSEC_SA_INSTALL installs the association or ends LIMIT_EXCEEDED; EVENT_SIGN_POLICY stores the policy, keeping its
event sequence number, or removes it. A stream number of 1,048,576 or more is MALFORMED. (R513, R514, R515, R519,
R525, R532, R535, R536, R537, R538) -/
def Obligations.StreamCommands : Prop :=
  ∀ (s : State) (j : Nat) (b : Job),
    let id := tlvNat b.params 0x00E0 0
    let staged := fun (t : State) (c : StreamChange) =>
      endsQuietly s t j (done []) ∧ t.tr = { s.tr with staged := s.tr.staged ++ [(id, c)] }
    let refused := fun (t : State) (f : Nat × Bool) => endsQuietly s t j (failed f.1) ∧ t.tr = s.tr ∧
      (f.2 = true → t.cnt aKS_REFUSALS 0 = (s.cnt aKS_REFUSALS 0 + 1) % 2 ^ 32)
    (runsMp s j b opSTREAM_CREATE → s.createRefused b = none → answers (.streamCreate j) s fun t =>
      staged t (.create (b.newStream (s.cls (tlvNat b.params 0x00E1 0) 30 28)))) ∧
    (∀ f, runsMp s j b opSTREAM_CREATE → s.createRefused b = some f → answers (.streamCreate j) s fun t => refused t f) ∧
    (∀ x, runsMp s j b opSTREAM_MODIFY → tget s.streamsNext id = some x → s.modifyRefused b x = none →
      answers (.streamModify j) s fun t =>
        let promote := tlvNat b.params 0x00EB 0 == 1
        staged t (.modify (b.modified x promote) promote (tlvNat b.params 0x00EC 0 == 1))) ∧
    (∀ x f, runsMp s j b opSTREAM_MODIFY → tget s.streamsNext id = some x → s.modifyRefused b x = some f →
      answers (.streamModify j) s fun t => refused t f) ∧
    (runsMp s j b opSTREAM_DELETE → id < 1048576 →
      ((tget s.streamsNext id).isSome → answers (.streamDelete j) s fun t => staged t .delete) ∧
      (tget s.streamsNext id = none → answers (.streamDelete j) s fun t => refused t (stCONFIG_INCONSISTENT, false))) ∧
    (runsMp s j b opSTREAM_STATS → id < 1048576 → (b.doneFit [⟨0x00ED, zeros 64⟩]).status = stDONE →
      (∀ x, s.stream id = some x → answers (.streamStats j) s fun t => endsQuietly s t j
        (done [⟨0x00ED, ((List.range 16).map fun k => leBytes (tgetD x.stats k 0) 4).flatten⟩])) ∧
      (s.stream id = none → answers (.streamStats j) s fun t => refused t (stCONFIG_INCONSISTENT, false))) ∧
    (runsMp s j b opPORT_CONFIG → (tlvAll b.params 0x00FC).length ≤ 512 →
      (∀ v ∈ tlvAll b.params 0x00FC, leAt v 0 2 ≤ 511 ∧ allZero (v.drop 10) = true) → s.groupsBusy 0x0040 = false →
      answers (.portConfig j) s fun t => otherJobsKept s t j ∧ t.regs = s.regs ∧
        t.cfg.pending = s.cfg.pending ||| 0x0040 ∧ t.cfg.byMp = s.cfg.byMp ||| 0x0040 ∧
        t.job j = some { b with wait := .applied 0x0040, after := some (done []) } ∧
        ∀ v ws, tlvAll b.params 0x00FC = ws ++ [v] →
          t.shadowReg (aPT_LANE + 4 * leAt v 0 2) = writable (aPT_LANE + 4 * leAt v 0 2) (leAt v 2 4) % 2 ^ 32 ∧
          t.shadowReg (aPT_PEER + 4 * leAt v 0 2) = writable (aPT_PEER + 4 * leAt v 0 2) (leAt v 6 4) % 2 ^ 32) ∧
    (∀ s' : State,
      let p := tlvNat b.params 0x00E3 0
      let an := tlvNat b.params 0x00F5 0
      let dir := tlvNat b.params 0x00F6 0
      let xpn := tlvNat b.params 0x00F7 0
      let dirBit := if dir = 1 then 1 else 2
      let need : KeyNeed :=
        { handle := b.handle, types := [0x02], lens := [32], policy := [dirBit, 9, 22], counted := false }
      runsMp s j b opMACSEC_SA_INSTALL → b.portBad 0x00E3 = false → an ≤ 3 → dir ≤ 1 → xpn ≤ 1 →
      b.has 0x00F9 = (xpn == 1) → b.has 0x00FA = (xpn == 1) → tlvNat b.params 0x00FB 0 ≤ 2 ^ 30 → s.portOk p = true →
      s.macsecOn p = true → s.approve 0 [need] = .ok s' →
      answers (.macsecSaInstall j) s fun t => ∃ a : MacsecSa, a.slot = hSlot b.handle ∧
        a.key = (s'.slot (hSlot b.handle)).val ∧ a.xpn = (xpn == 1) ∧ a.ssci = tlvNat b.params 0x00F9 0 ∧
        a.salt = b.val 0x00FA ∧ a.replay = tlvNat b.params 0x00FB 0 ∧ a.pn = tlvNat b.params 0x00F8 0 ∧
        match (s.macsecOf p).install (tlvNat b.params 0x00F4 0) an (dir == 1) a with
        | none => endedWith t j (failed stLIMIT_EXCEEDED) ∧ t.macsecOf p = s.macsecOf p
        | some m => endedWith t j (done []) ∧ t.macsecOf p = m) ∧
    (∀ s' : State,
      let p := tlvNat b.params 0x00EE 0
      runsMp s j b opEVENT_SIGN_POLICY → policyBad b = false → tlvNat b.params 0x00F3 0 ≠ 1 →
      b.sources.any s.sourceBad = false → tlvNat b.params 0x0004 0 ≤ 128 → s.instExists (tlvNat b.params 0x0004 0) = true →
      s.approve 0 (policyNeeds b) = .ok s' → answers (.eventSignPolicy j) s fun t => endedWith t j (done []) ∧
        ∃ x, tget t.tr.policies p = some x ∧ x.key = b.handle ∧ x.pset = b.pset ∧ x.combo = b.combo ∧
          x.sources = b.sources ∧ x.inst = tlvNat b.params 0x0004 0 ∧
          x.seq = ((tget s.tr.policies p).map (·.seq)).getD 0) ∧
    (runsMp s j b opEVENT_SIGN_POLICY → policyBad b = false → tlvNat b.params 0x00F3 0 = 1 →
      (tget s.tr.policies (tlvNat b.params 0x00EE 0)).isSome → answers (.eventSignPolicy j) s fun t =>
        endsQuietly s t j (done []) ∧ tget t.tr.policies (tlvNat b.params 0x00EE 0) = none)

/-- On a lane that is up: a frame of a bad length is counted and changes nothing else; on a lane without MACsec and
redundancy a frame of no stream leaves by its forwarding lane, and one of a stream for which an SE has room is held
with its stream's context, marked to drop when its lengths differ. A held frame that may leave is gone after its
egress, and is sent exactly when it is not dropped; a frame of the management port leaves by its MACsec lane; a
signed event is sent with its element behind its bytes, and one whose signing has not started at its limit loses its
job, and is gone. (R505, R507, R509, R516, R518, R521, R523, R524, R526, R527) -/
def Obligations.StreamTraffic : Prop :=
  ∀ (s : State),
    let plain := fun (l : Nat) => s.laneUp l = true ∧ s.macsecOn l = false ∧ s.redPeer l = none
    (∀ f : Frame, s.laneUp f.lane = true → (f.wireLen < 64 ∨ s.maxFrame (s.portOf f.lane) < f.wireLen) →
      answers (.streamFrame f) s fun t => t = { s with cnts := t.cnts } ∧
        t.cnt aPT_RX_ERR f.lane = (s.cnt aPT_RX_ERR f.lane + 1) % 2 ^ 32) ∧
    (∀ f : Frame, let p := s.portOf f.lane
      s.laneUp f.lane = true → 64 ≤ f.wireLen → f.wireLen ≤ s.maxFrame p → s.macsecOn p = false →
      s.redPeer f.lane = none →
      (let fwd := s.fld (aPT_PEER + 4 * p) 25 16
       s.classify p f = none → fwd ≤ 511 → plain fwd → answers (.streamFrame f) s fun t =>
        t.outbox = s.outbox ++ [.frame fwd none (f.body ++ f.tag)] ∧ t.tr = s.tr) ∧
      (∀ id x, s.classify p f = some (id, x) → (s.takeSe (f.lane / 128) x.cls (ceilDiv f.wireLen 64)).isSome →
        answers (.streamFrame f) s fun t => ∃ fl : Flight, t.flight s.tr.nextFlight = some fl ∧ fl.frame = f ∧
          fl.stream = id ∧ fl.ctx = x ∧ t.tr.nextFlight = s.tr.nextFlight + 1 ∧
          (f.declaredLen ≠ f.receivedLen → fl.drop = true))) ∧
    (∀ id f, s.flight id = some f → f.stage = .egress → answers (.frameEgress id) s fun t => t.flight id = none ∧
      (f.drop = true → t.outbox = s.outbox) ∧
      (f.drop = false → plain f.ctx.outPort →
        t.outbox = s.outbox ++ [.frame f.ctx.outPort (if f.flagged then some f.ctx.flagVid else none) f.bytes])) ∧
    (∀ vid bytes, vid ≠ 0 → s.laneUp (vid - 1) = true → s.macsecOn (vid - 1) = true →
      answers (.mgmtLaneFrame vid bytes) s fun t => t.outbox = s.outbox ++ [.frame (vid - 1) none bytes] ∧
        t.cnt aPT_TX_FRAMES (vid - 1) = (s.cnt aPT_TX_FRAMES (vid - 1) + 1) % 2 ^ 32) ∧
    (∀ ev f, s.flight ev = some f → f.signed = true → answers (.signedEventRelease ev) s fun t => t.flight ev = none ∧
      (f.drop = true → t.outbox = s.outbox) ∧
      (f.drop = false → plain f.ctx.outPort → .frame f.ctx.outPort (if f.flagged then some f.ctx.flagVid else none)
        (f.bytes ++ signedElement f) ∈ t.outbox)) ∧
    (∀ ev f j b, s.flight ev = some f → f.stage = .event j → s.job j = some b → b.phase = .fifo →
      f.arrived + f.limit ≤ s.tb.crossings →
      answers (.lateLimitExpiry ev) s fun t => t.flight ev = none ∧ t.job j = none ∧
        (f.lateDrop = true → t.outbox = s.outbox))

/-- For every state: a lane whose link falls is down; one whose link rises is up when it is enabled, ready, and its
cage's module carries it; an overcurrent in a powered cage takes power, module and the cage's lanes away and leaves
it at fault; plugging a module into a powered cage makes it present, with the first four lanes if it is a narrow
one, and unplugging takes its lanes down; flushing a FIFO from 0 to 87, or a mismatch of its pointers, leaves no
item in it, adds the number it held to its discard or loss count, and a number above 87 does nothing. (R500, R501,
R502, R503, R504, R509, R533, R595) -/
def Obligations.LanesCagesAndFifos : Prop :=
  ∀ (s : State) (l c fifo : Nat),
    answers (.laneLinkChange l false) s (fun t => l ∉ t.tr.up ∧ ∀ k, k ≠ l → (k ∈ t.tr.up ↔ k ∈ s.tr.up)) ∧
    (l < 512 → s.speed l ≠ 0 → s.ready (17 + l / 128) = true → (s.cage (l / 8)).carries l = true →
      answers (.laneLinkChange l true) s fun t => l ∈ t.tr.up ∧ ∀ k, k ≠ l → (k ∈ t.tr.up ↔ k ∈ s.tr.up)) ∧
    ((s.cage c).powered = true → answers (.cageOvercurrent c) s fun t =>
      t.cage c = { fault := true } ∧ ∀ k ∈ t.tr.up, k / 8 ≠ c ∧ k ∈ s.tr.up) ∧
    ((s.cage c).powered = true → ∀ narrow, answers (.cageModulePresent ⟨c, narrow⟩) s fun t =>
      t.cage c = { powered := true, present := true, narrow := narrow } ∧
      t.tr.up = s.tr.up.filter fun k => k / 8 != c || !narrow || k % 8 < 4) ∧
    answers (.cageModuleUnplugged c) s (fun t =>
      t.cage c = { s.cage c with present := false, narrow := false } ∧ ∀ k ∈ t.tr.up, k / 8 ≠ c ∧ k ∈ s.tr.up) ∧
    (∀ v : Reg, v.toNat % 128 ≤ 87 → answers (.ptFifoFlush v) s fun t => t.fifoItems (v.toNat % 128) = 0 ∧
      t.cnt aPT_FIFO_DISCARD (v.toNat % 128) =
        (s.cnt aPT_FIFO_DISCARD (v.toNat % 128) + s.fifoItems (v.toNat % 128)) % 2 ^ 32) ∧
    (fifo ≤ 87 → answers (.fifoPointerMismatch fifo) s fun t => t.fifoItems fifo = 0) ∧
    (∀ v : Reg, 87 < v.toNat % 128 → answers (.ptFifoFlush v) s fun t => t = s) ∧
    (87 < fifo → answers (.fifoPointerMismatch fifo) s fun t => t = s)

/-- For a well-formed command whose results fit and that no partner has to be told first: creating an absent instance or
setting the shares of a standing one writes the shares' shadow registers, asks for their group, and waits for it to
be applied; with a value outside its range the group is asked for all the same, with the fail code and register for
which the guard will refuse it; quiescing an active one starts it and waits, of a quiesced one ends DONE with its
generation; resuming a quiescing or quiesced one waits for the guard, of an active one ends DONE; resetting a
quiesced one (or a quiescing one under FORCE) makes it RESETTING under its next generation, and removing it makes it
absent, and both end DONE; in any other state these end CONFIG_INCONSISTENT (absent) or INSTANCE_BUSY. (R541, R543,
R544, R545, R546, R550, R551, R553, R554, R555, R556, R557) -/
def Obligations.InstanceCommands : Prop :=
  ∀ (s : State) (j : Nat) (b : Job),
    let n := b.target
    let x := s.inst n
    let shareOk := fun (bad : Bool) => b.shareFormBad = false ∧ b.mirrorStep s.mirrorMode = .here ∧ s.groupsBusy 0x0100 = false ∧
      b.noRoom (tlvLen 4) = false ∧ b.shareRangeBad = bad ∧ tlvNat b.params 0x0136 0 ≤ 1 ∧
      s.mapBusy (s.mapOf s.reg n) (applyMap (s.mapOf s.reg n) (mapEntries (b.val 0x0130))) = false
    let staged := fun (create : Bool) (t : State) =>
      t.shadow = (s.shareWrites n b create).foldl (fun m w => tset m w.1 (BitVec.ofNat 32 w.2)) s.shadow ∧
      t.cfg.pending = s.cfg.pending ||| 0x0100 ∧ t.cfg.byMp = s.cfg.byMp ||| 0x0100 ∧ otherJobsKept s t j ∧
      t.job j = some { b with wait := .applied 0x0100, after := some (done [genTlv (x.gen + 1)]) }
    let faulty := fun (t : State) => t.cfg.shareFault = b.shareFault ∧
      t.shadow = s.staleShares.foldl (fun m w => tset m w.1 (BitVec.ofNat 32 w.2)) s.shadow ∧
      t.cfg.pending = s.cfg.pending ||| 0x0100 ∧ otherJobsKept s t j ∧
      t.job j = some { b with wait := .applied 0x0100, after := some (failed stCONFIG_INCONSISTENT) }
    let waits := fun (t : State) (resume : Bool) => ∃ b', t.job j = some b' ∧ b'.wait = .quiesce n resume
    1 ≤ n → n ≤ 128 →
    (runsMp s j b opINSTANCE_CREATE → x.state = .absent →
      (shareOk false → answers (.instanceCreate j) s (staged true)) ∧
      (shareOk true → answers (.instanceCreate j) s faulty)) ∧
    (runsMp s j b opINSTANCE_SHARE_SET → x.state ≠ .absent → x.state ≠ .resetting →
      (shareOk false → answers (.instanceShareSet j) s (staged false)) ∧
      (shareOk true → answers (.instanceShareSet j) s faulty)) ∧
    (runsMp s j b opINSTANCE_QUIESCE → b.resume = false → 1 ≤ tlvNat b.params 0x0135 4800 →
      tlvNat b.params 0x0135 4800 ≤ 96000 → tlvNat b.params 0x0136 0 ≤ 1 → b.noRoom (tlvLen 4) = false →
      answers (.instanceQuiesce j) s fun t => match x.state with
        | .absent => endedWith t j (failed stCONFIG_INCONSISTENT)
        | .resetting => endedWith t j (failed stINSTANCE_BUSY)
        | .quiesced => endsQuietly s t j (done [genTlv x.gen])
        | .quiescing => waits t false ∧ t.inst n = x
        | .active => waits t false ∧ (t.inst n).state = .quiescing ∧ (t.inst n).disableAsked = true ∧
            (t.inst n).waitUntil = s.tb.crossings + tlvNat b.params 0x0135 4800) ∧
    (runsMp s j b opINSTANCE_QUIESCE → b.resume = true → b.noRoom (tlvLen 4) = false →
      answers (.instanceResume j) s fun t => match x.state with
        | .absent => endedWith t j (failed stCONFIG_INCONSISTENT)
        | .resetting => endedWith t j (failed stINSTANCE_BUSY)
        | .active => endsQuietly s t j (done [genTlv x.gen])
        | _ => waits t true ∧ t.inst n = { x with resumeAsked := true }) ∧
    (runsMp s j b opINSTANCE_RESET → tlvNat b.params 0x0136 0 ≤ 1 → b.noRoom (tlvLen 4) = false →
      b.mayReset x = true → answers (.instanceReset j) s fun t =>
        endedWith t j (done [genTlv (x.gen + 1)]) ∧ (t.inst n).state = .resetting ∧ (t.inst n).after = .active ∧
        (t.inst n).bumpGen = true) ∧
    (runsMp s j b opINSTANCE_REMOVE → b.shareFormBad = false → tlvNat b.params 0x0136 0 ≤ 1 →
      b.noRoom (tlvLen 4) = false → b.mirrorStep s.mirrorMode = .here →
      (s.xs.active.map (·.berths)).any (fun bs => bs.any fun w => w.kind == 3 && w.owner == n) = false →
      b.mayReset x = true → answers (.instanceRemove j) s fun t =>
        endedWith t j (done [genTlv 0]) ∧ (t.inst n).state = .absent)

/-- For every instance from 1 to 128 that stands, after INSTANCE_RESET of it completes or a function-level reset of its
function: no slot that counts belongs to it, no sealed copy of an expanded key does, and no digest context of it is
left; the contexts it saved can no longer be restored as its wrapping key has been drawn anew and its count of saved
contexts begins at 0. (R466, R546, R547, R553) -/
def Obligations.InstanceWipeLeavesNothing : Prop :=
  ∀ (s : State) (n : Nat),
    let wiped := fun (t : State) => (∀ k, (t.slot k).inst = n → (t.slot k).counts = false) ∧
      (∀ c ∈ t.parts.sealed, c.inst ≠ n) ∧ (∀ e ∈ t.digests, e.1 / 16384 ≠ n) ∧ (t.inst n).wrapCount = 0 ∧
      ∃ k, (t.inst n).wrapKey = (List.range 32).map fun i => Config.freeByte (k + i)
    1 ≤ n → n ≤ 128 → (s.inst n).state ≠ .absent →
    answers (.functionLevelReset n) s wiped ∧
    ∀ j b, runsMp s j b opINSTANCE_RESET → b.target = n → tlvNat b.params 0x0136 0 ≤ 1 → b.noRoom (tlvLen 4) = false →
      b.mayReset (s.inst n) = true → answers (.instanceReset j) s wiped

/-- For every instance n: a quiescing instance with no enabled or busy pair and no job is quiesced, and the commands
that wait for it end DONE with its generation; at the wait limit they end INSTANCE_BUSY and it stays quiescing; the
end of a reset gives the state it was to take (quiesced when that is told); the end of zeroing frees the scratch; a
function-level reset of a standing instance makes it RESETTING, back to the state it had; enabling or disabling VFs
takes the new numbers over, at most 128, and resets every standing instance whose VF goes; a PCIe reset resets every
standing instance, disables all VFs and takes the link and its ready bit down. (R541, R545, R547, R551, R554, R555,
R558) -/
def Obligations.InstanceEvents : Prop :=
  ∀ (s : State) (n : Nat),
    let x := s.inst n
    let resets := fun (t : State) (n : Nat) => (t.inst n).state = .resetting
    (x.state = .quiescing → s.quiet n = true → answers (.instanceQuiesced n) s fun t => (t.inst n).state = .quiesced ∧
      (t.inst n).gen = x.gen ∧
      ∀ j b, s.job j = some b → b.wait = .quiesce n false → endedWith t j (done [genTlv x.gen])) ∧
    (x.state = .quiescing → x.waitUntil ≤ s.tb.crossings → answers (.quiesceWaitExpiry n) s fun t => t.insts = s.insts ∧
      ∀ j b, s.job j = some b → b.wait = .quiesce n false → endedWith t j (failed stINSTANCE_BUSY)) ∧
    (x.state = .resetting → answers (.instanceResetDone n) s fun t =>
      (t.inst n).state = if x.tell then .quiesced else x.after) ∧
    answers (.scratchZeroingDone n) s (fun t => t.inst n = { x with zeroing := 0 }) ∧
    (1 ≤ n → n ≤ 128 → answers (.functionLevelReset n) s fun t =>
      (x.state = .absent → t.inst n = x) ∧ (x.state ≠ .absent → resets t n) ∧
      (x.state = .active → (t.inst n).after = .active) ∧
      (x.state = .quiesced ∨ x.state = .quiescing → (t.inst n).after = .quiesced)) ∧
    (∀ enable num, answers (.vfDisable enable num) s fun t =>
      t.pcie.vfEnable = enable ∧ t.pcie.numVfs = min num 128 ∧
      (1 ≤ n → n ≤ 128 → s.vfOn n = true → (enable = false ∨ min num 128 < n) → x.state ≠ .absent → resets t n)) ∧
    (∀ num, answers (.vfEnable num) s fun t => t.pcie.vfEnable = true ∧ t.pcie.numVfs = min num 128 ∧
      (1 ≤ n → n ≤ 128 → s.vfOn n = true → min num 128 < n → x.state ≠ .absent → resets t n)) ∧
    answers .pcieReset s (fun t => t.pcie.vfEnable = false ∧ t.pcie.numVfs = 0 ∧ t.ready 6 = false ∧
      (1 ≤ n → n ≤ 128 → x.state ≠ .absent → resets t n))

/-- For an enabled pair behind a doorbell: DB_SQ_TAIL sets the tail within the ring, wakes a phase-mode pair, and beyond
the ring sets DB_ERR; DB_CQ_HEAD moves the head up to the tail, and beyond it sets DB_ERR; both change nothing for a
disabled pair or where no pair is mapped. Where fetching is open and a whole entry waits, the head moves past it; of
a draining pair it is completed; a malformed one is counted and completed; one that passes its checks becomes the
next job, fenced, slow or in its FIFO as it asks. Where fetching is not open nothing changes. An SQ that cannot be
read is an error of its pair, a poll arms a phase-mode pair when the unit is of this lap, and a fenced job goes on
when every earlier entry has completed. For the pair behind a tenant's setup words: setting ENABLE on a disabled,
IDLE pair asks to enable it with the setup words as they stand; clearing ENABLE on an enabled one asks to disable
it; a write of DB_VECTOR or DB_MOD on an enabled one asks to change its interrupt; each takes its place behind
earlier requests of other kinds. A setup write to an enabled or draining pair that asks for nothing sets WR_IGNORED;
to one that is neither, where no low word is held beside it, it is stored and asks for nothing. The physical
function's words are read-only. (R155, R156, R167, R170, R174, R175, R181, R182, R184, R188, R677) -/
def Obligations.QueueDoorbellsFetchesAndSetup : Prop :=
  (∀ (s : State) (q : Nat),
       let p := s.pair q
       let others := fun (t : State) => t.jobs = s.jobs ∧ ∀ k, k ≠ q → t.pair k = s.pair k
       (∀ fn pair (v : Reg), let tail := v.toNat % 65536
         (s.doorPair fn pair = none → answers (.dbSqTail fn pair v) s (fun t => t = s) ∧ answers (.dbCqHead fn pair v) s fun t => t = s) ∧
         (s.doorPair fn pair = some q →
           (p.enabled = false → answers (.dbSqTail fn pair v) s fun t => t = s) ∧
           (p.enabled = false → p.draining = false → answers (.dbCqHead fn pair v) s fun t => t = s) ∧
           (p.enabled = true → s.qPhase q = true → answers (.dbSqTail fn pair v) s fun t => (t.pair q).armed = true ∧ others t) ∧
           (p.enabled = true → s.qPhase q = false → answers (.dbSqTail fn pair v) s fun t => others t ∧
             (t.pair q).sqTail = (if tail < s.sqSize q then tail else p.sqTail) ∧
             (t.pair q).dbErr = (p.dbErr || decide (s.sqSize q ≤ tail))) ∧
           (p.enabled = true ∨ p.draining = true →
             let n := s.cqSize q
             if tail < n ∧ (tail + n - p.cqHead) % n ≤ (p.cqTail + n - p.cqHead) % n
             then answers (.dbCqHead fn pair v) s fun t => (t.pair q).cqHead = tail ∧ t.jobs = s.jobs
             else answers (.dbCqHead fn pair v) s fun t => t = s.setPair q { p with dbErr := true }))) ∧
       (∀ entry params table,
         let units := entryUnits (s.qFmt2 q) entry
         let s' := (s.advanceHead q units).mirror q
         let src := Source.queue q
         (s.fetchOpen q = false → answers (.entryFetch q entry params table) s fun t => t = s) ∧
         (s.fetchOpen q = true →
           (if s.qPhase q then p.armed = true ∧ bitAt (leAt entry 8 2) 15 = s.lapPhase q
             else 0 < s.sqFilled q ∧ units ≤ s.sqFilled q) →
           (p.draining = true → answers (.entryFetch q entry params table) s fun t =>
             t.job s.nextJob = none ∧ ∀ i, i ≠ s.nextJob → t.job i = s.job i) ∧
           (∀ st, p.draining = false → parseEntry (s.qFmt2 q) entry params table = .error st →
             answers (.entryFetch q entry params table) s fun t => t.job s.nextJob = none ∧
               (t.pair q).sqHead = (p.sqHead + units) % s.sqSize q ∧
               t.cnt aQ_REJECT_CNT q = (s.cnt aQ_REJECT_CNT q + 1) % 2 ^ 32) ∧
           (∀ e o ts, p.draining = false → parseEntry (s.qFmt2 q) entry params table = .ok e →
             s'.check src p.owner e = .passed o ts → answers (.entryFetch q entry params table) s fun t =>
               (t.pair q).sqHead = (p.sqHead + units) % s.sqSize q ∧
               t.jobs = tset s.jobs s.nextJob (s'.jobOf src p.owner e ts
                 (if s'.fenced src e.header.flags then .fenced else if o.mp then .slow else .fifo))))) ∧
       (s.fetchOpen q = true → s.sqWaiting q = true ∨ s.qPhase q = true → p.enabled = true → answers (.sqReadFailed q) s fun t =>
         (t.pair q).error = true ∧ t.jobs = s.jobs) ∧
       (∀ unit, p.enabled = true → s.qPhase q = true → s.qKind q = 0 → s.inD3 p.owner = false → p.error = false →
         answers (.phasePoll q unit) s fun t => others t ∧ (t.pair q).armed = (bitAt (leAt unit 8 2) 15 == s.lapPhase q)) ∧
       (∀ j b, s.job j = some b → b.phase = .fenced →
         (∀ e ∈ s.jobs, e.2.src = b.src → b.seqInQueue ≤ e.2.seqInQueue) → answers (.fenceRelease j) s fun t =>
           t.job j = some { b with phase := if b.isMp then .slow else .fifo } ∧ otherJobsKept s t j ∧ t.pairs = s.pairs)) ∧
  (∀ (s : State) (fn pair q : Nat) (v : Reg),
       let p := s.pair q
       let word := fun (r : Nat) => BitVec.ofNat 32 (qMask r).1 &&& v
       let stored := fun (r : Nat) => tput p.setup (dbOffset r) (word r) (BitVec.ofNat 32 (qMask r).2)
       let asked := fun (r : Nat) (what : SetupRequest) (t : State) => t = s.setPair q { p with
         setup := stored r, asked := stored r, requests := (p.requests.erase what) ++ [what] }
       let written := fun (r : Nat) (t : State) => tget p.lowHeld (r - 4) = none → t = s.setPair q
         (if p.enabled || p.draining then { p with wrIgnored := true } else { p with setup := stored r })
       let r := fun (vector : Bool) => if vector then aQ_VECTOR else aQ_MOD
       (s.tenantPair fn pair = some q →
         (p.enabled = false → p.idle = true → v.getLsbD 0 = true → answers (.tenantEnableRequest fn pair v) s (asked aQ_CTL .enable)) ∧
         (p.enabled = true ∨ p.idle = false ∨ v.getLsbD 0 = false → answers (.tenantEnableRequest fn pair v) s (written aQ_CTL)) ∧
         (p.enabled = true → v.getLsbD 0 = false → answers (.tenantDisableRequest fn pair v) s (asked aQ_CTL .disable)) ∧
         (p.enabled = false ∨ v.getLsbD 0 = true → answers (.tenantDisableRequest fn pair v) s (written aQ_CTL)) ∧
         ∀ vector, (p.enabled = true → answers (.tenantInterruptChange fn pair vector v) s (asked (r vector) .interrupt)) ∧
           (p.enabled = false → answers (.tenantInterruptChange fn pair vector v) s (written (r vector)))) ∧
       answers (.tenantEnableRequest 0 pair v) s (fun t => t = s) ∧
       answers (.tenantDisableRequest 0 pair v) s (fun t => t = s) ∧
       ∀ vector, answers (.tenantInterruptChange 0 pair vector v) s fun t => t = s)

/-- For an engine that may be used, with no berth, lead-in or saved context, and one waiting best-effort job of its
class that may run there, of an instance with a weight: when the job's plan and keys pass every check it runs on
that engine, which is busy with it, from this crossing (a task of the management processor is then over, and waits
to be completed); when its deadline has passed it ends DEADLINE_MISSED and the engine stays free. With the MP
running and fewer than four commands running, the one with the lowest order starts; of a quiescing tenant it ends
ABORTED. A job that has not started when the stamp reaches its deadline ends DEADLINE_MISSED. (R78, R91, R121, R133,
R138, R446, R554) -/
def Obligations.JobsStart : Prop :=
  ∀ (s : State) (j : Nat) (b : Job), s.job j = some b →
    (∀ (c : EngClass) (i : Nat),
      let cls := classCode c
      let k := engKey cls i
      s.engUsable cls i = true → s.domain (engDomain cls i) ≠ .draining → (s.eng k).leadIn = none →
      s.fc.withheld ≠ some (cls, i) → (s.eng k).berth = none → (s.eng k).saved = [] → s.hasEventBerth b = false →
      (cls = 5 → bitAt (s.fld aSE_CTL 7 0) i = true) → (cls = 6 → bitAt (s.fld aDE_CTL 11 0) i = true) →
      s.candidate b cls i = true → s.forkSet b cls i none = some [] → s.clearsBerth b cls i [] = true →
      (∀ e ∈ s.jobs, e.2.waitsFor cls = true → s.hasEventBerth e.2 = false → e = (j, b)) →
      b.inst ≤ 128 → s.weight b.inst cls ≠ 0 →
      (s.deadlinePassed b = true → answers (.jobGrant c i) s fun t =>
        endedWith t j (failed stDEADLINE_MISSED) ∧ t.eng k = s.eng k) ∧
      (∀ p lim s', s.deadlinePassed b = false → s.planOf b = (p, lim) → p.early = none → p.resultLen ≤ b.resultCap →
        p.outLen ≤ outputLen b.frags → p.bad = none → s.approve b.inst p.needs = .ok s' → s.leafGrant b = .none →
        (∀ e ∈ k :: (if b.twoHalves then s.halfFor.toList else []), s.covered b (e / 64) e = true) → b.noEngine = false →
        (b.task = none → ∀ x ∈ clusterOf cls i,
          (s.packOf x).has (tableOpcode b.opcode) (if cls = 1 then some (s.profParam b) else none) = true) →
        s.badCopy b.handle = none → (b.task.isSome → s.hasSealed b.handle = false) →
        answers (.jobGrant c i) s fun t => (t.eng k).busy = some j ∧ otherJobsKept s t j ∧ ∃ b', t.job j = some b' ∧
          b'.phase = (if b.task.isSome then .ended else .running) ∧ b'.engine = some (cls, i) ∧ b'.start = s.tb.stamp ∧
          b'.opcode = b.opcode ∧ b'.ending = (if b.task.isSome then some (done []) else none) ∧
          b'.work = (p.needs.filter fun n => n.role == .key).map fun n => (s'.slot (hSlot n.handle)).val)) ∧
    (s.mp.state = .run → (s.jobsWhere fun x => x.isMp && x.phase == .running).length < 4 → s.fc.mstate ≠ .fault →
      b.phase = .slow → (∀ e ∈ s.jobs, e.2.phase = .slow → e = (j, b) ∨ b.order < e.2.order) →
      answers .mpCommandStart s fun t => otherJobsKept s t j ∧
        if s.deadlinePassed b then endedWith t j (failed stDEADLINE_MISSED)
        else if b.inst ≠ 0 ∧ ((s.inst b.inst).state = .quiescing ∨ (s.inst b.inst).state = .quiesced)
        then endedWith t j (failed stABORTED)
        else t.job j = some { b with phase := .running, started := true, start := s.tb.stamp, startUp := s.now, startNs := s.tb.ns }) ∧
    (b.phase = .fifo ∨ b.phase = .fenced ∨ b.phase = .slow → b.ending = none → s.deadlinePassed b = true →
      answers (.deadlineMissed j) s fun t => endsQuietly s t j (failed stDEADLINE_MISSED)) ∧
    (s.deadlinePassed b = false → answers (.deadlineMissed j) s fun t => t = s)

/-- For a job that has ended, with no failed check and no DMA fault: afterwards the job is gone and no engine it held is
busy with it; a management client or the console is sent its reply, and nothing when the job was discarded; a queue
that is not in D3hot, has room and holds nothing is sent an entry at its CQ tail, written with the phase word after
it, and a queue without room holds the completion. Until a job has ended JOB_COMPLETE changes only the time of day
and serves the keys that are due by it. (R131, R170, R171, R172, R187) -/
def Obligations.JobsComplete : Prop :=
  ∀ (s : State) (j ns : Nat) (b : Job) (e : Ending), s.job j = some b → b.phase = .ended → b.ending = some e →
    b.interrupted = false → (∀ ev, b.src ≠ .event ev) →
    answers (.jobComplete j ns 0 none) s (fun t => (b.src ≠ .mp ∨ j ≠ s.nextJob → t.job j = none) ∧
      (b.engine.isSome → b.noEngine = false → ∀ k ∈ b.engines ++ b.half.toList, (t.eng k).busy ≠ some j) ∧
      (∀ p i, b.src = .session p i → b.discard = false → ∃ x, .reply b.src x ∈ t.outbox) ∧
      (b.src = .console → b.discard = false → ∃ x, .serial (hdlcFrame x) ∈ t.outbox) ∧
      ((∃ p i, b.src = .session p i) ∨ b.src = .console → b.discard = true → t.outbox = s.outbox) ∧
      ∀ q, b.src = .queue q → b.discard = false → s.inD3 (s.pair q).owner = false →
        if s.cqFree q ≠ 0 ∧ (s.pair q).hold = [] then ∃ x w, .cqWrite q (s.pair q).cqTail x ∈ t.outbox ∧
          .cqPhaseWrite q (s.pair q).cqTail w ∈ t.outbox
        else ∃ x, (t.pair q).hold = (s.pair q).hold ++ [x]) ∧
    (∀ i x, s.job i = some x → x.phase ≠ .ended → answers (.jobComplete i ns 0 none) s fun t =>
      t = (s.at_ ns).gangServe 16)

/-- For a berth of the active manifest: its lead-in marks each of its engines and asks the best-effort job on it to
yield, except on PEs and stream engines; its start makes it run and gives it its engines, its end takes them back
and counts each of its jobs that still runs. Owner work that arrives in lent time when no engine with budget is idle
makes one lent engine's job yield that was not asked before. A job asked to yield is saved at its next preemption
point and its engine is free, one that its instance's disable stops ends ABORTED there, and one that is asked
nothing goes on. At the end of its quantum a best-effort job that has run it is marked. (R76, R77, R78, R79, R80,
R92, R95, R97, R98) -/
def Obligations.BerthsAndPreemption : Prop :=
  ∀ (s : State),
    (∀ (id : Nat) (w : Berth), s.berthOf id = some w →
      (w.cls ≠ 1 → w.cls ≠ 7 → answers (.berthLeadIn id) s fun t =>
        (∀ k ∈ w.engKeys, (t.eng k).leadIn = some id ∧ (t.eng k).busy = (s.eng k).busy ∧
          ∀ j b, (s.eng k).busy = some j → s.job j = some b → b.berth = none → (t.job j).map (·.preemptAsked) = some true) ∧
        ∀ k, k ∉ w.engKeys → t.eng k = s.eng k) ∧
      (w.cls = 1 ∨ w.cls = 7 → answers (.berthLeadIn id) s fun t => t = s) ∧
      answers (.berthStart id) s (fun t => (t.run id).running = true ∧
        ∀ k ∈ w.engKeys, (t.eng k).berth = some id ∧ (t.eng k).leadIn = none) ∧
      answers (.berthEnd id) s (fun t => (t.run id).running = false ∧ t.jobs = s.jobs ∧
        (∀ k ∈ w.engKeys, (t.eng k).berth ≠ some id ∧ (t.eng k).busy = (s.eng k).busy) ∧
        t.cnt aXS_TAIL_CNT 0 = (s.cnt aXS_TAIL_CNT 0 +
          (s.jobsWhere fun b => b.berth == some id && b.phase == .running).length) % 2 ^ 32) ∧
      (∀ j b, w.cls ≠ 1 → w.cls ≠ 7 → (s.run id).running = true → s.lends w = true → (j, b) ∈ s.ownerJobs w →
        (∀ k ∈ w.engKeys, s.engUsable w.cls (k % 64) = false ∨ s.budgetLeft w (k % 64) = false) →
        (∃ k ∈ w.engKeys, s.budgetLeft w (k % 64) = true ∧ ((s.eng k).busy.bind s.job).any
          (fun x => x.berth.isNone && x.phase == .running && !x.preemptAsked) = true) →
        answers (.ownerArrivalLent id j) s fun t => ∃ k ∈ w.engKeys, ∃ i x, (s.eng k).busy = some i ∧ s.job i = some x ∧
          x.berth = none ∧ x.preemptAsked = false ∧ t.job i = some { x with preemptAsked := true } ∧ otherJobsKept s t i)) ∧
    (∀ (c : EngClass) (i j : Nat) (b : Job),
      let cls := classCode c
      let k := engKey cls i
      cls ≠ 1 → cls ≠ 7 → (s.eng k).busy = some j → s.job j = some b →
      (b.phase = .running → b.wait = .no →
        (b.half = none → s.drainAborts b = true ∨ (b.discard = true ∧ b.preemptAsked = true) → answers (.preemptionPoint c i) s fun t =>
          endsQuietly s t j (failed stABORTED)) ∧
        (s.drainAborts b = false → b.discard = false → b.preemptAsked = true → answers (.preemptionPoint c i) s fun t =>
          (t.eng k).busy = none ∧ (t.eng k).saved = (s.eng k).saved ++ [j] ∧ otherJobsKept s t j ∧
          t.cnt aXS_PREEMPT_CNT 0 = (s.cnt aXS_PREEMPT_CNT 0 + 1) % 2 ^ 32 ∧
          ∃ b', t.job j = some b' ∧ b'.phase = .saved ∧ b'.preemptAsked = false ∧ b'.preempts = b.preempts + 1) ∧
        (s.drainAborts b = false → b.preemptAsked = false → b.quantumOver = false →
          answers (.preemptionPoint c i) s fun t => t = s)) ∧
      answers (.quantumExpiry c i) s (fun t => otherJobsKept s t j ∧
        t.job j = some (if b.berth.isNone ∧ s.passed b.grantUp (s.reg aXS_QUANTUM) = true then { b with quantumOver := true }
          else b)))

/-- With the MP running, an enabled source that meets its criteria is a candidate; one better than the present source
becomes the source with its offset to TAI: a timebase out of lock locks at once within 50 us, else steps if steps
are enabled, else slews in FREE; a locked one slews on; one no better changes nothing else. When the source is lost
the best other qualified one takes over; with none a LOCKED timebase is in HOLDOVER with TIMEBASE_LOCK clear and no
step to that source stays pending. A slew that brings a FREE timebase within 1 us locks it. HOLDOVER ends in FREE at
its limit. PTP messages of the configured domain, PPS pulses within 1 us of a second, and IRIG-B frames are counted
by their inputs while these are enabled, and a broken run starts again. (R61, R62, R63, R64, R66) -/
def Obligations.TimeSources : Prop :=
  ∀ (s : State),
    let locked := fun (t : State) => t.tb.state = .locked ∧ t.ready 5 = true ∧ t.tb.holdSeconds = 0
    (∀ src raw tai, s.timeQualifies src = true → s.mp.state = .run → answers (.timeSourceQualified src raw tai) s fun t =>
      let off := s.taiOffset src raw tai
      src ∈ t.tb.qualified ∧ (∀ x ∈ s.tb.qualified, x ∈ t.tb.qualified) ∧
      ((∀ x, s.tb.source = some x → timePriority src < timePriority x) →
        t.tb.source = some src ∧ t.tb.offset = off ∧
        (s.tb.state = .locked → t.tb.state = .locked ∧ t.tb.slewing = true) ∧
        (s.tb.state ≠ .locked → off.natAbs ≤ 50000 → locked t ∧ t.tb.slewing = true) ∧
        (s.tb.state ≠ .locked → 50000 < off.natAbs → s.fld aXS_TB_CTRL 4 4 = 1 →
          t.tb.step = some (.source off) ∧ t.tb.state = s.tb.state) ∧
        (s.tb.state ≠ .locked → 50000 < off.natAbs → s.fld aXS_TB_CTRL 4 4 ≠ 1 →
          t.tb.state = .free ∧ t.tb.slewing = true ∧ t.tb.step = s.tb.step)) ∧
      (∀ x, s.tb.source = some x → timePriority x ≤ timePriority src →
        t = { s with tb := { s.tb with qualified := t.tb.qualified } })) ∧
    (∀ src, s.tb.source = some src → s.timeLost src = true → s.mp.state = .run →
      ((∀ x ∈ s.tb.qualified, x = src) → answers (.timeSourceLost src) s fun t =>
        t.tb.source = none ∧ t.tb.qualified = [] ∧ (∀ o, t.tb.step ≠ some (.source o)) ∧
        (s.tb.state = .locked → t.tb.state = .holdover ∧ t.tb.holdSeconds = 0 ∧ t.ready 5 = false) ∧
        (s.tb.state ≠ .locked → t.tb.state = s.tb.state)) ∧
      (∀ y ∈ s.tb.qualified, y ≠ src → (∀ x ∈ s.tb.qualified, x ≠ src → timePriority y ≤ timePriority x) →
        answers (.timeSourceLost src) s fun t => t.tb.source = some y ∧ t.tb.state = s.tb.state ∧ src ∉ t.tb.qualified)) ∧
    (∀ off, s.tb.source.isSome → s.tb.slewing = true → s.mp.state = .run → answers (.slewLock off) s fun t => t.tb.offset = off ∧
      (s.tb.state = .free → off.natAbs ≤ 1000 → locked t) ∧
      (s.tb.state ≠ .free ∨ 1000 < off.natAbs → t.tb.state = s.tb.state)) ∧
    (s.mp.state ≠ .restart → s.tb.state = .holdover → s.fld aXS_HOLDOVER_LIMIT 16 0 ≤ s.tb.holdSeconds → answers .holdoverLimit s fun t =>
      t = { s with tb := { s.tb with state := .free } }) ∧
    (s.timeEnabled .ptpPrimary = true → s.mp.state = .run → let d := s.fld aXS_TB_CTRL 15 8
      (∀ cc utc, answers (.ptpMessage false ⟨d, .announce cc utc⟩) s fun t =>
        t.tb.ptpPrimary = { s.tb.ptpPrimary with
          grandmaster := cc == 6 || cc == 7, utcOffset := utc, lastAnnounce := s.now } ∧ t.tb.ptpBackup = s.tb.ptpBackup) ∧
      ∀ off, answers (.ptpMessage false ⟨d, .sync off⟩) s fun t => t.tb.ptpPrimary.servoNs = off ∧
        (1000 < off.natAbs → t.tb.ptpPrimary.goodSeconds = 0)) ∧
    (∀ gap, s.fld aXS_TB_CTRL 1 1 = 1 → answers (.ppsPulse gap) s fun t => t.tb.ppsCount =
      if 999999000 ≤ gap ∧ gap ≤ 1000001000 then s.tb.ppsCount + 1 else 1) ∧
    (∀ utc, s.fld aXS_TB_CTRL 2 2 = 1 →
      answers (.irigbFrame true utc) s (fun t => t.tb.irigCount = s.tb.irigCount + 1 ∧ t.tb.irigBad = 0 ∧ t.tb.irigUtc = utc) ∧
      answers (.irigbFrame false utc) s fun t =>
        t.tb.irigCount = 0 ∧ t.tb.irigBad = s.tb.irigBad + 1 ∧ t.tb.irigUtc = s.tb.irigUtc) ∧
    ∀ p, answers (.ref10mSignalChange p) s fun t => t = { s with tb := { s.tb with ref10m := p } }

/-- With the MP in service and the port enabled, on the configured TCP port: a client with no hybrid group gets an
alert; one that offers what R135 and R136 ask is shown the module's certificate and given a new session while fewer
than 4 are open on the port; elsewhere nothing happens. A packet of an open session with fewer than 16 outstanding,
and a console frame with a good FCS and none outstanding, are checked: one that passes becomes the next job, waiting
as its opcode says, and one that is refused is answered at once. A session that closes, by its client, by 600 s of
idleness, or with its port's bit of MP_MGMT_EN, is gone, and the jobs it issued will be discarded; other sessions
and jobs stand. (R121, R126, R135, R136, R137, R149) -/
def Obligations.ManagementChannels : Prop :=
  ∀ (s : State) (port id : Nat),
    let gone := fun (t : State) (x y : Nat) => t.session x y = none ∧
      (∀ j b, s.job j = some b → t.job j = some (if b.src = .session x y then { b with discard := true } else b)) ∧
      ∀ x' y', (x', y') ≠ (x, y) → t.session x' y' = s.session x' y'
    let taken := fun (s' t : State) (src : Source) (e : Entry) => match s'.check src 0 e with
      | .passed o ts => t.jobs = tset s.jobs s.nextJob (s'.jobOf src 0 e ts (if o.mp then .slow else .fifo)) ∧
          t.nextJob = s.nextJob + 1 ∧ t.outbox = s.outbox
      | .refused _ => t.job s.nextJob = none ∧ (∀ i, i ≠ s.nextJob → t.job i = s.job i) ∧
          ∃ p, t.outbox = s.outbox ++ [if src = .console then .serial (hdlcFrame p) else .reply src p]
    (∀ tcp groups suites sigs, s.mpServes = true → port ≤ 1 → s.fld aMP_MGMT_EN port port = 1 →
      tcp = s.fld aMP_MGMT_TCP 15 0 →
      (groups.any tlsGroups.contains = false → ∀ ok, answers (.mgmtSessionOpen ⟨port, tcp⟩ groups suites sigs ok) s fun t =>
        t = { s with outbox := s.outbox ++ [.alert port] }) ∧
      (groups.any tlsGroups.contains = true → suites.contains tlsSuite = true → sigs.any tlsSigs.contains = true →
        s.ks.trust.any (fun x => x.role == 2) = true → (s.mp.sessions.filter fun x => x.port == port).length < 4 →
        answers (.mgmtSessionOpen ⟨port, tcp⟩ groups suites sigs true) s fun t => t = { s with
          outbox := s.outbox ++ [.certificate port (s.ks.certs.headD [])]
          mp := { s.mp with
            sessions := s.mp.sessions ++ [{ port := port, id := s.mp.nextSession, lastPacket := s.now }]
            nextSession := s.mp.nextSession + 1 } })) ∧
    (∀ tcp groups suites sigs ok, s.mpServes = false ∨ 1 < port ∨ s.fld aMP_MGMT_EN port port = 0 ∨
        tcp ≠ s.fld aMP_MGMT_TCP 15 0 →
      answers (.mgmtSessionOpen ⟨port, tcp⟩ groups suites sigs ok) s fun t => t = s) ∧
    (∀ packet, (s.session port id).isSome → s.mpServes = true → 32 ≤ packet.length →
      s.outstanding (.session port id) < 16 → answers (.mgmtPacket port id packet) s fun t =>
        taken { s with mp := { s.mp with sessions := s.mp.sessions.map fun x =>
          if x.port = port ∧ x.id = id then { x with lastPacket := s.now } else x } } t (.session port id)
          (packetEntry packet)) ∧
    (∀ frame, let bs := unstuff frame
      let p := bs.take (bs.length - 4)
      s.mpServes = true → 36 ≤ bs.length → fcs32 p = leNat (bs.drop (bs.length - 4)) → s.outstanding .console = 0 →
      answers (.consoleFrame frame) s fun t =>
        taken { s with mp := { s.mp with consoleOpen := true } } t .console (packetEntry p)) ∧
    ((s.session port id).any (fun x => s.passed x.lastPacket (600 * 10 ^ 9)) = true →
      answers (.mgmtSessionIdle port id) s fun t => gone t port id) ∧
    (port ≠ 2 → answers (.mgmtSessionClose port id) s fun t => gone t port id) ∧
    answers (.mgmtSessionClose 2 id) s (fun t => t.mp.consoleOpen = false ∧ t.mp.consoleVersion = (0, 0) ∧
      t.mp.sessions = s.mp.sessions) ∧
    ∀ v : Reg, answers (.mpMgmtEn v) s fun t => t.reg aMP_MGMT_EN = v.toNat % 4 ∧
      (∀ x ∈ t.mp.sessions, x ∈ s.mp.sessions ∧ bitAt v.toNat x.port = true) ∧
      (∀ x ∈ s.mp.sessions, bitAt v.toNat x.port = true → x ∈ t.mp.sessions)

/-- From RUN a watchdog expiry closes every session and the console and restarts the MP, but within 10 s of a restart it
is FATAL and halts it. The end of a restart counts it, returns to RUN, and ends each management command that the
expiry interrupted FAULT_CONTAINED, others unchanged (in a job table in canonical form); one that takes too long is
FATAL and halts the MP. A FATAL fault in SERVICE leaves FAULT with no job. Writing 1 to MP_SLOWQ_HWM_CLR sets the
high-water mark to the occupancy. (R145, R146, R147, R149) -/
def Obligations.ManagementProcessorStates : Prop :=
  ∀ (s : State),
    let fatal := fun (t : State) => t.mp.state = .halted ∧ (s.fc.mstate = .service → t.fc.mstate = .fault ∧ t.jobs = [])
    (∀ pair ns, s.mp.state = .run →
      (s.mp.runSince = none → answers (.mpWatchdogExpiry pair ns) s fun t => t.mp.state = .restart ∧ t.mp.sessions = [] ∧
        t.mp.consoleOpen = false ∧ t.mp.restartStamp = s.tb.stamp ∧ t.fc.mstate = s.fc.mstate ∧
        (∀ j b, t.job j = some b → b.isMp = true → b.phase = .running → b.interrupted = true) ∧
        t.cnt aFC_CNT_CONT 0 = (s.cnt aFC_CNT_CONT 0 + 1) % 2 ^ 32) ∧
      (∀ x, s.mp.runSince = some x → (s.at_ ns).now < x + 10 ^ 10 →
        answers (.mpWatchdogExpiry pair ns) s fatal)) ∧
    (s.mp.state = .restart → s.now < s.mp.restartUp + 10 ^ 9 → answers .mpRestartDone s fun t => t.mp.state = .run ∧ t.mp.runSince = some s.now ∧
      t.cnt aMP_RESTART_CNT 0 = (s.cnt aMP_RESTART_CNT 0 + 1) % 2 ^ 32 ∧
      (Tab.rising s.jobs = true → ∀ j b, s.job j = some b → if b.interrupted = true then endedWith t j (failed stFAULT_CONTAINED)
        else t.job j = some b)) ∧
    (s.mp.state = .restart → s.passed s.mp.restartUp (10 ^ 9) = true → answers .mpRestartTimeout s fatal) ∧
    (∀ v : Reg, answers (.mpSlowqHwmClr v) s fun t =>
      t = { s with mp := { s.mp with hwm := if v.getLsbD 0 then s.mpOccupancy else s.mp.hwm } })

/-- When an instruction can be issued on a PE (a job runs there, no restart is awaited, its operands are valid, and
where a loaded pack runs, the issued nanoword holds it) and no read error strikes, VMOV, VBCAST, VADD, VSUB, VSADD,
VSSUB, VMULHR, VSHRR, VSHL, VAND, VOR, VXOR and VSEL complete: element i of VD takes the stated value where the
governing predicate bit is 1 and keeps its value elsewhere (VSEL takes VA there and VB elsewhere), all other vector
registers, the predicates, the memory and every other unit stay, and nothing outside the vector units changes. VADD
and VSUB wrap, VSADD and VSSUB saturate, VMULHR and VSHRR round as RND says; for the reserved RND code the result is
the model's free value. (R356, R360, R361, R366) -/
def Obligations.LvuIntegerInstructions : Prop :=
  ∀ (s : State) (pe : Nat) (o : LvuOp), o.hw = [] →
    let l := s.lvu pe
    let w := lopW o
    let a := lvuElem l o o.va
    let b := lvuElem l o o.vb
    let x := fun i => sInt w (a i)
    let y := fun i => sInt w (b i)
    let runs := fun (lop : Nat) (c : Instr) (regs : List Nat) (f : Nat → Nat) =>
      s.lvuReady pe lop o regs true = true → answers c s fun t => lvuWrites s t pe o o.vd f
    let two := [o.vd, o.va, o.vb]
    runs 0x05 (.vmov pe o) [o.vd, o.va] a ∧
    runs 0x06 (.vbcast pe o) [o.vd] (fun _ => wrapTo w (sInt 15 (o.imm % 2 ^ 15))) ∧
    runs 0x10 (.vadd pe o) two (fun i => wrapTo w (x i + y i)) ∧
    runs 0x11 (.vsub pe o) two (fun i => wrapTo w (x i - y i)) ∧
    runs 0x12 (.vsadd pe o) two (fun i => satTo w (x i + y i)) ∧
    runs 0x13 (.vssub pe o) two (fun i => satTo w (x i - y i)) ∧
    runs 0x14 (.vmulhr pe o) two (fun i => match shiftRound o.rnd (x i * y i) (w - 1) with
      | some r => satTo w r
      | none => lvuOpen w 0x14 [a i, b i]) ∧
    runs 0x15 (.vshrr pe o) [o.vd, o.va] (fun i => match shiftRound o.rnd (x i) (o.imm % 32) with
      | some r => wrapTo w r
      | none => lvuOpen w 0x15 [a i]) ∧
    runs 0x16 (.vshl pe o) [o.vd, o.va] (fun i =>
      if o.sat then satTo w (x i * 2 ^ (o.imm % 32)) else wrapTo w (x i * 2 ^ (o.imm % 32))) ∧
    runs 0x18 (.vand pe o) two (fun i => a i &&& b i) ∧
    runs 0x19 (.vor pe o) two (fun i => a i ||| b i) ∧
    runs 0x1A (.vxor pe o) two (fun i => a i ^^^ b i) ∧
    (s.lvuReady pe 0x29 o two true = true → answers (.vsel pe o) s fun t =>
      onlyLvuChanged s t pe ∧ t.lvu pe = { l with v := (t.lvu pe).v } ∧
      (∀ i, i < lopN o → lvuElem (t.lvu pe) o o.vd i = if l.governs o i then a i else b i) ∧
      ∀ k, k < o.vd ∨ o.vd + lopG o ≤ k → (t.lvu pe).vreg k = l.vreg k)

/-- When they can be issued and no read error strikes, VMADD, VMSUB, VMMUL, VREDUCE, VCOMPRESS, VDECOMPRESS, VHIGHBITS,
VP2R and VDECOMPOSE complete, write element i of VD (VP2R and VDECOMPOSE: r1 to VD, r0 to the group after it) where
the predicate governs it, and change nothing else. Elements in the range that R361 asks for give sum, difference,
product (AUX 1: times R^-1), representative, Compress, Decompress, Power2Round and Decompose modulo MODQ; for an
element out of range, a d outside 1 to 12, or a modulus without a gamma2, the result is the model's free value. R^-1
is the inverse: for odd q, montInv q n times 2^n is 1 modulo q. (R357, R360, R361, R366) -/
def Obligations.LvuModularInstructions : Prop :=
  (∀ (s : State) (pe : Nat) (o : LvuOp), o.hw = [] →
    let l := s.lvu pe
    let w := lopW o
    let q := l.modq
    let d := o.imm % 16
    let a := lvuElem l o o.va
    let b := lvuElem l o o.vb
    let x := fun i => sInt w (a i)
    let y := fun i => sInt w (b i)
    let inA := fun i => modIn o.w32 q (a i) = true
    let both := fun i => inA i ∧ modIn o.w32 q (b i) = true
    let runs := fun (lop : Nat) (c : Instr) (regs : List Nat) (ok : Bool) (f : Nat → Nat) =>
      s.lvuReady pe lop o regs ok = true → answers c s fun t => lvuWrites s t pe o o.vd f
    let pair := fun (lop : Nat) (c : Instr) (ok : Bool) (f g : Nat → Nat) =>
      s.lvuReady pe lop o [o.vd, o.vd + lopG o, o.va] ok = true → answers c s fun t =>
        ∃ m : State, lvuWrites s m pe o o.vd f ∧ lvuWrites m t pe o (o.vd + lopG o) g
    let two := [o.vd, o.va, o.vb]
    let one := [o.vd, o.va]
    let dec := decomposeQ q (gamma2Of q o.aux)
    runs 0x09 (.vmadd pe o) two true (fun i => if both i then wrapTo w ((x i + y i) % q) else lvuOpen w 0x09 [a i, b i, q]) ∧
    runs 0x0A (.vmsub pe o) two true (fun i => if both i then wrapTo w ((x i - y i) % q) else lvuOpen w 0x0A [a i, b i, q]) ∧
    runs 0x0B (.vmmul pe o) two (o.aux ≤ 1) (fun i =>
      if both i then wrapTo w ((x i * y i * (if o.aux = 1 then (montInv q l.radix : Int) else 1)) % q)
      else lvuOpen w 0x0B [a i, b i, q]) ∧
    runs 0x0C (.vreduce pe o) one (o.aux ≤ 1) (fun i =>
      if inA i then wrapTo w (if o.aux = 1 then centred (x i) q else x i % q) else lvuOpen w 0x0C [a i, o.aux, q]) ∧
    runs 0x20 (.vcompress pe o) one true (fun i =>
      if inA i ∧ 1 ≤ d ∧ d ≤ 12 then compressD q d (x i % q).toNat % 2 ^ w else lvuOpen w 0x20 [a i, d, q]) ∧
    runs 0x21 (.vdecompress pe o) one true (fun i =>
      if a i < 2 ^ d ∧ q ≠ 0 ∧ 1 ≤ d ∧ d ≤ 12 then decompressD q d (a i) % 2 ^ w else lvuOpen w 0x21 [a i, d, q]) ∧
    runs 0x24 (.vhighbits pe o) one (o.aux ≤ 1) (fun i =>
      if inA i ∧ gamma2Of q o.aux ≠ 0 then wrapTo w (dec (x i)).1 else lvuOpen w 0x23 [a i, o.aux, q, 1]) ∧
    pair 0x22 (.vp2r pe o) true
      (fun i => if inA i then wrapTo w (power2Round q d (x i)).1 else lvuOpen w 0x22 [a i, d, q, 1])
      (fun i => if inA i then wrapTo w (power2Round q d (x i)).2 else lvuOpen w 0x22 [a i, d, q, 0]) ∧
    pair 0x23 (.vdecompose pe o) (o.aux ≤ 1)
      (fun i => if inA i ∧ gamma2Of q o.aux ≠ 0 then wrapTo w (dec (x i)).1 else lvuOpen w 0x23 [a i, o.aux, q, 1])
      (fun i => if inA i ∧ gamma2Of q o.aux ≠ 0 then wrapTo w (dec (x i)).2 else lvuOpen w 0x23 [a i, o.aux, q, 0])) ∧
  ∀ q n : Nat, 1 < q → q % 2 = 1 → montInv q n * 2 ^ n % q = 1

/-- When they can be issued, no read error strikes and every element address lies in a window (read windows for VLD,
VGATHER and VSETQ, write windows for VST and VSCATTER), VLD and VGATHER write element i of VD from operand memory at
the port-A address plus i elements, or at the port-B address plus the index lane times the element size (VGATHER
keeps the elements at and above N); VST and VSCATTER store the governed elements in rising order, so that the higher
index wins, and change no register and no byte outside the element addresses; VSETQ with an odd q of 3 or more and
below 2^15 (2^23 for W32) sets MODQ and the radix, and changes no register, predicate or memory byte. (R357, R361,
R363, R364, R366) -/
def Obligations.LvuMemoryInstructions : Prop :=
  ∀ (s : State) (pe : Nat) (o : LvuOp), o.hw = [] →
    let l := s.lvu pe
    let n := lopBytes o
    let seq := fun i => o.portA % 2 ^ 18 + i * n
    let ind := l.indexed o
    let stored := fun (t : State) (addr : Nat → Nat) (is : List Nat) =>
      onlyLvuChanged s t pe ∧ t.lvu pe = { l with mem := (t.lvu pe).mem } ∧
      (t.lvu pe).mem = (is.filter (l.governs o)).foldl (fun m i => memStore m (addr i) n (lvuElem l o o.va i)) l.mem ∧
      ∀ a, (∀ i ∈ is, a < addr i ∨ addr i + n ≤ a) → memGet (t.lvu pe).mem a = memGet l.mem a
    (s.lvuReady pe 0x01 o [o.vd] true = true → (∀ i, i < lopN o → inWindow l.winR (seq i) n = true) →
      answers (.vld pe o) s fun t => lvuWrites s t pe o o.vd fun i => memLoad l.mem (seq i) n % 2 ^ lopW o) ∧
    (s.lvuReady pe 0x03 o [o.vd, o.vb] (countOk o) = true → (∀ i, i < lopCount o → inWindow l.winR (ind i) n = true) →
      answers (.vgather pe o) s fun t => lvuWrites s t pe o o.vd fun i =>
        if i < lopCount o then memLoad l.mem (ind i) n % 2 ^ lopW o else lvuElem l o o.vd i) ∧
    (s.lvuReady pe 0x02 o [o.va] true = true → (∀ i, i < lopN o → inWindow l.winW (seq i) n = true) →
      answers (.vst pe o) s fun t => stored t seq (List.range (lopN o))) ∧
    (s.lvuReady pe 0x04 o [o.va, o.vb] (countOk o) = true → (∀ i, i < lopCount o → inWindow l.winW (ind i) n = true) →
      answers (.vscatter pe o) s fun t => stored t ind (List.range (lopCount o))) ∧
    (let q := memLoad l.mem (o.portA % 2 ^ 18) 4
     s.lvuReady pe 0x08 o [] true = true → inWindow l.winR (o.portA % 2 ^ 18) 4 = true → q % 2 = 1 → 3 ≤ q →
      q < (if o.w32 then 2 ^ 23 else 2 ^ 15) → answers (.vsetq pe o) s fun t =>
        onlyLvuChanged s t pe ∧ (t.lvu pe).modq = q ∧ (t.lvu pe).radix = lopW o ∧
        t.lvu pe = { l with modq := q, radix := lopW o, barrett := (t.lvu pe).barrett })

/-- When they can be issued and no read error strikes: VCMP sets bit i of predicate VD mod 8 to the comparison of the
elements where the governing predicate bit is 1, keeps the others, and leaves P0 as it reads (all ones) when it
names it; VANY sets PANY to whether the governing predicate has a bit set; VPERM and VDEINT write element i of VD
from the element that the permutation names; VRAND writes governed elements below MODQ (AUX 0, MODQ not 0) or of the
element width; VNOP changes nothing; each leaves the rest of its unit and of the machine (VRAND draws free values).
For d of 1 or more and positions below a multiple of 2d, the source of VDEINT and that of the interleave of VPERM
are inverse to each other. (R355, R358, R360, R361, R366) -/
def Obligations.LvuPredicateAndPermutation : Prop :=
  (∀ (s : State) (pe : Nat) (o : LvuOp), o.hw = [] →
    let l := s.lvu pe
    let a := lvuElem l o o.va
    let b := lvuElem l o o.vb
    (s.lvuReady pe 0x28 o [o.va, o.vb] (o.aux ≤ 3) = true → answers (.vcmp pe o) s fun t =>
      onlyLvuChanged s t pe ∧ t.lvu pe = { l with p := (t.lvu pe).p } ∧
      (∀ i, i < lopN o → o.vd % 8 ≠ 0 → ((t.lvu pe).preg (o.vd % 8)).getLsbD i =
        if l.governs o i then cmpElem o (a i) (b i) else (l.preg (o.vd % 8)).getLsbD i) ∧
      ∀ r, r ≠ o.vd % 8 ∨ r = 0 → (t.lvu pe).preg r = l.preg r) ∧
    (s.lvuReady pe 0x2A o [] true = true → answers (.vany pe o) s fun t =>
      onlyLvuChanged s t pe ∧ t.lvu pe = { l with pany := l.preg o.pred != 0 }) ∧
    (s.lvuReady pe 0x30 o [o.vd, o.va] (o.aux ≤ 1) = true → answers (.vperm pe o) s fun t =>
      lvuWrites s t pe o o.vd fun i => a (permSource o.aux (lopN o) (2 ^ (o.imm % 8)) i)) ∧
    (s.lvuReady pe 0x31 o [o.vd, o.va] true = true → answers (.vdeint pe o) s fun t =>
      lvuWrites s t pe o o.vd fun i => a (deintSource (2 ^ (o.imm % 8)) i)) ∧
    (s.lvuReady pe 0x07 o [o.vd] (o.aux ≤ 1) = true → answers (.vrand pe o) s fun t =>
      ∃ f : Nat → Nat, lvuWrites { s with free := t.free } t pe o o.vd f ∧
        ∀ i, i < lopN o → f i < if o.aux = 0 ∧ l.modq ≠ 0 then l.modq else 2 ^ lopW o) ∧
    (s.lvuReady pe 0x00 o [] true = true → answers (.vnop pe o) s fun t => onlyLvuChanged s t pe ∧ t.lvu pe = l)) ∧
  ∀ n d i : Nat, 0 < d → permSource 1 n d (deintSource d i) = i ∧ deintSource d (permSource 1 n d i) = i

/-- For each of the LVU's instructions: when it can be issued and meets a fault (an error of its reads, an element
outside a window, an invalid modulus), it completes, and its unit keeps all registers, predicates, MODQ, PANY and
memory, and waits for the restart of exactly this instruction; the fault record is latched when none was held, with
the cause, the engine, the lowest faulting element, MULTI, the micro-address, the opcode and the address, and else
stays as it was; no other unit changes, and of the rest of the machine nothing but the draw of free values (VRAND).
While an instruction waits for its restart: if the restart meets no fault (no read error, and none of its own) it
completes, its results commit, no restart waits any more, the job on the PE is marked RETRIED, the count of restarts
grows by one (modulo 2^32), and then the corrected fault of kind 0x12 is raised for the PE with the element that
faulted first; if it meets one, the unit keeps its registers, predicates, MODQ, PANY and memory, no restart waits,
the count of contained restarts grows by one, and then the fault of kind 0x13 is raised for the PE with the faulting
element. No other unit changes before the fault is raised. (R366, R367, R368) -/
def Obligations.LvuFaultsAndRestarts : Prop :=
  (∀ row ∈ lvuRows, ∀ (s : State) (pe : Nat) (o : LvuOp) (f : Nat × Nat × Nat),
       let lop := row.1
       let all := lvuFaults lop o (s.lvu pe)
       s.lvuReady pe lop o (row.2.2.1 o) (row.2.2.2 o) = true → firstFault all = some f →
       answers (row.2.1 pe o) s fun t =>
         t = { s with lvus := t.lvus, mc := { s.mc with flt := t.mc.flt }, free := t.free } ∧
         (∀ p, p ≠ pe → t.lvu p = s.lvu p) ∧
         (∃ r, t.lvu pe = { s.lvu pe with restart := some r } ∧ r.lop = lop ∧ r.op = o ∧ r.element = f.2.1) ∧
         (s.mc.flt = none → t.mc.flt = some ⟨f.1, pe, false,
           all.any (fun g => g.2.1 != f.2.1), f.2.1, o.uaddr, lop, f.2.2⟩) ∧
         (s.mc.flt ≠ none → t.mc.flt = s.mc.flt)) ∧
  (∀ (s : State) (pe : Nat) (hw : List (Nat × Nat)) (a : LvuRestart), (s.lvu pe).restart = some a →
       let o := { a.op with hw := hw }
       let e := lvuDo a.lop a.rand o (s.lvu pe)
       (hw = [] → e.faults = [] → answers (.lvuRestart pe hw) s fun t => ∃ m : State, t = m.raiseEng 1 pe 0x12 a.element ∧
         m.lvu pe = { e.after with restart := none } ∧ (∀ p, p ≠ pe → m.lvu p = s.lvu p) ∧
         (∀ j b, (s.eng (engKey 1 pe)).busy = some j → s.job j = some b → m.job j = some { b with retried := true }) ∧
         m.cnt aMC_LVU_RESTARTS 0 = (s.cnt aMC_LVU_RESTARTS 0 + 1) % 2 ^ 32) ∧
       (∀ f, firstFault (if e.faults = [] then hwFaults hw (fun _ => 0) else e.faults) = some f →
         answers (.lvuRestart pe hw) s fun t => ∃ m : State, t = m.raiseEng 1 pe 0x13 f.2.1 ∧
           m.lvu pe = { s.lvu pe with restart := none } ∧ (∀ p, p ≠ pe → m.lvu p = s.lvu p) ∧ m.jobs = s.jobs ∧
           m.cnt aMC_LVU_CONTAINED 0 = (s.cnt aMC_LVU_CONTAINED 0 + 1) % 2 ^ 32))

/-- For every LVU instruction, PE, operands and state, and for a restart that meets no fault, exec answers a state in
which every byte of the operand memory of every PE that lies in no write window of that PE reads as before (after a
restart: in the state in which its corrected fault is then raised). So a job cannot store outside the windows it was
given, whatever its microcode does. (R364, R366) -/
def Obligations.LvuStoresStayInWindow : Prop :=
  ∀ (s t : State) (pe p a : Nat), inWindow (s.lvu p).winW a 1 = false →
    (∀ row ∈ lvuRows, ∀ o : LvuOp, exec (row.2.1 pe o) s = .next t → memGet (t.lvu p).mem a = memGet (s.lvu p).mem a) ∧
    (∀ r : LvuRestart, (s.lvu pe).restart = some r →
      (lvuDo r.lop r.rand { r.op with hw := [] } (s.lvu pe)).faults = [] → exec (.lvuRestart pe []) s = .next t →
      ∃ m : State, t = m.raiseEng 1 pe 0x12 r.element ∧ memGet (m.lvu p).mem a = memGet (s.lvu p).mem a)

/-- For an engine that runs a job, whose routine has not ended and which waits for no restart: a microword whose address
and nanoword lie in the pack, and that a loaded pack holds at that address, sets NPTR, counts a cycle and takes the
next address by its code: NEXT and YIELD the one after, JUMP and CALL twice IMM, BRANCH its target when its
condition holds, LOOP its target while its counter is not spent, RETURN the top of the return stack, and END ends
the routine; CALL pushes the address after it, YIELD also restarts the cycle count. A word outside the pack, a ninth
nested CALL, a RETURN on an empty stack, more than 2,000 cycles without YIELD on an ME, CE or BNE, and the guard's
expiry there, are counted in MC_SEQ_FAULTS, end the job FAULT_CONTAINED and take the engine out of service. (R95,
R369, R370, R371, R372, R375) -/
def Obligations.MicrowordsRun : Prop :=
  ∀ (s : State) (c : EngClass) (i nptr imm x j : Nat) (b : Job),
    let cls := classCode c
    let k := engKey cls i
    let q := s.seq k
    let p := s.packOf x
    let v := immOf p.fmt imm
    let q' : Sequencer := { q with cycles := q.cycles + 1, nptr := nptr % 16384, imm := 0, issued := q.pc }
    let faulted := fun (t : State) => endedWith t j (failed stFAULT_CONTAINED) ∧ (t.eng k).oos = true ∧
      t.cnt aMC_SEQ_FAULTS 0 = (s.cnt aMC_SEQ_FAULTS 0 + 1) % 2 ^ 32
    let runs := fun (sq : Nat) (w : Instr) (s : State) (P : State → Prop) =>
      p.base = true ∨ p.microword q.pc = (sq, nptr % 16384, v, 0) → answers w s P
    i < classSize cls → clusterOf cls i = some x → (s.eng k).busy = some j → s.job j = some b → b.phase = .running →
    (cls ≠ 1 → s.passed b.grantUp 1600 = true → answers (.sequencerGuardExpiry c i) s faulted) ∧
    (q.ended = false → (cls = 1 → (s.lvu i).restart = none) →
      (p.uw ≤ q.pc ∨ p.nw ≤ nptr % 16384 →
        ∀ w ∈ [Instr.uwNext c i nptr imm, .uwJump c i nptr imm, .uwBranch c i nptr imm, .uwLoop c i nptr imm,
          .uwCall c i nptr imm, .uwReturn c i nptr imm, .uwEnd c i nptr imm], answers w s faulted) ∧
      (q.pc < p.uw → nptr % 16384 < p.nw →
        (8 ≤ q.ret.length → runs 4 (.uwCall c i nptr imm) s faulted) ∧
        (q.ret = [] → runs 5 (.uwReturn c i nptr imm) s faulted) ∧
        (cls ≠ 1 → 2000 ≤ q.cycles → runs 0 (.uwNext c i nptr imm) s faulted) ∧
        (cls ≠ 1 → b.wait = .no → s.drainAborts b = false → b.preemptAsked = false → b.quantumOver = false →
          runs 6 (.uwYield c i nptr imm) s fun t => t = s.setSeq k { q' with pc := q.pc + 1, imm := v, cycles := 0 }) ∧
        (cls = 1 ∨ q.cycles < 2000 →
          runs 0 (.uwNext c i nptr imm) s (fun t => t = s.setSeq k { q' with pc := q.pc + 1, imm := v }) ∧
          runs 1 (.uwJump c i nptr imm) s (fun t => t = s.setSeq k { q' with pc := 2 * v }) ∧
          runs 2 (.uwBranch c i nptr imm) s (fun t => ∃ d : Bool,
            t.seq k = { q' with pc := if d then branchTarget q.pc v else q.pc + 1 } ∧
            t = { s with seqs := t.seqs, free := t.free } ∧
            let cond := v / 2048 % 16
            (cond = 0 → d = true) ∧ (cond = 1 → d = (cls == 1 && (s.lvu i).pany)) ∧
            (cond = 2 → d = !(cls == 1 && (s.lvu i).pany)) ∧ (cond = 6 → d = (b.forkEngines != [])) ∧
            (cond = 8 → d = s.hasSealed b.handle) ∧ (9 ≤ cond → d = false)) ∧
          (let l := v / 2 ^ 13 % 4
           let n := (tgetD q.lc l 0 + 65535) % 65536
           runs 3 (.uwLoop c i nptr imm) s fun t => t = s.setSeq k
            { q' with lc := tput q.lc l n 0, pc := if n ≠ 0 then branchTarget q.pc v else q.pc + 1 }) ∧
          (q.ret.length < 8 → runs 4 (.uwCall c i nptr imm) s fun t =>
            t = s.setSeq k { q' with ret := (q.pc + 1) :: q.ret, pc := 2 * v }) ∧
          (∀ a r, q.ret = a :: r → runs 5 (.uwReturn c i nptr imm) s fun t => t = s.setSeq k { q' with ret := r, pc := a }) ∧
          runs 7 (.uwEnd c i nptr imm) s fun t => t = s.setSeq k { q' with imm := v, ended := true })))

/-- MICROCODE_LOAD asks a PE to verify its image, and with that done answers the number of the first check that its
image fails and changes nothing, or, unless a cluster is held by a berth, a pinned key or forks, drains each cluster
and waits for its segments; a drained cluster is written, and the load waits for the rest, or for its commit. A
parity error takes the cluster out of service, counts, and ends the engine's job FAULT_CONTAINED; a good reload
returns it; a segment that fails its verification is FATAL. At start-up a cluster with no pack assigned, or one
whose image is missing, runs the base pack, and in SERVICE its ready bit sets. A 1 in VALID releases the LVU fault
record, and PE_KC_FLUSH drops or dooms the unpinned cache entries of the clusters it names and no others. (R216,
R218, R368, R374, R376, R383, R384, R385, R387, R389) -/
def Obligations.MicrocodePacks : Prop :=
  ∀ (s : State) (j k : Nat) (b : Job),
    let failedIn := fun (t : State) => (t.cluster k).load = .failed ∧ (s.fc.mstate = .service → t.fc.mstate = .fault)
    (let mask := b.loadMask
     runsMp s j b opMICROCODE_LOAD → tlvNat b.params 0x0122 1 ≤ 1 → tlvNat b.params 0x0123 0 ≤ 1 →
      b.noRoom (tlvLen 8 + tlvLen 64) = false → Nat.land s.loading mask = 0 →
      (b.engineStatus = none → s.classUp 1 = true → answers (.microcodeLoad j) s fun t => asksEngine s t j 1 opCOMPOSITE_VERIFY) ∧
      (engineOver s b 1 → answers (.microcodeLoad j) s fun t =>
        match s.checkPack (b.val 0x0120) mask with
        | .error e => endsQuietly s t j (loadFailed e.1 e.2.1 e.2.2) ∧ t.mc = s.mc
        | .ok p =>
          if (clustersIn mask).any fun n => s.clusterHeld n || forkHeld (s.fld aPE_CTL 11 8) p n
          then endsQuietly s t j (loadFailed 9 stCONFIG_INCONSISTENT 0) ∧ t.mc = s.mc
          else (∀ n ∈ clustersIn mask, (t.cluster n).load =
              (if (s.cluster n).load = .reloading then .reloading else .draining) ∧ (t.cluster n).pack = (s.cluster n).pack) ∧
            (∀ n, n ∉ clustersIn mask → t.cluster n = s.cluster n) ∧ otherJobsKept s t j ∧
            t.job j = some { b with after := some (loadDone p), wait :=
              if mask = 0 then .guardBefore (b.atStamp 0x0124) 0x4000 else .segments mask })) ∧
    (s.loadOf k = some j → s.job j = some b → (s.cluster k).load = .draining →
      (∀ e ∈ clusterEngines k, (s.eng (engKey e.1 e.2)).busy = none ∧ (s.eng (engKey e.1 e.2)).saved = []) →
      answers (.microcodeDrainEnd k false) s failedIn ∧
      ∀ m, b.wait = .segments m → bitAt m k = true → answers (.microcodeDrainEnd k true) s fun t =>
        (t.cluster k).load = .writing ∧ (t.cluster k).written = some b.loadPack ∧ otherJobsKept s t j ∧
        t.job j = some { b with wait :=
          if m = 2 ^ k then .guardBefore (b.atStamp 0x0124) 0x4000 else .segments (m - 2 ^ k) }) ∧
    ((s.cluster k).load = .reloading → answers (.segmentReloadDone k false) s failedIn ∧
      answers (.segmentReloadDone k true) s fun t => t.cluster k =
        { s.cluster k with oos := false, load := if s.drains k then .draining else .active }) ∧
    (∀ (c : EngClass) (i addr : Nat), i < classSize (classCode c) → clusterOf (classCode c) i = some k →
      (s.eng (engKey (classCode c) i)).busy = some j → s.job j = some b → b.phase = .running → (s.packOf k).fmt = 2 →
      answers (.mcodeParity c i addr) s fun t => t.cluster k = { s.cluster k with oos := true, load := .reloading } ∧
        t.cnt aMC_MCHK_CNT k = (s.cnt aMC_MCHK_CNT k + 1) % 2 ^ 32 ∧ endedWith t j (failed stFAULT_CONTAINED)) ∧
    (k < 8 → s.mp.state = .run → s.ready 4 = true → s.domain (clusterDomain k) = .on → (s.cluster k).load = .empty →
      (∀ a, tget s.mc.assigned k = some a → ∀ p ∈ s.mc.flash, p.id ≠ a.1 ∨ p.version ≠ a.2) →
      answers (.startupMicrocodeLoad k) s fun t => (t.cluster k).load = .active ∧ (t.cluster k).oos = false ∧
        (t.cluster k).pack = some (basePack (clusterClass k)) ∧ (s.fc.mstate = .service → t.ready (clusterReadyBit k) = true) ∧
        t.cnt aMC_LOAD_CNT k = (s.cnt aMC_LOAD_CNT k + 1) % 2 ^ 32) ∧
    (∀ v : Reg, answers (.mcLvuFlt0Release v) s (fun t =>
        t = { s with mc := { s.mc with flt := if v.getLsbD 31 then none else s.mc.flt } }) ∧
      answers (.peKcFlush v) s fun t => ∀ i, i < 16 → t.eng (engKey 1 i) = { s.eng (engKey 1 i) with
        cache := if v.getLsbD (i / 4) = false then (s.eng (engKey 1 i)).cache
          else if (s.eng (engKey 1 i)).busy.isSome
          then (s.eng (engKey 1 i)).cache.map fun x => if x.pinned then x else { x with doomed := true }
          else (s.eng (engKey 1 i)).cache.filter (·.pinned) })

/-- A well-formed PAIR_ESTABLISH on a PAIRING node that may be used for CHALLENGE, with a TWIN group that R588 accepts
and no handshake or castling in progress, waits with a handshake of its node, role and partner, and its HELLO goes
out on both pairing links. With DISSOLVE alone it leaves no pair, no parity and no shared K_chk, asks for the TWIN
group, and, where the MP need not wait to stage it, waits for its guard, after which it ends DONE with PAIR_INFO.
CASTLE on a lead in PAIRED whose partner reports MP_RUN waits with a castling, which names the crossing two
crossings on at once when no record is outstanding. PAIR_STATUS answers PAIR_INFO and changes nothing. That a
dissolution carries VERDICT 0x02 and that a second PAIR_ESTABLISH is NOT_READY are the model's choices (log entry
60). (R567, R571, R579, R582, R583, R584) -/
def Obligations.TwinCommands : Prop :=
  ∀ (s : State) (j : Nat) (b : Job),
    let node := tlvNat b.params 0x0140 0
    let ws := s.twinWrites b
    (∀ d : Node, runsMp s j b opPAIR_ESTABLISH → b.has 0x0143 = false → b.pairBad = false →
      b.noRoom (tlvLen 64) = false → tget s.ks.nodes node = some d → d.type = 0x30 → bitAt d.policy 10 = true →
      twinRefused (fun o => ((ws.find? fun w => w.1 == o).map (·.2)).getD (s.reg o)) = none →
      s.tw.hs = none → s.tw.castle = none → answers (.pairEstablish j) s fun t =>
        t.job j = some { b with wait := .pairing } ∧ otherJobsKept s t j ∧ t.tw.state = s.tw.state ∧
        (∃ f g, t.outbox = s.outbox ++ [.pairing .plA f, .pairing .plB g]) ∧
        ∃ h, t.tw.hs = some h ∧ h.job = some j ∧ h.node = node ∧ h.role = tlvNat b.params 0x0142 0 ∧
          h.partner = some (b.val 0x0141) ∧ h.wait = tlvNat b.params 0x0147 48000 ∧ h.before = s.tw.state ∧ h.sent = true) ∧
    (runsMp s j b opPAIR_ESTABLISH → b.params.length = 1 → tlvNat b.params 0x0143 0 = 1 →
      b.noRoom (tlvLen 64) = false → answers (.pairDissolve j) s fun t =>
        t.tw = {} ∧ t.hbs.parity = 0 ∧ t.ks.pairChk = false ∧
        (s.mpSets = [] → s.mp.state = .run → s.groupsBusy 0x0200 = false → t.cfg.pending.getLsbD 9 = true ∧
          ∃ b' info, t.job j = some b' ∧ b'.wait = .applied 0x0200 ∧
            b'.after = some { done [⟨0x0148, info⟩] with verdict := vPass })) ∧
    (let wait := tlvNat b.params 0x0147 48000
     runsMp s j b opCASTLE → 1 ≤ wait → wait ≤ 96000 → b.noRoom (tlvLen 64) = false → s.tw.state = .paired →
      s.tw.role = 1 → s.tw.castle = none → s.tw.lastHb.any (·.mpRun) = true → answers (.castle j) s fun t =>
        t.job j = some { b with wait := .castle } ∧ otherJobsKept s t j ∧ t.tw.role = 1 ∧ t.tw.state = .paired ∧
        ∃ c, t.tw.castle = some c ∧ c.job = some j ∧ c.wait = wait ∧ c.acked = false ∧ c.committed = false ∧
          ((s.tw.queue ≠ [] ∨ s.mp.state ≠ .run) → c.c = none ∧ t.tw.queue = s.tw.queue) ∧
          (s.tw.queue = [] → s.mp.state = .run → b.atStamp 0x0149 = none → c.c = some (s.stampIn 2) ∧
            ∃ r, t.tw.queue = [r] ∧ r.kind = 0x60 ∧ r.mseq = s.tw.sent + 1 ∧ r.body = beBytes (s.stampIn 2).bits 8)) ∧
    (runsMp s j b opPAIR_STATUS → b.noRoom (tlvLen 64) = false → answers (.pairStatus j) s fun t =>
      endsQuietly s t j (done [⟨0x0148, s.pairInfo⟩]) ∧ t.tw = s.tw)

/-- In SERVICE, for a frame of the length its header gives, on a path in use: HELLO, PROOF and KEYX are the handshake
messages of their bodies; once a session has its keys, HEARTBEAT is the heartbeat of its body; an acknowledgement or
a record whose tag verifies and whose FRAME_CTR is above the path's last is taken with that counter remembered, an
acknowledgement as it stands and a record decrypted; one whose tag fails is counted in TW_AUTH_FAIL, and one whose
counter is not above the last changes nothing. A heartbeat with a bad tag or an old counter is counted; any other
sets the path's counter and is the partner's last one. (R563, R564, R565, R566, R567) -/
def Obligations.PairingFrames : Prop :=
  ∀ (s : State) (path : TwinPath), s.fc.mstate = .service → (path = .mgmt → s.mgmtPath = true) →
    let counted := fun (t : State) =>
      t = { s with cnts := t.cnts } ∧ t.cnt aTW_AUTH_FAIL 0 = (s.cnt aTW_AUTH_FAIL 0 + 1) % 2 ^ 32
    (∀ frame : Bytes,
      let n := beNat (slice frame 2 2)
      let kind := leAt frame 1 1
      let ctr := beNat (slice frame 4 8)
      let mseq := beNat (slice frame 12 4)
      let body := slice frame 16 n
      let iv := frameIv (pathCode path) ctr
      let tagOk := frame.drop (16 + n) == gcmTag s.tw.recvKey iv (frame.take 16) body
      let as_ := fun (s' : State) (c : Instr) => answers (.pairingFrame path frame) s fun t => exec c s' = .next t
      let heard := s.onPath path fun x => { x with rxCtr := ctr }
      frame.length = 32 + n →
      (kind = 3 → n = 70 → as_ s (.pairingHandshake (.hello (leAt body 0 1) (leAt body 1 1) (leAt body 2 1) (leAt body 3 1)
        (beNat (slice body 4 2)) (slice body 6 32) (slice body 38 32) []))) ∧
      (kind = 4 → as_ s (.pairingHandshake (.proof body))) ∧ (kind = 5 → as_ s (.pairingHandshake (.keyx body))) ∧
      (kind < 3 ∨ 5 < kind → s.tw.recvKey ≠ [] →
        (kind = 1 → as_ s (.heartbeatReceive path ctr mseq (tagOk && n == 24) (parseHeartbeat body))) ∧
        (kind ≠ 1 → tagOk = false → answers (.pairingFrame path frame) s counted) ∧
        (kind ≠ 1 → tagOk = true → ctr ≤ (s.path path).rxCtr → answers (.pairingFrame path frame) s fun t => t = s) ∧
        (tagOk = true → (s.path path).rxCtr < ctr →
          (kind = 2 → as_ heard (.mirrorAck (beNat (body.take 4)) (beNat (slice body 4 2)))) ∧
          (kind ≠ 1 → kind ≠ 2 → as_ heard (.mirrorRecord mseq kind (gcmDec s.tw.recvKey iv body)))))) ∧
    (∀ ctr mseq tagOk hb, s.tw.recvKey ≠ [] →
      (tagOk = false ∨ ctr ≤ (s.path path).rxCtr → answers (.heartbeatReceive path ctr mseq tagOk hb) s counted) ∧
      (tagOk = true → (s.path path).rxCtr < ctr → answers (.heartbeatReceive path ctr mseq tagOk hb) s fun t =>
        (t.path path).rxCtr = ctr ∧ t.tw.lastHb = some hb))

/-- For a handshake in progress on a module that can pair: a HELLO with a new nonce and nothing against it makes the
partner's MID, nonce, role and the highest common PL version the handshake's, and this module's HELLO, if it has not
gone out, and PROOF are sent; one that R568 or R585 refuses ends the handshake and its PAIR_ESTABLISH with that
status. A PROOF that is not KMAC256 over the partner's MID and this module's nonce is counted in TW_AUTH_FAIL and
ends it with VERIFY_FAIL and VERDICT 0x01; the right one marks it proved, and under PL2 the follow then sends its
ephemeral key. (R567, R568, R585) -/
def Obligations.PairingHandshake : Prop :=
  ∀ (s : State) (h : Handshake), s.canPair = true → s.tw.hs = some h →
    (∀ lo hi fw role rate mid nonce partnerOf, h.peerNonce ≠ nonce →
      (s.helloBad h lo hi fw role rate mid partnerOf = none →
        answers (.pairingHandshake (.hello lo hi fw role rate mid nonce partnerOf)) s fun t =>
          s.outbox.length + 2 ≤ t.outbox.length ∧ ∃ g, t.tw.hs = some g ∧ g.peerMid = mid ∧ g.peerNonce = nonce ∧
            g.peerRole = role ∧ commonPl lo hi = some g.version ∧ g.sent = true ∧ g.node = h.node ∧ g.job = h.job) ∧
      (∀ st j b, s.helloBad h lo hi fw role rate mid partnerOf = some st → h.job = some j → s.job j = some b →
        answers (.pairingHandshake (.hello lo hi fw role rate mid nonce partnerOf)) s fun t =>
          t.tw.hs = none ∧ endedWith t j (failed st) ∧ otherJobsKept s t j ∧ t.outbox = s.outbox)) ∧
    (∀ response, h.peerNonce ≠ [] → h.proved = false →
      (response ≠ pairProof (s.pairSecret h.node) h.peerMid h.nonce →
        answers (.pairingHandshake (.proof response)) s fun t =>
          t.tw.hs = none ∧ t.cnt aTW_AUTH_FAIL 0 = (s.cnt aTW_AUTH_FAIL 0 + 1) % 2 ^ 32 ∧
          t.tw.state = (if s.tw.state = .pairing then h.before else s.tw.state) ∧
          ∀ j b, h.job = some j → s.job j = some b → endedWith t j { status := stVERIFY_FAIL, verdict := vFail }) ∧
      (response = pairProof (s.pairSecret h.node) h.peerMid h.nonce → h.version ≠ 1 →
        answers (.pairingHandshake (.proof response)) s fun t =>
          t.outbox.length = s.outbox.length + (if s.leadsSession h then 0 else 2) ∧
          ∃ g, t.tw.hs = some g ∧ g.proved = true ∧ g.nonce = h.nonce ∧ g.peerNonce = h.peerNonce)) ∧
    (∀ k, h.proved = false ∨ h.version = 1 ∨ h.syncing = true → answers (.pairingHandshake (.keyx k)) s fun t => t = s)

/-- In SERVICE with the session's keys and nothing held back: a record already applied changes nothing; one that comes
early is held and nothing is applied; a CASTLE record that is next, with the MP running, stages its crossing and is
the last one applied. An acknowledgement takes its record from the queue and raises MSEQ_ACKED to its number, and a
SLOT_INVALIDATE's command then ends as its key store left it, with MIRRORED, when the status is DONE, and with that
status otherwise; one that answers no record changes nothing. In FROZEN a slot command whose record has waited two
crossings ends without MIRRORED while its record stays queued. (R563, R572, R574, R576) -/
def Obligations.MirroredRecords : Prop :=
  ∀ (s : State),
    (∀ mseq kind body, s.tw.recvKey ≠ [] → s.fc.mstate = .service → s.tw.early = [] →
      let r : PairRecord := { mseq := mseq, kind := kind, body := body }
      (mseq ≤ s.tw.applied → answers (.mirrorRecord mseq kind body) s fun t => t = s) ∧
      (s.tw.applied + 1 < mseq →
        answers (.mirrorRecord mseq kind body) s fun t => t = { s with tw := { s.tw with early := [r] } }) ∧
      (mseq = s.tw.applied + 1 → kind = 0x60 → s.mp.state = .run → answers (.mirrorRecord mseq kind body) s fun t =>
        t.tw.staged = some (Stamp.ofBits (beNat (body.take 8))) ∧ t.tw.applied = mseq ∧ t.tw.early = []) ∧
      (mseq = s.tw.applied + 1 → mpRecord kind = true → s.mp.state ≠ .run →
        answers (.mirrorRecord mseq kind body) s fun t => t = { s with tw := { s.tw with early := [r] } })) ∧
    (∀ mseq status r j b e, (s.tw.queue.find? fun x => x.mseq == mseq) = some r → r.kind = 0x51 → r.job = some j →
      s.job j = some b → b.after = some e → s.tw.hs = none → s.tw.castle = none →
      answers (.mirrorAck mseq status) s fun t =>
        t.tw = { s.tw with queue := s.tw.queue.filter fun x => x.mseq != mseq, acked := max s.tw.acked mseq } ∧
        otherJobsKept s t j ∧ endedWith t j (if status = stDONE then e else failed status) ∧
        (status = stDONE → (t.job j).map (·.mirrored) = some true)) ∧
    (∀ mseq status, (∀ x ∈ s.tw.queue, x.mseq ≠ mseq) → answers (.mirrorAck mseq status) s fun t => t = s) ∧
    (∀ j b r, s.tw.state = .frozen → r ∈ s.tw.queue → r.job = some j → (r.kind = 0x50 ∨ r.kind = 0x51) →
      s.job j = some b → (b.waitUp.any fun u => s.passed u (s.crossingsNs 2)) = true → answers (.slotRecordTimeout j) s fun t =>
        endedWith t j (b.after.getD (done [])) ∧ (t.job j).map (·.mirrored) = some false ∧ otherJobsKept s t j ∧
        t.tw.queue.map (·.mseq) = s.tw.queue.map (·.mseq) ∧ t.tw.state = .frozen)

/-- In SERVICE with the session's keys, PATH_LOSS_CHECK judges each path in use: one that heard a heartbeat has no miss
and is up again at the second such crossing in a row, one that heard none counts a miss and is lost at the third.
Then in PAIRED or FROZEN: with every path lost the follow is to be promoted and the lead is ALONE; with both pairing
links lost and the management path up the pair is FROZEN; with a link up it is PAIRED. A follow to be promoted takes
the lead role, ALONE, in the guard, counts it, and keeps its parity. A REJOINING module that hears no partner for
JOIN_WAIT seconds is ALONE as lead. At the end of PAIR_WAIT a PAIR_ESTABLISH ends NOT_READY with the state before
it, and a castling whose acknowledgement is out ends. (R564, R576, R577, R580) -/
def Obligations.PairPathsAndStates : Prop :=
  ∀ (s : State),
    (s.tw.recvKey ≠ [] → s.fc.mstate = .service → answers .pathLossCheck s fun t =>
      (∀ p : TwinPath, (p = .mgmt → s.mgmtPath = true) →
        let x := s.path p
        let y := t.path p
        y.heard = false ∧ y.rxCtr = x.rxCtr ∧
        (x.heard = true → y.miss = 0 ∧ y.good = x.good + 1 ∧ (y.up = true ↔ x.up = true ∨ 2 ≤ y.good)) ∧
        (x.heard = false → y.miss = min 255 (x.miss + 1) ∧ y.good = 0 ∧ (y.up = true ↔ x.up = true ∧ y.miss < 3))) ∧
      let link := (t.path .plA).up = true ∨ (t.path .plB).up = true
      let any := link ∨ s.mgmtPath = true ∧ (t.path .mgmt).up = true
      (s.tw.state = .paired ∨ s.tw.state = .frozen →
        (¬any → s.tw.role = 2 → t.tw.promote = true ∧ t.tw.state = s.tw.state ∧ t.tw.role = 2) ∧
        (¬any → s.tw.role ≠ 2 → t.tw.state = .alone ∧ t.tw.role = 1) ∧
        (any → t.tw.role = s.tw.role ∧ (t.tw.state = .paired ↔ link) ∧ (t.tw.state = .frozen ↔ ¬link)))) ∧
    (s.tw.promote = true → s.tb.inGuard = true → s.tw.role = 2 → answers .promotion s fun t =>
      t.tw.state = .alone ∧ t.tw.role = 1 ∧ t.tw.promote = false ∧ t.tw.staged = none ∧ t.hbs.parity = s.hbs.parity ∧
      t.tw.lastCastle = s.stampIn 1 ∧ t.cnt aTW_PROMOTE_CNT 0 = (s.cnt aTW_PROMOTE_CNT 0 + 1) % 2 ^ 32) ∧
    (s.tw.state = .rejoining → s.tw.hs.any (·.syncing) = false →
      s.passed s.tw.silentSince (s.fld aTW_CTL 23 16 * 10 ^ 9) = true → answers .joinWaitExpiry s fun t =>
      t.tw.state = .alone ∧ t.tw.role = 1 ∧ t.tw.hs = none ∧ t.hbs.parity = s.hbs.parity) ∧
    (∀ h j b, s.tw.hs = some h → h.job = some j → s.job j = some b → h.since + h.wait ≤ s.tb.crossings →
      answers .pairWaitExpiry s fun t =>
      t.tw.hs = none ∧ t.tw.state = (if s.tw.state = .pairing then h.before else s.tw.state) ∧
      endedWith t j (failed stNOT_READY)) ∧
    (∀ c j b, s.tw.hs = none → s.tw.castle = some c → c.acked = false → c.job = some j → s.job j = some b →
      c.since + c.wait ≤ s.tb.crossings →
      answers .pairWaitExpiry s fun t => t.tw = { s.tw with castle := none } ∧ endsQuietly s t j (failed stNOT_READY))

/-- In the boundary guard of the named crossing: a lead that holds the acknowledgement becomes the follow with the odd
parity, remembering the parity it had; a follow that has staged the swap and heard CASTLE_GO becomes the lead with
the even parity; in both the new role holds from the next boundary, TW_CASTLE_CNT counts it and no reserved block
remains held. A former lead that heard its partner report follow in two crossings takes the lead role and its old
parity back, and its CASTLE ends NOT_READY. Outside the guard, at another crossing, or without the acknowledgement
or CASTLE_GO, nothing is committed. (R279, R281, R579) -/
def Obligations.CastlingCommits : Prop :=
  ∀ (s : State),
    let swapped := fun (t : State) (role : Nat) => t.tw.role = role ∧ t.tw.state = s.tw.state ∧ t.hbs.parity = role ∧
      t.tw.lastCastle = s.stampIn 1 ∧ t.cnt aTW_CASTLE_CNT 0 = (s.cnt aTW_CASTLE_CNT 0 + 1) % 2 ^ 32 ∧ t.jobs = s.jobs ∧
      (s.hbs.parity ≠ role → ∀ e ∈ t.hbs.keys, e.2.held = 0)
    (∀ c, s.tb.inGuard = true → s.tw.castle = some c → c.acked = true → c.committed = false → c.c = some s.tb.stamp →
      answers .castleCommit s fun t => swapped t 2 ∧
        t.tw.castle = some { c with committed := true, parity := s.hbs.parity }) ∧
    (s.tb.inGuard = true → s.tw.castle = none → s.tw.staged = some s.tb.stamp → s.tw.goHeard = true →
      answers .castleCommit s fun t => swapped t 1 ∧ t.tw.staged = none ∧ t.tw.goHeard = false) ∧
    (s.tb.inGuard = false ∨ (s.tw.castle = none ∧ (s.tw.staged ≠ some s.tb.stamp ∨ s.tw.goHeard = false)) ∨
        (∃ c, s.tw.castle = some c ∧ (c.acked = false ∨ c.committed = true ∨ c.c ≠ some s.tb.stamp)) →
      answers .castleCommit s fun t => t = s) ∧
    (∀ c j b, s.tb.inGuard = true → s.tw.castle = some c → c.committed = true → 2 ≤ c.stillFollow → c.job = some j →
      s.job j = some b → answers .castleTakeback s fun t => t.tw.role = 1 ∧ t.tw.state = s.tw.state ∧
        t.tw.castle = none ∧ t.hbs.parity = c.parity ∧ endedWith t j (failed stNOT_READY) ∧ otherJobsKept s t j)

/-- For every state of SERVICE in which PD1 is powered and the MP has not halted, and for each of the two lockstep
pairs, a mismatch counts one FATAL fault, halts the MP and puts the module into the FAULT state, with no job left.
(R144) -/
def Obligations.LockstepMismatchIsFatal : Prop :=
  ∀ (s : State) (pair : Nat), pair < 2 → s.fc.mstate = .service → s.domain 1 = .on → s.mp.state ≠ .halted →
    answers (.mpLockstep pair) s fun t =>
      t.cnt aFC_CNT_FATAL 0 = (s.cnt aFC_CNT_FATAL 0 + 1) % 2 ^ 32 ∧ t.mp.state = .halted ∧
      t.fc.mstate = .fault ∧ t.fc.cause = 0x23 ∧ t.jobs = [] ∧
      (pair = 0 → t.mp.pair0Ok = false) ∧ (pair = 1 → t.mp.pair1Ok = false)

/-- For every state and every set of groups, the check of the TWIN group gives fail code 1 when the proposed JOIN_WAIT
lies outside 1 to 60, else fail code 2 when MGMT_HB_EN is proposed as 1 while all four TW_PEER_IP registers are
proposed as zero, and else no failure; and a set that holds the group is refused when the check fails. A
PAIR_ESTABLISH on an allowed node whose TWIN group would fail the check completes with CONFIG_INCONSISTENT and
changes nothing else. (R588) -/
def Obligations.TwinGroupRefused : Prop :=
  (∀ (s : State) (set : BitVec 16),
    let w := s.proposed set
    let join := bitsAt (w aTW_CTL) 23 16
    s.groupCheck set 9 = (if join < 1 ∨ 60 < join then some (1, aTW_CTL)
      else if bitsAt (w aTW_CTL) 1 1 = 1 ∧ [0, 1, 2, 3].all (fun k => w (aTW_PEER_IP + 4 * k) == 0) = true then some (2, aTW_CTL) else none) ∧
    (set.getLsbD 9 = true → s.groupCheck set 9 ≠ none → s.setCheck set ≠ none)) ∧
  ∀ (s : State) (j : Nat) (b : Job) (d : Node), runsMp s j b opPAIR_ESTABLISH → b.has 0x0143 = false → b.pairBad = false →
    b.noRoom (tlvLen 64) = false → tget s.ks.nodes (tlvNat b.params 0x0140 0) = some d → d.type = 0x30 →
    bitAt d.policy 10 = true →
    (let w := fun o => (((s.twinWrites b).find? fun x => x.1 == o).map (·.2)).getD (s.reg o)
     (bitsAt (w aTW_CTL) 23 16 < 1 ∨ 60 < bitsAt (w aTW_CTL) 23 16 ∨
      (bitsAt (w aTW_CTL) 1 1 = 1 ∧ [0, 1, 2, 3].all (fun k => w (aTW_PEER_IP + 4 * k) == 0) = true))) →
    answers (.pairEstablish j) s fun t => endsQuietly s t j (failed stCONFIG_INCONSISTENT) ∧ t.tw = s.tw

/-- FAULT_LOG_READ answers the records from its start, at most its maximum, and the number to go on from, and changes
nothing. FAULT_CLEAR without RELEASE frees exactly the captures of its mask and returns exactly the held engines it
names, or all; with RELEASE in LATCHED, like the key written to FC_RELEASE, it leaves SERVICE with an empty recovery
history after a recovery reset. SELFTEST first adds one engine task of instance 0 for each ready target asked for
that has engines, and waits for them; with them over, or with none such, it gives two bits for each target asked
for, its verdict where it was run and 0 where its ready bit is clear or it was not asked for, and passes only when
every target asked for was run and passed. FC_FEC_VALID frees the captures of its mask; FC_RELEASE with another
value, or outside LATCHED, changes nothing. The outcome of a test is a free value. (R596, R599, R607, R608, R621,
R622, R623) -/
def Obligations.FaultCommands : Prop :=
  ∀ (s : State) (j : Nat) (b : Job),
    let freed := fun (t : State) (mask : Nat) => ∀ c, c < 3 →
      tget t.fc.captures c = (if bitAt mask c then none else tget s.fc.captures c) ∧
      (c ∈ t.fc.more ↔ c ∈ s.fc.more ∧ bitAt mask c = false)
    let released := fun (t : State) => t.fc.mstate = .service ∧ t.fc.exits = [] ∧ t.fc.latchHeld = false ∧ t.jobs = [] ∧
      t.pw.resetCause = 2 ∧ t.pw.ready = 1 ∧ t.ks.nodes = s.ks.nodes
    (let start := tlvNat b.params 0x0152 0
     let max_ := tlvNat b.params 0x0153 0
     let rs := ((s.logOf (tlvNat b.params 0x0154 0 == 1)).filter fun e => start ≤ e.1).take max_
     runsMp s j b opFAULT_LOG_READ → 1 ≤ max_ → max_ ≤ (if b.src = .console then 120 else 1024) →
      tlvNat b.params 0x0154 0 ≤ 1 → b.noRoom (tlvLen (32 * rs.length) + tlvLen 8) = false →
      answers (.faultLogRead j) s fun t => t.fc = s.fc ∧ endsQuietly s t j (done [⟨0x0155, (rs.map fun e => e.2.bytes).flatten⟩,
        ⟨0x0156, leBytes (match rs.getLast? with | some e => e.1 + 1 | none => start) 8⟩])) ∧
    (let mask := tlvNat b.params 0x0157 0
     let back := tlvNat b.params 0x0158 0
     runsMp s j b opFAULT_CLEAR → mask ≤ 7 →
      (b.has 0x0158 = true → back = 0xFFFF ∨ (s.heldKey back).isSome) →
      (tlvNat b.params 0x0159 0 = 0 → answers (.faultClear j) s fun t => endedWith t j (done []) ∧ otherJobsKept s t j ∧
        freed t mask ∧ ∀ k, t.eng k =
          if b.has 0x0158 ∧ (s.eng k).held ∧ (back = 0xFFFF ∨ s.heldKey back = some k)
          then { s.eng k with held := false, oos := false, faultUps := [] } else s.eng k) ∧
      (tlvNat b.params 0x0159 0 = 1 → s.fc.mstate = .latched → answers (.faultClear j) s released)) ∧
    (let mask := tlvNat b.params 0x0150 0
     let work := (List.range 13).filter fun i => bitAt mask i && s.ready (targetBit i) && (targetEngines i).any (·.1 ≤ 6)
     runsMp s j b opSELFTEST → mask < 2 ^ 13 → b.noRoom (tlvLen 4) = false →
      (b.engineStatus = none → work ≠ [] → answers (.selftest j) s fun t => t.nextJob = s.nextJob + work.length ∧
        (j < s.nextJob → ∃ c, t.job j = some c ∧ c.wait = .engine) ∧ ∀ i, i ≠ j → i < s.nextJob → t.job i = s.job i) ∧
      (b.engineStatus.isSome = true ∨ work = [] → answers (.selftest j) s fun t =>
      otherJobsKept s t j ∧ ∃ r ok, endedWith t j { verdictEnd ok with results := [⟨0x0151, leBytes r 4⟩] } ∧
        (∀ i, i < 13 → r / 4 ^ i % 4 =
          if bitAt mask i ∧ s.ready (targetBit i) then tgetD t.selftests i 0 else 0) ∧
        (ok = true ↔ ∀ i, i < 13 → bitAt mask i = true →
          s.ready (targetBit i) = true ∧ tgetD t.selftests i 0 = vPass))) ∧
    (∀ v : Reg, answers (.fcFecValid v) s fun t => freed t (v.toNat % 8) ∧ t.jobs = s.jobs ∧ t.regs = s.regs) ∧
    (s.fc.mstate = .latched → answers (.fcRelease 0x4C45524B) s released) ∧
    (∀ v : Reg, v ≠ 0x4C45524B ∨ s.fc.mstate ≠ .latched → answers (.fcRelease v) s fun t => t = s)

/-- In a powered module, for a message whose kind is listed: the first message of its class is captured and a later one
sets MORE, and takes the capture over only with a lower SOURCE in the same nanosecond; a CORRECTED or FATAL message,
or a CONTAINED one that names no engine, counts once; a FATAL one takes SERVICE to FAULT with no job and no role
left, for the message's kind unless the grant mismatch also trips the alarm; a CONTAINED one from an engine takes it
out of service, and, unless its kind counts towards the corruption alarm, fails its job with FAULT_CONTAINED. A
contained engine that is not held returns. A recomputed grant that agrees goes on, and a second mismatch in SERVICE
leads to FAULT. A FATAL condition that ends is no longer live. With DDR trained, LOG_RING_DRAIN empties the ring
and, while the log has room, appends its records with consecutive sequence numbers. When the quiet period runs
(FAULT, no FATAL condition, no alarm input) and its length has passed, QUIET_PERIOD_END counts a recovery, remembers
its second among at most 15, and resets: no job, time kept, only AON ready, LATCHED exactly when the latch is held,
and the latch is held when the recoveries in the window reach LATCH_COUNT; otherwise it changes nothing. (R590,
R591, R592, R594, R595, R596, R599, R600, R602, R605, R606, R607) -/
def Obligations.FaultCollectionAndRecovery : Prop :=
  (∀ (s : State),
       (∀ m ns cls, s.domain 0 = .on → kindClass m.kind m.fatal = some cls → answers (.faultMessage m ns) s fun t =>
         (tget s.fc.captures cls = none → tget t.fc.captures cls = some (faultBytes s m cls)) ∧
         (∀ msg, tget s.fc.captures cls = some msg → cls ∈ t.fc.more ∧ tget t.fc.captures cls = some
           (if tget s.fc.capturedAt cls = some (s.at_ ns).now ∧ m.source % 4096 < faultSource msg then faultBytes s m cls else msg)) ∧
         (cls ≠ 1 ∨ 512 ≤ m.source →
           t.cnt (aFC_CNT_CORR + 4 * cls) 0 = (s.cnt (aFC_CNT_CORR + 4 * cls) 0 + 1) % 2 ^ 32) ∧
         (cls = 2 → s.fc.mstate = .service →
           t.fc.mstate = .fault ∧ t.jobs = [] ∧ t.tw.role = 0 ∧ (m.kind ≠ 0x21 → t.fc.cause = m.kind)) ∧
         (∀ c i, cls = 1 → m.source < 512 → engOfSource m.source = some (c, i) → (t.eng (engKey c i)).oos = true ∧
           ∀ j b, m.kind ≠ 0x11 → m.kind ≠ 0x13 → c ≠ 7 → (s.eng (engKey c i)).busy = some j → s.job j = some b →
             endedWith t j (failed stFAULT_CONTAINED))) ∧
       (∀ source c i, engOfSource source = some (c, i) → answers (.engineReturn source) s fun t =>
         t.eng (engKey c i) = (if (s.eng (engKey c i)).held then s.eng (engKey c i) else { s.eng (engKey c i) with oos := false }) ∧
         ∀ k, k ≠ engKey c i → t.eng k = s.eng k) ∧
       (s.fc.withheld.isSome →
         answers (.xsGrantRecompute true) s (fun t => t = { s with fc := { s.fc with withheld := none } }) ∧
         answers (.xsGrantRecompute false) s fun t => t.fc.withheld = none ∧ t.xs.grantMismatch = true ∧
           (s.fc.mstate = .service → t.fc.mstate = .fault)) ∧
       answers (.fatalConditionClear 0x40) s (fun t => t.fc.live.getLsbD 0 = false ∧ t.fc.live.getLsbD 1 = s.fc.live.getLsbD 1 ∧
         t.fc.fatalHeld = s.fc.fatalHeld.erase 0x40) ∧
       answers (.fatalConditionClear 0x41) s (fun t => t.fc.live.getLsbD 1 = false ∧ t.fc.live.getLsbD 0 = s.fc.live.getLsbD 0 ∧
         t.fc.fatalHeld = s.fc.fatalHeld.erase 0x41)) ∧
  (∀ (s : State),
       (s.pw.ddrTrained = true → s.fc.log.length + s.fc.ring.length ≤ 33554432 → answers .logRingDrain s fun t =>
         t.fc.ring = [] ∧ t.fc.logSeq = s.fc.logSeq + s.fc.ring.length ∧ t.fc.log.length = s.fc.log.length + s.fc.ring.length ∧
         (∀ i, i < s.fc.log.length → t.fc.log[i]? = s.fc.log[i]?) ∧
         ∀ i r, s.fc.ring[i]? = some r → t.fc.log[s.fc.log.length + i]? = some { r with seq := s.fc.logSeq + i }) ∧
       (s.pw.ddrTrained = false → answers .logRingDrain s fun t => t = s) ∧
       (s.quietRuns = true → s.passed s.fc.quietFrom (s.fld aFC_CTL 9 0 * 10 ^ 9) = true → answers .quietPeriodEnd s fun t =>
         t.fc.recoveries = s.fc.recoveries + 1 ∧ t.fc.exits.getLast? = some s.tb.stamp.sec ∧ t.fc.exits.length ≤ 15 ∧
         t.fc.mstate = (if t.fc.latchHeld then .latched else .service) ∧
         (t.fc.latchHeld = true ↔ s.fc.latchHeld = true ∨ s.fld aFC_CTL 13 10 ≤
           (t.fc.exits.filter fun x => s.tb.stamp.sec ≤ x + s.fld aFC_WINDOW 16 0).length) ∧ t.jobs = [] ∧ t.tb.stamp = s.tb.stamp ∧ t.tb.rate = s.tb.rate ∧ t.pw.resetCause = 2 ∧ t.pw.ready = 1 ∧
         t.fc.captures = s.fc.captures ∧ t.ks.slots = [] ∧ t.ks.nodes = s.ks.nodes) ∧
       (s.quietRuns = false ∨ s.passed s.fc.quietFrom (s.fld aFC_CTL 9 0 * 10 ^ 9) = false → answers .quietPeriodEnd s fun t => t = s))

/-- In a powered module a monitored input that asserts is latched, with its stamp; with action none no key is lost; with
the erase action every slot, root and K_chk is gone and the module leaves SERVICE; with the permanent one it also
stays erased for good. An input that clears is no longer live and stays latched. A fan that stands still, a lost
feed and an inlet above the variant's limit each count one CORRECTED fault and show in their register state; a fan
that turns, a feed that is back beside the other, and an inlet at or below the limit clear theirs. When both feeds
have failed, the return of one, whichever it is, is a power-on reset. A scrub pass counts. (R606, R612, R614, R615,
R616, R661, R662, R665, R667) -/
def Obligations.AlarmsAndMonitors : Prop :=
  ∀ (s : State),
    let reported := fun (t : State) => t.cnt aFC_CNT_CORR 0 = (s.cnt aFC_CNT_CORR 0 + 1) % 2 ^ 32 ∧ t.jobs = s.jobs
    (∀ i ns, s.domain 0 = .on → s.monitored i = true → s.al.live.getLsbD i = false → answers (.alarm i ns) s fun t =>
      t.al.live.getLsbD i = true ∧ t.al.latch = s.al.latch ||| BitVec.ofNat 11 (2 ^ i) ∧ t.al.last = s.tb.stamp ∧
      t.al.lastInput = i ∧
      (s.alarmAction i = 0 → t.ks = s.ks ∧ t.fc.mstate = s.fc.mstate ∧ t.al.perm = s.al.perm) ∧
      (s.alarmAction i ≠ 0 → t.ks.slots = [] ∧ t.ks.kchk = [] ∧ t.ks.rkId = [] ∧ t.ks.rkSeal = [] ∧
        t.fc.mstate ≠ .service ∧ t.lvus = []) ∧
      (s.alarmAction i = 2 → t.al.perm = true ∧ t.ks.roots = .erased)) ∧
    (∀ i, i ≤ 10 → answers (.alarmInputClear i) s fun t => t.al.live.getLsbD i = false ∧ t.al.latch = s.al.latch ∧
      ∀ k, k ≠ i → t.al.live.getLsbD k = s.al.live.getLsbD k) ∧
    (∀ fan rpm, fan < 6 → s.domain 1 = .on → answers (.fanChange fan rpm) s fun t =>
      tgetD t.pw.fans fan 0 = rpm ∧ (rpm = 0 → reported t) ∧ (rpm ≠ 0 → t.cnts = s.cnts)) ∧
    (∀ deciC, s.domain 0 = .on → answers (.tempHigh deciC) s fun t =>
      (s.inletLimit < deciC → t.fc.live.getLsbD 4 = true ∧ reported t) ∧
      (deciC ≤ s.inletLimit → t.fc.live.getLsbD 4 = false ∧ t.cnts = s.cnts)) ∧
    (s.pw.feedA = true → answers (.feedLost 0) s fun t => t.pw = { s.pw with feedA := false } ∧ reported t) ∧
    (s.pw.feedB = true → answers (.feedLost 1) s fun t => t.pw = { s.pw with feedB := false } ∧ reported t) ∧
    (s.pw.feedA = false → s.pw.feedB = true →
      answers (.feedRestored 0) s fun t => t = { s with pw := { s.pw with feedA := true, psuA := true } }) ∧
    (s.pw.feedB = false → s.pw.feedA = true →
      answers (.feedRestored 1) s fun t => t = { s with pw := { s.pw with feedB := true, psuB := true } }) ∧
    (s.pw.feedA = false → s.pw.feedB = false → answers .feedReturn s fun t =>
      t.pw.feedA = !t.pw.feedB ∧ t.pw.rails = true ∧ t.pw.resetCause = 0 ∧
      t.jobs = [] ∧ t.ks.slots = []) ∧
    ∀ ddr, answers (.scrubPass ddr) s fun t => t = { s with cnts := t.cnts } ∧
      t.cnt (if ddr then aFC_SCRUB_DDR else aFC_SCRUB_SRAM) 0 = (s.cnt (if ddr then aFC_SCRUB_DDR else aFC_SCRUB_SRAM) 0 + 1) % 2 ^ 32

/-- A module without rails comes up with AON alone ready, boot count 1 and reset cause 0; the key to PWR_RESET raises
the boot count with cause 1 and keeps time, rate, recovery history, captures and the alarm latch; every other value
is ignored. Either leaves no job, slot, check key, session, stream or manifest and keeps the nodes, trust records,
key-update counter, journal (but for a record still being written), parity and rollback floors. When both feeds have
failed and the rails fall, the key store stays as it is while only PD0 and PD3 stay on; when the supercapacitor is
exhausted no slot, root or check key is left. AL_SUPERCAP becomes ready with its charge. (R433, R438, R444, R620,
R632, R633, R635, R662) -/
def Obligations.ResetsAndSupply : Prop :=
  ∀ (s : State),
    let kept := fun (t : State) => t.ks.nodes = s.ks.nodes ∧ t.ks.trust = s.ks.trust ∧ t.ks.certs = s.ks.certs ∧
      t.ks.updCounter = s.ks.updCounter ∧ t.hbs.journal = s.tornJournal ∧ (s.hbs.unread = [] → t.hbs.journal = s.hbs.journal) ∧ t.hbs.parity = s.hbs.parity ∧
      t.mc.floors = s.mc.floors ∧ t.mc.flash = s.mc.flash ∧ t.n6 = s.n6 ∧ t.outbox = s.outbox
    let lost := fun (t : State) => t.jobs = [] ∧ t.pairs = [] ∧ t.ks.slots = [] ∧ t.ks.kchk = [] ∧ t.ks.rkId = [] ∧
      t.ks.rkSeal = [] ∧ t.ks.roots = (if s.al.perm then .erased else .pending) ∧ t.mp.sessions = [] ∧ t.mp.state = .boot ∧
      t.tr.streams = [] ∧ t.insts = [] ∧ t.xs.active = none ∧ t.xs.loaded = none ∧ t.lvus = [] ∧ t.cfg = {} ∧
      t.tw.role = 0 ∧ t.tw.sendKey = [] ∧ t.tw.recvKey = [] ∧
      t.fc.mstate = (if s.fc.latchHeld then .latched else .service)
    (s.pw.rails = false → answers .powerOnReset s fun t => kept t ∧ lost t ∧ t.pw.rails = true ∧ t.pw.ready = 1 ∧
      t.pw.boots = 1 ∧ t.pw.resetCause = 0 ∧ t.tb.state = .free ∧ t.tb.stamp = ⟨0, 0⟩ ∧
      ∀ d, t.domain d = .on ↔ d ∈ [0, 1, 2, 3, 4, 18, 19, 20, 22]) ∧
    (s.pw.rails = true → answers .powerOnReset s fun t => t = s) ∧
    answers (.pwrReset 0x52535421) s (fun t => kept t ∧ lost t ∧ t.pw.ready = 1 ∧ t.pw.boots = s.pw.boots + 1 ∧
      t.pw.resetCause = 1 ∧ t.tb.stamp = s.tb.stamp ∧ t.tb.ns = s.tb.ns ∧ t.tb.rate = s.tb.rate ∧
      (t.tb.state = if s.tb.state = .locked then .holdover else s.tb.state) ∧ t.fc.captures = s.fc.captures ∧
      t.fc.exits = s.fc.exits ∧ t.al = s.al) ∧
    (∀ v : Reg, v ≠ 0x52535421 → answers (.pwrReset v) s fun t => t = s) ∧
    (s.pw.feedA = false → s.pw.feedB = false → s.pw.rails = true → answers .railsFall s fun t =>
      t.ks = s.ks ∧ t.al = s.al ∧ t.fc.mstate = s.fc.mstate ∧ t.jobs = [] ∧ t.pw.rails = false ∧
      t.pw.ready = s.pw.ready &&& 0x800005 ∧ ∀ d, t.domain d = .on ↔ d = 0 ∨ d = 3) ∧
    (s.pw.feedA = false → s.pw.feedB = false → s.pw.rails = false → answers .supercapExhausted s fun t =>
      kept t ∧ lost t ∧ t.al = { record := s.al.record, perm := s.al.perm } ∧ t.pw.rails = false ∧ t.pw.ready = 0 ∧
      ∀ d, t.domain d = .off) ∧
    (∀ charge, s.domain 0 = .on → answers (.supercapReady charge) s fun t =>
      t = { s with al := { s.al with capReady := true, charge := min 100 charge } })

/-- In boot with PD1 on, the MP runs the preferred image if its signature verifies and its version is not below the
floor, else the other, else it stays in BOOT with both images failed; outside FAULT MP_FW then sets. With PD3 on,
capacitors charged and roots pending, at most three failed attempts make the roots ready, and a fourth makes them
FAILED and SERVICE FAULT. The NV scan sets NVSTORE; trained DDR sets DDR once KEYSTORE is set; and KEYSTORE sets at
the last of roots, RNG and NVSTORE, with a check key of 32 bytes. Each bit that is set stays set. With the MP
running and nothing restored yet, no register changes at once: the groups POWER, PORT, STREAM, INSTANCE and TWIN
become groups under restoration, and where none of them is pending, with KEYSTORE and PAIRING ready, each is pending
with every register recorded in N6 staged at its recorded value and every other shadow kept; the alarm latch moves
into the history, at its end where it is new. In the guard that applies them, each domain that is off and enabled
begins to power, and every recorded instance is ACTIVE with generation 1 and a wrap key of 32 bytes. A domain that
was powering is on with no engine of its own holding a job, a context or a cached key, and in SERVICE the ready bits
whose conditions hold are set, in LATCHED none; a draining domain whose engines are idle is off and as empty, and
one whose engines are not stays. (R434, R435, R438, R619, R627, R629, R630, R636, R637, R639, R640) -/
def Obligations.StartUpAndDomains : Prop :=
  (∀ (s : State),
       let held := fun (t : State) => ∀ i, s.ready i = true → t.ready i = true
       (∀ sigA sigB, s.mp.state = .boot → s.domain 1 = .on → s.pw.imgA ≠ 2 ∨ s.pw.imgB ≠ 2 → answers (.firmwareVerify sigA sigB) s fun t =>
         let okA := sigA = true ∧ s.pw.floor ≤ s.pw.imgAVersion
         let okB := sigB = true ∧ s.pw.floor ≤ s.pw.imgBVersion
         held t ∧ (¬okA → ¬okB → t.mp.state = .boot ∧ t.pw.imgA = 2 ∧ t.pw.imgB = 2 ∧ t.pw.ready = s.pw.ready) ∧
         (okA ∨ okB → t.mp.state = .run ∧ (s.fc.mstate ≠ .fault → t.ready 1 = true) ∧
           let a := s.pw.preferred = 0 ∧ okA ∨ ¬okB
           let v := if a then s.pw.imgAVersion else s.pw.imgBVersion
           t.mp.fw = (v % 256, v / 256 % 256, v / 65536 % 65536) ∧ (a → t.pw.imgA = 3) ∧ (¬a → t.pw.imgB = 3))) ∧
       (∀ n, s.domain 3 = .on → s.al.capReady = true → s.ks.roots = .pending → s.fc.mstate ≠ .fault →
         answers (.pufReconstruction n) s fun t =>
           (n < 4 → t.ks.roots = .ready ∧ held t) ∧
           (4 ≤ n → t.ks.roots = .failed ∧ (s.fc.mstate = .service → t.fc.mstate = .fault ∧ t.fc.cause = 0x32)) ∧
           (n < 4 → s.ready 3 = true → s.ready 23 = true → s.ready 2 = false → t.ready 2 = true ∧ t.ks.kchk.length = 32)) ∧
       (s.domain 3 = .on → s.fc.mstate ≠ .fault → answers .nvStartupScan s fun t => t.ready 23 = true ∧ held t ∧
         (s.ks.roots = .ready → s.ready 3 = true → t.ready 2 = true)) ∧
       (s.domain 19 = .on → answers .ddrTrainingDone s fun t => t.pw.ddrTrained = true ∧ held t ∧
         (s.ready 2 = true → s.fc.mstate ≠ .fault → t.ready 4 = true))) ∧
  (∀ (s : State),
       let empty := fun (t : State) (d : Nat) => ∀ e ∈ domainEngines d, t.eng (engKey e.1 e.2) = {}
       (s.mp.state = .run → s.pw.restored = false → s.pw.restoring = 0 → Tab.rising s.n6.regs = true →
         answers .configRestore s fun t => t.pw.restoring = 0x83C0 ∧ t.pw.restored = false ∧ t.al.record = none ∧
         t.regs = s.regs ∧ t.insts = s.insts ∧ t.pw.domains = s.pw.domains ∧
         (s.cfg.pending &&& 0x83C0 = 0 → s.mpSets = [] → s.ready 2 = true → s.ready 22 = true →
           t.cfg.pending = s.cfg.pending ||| 0x83C0 ∧
           (∀ o v g, (o, v) ∈ s.n6.regs → groupOf o = some g → g ∈ [6, 7, 8, 9, 15] → tget t.shadow o = some v) ∧
           (∀ o, (∀ e ∈ s.n6.regs, e.1 ≠ o) → tget t.shadow o = tget s.shadow o)) ∧
         (∀ r, s.al.record = some r → r ∈ t.fc.history ∧ (r ∉ s.fc.history → t.fc.history.getLast? = some r))) ∧
       (∀ set w n, s.pw.restoring.getLsbD 8 = true → n ∈ s.n6.insts →
         ((s.applyGroup set w 8).inst n).state = .active ∧ ((s.applyGroup set w 8).inst n).gen = 1 ∧
           ((s.applyGroup set w 8).inst n).wrapKey.length = 32) ∧
       (∀ set w d, d < 24 → s.domain d = .off → bitAt (w aPWR_CTL) d = true → (s.applyGroup set w 15).domain d = .powering) ∧
       (∀ d, s.domain d = .powering → s.pw.rails = true → answers (.domainPowerOn d) s fun t =>
         t.domain d = .on ∧ empty t d ∧ (s.fc.mstate = .service → ∀ b ∈ domainBits d, s.bitDue b = true → t.ready b = true) ∧
         (s.fc.mstate ≠ .service → t.pw.ready = s.pw.ready) ∧ ∀ e, e ≠ d → t.domain e = s.domain e) ∧
       (∀ d, s.domain d = .draining →
         ((∀ e ∈ domainEngines d, (s.eng (engKey e.1 e.2)).busy = none ∧ (s.eng (engKey e.1 e.2)).saved = []) →
           answers (.domainPowerOff d) s fun t => t.domain d = .off ∧ empty t d ∧ t.pw.ready = s.pw.ready ∧
             ∀ e, e ≠ d → t.domain e = s.domain e) ∧
         ((∃ e ∈ domainEngines d, (s.eng (engKey e.1 e.2)).busy ≠ none) → answers (.domainPowerOff d) s fun t => t = s)))

/-- PCIE_LINK_UP with PD20 on takes a link that is down to L0, at one generation from 3 to 5 or one for each of two
halves, and sets its ready bit; PCIE_LINK_DOWN takes one that is not down to down and clears it. From L0 the link
may enter L1, and reaching L0 again fires each vector that waited, in order, when none is masked or in D3. A
function not in D3 enters it while the link is not down, and one in D3 returns to D0. When a moderation timer is
due, the pair's count is cleared and its vector is sent in L0, held while the link is low, and set pending while it
is masked or the function is in D3; when it is not due nothing changes. (R9, R171, R180, R181, R541, R542, R639,
R640) -/
def Obligations.LinkAndInterrupts : Prop :=
  ∀ (s : State),
    (s.domain 20 = .on → s.pcie.link = .down → answers .pcieLinkUp s fun t =>
      t.ready 6 = true ∧ t.pcie.link = .l0 ∧ (t.pcie.gens.length = 1 ∨ t.pcie.gens.length = 2) ∧
      (∀ g ∈ t.pcie.gens, 3 ≤ g ∧ g ≤ 5) ∧ t.pcie.d3 = s.pcie.d3) ∧
    (s.pcie.link ≠ .down → answers .pcieLinkDown s fun t => t.ready 6 = false ∧ t.pcie.link = .down ∧ t.pcie.gens = [] ∧
      ∀ i, i ≠ 6 → t.ready i = s.ready i) ∧
    (∀ l12, s.pcie.link = .l0 → answers (.aspmL1Entry l12) s fun t =>
      t = { s with pcie := { s.pcie with link := if l12 then .l12 else .l1 } }) ∧
    (s.pcie.link = .l1 ∨ s.pcie.link = .l12 → answers .linkL0Reached s fun t =>
      t.pcie.link = .l0 ∧ t.pcie.waiting = [] ∧
      ((∀ x ∈ s.pcie.waiting, s.inD3 x.1 = false ∧ s.msixMasked x.1 x.2 = false) →
        t.outbox = s.outbox ++ s.pcie.waiting.map fun x => .msix x.1 x.2)) ∧
    (∀ fn, s.inD3 fn = false → s.pcie.link ≠ .down → answers (.d3hotEntry fn) s fun t =>
      t = { s with pcie := { s.pcie with d3 := s.pcie.d3 ++ [fn] } }) ∧
    (∀ fn, s.inD3 fn = true → answers (.d0Return fn) s fun t => t.pcie.d3 = s.pcie.d3.erase fn) ∧
    (∀ q, let fn := (s.pair q).owner
      let v := s.fld (qReg q aQ_VECTOR) 5 0
      (s.timerDue q = true → answers (.moderationDue q) s fun t => (t.pair q).modCount = 0 ∧ t.jobs = s.jobs ∧
        (s.inD3 fn = true ∨ s.msixMasked fn v = true → (fn, v) ∈ t.pcie.pba) ∧
        (s.inD3 fn = false → s.msixMasked fn v = false →
          (s.pcie.link = .l0 → t.outbox = s.outbox ++ [.msix fn v] ∧ t.pcie = s.pcie) ∧
          (s.pcie.link = .l1 ∨ s.pcie.link = .l12 → t.outbox = s.outbox ++ [.l1Exit] ∧
            t.pcie.waiting = s.pcie.waiting ++ [(fn, v)]) ∧
          (s.pcie.link = .down → t.outbox = s.outbox ∧ (fn, v) ∈ t.pcie.pba))) ∧
      (s.timerDue q = false → answers (.moderationDue q) s fun t => t = s))
end

