-- ==== Sys2Proof/Laws/Tables.lean ====
section
/-!
SUPPORT. The laws of sparse tables: a read after a write, and the canonical form that every table operation keeps; and
what follows of a PE's operand memory.
-/

namespace Sys2Proof.Machine

variable {α : Type}

/-! ### Reads after writes -/

@[simp] theorem tget_nil (k : Nat) : tget ([] : Tab α) k = none := rfl

@[simp] theorem tget_tset_same (t : Tab α) (k : Nat) (v : α) : tget (tset t k v) k = some v := by
  induction t with
  | nil => simp [tset, tget]
  | cons e r ih =>
    obtain ⟨i, w⟩ := e
    simp only [tset]
    split
    · simp [tget]
    · split
      · simp [tget]
      · rename_i h
        simp [tget, ih, show i ≠ k from fun x => h x.symm]

theorem tget_tset_other (t : Tab α) {k i : Nat} (v : α) (h : i ≠ k) : tget (tset t k v) i = tget t i := by
  induction t with
  | nil => simp [tset, tget, h.symm]
  | cons e r ih =>
    obtain ⟨n, w⟩ := e
    simp only [tset]
    split
    · simp [tget, h.symm]
    · split
      · rename_i hn
        simp [tget, ← hn, h.symm]
      · simp [tget, ih]

@[simp] theorem tget_tdel_same (t : Tab α) (k : Nat) : tget (tdel t k) k = none := by
  induction t with
  | nil => rfl
  | cons e r ih =>
    obtain ⟨n, w⟩ := e
    by_cases hn : n = k
    · simpa [tdel, hn] using ih
    · simp only [tdel, bne_iff_ne, ne_eq, hn, not_false_eq_true, List.filter_cons_of_pos] at ih ⊢
      simpa [tget, hn] using ih

theorem tget_tdel_other (t : Tab α) {k i : Nat} (h : i ≠ k) : tget (tdel t k) i = tget t i := by
  induction t with
  | nil => rfl
  | cons e r ih =>
    obtain ⟨n, w⟩ := e
    by_cases hn : n = k
    · simpa [tdel, hn, tget, h.symm] using ih
    · simp only [tdel, bne_iff_ne, ne_eq, hn, not_false_eq_true, List.filter_cons_of_pos] at ih ⊢
      simp [tget, ih]

/-- Reading the key just written gives the value, whatever the default. -/
@[simp] theorem tgetD_tput_same [DecidableEq α] (t : Tab α) (k : Nat) (v d : α) : tgetD (tput t k v d) k d = v := by
  unfold tgetD tput
  split
  · rename_i h
    simp [h]
  · simp

/-- A write leaves every other key alone. -/
theorem tgetD_tput_other [DecidableEq α] (t : Tab α) {k i : Nat} (v d e : α) (h : i ≠ k) :
    tgetD (tput t k v d) i e = tgetD t i e := by
  unfold tgetD tput
  split
  · rw [tget_tdel_other t h]
  · rw [tget_tset_other t v h]

/-! ### The canonical form -/

theorem rising_iff (t : Tab α) : Tab.rising t = true ↔ (t.map (·.1)).Pairwise (· < ·) := by
  induction t with
  | nil => simp [Tab.rising]
  | cons e r ih =>
    match r with
    | [] => simp [Tab.rising]
    | f :: q =>
      obtain ⟨i, v⟩ := e
      obtain ⟨j, w⟩ := f
      simp only [Tab.rising, Bool.and_eq_true, decide_eq_true_eq, ih]
      constructor
      · rintro ⟨hij, hp⟩
        refine List.pairwise_cons.mpr ⟨fun x hx => ?_, hp⟩
        rcases List.mem_cons.mp hx with rfl | hx
        · exact hij
        · exact hij.trans ((List.pairwise_cons.mp hp).1 x hx)
      · intro hp
        exact ⟨(List.pairwise_cons.mp hp).1 j (by simp), (List.pairwise_cons.mp hp).2⟩

theorem rising_tdel {t : Tab α} (k : Nat) (h : Tab.rising t = true) : Tab.rising (tdel t k) = true := by
  rw [rising_iff] at h ⊢
  exact h.sublist ((List.filter_sublist).map _)

theorem mem_tset {t : Tab α} {k : Nat} {v : α} {e : Nat × α} (h : e ∈ tset t k v) : e = (k, v) ∨ e ∈ t := by
  induction t with
  | nil => simpa [tset] using h
  | cons f r ih =>
    obtain ⟨i, w⟩ := f
    simp only [tset] at h
    split at h
    · simpa using h
    · split at h
      · rcases List.mem_cons.mp h with h | h
        · exact .inl h
        · exact .inr (List.mem_cons_of_mem _ h)
      · rcases List.mem_cons.mp h with h | h
        · exact .inr (h ▸ List.mem_cons_self)
        · exact (ih h).imp id (List.mem_cons_of_mem _)

theorem rising_tset {t : Tab α} (k : Nat) (v : α) (h : Tab.rising t = true) : Tab.rising (tset t k v) = true := by
  rw [rising_iff] at h ⊢
  induction t with
  | nil => simp [tset]
  | cons f r ih =>
    obtain ⟨i, w⟩ := f
    simp only [List.map_cons, List.pairwise_cons] at h
    simp only [tset]
    split
    · rename_i hki
      simp only [List.map_cons, List.pairwise_cons]
      refine ⟨fun x hx => ?_, h.1, h.2⟩
      rcases List.mem_cons.mp hx with rfl | hx
      · exact hki
      · exact hki.trans (h.1 x hx)
    · split
      · rename_i hki
        simp only [List.map_cons, List.pairwise_cons]
        exact ⟨fun x hx => hki ▸ h.1 x hx, h.2⟩
      · rename_i h1 h2
        simp only [List.map_cons, List.pairwise_cons]
        refine ⟨fun x hx => ?_, ih h.2⟩
        obtain ⟨e, he, rfl⟩ := List.mem_map.mp hx
        rcases mem_tset he with rfl | he
        · simp only
          omega
        · exact h.1 _ (List.mem_map_of_mem he)

theorem rising_tput [DecidableEq α] {t : Tab α} (k : Nat) (v d : α) (h : Tab.rising t = true) :
    Tab.rising (tput t k v d) = true := by
  unfold tput
  split
  · exact rising_tdel k h
  · exact rising_tset k v h

theorem mem_tput [DecidableEq α] {t : Tab α} {k : Nat} {v d : α} {e : Nat × α} (h : e ∈ tput t k v d) :
    (e = (k, v) ∧ v ≠ d) ∨ e ∈ t := by
  unfold tput at h
  split at h
  · exact .inr (List.mem_of_mem_filter h)
  · rename_i hv
    exact (mem_tset h).imp (fun x => ⟨x, hv⟩) id

/-! ### Operand memory (R209) -/

/-- Reading the byte just written gives it. -/
@[simp] theorem memGet_memSet_same (m : Tab Byte) (a : Nat) (b : Byte) : memGet (memSet m a b) a = b := by
  simp [memGet, memSet]

/-- A write leaves every other byte alone. -/
theorem memGet_memSet_other (m : Tab Byte) {a i : Nat} (b : Byte) (h : i ≠ a) : memGet (memSet m a b) i = memGet m i :=
  tgetD_tput_other m b 0 0 h

theorem memCanonical_nil : memCanonical [] := ⟨rfl, fun _ he => nomatch he⟩

theorem memCanonical_memSet {m : Tab Byte} (a : Nat) (b : Byte) (h : memCanonical m) : memCanonical (memSet m a b) :=
  ⟨rising_tput a b 0 h.1, fun e he => by
    rcases mem_tput he with ⟨rfl, hv⟩ | he
    · exact hv
    · exact h.2 e he⟩

theorem memCanonical_filter {m : Tab Byte} (p : Nat × Byte → Bool) (h : memCanonical m) : memCanonical (m.filter p) :=
  ⟨by
    have := h.1
    rw [rising_iff] at this ⊢
    exact this.sublist (List.filter_sublist.map _),
   fun e he => h.2 e (List.mem_of_mem_filter he)⟩

/-- Folding writes keeps the canonical form. -/
theorem memCanonical_foldl {β : Type} {f : Tab Byte → β → Tab Byte} (hf : ∀ m b, memCanonical m → memCanonical (f m b)) :
    ∀ (l : List β) (m : Tab Byte), memCanonical m → memCanonical (l.foldl f m)
  | [], _, h => h
  | b :: l, m, h => memCanonical_foldl hf l _ (hf m b h)

theorem memCanonical_memStore {m : Tab Byte} (a n v : Nat) (h : memCanonical m) : memCanonical (memStore m a n v) :=
  memCanonical_foldl (fun _ _ hm => memCanonical_memSet _ _ hm) _ _ h

/-- Storing an element changes only its own bytes. -/
theorem memGet_memStore_other {m : Tab Byte} {a n v i : Nat} (h : i < a ∨ a + n ≤ i) :
    memGet (memStore m a n v) i = memGet m i := by
  unfold memStore
  have key : ∀ (l : List Nat), (∀ x ∈ l, x < n) → ∀ m : Tab Byte,
      memGet (l.foldl (fun m x => memSet m (a + x) (BitVec.ofNat 8 (v / 256 ^ x))) m) i = memGet m i := by
    intro l
    induction l with
    | nil => intro _ m; rfl
    | cons x l ih =>
      intro hl m
      rw [List.foldl_cons, ih (fun y hy => hl y (List.mem_cons_of_mem _ hy)),
        memGet_memSet_other _ _ (by have := hl x List.mem_cons_self; omega)]
  exact key _ (fun x hx => List.mem_range.mp hx) m

/-! ### The memories of all vector units -/

theorem lvusCanonical_nil : lvusCanonical [] := fun _ he => nomatch he

theorem lvusCanonical_tdel {t : Tab Lvu} (k : Nat) (h : lvusCanonical t) : lvusCanonical (tdel t k) :=
  fun e he => h e (List.mem_of_mem_filter he)

theorem lvusCanonical_tput {t : Tab Lvu} (k : Nat) (v d : Lvu) (h : lvusCanonical t) (hv : memCanonical v.mem) :
    lvusCanonical (tput t k v d) := fun e he => by
  rcases mem_tput he with ⟨rfl, _⟩ | he
  · exact hv
  · exact h e he

theorem mem_of_tget {t : Tab α} {k : Nat} {v : α} (h : tget t k = some v) : (k, v) ∈ t := by
  induction t with
  | nil => simp at h
  | cons e r ih =>
    obtain ⟨i, w⟩ := e
    by_cases hi : i = k
    · simp only [tget, hi, ↓reduceIte, Option.some.injEq] at h
      simp [h, hi]
    · simp only [tget, hi, ↓reduceIte] at h
      exact List.mem_cons_of_mem _ (ih h)

/-- The operand memory of any vector unit is canonical, an untouched one's too. -/
theorem memCanonical_lvu {t : Tab Lvu} (k : Nat) (h : lvusCanonical t) : memCanonical (tgetD t k {}).mem := by
  unfold tgetD
  cases ht : tget t k with
  | none => exact memCanonical_nil
  | some l => exact h _ (mem_of_tget ht)

end Sys2Proof.Machine
end

