-- ==== Sys2Proof/Laws/Kept.lean ====
section
/-! SUPPORT. What every shared operation of the machine leaves as it was: one lemma for each function from states to
states, in the order of the model.  Of the state before it a lemma keeps five things: the waiting commands; the update
counter and the microcode floors, which only rise (R382, R457); the outbox, which only grows; and the canonical form of
the local memories.  An operation's lemma cites the lemmas of the operations it calls, so nothing is unfolded twice. -/

set_option linter.unusedSimpArgs false

namespace Sys2Proof.Machine

/-- What stood before an operation: the waiting commands, the update counter, the microcode floors, and the outbox. -/
structure Kept where
  /-- the commands that wait -/
  pending : List Instr
  /-- the update counter -/
  upd : Nat
  /-- the rollback floors of the microcode packages -/
  floors : Tab Nat
  /-- what the module has sent -/
  out : List Output
  /-- the local memories stood in canonical form -/
  lv : Prop

/-- These values of a later state keep what stood before. -/
def Kept.on (r : Kept) (pending : List Instr) (upd : Nat) (floors : Tab Nat) (out : List Output) (lvus : Tab Lvu) : Prop :=
  pending = r.pending ∧ r.upd ≤ upd ∧ (∀ k, tgetD r.floors k 0 ≤ tgetD floors k 0) ∧ r.out <+: out ∧ (r.lv → lvusCanonical lvus)

/-- The state `s` keeps what stood before. -/
@[reducible] def Kept.of (r : Kept) (s : State) : Prop := r.on s.pending s.ks.updCounter s.mc.floors s.outbox s.lvus

/-- What stands in `s`. -/
def Kept.now (s : State) : Kept :=
  { pending := s.pending, upd := s.ks.updCounter, floors := s.mc.floors, out := s.outbox, lv := lvusCanonical s.lvus }

theorem Kept.now_of (s : State) : (Kept.now s).of s :=
  ⟨rfl, le_rfl, fun _ => le_rfl, List.prefix_rfl, fun h => h⟩

theorem foldl_kept {α : Type} (r : Kept) (f : State → α → State) (hf : ∀ s a, r.of s → r.of (f s a)) :
    ∀ (l : List α) (s : State), r.of s → r.of (l.foldl f s)
  | [], _, h => h
  | a :: l, s, h => by rw [List.foldl_cons]; exact foldl_kept r f hf l _ (hf s a h)
theorem ite_kept (r : Kept) (c : Prop) [Decidable c] (a b : State) (ha : r.of a) (hb : r.of b) :
    r.of (if c then a else b) := by split <;> assumption
@[simp] theorem kept_wiped (kr : Kept) (s : State) (hk : kr.of s) :
    kr.on s.pending s.ks.updCounter s.mc.floors s.outbox [] :=
  ⟨hk.1, hk.2.1, hk.2.2.1, hk.2.2.2.1, fun _ => lvusCanonical_nil⟩
@[simp] theorem kept_del (kr : Kept) (s : State) (k : Nat) (hk : kr.of s) :
    kr.on s.pending s.ks.updCounter s.mc.floors s.outbox (tdel s.lvus k) :=
  ⟨hk.1, hk.2.1, hk.2.2.1, hk.2.2.2.1, fun h => lvusCanonical_tdel k (hk.2.2.2.2 h)⟩
@[simp] theorem kept_put (kr : Kept) (s : State) (k : Nat) (v d : Lvu) (hv : kr.lv → memCanonical v.mem) (hk : kr.of s) :
    kr.on s.pending s.ks.updCounter s.mc.floors s.outbox (tput s.lvus k v d) :=
  ⟨hk.1, hk.2.1, hk.2.2.1, hk.2.2.2.1, fun h => lvusCanonical_tput k v d (hk.2.2.2.2 h) (hv h)⟩
@[simp] theorem kept_mem (kr : Kept) (s : State) (k : Nat) (hk : kr.of s) (h : kr.lv) :
    memCanonical (tgetD s.lvus k {}).mem := memCanonical_lvu k (hk.2.2.2.2 h)

theorem foldl_kept2 {α β : Type} (r : Kept) (f : β × State → α → β × State) (hf : ∀ a x, r.of a.2 → r.of (f a x).2) :
    ∀ (l : List α) (a : β × State), r.of a.2 → r.of (l.foldl f a).2
  | [], _, h => h
  | x :: l, a, h => by rw [List.foldl_cons]; exact foldl_kept2 r f hf l _ (hf a x h)
theorem Lvu.putElems_mem (l : Lvu) (o : LvuOp) (r : Nat) (es : List Nat) : (l.putElems o r es).mem = l.mem := by
  unfold Lvu.putElems
  generalize List.range (lopG o) = ks
  induction ks generalizing l with
  | nil => rfl
  | cons k ks ih => rw [List.foldl_cons, ih]; rfl
theorem Lvu.write_mem (l : Lvu) (o : LvuOp) (r : Nat) (es : List Nat) : (l.write o r es).mem = l.mem :=
  Lvu.putElems_mem l o r _
theorem memCanonical_stores {β : Type} (m : Tab Byte) (es : List β) (a n v : β → Nat) (h : memCanonical m) :
    memCanonical (es.foldl (fun m e => memStore m (a e) (n e) (v e)) m) :=
  memCanonical_foldl (fun _ _ hm => memCanonical_memStore _ _ _ hm) _ _ h
theorem lvuDo_mem (lop : Nat) (rand : List Nat) (o : LvuOp) (l : Lvu) (h : memCanonical l.mem) :
    memCanonical (lvuDo lop rand o l).after.mem := by
  unfold lvuDo
  split
  case h_2 => exact memCanonical_stores _ _ _ _ _ h
  case h_4 => exact memCanonical_stores _ _ _ _ _ h
  all_goals first
    | exact h
    | (simp only [lvuVld, lvuVgather, Lvu.map1, Lvu.map2, Lvu.mapPair, lvuVrand, lvuVsetq, lvuModAdd, lvuVmmul, lvuVreduce,
        lvuAddSub, lvuVmulhr, lvuVshrr, lvuVshl, lvuLogic, lvuVcompress, lvuVdecompress, lvuVp2r, lvuVsel,
        Lvu.write_mem, Lvu.putElems_mem]; exact h)
    | (simp only [lvuVcmp, Lvu.setP]; split <;> exact h)
@[simp] theorem State.setReg_kept (kr : Kept) (s : State) (off : Nat) (v : Nat) (hk : kr.of s) : kr.of (State.setReg s off v) := by
  unfold State.setReg
  exact hk

@[simp] theorem State.setFld_kept (kr : Kept) (s : State) (off : Nat) (h : Nat) (l : Nat) (x : Nat) (hk : kr.of s) : kr.of (State.setFld s off h l x) := by
  unfold State.setFld
  exact hk

@[simp] theorem State.setShadow_kept (kr : Kept) (s : State) (off : Nat) (v : Nat) (hk : kr.of s) : kr.of (State.setShadow s off v) := by
  unfold State.setShadow
  exact hk

@[simp] theorem State.writeN6_kept (kr : Kept) (s : State) (x : Store) (hk : kr.of s) : kr.of (State.writeN6 s x) := by
  unfold State.writeN6
  try dsimp only
  repeat' split
  all_goals first | with_reducible exact hk | simp (maxDischargeDepth := 40) [foldl_kept, ite_kept, hk]

@[simp] theorem State.setCnt_kept (kr : Kept) (s : State) (off : Nat) (idx : Nat) (v : Nat) (hk : kr.of s) : kr.of (State.setCnt s off idx v) := by
  unfold State.setCnt
  exact hk

@[simp] theorem State.bumpBy_kept (kr : Kept) (s : State) (off : Nat) (idx : Nat) (n : Nat) (hk : kr.of s) : kr.of (State.bumpBy s off idx n) := by
  unfold State.bumpBy
  exact hk

@[simp] theorem State.bump_kept (kr : Kept) (s : State) (off : Nat) (idx : Nat) (hk : kr.of s) : kr.of (State.bump s off idx) := by
  unfold State.bump
  exact hk

@[simp] theorem State.drawBytes_kept (kr : Kept) (s : State) (n : Nat) (hk : kr.of s) : kr.of (State.drawBytes s n).2 := by
  unfold State.drawBytes
  exact hk

@[simp] theorem State.drawNat_kept (kr : Kept) (s : State) (m : Nat) (hk : kr.of s) : kr.of (State.drawNat s m).2 := by
  unfold State.drawNat
  exact hk

@[simp] theorem State.setEng_kept (kr : Kept) (s : State) (k : Nat) (e : Engine) (hk : kr.of s) : kr.of (State.setEng s k e) := by
  unfold State.setEng
  exact hk

@[simp] theorem State.onEng_kept (kr : Kept) (s : State) (k : Nat) (f : Engine → Engine) (hk : kr.of s) : kr.of (State.onEng s k f) := by
  unfold State.onEng
  exact hk

@[simp] theorem State.onEngines_kept (kr : Kept) (s : State) (f : Engine → Engine) (hk : kr.of s) : kr.of (State.onEngines s f) := by
  unfold State.onEngines
  exact hk

@[simp] theorem State.gangStep_kept (kr : Kept) (s : State) (hk : kr.of s) : kr.of (State.gangStep s) := by
  unfold State.gangStep
  try dsimp only
  repeat' split
  all_goals first | with_reducible exact hk | simp (maxDischargeDepth := 40) [foldl_kept, ite_kept, hk]

@[simp] theorem State.gangServe_kept (kr : Kept) (n : Nat) (s : State) (hk : kr.of s) : kr.of (State.gangServe n s) := by
  unfold State.gangServe
  exact foldl_kept kr _ (fun _ _ h => State.gangStep_kept kr _ h) _ _ hk

@[simp] theorem State.askKeys_kept (kr : Kept) (s : State) (level : Nat) (engine : Nat) (job : Nat) (keys : List LoadedKey) (hk : kr.of s) : kr.of (State.askKeys s level engine job keys) := by
  unfold State.askKeys
  try dsimp only
  repeat' split
  all_goals first | with_reducible exact hk | simp (maxDischargeDepth := 40) [foldl_kept, ite_kept, hk]

@[simp] theorem State.at__kept (kr : Kept) (s : State) (ns : Nat) (hk : kr.of s) : kr.of (State.at_ s ns) := by
  unfold State.at_
  simp [hk]

@[simp] theorem State.setJob_kept (kr : Kept) (s : State) (j : Nat) (b : Job) (hk : kr.of s) : kr.of (State.setJob s j b) := by
  unfold State.setJob
  exact hk

@[simp] theorem State.dropJob_kept (kr : Kept) (s : State) (j : Nat) (hk : kr.of s) : kr.of (State.dropJob s j) := by
  unfold State.dropJob
  exact hk

@[simp] theorem State.onJob_kept (kr : Kept) (s : State) (j : Nat) (f : Job → Job) (hk : kr.of s) : kr.of (State.onJob s j f) := by
  unfold State.onJob
  split <;> simp (maxDischargeDepth := 40) [hk]

@[simp] theorem State.onJobs_kept (kr : Kept) (s : State) (f : Job → Job) (hk : kr.of s) : kr.of (State.onJobs s f) := by
  unfold State.onJobs
  exact hk

@[simp] theorem State.endJob_kept (kr : Kept) (s : State) (j : Nat) (e : Ending) (hk : kr.of s) : kr.of (State.endJob s j e) := by
  unfold State.endJob
  simp [hk]

@[simp] theorem State.failJob_kept (kr : Kept) (s : State) (j : Nat) (status : Nat) (hk : kr.of s) : kr.of (State.failJob s j status) := by
  unfold State.failJob
  simp [hk]

@[simp] theorem State.setPair_kept (kr : Kept) (s : State) (q : Nat) (p : QPair) (hk : kr.of s) : kr.of (State.setPair s q p) := by
  unfold State.setPair
  exact hk

@[simp] theorem State.onPair_kept (kr : Kept) (s : State) (q : Nat) (f : QPair → QPair) (hk : kr.of s) : kr.of (State.onPair s q f) := by
  unfold State.onPair
  exact hk

@[simp] theorem State.emit_kept (kr : Kept) (s : State) (o : Output) (hk : kr.of s) : kr.of (State.emit s o) := by
  unfold State.emit
  exact ⟨hk.1, hk.2.1, hk.2.2.1, hk.2.2.2.1.trans (List.prefix_append _ _), hk.2.2.2.2⟩

@[simp] theorem State.mirror_kept (kr : Kept) (s : State) (q : Nat) (hk : kr.of s) : kr.of (State.mirror s q) := by
  unfold State.mirror
  split <;> simp (maxDischargeDepth := 40) [hk]

@[simp] theorem State.sendVector_kept (kr : Kept) (s : State) (fn : Nat) (v : Nat) (hk : kr.of s) : kr.of (State.sendVector s fn v) := by
  unfold State.sendVector
  split <;> simp (maxDischargeDepth := 40) [hk]

@[simp] theorem State.fireVector_kept (kr : Kept) (s : State) (fn : Nat) (v : Nat) (hk : kr.of s) : kr.of (State.fireVector s fn v) := by
  unfold State.fireVector
  dsimp only
  repeat' split
  all_goals simp (maxDischargeDepth := 40) [hk]

@[simp] theorem State.deliver_kept (kr : Kept) (s : State) (q : Nat) (hk : kr.of s) : kr.of (State.deliver s q) := by
  unfold State.deliver
  simp [hk]

@[simp] theorem State.moderate_kept (kr : Kept) (s : State) (q : Nat) (hk : kr.of s) : kr.of (State.moderate s q) := by
  unfold State.moderate
  dsimp only
  repeat' split
  all_goals simp (maxDischargeDepth := 40) [hk]

@[simp] theorem State.setVersion_kept (kr : Kept) (s : State) (src : Source) (inst : Nat) (v : Nat × Nat) (hk : kr.of s) : kr.of (State.setVersion s src inst v) := by
  unfold State.setVersion
  split <;> simp (maxDischargeDepth := 40) [hk]

@[simp] theorem State.adoptWritten_kept (kr : Kept) (s : State) (q : Nat) (body : Bytes) (hk : kr.of s) : kr.of (State.adoptWritten s q body) := by
  unfold State.adoptWritten
  try dsimp only
  repeat' split
  all_goals first | with_reducible exact hk | simp (maxDischargeDepth := 40) [foldl_kept, ite_kept, hk]

@[simp] theorem State.writeCq_kept (kr : Kept) (s : State) (q : Nat) (body : Bytes) (hk : kr.of s) : kr.of (State.writeCq s q body) := by
  unfold State.writeCq
  simp (maxDischargeDepth := 40) [hk]

@[simp] theorem State.postLost_kept (kr : Kept) (s : State) (q : Nat) (hk : kr.of s) : kr.of (State.postLost s q) := by
  unfold State.postLost
  dsimp only
  split <;> simp (maxDischargeDepth := 40) [hk]

@[simp] theorem State.postEvent_kept (kr : Kept) (s : State) (inst : Nat) (code : Nat) (queue : Option Nat) (info : Nat) (info2 : Nat) (hk : kr.of s) : kr.of (State.postEvent s inst code queue info info2) := by
  unfold State.postEvent
  dsimp only
  repeat' split
  all_goals simp (maxDischargeDepth := 40) [hk]

@[simp] theorem State.checkStall_kept (kr : Kept) (s : State) (q : Nat) (hk : kr.of s) : kr.of (State.checkStall s q) := by
  unfold State.checkStall
  dsimp only
  split <;> simp (maxDischargeDepth := 40) [hk]

@[simp] theorem State.checkUnstall_kept (kr : Kept) (s : State) (q : Nat) (hk : kr.of s) : kr.of (State.checkUnstall s q) := by
  unfold State.checkUnstall
  dsimp only
  split <;> simp (maxDischargeDepth := 40) [hk]

@[simp] theorem State.checkIdle_kept (kr : Kept) (s : State) (q : Nat) (hk : kr.of s) : kr.of (State.checkIdle s q) := by
  unfold State.checkIdle
  dsimp only
  split <;> simp (maxDischargeDepth := 40) [hk]

@[simp] theorem State.flushHold_kept (kr : Kept) (s : State) (q : Nat) (fuel : Nat) (hk : kr.of s) : kr.of (State.flushHold s q fuel) := by
  induction fuel generalizing s with
  | zero => unfold State.flushHold; exact hk
  | succ n ih =>
    unfold State.flushHold
    try dsimp only
    repeat' split
    all_goals first | with_reducible exact hk | (simp (maxDischargeDepth := 40) (contextual := true) [foldl_kept, ite_kept, Kept.of, hk, ih]; done)

@[simp] theorem State.withDetail_kept (kr : Kept) (s : State) (b : Job) (e : Ending) (hk : kr.of s) : kr.of (State.withDetail s b e).2 := by
  unfold State.withDetail
  try dsimp only
  repeat' split
  all_goals first | with_reducible exact hk | simp (maxDischargeDepth := 40) [foldl_kept, ite_kept, hk]

@[simp] theorem State.placeCompletion_kept (kr : Kept) (s : State) (q : Nat) (body : Bytes) (hk : kr.of s) : kr.of (State.placeCompletion s q body) := by
  unfold State.placeCompletion
  dsimp only
  repeat' split
  all_goals simp (maxDischargeDepth := 40) [hk]

@[simp] theorem State.sendReply_kept (kr : Kept) (s : State) (b : Job) (e : Ending) (packet : Bytes) (hk : kr.of s) : kr.of (State.sendReply s b e packet) := by
  unfold State.sendReply
  try dsimp only
  repeat' split
  all_goals first | with_reducible exact hk | simp (maxDischargeDepth := 40) [foldl_kept, ite_kept, hk]

@[simp] theorem State.queueCompletion_kept (kr : Kept) (s : State) (q : Nat) (b : Job) (e : Ending) (hk : kr.of s) : kr.of (State.queueCompletion s q b e) := by
  unfold State.queueCompletion
  try dsimp only
  repeat' split
  all_goals first | with_reducible exact hk | simp (maxDischargeDepth := 40) [foldl_kept, ite_kept, hk]

@[simp] theorem State.addJob_kept (kr : Kept) (s : State) (b : Job) (hk : kr.of s) : kr.of (State.addJob s b).2 := by
  unfold State.addJob
  split <;> simp (maxDischargeDepth := 40) [hk]

@[simp] theorem State.subtreeLeft_kept (kr : Kept) (s : State) (b : Job) (t : MpTask) (node : Nat) (status : Nat) (hk : kr.of s) : kr.of (State.subtreeLeft s b t node status) := by
  unfold State.subtreeLeft
  extract_lets s1 left
  have h1 : kr.of s1 := by
    dsimp only [s1]
    split
    · simp [hk]
    · exact hk
  split
  · exact h1
  · exact h1

@[simp] theorem State.taskLeft_kept (kr : Kept) (s : State) (b : Job) (e : Ending) (hk : kr.of s) : kr.of (State.taskLeft s b e) := by
  unfold State.taskLeft
  try dsimp only
  repeat' split
  all_goals first | with_reducible exact hk | simp (maxDischargeDepth := 40) [foldl_kept, ite_kept, hk]

@[simp] theorem State.writeCompletion_kept (kr : Kept) (s : State) (j : Nat) (hk : kr.of s) : kr.of (State.writeCompletion s j) := by
  unfold State.writeCompletion
  dsimp only
  repeat' split
  all_goals simp (maxDischargeDepth := 40) [hk]

@[simp] theorem State.writeCopy_kept (kr : Kept) (s : State) (q : Nat) (c : SignedCopy) (hk : kr.of s) : kr.of (State.writeCopy s q c) := by
  unfold State.writeCopy
  simp [hk]

@[simp] theorem State.flushCopies_kept (kr : Kept) (s : State) (q : Nat) (fuel : Nat) (hk : kr.of s) : kr.of (State.flushCopies s q fuel) := by
  induction fuel generalizing s with
  | zero => unfold State.flushCopies; exact hk
  | succ n ih =>
    unfold State.flushCopies
    try dsimp only
    repeat' split
    all_goals first | with_reducible exact hk | (simp (maxDischargeDepth := 40) (contextual := true) [foldl_kept, ite_kept, Kept.of, hk, ih]; done)

@[simp] theorem State.useSpace_kept (kr : Kept) (s : State) (q : Nat) (hk : kr.of s) : kr.of (State.useSpace s q) := by
  unfold State.useSpace
  dsimp only
  repeat' split
  all_goals simp (maxDischargeDepth := 40) [hk]

@[simp] theorem State.chargeScratch_kept (kr : Kept) (s : State) (inst : Nat) (plus : Nat) (minus : Nat) (hk : kr.of s) : kr.of (State.chargeScratch s inst plus minus) := by
  unfold State.chargeScratch
  split <;> simp (maxDischargeDepth := 40) [hk]

@[simp] theorem State.dropContext_kept (kr : Kept) (s : State) (j : Nat) (hk : kr.of s) : kr.of (State.dropContext s j) := by
  unfold State.dropContext
  try dsimp only
  repeat' split
  all_goals first | with_reducible exact hk | simp (maxDischargeDepth := 40) [foldl_kept, ite_kept, hk]

@[simp] theorem State.dropEntries_kept (kr : Kept) (s : State) (k : Nat) (gone : CacheEntry → Bool) (hk : kr.of s) : kr.of (State.dropEntries s k gone) := by
  unfold State.dropEntries
  dsimp only
  repeat' split
  · exact hk
  · simp [hk]
  · refine kept_put kr (s.onEng k _) (k % 64) _ {} (fun h => memCanonical_filter _ ?_) (State.onEng_kept kr s k _ hk)
    exact kept_mem kr _ (k % 64) (State.onEng_kept kr s k _ hk) h

@[simp] theorem State.dropAllEntries_kept (kr : Kept) (s : State) (gone : Engine → CacheEntry → Bool) (hk : kr.of s) : kr.of (State.dropAllEntries s gone) := by
  unfold State.dropAllEntries
  exact foldl_kept kr _ (fun _ _ h => State.dropEntries_kept kr _ _ _ h) _ _ hk

@[simp] theorem State.retireEntries_kept (kr : Kept) (s : State) (holds : Engine → Bool) (hit : CacheEntry → Bool) (hk : kr.of s) : kr.of (State.retireEntries s holds hit) := by
  unfold State.retireEntries
  try dsimp only
  repeat' split
  all_goals first | with_reducible exact hk | simp (maxDischargeDepth := 40) [foldl_kept, ite_kept, hk]

@[simp] theorem State.flushEntries_kept (kr : Kept) (s : State) (k : Nat) (hk : kr.of s) : kr.of (State.flushEntries s k) := by
  unfold State.flushEntries
  try dsimp only
  repeat' split
  all_goals first | with_reducible exact hk | simp (maxDischargeDepth := 40) [foldl_kept, ite_kept, hk]

@[simp] theorem State.setReadyBits_kept (kr : Kept) (s : State) (v : BitVec 24) (hk : kr.of s) : kr.of (State.setReadyBits s v) := by
  unfold State.setReadyBits
  split <;> simp (maxDischargeDepth := 40) [hk]

@[simp] theorem State.setReady_kept (kr : Kept) (s : State) (i : Nat) (b : Bool) (hk : kr.of s) : kr.of (State.setReady s i b) := by
  unfold State.setReady
  simp [hk]

@[simp] theorem State.setDomain_kept (kr : Kept) (s : State) (d : Nat) (x : DomainState) (hk : kr.of s) : kr.of (State.setDomain s d x) := by
  unfold State.setDomain
  exact hk

@[simp] theorem State.logFault_kept (kr : Kept) (s : State) (cls : Nat) (msg : Bytes) (hk : kr.of s) : kr.of (State.logFault s cls msg) := by
  unfold State.logFault
  dsimp only
  repeat' split
  all_goals simp (maxDischargeDepth := 40) [hk]

@[simp] theorem State.capture_kept (kr : Kept) (s : State) (cls : Nat) (msg : Bytes) (hk : kr.of s) : kr.of (State.capture s cls msg) := by
  unfold State.capture
  split <;> simp (maxDischargeDepth := 40) [hk]

@[simp] theorem State.collect_kept (kr : Kept) (s : State) (m : FaultMsg) (cls : Nat) (hk : kr.of s) : kr.of (State.collect s m cls) := by
  unfold State.collect
  dsimp only
  repeat' split
  all_goals simp (maxDischargeDepth := 40) [Kept.of, hk]

@[simp] theorem State.enterFault_kept (kr : Kept) (s : State) (kind : Nat) (byAlarm : Bool) (hk : kr.of s) : kr.of (State.enterFault s kind byAlarm) := by
  unfold State.enterFault
  dsimp only
  repeat' split
  all_goals simp (maxDischargeDepth := 40) [Kept.of, hk]

@[simp] theorem State.discardBlocks_kept (kr : Kept) (s : State) (p : HbsKey → Bool) (hk : kr.of s) : kr.of (State.discardBlocks s p) := by
  unfold State.discardBlocks
  exact hk

@[simp] theorem State.endAll_kept (kr : Kept) (s : State) (status : Nat) (hk : kr.of s) : kr.of (State.endAll s status) := by
  unfold State.endAll
  simp (maxDischargeDepth := 40) (contextual := true) [foldl_kept, hk]

@[simp] theorem State.countErased_kept (kr : Kept) (s : State) (hk : kr.of s) : kr.of (State.countErased s) := by
  unfold State.countErased
  try dsimp only
  refine foldl_kept kr _ (fun s a hs => ?_) _ _ hk
  try dsimp only
  repeat' split
  all_goals first | with_reducible exact hs | (simp (maxDischargeDepth := 40) (contextual := true) [foldl_kept, ite_kept, Kept.of, hs]; done)

@[simp] theorem State.alarmErase_kept (kr : Kept) (s : State) (kind : Nat) (hk : kr.of s) : kr.of (State.alarmErase s kind) := by
  unfold State.alarmErase
  simp (maxDischargeDepth := 40) (contextual := true) [foldl_kept, Kept.of, hk]

@[simp] theorem State.keepRecord_kept (kr : Kept) (s : State) (r : LogRecord) (hk : kr.of s) : kr.of (State.keepRecord s r) := by
  have e : ∀ {β : Type} (f : State → β), (∀ h, f { s with fc := { s.fc with history := h } } = f s) →
      f (s.keepRecord r) = f s := by
    intro β f hf
    unfold State.keepRecord
    rw [apply_ite f]
    split
    · rfl
    · exact hf _
  have h : kr.on (s.keepRecord r).pending (s.keepRecord r).ks.updCounter (s.keepRecord r).mc.floors
      (s.keepRecord r).outbox (s.keepRecord r).lvus := by
    rw [e State.pending fun _ => rfl, e (fun t => t.ks.updCounter) fun _ => rfl, e (fun t => t.mc.floors) fun _ => rfl,
      e State.outbox fun _ => rfl, e State.lvus fun _ => rfl]
    exact hk
  exact h

@[simp] theorem State.alarmInput_kept (kr : Kept) (s : State) (input : Nat) (eraseNs : Nat) (hk : kr.of s) : kr.of (State.alarmInput s input eraseNs) := by
  unfold State.alarmInput
  dsimp only
  repeat' split
  all_goals simp (maxDischargeDepth := 40) [Kept.of, hk]

@[simp] theorem State.countDcm_kept (kr : Kept) (s : State) (kind : Nat) (hk : kr.of s) : kr.of (State.countDcm s kind) := by
  unfold State.countDcm
  dsimp only
  repeat' split
  all_goals simp (maxDischargeDepth := 40) [hk]

@[simp] theorem State.holdEngine_kept (kr : Kept) (s : State) (cls : Nat) (i : Nat) (count : Nat) (hk : kr.of s) : kr.of (State.holdEngine s cls i count) := by
  unfold State.holdEngine
  dsimp only
  split <;> simp (maxDischargeDepth := 40) [hk]

@[simp] theorem State.dropFrames_kept (kr : Kept) (s : State) (se : Nat) (hk : kr.of s) : kr.of (State.dropFrames s se) := by
  unfold State.dropFrames
  exact hk

@[simp] theorem State.containEngine_kept (kr : Kept) (s : State) (cls : Nat) (i : Nat) (hk : kr.of s) : kr.of (State.containEngine s cls i) := by
  unfold State.containEngine
  dsimp only
  repeat' split
  all_goals simp (maxDischargeDepth := 40) [Kept.of, hk]

@[simp] theorem State.raise_kept (kr : Kept) (s : State) (m : FaultMsg) (hk : kr.of s) : kr.of (State.raise s m) := by
  unfold State.raise
  dsimp only
  repeat' split
  all_goals simp (maxDischargeDepth := 40) [hk]

@[simp] theorem State.raiseEng_kept (kr : Kept) (s : State) (cls : Nat) (i : Nat) (kind : Nat) (address : Nat) (hk : kr.of s) : kr.of (State.raiseEng s cls i kind address) := by
  unfold State.raiseEng
  simp [hk]

@[simp] theorem State.setSlot_kept (kr : Kept) (s : State) (n : Nat) (x : Slot) (hk : kr.of s) : kr.of (State.setSlot s n x) := by
  unfold State.setSlot
  exact hk

@[simp] theorem State.storeNodes_kept (kr : Kept) (s : State) (nodes : Tab Node) (trust : List Trust) (hk : kr.of s) : kr.of (State.storeNodes s nodes trust) := by
  unfold State.storeNodes
  try dsimp only
  repeat' split
  all_goals first | with_reducible exact hk | simp (maxDischargeDepth := 40) [foldl_kept, ite_kept, hk]

theorem State.approve_kept (kr : Kept) (s t : State) (inst : Nat) (ns : List KeyNeed) (he : s.approve inst ns = .ok t)
    (hk : kr.of s) : kr.of t := by
  unfold State.approve at he
  split at he
  · cases he
  · cases he
    simp (maxDischargeDepth := 40) (contextual := true) [hk, foldl_kept]

@[simp] theorem State.pickSlot_kept (kr : Kept) (s : State) (lo : Nat) (hi : Nat) (hk : kr.of s) : kr.of (State.pickSlot s lo hi).2 := by
  unfold State.pickSlot
  dsimp only
  split <;> simp (maxDischargeDepth := 40) [hk]

@[simp] theorem State.takeSlot_kept (kr : Kept) (s : State) (n : Nat) (x : Slot) (hk : kr.of s) : kr.of (State.takeSlot s n x) := by
  unfold State.takeSlot
  exact hk

theorem State.createSlot_kept (kr : Kept) (s t : State) (inst lo hi n : Nat) (x : Slot)
    (he : s.createSlot inst lo hi x = .ok (n, t)) (hk : kr.of s) : kr.of t := by
  unfold State.createSlot at he
  split at he
  · cases he
  · split at he
    · rename_i hp
      cases he
      have h1 := State.pickSlot_kept kr s lo hi hk
      rw [hp] at h1
      simp [h1]
    · cases he

@[simp] theorem State.freeSlot_kept (kr : Kept) (s : State) (n : Nat) (hk : kr.of s) : kr.of (State.freeSlot s n) := by
  unfold State.freeSlot
  exact hk

@[simp] theorem State.staleSlot_kept (kr : Kept) (s : State) (n : Nat) (hk : kr.of s) : kr.of (State.staleSlot s n) := by
  unfold State.staleSlot
  exact hk

@[simp] theorem State.dropKeys_kept (kr : Kept) (s : State) (holds : Engine → Bool) (hit : LoadedKey → Bool) (hk : kr.of s) : kr.of (State.dropKeys s holds hit) := by
  unfold State.dropKeys
  try dsimp only
  repeat' split
  all_goals first | with_reducible exact hk | simp (maxDischargeDepth := 40) [foldl_kept, ite_kept, hk]

@[simp] theorem State.revokeUsers_kept (kr : Kept) (s : State) (n : Nat) (hk : kr.of s) : kr.of (State.revokeUsers s n) := by
  unfold State.revokeUsers
  simp (maxDischargeDepth := 40) [hk]

@[simp] theorem State.invalidate_kept (kr : Kept) (s : State) (n : Nat) (hk : kr.of s) : kr.of (State.invalidate s n) := by
  unfold State.invalidate
  have h1 : kr.of ((s.revokeUsers n).staleSlot n) := by simp [hk]
  exact h1

@[simp] theorem State.scanAll_kept (kr : Kept) (s : State) (hk : kr.of s) : kr.of (State.scanAll s) := by
  unfold State.scanAll
  simp (maxDischargeDepth := 40) (contextual := true) [foldl_kept, Kept.of, hk]

@[simp] theorem State.freeSlotsOf_kept (kr : Kept) (s : State) (inst : Nat) (hk : kr.of s) : kr.of (State.freeSlotsOf s inst) := by
  unfold State.freeSlotsOf
  simp (maxDischargeDepth := 40) (contextual := true) [foldl_kept, hk]

@[simp] theorem State.fillDest_kept (kr : Kept) (s : State) (n : Nat) (v : Bytes) (hk : kr.of s) : kr.of (State.fillDest s n v) := by
  unfold State.fillDest
  dsimp only
  split <;> simp (maxDischargeDepth := 40) [hk]

@[simp] theorem State.unpend_kept (kr : Kept) (s : State) (n : Nat) (hk : kr.of s) : kr.of (State.unpend s n) := by
  unfold State.unpend
  dsimp only
  split <;> simp (maxDischargeDepth := 40) [hk]

@[simp] theorem State.onCluster_kept (kr : Kept) (s : State) (k : Nat) (f : Cluster → Cluster) (hk : kr.of s) : kr.of (State.onCluster s k f) := by
  unfold State.onCluster
  exact hk

@[simp] theorem State.bindSlot_kept (kr : Kept) (s : State) (h : Nat) (pset : Nat) (hk : kr.of s) : kr.of (State.bindSlot s h pset) := by
  unfold State.bindSlot
  dsimp only
  split <;> simp (maxDischargeDepth := 40) [hk]

@[simp] theorem State.freeEngine_kept (kr : Kept) (s : State) (j : Nat) (k : Nat) (verify : Bool) (hk : kr.of s) : kr.of (State.freeEngine s j k verify) := by
  unfold State.freeEngine
  dsimp only
  split
  · exact hk
  · have h1 : kr.of ((s.onEng k (·.release (k / 64) verify s.keyLive)).dropEntries k (·.doomed)) := by simp [hk]
    split
    · exact kept_put kr _ (k % 64) _ {} (fun h => memCanonical_filter _ (kept_mem kr _ (k % 64) h1 h)) h1
    · exact h1

@[simp] theorem State.freePes_kept (kr : Kept) (s : State) (j : Nat) (b : Job) (hk : kr.of s) : kr.of (State.freePes s j b) := by
  unfold State.freePes
  exact foldl_kept kr _ (fun _ _ h => State.freeEngine_kept kr _ _ _ _ h) _ _ hk

@[simp] theorem State.placeEntry_kept (kr : Kept) (s : State) (k : Nat) (c : CacheEntry) (hk : kr.of s) : kr.of (State.placeEntry s k c) := by
  unfold State.placeEntry
  try dsimp only
  repeat' split
  all_goals first | with_reducible exact hk | simp (maxDischargeDepth := 40) [foldl_kept, ite_kept, hk]

@[simp] theorem State.writeSealed_kept (kr : Kept) (s : State) (slot : Nat) (gen : Nat) (inst : Nat) (size : Nat) (hk : kr.of s) : kr.of (State.writeSealed s slot gen inst size) := by
  unfold State.writeSealed
  try dsimp only
  repeat' split
  all_goals first | with_reducible exact hk | simp (maxDischargeDepth := 40) [foldl_kept, ite_kept, hk]

@[simp] theorem State.dropSealed_kept (kr : Kept) (s : State) (gone : Sealed → Bool) (hk : kr.of s) : kr.of (State.dropSealed s gone) := by
  unfold State.dropSealed
  try dsimp only
  repeat' split
  all_goals first | with_reducible exact hk | simp (maxDischargeDepth := 40) [foldl_kept, ite_kept, hk]

@[simp] theorem State.sealKey_kept (kr : Kept) (s : State) (slot : Nat) (gen : Nat) (inst : Nat) (size : Nat) (hk : kr.of s) : kr.of (State.sealKey s slot gen inst size) := by
  unfold State.sealKey
  simp [hk]

@[simp] theorem State.loseCopy_kept (kr : Kept) (s : State) (c : Sealed) (hk : kr.of s) : kr.of (State.loseCopy s c) := by
  unfold State.loseCopy
  exact foldl_kept kr _ (fun _ _ h => by simp [h]) _ _ (by simp [hk])

@[simp] theorem State.readCopy_kept (kr : Kept) (s : State) (h : Nat) (cls : Nat) (i : Nat) (hk : kr.of s) : kr.of (State.readCopy s h cls i) := by
  unfold State.readCopy
  try dsimp only
  repeat' split
  all_goals first | with_reducible exact hk | simp (maxDischargeDepth := 40) [foldl_kept, ite_kept, hk]

@[simp] theorem State.expandOn_kept (kr : Kept) (s : State) (k : Nat) (h : Nat) (inst : Nat) (type : Nat) (pset : Nat) (look : Bool) (hk : kr.of s) : kr.of (State.expandOn s k h inst type pset look) := by
  unfold State.expandOn
  dsimp only
  repeat' split
  all_goals simp (maxDischargeDepth := 40) [Kept.of, hk]

@[simp] theorem State.expandKey_kept (kr : Kept) (s : State) (b : Job) (type : Nat) (pset : Nat) (look : Bool) (hk : kr.of s) : kr.of (State.expandKey s b type pset look) := by
  unfold State.expandKey
  simp (maxDischargeDepth := 40) (contextual := true) [foldl_kept, hk]

@[simp] theorem bnEnd_kept (kr : Kept) (s : State) (checks : List (Bool × Nat)) (e : Ending) (hk : kr.of s) : kr.of (bnEnd s checks e).1 := by
  unfold bnEnd
  dsimp only
  split <;> simp (maxDischargeDepth := 40) [hk]

@[simp] theorem rsaPrivate_kept (kr : Kept) (s : State) (b : Job) (hk : kr.of s) : kr.of (rsaPrivate s b).1 := by
  unfold rsaPrivate
  dsimp only
  repeat' split
  all_goals simp (maxDischargeDepth := 40) [hk]

@[simp] theorem State.regenerated_kept (kr : Kept) (s : State) (slot : Nat) (hk : kr.of s) : kr.of (State.regenerated s slot) := by
  unfold State.regenerated
  exact hk

@[simp] theorem agreeEnd_kept (kr : Kept) (s : State) (b : Job) (c : Nat) (hk : kr.of s) : kr.of (agreeEnd s b c).1 := by
  unfold agreeEnd
  split <;> simp (maxDischargeDepth := 40) [hk]

@[simp] theorem State.sweepPeers_kept (kr : Kept) (s : State) (hk : kr.of s) : kr.of (State.sweepPeers s) := by
  unfold State.sweepPeers
  exact hk

@[simp] theorem State.freePeerOf_kept (kr : Kept) (s : State) (slot : Nat) (hk : kr.of s) : kr.of (State.freePeerOf s slot) := by
  unfold State.freePeerOf
  exact hk

@[simp] theorem State.freePeersOf_kept (kr : Kept) (s : State) (inst : Nat) (hk : kr.of s) : kr.of (State.freePeersOf s inst) := by
  unfold State.freePeersOf
  exact hk

@[simp] theorem State.digestFails_kept (kr : Kept) (s : State) (j : Nat) (i : Nat) (hk : kr.of s) : kr.of (State.digestFails s j i) := by
  unfold State.digestFails
  try dsimp only
  repeat' split
  all_goals first | with_reducible exact hk | simp (maxDischargeDepth := 40) [foldl_kept, ite_kept, hk]

@[simp] theorem State.setCtx_kept (kr : Kept) (s : State) (b : Job) (e : CtxEffect) (hk : kr.of s) : kr.of (State.setCtx s b e) := by
  unfold State.setCtx
  dsimp only
  repeat' split
  all_goals simp (maxDischargeDepth := 40) [hk]

@[simp] theorem State.bump64_kept (kr : Kept) (s : State) (off : Nat) (idx : Nat) (n : Nat) (hk : kr.of s) : kr.of (State.bump64 s off idx n) := by
  unfold State.bump64
  exact hk

@[simp] theorem tagEnd_kept (kr : Kept) (s : State) (b : Job) (tag : Bytes) (more : List Tlv) (hk : kr.of s) : kr.of (tagEnd s b tag more).1 := by
  unfold tagEnd
  dsimp only
  repeat' split
  all_goals simp (maxDischargeDepth := 40) [hk]

@[simp] theorem xtsEnd_kept (kr : Kept) (enc : Bool) (s : State) (b : Job) (data : Bytes) (hk : kr.of s) : kr.of (xtsEnd enc s b data).1 := by
  unfold xtsEnd
  dsimp only
  split <;> simp (maxDischargeDepth := 40) [hk]

@[simp] theorem State.deBlocks_kept (kr : Kept) (s : State) (b : Job) (i : AlgInfo) (bytes : Nat) (hk : kr.of s) : kr.of (State.deBlocks s b i bytes) := by
  unfold State.deBlocks
  exact hk

@[simp] theorem compareEnd_kept (kr : Kept) (s : State) (b : Job) (d : Bytes) (e : CtxEffect) (hk : kr.of s) : kr.of (compareEnd s b d e).1 := by
  unfold compareEnd
  dsimp only
  split <;> simp (maxDischargeDepth := 40) [hk]

@[simp] theorem State.signEnd_kept (kr : Kept) (s : State) (b : Job) (rounds : Nat) (cap : Nat) (hist : Nat) (hk : kr.of s) : kr.of (State.signEnd s b rounds cap hist).1 := by
  unfold State.signEnd
  split <;> simp (maxDischargeDepth := 40) [hk]

@[simp] theorem State.countAttempts_kept (kr : Kept) (s : State) (b : Job) (n : Nat) (hk : kr.of s) : kr.of (State.countAttempts s b n) := by
  unfold State.countAttempts
  simp (maxDischargeDepth := 40) (contextual := true) [foldl_kept, hk]

@[simp] theorem State.signDraw_kept (kr : Kept) (s : State) (b : Job) (data : Bytes) (hk : kr.of s) : kr.of (State.signDraw s b data).1 := by
  unfold State.signDraw
  dsimp only
  split <;> simp (maxDischargeDepth := 40) [hk]

@[simp] theorem State.signMessage_kept (kr : Kept) (s : State) (b : Job) (data : Bytes) (hk : kr.of s) : kr.of (State.signMessage s b data).2 := by
  unfold State.signMessage
  repeat' split
  all_goals simp (maxDischargeDepth := 40) [hk]

@[simp] theorem State.yieldPes_kept (kr : Kept) (s : State) (b : Job) (hk : kr.of s) : kr.of (State.yieldPes s b) := by
  unfold State.yieldPes
  split
  · exact foldl_kept kr _ (fun _ _ h => by simp [h]) _ _ hk
  · exact hk

@[simp] theorem State.onPath_kept (kr : Kept) (s : State) (p : TwinPath) (f : PairPath → PairPath) (hk : kr.of s) : kr.of (State.onPath s p f) := by
  unfold State.onPath
  exact hk

@[simp] theorem State.pairEvent_kept (kr : Kept) (s : State) (code : Nat) (path : Option TwinPath) (hk : kr.of s) : kr.of (State.pairEvent s code path) := by
  unfold State.pairEvent
  simp [hk]

@[simp] theorem State.setPairState_kept (kr : Kept) (s : State) (st : PairState) (role : Nat) (hk : kr.of s) : kr.of (State.setPairState s st role) := by
  unfold State.setPairState
  exact hk

@[simp] theorem State.sendFrame_kept (kr : Kept) (s : State) (p : TwinPath) (kind : Nat) (mseq : Nat) (body : Bytes) (hk : kr.of s) : kr.of (State.sendFrame s p kind mseq body) := by
  unfold State.sendFrame
  simp [hk]

@[simp] theorem State.sendOnPaths_kept (kr : Kept) (s : State) (kind : Nat) (mseq : Nat) (body : Bytes) (hk : kr.of s) : kr.of (State.sendOnPaths s kind mseq body) := by
  unfold State.sendOnPaths
  simp (maxDischargeDepth := 40) (contextual := true) [foldl_kept, hk]

@[simp] theorem State.sendRecord_kept (kr : Kept) (s : State) (kind : Nat) (body : Bytes) (job : Option Nat) (hk : kr.of s) : kr.of (State.sendRecord s kind body job) := by
  unfold State.sendRecord
  dsimp only
  repeat' split
  all_goals simp (maxDischargeDepth := 40) [hk]

@[simp] theorem State.sendAck_kept (kr : Kept) (s : State) (mseq : Nat) (status : Nat) (hk : kr.of s) : kr.of (State.sendAck s mseq status) := by
  unfold State.sendAck
  simp [hk]

@[simp] theorem State.sendHeartbeats_kept (kr : Kept) (s : State) (hk : kr.of s) : kr.of (State.sendHeartbeats s) := by
  unfold State.sendHeartbeats
  split <;> simp (maxDischargeDepth := 40) (contextual := true) [foldl_kept, hk]

@[simp] theorem State.awaitAck_kept (kr : Kept) (s : State) (j : Nat) (hk : kr.of s) : kr.of (State.awaitAck s j) := by
  unfold State.awaitAck
  simp [hk]

@[simp] theorem State.putRecord_kept (kr : Kept) (s : State) (r : JRecord) (hk : kr.of s) : kr.of (State.putRecord s r) := by
  unfold State.putRecord
  exact hk

@[simp] theorem State.refreshAhead_kept (kr : Kept) (s : State) (fuel : Nat) (hk : kr.of s) : kr.of (State.refreshAhead s fuel) := by
  induction fuel generalizing s with
  | zero => unfold State.refreshAhead; exact hk
  | succ n ih =>
    unfold State.refreshAhead
    try dsimp only
    repeat' split
    all_goals first | with_reducible exact hk | (simp (maxDischargeDepth := 40) (contextual := true) [foldl_kept, ite_kept, Kept.of, hk, ih]; done)

@[simp] theorem State.appendJournal_kept (kr : Kept) (s : State) (node : Nat) (kind : Nat) (nextEven : Nat) (nextOdd : Nat) (hk : kr.of s) : kr.of (State.appendJournal s node kind nextEven nextOdd) := by
  unfold State.appendJournal
  simp [hk]

@[simp] theorem State.setHbs_kept (kr : Kept) (s : State) (node : Nat) (k : HbsKey) (hk : kr.of s) : kr.of (State.setHbs s node k) := by
  unfold State.setHbs
  exact hk

@[simp] theorem State.launchRebuild_kept (kr : Kept) (s : State) (hk : kr.of s) : kr.of (State.launchRebuild s) := by
  unfold State.launchRebuild
  dsimp only
  repeat' split
  all_goals first
    | exact hk
    | exact foldl_kept kr _ (fun t _ h => State.addJob_kept kr t _ h) _ _ (by simp [hk])

@[simp] theorem State.settleHbs_kept (kr : Kept) (s : State) (hk : kr.of s) : kr.of (State.settleHbs s) := by
  unfold State.settleHbs
  exact hk

@[simp] theorem State.mirrorKey_kept (kr : Kept) (s : State) (node : Nat) (k : HbsKey) (hk : kr.of s) : kr.of (State.mirrorKey s node k) := by
  unfold State.mirrorKey
  try dsimp only
  repeat' split
  all_goals first | with_reducible exact hk | simp (maxDischargeDepth := 40) [foldl_kept, ite_kept, hk]

@[simp] theorem State.mirrorPending_kept (kr : Kept) (s : State) (hk : kr.of s) : kr.of (State.mirrorPending s) := by
  unfold State.mirrorPending
  exact foldl_kept kr _ (fun _ _ h => by split <;> simp [h]) _ _ hk

@[simp] theorem State.reserve_kept (kr : Kept) (s : State) (node : Nat) (k : HbsKey) (b : Nat) (hk : kr.of s) : kr.of (State.reserve s node k b) := by
  unfold State.reserve
  simp (maxDischargeDepth := 40) [hk]

@[simp] theorem State.checkLow_kept (kr : Kept) (s : State) (node : Nat) (hk : kr.of s) : kr.of (State.checkLow s node) := by
  unfold State.checkLow
  repeat' split
  all_goals simp (maxDischargeDepth := 40) (contextual := true) [foldl_kept, ite_kept, Kept.of, hk]

@[simp] theorem State.checkLows_kept (kr : Kept) (s : State) (hk : kr.of s) : kr.of (State.checkLows s) := by
  unfold State.checkLows
  exact foldl_kept kr _ (fun _ _ h => by simp [h]) _ _ hk

@[simp] theorem State.takeParity_kept (kr : Kept) (s : State) (p : Nat) (hk : kr.of s) : kr.of (State.takeParity s p) := by
  unfold State.takeParity
  dsimp only
  repeat' split
  all_goals simp (maxDischargeDepth := 40) [Kept.of, hk]

@[simp] theorem State.dropParity_kept (kr : Kept) (s : State) (hk : kr.of s) : kr.of (State.dropParity s) := by
  unfold State.dropParity
  try dsimp only
  repeat' split
  all_goals first | with_reducible exact hk | simp (maxDischargeDepth := 40) [foldl_kept, ite_kept, hk]

@[simp] theorem State.retireHbs_kept (kr : Kept) (s : State) (node : Nat) (hk : kr.of s) : kr.of (State.retireHbs s node) := by
  unfold State.retireHbs
  dsimp only
  repeat' split
  all_goals simp (maxDischargeDepth := 40) [Kept.of, hk]

@[simp] theorem State.markHwm_kept (kr : Kept) (s : State) (hk : kr.of s) : kr.of (State.markHwm s) := by
  unfold State.markHwm
  exact hk

@[simp] theorem State.complete_kept (kr : Kept) (s : State) (src : Source) (inst : Nat) (e : Entry) (ending : Ending) (hk : kr.of s) : kr.of (State.complete s src inst e ending) := by
  unfold State.complete
  simp [hk]

@[simp] theorem State.accept_kept (kr : Kept) (s : State) (src : Source) (inst : Nat) (e : Entry) (hk : kr.of s) : kr.of (State.accept s src inst e) := by
  unfold State.accept
  repeat' split
  all_goals simp (maxDischargeDepth := 40) [hk]

@[simp] theorem State.finish_kept (kr : Kept) (s : State) (j : Nat) (hk : kr.of s) : kr.of (State.finish s j) := by
  unfold State.finish
  dsimp only
  repeat' split
  all_goals simp (maxDischargeDepth := 40) [Kept.of, hk]

@[simp] theorem State.mirrorIf_kept (kr : Kept) (s : State) (q : Nat) (before : Nat) (hk : kr.of s) : kr.of (State.mirrorIf s q before) := by
  unfold State.mirrorIf
  split <;> simp (maxDischargeDepth := 40) [hk]

theorem State.putWide_kept (kr : Kept) (s : State) (q r : Nat) (w : Reg) (put : State → Nat → Reg → State)
    (hp : ∀ s r w, kr.of s → kr.of (put s r w)) (hk : kr.of s) : kr.of (State.putWide s q r w put) := by
  unfold State.putWide
  repeat' split
  · simp [hk]
  · exact hp _ _ _ (hp _ _ _ (by simp [hk]))
  · exact hp _ _ _ hk

@[simp] theorem State.enablePair_kept (kr : Kept) (s : State) (q : Nat) (hk : kr.of s) : kr.of (State.enablePair s q) := by
  unfold State.enablePair
  dsimp only
  split <;> simp (maxDischargeDepth := 40) [hk]

@[simp] theorem State.abortJob_kept (kr : Kept) (s : State) (j : Nat) (hk : kr.of s) : kr.of (State.abortJob s j) := by
  unfold State.abortJob
  repeat' split
  all_goals simp (maxDischargeDepth := 40) [hk]

@[simp] theorem State.disablePair_kept (kr : Kept) (s : State) (q : Nat) (hk : kr.of s) : kr.of (State.disablePair s q) := by
  unfold State.disablePair
  repeat' split
  all_goals simp (maxDischargeDepth := 40) (contextual := true) [foldl_kept, ite_kept, Kept.of, hk]

@[simp] theorem State.killPair_kept (kr : Kept) (s : State) (q : Nat) (hk : kr.of s) : kr.of (State.killPair s q) := by
  unfold State.killPair
  exact hk

@[simp] theorem State.removeJob_kept (kr : Kept) (s : State) (j : Nat) (hk : kr.of s) : kr.of (State.removeJob s j) := by
  unfold State.removeJob
  simp (maxDischargeDepth := 40) [hk]

@[simp] theorem State.setDrbg_kept (kr : Kept) (s : State) (d : Nat) (x : Drbg) (hk : kr.of s) : kr.of (State.setDrbg s d x) := by
  unfold State.setDrbg
  exact hk

@[simp] theorem State.reseed_kept (kr : Kept) (s : State) (d : Nat) (e : Nat) (hk : kr.of s) : kr.of (State.reseed s d e) := by
  unfold State.reseed
  exact hk

@[simp] theorem State.atLimit_kept (kr : Kept) (s : State) (d : Nat) (hk : kr.of s) : kr.of (State.atLimit s d) := by
  unfold State.atLimit
  dsimp only
  repeat' split
  all_goals simp (maxDischargeDepth := 40) [hk]

@[simp] theorem State.generate_kept (kr : Kept) (s : State) (d : Nat) (n : Nat) (hk : kr.of s) : kr.of (State.generate s d n).2 := by
  unfold State.generate
  dsimp only
  split <;> simp (maxDischargeDepth := 40) [hk]

@[simp] theorem State.setExpander_kept (kr : Kept) (s : State) (k : Nat) (x : Expander) (hk : kr.of s) : kr.of (State.setExpander s k x) := by
  unfold State.setExpander
  exact hk

@[simp] theorem State.takeRandom_kept (kr : Kept) (s : State) (b : Job) (cls : Nat) (k : Nat) (hk : kr.of s) : kr.of (State.takeRandom s b cls k).2 := by
  unfold State.takeRandom
  repeat' split
  all_goals simp (maxDischargeDepth := 40) [hk]

@[simp] theorem State.rngUnavailable_kept (kr : Kept) (s : State) (j : Nat) (hk : kr.of s) : kr.of (State.rngUnavailable s j) := by
  unfold State.rngUnavailable
  simp [hk]

@[simp] theorem State.lacksRandom_kept (kr : Kept) (s : State) (j : Nat) (hk : kr.of s) : kr.of (State.lacksRandom s j) := by
  unfold State.lacksRandom
  split <;> simp (maxDischargeDepth := 40) [hk]

@[simp] theorem State.setSource_kept (kr : Kept) (s : State) (i : Nat) (x : NoiseSource) (hk : kr.of s) : kr.of (State.setSource s i x) := by
  unfold State.setSource
  exact hk

@[simp] theorem State.nextEpoch_kept (kr : Kept) (s : State) (hk : kr.of s) : kr.of (State.nextEpoch s) := by
  unfold State.nextEpoch
  exact hk

@[simp] theorem State.checkLost_kept (kr : Kept) (s : State) (hk : kr.of s) : kr.of (State.checkLost s) := by
  unfold State.checkLost
  split <;> simp (maxDischargeDepth := 40) [hk]

@[simp] theorem State.callStandby_kept (kr : Kept) (s : State) (hk : kr.of s) : kr.of (State.callStandby s) := by
  unfold State.callStandby
  split <;> simp (maxDischargeDepth := 40) [hk]

@[simp] theorem State.switchSource_kept (kr : Kept) (s : State) (i : Nat) (cause : Nat) (hk : kr.of s) : kr.of (State.switchSource s i cause) := by
  unfold State.switchSource
  simp (maxDischargeDepth := 40) [hk]

@[simp] theorem State.setRun_kept (kr : Kept) (s : State) (id : Nat) (r : BerthRun) (hk : kr.of s) : kr.of (State.setRun s id r) := by
  unfold State.setRun
  exact hk

@[simp] theorem State.pickInstance_kept (kr : Kept) (s : State) (cls : Nat) (waiting : List Nat) (able : List Nat) (hk : kr.of s) : kr.of (State.pickInstance s cls waiting able).2 := by
  unfold State.pickInstance
  dsimp only
  split <;> simp (maxDischargeDepth := 40) [hk]

@[simp] theorem State.changeOwner_kept (kr : Kept) (s : State) (cls : Nat) (i : Nat) (inst : Nat) (hk : kr.of s) : kr.of (State.changeOwner s cls i inst) := by
  unfold State.changeOwner
  extract_lets k e s1 kept l s2
  split
  · exact hk
  · have h1 : kr.of s1 := by
      dsimp only [s1]
      repeat' split
      all_goals simp [hk]
    refine State.setEng_kept kr _ _ _ ?_
    dsimp only [s2]
    split
    · exact kept_put kr s1 i _ {} (fun h => memCanonical_filter _ (kept_mem kr s1 i h1 h)) h1
    · exact h1

@[simp] theorem State.startUnit_kept (kr : Kept) (s : State) (b : Job) (cls : Nat) (k : Nat) (hk : kr.of s) : kr.of (State.startUnit s b cls k) := by
  unfold State.startUnit
  dsimp only
  split
  · simp [hk]
  · exact kept_put kr s _ _ _ (kept_mem kr s _ hk) hk

@[simp] theorem State.loadEngine_kept (kr : Kept) (s : State) (j : Nat) (b : Job) (cls : Nat) (k : Nat) (keys : List LoadedKey) (berth : Bool) (hk : kr.of s) : kr.of (State.loadEngine s j b cls k keys berth) := by
  unfold State.loadEngine
  try dsimp only
  repeat' split
  all_goals first | with_reducible exact hk | simp (maxDischargeDepth := 40) [foldl_kept, ite_kept, hk]

@[simp] theorem State.allotPeer_kept (kr : Kept) (s : State) (j : Nat) (b : Job) (hk : kr.of s) : kr.of (State.allotPeer s j b) := by
  unfold State.allotPeer
  split
  · exact hk
  · exact hk

@[simp] theorem State.beginJob_kept (kr : Kept) (s : State) (j : Nat) (b : Job) (cls : Nat) (i : Nat) (fork : List Nat) (berth : Option Nat) (needs : List KeyNeed) (old : Bool) (leaf : Option Nat) (hk : kr.of s) : kr.of (State.beginJob s j b cls i fork berth needs old leaf) := by
  unfold State.beginJob
  extract_lets keys b copies s1 ks s2 s3 s4
  have h1 : kr.of s1 := State.allotPeer_kept kr _ _ _ (State.setJob_kept kr s _ _ hk)
  have seat : ∀ (t : State) (c i k : Nat) (keys : List LoadedKey) (o : Bool), kr.of t →
      kr.of (((t.changeOwner c i b.inst).loadEngine j b c k keys o).startUnit b c k) := fun t c i k _ _ h =>
    State.startUnit_kept kr _ _ _ _ (State.loadEngine_kept kr _ _ _ _ _ _ _ (State.changeOwner_kept kr t _ _ _ h))
  split
  · exact h1
  · have h2 : kr.of s2 := foldl_kept kr _ (fun t k h => seat t _ _ _ _ _ h) _ _ h1
    have h3 : kr.of s3 := by
      dsimp only [s3]
      split
      · exact seat _ _ _ _ _ _ h2
      · exact h2
    have h4 : kr.of s4 := State.chargeScratch_kept kr s3 _ _ _ h3
    repeat' split
    · exact State.readCopy_kept kr _ _ _ _ h4
    · exact State.endJob_kept kr _ _ _ h4
    · exact h4

@[simp] theorem State.tryStart_kept (kr : Kept) (s : State) (j : Nat) (b : Job) (cls i : Nat) (fork : List Nat)
    (berth : Option Nat) (hk : kr.of s) : kr.of (s.tryStart j b cls i fork berth) := by
  unfold State.tryStart
  split
  dsimp only
  have start : ∀ (ks : List Nat) (t : State), kr.of t → kr.of (ks.foldl (fun (a : Bool × State) k =>
      (a.1 || (a.2.takeRandom b (k / 64) k).1, (a.2.takeRandom b (k / 64) k).2)) (false, t)).2 := fun ks t h =>
    foldl_kept2 (β := Bool) kr (fun a k => (a.1 || (a.2.takeRandom b (k / 64) k).1, (a.2.takeRandom b (k / 64) k).2))
      (fun a x h => State.takeRandom_kept kr a.2 b (x / 64) x h) ks (false, t) h
  repeat' split
  all_goals first
    | exact State.failJob_kept kr _ _ _ hk
    | (simp (maxDischargeDepth := 40) [hk]; done)
    | skip
  all_goals have ha := State.approve_kept kr _ _ _ _ (by assumption) hk
  all_goals first
    | exact State.beginJob_kept kr _ _ _ _ _ _ _ _ _ _ (start _ _ ha)
    | exact State.beginJob_kept kr _ _ _ _ _ _ _ _ _ _ (State.drawBytes_kept kr _ _ (start _ _ ha))
    | exact State.beginJob_kept kr _ _ _ _ _ _ _ _ _ _ (State.drawBytes_kept kr _ _
        (State.checkLow_kept kr _ _ (State.setHbs_kept kr _ _ _ (start _ _ ha))))

@[simp] theorem State.saveContext_kept (kr : Kept) (s : State) (cls : Nat) (i : Nat) (quantum : Bool) (hk : kr.of s) : kr.of (State.saveContext s cls i quantum) := by
  unfold State.saveContext
  extract_lets k
  split
  · exact hk
  · split
    · simp [hk]
    · extract_lets
      rename_i sp s1 s2 s3 seq s4
      have h1 : kr.of s1 := by
        dsimp only [s1]
        split
        · simp [hk]
        · exact hk
      have h2 : kr.of s2 := by
        dsimp only [s2]
        split
        · exact h1
        · simp [h1]
      have h3 : kr.of s3 := by
        dsimp only [s3]
        repeat' split
        · simp [h2]
        · simp [h2]
        · exact h2
      have h4 : kr.of s4 := State.onEng_kept kr s3 _ _ h3
      exact State.setJob_kept kr _ _ _ h4

@[simp] theorem State.resumeJob_kept (kr : Kept) (s : State) (j : Nat) (hk : kr.of s) : kr.of (State.resumeJob s j) := by
  unfold State.resumeJob
  repeat' split
  · exact hk
  · exact hk
  · extract_lets k r s1
    have h1 : kr.of s1 :=
      State.onEng_kept kr _ _ _ (State.dropContext_kept kr _ _ (State.changeOwner_kept kr s _ _ _ hk))
    exact State.setJob_kept kr _ _ _ h1

theorem State.pickInstance_next (kr : Kept) (s t : State) (cls : Nat) (w a : List Nat) (n : Option Nat)
    (he : s.pickInstance cls w a = (n, t)) (hk : kr.of s) : kr.of t := by
  have h := State.pickInstance_kept kr s cls w a hk
  rwa [he] at h

@[simp] theorem State.grantBestEffort_kept (kr : Kept) (s : State) (cls i : Nat) (hk : kr.of s) :
    kr.of (s.grantBestEffort cls i) := by
  unfold State.grantBestEffort
  dsimp only
  repeat' split
  all_goals first
    | (simp (maxDischargeDepth := 40) (contextual := true) [hk]; done)
    | skip
  all_goals
    have h1 := State.pickInstance_next kr _ _ _ _ _ _ (by assumption) hk
    simp (maxDischargeDepth := 40) [Kept.of, h1]

@[simp] theorem State.grantInBerth_kept (kr : Kept) (s : State) (w : Berth) (i : Nat) (hk : kr.of s) : kr.of (State.grantInBerth s w i) := by
  unfold State.grantInBerth
  dsimp only
  repeat' split
  all_goals simp (maxDischargeDepth := 40) [hk]

@[simp] theorem State.drainEngine_kept (kr : Kept) (s : State) (k : Nat) (hk : kr.of s) : kr.of (State.drainEngine s k) := by
  unfold State.drainEngine
  dsimp only
  repeat' split
  all_goals simp (maxDischargeDepth := 40) [hk]

@[simp] theorem State.grant_kept (kr : Kept) (s : State) (cls : Nat) (i : Nat) (hk : kr.of s) : kr.of (State.grant s cls i) := by
  unfold State.grant
  dsimp only
  repeat' split
  all_goals simp (maxDischargeDepth := 40) [hk]

theorem State.setLvu_kept (kr : Kept) (s : State) (pe : Nat) (l : Lvu) (hl : kr.lv → memCanonical l.mem) (hk : kr.of s) :
    kr.of (s.setLvu pe l) := kept_put kr s pe l {} hl hk

@[simp] theorem State.latchLvu_kept (kr : Kept) (s : State) (pe : Nat) (lop : Nat) (uaddr : Nat) (f : Nat × Nat × Nat) (multi : Bool) (hk : kr.of s) : kr.of (State.latchLvu s pe lop uaddr f multi).2 := by
  unfold State.latchLvu
  split <;> simp (maxDischargeDepth := 40) [hk]

@[simp] theorem State.markRetried_kept (kr : Kept) (s : State) (pe : Nat) (hk : kr.of s) : kr.of (State.markRetried s pe) := by
  unfold State.markRetried
  split <;> simp (maxDischargeDepth := 40) [hk]

theorem kept_lvu (kr : Kept) (s : State) (pe : Nat) (hk : kr.of s) (h : kr.lv) :
    memCanonical (s.lvu pe).mem := kept_mem kr s pe hk h

theorem State.lvuEnd_kept (kr : Kept) (s : State) (pe lop : Nat) (o : LvuOp) (rand : List Nat) (e : LvuEffect)
    (again : Option LvuRestart) (he : kr.lv → memCanonical e.after.mem) (hk : kr.of s) :
    kr.of (s.lvuEnd pe lop o rand e again) := by
  unfold State.lvuEnd
  split
  · have h1 := State.setLvu_kept kr s pe { e.after with restart := none } he hk
    dsimp only
    split
    · exact h1
    · simp (maxDischargeDepth := 40) [h1]
  · dsimp only
    split
    · exact State.setLvu_kept kr _ pe _ (kept_lvu kr _ pe (State.latchLvu_kept kr s pe lop _ _ _ hk))
        (State.latchLvu_kept kr s pe lop _ _ _ hk)
    · rename_i a
      have h1 : kr.of (if a.latched = true then ({ s with mc := { s.mc with
          flt := s.mc.flt.map fun x => if x.engine = pe then { x with rep := true } else x } } : State) else s) := by
        split
        · exact hk
        · exact hk
      have h2 := State.setLvu_kept kr _ pe { (State.lvu _ pe) with restart := none } (kept_lvu kr _ pe h1) h1
      simp (maxDischargeDepth := 40) [h2]

@[simp] theorem State.issue_kept (kr : Kept) (s : State) (pe : Nat) (lop : Nat) (o : LvuOp) (regs : List Nat) (auxOk : Bool) (hk : kr.of s) : kr.of (State.issue s pe lop o regs auxOk) := by
  unfold State.issue
  split
  · exact State.lvuEnd_kept kr s pe lop o [] _ none (fun h => lvuDo_mem lop [] o _ (kept_lvu kr s pe hk h)) hk
  · exact hk

@[simp] theorem State.advanceHead_kept (kr : Kept) (s : State) (q : Nat) (units : Nat) (hk : kr.of s) : kr.of (State.advanceHead s q units) := by
  unfold State.advanceHead
  exact hk

@[simp] theorem State.setupWrite_kept (kr : Kept) (s : State) (q : Nat) (r : Nat) (v : Reg) (hk : kr.of s) : kr.of (State.setupWrite s q r v) := by
  unfold State.setupWrite
  dsimp only
  split
  · simp [hk]
  · exact State.putWide_kept kr s _ _ _ _ (fun _ _ _ h => by simp [h]) hk

@[simp] theorem State.askSetup_kept (kr : Kept) (s : State) (q : Nat) (r : Nat) (v : Reg) (what : SetupRequest) (hk : kr.of s) : kr.of (State.askSetup s q r v what) := by
  unfold State.askSetup
  exact hk

@[simp] theorem State.deliverPba_kept (kr : Kept) (s : State) (fn : Nat) (hk : kr.of s) : kr.of (State.deliverPba s fn) := by
  unfold State.deliverPba
  simp (maxDischargeDepth := 40) (contextual := true) [foldl_kept, hk]

@[simp] theorem State.releaseD3_kept (kr : Kept) (s : State) (q : Nat) (hk : kr.of s) : kr.of (State.releaseD3 s q) := by
  unfold State.releaseD3
  repeat' split
  all_goals simp (maxDischargeDepth := 40) (contextual := true) [foldl_kept, ite_kept, Kept.of, hk]

@[simp] theorem State.setMacsec_kept (kr : Kept) (s : State) (p : Nat) (m : Macsec) (hk : kr.of s) : kr.of (State.setMacsec s p m) := by
  unfold State.setMacsec
  exact hk

@[simp] theorem State.macsecDrop_kept (kr : Kept) (s : State) (l : Nat) (hk : kr.of s) : kr.of (State.macsecDrop s l) := by
  unfold State.macsecDrop
  exact hk

theorem State.protect_kept (kr : Kept) (s t : State) (l : Nat) (b out : Bytes) (he : s.protect l b = some (out, t))
    (hk : kr.of s) : kr.of t := by
  unfold State.protect at he
  dsimp only at he
  repeat' split at he
  all_goals simp_all
  all_goals (obtain ⟨_, rfl⟩ := he; simp (maxDischargeDepth := 40) [hk, Kept.of])

@[simp] theorem State.sendLane_kept (kr : Kept) (s : State) (l : Nat) (vid : Option Nat) (bytes : Bytes) (hk : kr.of s) :
    kr.of (s.sendLane l vid bytes) := by
  unfold State.sendLane
  split
  · exact hk
  · split
    · split
      · rename_i he
        have := State.protect_kept kr _ _ _ _ _ he hk
        simp (maxDischargeDepth := 40) [this]
      · simp [hk]
    · simp (maxDischargeDepth := 40) [hk]

@[simp] theorem State.sendPort_kept (kr : Kept) (s : State) (p : Nat) (src : Nat) (both : Bool) (vid : Option Nat) (bytes : Bytes) (hk : kr.of s) : kr.of (State.sendPort s p src both vid bytes) := by
  unfold State.sendPort
  repeat' split
  all_goals simp (maxDischargeDepth := 40) [hk]

@[simp] theorem State.setStream_kept (kr : Kept) (s : State) (id : Nat) (x : Stream) (hk : kr.of s) : kr.of (State.setStream s id x) := by
  unfold State.setStream
  exact hk

@[simp] theorem State.countStream_kept (kr : Kept) (s : State) (id : Nat) (k : Nat) (hk : kr.of s) : kr.of (State.countStream s id k) := by
  unfold State.countStream
  split <;> simp (maxDischargeDepth := 40) [hk]

@[simp] theorem State.touchContext_kept (kr : Kept) (s : State) (id : Nat) (x : Stream) (hk : kr.of s) : kr.of (State.touchContext s id x) := by
  unfold State.touchContext
  dsimp only
  repeat' split
  all_goals simp (maxDischargeDepth := 40) [hk]

@[simp] theorem State.countFrame_kept (kr : Kept) (s : State) (c : Nat) (se : Nat) (hk : kr.of s) : kr.of (State.countFrame s c se) := by
  unfold State.countFrame
  try dsimp only
  repeat' split
  all_goals first | with_reducible exact hk | simp (maxDischargeDepth := 40) [foldl_kept, ite_kept, hk]

@[simp] theorem State.setFlight_kept (kr : Kept) (s : State) (ev : Nat) (f : Flight) (hk : kr.of s) : kr.of (State.setFlight s ev f) := by
  unfold State.setFlight
  exact hk

@[simp] theorem State.dropFlight_kept (kr : Kept) (s : State) (ev : Nat) (hk : kr.of s) : kr.of (State.dropFlight s ev) := by
  unfold State.dropFlight
  exact hk

@[simp] theorem State.countCause_kept (kr : Kept) (s : State) (id : Nat) (c : Cause) (hk : kr.of s) : kr.of (State.countCause s id c) := by
  unfold State.countCause
  split <;> simp (maxDischargeDepth := 40) [hk]

@[simp] theorem State.frameFail_kept (kr : Kept) (s : State) (ev : Nat) (c : Cause) (hk : kr.of s) : kr.of (State.frameFail s ev c) := by
  unfold State.frameFail
  dsimp only
  repeat' split
  all_goals simp (maxDischargeDepth := 40) [hk]

@[simp] theorem State.streamJob_kept (kr : Kept) (s : State) (ev : Nat) (opcode : Nat) (handle : Nat) (params : List Tlv) (policy : Option Nat) (deadline : Nat) (dataLen : Nat) (hk : kr.of s) : kr.of (State.streamJob s ev opcode handle params policy deadline dataLen).2 := by
  unfold State.streamJob
  exact hk

@[simp] theorem State.startEvent_kept (kr : Kept) (s : State) (ev : Nat) (f : Flight) (p : Nat) (pol : EventPolicy) (hk : kr.of s) : kr.of (State.startEvent s ev f p pol) := by
  unfold State.startEvent
  exact hk

@[simp] theorem State.frameAccept_kept (kr : Kept) (s : State) (ev : Nat) (auth : Bytes) (hk : kr.of s) : kr.of (State.frameAccept s ev auth) := by
  unfold State.frameAccept
  dsimp only
  repeat' split
  all_goals simp (maxDischargeDepth := 40) [hk]

@[simp] theorem State.frameRsa_kept (kr : Kept) (s : State) (ev : Nat) (f : Flight) (x : Stream) (handle : Nat) (hk : kr.of s) : kr.of (State.frameRsa s ev f x handle) := by
  unfold State.frameRsa
  split <;> simp (maxDischargeDepth := 40) [hk]

@[simp] theorem State.loadSe_kept (kr : Kept) (s : State) (f : Flight) (h : Nat) (hk : kr.of s) : kr.of (State.loadSe s f h) := by
  unfold State.loadSe
  try dsimp only
  repeat' split
  all_goals first | with_reducible exact hk | simp (maxDischargeDepth := 40) [foldl_kept, ite_kept, hk]

@[simp] theorem State.frameChecks_kept (kr : Kept) (s : State) (ev : Nat) (f : Flight) (x : Stream) (hk : kr.of s) : kr.of (State.frameChecks s ev f x) := by
  unfold State.frameChecks
  dsimp only
  repeat' split
  all_goals simp (maxDischargeDepth := 40) [hk]

@[simp] theorem State.sendFlight_kept (kr : Kept) (s : State) (f : Flight) (bytes : Bytes) (hk : kr.of s) : kr.of (State.sendFlight s f bytes) := by
  unfold State.sendFlight
  simp [hk]

@[simp] theorem State.postCopy_kept (kr : Kept) (s : State) (inst : Nat) (stream : Nat) (lane : Nat) (frame : Bytes) (hk : kr.of s) : kr.of (State.postCopy s inst stream lane frame) := by
  unfold State.postCopy
  dsimp only
  repeat' split
  all_goals simp (maxDischargeDepth := 40) [hk]

@[simp] theorem State.lateEvent_kept (kr : Kept) (s : State) (ev : Nat) (hk : kr.of s) : kr.of (State.lateEvent s ev) := by
  unfold State.lateEvent
  repeat' split
  all_goals simp (maxDischargeDepth := 40) [hk]

@[simp] theorem State.flightOutcome_kept (kr : Kept) (s : State) (ev : Nat) (e : Ending) (hk : kr.of s) : kr.of (State.flightOutcome s ev e) := by
  unfold State.flightOutcome
  repeat' split
  all_goals simp (maxDischargeDepth := 40) [hk]

@[simp] theorem State.fragFault_kept (kr : Kept) (s : State) (j : Nat) (b : Job) (dmaFault : Option Nat) (hk : kr.of s) : kr.of (State.fragFault s j b dmaFault) := by
  unfold State.fragFault
  try dsimp only
  repeat' split
  all_goals first | with_reducible exact hk | simp (maxDischargeDepth := 40) [foldl_kept, ite_kept, hk]

@[simp] theorem State.endChecks_kept (kr : Kept) (s : State) (j : Nat) (b : Job) (cls : Nat) (i : Nat) (failedChecks : Nat) (dmaFault : Option Nat) (hk : kr.of s) : kr.of (State.endChecks s j b cls i failedChecks dmaFault) := by
  unfold State.endChecks
  repeat' split
  all_goals simp (maxDischargeDepth := 40) [hk]

@[simp] theorem State.settleEnd_kept (kr : Kept) (s : State) (b : Job) (e : Ending) (hk : kr.of s) : kr.of (State.settleEnd s b e) := by
  unfold State.settleEnd
  repeat' split
  all_goals simp (maxDischargeDepth := 40) (contextual := true) [foldl_kept, ite_kept, Kept.of, hk]

@[simp] theorem State.countEnd_kept (kr : Kept) (s : State) (b : Job) (e : Ending) (cls : Nat) (i : Nat) (hk : kr.of s) : kr.of (State.countEnd s b e cls i) := by
  unfold State.countEnd
  dsimp only
  repeat' split
  all_goals simp (maxDischargeDepth := 40) [hk]

@[simp] theorem State.endOnEngine_kept (kr : Kept) (s : State) (j : Nat) (b : Job) (cls : Nat) (i : Nat) (failedChecks : Nat) (dmaFault : Option Nat) (hk : kr.of s) : kr.of (State.endOnEngine s j b cls i failedChecks dmaFault) := by
  unfold State.endOnEngine
  extract_lets seat s1 s2
  have h1 : kr.of s1 := State.endChecks_kept kr s j b _ _ _ _ hk
  have h2 : kr.of s2 := by
    dsimp only [s2]
    split
    · simp [h1]
    · exact h1
  split
  · exact h2
  · split
    · exact h2
    · extract_lets s3 s4 verify s5
      have h4 : kr.of s4 := by simp [s3, s4, h2]
      have h5 : kr.of s5 := foldl_kept kr _ (fun _ _ h => by simp [h]) _ _ (State.dropContext_kept kr _ _ h4)
      simp [h5]

@[simp] theorem State.endPlain_kept (kr : Kept) (s : State) (b : Job) (e : Ending) (hk : kr.of s) : kr.of (State.endPlain s b e) := by
  unfold State.endPlain
  repeat' split
  all_goals simp (maxDischargeDepth := 40) [hk]

@[simp] theorem State.leave_kept (kr : Kept) (s : State) (j : Nat) (hk : kr.of s) : kr.of (State.leave s j) := by
  unfold State.leave
  repeat' split
  all_goals simp (maxDischargeDepth := 40) [hk]

@[simp] theorem State.endWithout_kept (kr : Kept) (s : State) (j : Nat) (b : Job) (dmaFault : Option Nat) (hk : kr.of s) : kr.of (State.endWithout s j b dmaFault) := by
  unfold State.endWithout
  try dsimp only
  repeat' split
  all_goals first | with_reducible exact hk | simp (maxDischargeDepth := 40) [foldl_kept, ite_kept, hk]

@[simp] theorem State.cutInOn_kept (kr : Kept) (s : State) (k : Nat) (hk : kr.of s) : kr.of (State.cutInOn s k) := by
  unfold State.cutInOn
  repeat' split
  all_goals simp (maxDischargeDepth := 40) [hk]

@[simp] theorem State.preemptPoint_kept (kr : Kept) (s : State) (cls : Nat) (i : Nat) (hk : kr.of s) : kr.of (State.preemptPoint s cls i) := by
  unfold State.preemptPoint
  repeat' split
  all_goals simp (maxDischargeDepth := 40) [hk]

@[simp] theorem State.closeChannel_kept (kr : Kept) (s : State) (src : Source) (hk : kr.of s) : kr.of (State.closeChannel s src) := by
  unfold State.closeChannel
  dsimp only
  repeat' split
  all_goals simp (maxDischargeDepth := 40) [Kept.of, hk]

@[simp] theorem State.closeAll_kept (kr : Kept) (s : State) (hk : kr.of s) : kr.of (State.closeAll s) := by
  unfold State.closeAll
  simp (maxDischargeDepth := 40) (contextual := true) [foldl_kept, hk]

@[simp] theorem State.haltMp_kept (kr : Kept) (s : State) (hk : kr.of s) : kr.of (State.haltMp s) := by
  unfold State.haltMp
  exact hk

@[simp] theorem State.endInterrupted_kept (kr : Kept) (s : State) (hk : kr.of s) : kr.of (State.endInterrupted s) := by
  unfold State.endInterrupted
  simp (maxDischargeDepth := 40) (contextual := true) [foldl_kept, hk]

@[simp] theorem State.lockTime_kept (kr : Kept) (s : State) (hk : kr.of s) : kr.of (State.lockTime s) := by
  unfold State.lockTime
  simp [hk]

@[simp] theorem State.takeStep_kept (kr : Kept) (s : State) (hk : kr.of s) : kr.of (State.takeStep s) := by
  unfold State.takeStep
  repeat' split
  all_goals simp (maxDischargeDepth := 40) [hk]

@[simp] theorem State.addTask_kept (kr : Kept) (s : State) (j : Nat) (cls : Nat) (mask : Nat) (opcode : Nat) (ps : List Tlv) (hk : kr.of s) : kr.of (State.addTask s j cls mask opcode ps) := by
  unfold State.addTask
  try dsimp only
  repeat' split
  all_goals first | with_reducible exact hk | simp (maxDischargeDepth := 40) [foldl_kept, ite_kept, hk]

@[simp] theorem State.withEngine_kept (kr : Kept) (s : State) (j : Nat) (b : Job) (cls : Nat) (opcode : Nat) (ps : List Tlv) (f : State → State) (hf : ∀ t, kr.of t → kr.of (f t)) (hk : kr.of s) : kr.of (State.withEngine s j b cls opcode ps f) := by
  unfold State.withEngine
  repeat' split
  · exact hf _ hk
  · simp [hk]
  · simp [hk]
  · exact hf _ hk

@[simp] theorem State.loadManifest_kept (kr : Kept) (s : State) (m : Manifest) (hk : kr.of s) : kr.of (State.loadManifest s m) := by
  unfold State.loadManifest
  exact hk

@[simp] theorem manifestLoad_kept (kr : Kept) (s : State) (j : Nat) (b : Job) (hk : kr.of s) : kr.of (manifestLoad s j b) := by
  unfold manifestLoad
  dsimp only
  repeat' split
  all_goals simp (maxDischargeDepth := 40) [hk]

@[simp] theorem State.armActivation_kept (kr : Kept) (s : State) (j : Nat) (m : Manifest) (at_ : Option Stamp) (hk : kr.of s) : kr.of (State.armActivation s j m at_) := by
  unfold State.armActivation
  simp [hk]

@[simp] theorem manifestActivate_kept (kr : Kept) (s : State) (j : Nat) (b : Job) (hk : kr.of s) : kr.of (manifestActivate s j b) := by
  unfold manifestActivate
  repeat' split
  all_goals simp (maxDischargeDepth := 40) [hk]

@[simp] theorem State.pinBerth_kept (kr : Kept) (s : State) (w : Berth) (hk : kr.of s) : kr.of (State.pinBerth s w) := by
  unfold State.pinBerth
  repeat' split
  all_goals simp (maxDischargeDepth := 40) (contextual := true) [foldl_kept, ite_kept, Kept.of, hk]

@[simp] theorem State.unpinAll_kept (kr : Kept) (s : State) (hk : kr.of s) : kr.of (State.unpinAll s) := by
  unfold State.unpinAll
  exact hk

@[simp] theorem State.activate_kept (kr : Kept) (s : State) (m : Manifest) (hk : kr.of s) : kr.of (State.activate s m) := by
  unfold State.activate
  simp (maxDischargeDepth := 40) (contextual := true) [foldl_kept, Kept.of, hk]

@[simp] theorem State.awaitGroups_kept (kr : Kept) (s : State) (j : Nat) (groups : BitVec 16) (hk : kr.of s) : kr.of (State.awaitGroups s j groups) := by
  unfold State.awaitGroups
  simp [hk]

@[simp] theorem State.stageSet_kept (kr : Kept) (s : State) (j : Nat) (groups : BitVec 16) (writes : List (Nat × Nat)) (after : Ending) (hk : kr.of s) : kr.of (State.stageSet s j groups writes after) := by
  unfold State.stageSet
  simp (maxDischargeDepth := 40) (contextual := true) [foldl_kept, Kept.of, hk]

@[simp] theorem State.stageMp_kept (kr : Kept) (s : State) (x : MpSet) (hk : kr.of s) : kr.of (State.stageMp s x) := by
  unfold State.stageMp
  extract_lets g ws s1 c x s2
  have h1 : kr.of s1 := foldl_kept kr _ (fun _ _ h => by simp [h]) _ _ hk
  have h2 : kr.of s2 := h1
  split
  · simp [h2]
  · exact h2

@[simp] theorem State.requestSet_kept (kr : Kept) (s : State) (x : MpSet) (hk : kr.of s) : kr.of (State.requestSet s x) := by
  unfold State.requestSet
  try dsimp only
  repeat' split
  all_goals first | with_reducible exact hk | simp (maxDischargeDepth := 40) [foldl_kept, ite_kept, hk]

@[simp] theorem State.drainSets_kept (kr : Kept) (s : State) (hk : kr.of s) : kr.of (State.drainSets s) := by
  unfold State.drainSets
  exact foldl_kept kr _ (fun _ _ h => by simp [h]) _ _ hk

@[simp] theorem hbsKeygen_kept (kr : Kept) (xmss : Bool) (s : State) (b : Job) (hk : kr.of s) : kr.of (hbsKeygen xmss s b).1 := by
  unfold hbsKeygen
  dsimp only
  repeat' split
  all_goals simp (maxDischargeDepth := 40) [hk]

@[simp] theorem hbsSign_kept (kr : Kept) (xmss : Bool) (data : Bytes) (s : State) (b : Job) (hk : kr.of s) : kr.of (hbsSign xmss data s b).1 := by
  unfold hbsSign
  split <;> simp (maxDischargeDepth := 40) [hk]

@[simp] theorem hbsVerify_kept (kr : Kept) (xmss : Bool) (data : Bytes) (s : State) (b : Job) (hk : kr.of s) : kr.of (hbsVerify xmss data s b).1 := by
  unfold hbsVerify
  exact hk

@[simp] theorem State.clearUnread_kept (kr : Kept) (s : State) (slot : Nat) (hk : kr.of s) : kr.of (State.clearUnread s slot) := by
  unfold State.clearUnread
  try dsimp only
  repeat' split
  all_goals first | with_reducible exact hk | simp (maxDischargeDepth := 40) [foldl_kept, ite_kept, hk]

@[simp] theorem State.startRebuilds_kept (kr : Kept) (s : State) (hk : kr.of s) : kr.of (State.startRebuilds s) := by
  unfold State.startRebuilds
  split <;> simp (maxDischargeDepth := 40) [hk]

@[simp] theorem State.startDirect_kept (kr : Kept) (s : State) (j : Nat) (hk : kr.of s) : kr.of (State.startDirect s j) := by
  unfold State.startDirect
  simp [hk]

@[simp] theorem State.setRngWords_kept (kr : Kept) (s : State) (fn : Nat) (w : List Nat) (hk : kr.of s) : kr.of (State.setRngWords s fn w) := by
  unfold State.setRngWords
  exact hk

theorem State.withKeys_kept (kr : Kept) (s : State) (j inst : Nat) (ns : List KeyNeed) (f : State → State)
    (hf : ∀ s, kr.of s → kr.of (f s)) (hk : kr.of s) : kr.of (s.withKeys j inst ns f) := by
  unfold State.withKeys
  split
  · simp (maxDischargeDepth := 40) [hk]
  · have h1 := State.approve_kept kr _ _ _ _ (by assumption) hk
    exact hf _ (by simp [h1])

@[simp] theorem State.createKey_kept (kr : Kept) (s : State) (j : Nat) (b : Job) (x : Slot) (hk : kr.of s) :
    kr.of (s.createKey j b x) := by
  unfold State.createKey
  split
  · simp [hk]
  · have h1 := State.createSlot_kept kr _ _ _ _ _ _ _ (by assumption) hk
    dsimp only
    split <;> simp (maxDischargeDepth := 40) [h1]

theorem State.mayCreate_kept (kr : Kept) (s : State) (j : Nat) (b : Job) (f : State → State)
    (hf : ∀ s, kr.of s → kr.of (f s)) (hk : kr.of s) : kr.of (s.mayCreate j b f) := by
  unfold State.mayCreate
  split
  · simp [hk]
  · exact hf _ hk

@[simp] theorem State.dropCopies_kept (kr : Kept) (s : State) (ns : List Nat) (hk : kr.of s) : kr.of (State.dropCopies s ns) := by
  unfold State.dropCopies
  simp (maxDischargeDepth := 40) (contextual := true) [foldl_kept, hk]

@[simp] theorem State.invalidateKey_kept (kr : Kept) (s : State) (n : Nat) (hk : kr.of s) : kr.of (State.invalidateKey s n) := by
  unfold State.invalidateKey
  simp [hk]

@[simp] theorem State.sendInvalidate_kept (kr : Kept) (s : State) (h : Nat) (scope : Nat) (job : Option Nat) (hk : kr.of s) : kr.of (State.sendInvalidate s h scope job) := by
  unfold State.sendInvalidate
  split <;> simp (maxDischargeDepth := 40) [hk]

@[simp] theorem State.identitySign_kept (kr : Kept) (s : State) (ctx : String) (body : Bytes) (hk : kr.of s) : kr.of (State.identitySign s ctx body).2 := by
  unfold State.identitySign
  exact hk

@[simp] theorem State.rejectUpdate_kept (kr : Kept) (s : State) (f : UpdFail) (hk : kr.of s) : kr.of (State.rejectUpdate s f) := by
  unfold State.rejectUpdate
  exact hk

theorem State.storeUpdate_kept (kr : Kept) (s : State) (u : UpdResult) (counter : Nat)
    (hc : s.ks.updCounter ≤ counter) (hk : kr.of s) : kr.of (s.storeUpdate u counter) := by
  unfold State.storeUpdate
  extract_lets gone s1 k s2 hit s3
  have h1 : kr.of s1 := State.storeNodes_kept kr s _ _ hk
  have h2 : kr.of s2 := ⟨h1.1, hk.2.1.trans hc, h1.2.2⟩
  have h3 : kr.of s3 := foldl_kept kr _ (fun _ _ h => by simp [h]) _ _ h2
  exact foldl_kept kr _ (fun _ _ h => by simp [h]) _ _ h3

@[simp] theorem State.commitUpdate_kept (kr : Kept) (s : State) (u : UpdResult) (counter : Nat) (job : Option Nat) (hk : kr.of s) : kr.of (State.commitUpdate s u counter job) := by
  unfold State.commitUpdate
  extract_lets s1
  have h1 : kr.of s1 := State.bump_kept kr _ _ _ (State.storeUpdate_kept kr s u _ (Nat.le_max_left _ _) hk)
  repeat' split
  · simp [h1]
  · simp [h1]
  · exact h1

@[simp] theorem deriveChild_kept (kr : Kept) (s : State) (j : Nat) (b : Job) (hk : kr.of s) : kr.of (deriveChild s j b) := by
  unfold deriveChild
  dsimp only
  repeat' split
  all_goals first
    | (simp (maxDischargeDepth := 40) [hk]; done)
    | skip
  refine State.mayCreate_kept kr _ _ _ _ (fun s hs => State.withKeys_kept kr _ _ _ _ _ (fun s hs => ?_) hs) hk
  simp [hs]

@[simp] theorem instantiate_kept (kr : Kept) (s : State) (j : Nat) (b : Job) (hk : kr.of s) : kr.of (instantiate s j b) := by
  unfold instantiate
  dsimp only
  repeat' split
  all_goals simp (maxDischargeDepth := 40) [hk]

@[simp] theorem reserveSlot_kept (kr : Kept) (s : State) (j : Nat) (b : Job) (hk : kr.of s) : kr.of (reserveSlot s j b) := by
  unfold reserveSlot
  dsimp only
  repeat' split
  all_goals simp (maxDischargeDepth := 40) [hk]

@[simp] theorem State.invalidateGuard_kept (kr : Kept) (s : State) (j : Nat) (b : Job) (f : State → State) (hf : ∀ t, kr.of t → kr.of (f t)) (hk : kr.of s) : kr.of (State.invalidateGuard s j b f) := by
  unfold State.invalidateGuard
  repeat' split
  all_goals first | exact hf _ hk | simp [hk]

@[simp] theorem State.awaitScan_kept (kr : Kept) (s : State) (j : Nat) (hk : kr.of s) : kr.of (State.awaitScan s j) := by
  unfold State.awaitScan
  simp [hk]

@[simp] theorem State.scanned_kept (kr : Kept) (s : State) (j : Nat) (hk : kr.of s) : kr.of (State.scanned s j) := by
  unfold State.scanned
  dsimp only
  repeat' split
  all_goals simp (maxDischargeDepth := 40) [hk]

@[simp] theorem nodeInfo_kept (kr : Kept) (s : State) (j : Nat) (b : Job) (hk : kr.of s) : kr.of (nodeInfo s j b) := by
  unfold nodeInfo
  dsimp only
  repeat' split
  all_goals simp (maxDischargeDepth := 40) [hk]

@[simp] theorem updateApply_kept (kr : Kept) (s : State) (j : Nat) (b : Job) (hk : kr.of s) : kr.of (updateApply s j b) := by
  unfold updateApply
  extract_lets m session commit verified
  have hv : ∀ f : State → State, (∀ t, kr.of t → kr.of (f t)) → kr.of (verified f) := fun f hf =>
    State.withEngine_kept kr s j b _ _ _ f hf hk
  have hr : ∀ (t : State) (e : UpdFail) (x : Ending), kr.of t → kr.of ((t.rejectUpdate e).endJob j x) := fun t e x h => by
    simp [h]
  have hc : ∀ (t : State) (u : UpdResult), kr.of t → kr.of (commit t u) := fun t u h =>
    State.commitUpdate_kept kr t u _ _ h
  split
  · split
    · exact hc _ _ hk
    · simp [hk]
  · split
    · simp [hk]
    · split
      · simp [hk]
      · split
        · simp [hk]
        · split
          · simp [hk]
          · split
            · dsimp only
              split
              · exact hr _ _ _ hk
              · exact hv _ fun t h => hr _ _ _ h
            · refine hv _ fun t h => ?_
              repeat' split
              · exact hr _ _ _ h
              · simp [h]
              · exact hc _ _ h

@[simp] theorem State.setInst_kept (kr : Kept) (s : State) (n : Nat) (x : Instance) (hk : kr.of s) : kr.of (State.setInst s n x) := by
  unfold State.setInst
  exact hk

@[simp] theorem State.resetPair_kept (kr : Kept) (s : State) (q : Nat) (hk : kr.of s) : kr.of (State.resetPair s q) := by
  unfold State.resetPair
  exact hk

@[simp] theorem State.resetJob_kept (kr : Kept) (s : State) (j : Nat) (hk : kr.of s) : kr.of (State.resetJob s j) := by
  unfold State.resetJob
  repeat' split
  all_goals simp (maxDischargeDepth := 40) (contextual := true) [foldl_kept, ite_kept, Kept.of, hk]

@[simp] theorem State.resetQueues_kept (kr : Kept) (s : State) (n : Nat) (hk : kr.of s) : kr.of (State.resetQueues s n) := by
  unfold State.resetQueues
  simp (maxDischargeDepth := 40) (contextual := true) [foldl_kept, Kept.of, hk]

@[simp] theorem State.wipeInstance_kept (kr : Kept) (s : State) (n : Nat) (hk : kr.of s) : kr.of (State.wipeInstance s n) := by
  unfold State.wipeInstance
  simp (maxDischargeDepth := 40) (contextual := true) [foldl_kept, Kept.of, hk]

@[simp] theorem State.endQuiesce_kept (kr : Kept) (s : State) (n : Nat) (resume : Bool) (e : Ending) (hk : kr.of s) : kr.of (State.endQuiesce s n resume e) := by
  unfold State.endQuiesce
  simp (maxDischargeDepth := 40) (contextual := true) [foldl_kept, hk]

@[simp] theorem State.resetInstance_kept (kr : Kept) (s : State) (n : Nat) (after : InstState) (tell : Bool) (hk : kr.of s) : kr.of (State.resetInstance s n after tell) := by
  unfold State.resetInstance
  simp (maxDischargeDepth := 40) [hk]

@[simp] theorem State.functionReset_kept (kr : Kept) (s : State) (n : Nat) (hk : kr.of s) : kr.of (State.functionReset s n) := by
  unfold State.functionReset
  dsimp only
  split <;> simp (maxDischargeDepth := 40) [hk]

@[simp] theorem State.removeInstance_kept (kr : Kept) (s : State) (n : Nat) (hk : kr.of s) : kr.of (State.removeInstance s n) := by
  unfold State.removeInstance
  simp (maxDischargeDepth := 40) (contextual := true) [foldl_kept, Kept.of, hk]

@[simp] theorem State.becomeQuiesced_kept (kr : Kept) (s : State) (n : Nat) (hk : kr.of s) : kr.of (State.becomeQuiesced s n) := by
  unfold State.becomeQuiesced
  simp (maxDischargeDepth := 40) [hk]

@[simp] theorem stageShare_kept (kr : Kept) (s : State) (j : Nat) (b : Job) (create : Bool) (hk : kr.of s) : kr.of (stageShare s j b create) := by
  unfold stageShare
  dsimp only
  repeat' split
  all_goals first
    | exact State.stageSet_kept kr s j _ _ _ hk
    | simp (maxDischargeDepth := 40) [hk]

theorem instanceGuard_kept (kr : Kept) (s : State) (j : Nat) (b : Job) (f : State → State)
    (hf : ∀ s, kr.of s → kr.of (f s)) (hk : kr.of s) : kr.of (instanceGuard s j b f) := by
  unfold instanceGuard
  try dsimp only
  repeat' split
  all_goals first
    | exact hf _ hk
    | (simp (maxDischargeDepth := 40) [hk]; done)

@[simp] theorem instanceCreate_kept (kr : Kept) (s : State) (j : Nat) (b : Job) (hk : kr.of s) :
    kr.of (instanceCreate s j b) := by
  refine instanceGuard_kept kr s j b _ (fun s hs => ?_) hk
  split <;> simp [hs]

@[simp] theorem instanceShareSet_kept (kr : Kept) (s : State) (j : Nat) (b : Job) (hk : kr.of s) : kr.of (instanceShareSet s j b) := by
  refine instanceGuard_kept kr s j b _ (fun s hs => ?_) hk
  try dsimp only
  repeat' split
  all_goals simp (maxDischargeDepth := 40) [hs]

@[simp] theorem State.startQuiesce_kept (kr : Kept) (s : State) (n : Nat) (wait : Nat) (hk : kr.of s) : kr.of (State.startQuiesce s n wait) := by
  unfold State.startQuiesce
  simp (maxDischargeDepth := 40) (contextual := true) [foldl_kept, hk]

@[simp] theorem instanceRemove_kept (kr : Kept) (s : State) (j : Nat) (b : Job) (hk : kr.of s) : kr.of (instanceRemove s j b) := by
  refine instanceGuard_kept kr s j b _ (fun s hs => ?_) hk
  try dsimp only
  repeat' split
  all_goals simp (maxDischargeDepth := 40) [hs]

@[simp] theorem State.takeVfs_kept (kr : Kept) (s : State) (enable : Bool) (num : Nat) (hk : kr.of s) : kr.of (State.takeVfs s enable num) := by
  unfold State.takeVfs
  simp (maxDischargeDepth := 40) (contextual := true) [foldl_kept, hk]

@[simp] theorem State.resetPcie_kept (kr : Kept) (s : State) (hk : kr.of s) : kr.of (State.resetPcie s) := by
  unfold State.resetPcie
  simp (maxDischargeDepth := 40) (contextual := true) [foldl_kept, Kept.of, hk]

@[simp] theorem State.stageStream_kept (kr : Kept) (s : State) (id : Nat) (c : StreamChange) (hk : kr.of s) : kr.of (State.stageStream s id c) := by
  unfold State.stageStream
  exact hk

@[simp] theorem State.applyStreams_kept (kr : Kept) (s : State) (hk : kr.of s) : kr.of (State.applyStreams s) := by
  unfold State.applyStreams
  exact hk

@[simp] theorem State.refuseStream_kept (kr : Kept) (s : State) (j : Nat) (f : Nat × Bool) (hk : kr.of s) : kr.of (State.refuseStream s j f) := by
  unfold State.refuseStream
  split <;> simp (maxDischargeDepth := 40) [hk]

@[simp] theorem streamCreate_kept (kr : Kept) (s : State) (j : Nat) (b : Job) (hk : kr.of s) : kr.of (streamCreate s j b) := by
  unfold streamCreate
  split <;> simp (maxDischargeDepth := 40) [hk]

@[simp] theorem streamModify_kept (kr : Kept) (s : State) (j : Nat) (b : Job) (hk : kr.of s) : kr.of (streamModify s j b) := by
  unfold streamModify
  dsimp only
  repeat' split
  all_goals simp (maxDischargeDepth := 40) [hk]

@[simp] theorem State.recordPolicies_kept (kr : Kept) (s : State) (hk : kr.of s) : kr.of (State.recordPolicies s) := by
  unfold State.recordPolicies
  exact hk

@[simp] theorem State.forwardFrame_kept (kr : Kept) (s : State) (p : Nat) (f : Frame) (hk : kr.of s) : kr.of (State.forwardFrame s p f) := by
  unfold State.forwardFrame
  dsimp only
  split <;> simp (maxDischargeDepth := 40) [hk]

@[simp] theorem State.takeFrame_kept (kr : Kept) (s : State) (p : Nat) (f : Frame) (hk : kr.of s) : kr.of (State.takeFrame s p f) := by
  unfold State.takeFrame
  dsimp only
  repeat' split
  all_goals simp (maxDischargeDepth := 40) [Kept.of, hk]

@[simp] theorem State.emptyFifo_kept (kr : Kept) (s : State) (fifo : Nat) (hk : kr.of s) : kr.of (State.emptyFifo s fifo) := by
  unfold State.emptyFifo
  repeat' split
  all_goals simp (maxDischargeDepth := 40) (contextual := true) [foldl_kept, ite_kept, Kept.of, hk]

@[simp] theorem State.setCage_kept (kr : Kept) (s : State) (c : Nat) (x : Cage) (hk : kr.of s) : kr.of (State.setCage s c x) := by
  unfold State.setCage
  exact hk

@[simp] theorem State.setSeq_kept (kr : Kept) (s : State) (k : Nat) (q : Sequencer) (hk : kr.of s) : kr.of (State.setSeq s k q) := by
  unfold State.setSeq
  exact hk

@[simp] theorem State.sequencerFault_kept (kr : Kept) (s : State) (cls : Nat) (i : Nat) (hk : kr.of s) : kr.of (State.sequencerFault s cls i) := by
  unfold State.sequencerFault
  simp [hk]

@[simp] theorem State.branchOn_kept (kr : Kept) (s : State) (cls : Nat) (i : Nat) (b : Job) (cond : Nat) (hk : kr.of s) : kr.of (State.branchOn s cls i b cond).2 := by
  unfold State.branchOn
  repeat' split
  all_goals simp (maxDischargeDepth := 40) [hk]

theorem State.microword_kept (kr : Kept) (s : State) (cls i sq nptr imm : Nat)
    (f : State → Job → Sequencer → Nat → UwEnd × State) (hf : ∀ b q v, kr.of (f s b q v).2) (hk : kr.of s) :
    kr.of (s.microword cls i sq nptr imm f) := by
  unfold State.microword
  dsimp only
  repeat' split
  all_goals first
    | exact hk
    | exact State.sequencerFault_kept kr _ _ _ hk
    | exact State.sequencerFault_kept kr _ _ _ (hf _ _ _)
    | exact State.setSeq_kept kr _ _ _ (hf _ _ _)

@[simp] theorem State.segmentFailed_kept (kr : Kept) (s : State) (k : Nat) (hk : kr.of s) : kr.of (State.segmentFailed s k) := by
  unfold State.segmentFailed
  simp [hk]

@[simp] theorem State.awaitLoad_kept (kr : Kept) (s : State) (j : Nat) (mask : Nat) (hk : kr.of s) : kr.of (State.awaitLoad s j mask) := by
  unfold State.awaitLoad
  simp [hk]

@[simp] theorem State.activatePack_kept (kr : Kept) (s : State) (k : Nat) (hk : kr.of s) : kr.of (State.activatePack s k) := by
  unfold State.activatePack
  split <;> simp (maxDischargeDepth := 40) [hk]

@[simp] theorem State.recordLoad_kept (kr : Kept) (s : State) (b : Job) (hk : kr.of s) : kr.of (State.recordLoad s b) := by
  unfold State.recordLoad
  refine ⟨?_, ?_, fun k => ?_, ?_, ?_⟩
  · exact hk.1
  · exact hk.2.1
  · refine (hk.2.2.1 k).trans ?_
    dsimp only
    by_cases h1 : tlvNat b.params 0x0123 0 = 1 <;> by_cases h2 : tlvNat b.params 0x0122 1 = 1 <;> simp only [h1, h2, if_true, if_false]
    all_goals first
      | exact le_rfl
      | (by_cases hkp : k = b.loadPack.id
         · subst hkp
           simp [tgetD]
         · simp [tgetD, tget_tset_other _ _ hkp])
  · exact hk.2.2.2.1
  · exact hk.2.2.2.2

@[simp] theorem State.undoLoad_kept (kr : Kept) (s : State) (b : Job) (hk : kr.of s) : kr.of (State.undoLoad s b) := by
  unfold State.undoLoad
  simp (maxDischargeDepth := 40) (contextual := true) [foldl_kept, hk]

@[simp] theorem State.startCluster_kept (kr : Kept) (s : State) (k : Nat) (p : Pack) (hk : kr.of s) : kr.of (State.startCluster s k p) := by
  unfold State.startCluster
  dsimp only
  split <;> simp (maxDischargeDepth := 40) [hk]

@[simp] theorem State.nvKept_kept (kr : Kept) (s : State) (hk : kr.of s) : kr.of (State.nvKept s) := by
  unfold State.nvKept
  simp (maxDischargeDepth := 40) (contextual := true) [foldl_kept, Kept.of, hk]

@[simp] theorem State.bootPower_kept (kr : Kept) (s : State) (cause : Nat) (boots : Nat) (hk : kr.of s) : kr.of (State.bootPower s cause boots) := by
  unfold State.bootPower
  exact hk

@[simp] theorem State.moduleReset_kept (kr : Kept) (s : State) (cause : Nat) (hk : kr.of s) : kr.of (State.moduleReset s cause) := by
  unfold State.moduleReset
  simp (maxDischargeDepth := 40) (contextual := true) [foldl_kept, Kept.of, hk]

@[simp] theorem State.recover_kept (kr : Kept) (s : State) (hk : kr.of s) : kr.of (State.recover s) := by
  unfold State.recover
  simp [hk]

@[simp] theorem State.releaseLatch_kept (kr : Kept) (s : State) (hk : kr.of s) : kr.of (State.releaseLatch s) := by
  unfold State.releaseLatch
  simp [hk]

@[simp] theorem State.powerOn_kept (kr : Kept) (s : State) (feedA : Bool) (feedB : Bool) (hk : kr.of s) : kr.of (State.powerOn s feedA feedB) := by
  unfold State.powerOn
  simp (maxDischargeDepth := 40) (contextual := true) [foldl_kept, Kept.of, hk]

@[simp] theorem State.instantiateNode_kept (kr : Kept) (s : State) (node : Nat) (hk : kr.of s) : kr.of (State.instantiateNode s node).2 := by
  unfold State.instantiateNode
  repeat' split
  all_goals first
    | exact hk
    | exact State.createSlot_kept kr _ _ _ _ _ _ _ (by assumption) hk

@[simp] theorem State.restorePolicy_kept (kr : Kept) (s : State) (p : Nat) (pol : EventPolicy) (node : Option Nat) (second : Option Nat) (hk : kr.of s) : kr.of (State.restorePolicy s p pol node second) := by
  unfold State.restorePolicy
  dsimp only
  repeat' split
  all_goals simp (maxDischargeDepth := 40) [Kept.of, hk]

@[simp] theorem State.scanNodes_kept (kr : Kept) (s : State) (hk : kr.of s) : kr.of (State.scanNodes s) := by
  unfold State.scanNodes
  simp (maxDischargeDepth := 40) (contextual := true) [foldl_kept, Kept.of, hk]

@[simp] theorem State.keystoreUp_kept (kr : Kept) (s : State) (hk : kr.of s) : kr.of (State.keystoreUp s) := by
  unfold State.keystoreUp
  dsimp only
  repeat' split
  all_goals simp (maxDischargeDepth := 40) [Kept.of, hk]

@[simp] theorem State.ddrUp_kept (kr : Kept) (s : State) (hk : kr.of s) : kr.of (State.ddrUp s) := by
  unfold State.ddrUp
  dsimp only
  repeat' split
  all_goals simp (maxDischargeDepth := 40) [hk]

@[simp] theorem State.streamsUp_kept (kr : Kept) (s : State) (hk : kr.of s) : kr.of (State.streamsUp s) := by
  unfold State.streamsUp
  split <;> simp (maxDischargeDepth := 40) (contextual := true) [foldl_kept, hk]

@[simp] theorem State.readyUp_kept (kr : Kept) (s : State) (hk : kr.of s) : kr.of (State.readyUp s) := by
  unfold State.readyUp
  simp (maxDischargeDepth := 40) [hk]

@[simp] theorem State.clearDomain_kept (kr : Kept) (s : State) (d : Nat) (hk : kr.of s) : kr.of (State.clearDomain s d) := by
  unfold State.clearDomain
  exact ⟨hk.1, hk.2.1, hk.2.2.1, hk.2.2.2.1, fun h e he => hk.2.2.2.2 h e (List.mem_of_mem_filter he)⟩

@[simp] theorem State.releaseCaptures_kept (kr : Kept) (s : State) (mask : Nat) (hk : kr.of s) : kr.of (State.releaseCaptures s mask) := by
  unfold State.releaseCaptures
  exact hk

@[simp] theorem State.returnHeld_kept (kr : Kept) (s : State) (p : Nat → Bool) (hk : kr.of s) : kr.of (State.returnHeld s p) := by
  unfold State.returnHeld
  exact hk

@[simp] theorem State.testTarget_kept (kr : Kept) (s : State) (t : Nat) (hk : kr.of s) : kr.of (State.testTarget s t).2 := by
  unfold State.testTarget
  dsimp only
  repeat' split
  all_goals simp (maxDischargeDepth := 40) (contextual := true) [foldl_kept, ite_kept, Kept.of, hk]

@[simp] theorem State.addSelftest_kept (kr : Kept) (s : State) (j : Nat) (t : Nat) (hk : kr.of s) : kr.of (State.addSelftest s j t) := by
  unfold State.addSelftest
  try dsimp only
  repeat' split
  all_goals first | with_reducible exact hk | simp (maxDischargeDepth := 40) [foldl_kept, ite_kept, hk]

@[simp] theorem State.noteFault_kept (kr : Kept) (s : State) (m : FaultMsg) (hk : kr.of s) : kr.of (State.noteFault s m) := by
  unfold State.noteFault
  dsimp only
  repeat' split
  all_goals simp (maxDischargeDepth := 40) [hk]

@[simp] theorem State.mpAccess_kept (kr : Kept) (s : State) (m : FaultMsg) (hk : kr.of s) : kr.of (State.mpAccess s m).2 := by
  unfold State.mpAccess
  try dsimp only
  repeat' split
  all_goals first | with_reducible exact hk | simp (maxDischargeDepth := 40) [foldl_kept, ite_kept, hk]

@[simp] theorem State.resumeCommand_kept (kr : Kept) (s : State) (j : Nat) (hk : kr.of s) : kr.of (State.resumeCommand s j) := by
  unfold State.resumeCommand
  split
  · exact hk
  · repeat' split
    · exact updateApply_kept kr _ _ _ hk
    · exact manifestLoad_kept kr _ _ _ hk
    · exact manifestActivate_kept kr _ _ _ hk
    · exact instanceCreate_kept kr _ _ _ hk
    · exact instanceShareSet_kept kr _ _ _ hk
    · exact instanceRemove_kept kr _ _ _ hk
    · exact hk

@[simp] theorem State.clearCommand_kept (kr : Kept) (s : State) (j : Nat) (mirrored : Bool) (hk : kr.of s) : kr.of (State.clearCommand s j mirrored) := by
  unfold State.clearCommand
  simp [hk]

@[simp] theorem State.endSlotJob_kept (kr : Kept) (s : State) (j : Nat) (mirrored : Bool) (hk : kr.of s) : kr.of (State.endSlotJob s j mirrored) := by
  unfold State.endSlotJob
  simp [hk]

@[simp] theorem State.soloRecord_kept (kr : Kept) (s : State) (r : PairRecord) (hk : kr.of s) : kr.of (State.soloRecord s r) := by
  unfold State.soloRecord
  repeat' split
  all_goals simp (maxDischargeDepth := 40) [hk]

@[simp] theorem State.dropRecords_kept (kr : Kept) (s : State) (hk : kr.of s) : kr.of (State.dropRecords s) := by
  unfold State.dropRecords
  simp (maxDischargeDepth := 40) (contextual := true) [foldl_kept, hk]

@[simp] theorem State.endCastle_kept (kr : Kept) (s : State) (status : Nat) (hk : kr.of s) : kr.of (State.endCastle s status) := by
  unfold State.endCastle
  repeat' split
  all_goals simp (maxDischargeDepth := 40) [hk]

@[simp] theorem State.castleStep_kept (kr : Kept) (s : State) (hk : kr.of s) : kr.of (State.castleStep s) := by
  unfold State.castleStep
  dsimp only
  repeat' split
  all_goals simp (maxDischargeDepth := 40) [Kept.of, hk]

@[simp] theorem State.castleTick_kept (kr : Kept) (s : State) (hk : kr.of s) : kr.of (State.castleTick s) := by
  unfold State.castleTick
  dsimp only
  repeat' split
  all_goals simp (maxDischargeDepth := 40) [Kept.of, hk]

@[simp] theorem State.changeRole_kept (kr : Kept) (s : State) (st : PairState) (role : Nat) (hk : kr.of s) : kr.of (State.changeRole s st role) := by
  unfold State.changeRole
  exact hk

@[simp] theorem State.becomeAlone_kept (kr : Kept) (s : State) (hk : kr.of s) : kr.of (State.becomeAlone s) := by
  unfold State.becomeAlone
  simp (maxDischargeDepth := 40) (contextual := true) [foldl_kept, Kept.of, hk]

@[simp] theorem State.diverge_kept (kr : Kept) (s : State) (hk : kr.of s) : kr.of (State.diverge s) := by
  unfold State.diverge
  simp [hk]

@[simp] theorem State.failPairing_kept (kr : Kept) (s : State) (e : Ending) (hk : kr.of s) : kr.of (State.failPairing s e) := by
  unfold State.failPairing
  repeat' split
  all_goals simp (maxDischargeDepth := 40) [hk]

@[simp] theorem State.fillMirror_kept (kr : Kept) (s : State) (b : Bytes) (hk : kr.of s) : kr.of (State.fillMirror s b) := by
  unfold State.fillMirror
  exact hk

@[simp] theorem State.takeInstance_kept (kr : Kept) (s : State) (b : Bytes) (hk : kr.of s) : kr.of (State.takeInstance s b) := by
  unfold State.takeInstance
  repeat' split
  all_goals simp (maxDischargeDepth := 40) (contextual := true) [foldl_kept, ite_kept, Kept.of, hk]

@[simp] theorem State.applyResync_kept (kr : Kept) (s : State) (b : Bytes) (hk : kr.of s) : kr.of (State.applyResync s b) := by
  unfold State.applyResync
  extract_lets items of_ nodes trust changed counter s1 k s2 x s3 s4 named gone s5 s6 mine
  have h1 : kr.of s1 := State.storeUpdate_kept kr s _ _ (Nat.le_max_left _ _) hk
  have h3 : kr.of s3 := h1
  have h4 : kr.of s4 := by
    dsimp only [s4]
    split
    · exact h3
    · split
      · exact h3
      · simp [h3]
  have h5 : kr.of s5 := foldl_kept kr _ (fun t a h => State.removeInstance_kept kr t a h) _ _ h4
  have h6 : kr.of s6 := foldl_kept kr _ (fun t a h => State.takeInstance_kept kr t a h) _ _ h5
  exact foldl_kept kr _ (fun t a h => State.fillMirror_kept kr t a h) _ _
    (foldl_kept kr _ (fun t a h => State.freeSlot_kept kr t a h) _ _ (State.dropCopies_kept kr _ _ h6))

@[simp] theorem State.sendHello_kept (kr : Kept) (s : State) (hk : kr.of s) : kr.of (State.sendHello s) := by
  unfold State.sendHello
  dsimp only
  repeat' split
  all_goals simp (maxDischargeDepth := 40) [Kept.of, hk]

@[simp] theorem State.helloTick_kept (kr : Kept) (s : State) (hk : kr.of s) : kr.of (State.helloTick s) := by
  unfold State.helloTick
  repeat' split
  all_goals simp (maxDischargeDepth := 40) [hk]

@[simp] theorem State.startSync_kept (kr : Kept) (s : State) (role : Nat) (hk : kr.of s) : kr.of (State.startSync s role) := by
  unfold State.startSync
  repeat' split
  all_goals simp (maxDischargeDepth := 40) (contextual := true) [foldl_kept, ite_kept, Kept.of, hk]

@[simp] theorem State.openSession_kept (kr : Kept) (s : State) (h : Handshake) (k : Bytes) (hk : kr.of s) : kr.of (State.openSession s h k) := by
  unfold State.openSession
  dsimp only
  repeat' split
  all_goals simp (maxDischargeDepth := 40) [Kept.of, hk]

@[simp] theorem State.takeHello_kept (kr : Kept) (s : State) (lo : Nat) (hi : Nat) (fw : Nat) (role : Nat) (rate : Nat) (mid : Bytes) (nonce : Bytes) (partnerOf : Bytes) (hk : kr.of s) : kr.of (State.takeHello s lo hi fw role rate mid nonce partnerOf) := by
  unfold State.takeHello
  dsimp only
  repeat' split
  all_goals simp (maxDischargeDepth := 40) [hk]

@[simp] theorem State.takeProof_kept (kr : Kept) (s : State) (response : Bytes) (hk : kr.of s) : kr.of (State.takeProof s response) := by
  unfold State.takeProof
  dsimp only
  repeat' split
  all_goals simp (maxDischargeDepth := 40) [Kept.of, hk]

@[simp] theorem State.takeKeyx_kept (kr : Kept) (s : State) (material : Bytes) (hk : kr.of s) : kr.of (State.takeKeyx s material) := by
  unfold State.takeKeyx
  dsimp only
  repeat' split
  all_goals simp (maxDischargeDepth := 40) [hk]

@[simp] theorem State.requestTwin_kept (kr : Kept) (s : State) (ws : List (Nat × Nat)) (j : Nat) (hk : kr.of s) : kr.of (State.requestTwin s ws j) := by
  unfold State.requestTwin
  simp (maxDischargeDepth := 40) (contextual := true) [foldl_kept, Kept.of, hk]

@[simp] theorem State.settleSync_kept (kr : Kept) (s : State) (hk : kr.of s) : kr.of (State.settleSync s) := by
  unfold State.settleSync
  dsimp only
  repeat' split
  all_goals simp (maxDischargeDepth := 40) [Kept.of, hk]

theorem State.runInternal_kept (kr : Kept) (s : State) (op : Nat) (ts : List Tlv) (f : State → Nat → Job → State)
    (hf : ∀ s j b, kr.of s → kr.of (f s j b)) (hk : kr.of s) : kr.of (s.runInternal op ts f).2 := by
  unfold State.runInternal
  dsimp only
  split
  · exact State.dropJob_kept kr _ _ (hf _ _ _ (State.addJob_kept kr s _ hk))
  · exact hf _ _ _ (State.addJob_kept kr s _ hk)

@[simp] theorem State.adoptKchk_kept (kr : Kept) (s : State) (k : Bytes) (hk : kr.of s) : kr.of (State.adoptKchk s k) := by
  unfold State.adoptKchk
  repeat' split
  all_goals simp (maxDischargeDepth := 40) (contextual := true) [foldl_kept, ite_kept, Kept.of, hk]

@[simp] theorem State.takePointers_kept (kr : Kept) (s : State) (kind : Nat) (b : Bytes) (hk : kr.of s) : kr.of (State.takePointers s kind b) := by
  unfold State.takePointers
  dsimp only
  split <;> simp (maxDischargeDepth := 40) [hk]

@[simp] theorem State.takeRecord_kept (kr : Kept) (s : State) (kind : Nat) (b : Bytes) (hk : kr.of s) :
    kr.of (s.takeRecord kind b).2 := by
  unfold State.takeRecord
  dsimp only
  repeat' split
  all_goals first
    | exact hk
    | (simp (maxDischargeDepth := 40) [hk]; done)
    | exact State.runInternal_kept kr s _ _ _ (fun s j b h => manifestLoad_kept kr s j b h) hk
    | exact State.runInternal_kept kr s _ _ _ (fun s j b h => manifestActivate_kept kr s j b h) hk
    | exact State.runInternal_kept kr s _ _ _ (fun s j b h => by exact instanceCreate_kept kr s j b h) hk
    | exact State.runInternal_kept kr s _ _ _ (fun s j b h => by exact instanceShareSet_kept kr s j b h) hk
    | exact State.runInternal_kept kr s _ _ _ (fun s j b h => by exact instanceRemove_kept kr s j b h) hk
    | (have h1 := State.applyResync_kept kr s b hk
       exact h1)

theorem State.takeNext_kept (kr : Kept) (fuel : Nat) (s : State) (hk : kr.of s) : kr.of (State.takeNext fuel s) := by
  induction fuel generalizing s with
  | zero => exact hk
  | succ n ih =>
    unfold State.takeNext
    dsimp only
    repeat' split
    · exact hk
    · exact hk
    · refine ih _ ?_
      refine State.settleSync_kept kr _ (State.sendAck_kept kr _ _ _ (State.takeRecord_kept kr _ _ _ ?_))
      exact hk

@[simp] theorem State.recordArrives_kept (kr : Kept) (s : State) (mseq : Nat) (kind : Nat) (body : Bytes) (hk : kr.of s) : kr.of (State.recordArrives s mseq kind body) := by
  unfold State.recordArrives
  dsimp only
  repeat' split
  · exact hk
  · exact State.takeNext_kept kr _ _ hk
  · exact State.takeNext_kept kr _ _ hk

@[simp] theorem State.ackRecord_kept (kr : Kept) (s : State) (r : PairRecord) (status : Nat) (hk : kr.of s) : kr.of (State.ackRecord s r status) := by
  unfold State.ackRecord
  dsimp only
  repeat' split
  all_goals simp (maxDischargeDepth := 40) [hk]

@[simp] theorem State.takeAck_kept (kr : Kept) (s : State) (mseq : Nat) (status : Nat) (hk : kr.of s) : kr.of (State.takeAck s mseq status) := by
  unfold State.takeAck
  split <;> simp (maxDischargeDepth := 40) [hk]

@[simp] theorem State.hearPaired_kept (kr : Kept) (s : State) (hb : Heartbeat) (first : Bool) (hk : kr.of s) : kr.of (State.hearPaired s hb first) := by
  unfold State.hearPaired
  repeat' split
  all_goals simp (maxDischargeDepth := 40) [hk]

@[simp] theorem State.hearRejoining_kept (kr : Kept) (s : State) (hb : Heartbeat) (hk : kr.of s) : kr.of (State.hearRejoining s hb) := by
  unfold State.hearRejoining
  dsimp only
  repeat' split
  all_goals simp (maxDischargeDepth := 40) [hk]

@[simp] theorem State.hearAlone_kept (kr : Kept) (s : State) (hb : Heartbeat) (hk : kr.of s) : kr.of (State.hearAlone s hb) := by
  unfold State.hearAlone
  repeat' split
  all_goals simp (maxDischargeDepth := 40) [hk]

@[simp] theorem State.heartbeat_kept (kr : Kept) (s : State) (p : TwinPath) (ctr : Nat) (tagOk : Bool) (hb : Heartbeat) (hk : kr.of s) : kr.of (State.heartbeat s p ctr tagOk hb) := by
  unfold State.heartbeat
  dsimp only
  repeat' split
  all_goals simp (maxDischargeDepth := 40) [Kept.of, hk]

@[simp] theorem State.judgePath_kept (kr : Kept) (s : State) (p : TwinPath) (hk : kr.of s) : kr.of (State.judgePath s p) := by
  unfold State.judgePath
  dsimp only
  repeat' split
  all_goals simp (maxDischargeDepth := 40) [hk]

@[simp] theorem State.sendQueued_kept (kr : Kept) (s : State) (hk : kr.of s) : kr.of (State.sendQueued s) := by
  unfold State.sendQueued
  simp (maxDischargeDepth := 40) (contextual := true) [foldl_kept, Kept.of, hk]

@[simp] theorem State.wakeGroups_kept (kr : Kept) (s : State) (hk : kr.of s) : kr.of (State.wakeGroups s) := by
  unfold State.wakeGroups
  simp [hk]

@[simp] theorem State.endRestore_kept (kr : Kept) (s : State) (set : BitVec 16) (hk : kr.of s) : kr.of (State.endRestore s set) := by
  unfold State.endRestore
  try dsimp only
  repeat' split
  all_goals first | with_reducible exact hk | simp (maxDischargeDepth := 40) [foldl_kept, ite_kept, hk]

@[simp] theorem State.take_kept (kr : Kept) (s : State) (off : Nat) (v : Nat) (hk : kr.of s) : kr.of (State.take s off v) := by
  unfold State.take
  exact hk

@[simp] theorem State.moderateCrossing_kept (kr : Kept) (s : State) (hk : kr.of s) : kr.of (State.moderateCrossing s) := by
  unfold State.moderateCrossing
  simp (maxDischargeDepth := 40) (contextual := true) [foldl_kept, hk]

@[simp] theorem State.stageDue_kept (kr : Kept) (s : State) (j : Nat) (hk : kr.of s) : kr.of (State.stageDue s j) := by
  unfold State.stageDue
  dsimp only
  repeat' split
  all_goals simp (maxDischargeDepth := 40) [hk]

@[simp] theorem State.refuseJob_kept (kr : Kept) (s : State) (j : Nat) (hk : kr.of s) : kr.of (State.refuseJob s j) := by
  unfold State.refuseJob
  repeat' split
  all_goals simp (maxDischargeDepth := 40) [hk]

@[simp] theorem State.refuseSet_kept (kr : Kept) (s : State) (set : BitVec 16) (g : Nat) (code : Nat) (off : Nat) (hk : kr.of s) : kr.of (State.refuseSet s set g code off) := by
  unfold State.refuseSet
  repeat' split
  all_goals simp (maxDischargeDepth := 40) (contextual := true) [foldl_kept, ite_kept, Kept.of, hk]

@[simp] theorem State.applyRate_kept (kr : Kept) (s : State) (hk : kr.of s) : kr.of (State.applyRate s) := by
  unfold State.applyRate
  exact hk

@[simp] theorem State.applyManifest_kept (kr : Kept) (s : State) (set : BitVec 16) (hk : kr.of s) : kr.of (State.applyManifest s set) := by
  unfold State.applyManifest
  repeat' split
  all_goals simp (maxDischargeDepth := 40) [hk]

@[simp] theorem State.turnOff_kept (kr : Kept) (s : State) (q : Nat) (hk : kr.of s) : kr.of (State.turnOff s q) := by
  unfold State.turnOff
  simp [hk]

@[simp] theorem State.applyQueue_kept (kr : Kept) (s : State) (set : BitVec 16) (hk : kr.of s) : kr.of (State.applyQueue s set) := by
  unfold State.applyQueue
  repeat' split
  all_goals simp (maxDischargeDepth := 40) (contextual := true) [foldl_kept, ite_kept, Kept.of, hk]

@[simp] theorem State.applyPort_kept (kr : Kept) (s : State) (w : Nat → Nat) (hk : kr.of s) : kr.of (State.applyPort s w) := by
  unfold State.applyPort
  exact hk

@[simp] theorem State.applyMap_kept (kr : Kept) (s : State) (w : Nat → Nat) (n : Nat) (hk : kr.of s) : kr.of (State.applyMap s w n) := by
  unfold State.applyMap
  repeat' split
  all_goals simp (maxDischargeDepth := 40) (contextual := true) [foldl_kept, ite_kept, Kept.of, hk]

@[simp] theorem State.createInstance_kept (kr : Kept) (s : State) (n : Nat) (hk : kr.of s) : kr.of (State.createInstance s n) := by
  unfold State.createInstance
  exact hk

@[simp] theorem State.applySource_kept (kr : Kept) (s : State) (en : Nat) (i : Nat) (hk : kr.of s) : kr.of (State.applySource s en i) := by
  unfold State.applySource
  dsimp only
  repeat' split
  all_goals simp (maxDischargeDepth := 40) [hk]

@[simp] theorem State.failWaiting_kept (kr : Kept) (s : State) (cls : Nat) (hk : kr.of s) : kr.of (State.failWaiting s cls) := by
  unfold State.failWaiting
  split <;> simp (maxDischargeDepth := 40) (contextual := true) [foldl_kept, hk]

@[simp] theorem State.domainOff_kept (kr : Kept) (s : State) (d : Nat) (hk : kr.of s) : kr.of (State.domainOff s d) := by
  unfold State.domainOff
  repeat' split
  all_goals simp (maxDischargeDepth := 40) (contextual := true) [foldl_kept, ite_kept, Kept.of, hk]

@[simp] theorem State.domainOn_kept (kr : Kept) (s : State) (d : Nat) (hk : kr.of s) : kr.of (State.domainOn s d) := by
  unfold State.domainOn
  repeat' split
  all_goals simp (maxDischargeDepth := 40) (contextual := true) [foldl_kept, ite_kept, Kept.of, hk]

@[simp] theorem State.applyPower_kept (kr : Kept) (s : State) (w : Nat → Nat) (hk : kr.of s) : kr.of (State.applyPower s w) := by
  unfold State.applyPower
  repeat' split
  all_goals simp (maxDischargeDepth := 40) (contextual := true) [foldl_kept, ite_kept, Kept.of, hk]

@[simp] theorem State.restoreInstance_kept (kr : Kept) (s : State) (w : Nat → Nat) (n : Nat) (hk : kr.of s) : kr.of (State.restoreInstance s w n) := by
  unfold State.restoreInstance
  simp (maxDischargeDepth := 40) (contextual := true) [foldl_kept, hk]

@[simp] theorem State.restoreInstances_kept (kr : Kept) (s : State) (w : Nat → Nat) (hk : kr.of s) : kr.of (State.restoreInstances s w) := by
  unfold State.restoreInstances
  split
  · exact foldl_kept kr _ (fun _ _ h => by simp [h]) _ _ hk
  · exact hk

@[simp] theorem State.applyGroup_kept (kr : Kept) (s : State) (set : BitVec 16) (w : Nat → Nat) (g : Nat) (hk : kr.of s) : kr.of (State.applyGroup s set w g) := by
  unfold State.applyGroup
  split <;> simp (maxDischargeDepth := 40) (contextual := true) [foldl_kept, hk]

@[simp] theorem State.applyJob_kept (kr : Kept) (s : State) (w : Nat → Nat) (j : Nat) (hk : kr.of s) : kr.of (State.applyJob s w j) := by
  unfold State.applyJob
  repeat' split
  all_goals simp (maxDischargeDepth := 40) (contextual := true) [foldl_kept, ite_kept, Kept.of, hk]

@[simp] theorem State.applySet_kept (kr : Kept) (s : State) (set : BitVec 16) (hk : kr.of s) : kr.of (State.applySet s set) := by
  unfold State.applySet
  extract_lets w taken jobs s1 kept put n s2 s3 c s4
  have h1 : kr.of s1 := foldl_kept kr _ (fun t a h => State.take_kept kr t _ _ h) _ _ hk
  have h2 : kr.of s2 := by
    dsimp only [s2]
    split
    · exact h1
    · exact State.writeN6_kept kr _ _ h1
  have h3 : kr.of s3 := foldl_kept kr _ (fun t a h => State.applyGroup_kept kr t _ _ _ h) _ _ h2
  have h4 : kr.of s4 := h3
  exact foldl_kept kr _ (fun t a h => State.applyJob_kept kr t _ _ h) _ _ (State.endRestore_kept kr _ _ h4)

@[simp] theorem State.decideSet_kept (kr : Kept) (s : State) (hk : kr.of s) : kr.of (State.decideSet s) := by
  unfold State.decideSet
  dsimp only
  repeat' split
  all_goals simp (maxDischargeDepth := 40) [hk]

@[simp] theorem State.refuseSetup_kept (kr : Kept) (s : State) (q : Nat) (f : GroupFail) (hk : kr.of s) : kr.of (State.refuseSetup s q f) := by
  unfold State.refuseSetup
  simp (maxDischargeDepth := 40) [hk]

@[simp] theorem State.takeSetup_kept (kr : Kept) (s : State) (q : Nat) (regs : List Nat) (hk : kr.of s) : kr.of (State.takeSetup s q regs) := by
  unfold State.takeSetup
  simp (maxDischargeDepth := 40) (contextual := true) [foldl_kept, hk]

@[simp] theorem State.decideRequest_kept (kr : Kept) (s : State) (q : Nat) (r : SetupRequest) (hk : kr.of s) : kr.of (State.decideRequest s q r) := by
  unfold State.decideRequest
  dsimp only
  repeat' split
  all_goals simp (maxDischargeDepth := 40) [hk]

theorem State.decideRequests_kept (kr : Kept) (s : State) (f : State → Nat → SetupRequest → State)
    (hf : ∀ s q r, kr.of s → kr.of (f s q r)) (hk : kr.of s) : kr.of (s.decideRequests f) := by
  unfold State.decideRequests
  refine foldl_kept kr _ (fun s a hs => ?_) _ _ hk
  exact foldl_kept kr _ (fun s r hs => hf s _ r hs) _ _ (State.onPair_kept kr s _ _ hs)

@[simp] theorem State.instanceRequests_kept (kr : Kept) (s : State) (n : Nat) (hk : kr.of s) : kr.of (State.instanceRequests s n) := by
  unfold State.instanceRequests
  repeat' split
  all_goals simp (maxDischargeDepth := 40) (contextual := true) [foldl_kept, ite_kept, Kept.of, hk]

@[simp] theorem State.bumpGeneration_kept (kr : Kept) (s : State) (n : Nat) (hk : kr.of s) : kr.of (State.bumpGeneration s n) := by
  unfold State.bumpGeneration
  dsimp only
  split <;> simp (maxDischargeDepth := 40) [hk]

@[simp] theorem State.guardMismatch_kept (kr : Kept) (s : State) (hk : kr.of s) : kr.of s.guardMismatch := by
  unfold State.guardMismatch
  dsimp only
  have h1 : kr.of { s with xs := { s.xs with stateMismatch := true } } := hk
  refine State.raise_kept kr _ _ (State.wakeGroups_kept kr _ (State.decideRequests_kept kr _ _
    (fun s q r hs => State.refuseSetup_kept kr s q _ hs) ?_))
  split
  · exact h1
  · exact State.refuseSet_kept kr _ _ _ _ _ h1

@[simp] theorem State.guardApply_kept (kr : Kept) (s : State) (hk : kr.of s) : kr.of (State.guardApply s) := by
  unfold State.guardApply
  dsimp only
  refine State.applyStreams_kept kr _ (foldl_kept kr _ (fun s a hs => State.bumpGeneration_kept kr s a hs) _ _
    (foldl_kept kr _ (fun s a hs => State.instanceRequests_kept kr s a hs) _ _
      (State.decideRequests_kept kr _ _ (fun s q r hs => State.decideRequest_kept kr s q r hs) ?_)))
  refine State.wakeGroups_kept kr _ (State.decideSet_kept kr _ (foldl_kept kr _ (fun s a hs => State.stageDue_kept kr s a hs) _ _ hk))

@[simp] theorem State.guardStart_kept (kr : Kept) (s : State) (agree : Bool) (hk : kr.of s) : kr.of (State.guardStart s agree) := by
  unfold State.guardStart
  dsimp only
  repeat' split
  all_goals simp (maxDischargeDepth := 40) [Kept.of, hk]

@[simp] theorem State.advanceTime_kept (kr : Kept) (s : State) (hk : kr.of s) : kr.of (State.advanceTime s) := by
  unfold State.advanceTime
  exact hk

@[simp] theorem State.takeValues_kept (kr : Kept) (s : State) (hk : kr.of s) : kr.of (State.takeValues s) := by
  unfold State.takeValues
  simp (maxDischargeDepth := 40) (contextual := true) [foldl_kept, hk]

@[simp] theorem State.takeRate_kept (kr : Kept) (s : State) (hk : kr.of s) : kr.of (State.takeRate s) := by
  unfold State.takeRate
  dsimp only
  repeat' split
  all_goals simp (maxDischargeDepth := 40) [Kept.of, hk]

@[simp] theorem State.countMp_kept (kr : Kept) (s : State) (hk : kr.of s) : kr.of (State.countMp s) := by
  unfold State.countMp
  exact hk

@[simp] theorem State.startCrossing_kept (kr : Kept) (s : State) (hk : kr.of s) : kr.of (State.startCrossing s) := by
  unfold State.startCrossing
  repeat' split
  all_goals simp (maxDischargeDepth := 40) (contextual := true) [foldl_kept, ite_kept, Kept.of, hk]

@[simp] theorem State.crossBoundary_kept (kr : Kept) (s : State) (hk : kr.of s) : kr.of (State.crossBoundary s) := by
  unfold State.crossBoundary
  split <;> simp (maxDischargeDepth := 40) [hk]

@[simp] theorem State.latchListed_kept (kr : Kept) (s : State) (off : Nat) (hk : kr.of s) : kr.of (State.latchListed s off) := by
  unfold State.latchListed
  try dsimp only
  repeat' split
  all_goals first | with_reducible exact hk | simp (maxDischargeDepth := 40) [foldl_kept, ite_kept, hk]

@[simp] theorem State.latchHigh_kept (kr : Kept) (s : State) (fn : Nat) (off : Nat) (hk : kr.of s) : kr.of (State.latchHigh s fn off) := by
  unfold State.latchHigh
  repeat' split
  · exact hk
  · exact hk
  · exact State.latchListed_kept kr s _ hk
  · exact hk

@[simp] theorem State.writeShadow_kept (kr : Kept) (s : State) (off : Nat) (v : Reg) (hk : kr.of s) : kr.of (State.writeShadow s off v) := by
  unfold State.writeShadow
  dsimp only
  repeat' split
  all_goals first
    | exact hk
    | exact State.putWide_kept kr s _ _ _ _ (fun _ _ _ h => by simp [h]) hk
    | simp [hk]

@[simp] theorem State.clearBits_kept (kr : Kept) (s : State) (off : Nat) (v : Reg) (hk : kr.of s) : kr.of (State.clearBits s off v) := by
  unfold State.clearBits
  repeat' split
  all_goals simp (maxDischargeDepth := 40) [hk]

@[simp] theorem State.clearPair_kept (kr : Kept) (s : State) (q : Nat) (v : Reg) (hk : kr.of s) : kr.of (State.clearPair s q v) := by
  unfold State.clearPair
  simp [hk]

@[simp] theorem State.clearErr_kept (kr : Kept) (s : State) (fn : Nat) (v : Reg) (hk : kr.of s) : kr.of (State.clearErr s fn v) := by
  unfold State.clearErr
  split <;> simp (maxDischargeDepth := 40) [hk]

@[simp] theorem State.writeMsix_kept (kr : Kept) (s : State) (fn : Nat) (off : Nat) (v : Reg) (hk : kr.of s) : kr.of (State.writeMsix s fn off v) := by
  unfold State.writeMsix
  dsimp only
  repeat' split
  all_goals simp (maxDischargeDepth := 40) [hk]

@[simp] theorem State.writeDoor_kept (kr : Kept) (s : State) (fn : Nat) (q : Nat) (off : Nat) (v : Reg) (hk : kr.of s) : kr.of (State.writeDoor s fn q off v) := by
  unfold State.writeDoor
  repeat' split
  all_goals simp (maxDischargeDepth := 40) [hk]

@[simp] theorem State.writePf_kept (kr : Kept) (s : State) (off : Nat) (v : Reg) (hk : kr.of s) : kr.of (State.writePf s off v) := by
  unfold State.writePf
  dsimp only
  repeat' split
  all_goals simp (maxDischargeDepth := 40) [hk]

end Sys2Proof.Machine
end

