-- ==== Sys2Proof/Laws/State.lean ====
section
/-! SUPPORT. The plain laws of the state's updates: one lemma for each field and each update, true by unfolding, and
the read-after-write laws of every table behind its accessor.  Later proofs cite these and unfold no record update. -/

namespace Sys2Proof.Machine

variable (s : State)

/-! ### What `setReg` leaves -/

@[simp] theorem State.setReg_tb (off v : Nat) : (s.setReg off v).tb = s.tb := rfl
@[simp] theorem State.setReg_cfg (off v : Nat) : (s.setReg off v).cfg = s.cfg := rfl
@[simp] theorem State.setReg_mp (off v : Nat) : (s.setReg off v).mp = s.mp := rfl
@[simp] theorem State.setReg_versions (off v : Nat) : (s.setReg off v).versions = s.versions := rfl
@[simp] theorem State.setReg_shadow (off v : Nat) : (s.setReg off v).shadow = s.shadow := rfl
@[simp] theorem State.setReg_latch (off v : Nat) : (s.setReg off v).latch = s.latch := rfl
@[simp] theorem State.setReg_cnts (off v : Nat) : (s.setReg off v).cnts = s.cnts := rfl
@[simp] theorem State.setReg_pairs (off v : Nat) : (s.setReg off v).pairs = s.pairs := rfl
@[simp] theorem State.setReg_jobs (off v : Nat) : (s.setReg off v).jobs = s.jobs := rfl
@[simp] theorem State.setReg_nextJob (off v : Nat) : (s.setReg off v).nextJob = s.nextJob := rfl
@[simp] theorem State.setReg_pcie (off v : Nat) : (s.setReg off v).pcie = s.pcie := rfl
@[simp] theorem State.setReg_ks (off v : Nat) : (s.setReg off v).ks = s.ks := rfl
@[simp] theorem State.setReg_rng (off v : Nat) : (s.setReg off v).rng = s.rng := rfl
@[simp] theorem State.setReg_fc (off v : Nat) : (s.setReg off v).fc = s.fc := rfl
@[simp] theorem State.setReg_al (off v : Nat) : (s.setReg off v).al = s.al := rfl
@[simp] theorem State.setReg_pw (off v : Nat) : (s.setReg off v).pw = s.pw := rfl
@[simp] theorem State.setReg_insts (off v : Nat) : (s.setReg off v).insts = s.insts := rfl
@[simp] theorem State.setReg_engines (off v : Nat) : (s.setReg off v).engines = s.engines := rfl
@[simp] theorem State.setReg_xs (off v : Nat) : (s.setReg off v).xs = s.xs := rfl
@[simp] theorem State.setReg_mc (off v : Nat) : (s.setReg off v).mc = s.mc := rfl
@[simp] theorem State.setReg_hbs (off v : Nat) : (s.setReg off v).hbs = s.hbs := rfl
@[simp] theorem State.setReg_parts (off v : Nat) : (s.setReg off v).parts = s.parts := rfl
@[simp] theorem State.setReg_digests (off v : Nat) : (s.setReg off v).digests = s.digests := rfl
@[simp] theorem State.setReg_tw (off v : Nat) : (s.setReg off v).tw = s.tw := rfl
@[simp] theorem State.setReg_n6 (off v : Nat) : (s.setReg off v).n6 = s.n6 := rfl
@[simp] theorem State.setReg_n6Old (off v : Nat) : (s.setReg off v).n6Old = s.n6Old := rfl
@[simp] theorem State.setReg_n6Copy (off v : Nat) : (s.setReg off v).n6Copy = s.n6Copy := rfl
@[simp] theorem State.setReg_mpSets (off v : Nat) : (s.setReg off v).mpSets = s.mpSets := rfl
@[simp] theorem State.setReg_tr (off v : Nat) : (s.setReg off v).tr = s.tr := rfl
@[simp] theorem State.setReg_lvus (off v : Nat) : (s.setReg off v).lvus = s.lvus := rfl
@[simp] theorem State.setReg_seqs (off v : Nat) : (s.setReg off v).seqs = s.seqs := rfl
@[simp] theorem State.setReg_selftests (off v : Nat) : (s.setReg off v).selftests = s.selftests := rfl
@[simp] theorem State.setReg_free (off v : Nat) : (s.setReg off v).free = s.free := rfl
@[simp] theorem State.setReg_outbox (off v : Nat) : (s.setReg off v).outbox = s.outbox := rfl
@[simp] theorem State.setReg_pending (off v : Nat) : (s.setReg off v).pending = s.pending := rfl

/-! ### What `setFld` leaves -/

@[simp] theorem State.setFld_tb (off h l x : Nat) : (s.setFld off h l x).tb = s.tb := rfl
@[simp] theorem State.setFld_cfg (off h l x : Nat) : (s.setFld off h l x).cfg = s.cfg := rfl
@[simp] theorem State.setFld_mp (off h l x : Nat) : (s.setFld off h l x).mp = s.mp := rfl
@[simp] theorem State.setFld_versions (off h l x : Nat) : (s.setFld off h l x).versions = s.versions := rfl
@[simp] theorem State.setFld_shadow (off h l x : Nat) : (s.setFld off h l x).shadow = s.shadow := rfl
@[simp] theorem State.setFld_latch (off h l x : Nat) : (s.setFld off h l x).latch = s.latch := rfl
@[simp] theorem State.setFld_cnts (off h l x : Nat) : (s.setFld off h l x).cnts = s.cnts := rfl
@[simp] theorem State.setFld_pairs (off h l x : Nat) : (s.setFld off h l x).pairs = s.pairs := rfl
@[simp] theorem State.setFld_jobs (off h l x : Nat) : (s.setFld off h l x).jobs = s.jobs := rfl
@[simp] theorem State.setFld_nextJob (off h l x : Nat) : (s.setFld off h l x).nextJob = s.nextJob := rfl
@[simp] theorem State.setFld_pcie (off h l x : Nat) : (s.setFld off h l x).pcie = s.pcie := rfl
@[simp] theorem State.setFld_ks (off h l x : Nat) : (s.setFld off h l x).ks = s.ks := rfl
@[simp] theorem State.setFld_rng (off h l x : Nat) : (s.setFld off h l x).rng = s.rng := rfl
@[simp] theorem State.setFld_fc (off h l x : Nat) : (s.setFld off h l x).fc = s.fc := rfl
@[simp] theorem State.setFld_al (off h l x : Nat) : (s.setFld off h l x).al = s.al := rfl
@[simp] theorem State.setFld_pw (off h l x : Nat) : (s.setFld off h l x).pw = s.pw := rfl
@[simp] theorem State.setFld_insts (off h l x : Nat) : (s.setFld off h l x).insts = s.insts := rfl
@[simp] theorem State.setFld_engines (off h l x : Nat) : (s.setFld off h l x).engines = s.engines := rfl
@[simp] theorem State.setFld_xs (off h l x : Nat) : (s.setFld off h l x).xs = s.xs := rfl
@[simp] theorem State.setFld_mc (off h l x : Nat) : (s.setFld off h l x).mc = s.mc := rfl
@[simp] theorem State.setFld_hbs (off h l x : Nat) : (s.setFld off h l x).hbs = s.hbs := rfl
@[simp] theorem State.setFld_parts (off h l x : Nat) : (s.setFld off h l x).parts = s.parts := rfl
@[simp] theorem State.setFld_digests (off h l x : Nat) : (s.setFld off h l x).digests = s.digests := rfl
@[simp] theorem State.setFld_tw (off h l x : Nat) : (s.setFld off h l x).tw = s.tw := rfl
@[simp] theorem State.setFld_n6 (off h l x : Nat) : (s.setFld off h l x).n6 = s.n6 := rfl
@[simp] theorem State.setFld_n6Old (off h l x : Nat) : (s.setFld off h l x).n6Old = s.n6Old := rfl
@[simp] theorem State.setFld_n6Copy (off h l x : Nat) : (s.setFld off h l x).n6Copy = s.n6Copy := rfl
@[simp] theorem State.setFld_mpSets (off h l x : Nat) : (s.setFld off h l x).mpSets = s.mpSets := rfl
@[simp] theorem State.setFld_tr (off h l x : Nat) : (s.setFld off h l x).tr = s.tr := rfl
@[simp] theorem State.setFld_lvus (off h l x : Nat) : (s.setFld off h l x).lvus = s.lvus := rfl
@[simp] theorem State.setFld_seqs (off h l x : Nat) : (s.setFld off h l x).seqs = s.seqs := rfl
@[simp] theorem State.setFld_selftests (off h l x : Nat) : (s.setFld off h l x).selftests = s.selftests := rfl
@[simp] theorem State.setFld_free (off h l x : Nat) : (s.setFld off h l x).free = s.free := rfl
@[simp] theorem State.setFld_outbox (off h l x : Nat) : (s.setFld off h l x).outbox = s.outbox := rfl
@[simp] theorem State.setFld_pending (off h l x : Nat) : (s.setFld off h l x).pending = s.pending := rfl

/-! ### What `setShadow` leaves -/

@[simp] theorem State.setShadow_tb (off v : Nat) : (s.setShadow off v).tb = s.tb := rfl
@[simp] theorem State.setShadow_cfg (off v : Nat) : (s.setShadow off v).cfg = s.cfg := rfl
@[simp] theorem State.setShadow_mp (off v : Nat) : (s.setShadow off v).mp = s.mp := rfl
@[simp] theorem State.setShadow_versions (off v : Nat) : (s.setShadow off v).versions = s.versions := rfl
@[simp] theorem State.setShadow_regs (off v : Nat) : (s.setShadow off v).regs = s.regs := rfl
@[simp] theorem State.setShadow_latch (off v : Nat) : (s.setShadow off v).latch = s.latch := rfl
@[simp] theorem State.setShadow_cnts (off v : Nat) : (s.setShadow off v).cnts = s.cnts := rfl
@[simp] theorem State.setShadow_pairs (off v : Nat) : (s.setShadow off v).pairs = s.pairs := rfl
@[simp] theorem State.setShadow_jobs (off v : Nat) : (s.setShadow off v).jobs = s.jobs := rfl
@[simp] theorem State.setShadow_nextJob (off v : Nat) : (s.setShadow off v).nextJob = s.nextJob := rfl
@[simp] theorem State.setShadow_pcie (off v : Nat) : (s.setShadow off v).pcie = s.pcie := rfl
@[simp] theorem State.setShadow_ks (off v : Nat) : (s.setShadow off v).ks = s.ks := rfl
@[simp] theorem State.setShadow_rng (off v : Nat) : (s.setShadow off v).rng = s.rng := rfl
@[simp] theorem State.setShadow_fc (off v : Nat) : (s.setShadow off v).fc = s.fc := rfl
@[simp] theorem State.setShadow_al (off v : Nat) : (s.setShadow off v).al = s.al := rfl
@[simp] theorem State.setShadow_pw (off v : Nat) : (s.setShadow off v).pw = s.pw := rfl
@[simp] theorem State.setShadow_insts (off v : Nat) : (s.setShadow off v).insts = s.insts := rfl
@[simp] theorem State.setShadow_engines (off v : Nat) : (s.setShadow off v).engines = s.engines := rfl
@[simp] theorem State.setShadow_xs (off v : Nat) : (s.setShadow off v).xs = s.xs := rfl
@[simp] theorem State.setShadow_mc (off v : Nat) : (s.setShadow off v).mc = s.mc := rfl
@[simp] theorem State.setShadow_hbs (off v : Nat) : (s.setShadow off v).hbs = s.hbs := rfl
@[simp] theorem State.setShadow_parts (off v : Nat) : (s.setShadow off v).parts = s.parts := rfl
@[simp] theorem State.setShadow_digests (off v : Nat) : (s.setShadow off v).digests = s.digests := rfl
@[simp] theorem State.setShadow_tw (off v : Nat) : (s.setShadow off v).tw = s.tw := rfl
@[simp] theorem State.setShadow_n6 (off v : Nat) : (s.setShadow off v).n6 = s.n6 := rfl
@[simp] theorem State.setShadow_n6Old (off v : Nat) : (s.setShadow off v).n6Old = s.n6Old := rfl
@[simp] theorem State.setShadow_n6Copy (off v : Nat) : (s.setShadow off v).n6Copy = s.n6Copy := rfl
@[simp] theorem State.setShadow_mpSets (off v : Nat) : (s.setShadow off v).mpSets = s.mpSets := rfl
@[simp] theorem State.setShadow_tr (off v : Nat) : (s.setShadow off v).tr = s.tr := rfl
@[simp] theorem State.setShadow_lvus (off v : Nat) : (s.setShadow off v).lvus = s.lvus := rfl
@[simp] theorem State.setShadow_seqs (off v : Nat) : (s.setShadow off v).seqs = s.seqs := rfl
@[simp] theorem State.setShadow_selftests (off v : Nat) : (s.setShadow off v).selftests = s.selftests := rfl
@[simp] theorem State.setShadow_free (off v : Nat) : (s.setShadow off v).free = s.free := rfl
@[simp] theorem State.setShadow_outbox (off v : Nat) : (s.setShadow off v).outbox = s.outbox := rfl
@[simp] theorem State.setShadow_pending (off v : Nat) : (s.setShadow off v).pending = s.pending := rfl

/-! ### What `setCnt` leaves -/

@[simp] theorem State.setCnt_tb (off idx v : Nat) : (s.setCnt off idx v).tb = s.tb := rfl
@[simp] theorem State.setCnt_cfg (off idx v : Nat) : (s.setCnt off idx v).cfg = s.cfg := rfl
@[simp] theorem State.setCnt_mp (off idx v : Nat) : (s.setCnt off idx v).mp = s.mp := rfl
@[simp] theorem State.setCnt_versions (off idx v : Nat) : (s.setCnt off idx v).versions = s.versions := rfl
@[simp] theorem State.setCnt_regs (off idx v : Nat) : (s.setCnt off idx v).regs = s.regs := rfl
@[simp] theorem State.setCnt_shadow (off idx v : Nat) : (s.setCnt off idx v).shadow = s.shadow := rfl
@[simp] theorem State.setCnt_latch (off idx v : Nat) : (s.setCnt off idx v).latch = s.latch := rfl
@[simp] theorem State.setCnt_pairs (off idx v : Nat) : (s.setCnt off idx v).pairs = s.pairs := rfl
@[simp] theorem State.setCnt_jobs (off idx v : Nat) : (s.setCnt off idx v).jobs = s.jobs := rfl
@[simp] theorem State.setCnt_nextJob (off idx v : Nat) : (s.setCnt off idx v).nextJob = s.nextJob := rfl
@[simp] theorem State.setCnt_pcie (off idx v : Nat) : (s.setCnt off idx v).pcie = s.pcie := rfl
@[simp] theorem State.setCnt_ks (off idx v : Nat) : (s.setCnt off idx v).ks = s.ks := rfl
@[simp] theorem State.setCnt_rng (off idx v : Nat) : (s.setCnt off idx v).rng = s.rng := rfl
@[simp] theorem State.setCnt_fc (off idx v : Nat) : (s.setCnt off idx v).fc = s.fc := rfl
@[simp] theorem State.setCnt_al (off idx v : Nat) : (s.setCnt off idx v).al = s.al := rfl
@[simp] theorem State.setCnt_pw (off idx v : Nat) : (s.setCnt off idx v).pw = s.pw := rfl
@[simp] theorem State.setCnt_insts (off idx v : Nat) : (s.setCnt off idx v).insts = s.insts := rfl
@[simp] theorem State.setCnt_engines (off idx v : Nat) : (s.setCnt off idx v).engines = s.engines := rfl
@[simp] theorem State.setCnt_xs (off idx v : Nat) : (s.setCnt off idx v).xs = s.xs := rfl
@[simp] theorem State.setCnt_mc (off idx v : Nat) : (s.setCnt off idx v).mc = s.mc := rfl
@[simp] theorem State.setCnt_hbs (off idx v : Nat) : (s.setCnt off idx v).hbs = s.hbs := rfl
@[simp] theorem State.setCnt_parts (off idx v : Nat) : (s.setCnt off idx v).parts = s.parts := rfl
@[simp] theorem State.setCnt_digests (off idx v : Nat) : (s.setCnt off idx v).digests = s.digests := rfl
@[simp] theorem State.setCnt_tw (off idx v : Nat) : (s.setCnt off idx v).tw = s.tw := rfl
@[simp] theorem State.setCnt_n6 (off idx v : Nat) : (s.setCnt off idx v).n6 = s.n6 := rfl
@[simp] theorem State.setCnt_n6Old (off idx v : Nat) : (s.setCnt off idx v).n6Old = s.n6Old := rfl
@[simp] theorem State.setCnt_n6Copy (off idx v : Nat) : (s.setCnt off idx v).n6Copy = s.n6Copy := rfl
@[simp] theorem State.setCnt_mpSets (off idx v : Nat) : (s.setCnt off idx v).mpSets = s.mpSets := rfl
@[simp] theorem State.setCnt_tr (off idx v : Nat) : (s.setCnt off idx v).tr = s.tr := rfl
@[simp] theorem State.setCnt_lvus (off idx v : Nat) : (s.setCnt off idx v).lvus = s.lvus := rfl
@[simp] theorem State.setCnt_seqs (off idx v : Nat) : (s.setCnt off idx v).seqs = s.seqs := rfl
@[simp] theorem State.setCnt_selftests (off idx v : Nat) : (s.setCnt off idx v).selftests = s.selftests := rfl
@[simp] theorem State.setCnt_free (off idx v : Nat) : (s.setCnt off idx v).free = s.free := rfl
@[simp] theorem State.setCnt_outbox (off idx v : Nat) : (s.setCnt off idx v).outbox = s.outbox := rfl
@[simp] theorem State.setCnt_pending (off idx v : Nat) : (s.setCnt off idx v).pending = s.pending := rfl

/-! ### What `bumpBy` leaves -/

@[simp] theorem State.bumpBy_tb (off idx n : Nat) : (s.bumpBy off idx n).tb = s.tb := rfl
@[simp] theorem State.bumpBy_cfg (off idx n : Nat) : (s.bumpBy off idx n).cfg = s.cfg := rfl
@[simp] theorem State.bumpBy_mp (off idx n : Nat) : (s.bumpBy off idx n).mp = s.mp := rfl
@[simp] theorem State.bumpBy_versions (off idx n : Nat) : (s.bumpBy off idx n).versions = s.versions := rfl
@[simp] theorem State.bumpBy_regs (off idx n : Nat) : (s.bumpBy off idx n).regs = s.regs := rfl
@[simp] theorem State.bumpBy_shadow (off idx n : Nat) : (s.bumpBy off idx n).shadow = s.shadow := rfl
@[simp] theorem State.bumpBy_latch (off idx n : Nat) : (s.bumpBy off idx n).latch = s.latch := rfl
@[simp] theorem State.bumpBy_pairs (off idx n : Nat) : (s.bumpBy off idx n).pairs = s.pairs := rfl
@[simp] theorem State.bumpBy_jobs (off idx n : Nat) : (s.bumpBy off idx n).jobs = s.jobs := rfl
@[simp] theorem State.bumpBy_nextJob (off idx n : Nat) : (s.bumpBy off idx n).nextJob = s.nextJob := rfl
@[simp] theorem State.bumpBy_pcie (off idx n : Nat) : (s.bumpBy off idx n).pcie = s.pcie := rfl
@[simp] theorem State.bumpBy_ks (off idx n : Nat) : (s.bumpBy off idx n).ks = s.ks := rfl
@[simp] theorem State.bumpBy_rng (off idx n : Nat) : (s.bumpBy off idx n).rng = s.rng := rfl
@[simp] theorem State.bumpBy_fc (off idx n : Nat) : (s.bumpBy off idx n).fc = s.fc := rfl
@[simp] theorem State.bumpBy_al (off idx n : Nat) : (s.bumpBy off idx n).al = s.al := rfl
@[simp] theorem State.bumpBy_pw (off idx n : Nat) : (s.bumpBy off idx n).pw = s.pw := rfl
@[simp] theorem State.bumpBy_insts (off idx n : Nat) : (s.bumpBy off idx n).insts = s.insts := rfl
@[simp] theorem State.bumpBy_engines (off idx n : Nat) : (s.bumpBy off idx n).engines = s.engines := rfl
@[simp] theorem State.bumpBy_xs (off idx n : Nat) : (s.bumpBy off idx n).xs = s.xs := rfl
@[simp] theorem State.bumpBy_mc (off idx n : Nat) : (s.bumpBy off idx n).mc = s.mc := rfl
@[simp] theorem State.bumpBy_hbs (off idx n : Nat) : (s.bumpBy off idx n).hbs = s.hbs := rfl
@[simp] theorem State.bumpBy_parts (off idx n : Nat) : (s.bumpBy off idx n).parts = s.parts := rfl
@[simp] theorem State.bumpBy_digests (off idx n : Nat) : (s.bumpBy off idx n).digests = s.digests := rfl
@[simp] theorem State.bumpBy_tw (off idx n : Nat) : (s.bumpBy off idx n).tw = s.tw := rfl
@[simp] theorem State.bumpBy_n6 (off idx n : Nat) : (s.bumpBy off idx n).n6 = s.n6 := rfl
@[simp] theorem State.bumpBy_n6Old (off idx n : Nat) : (s.bumpBy off idx n).n6Old = s.n6Old := rfl
@[simp] theorem State.bumpBy_n6Copy (off idx n : Nat) : (s.bumpBy off idx n).n6Copy = s.n6Copy := rfl
@[simp] theorem State.bumpBy_mpSets (off idx n : Nat) : (s.bumpBy off idx n).mpSets = s.mpSets := rfl
@[simp] theorem State.bumpBy_tr (off idx n : Nat) : (s.bumpBy off idx n).tr = s.tr := rfl
@[simp] theorem State.bumpBy_lvus (off idx n : Nat) : (s.bumpBy off idx n).lvus = s.lvus := rfl
@[simp] theorem State.bumpBy_seqs (off idx n : Nat) : (s.bumpBy off idx n).seqs = s.seqs := rfl
@[simp] theorem State.bumpBy_selftests (off idx n : Nat) : (s.bumpBy off idx n).selftests = s.selftests := rfl
@[simp] theorem State.bumpBy_free (off idx n : Nat) : (s.bumpBy off idx n).free = s.free := rfl
@[simp] theorem State.bumpBy_outbox (off idx n : Nat) : (s.bumpBy off idx n).outbox = s.outbox := rfl
@[simp] theorem State.bumpBy_pending (off idx n : Nat) : (s.bumpBy off idx n).pending = s.pending := rfl

/-! ### What `bump` leaves -/

@[simp] theorem State.bump_tb (off idx : Nat) : (s.bump off idx).tb = s.tb := rfl
@[simp] theorem State.bump_cfg (off idx : Nat) : (s.bump off idx).cfg = s.cfg := rfl
@[simp] theorem State.bump_mp (off idx : Nat) : (s.bump off idx).mp = s.mp := rfl
@[simp] theorem State.bump_versions (off idx : Nat) : (s.bump off idx).versions = s.versions := rfl
@[simp] theorem State.bump_regs (off idx : Nat) : (s.bump off idx).regs = s.regs := rfl
@[simp] theorem State.bump_shadow (off idx : Nat) : (s.bump off idx).shadow = s.shadow := rfl
@[simp] theorem State.bump_latch (off idx : Nat) : (s.bump off idx).latch = s.latch := rfl
@[simp] theorem State.bump_pairs (off idx : Nat) : (s.bump off idx).pairs = s.pairs := rfl
@[simp] theorem State.bump_jobs (off idx : Nat) : (s.bump off idx).jobs = s.jobs := rfl
@[simp] theorem State.bump_nextJob (off idx : Nat) : (s.bump off idx).nextJob = s.nextJob := rfl
@[simp] theorem State.bump_pcie (off idx : Nat) : (s.bump off idx).pcie = s.pcie := rfl
@[simp] theorem State.bump_ks (off idx : Nat) : (s.bump off idx).ks = s.ks := rfl
@[simp] theorem State.bump_rng (off idx : Nat) : (s.bump off idx).rng = s.rng := rfl
@[simp] theorem State.bump_fc (off idx : Nat) : (s.bump off idx).fc = s.fc := rfl
@[simp] theorem State.bump_al (off idx : Nat) : (s.bump off idx).al = s.al := rfl
@[simp] theorem State.bump_pw (off idx : Nat) : (s.bump off idx).pw = s.pw := rfl
@[simp] theorem State.bump_insts (off idx : Nat) : (s.bump off idx).insts = s.insts := rfl
@[simp] theorem State.bump_engines (off idx : Nat) : (s.bump off idx).engines = s.engines := rfl
@[simp] theorem State.bump_xs (off idx : Nat) : (s.bump off idx).xs = s.xs := rfl
@[simp] theorem State.bump_mc (off idx : Nat) : (s.bump off idx).mc = s.mc := rfl
@[simp] theorem State.bump_hbs (off idx : Nat) : (s.bump off idx).hbs = s.hbs := rfl
@[simp] theorem State.bump_parts (off idx : Nat) : (s.bump off idx).parts = s.parts := rfl
@[simp] theorem State.bump_digests (off idx : Nat) : (s.bump off idx).digests = s.digests := rfl
@[simp] theorem State.bump_tw (off idx : Nat) : (s.bump off idx).tw = s.tw := rfl
@[simp] theorem State.bump_n6 (off idx : Nat) : (s.bump off idx).n6 = s.n6 := rfl
@[simp] theorem State.bump_n6Old (off idx : Nat) : (s.bump off idx).n6Old = s.n6Old := rfl
@[simp] theorem State.bump_n6Copy (off idx : Nat) : (s.bump off idx).n6Copy = s.n6Copy := rfl
@[simp] theorem State.bump_mpSets (off idx : Nat) : (s.bump off idx).mpSets = s.mpSets := rfl
@[simp] theorem State.bump_tr (off idx : Nat) : (s.bump off idx).tr = s.tr := rfl
@[simp] theorem State.bump_lvus (off idx : Nat) : (s.bump off idx).lvus = s.lvus := rfl
@[simp] theorem State.bump_seqs (off idx : Nat) : (s.bump off idx).seqs = s.seqs := rfl
@[simp] theorem State.bump_selftests (off idx : Nat) : (s.bump off idx).selftests = s.selftests := rfl
@[simp] theorem State.bump_free (off idx : Nat) : (s.bump off idx).free = s.free := rfl
@[simp] theorem State.bump_outbox (off idx : Nat) : (s.bump off idx).outbox = s.outbox := rfl
@[simp] theorem State.bump_pending (off idx : Nat) : (s.bump off idx).pending = s.pending := rfl

/-! ### What `setJob` leaves -/

@[simp] theorem State.setJob_tb (j : Nat) (b : Job) : (s.setJob j b).tb = s.tb := rfl
@[simp] theorem State.setJob_cfg (j : Nat) (b : Job) : (s.setJob j b).cfg = s.cfg := rfl
@[simp] theorem State.setJob_mp (j : Nat) (b : Job) : (s.setJob j b).mp = s.mp := rfl
@[simp] theorem State.setJob_versions (j : Nat) (b : Job) : (s.setJob j b).versions = s.versions := rfl
@[simp] theorem State.setJob_regs (j : Nat) (b : Job) : (s.setJob j b).regs = s.regs := rfl
@[simp] theorem State.setJob_shadow (j : Nat) (b : Job) : (s.setJob j b).shadow = s.shadow := rfl
@[simp] theorem State.setJob_latch (j : Nat) (b : Job) : (s.setJob j b).latch = s.latch := rfl
@[simp] theorem State.setJob_cnts (j : Nat) (b : Job) : (s.setJob j b).cnts = s.cnts := rfl
@[simp] theorem State.setJob_pairs (j : Nat) (b : Job) : (s.setJob j b).pairs = s.pairs := rfl
@[simp] theorem State.setJob_nextJob (j : Nat) (b : Job) : (s.setJob j b).nextJob = s.nextJob := rfl
@[simp] theorem State.setJob_pcie (j : Nat) (b : Job) : (s.setJob j b).pcie = s.pcie := rfl
@[simp] theorem State.setJob_ks (j : Nat) (b : Job) : (s.setJob j b).ks = s.ks := rfl
@[simp] theorem State.setJob_rng (j : Nat) (b : Job) : (s.setJob j b).rng = s.rng := rfl
@[simp] theorem State.setJob_fc (j : Nat) (b : Job) : (s.setJob j b).fc = s.fc := rfl
@[simp] theorem State.setJob_al (j : Nat) (b : Job) : (s.setJob j b).al = s.al := rfl
@[simp] theorem State.setJob_pw (j : Nat) (b : Job) : (s.setJob j b).pw = s.pw := rfl
@[simp] theorem State.setJob_insts (j : Nat) (b : Job) : (s.setJob j b).insts = s.insts := rfl
@[simp] theorem State.setJob_engines (j : Nat) (b : Job) : (s.setJob j b).engines = s.engines := rfl
@[simp] theorem State.setJob_xs (j : Nat) (b : Job) : (s.setJob j b).xs = s.xs := rfl
@[simp] theorem State.setJob_mc (j : Nat) (b : Job) : (s.setJob j b).mc = s.mc := rfl
@[simp] theorem State.setJob_hbs (j : Nat) (b : Job) : (s.setJob j b).hbs = s.hbs := rfl
@[simp] theorem State.setJob_parts (j : Nat) (b : Job) : (s.setJob j b).parts = s.parts := rfl
@[simp] theorem State.setJob_digests (j : Nat) (b : Job) : (s.setJob j b).digests = s.digests := rfl
@[simp] theorem State.setJob_tw (j : Nat) (b : Job) : (s.setJob j b).tw = s.tw := rfl
@[simp] theorem State.setJob_n6 (j : Nat) (b : Job) : (s.setJob j b).n6 = s.n6 := rfl
@[simp] theorem State.setJob_n6Old (j : Nat) (b : Job) : (s.setJob j b).n6Old = s.n6Old := rfl
@[simp] theorem State.setJob_n6Copy (j : Nat) (b : Job) : (s.setJob j b).n6Copy = s.n6Copy := rfl
@[simp] theorem State.setJob_mpSets (j : Nat) (b : Job) : (s.setJob j b).mpSets = s.mpSets := rfl
@[simp] theorem State.setJob_tr (j : Nat) (b : Job) : (s.setJob j b).tr = s.tr := rfl
@[simp] theorem State.setJob_lvus (j : Nat) (b : Job) : (s.setJob j b).lvus = s.lvus := rfl
@[simp] theorem State.setJob_seqs (j : Nat) (b : Job) : (s.setJob j b).seqs = s.seqs := rfl
@[simp] theorem State.setJob_selftests (j : Nat) (b : Job) : (s.setJob j b).selftests = s.selftests := rfl
@[simp] theorem State.setJob_free (j : Nat) (b : Job) : (s.setJob j b).free = s.free := rfl
@[simp] theorem State.setJob_outbox (j : Nat) (b : Job) : (s.setJob j b).outbox = s.outbox := rfl
@[simp] theorem State.setJob_pending (j : Nat) (b : Job) : (s.setJob j b).pending = s.pending := rfl

/-! ### What `dropJob` leaves -/

@[simp] theorem State.dropJob_tb (j : Nat) : (s.dropJob j).tb = s.tb := rfl
@[simp] theorem State.dropJob_cfg (j : Nat) : (s.dropJob j).cfg = s.cfg := rfl
@[simp] theorem State.dropJob_mp (j : Nat) : (s.dropJob j).mp = s.mp := rfl
@[simp] theorem State.dropJob_versions (j : Nat) : (s.dropJob j).versions = s.versions := rfl
@[simp] theorem State.dropJob_regs (j : Nat) : (s.dropJob j).regs = s.regs := rfl
@[simp] theorem State.dropJob_shadow (j : Nat) : (s.dropJob j).shadow = s.shadow := rfl
@[simp] theorem State.dropJob_latch (j : Nat) : (s.dropJob j).latch = s.latch := rfl
@[simp] theorem State.dropJob_cnts (j : Nat) : (s.dropJob j).cnts = s.cnts := rfl
@[simp] theorem State.dropJob_pairs (j : Nat) : (s.dropJob j).pairs = s.pairs := rfl
@[simp] theorem State.dropJob_nextJob (j : Nat) : (s.dropJob j).nextJob = s.nextJob := rfl
@[simp] theorem State.dropJob_pcie (j : Nat) : (s.dropJob j).pcie = s.pcie := rfl
@[simp] theorem State.dropJob_ks (j : Nat) : (s.dropJob j).ks = s.ks := rfl
@[simp] theorem State.dropJob_rng (j : Nat) : (s.dropJob j).rng = s.rng := rfl
@[simp] theorem State.dropJob_fc (j : Nat) : (s.dropJob j).fc = s.fc := rfl
@[simp] theorem State.dropJob_al (j : Nat) : (s.dropJob j).al = s.al := rfl
@[simp] theorem State.dropJob_pw (j : Nat) : (s.dropJob j).pw = s.pw := rfl
@[simp] theorem State.dropJob_insts (j : Nat) : (s.dropJob j).insts = s.insts := rfl
@[simp] theorem State.dropJob_engines (j : Nat) : (s.dropJob j).engines = s.engines := rfl
@[simp] theorem State.dropJob_xs (j : Nat) : (s.dropJob j).xs = s.xs := rfl
@[simp] theorem State.dropJob_mc (j : Nat) : (s.dropJob j).mc = s.mc := rfl
@[simp] theorem State.dropJob_hbs (j : Nat) : (s.dropJob j).hbs = s.hbs := rfl
@[simp] theorem State.dropJob_parts (j : Nat) : (s.dropJob j).parts = s.parts := rfl
@[simp] theorem State.dropJob_digests (j : Nat) : (s.dropJob j).digests = s.digests := rfl
@[simp] theorem State.dropJob_tw (j : Nat) : (s.dropJob j).tw = s.tw := rfl
@[simp] theorem State.dropJob_n6 (j : Nat) : (s.dropJob j).n6 = s.n6 := rfl
@[simp] theorem State.dropJob_n6Old (j : Nat) : (s.dropJob j).n6Old = s.n6Old := rfl
@[simp] theorem State.dropJob_n6Copy (j : Nat) : (s.dropJob j).n6Copy = s.n6Copy := rfl
@[simp] theorem State.dropJob_mpSets (j : Nat) : (s.dropJob j).mpSets = s.mpSets := rfl
@[simp] theorem State.dropJob_tr (j : Nat) : (s.dropJob j).tr = s.tr := rfl
@[simp] theorem State.dropJob_lvus (j : Nat) : (s.dropJob j).lvus = s.lvus := rfl
@[simp] theorem State.dropJob_seqs (j : Nat) : (s.dropJob j).seqs = s.seqs := rfl
@[simp] theorem State.dropJob_selftests (j : Nat) : (s.dropJob j).selftests = s.selftests := rfl
@[simp] theorem State.dropJob_free (j : Nat) : (s.dropJob j).free = s.free := rfl
@[simp] theorem State.dropJob_outbox (j : Nat) : (s.dropJob j).outbox = s.outbox := rfl
@[simp] theorem State.dropJob_pending (j : Nat) : (s.dropJob j).pending = s.pending := rfl

/-! ### What `setPair` leaves -/

@[simp] theorem State.setPair_tb (q : Nat) (p : QPair) : (s.setPair q p).tb = s.tb := rfl
@[simp] theorem State.setPair_cfg (q : Nat) (p : QPair) : (s.setPair q p).cfg = s.cfg := rfl
@[simp] theorem State.setPair_mp (q : Nat) (p : QPair) : (s.setPair q p).mp = s.mp := rfl
@[simp] theorem State.setPair_versions (q : Nat) (p : QPair) : (s.setPair q p).versions = s.versions := rfl
@[simp] theorem State.setPair_regs (q : Nat) (p : QPair) : (s.setPair q p).regs = s.regs := rfl
@[simp] theorem State.setPair_shadow (q : Nat) (p : QPair) : (s.setPair q p).shadow = s.shadow := rfl
@[simp] theorem State.setPair_latch (q : Nat) (p : QPair) : (s.setPair q p).latch = s.latch := rfl
@[simp] theorem State.setPair_cnts (q : Nat) (p : QPair) : (s.setPair q p).cnts = s.cnts := rfl
@[simp] theorem State.setPair_jobs (q : Nat) (p : QPair) : (s.setPair q p).jobs = s.jobs := rfl
@[simp] theorem State.setPair_nextJob (q : Nat) (p : QPair) : (s.setPair q p).nextJob = s.nextJob := rfl
@[simp] theorem State.setPair_pcie (q : Nat) (p : QPair) : (s.setPair q p).pcie = s.pcie := rfl
@[simp] theorem State.setPair_ks (q : Nat) (p : QPair) : (s.setPair q p).ks = s.ks := rfl
@[simp] theorem State.setPair_rng (q : Nat) (p : QPair) : (s.setPair q p).rng = s.rng := rfl
@[simp] theorem State.setPair_fc (q : Nat) (p : QPair) : (s.setPair q p).fc = s.fc := rfl
@[simp] theorem State.setPair_al (q : Nat) (p : QPair) : (s.setPair q p).al = s.al := rfl
@[simp] theorem State.setPair_pw (q : Nat) (p : QPair) : (s.setPair q p).pw = s.pw := rfl
@[simp] theorem State.setPair_insts (q : Nat) (p : QPair) : (s.setPair q p).insts = s.insts := rfl
@[simp] theorem State.setPair_engines (q : Nat) (p : QPair) : (s.setPair q p).engines = s.engines := rfl
@[simp] theorem State.setPair_xs (q : Nat) (p : QPair) : (s.setPair q p).xs = s.xs := rfl
@[simp] theorem State.setPair_mc (q : Nat) (p : QPair) : (s.setPair q p).mc = s.mc := rfl
@[simp] theorem State.setPair_hbs (q : Nat) (p : QPair) : (s.setPair q p).hbs = s.hbs := rfl
@[simp] theorem State.setPair_parts (q : Nat) (p : QPair) : (s.setPair q p).parts = s.parts := rfl
@[simp] theorem State.setPair_digests (q : Nat) (p : QPair) : (s.setPair q p).digests = s.digests := rfl
@[simp] theorem State.setPair_tw (q : Nat) (p : QPair) : (s.setPair q p).tw = s.tw := rfl
@[simp] theorem State.setPair_n6 (q : Nat) (p : QPair) : (s.setPair q p).n6 = s.n6 := rfl
@[simp] theorem State.setPair_n6Old (q : Nat) (p : QPair) : (s.setPair q p).n6Old = s.n6Old := rfl
@[simp] theorem State.setPair_n6Copy (q : Nat) (p : QPair) : (s.setPair q p).n6Copy = s.n6Copy := rfl
@[simp] theorem State.setPair_mpSets (q : Nat) (p : QPair) : (s.setPair q p).mpSets = s.mpSets := rfl
@[simp] theorem State.setPair_tr (q : Nat) (p : QPair) : (s.setPair q p).tr = s.tr := rfl
@[simp] theorem State.setPair_lvus (q : Nat) (p : QPair) : (s.setPair q p).lvus = s.lvus := rfl
@[simp] theorem State.setPair_seqs (q : Nat) (p : QPair) : (s.setPair q p).seqs = s.seqs := rfl
@[simp] theorem State.setPair_selftests (q : Nat) (p : QPair) : (s.setPair q p).selftests = s.selftests := rfl
@[simp] theorem State.setPair_free (q : Nat) (p : QPair) : (s.setPair q p).free = s.free := rfl
@[simp] theorem State.setPair_outbox (q : Nat) (p : QPair) : (s.setPair q p).outbox = s.outbox := rfl
@[simp] theorem State.setPair_pending (q : Nat) (p : QPair) : (s.setPair q p).pending = s.pending := rfl

/-! ### What `onPair` leaves -/

@[simp] theorem State.onPair_tb (q : Nat) (f : QPair → QPair) : (s.onPair q f).tb = s.tb := rfl
@[simp] theorem State.onPair_cfg (q : Nat) (f : QPair → QPair) : (s.onPair q f).cfg = s.cfg := rfl
@[simp] theorem State.onPair_mp (q : Nat) (f : QPair → QPair) : (s.onPair q f).mp = s.mp := rfl
@[simp] theorem State.onPair_versions (q : Nat) (f : QPair → QPair) : (s.onPair q f).versions = s.versions := rfl
@[simp] theorem State.onPair_regs (q : Nat) (f : QPair → QPair) : (s.onPair q f).regs = s.regs := rfl
@[simp] theorem State.onPair_shadow (q : Nat) (f : QPair → QPair) : (s.onPair q f).shadow = s.shadow := rfl
@[simp] theorem State.onPair_latch (q : Nat) (f : QPair → QPair) : (s.onPair q f).latch = s.latch := rfl
@[simp] theorem State.onPair_cnts (q : Nat) (f : QPair → QPair) : (s.onPair q f).cnts = s.cnts := rfl
@[simp] theorem State.onPair_jobs (q : Nat) (f : QPair → QPair) : (s.onPair q f).jobs = s.jobs := rfl
@[simp] theorem State.onPair_nextJob (q : Nat) (f : QPair → QPair) : (s.onPair q f).nextJob = s.nextJob := rfl
@[simp] theorem State.onPair_pcie (q : Nat) (f : QPair → QPair) : (s.onPair q f).pcie = s.pcie := rfl
@[simp] theorem State.onPair_ks (q : Nat) (f : QPair → QPair) : (s.onPair q f).ks = s.ks := rfl
@[simp] theorem State.onPair_rng (q : Nat) (f : QPair → QPair) : (s.onPair q f).rng = s.rng := rfl
@[simp] theorem State.onPair_fc (q : Nat) (f : QPair → QPair) : (s.onPair q f).fc = s.fc := rfl
@[simp] theorem State.onPair_al (q : Nat) (f : QPair → QPair) : (s.onPair q f).al = s.al := rfl
@[simp] theorem State.onPair_pw (q : Nat) (f : QPair → QPair) : (s.onPair q f).pw = s.pw := rfl
@[simp] theorem State.onPair_insts (q : Nat) (f : QPair → QPair) : (s.onPair q f).insts = s.insts := rfl
@[simp] theorem State.onPair_engines (q : Nat) (f : QPair → QPair) : (s.onPair q f).engines = s.engines := rfl
@[simp] theorem State.onPair_xs (q : Nat) (f : QPair → QPair) : (s.onPair q f).xs = s.xs := rfl
@[simp] theorem State.onPair_mc (q : Nat) (f : QPair → QPair) : (s.onPair q f).mc = s.mc := rfl
@[simp] theorem State.onPair_hbs (q : Nat) (f : QPair → QPair) : (s.onPair q f).hbs = s.hbs := rfl
@[simp] theorem State.onPair_parts (q : Nat) (f : QPair → QPair) : (s.onPair q f).parts = s.parts := rfl
@[simp] theorem State.onPair_digests (q : Nat) (f : QPair → QPair) : (s.onPair q f).digests = s.digests := rfl
@[simp] theorem State.onPair_tw (q : Nat) (f : QPair → QPair) : (s.onPair q f).tw = s.tw := rfl
@[simp] theorem State.onPair_n6 (q : Nat) (f : QPair → QPair) : (s.onPair q f).n6 = s.n6 := rfl
@[simp] theorem State.onPair_n6Old (q : Nat) (f : QPair → QPair) : (s.onPair q f).n6Old = s.n6Old := rfl
@[simp] theorem State.onPair_n6Copy (q : Nat) (f : QPair → QPair) : (s.onPair q f).n6Copy = s.n6Copy := rfl
@[simp] theorem State.onPair_mpSets (q : Nat) (f : QPair → QPair) : (s.onPair q f).mpSets = s.mpSets := rfl
@[simp] theorem State.onPair_tr (q : Nat) (f : QPair → QPair) : (s.onPair q f).tr = s.tr := rfl
@[simp] theorem State.onPair_lvus (q : Nat) (f : QPair → QPair) : (s.onPair q f).lvus = s.lvus := rfl
@[simp] theorem State.onPair_seqs (q : Nat) (f : QPair → QPair) : (s.onPair q f).seqs = s.seqs := rfl
@[simp] theorem State.onPair_selftests (q : Nat) (f : QPair → QPair) : (s.onPair q f).selftests = s.selftests := rfl
@[simp] theorem State.onPair_free (q : Nat) (f : QPair → QPair) : (s.onPair q f).free = s.free := rfl
@[simp] theorem State.onPair_outbox (q : Nat) (f : QPair → QPair) : (s.onPair q f).outbox = s.outbox := rfl
@[simp] theorem State.onPair_pending (q : Nat) (f : QPair → QPair) : (s.onPair q f).pending = s.pending := rfl

/-! ### What `emit` leaves -/

@[simp] theorem State.emit_tb (o : Output) : (s.emit o).tb = s.tb := rfl
@[simp] theorem State.emit_cfg (o : Output) : (s.emit o).cfg = s.cfg := rfl
@[simp] theorem State.emit_mp (o : Output) : (s.emit o).mp = s.mp := rfl
@[simp] theorem State.emit_versions (o : Output) : (s.emit o).versions = s.versions := rfl
@[simp] theorem State.emit_regs (o : Output) : (s.emit o).regs = s.regs := rfl
@[simp] theorem State.emit_shadow (o : Output) : (s.emit o).shadow = s.shadow := rfl
@[simp] theorem State.emit_latch (o : Output) : (s.emit o).latch = s.latch := rfl
@[simp] theorem State.emit_cnts (o : Output) : (s.emit o).cnts = s.cnts := rfl
@[simp] theorem State.emit_pairs (o : Output) : (s.emit o).pairs = s.pairs := rfl
@[simp] theorem State.emit_jobs (o : Output) : (s.emit o).jobs = s.jobs := rfl
@[simp] theorem State.emit_nextJob (o : Output) : (s.emit o).nextJob = s.nextJob := rfl
@[simp] theorem State.emit_pcie (o : Output) : (s.emit o).pcie = s.pcie := rfl
@[simp] theorem State.emit_ks (o : Output) : (s.emit o).ks = s.ks := rfl
@[simp] theorem State.emit_rng (o : Output) : (s.emit o).rng = s.rng := rfl
@[simp] theorem State.emit_fc (o : Output) : (s.emit o).fc = s.fc := rfl
@[simp] theorem State.emit_al (o : Output) : (s.emit o).al = s.al := rfl
@[simp] theorem State.emit_pw (o : Output) : (s.emit o).pw = s.pw := rfl
@[simp] theorem State.emit_insts (o : Output) : (s.emit o).insts = s.insts := rfl
@[simp] theorem State.emit_engines (o : Output) : (s.emit o).engines = s.engines := rfl
@[simp] theorem State.emit_xs (o : Output) : (s.emit o).xs = s.xs := rfl
@[simp] theorem State.emit_mc (o : Output) : (s.emit o).mc = s.mc := rfl
@[simp] theorem State.emit_hbs (o : Output) : (s.emit o).hbs = s.hbs := rfl
@[simp] theorem State.emit_parts (o : Output) : (s.emit o).parts = s.parts := rfl
@[simp] theorem State.emit_digests (o : Output) : (s.emit o).digests = s.digests := rfl
@[simp] theorem State.emit_tw (o : Output) : (s.emit o).tw = s.tw := rfl
@[simp] theorem State.emit_n6 (o : Output) : (s.emit o).n6 = s.n6 := rfl
@[simp] theorem State.emit_n6Old (o : Output) : (s.emit o).n6Old = s.n6Old := rfl
@[simp] theorem State.emit_n6Copy (o : Output) : (s.emit o).n6Copy = s.n6Copy := rfl
@[simp] theorem State.emit_mpSets (o : Output) : (s.emit o).mpSets = s.mpSets := rfl
@[simp] theorem State.emit_tr (o : Output) : (s.emit o).tr = s.tr := rfl
@[simp] theorem State.emit_lvus (o : Output) : (s.emit o).lvus = s.lvus := rfl
@[simp] theorem State.emit_seqs (o : Output) : (s.emit o).seqs = s.seqs := rfl
@[simp] theorem State.emit_selftests (o : Output) : (s.emit o).selftests = s.selftests := rfl
@[simp] theorem State.emit_free (o : Output) : (s.emit o).free = s.free := rfl
@[simp] theorem State.emit_pending (o : Output) : (s.emit o).pending = s.pending := rfl

/-! ### What `setEng` leaves -/

@[simp] theorem State.setEng_tb (k : Nat) (e : Engine) : (s.setEng k e).tb = s.tb := rfl
@[simp] theorem State.setEng_cfg (k : Nat) (e : Engine) : (s.setEng k e).cfg = s.cfg := rfl
@[simp] theorem State.setEng_mp (k : Nat) (e : Engine) : (s.setEng k e).mp = s.mp := rfl
@[simp] theorem State.setEng_versions (k : Nat) (e : Engine) : (s.setEng k e).versions = s.versions := rfl
@[simp] theorem State.setEng_regs (k : Nat) (e : Engine) : (s.setEng k e).regs = s.regs := rfl
@[simp] theorem State.setEng_shadow (k : Nat) (e : Engine) : (s.setEng k e).shadow = s.shadow := rfl
@[simp] theorem State.setEng_latch (k : Nat) (e : Engine) : (s.setEng k e).latch = s.latch := rfl
@[simp] theorem State.setEng_cnts (k : Nat) (e : Engine) : (s.setEng k e).cnts = s.cnts := rfl
@[simp] theorem State.setEng_pairs (k : Nat) (e : Engine) : (s.setEng k e).pairs = s.pairs := rfl
@[simp] theorem State.setEng_jobs (k : Nat) (e : Engine) : (s.setEng k e).jobs = s.jobs := rfl
@[simp] theorem State.setEng_nextJob (k : Nat) (e : Engine) : (s.setEng k e).nextJob = s.nextJob := rfl
@[simp] theorem State.setEng_pcie (k : Nat) (e : Engine) : (s.setEng k e).pcie = s.pcie := rfl
@[simp] theorem State.setEng_ks (k : Nat) (e : Engine) : (s.setEng k e).ks = s.ks := rfl
@[simp] theorem State.setEng_rng (k : Nat) (e : Engine) : (s.setEng k e).rng = s.rng := rfl
@[simp] theorem State.setEng_fc (k : Nat) (e : Engine) : (s.setEng k e).fc = s.fc := rfl
@[simp] theorem State.setEng_al (k : Nat) (e : Engine) : (s.setEng k e).al = s.al := rfl
@[simp] theorem State.setEng_pw (k : Nat) (e : Engine) : (s.setEng k e).pw = s.pw := rfl
@[simp] theorem State.setEng_insts (k : Nat) (e : Engine) : (s.setEng k e).insts = s.insts := rfl
@[simp] theorem State.setEng_xs (k : Nat) (e : Engine) : (s.setEng k e).xs = s.xs := rfl
@[simp] theorem State.setEng_mc (k : Nat) (e : Engine) : (s.setEng k e).mc = s.mc := rfl
@[simp] theorem State.setEng_hbs (k : Nat) (e : Engine) : (s.setEng k e).hbs = s.hbs := rfl
@[simp] theorem State.setEng_parts (k : Nat) (e : Engine) : (s.setEng k e).parts = s.parts := rfl
@[simp] theorem State.setEng_digests (k : Nat) (e : Engine) : (s.setEng k e).digests = s.digests := rfl
@[simp] theorem State.setEng_tw (k : Nat) (e : Engine) : (s.setEng k e).tw = s.tw := rfl
@[simp] theorem State.setEng_n6 (k : Nat) (e : Engine) : (s.setEng k e).n6 = s.n6 := rfl
@[simp] theorem State.setEng_n6Old (k : Nat) (e : Engine) : (s.setEng k e).n6Old = s.n6Old := rfl
@[simp] theorem State.setEng_n6Copy (k : Nat) (e : Engine) : (s.setEng k e).n6Copy = s.n6Copy := rfl
@[simp] theorem State.setEng_mpSets (k : Nat) (e : Engine) : (s.setEng k e).mpSets = s.mpSets := rfl
@[simp] theorem State.setEng_tr (k : Nat) (e : Engine) : (s.setEng k e).tr = s.tr := rfl
@[simp] theorem State.setEng_lvus (k : Nat) (e : Engine) : (s.setEng k e).lvus = s.lvus := rfl
@[simp] theorem State.setEng_seqs (k : Nat) (e : Engine) : (s.setEng k e).seqs = s.seqs := rfl
@[simp] theorem State.setEng_selftests (k : Nat) (e : Engine) : (s.setEng k e).selftests = s.selftests := rfl
@[simp] theorem State.setEng_free (k : Nat) (e : Engine) : (s.setEng k e).free = s.free := rfl
@[simp] theorem State.setEng_outbox (k : Nat) (e : Engine) : (s.setEng k e).outbox = s.outbox := rfl
@[simp] theorem State.setEng_pending (k : Nat) (e : Engine) : (s.setEng k e).pending = s.pending := rfl

/-! ### What `onEng` leaves -/

@[simp] theorem State.onEng_tb (k : Nat) (f : Engine → Engine) : (s.onEng k f).tb = s.tb := rfl
@[simp] theorem State.onEng_cfg (k : Nat) (f : Engine → Engine) : (s.onEng k f).cfg = s.cfg := rfl
@[simp] theorem State.onEng_mp (k : Nat) (f : Engine → Engine) : (s.onEng k f).mp = s.mp := rfl
@[simp] theorem State.onEng_versions (k : Nat) (f : Engine → Engine) : (s.onEng k f).versions = s.versions := rfl
@[simp] theorem State.onEng_regs (k : Nat) (f : Engine → Engine) : (s.onEng k f).regs = s.regs := rfl
@[simp] theorem State.onEng_shadow (k : Nat) (f : Engine → Engine) : (s.onEng k f).shadow = s.shadow := rfl
@[simp] theorem State.onEng_latch (k : Nat) (f : Engine → Engine) : (s.onEng k f).latch = s.latch := rfl
@[simp] theorem State.onEng_cnts (k : Nat) (f : Engine → Engine) : (s.onEng k f).cnts = s.cnts := rfl
@[simp] theorem State.onEng_pairs (k : Nat) (f : Engine → Engine) : (s.onEng k f).pairs = s.pairs := rfl
@[simp] theorem State.onEng_jobs (k : Nat) (f : Engine → Engine) : (s.onEng k f).jobs = s.jobs := rfl
@[simp] theorem State.onEng_nextJob (k : Nat) (f : Engine → Engine) : (s.onEng k f).nextJob = s.nextJob := rfl
@[simp] theorem State.onEng_pcie (k : Nat) (f : Engine → Engine) : (s.onEng k f).pcie = s.pcie := rfl
@[simp] theorem State.onEng_ks (k : Nat) (f : Engine → Engine) : (s.onEng k f).ks = s.ks := rfl
@[simp] theorem State.onEng_rng (k : Nat) (f : Engine → Engine) : (s.onEng k f).rng = s.rng := rfl
@[simp] theorem State.onEng_fc (k : Nat) (f : Engine → Engine) : (s.onEng k f).fc = s.fc := rfl
@[simp] theorem State.onEng_al (k : Nat) (f : Engine → Engine) : (s.onEng k f).al = s.al := rfl
@[simp] theorem State.onEng_pw (k : Nat) (f : Engine → Engine) : (s.onEng k f).pw = s.pw := rfl
@[simp] theorem State.onEng_insts (k : Nat) (f : Engine → Engine) : (s.onEng k f).insts = s.insts := rfl
@[simp] theorem State.onEng_xs (k : Nat) (f : Engine → Engine) : (s.onEng k f).xs = s.xs := rfl
@[simp] theorem State.onEng_mc (k : Nat) (f : Engine → Engine) : (s.onEng k f).mc = s.mc := rfl
@[simp] theorem State.onEng_hbs (k : Nat) (f : Engine → Engine) : (s.onEng k f).hbs = s.hbs := rfl
@[simp] theorem State.onEng_parts (k : Nat) (f : Engine → Engine) : (s.onEng k f).parts = s.parts := rfl
@[simp] theorem State.onEng_digests (k : Nat) (f : Engine → Engine) : (s.onEng k f).digests = s.digests := rfl
@[simp] theorem State.onEng_tw (k : Nat) (f : Engine → Engine) : (s.onEng k f).tw = s.tw := rfl
@[simp] theorem State.onEng_n6 (k : Nat) (f : Engine → Engine) : (s.onEng k f).n6 = s.n6 := rfl
@[simp] theorem State.onEng_n6Old (k : Nat) (f : Engine → Engine) : (s.onEng k f).n6Old = s.n6Old := rfl
@[simp] theorem State.onEng_n6Copy (k : Nat) (f : Engine → Engine) : (s.onEng k f).n6Copy = s.n6Copy := rfl
@[simp] theorem State.onEng_mpSets (k : Nat) (f : Engine → Engine) : (s.onEng k f).mpSets = s.mpSets := rfl
@[simp] theorem State.onEng_tr (k : Nat) (f : Engine → Engine) : (s.onEng k f).tr = s.tr := rfl
@[simp] theorem State.onEng_lvus (k : Nat) (f : Engine → Engine) : (s.onEng k f).lvus = s.lvus := rfl
@[simp] theorem State.onEng_seqs (k : Nat) (f : Engine → Engine) : (s.onEng k f).seqs = s.seqs := rfl
@[simp] theorem State.onEng_selftests (k : Nat) (f : Engine → Engine) : (s.onEng k f).selftests = s.selftests := rfl
@[simp] theorem State.onEng_free (k : Nat) (f : Engine → Engine) : (s.onEng k f).free = s.free := rfl
@[simp] theorem State.onEng_outbox (k : Nat) (f : Engine → Engine) : (s.onEng k f).outbox = s.outbox := rfl
@[simp] theorem State.onEng_pending (k : Nat) (f : Engine → Engine) : (s.onEng k f).pending = s.pending := rfl

/-! ### What `setInst` leaves -/

@[simp] theorem State.setInst_tb (n : Nat) (x : Instance) : (s.setInst n x).tb = s.tb := rfl
@[simp] theorem State.setInst_cfg (n : Nat) (x : Instance) : (s.setInst n x).cfg = s.cfg := rfl
@[simp] theorem State.setInst_mp (n : Nat) (x : Instance) : (s.setInst n x).mp = s.mp := rfl
@[simp] theorem State.setInst_versions (n : Nat) (x : Instance) : (s.setInst n x).versions = s.versions := rfl
@[simp] theorem State.setInst_regs (n : Nat) (x : Instance) : (s.setInst n x).regs = s.regs := rfl
@[simp] theorem State.setInst_shadow (n : Nat) (x : Instance) : (s.setInst n x).shadow = s.shadow := rfl
@[simp] theorem State.setInst_latch (n : Nat) (x : Instance) : (s.setInst n x).latch = s.latch := rfl
@[simp] theorem State.setInst_cnts (n : Nat) (x : Instance) : (s.setInst n x).cnts = s.cnts := rfl
@[simp] theorem State.setInst_pairs (n : Nat) (x : Instance) : (s.setInst n x).pairs = s.pairs := rfl
@[simp] theorem State.setInst_jobs (n : Nat) (x : Instance) : (s.setInst n x).jobs = s.jobs := rfl
@[simp] theorem State.setInst_nextJob (n : Nat) (x : Instance) : (s.setInst n x).nextJob = s.nextJob := rfl
@[simp] theorem State.setInst_pcie (n : Nat) (x : Instance) : (s.setInst n x).pcie = s.pcie := rfl
@[simp] theorem State.setInst_ks (n : Nat) (x : Instance) : (s.setInst n x).ks = s.ks := rfl
@[simp] theorem State.setInst_rng (n : Nat) (x : Instance) : (s.setInst n x).rng = s.rng := rfl
@[simp] theorem State.setInst_fc (n : Nat) (x : Instance) : (s.setInst n x).fc = s.fc := rfl
@[simp] theorem State.setInst_al (n : Nat) (x : Instance) : (s.setInst n x).al = s.al := rfl
@[simp] theorem State.setInst_pw (n : Nat) (x : Instance) : (s.setInst n x).pw = s.pw := rfl
@[simp] theorem State.setInst_engines (n : Nat) (x : Instance) : (s.setInst n x).engines = s.engines := rfl
@[simp] theorem State.setInst_xs (n : Nat) (x : Instance) : (s.setInst n x).xs = s.xs := rfl
@[simp] theorem State.setInst_mc (n : Nat) (x : Instance) : (s.setInst n x).mc = s.mc := rfl
@[simp] theorem State.setInst_hbs (n : Nat) (x : Instance) : (s.setInst n x).hbs = s.hbs := rfl
@[simp] theorem State.setInst_parts (n : Nat) (x : Instance) : (s.setInst n x).parts = s.parts := rfl
@[simp] theorem State.setInst_digests (n : Nat) (x : Instance) : (s.setInst n x).digests = s.digests := rfl
@[simp] theorem State.setInst_tw (n : Nat) (x : Instance) : (s.setInst n x).tw = s.tw := rfl
@[simp] theorem State.setInst_n6 (n : Nat) (x : Instance) : (s.setInst n x).n6 = s.n6 := rfl
@[simp] theorem State.setInst_n6Old (n : Nat) (x : Instance) : (s.setInst n x).n6Old = s.n6Old := rfl
@[simp] theorem State.setInst_n6Copy (n : Nat) (x : Instance) : (s.setInst n x).n6Copy = s.n6Copy := rfl
@[simp] theorem State.setInst_mpSets (n : Nat) (x : Instance) : (s.setInst n x).mpSets = s.mpSets := rfl
@[simp] theorem State.setInst_tr (n : Nat) (x : Instance) : (s.setInst n x).tr = s.tr := rfl
@[simp] theorem State.setInst_lvus (n : Nat) (x : Instance) : (s.setInst n x).lvus = s.lvus := rfl
@[simp] theorem State.setInst_seqs (n : Nat) (x : Instance) : (s.setInst n x).seqs = s.seqs := rfl
@[simp] theorem State.setInst_selftests (n : Nat) (x : Instance) : (s.setInst n x).selftests = s.selftests := rfl
@[simp] theorem State.setInst_free (n : Nat) (x : Instance) : (s.setInst n x).free = s.free := rfl
@[simp] theorem State.setInst_outbox (n : Nat) (x : Instance) : (s.setInst n x).outbox = s.outbox := rfl
@[simp] theorem State.setInst_pending (n : Nat) (x : Instance) : (s.setInst n x).pending = s.pending := rfl

/-! ### What `setSlot` leaves -/

@[simp] theorem State.setSlot_tb (n : Nat) (x : Slot) : (s.setSlot n x).tb = s.tb := rfl
@[simp] theorem State.setSlot_cfg (n : Nat) (x : Slot) : (s.setSlot n x).cfg = s.cfg := rfl
@[simp] theorem State.setSlot_mp (n : Nat) (x : Slot) : (s.setSlot n x).mp = s.mp := rfl
@[simp] theorem State.setSlot_versions (n : Nat) (x : Slot) : (s.setSlot n x).versions = s.versions := rfl
@[simp] theorem State.setSlot_regs (n : Nat) (x : Slot) : (s.setSlot n x).regs = s.regs := rfl
@[simp] theorem State.setSlot_shadow (n : Nat) (x : Slot) : (s.setSlot n x).shadow = s.shadow := rfl
@[simp] theorem State.setSlot_latch (n : Nat) (x : Slot) : (s.setSlot n x).latch = s.latch := rfl
@[simp] theorem State.setSlot_cnts (n : Nat) (x : Slot) : (s.setSlot n x).cnts = s.cnts := rfl
@[simp] theorem State.setSlot_pairs (n : Nat) (x : Slot) : (s.setSlot n x).pairs = s.pairs := rfl
@[simp] theorem State.setSlot_jobs (n : Nat) (x : Slot) : (s.setSlot n x).jobs = s.jobs := rfl
@[simp] theorem State.setSlot_nextJob (n : Nat) (x : Slot) : (s.setSlot n x).nextJob = s.nextJob := rfl
@[simp] theorem State.setSlot_pcie (n : Nat) (x : Slot) : (s.setSlot n x).pcie = s.pcie := rfl
@[simp] theorem State.setSlot_rng (n : Nat) (x : Slot) : (s.setSlot n x).rng = s.rng := rfl
@[simp] theorem State.setSlot_fc (n : Nat) (x : Slot) : (s.setSlot n x).fc = s.fc := rfl
@[simp] theorem State.setSlot_al (n : Nat) (x : Slot) : (s.setSlot n x).al = s.al := rfl
@[simp] theorem State.setSlot_pw (n : Nat) (x : Slot) : (s.setSlot n x).pw = s.pw := rfl
@[simp] theorem State.setSlot_insts (n : Nat) (x : Slot) : (s.setSlot n x).insts = s.insts := rfl
@[simp] theorem State.setSlot_engines (n : Nat) (x : Slot) : (s.setSlot n x).engines = s.engines := rfl
@[simp] theorem State.setSlot_xs (n : Nat) (x : Slot) : (s.setSlot n x).xs = s.xs := rfl
@[simp] theorem State.setSlot_mc (n : Nat) (x : Slot) : (s.setSlot n x).mc = s.mc := rfl
@[simp] theorem State.setSlot_hbs (n : Nat) (x : Slot) : (s.setSlot n x).hbs = s.hbs := rfl
@[simp] theorem State.setSlot_parts (n : Nat) (x : Slot) : (s.setSlot n x).parts = s.parts := rfl
@[simp] theorem State.setSlot_digests (n : Nat) (x : Slot) : (s.setSlot n x).digests = s.digests := rfl
@[simp] theorem State.setSlot_tw (n : Nat) (x : Slot) : (s.setSlot n x).tw = s.tw := rfl
@[simp] theorem State.setSlot_n6 (n : Nat) (x : Slot) : (s.setSlot n x).n6 = s.n6 := rfl
@[simp] theorem State.setSlot_n6Old (n : Nat) (x : Slot) : (s.setSlot n x).n6Old = s.n6Old := rfl
@[simp] theorem State.setSlot_n6Copy (n : Nat) (x : Slot) : (s.setSlot n x).n6Copy = s.n6Copy := rfl
@[simp] theorem State.setSlot_mpSets (n : Nat) (x : Slot) : (s.setSlot n x).mpSets = s.mpSets := rfl
@[simp] theorem State.setSlot_tr (n : Nat) (x : Slot) : (s.setSlot n x).tr = s.tr := rfl
@[simp] theorem State.setSlot_lvus (n : Nat) (x : Slot) : (s.setSlot n x).lvus = s.lvus := rfl
@[simp] theorem State.setSlot_seqs (n : Nat) (x : Slot) : (s.setSlot n x).seqs = s.seqs := rfl
@[simp] theorem State.setSlot_selftests (n : Nat) (x : Slot) : (s.setSlot n x).selftests = s.selftests := rfl
@[simp] theorem State.setSlot_free (n : Nat) (x : Slot) : (s.setSlot n x).free = s.free := rfl
@[simp] theorem State.setSlot_outbox (n : Nat) (x : Slot) : (s.setSlot n x).outbox = s.outbox := rfl
@[simp] theorem State.setSlot_pending (n : Nat) (x : Slot) : (s.setSlot n x).pending = s.pending := rfl

/-! ### What `setLvu` leaves -/

@[simp] theorem State.setLvu_tb (pe : Nat) (l : Lvu) : (s.setLvu pe l).tb = s.tb := rfl
@[simp] theorem State.setLvu_cfg (pe : Nat) (l : Lvu) : (s.setLvu pe l).cfg = s.cfg := rfl
@[simp] theorem State.setLvu_mp (pe : Nat) (l : Lvu) : (s.setLvu pe l).mp = s.mp := rfl
@[simp] theorem State.setLvu_versions (pe : Nat) (l : Lvu) : (s.setLvu pe l).versions = s.versions := rfl
@[simp] theorem State.setLvu_regs (pe : Nat) (l : Lvu) : (s.setLvu pe l).regs = s.regs := rfl
@[simp] theorem State.setLvu_shadow (pe : Nat) (l : Lvu) : (s.setLvu pe l).shadow = s.shadow := rfl
@[simp] theorem State.setLvu_latch (pe : Nat) (l : Lvu) : (s.setLvu pe l).latch = s.latch := rfl
@[simp] theorem State.setLvu_cnts (pe : Nat) (l : Lvu) : (s.setLvu pe l).cnts = s.cnts := rfl
@[simp] theorem State.setLvu_pairs (pe : Nat) (l : Lvu) : (s.setLvu pe l).pairs = s.pairs := rfl
@[simp] theorem State.setLvu_jobs (pe : Nat) (l : Lvu) : (s.setLvu pe l).jobs = s.jobs := rfl
@[simp] theorem State.setLvu_nextJob (pe : Nat) (l : Lvu) : (s.setLvu pe l).nextJob = s.nextJob := rfl
@[simp] theorem State.setLvu_pcie (pe : Nat) (l : Lvu) : (s.setLvu pe l).pcie = s.pcie := rfl
@[simp] theorem State.setLvu_ks (pe : Nat) (l : Lvu) : (s.setLvu pe l).ks = s.ks := rfl
@[simp] theorem State.setLvu_rng (pe : Nat) (l : Lvu) : (s.setLvu pe l).rng = s.rng := rfl
@[simp] theorem State.setLvu_fc (pe : Nat) (l : Lvu) : (s.setLvu pe l).fc = s.fc := rfl
@[simp] theorem State.setLvu_al (pe : Nat) (l : Lvu) : (s.setLvu pe l).al = s.al := rfl
@[simp] theorem State.setLvu_pw (pe : Nat) (l : Lvu) : (s.setLvu pe l).pw = s.pw := rfl
@[simp] theorem State.setLvu_insts (pe : Nat) (l : Lvu) : (s.setLvu pe l).insts = s.insts := rfl
@[simp] theorem State.setLvu_engines (pe : Nat) (l : Lvu) : (s.setLvu pe l).engines = s.engines := rfl
@[simp] theorem State.setLvu_xs (pe : Nat) (l : Lvu) : (s.setLvu pe l).xs = s.xs := rfl
@[simp] theorem State.setLvu_mc (pe : Nat) (l : Lvu) : (s.setLvu pe l).mc = s.mc := rfl
@[simp] theorem State.setLvu_hbs (pe : Nat) (l : Lvu) : (s.setLvu pe l).hbs = s.hbs := rfl
@[simp] theorem State.setLvu_parts (pe : Nat) (l : Lvu) : (s.setLvu pe l).parts = s.parts := rfl
@[simp] theorem State.setLvu_digests (pe : Nat) (l : Lvu) : (s.setLvu pe l).digests = s.digests := rfl
@[simp] theorem State.setLvu_tw (pe : Nat) (l : Lvu) : (s.setLvu pe l).tw = s.tw := rfl
@[simp] theorem State.setLvu_n6 (pe : Nat) (l : Lvu) : (s.setLvu pe l).n6 = s.n6 := rfl
@[simp] theorem State.setLvu_n6Old (pe : Nat) (l : Lvu) : (s.setLvu pe l).n6Old = s.n6Old := rfl
@[simp] theorem State.setLvu_n6Copy (pe : Nat) (l : Lvu) : (s.setLvu pe l).n6Copy = s.n6Copy := rfl
@[simp] theorem State.setLvu_mpSets (pe : Nat) (l : Lvu) : (s.setLvu pe l).mpSets = s.mpSets := rfl
@[simp] theorem State.setLvu_tr (pe : Nat) (l : Lvu) : (s.setLvu pe l).tr = s.tr := rfl
@[simp] theorem State.setLvu_seqs (pe : Nat) (l : Lvu) : (s.setLvu pe l).seqs = s.seqs := rfl
@[simp] theorem State.setLvu_selftests (pe : Nat) (l : Lvu) : (s.setLvu pe l).selftests = s.selftests := rfl
@[simp] theorem State.setLvu_free (pe : Nat) (l : Lvu) : (s.setLvu pe l).free = s.free := rfl
@[simp] theorem State.setLvu_outbox (pe : Nat) (l : Lvu) : (s.setLvu pe l).outbox = s.outbox := rfl
@[simp] theorem State.setLvu_pending (pe : Nat) (l : Lvu) : (s.setLvu pe l).pending = s.pending := rfl

/-! ### What `writeN6`, `gangStep`, `gangServe` and `at_` leave -/

@[simp] theorem State.writeN6_tb (x : Store) : (s.writeN6 x).tb = s.tb := rfl
@[simp] theorem State.writeN6_cfg (x : Store) : (s.writeN6 x).cfg = s.cfg := rfl
@[simp] theorem State.writeN6_mp (x : Store) : (s.writeN6 x).mp = s.mp := rfl
@[simp] theorem State.writeN6_versions (x : Store) : (s.writeN6 x).versions = s.versions := rfl
@[simp] theorem State.writeN6_regs (x : Store) : (s.writeN6 x).regs = s.regs := rfl
@[simp] theorem State.writeN6_shadow (x : Store) : (s.writeN6 x).shadow = s.shadow := rfl
@[simp] theorem State.writeN6_latch (x : Store) : (s.writeN6 x).latch = s.latch := rfl
@[simp] theorem State.writeN6_cnts (x : Store) : (s.writeN6 x).cnts = s.cnts := rfl
@[simp] theorem State.writeN6_pairs (x : Store) : (s.writeN6 x).pairs = s.pairs := rfl
@[simp] theorem State.writeN6_jobs (x : Store) : (s.writeN6 x).jobs = s.jobs := rfl
@[simp] theorem State.writeN6_nextJob (x : Store) : (s.writeN6 x).nextJob = s.nextJob := rfl
@[simp] theorem State.writeN6_pcie (x : Store) : (s.writeN6 x).pcie = s.pcie := rfl
@[simp] theorem State.writeN6_ks (x : Store) : (s.writeN6 x).ks = s.ks := rfl
@[simp] theorem State.writeN6_rng (x : Store) : (s.writeN6 x).rng = s.rng := rfl
@[simp] theorem State.writeN6_fc (x : Store) : (s.writeN6 x).fc = s.fc := rfl
@[simp] theorem State.writeN6_al (x : Store) : (s.writeN6 x).al = s.al := rfl
@[simp] theorem State.writeN6_pw (x : Store) : (s.writeN6 x).pw = s.pw := rfl
@[simp] theorem State.writeN6_insts (x : Store) : (s.writeN6 x).insts = s.insts := rfl
@[simp] theorem State.writeN6_engines (x : Store) : (s.writeN6 x).engines = s.engines := rfl
@[simp] theorem State.writeN6_xs (x : Store) : (s.writeN6 x).xs = s.xs := rfl
@[simp] theorem State.writeN6_mc (x : Store) : (s.writeN6 x).mc = s.mc := rfl
@[simp] theorem State.writeN6_hbs (x : Store) : (s.writeN6 x).hbs = s.hbs := rfl
@[simp] theorem State.writeN6_parts (x : Store) : (s.writeN6 x).parts = s.parts := rfl
@[simp] theorem State.writeN6_digests (x : Store) : (s.writeN6 x).digests = s.digests := rfl
@[simp] theorem State.writeN6_tw (x : Store) : (s.writeN6 x).tw = s.tw := rfl
@[simp] theorem State.writeN6_mpSets (x : Store) : (s.writeN6 x).mpSets = s.mpSets := rfl
@[simp] theorem State.writeN6_tr (x : Store) : (s.writeN6 x).tr = s.tr := rfl
@[simp] theorem State.writeN6_lvus (x : Store) : (s.writeN6 x).lvus = s.lvus := rfl
@[simp] theorem State.writeN6_seqs (x : Store) : (s.writeN6 x).seqs = s.seqs := rfl
@[simp] theorem State.writeN6_selftests (x : Store) : (s.writeN6 x).selftests = s.selftests := rfl
@[simp] theorem State.writeN6_free (x : Store) : (s.writeN6 x).free = s.free := rfl
@[simp] theorem State.writeN6_outbox (x : Store) : (s.writeN6 x).outbox = s.outbox := rfl
@[simp] theorem State.writeN6_pending (x : Store) : (s.writeN6 x).pending = s.pending := rfl
@[simp] theorem State.gangStep_tb : s.gangStep.tb = s.tb := by
  unfold State.gangStep; split <;> rfl
@[simp] theorem State.gangStep_cfg : s.gangStep.cfg = s.cfg := by
  unfold State.gangStep; split <;> rfl
@[simp] theorem State.gangStep_mp : s.gangStep.mp = s.mp := by
  unfold State.gangStep; split <;> rfl
@[simp] theorem State.gangStep_versions : s.gangStep.versions = s.versions := by
  unfold State.gangStep; split <;> rfl
@[simp] theorem State.gangStep_regs : s.gangStep.regs = s.regs := by
  unfold State.gangStep; split <;> rfl
@[simp] theorem State.gangStep_shadow : s.gangStep.shadow = s.shadow := by
  unfold State.gangStep; split <;> rfl
@[simp] theorem State.gangStep_latch : s.gangStep.latch = s.latch := by
  unfold State.gangStep; split <;> rfl
@[simp] theorem State.gangStep_cnts : s.gangStep.cnts = s.cnts := by
  unfold State.gangStep; split <;> rfl
@[simp] theorem State.gangStep_pairs : s.gangStep.pairs = s.pairs := by
  unfold State.gangStep; split <;> rfl
@[simp] theorem State.gangStep_jobs : s.gangStep.jobs = s.jobs := by
  unfold State.gangStep; split <;> rfl
@[simp] theorem State.gangStep_nextJob : s.gangStep.nextJob = s.nextJob := by
  unfold State.gangStep; split <;> rfl
@[simp] theorem State.gangStep_pcie : s.gangStep.pcie = s.pcie := by
  unfold State.gangStep; split <;> rfl
@[simp] theorem State.gangStep_rng : s.gangStep.rng = s.rng := by
  unfold State.gangStep; split <;> rfl
@[simp] theorem State.gangStep_fc : s.gangStep.fc = s.fc := by
  unfold State.gangStep; split <;> rfl
@[simp] theorem State.gangStep_al : s.gangStep.al = s.al := by
  unfold State.gangStep; split <;> rfl
@[simp] theorem State.gangStep_pw : s.gangStep.pw = s.pw := by
  unfold State.gangStep; split <;> rfl
@[simp] theorem State.gangStep_insts : s.gangStep.insts = s.insts := by
  unfold State.gangStep; split <;> rfl
@[simp] theorem State.gangStep_xs : s.gangStep.xs = s.xs := by
  unfold State.gangStep; split <;> rfl
@[simp] theorem State.gangStep_mc : s.gangStep.mc = s.mc := by
  unfold State.gangStep; split <;> rfl
@[simp] theorem State.gangStep_hbs : s.gangStep.hbs = s.hbs := by
  unfold State.gangStep; split <;> rfl
@[simp] theorem State.gangStep_parts : s.gangStep.parts = s.parts := by
  unfold State.gangStep; split <;> rfl
@[simp] theorem State.gangStep_digests : s.gangStep.digests = s.digests := by
  unfold State.gangStep; split <;> rfl
@[simp] theorem State.gangStep_tw : s.gangStep.tw = s.tw := by
  unfold State.gangStep; split <;> rfl
@[simp] theorem State.gangStep_n6 : s.gangStep.n6 = s.n6 := by
  unfold State.gangStep; split <;> rfl
@[simp] theorem State.gangStep_n6Old : s.gangStep.n6Old = s.n6Old := by
  unfold State.gangStep; split <;> rfl
@[simp] theorem State.gangStep_n6Copy : s.gangStep.n6Copy = s.n6Copy := by
  unfold State.gangStep; split <;> rfl
@[simp] theorem State.gangStep_mpSets : s.gangStep.mpSets = s.mpSets := by
  unfold State.gangStep; split <;> rfl
@[simp] theorem State.gangStep_tr : s.gangStep.tr = s.tr := by
  unfold State.gangStep; split <;> rfl
@[simp] theorem State.gangStep_lvus : s.gangStep.lvus = s.lvus := by
  unfold State.gangStep; split <;> rfl
@[simp] theorem State.gangStep_seqs : s.gangStep.seqs = s.seqs := by
  unfold State.gangStep; split <;> rfl
@[simp] theorem State.gangStep_selftests : s.gangStep.selftests = s.selftests := by
  unfold State.gangStep; split <;> rfl
@[simp] theorem State.gangStep_free : s.gangStep.free = s.free := by
  unfold State.gangStep; split <;> rfl
@[simp] theorem State.gangStep_outbox : s.gangStep.outbox = s.outbox := by
  unfold State.gangStep; split <;> rfl
@[simp] theorem State.gangStep_pending : s.gangStep.pending = s.pending := by
  unfold State.gangStep; split <;> rfl

/-- What one transfer of the gangway leaves, any number of them leaves. -/
theorem State.gangServe_leaves {β : Type} (f : State → β) (h : ∀ t : State, f t.gangStep = f t) (n : Nat) :
    f (State.gangServe n s) = f s := by
  unfold State.gangServe
  generalize List.range _ = l
  induction l generalizing s with
  | nil => rfl
  | cons _ l ih => rw [List.foldl_cons, ih, h]

@[simp] theorem State.at_cfg (ns : Nat) : (s.at_ ns).cfg = s.cfg := by
  unfold State.at_; rw [State.gangServe_leaves _ State.cfg State.gangStep_cfg]
@[simp] theorem State.at_mp (ns : Nat) : (s.at_ ns).mp = s.mp := by
  unfold State.at_; rw [State.gangServe_leaves _ State.mp State.gangStep_mp]
@[simp] theorem State.at_versions (ns : Nat) : (s.at_ ns).versions = s.versions := by
  unfold State.at_; rw [State.gangServe_leaves _ State.versions State.gangStep_versions]
@[simp] theorem State.at_regs (ns : Nat) : (s.at_ ns).regs = s.regs := by
  unfold State.at_; rw [State.gangServe_leaves _ State.regs State.gangStep_regs]
@[simp] theorem State.at_shadow (ns : Nat) : (s.at_ ns).shadow = s.shadow := by
  unfold State.at_; rw [State.gangServe_leaves _ State.shadow State.gangStep_shadow]
@[simp] theorem State.at_latch (ns : Nat) : (s.at_ ns).latch = s.latch := by
  unfold State.at_; rw [State.gangServe_leaves _ State.latch State.gangStep_latch]
@[simp] theorem State.at_cnts (ns : Nat) : (s.at_ ns).cnts = s.cnts := by
  unfold State.at_; rw [State.gangServe_leaves _ State.cnts State.gangStep_cnts]
@[simp] theorem State.at_pairs (ns : Nat) : (s.at_ ns).pairs = s.pairs := by
  unfold State.at_; rw [State.gangServe_leaves _ State.pairs State.gangStep_pairs]
@[simp] theorem State.at_jobs (ns : Nat) : (s.at_ ns).jobs = s.jobs := by
  unfold State.at_; rw [State.gangServe_leaves _ State.jobs State.gangStep_jobs]
@[simp] theorem State.at_nextJob (ns : Nat) : (s.at_ ns).nextJob = s.nextJob := by
  unfold State.at_; rw [State.gangServe_leaves _ State.nextJob State.gangStep_nextJob]
@[simp] theorem State.at_pcie (ns : Nat) : (s.at_ ns).pcie = s.pcie := by
  unfold State.at_; rw [State.gangServe_leaves _ State.pcie State.gangStep_pcie]
@[simp] theorem State.at_rng (ns : Nat) : (s.at_ ns).rng = s.rng := by
  unfold State.at_; rw [State.gangServe_leaves _ State.rng State.gangStep_rng]
@[simp] theorem State.at_fc (ns : Nat) : (s.at_ ns).fc = s.fc := by
  unfold State.at_; rw [State.gangServe_leaves _ State.fc State.gangStep_fc]
@[simp] theorem State.at_al (ns : Nat) : (s.at_ ns).al = s.al := by
  unfold State.at_; rw [State.gangServe_leaves _ State.al State.gangStep_al]
@[simp] theorem State.at_pw (ns : Nat) : (s.at_ ns).pw = s.pw := by
  unfold State.at_; rw [State.gangServe_leaves _ State.pw State.gangStep_pw]
@[simp] theorem State.at_insts (ns : Nat) : (s.at_ ns).insts = s.insts := by
  unfold State.at_; rw [State.gangServe_leaves _ State.insts State.gangStep_insts]
@[simp] theorem State.at_xs (ns : Nat) : (s.at_ ns).xs = s.xs := by
  unfold State.at_; rw [State.gangServe_leaves _ State.xs State.gangStep_xs]
@[simp] theorem State.at_mc (ns : Nat) : (s.at_ ns).mc = s.mc := by
  unfold State.at_; rw [State.gangServe_leaves _ State.mc State.gangStep_mc]
@[simp] theorem State.at_hbs (ns : Nat) : (s.at_ ns).hbs = s.hbs := by
  unfold State.at_; rw [State.gangServe_leaves _ State.hbs State.gangStep_hbs]
@[simp] theorem State.at_parts (ns : Nat) : (s.at_ ns).parts = s.parts := by
  unfold State.at_; rw [State.gangServe_leaves _ State.parts State.gangStep_parts]
@[simp] theorem State.at_digests (ns : Nat) : (s.at_ ns).digests = s.digests := by
  unfold State.at_; rw [State.gangServe_leaves _ State.digests State.gangStep_digests]
@[simp] theorem State.at_tw (ns : Nat) : (s.at_ ns).tw = s.tw := by
  unfold State.at_; rw [State.gangServe_leaves _ State.tw State.gangStep_tw]
@[simp] theorem State.at_n6 (ns : Nat) : (s.at_ ns).n6 = s.n6 := by
  unfold State.at_; rw [State.gangServe_leaves _ State.n6 State.gangStep_n6]
@[simp] theorem State.at_n6Old (ns : Nat) : (s.at_ ns).n6Old = s.n6Old := by
  unfold State.at_; rw [State.gangServe_leaves _ State.n6Old State.gangStep_n6Old]
@[simp] theorem State.at_n6Copy (ns : Nat) : (s.at_ ns).n6Copy = s.n6Copy := by
  unfold State.at_; rw [State.gangServe_leaves _ State.n6Copy State.gangStep_n6Copy]
@[simp] theorem State.at_mpSets (ns : Nat) : (s.at_ ns).mpSets = s.mpSets := by
  unfold State.at_; rw [State.gangServe_leaves _ State.mpSets State.gangStep_mpSets]
@[simp] theorem State.at_tr (ns : Nat) : (s.at_ ns).tr = s.tr := by
  unfold State.at_; rw [State.gangServe_leaves _ State.tr State.gangStep_tr]
@[simp] theorem State.at_lvus (ns : Nat) : (s.at_ ns).lvus = s.lvus := by
  unfold State.at_; rw [State.gangServe_leaves _ State.lvus State.gangStep_lvus]
@[simp] theorem State.at_seqs (ns : Nat) : (s.at_ ns).seqs = s.seqs := by
  unfold State.at_; rw [State.gangServe_leaves _ State.seqs State.gangStep_seqs]
@[simp] theorem State.at_selftests (ns : Nat) : (s.at_ ns).selftests = s.selftests := by
  unfold State.at_; rw [State.gangServe_leaves _ State.selftests State.gangStep_selftests]
@[simp] theorem State.at_free (ns : Nat) : (s.at_ ns).free = s.free := by
  unfold State.at_; rw [State.gangServe_leaves _ State.free State.gangStep_free]
@[simp] theorem State.at_outbox (ns : Nat) : (s.at_ ns).outbox = s.outbox := by
  unfold State.at_; rw [State.gangServe_leaves _ State.outbox State.gangStep_outbox]
@[simp] theorem State.at_pending (ns : Nat) : (s.at_ ns).pending = s.pending := by
  unfold State.at_; rw [State.gangServe_leaves _ State.pending State.gangStep_pending]

/-! ### What `drawBytes` leaves -/

@[simp] theorem State.drawBytes_tb (n : Nat) : (s.drawBytes n).2.tb = s.tb := rfl
@[simp] theorem State.drawBytes_cfg (n : Nat) : (s.drawBytes n).2.cfg = s.cfg := rfl
@[simp] theorem State.drawBytes_mp (n : Nat) : (s.drawBytes n).2.mp = s.mp := rfl
@[simp] theorem State.drawBytes_versions (n : Nat) : (s.drawBytes n).2.versions = s.versions := rfl
@[simp] theorem State.drawBytes_regs (n : Nat) : (s.drawBytes n).2.regs = s.regs := rfl
@[simp] theorem State.drawBytes_shadow (n : Nat) : (s.drawBytes n).2.shadow = s.shadow := rfl
@[simp] theorem State.drawBytes_latch (n : Nat) : (s.drawBytes n).2.latch = s.latch := rfl
@[simp] theorem State.drawBytes_cnts (n : Nat) : (s.drawBytes n).2.cnts = s.cnts := rfl
@[simp] theorem State.drawBytes_pairs (n : Nat) : (s.drawBytes n).2.pairs = s.pairs := rfl
@[simp] theorem State.drawBytes_jobs (n : Nat) : (s.drawBytes n).2.jobs = s.jobs := rfl
@[simp] theorem State.drawBytes_nextJob (n : Nat) : (s.drawBytes n).2.nextJob = s.nextJob := rfl
@[simp] theorem State.drawBytes_pcie (n : Nat) : (s.drawBytes n).2.pcie = s.pcie := rfl
@[simp] theorem State.drawBytes_ks (n : Nat) : (s.drawBytes n).2.ks = s.ks := rfl
@[simp] theorem State.drawBytes_rng (n : Nat) : (s.drawBytes n).2.rng = s.rng := rfl
@[simp] theorem State.drawBytes_fc (n : Nat) : (s.drawBytes n).2.fc = s.fc := rfl
@[simp] theorem State.drawBytes_al (n : Nat) : (s.drawBytes n).2.al = s.al := rfl
@[simp] theorem State.drawBytes_pw (n : Nat) : (s.drawBytes n).2.pw = s.pw := rfl
@[simp] theorem State.drawBytes_insts (n : Nat) : (s.drawBytes n).2.insts = s.insts := rfl
@[simp] theorem State.drawBytes_engines (n : Nat) : (s.drawBytes n).2.engines = s.engines := rfl
@[simp] theorem State.drawBytes_xs (n : Nat) : (s.drawBytes n).2.xs = s.xs := rfl
@[simp] theorem State.drawBytes_mc (n : Nat) : (s.drawBytes n).2.mc = s.mc := rfl
@[simp] theorem State.drawBytes_hbs (n : Nat) : (s.drawBytes n).2.hbs = s.hbs := rfl
@[simp] theorem State.drawBytes_parts (n : Nat) : (s.drawBytes n).2.parts = s.parts := rfl
@[simp] theorem State.drawBytes_digests (n : Nat) : (s.drawBytes n).2.digests = s.digests := rfl
@[simp] theorem State.drawBytes_tw (n : Nat) : (s.drawBytes n).2.tw = s.tw := rfl
@[simp] theorem State.drawBytes_n6 (n : Nat) : (s.drawBytes n).2.n6 = s.n6 := rfl
@[simp] theorem State.drawBytes_n6Old (n : Nat) : (s.drawBytes n).2.n6Old = s.n6Old := rfl
@[simp] theorem State.drawBytes_n6Copy (n : Nat) : (s.drawBytes n).2.n6Copy = s.n6Copy := rfl
@[simp] theorem State.drawBytes_mpSets (n : Nat) : (s.drawBytes n).2.mpSets = s.mpSets := rfl
@[simp] theorem State.drawBytes_tr (n : Nat) : (s.drawBytes n).2.tr = s.tr := rfl
@[simp] theorem State.drawBytes_lvus (n : Nat) : (s.drawBytes n).2.lvus = s.lvus := rfl
@[simp] theorem State.drawBytes_seqs (n : Nat) : (s.drawBytes n).2.seqs = s.seqs := rfl
@[simp] theorem State.drawBytes_selftests (n : Nat) : (s.drawBytes n).2.selftests = s.selftests := rfl
@[simp] theorem State.drawBytes_outbox (n : Nat) : (s.drawBytes n).2.outbox = s.outbox := rfl
@[simp] theorem State.drawBytes_pending (n : Nat) : (s.drawBytes n).2.pending = s.pending := rfl

/-! ### What `drawNat` leaves -/

@[simp] theorem State.drawNat_tb (m : Nat) : (s.drawNat m).2.tb = s.tb := rfl
@[simp] theorem State.drawNat_cfg (m : Nat) : (s.drawNat m).2.cfg = s.cfg := rfl
@[simp] theorem State.drawNat_mp (m : Nat) : (s.drawNat m).2.mp = s.mp := rfl
@[simp] theorem State.drawNat_versions (m : Nat) : (s.drawNat m).2.versions = s.versions := rfl
@[simp] theorem State.drawNat_regs (m : Nat) : (s.drawNat m).2.regs = s.regs := rfl
@[simp] theorem State.drawNat_shadow (m : Nat) : (s.drawNat m).2.shadow = s.shadow := rfl
@[simp] theorem State.drawNat_latch (m : Nat) : (s.drawNat m).2.latch = s.latch := rfl
@[simp] theorem State.drawNat_cnts (m : Nat) : (s.drawNat m).2.cnts = s.cnts := rfl
@[simp] theorem State.drawNat_pairs (m : Nat) : (s.drawNat m).2.pairs = s.pairs := rfl
@[simp] theorem State.drawNat_jobs (m : Nat) : (s.drawNat m).2.jobs = s.jobs := rfl
@[simp] theorem State.drawNat_nextJob (m : Nat) : (s.drawNat m).2.nextJob = s.nextJob := rfl
@[simp] theorem State.drawNat_pcie (m : Nat) : (s.drawNat m).2.pcie = s.pcie := rfl
@[simp] theorem State.drawNat_ks (m : Nat) : (s.drawNat m).2.ks = s.ks := rfl
@[simp] theorem State.drawNat_rng (m : Nat) : (s.drawNat m).2.rng = s.rng := rfl
@[simp] theorem State.drawNat_fc (m : Nat) : (s.drawNat m).2.fc = s.fc := rfl
@[simp] theorem State.drawNat_al (m : Nat) : (s.drawNat m).2.al = s.al := rfl
@[simp] theorem State.drawNat_pw (m : Nat) : (s.drawNat m).2.pw = s.pw := rfl
@[simp] theorem State.drawNat_insts (m : Nat) : (s.drawNat m).2.insts = s.insts := rfl
@[simp] theorem State.drawNat_engines (m : Nat) : (s.drawNat m).2.engines = s.engines := rfl
@[simp] theorem State.drawNat_xs (m : Nat) : (s.drawNat m).2.xs = s.xs := rfl
@[simp] theorem State.drawNat_mc (m : Nat) : (s.drawNat m).2.mc = s.mc := rfl
@[simp] theorem State.drawNat_hbs (m : Nat) : (s.drawNat m).2.hbs = s.hbs := rfl
@[simp] theorem State.drawNat_parts (m : Nat) : (s.drawNat m).2.parts = s.parts := rfl
@[simp] theorem State.drawNat_digests (m : Nat) : (s.drawNat m).2.digests = s.digests := rfl
@[simp] theorem State.drawNat_tw (m : Nat) : (s.drawNat m).2.tw = s.tw := rfl
@[simp] theorem State.drawNat_n6 (m : Nat) : (s.drawNat m).2.n6 = s.n6 := rfl
@[simp] theorem State.drawNat_n6Old (m : Nat) : (s.drawNat m).2.n6Old = s.n6Old := rfl
@[simp] theorem State.drawNat_n6Copy (m : Nat) : (s.drawNat m).2.n6Copy = s.n6Copy := rfl
@[simp] theorem State.drawNat_mpSets (m : Nat) : (s.drawNat m).2.mpSets = s.mpSets := rfl
@[simp] theorem State.drawNat_tr (m : Nat) : (s.drawNat m).2.tr = s.tr := rfl
@[simp] theorem State.drawNat_lvus (m : Nat) : (s.drawNat m).2.lvus = s.lvus := rfl
@[simp] theorem State.drawNat_seqs (m : Nat) : (s.drawNat m).2.seqs = s.seqs := rfl
@[simp] theorem State.drawNat_selftests (m : Nat) : (s.drawNat m).2.selftests = s.selftests := rfl
@[simp] theorem State.drawNat_outbox (m : Nat) : (s.drawNat m).2.outbox = s.outbox := rfl
@[simp] theorem State.drawNat_pending (m : Nat) : (s.drawNat m).2.pending = s.pending := rfl

/-! ### What `onJob` and `endJob` leave -/

@[simp] theorem State.onJob_tb (j : Nat) (f : Job → Job) : (s.onJob j f).tb = s.tb := by
  unfold State.onJob; split <;> rfl
@[simp] theorem State.onJob_cfg (j : Nat) (f : Job → Job) : (s.onJob j f).cfg = s.cfg := by
  unfold State.onJob; split <;> rfl
@[simp] theorem State.onJob_mp (j : Nat) (f : Job → Job) : (s.onJob j f).mp = s.mp := by
  unfold State.onJob; split <;> rfl
@[simp] theorem State.onJob_versions (j : Nat) (f : Job → Job) : (s.onJob j f).versions = s.versions := by
  unfold State.onJob; split <;> rfl
@[simp] theorem State.onJob_regs (j : Nat) (f : Job → Job) : (s.onJob j f).regs = s.regs := by
  unfold State.onJob; split <;> rfl
@[simp] theorem State.onJob_shadow (j : Nat) (f : Job → Job) : (s.onJob j f).shadow = s.shadow := by
  unfold State.onJob; split <;> rfl
@[simp] theorem State.onJob_latch (j : Nat) (f : Job → Job) : (s.onJob j f).latch = s.latch := by
  unfold State.onJob; split <;> rfl
@[simp] theorem State.onJob_cnts (j : Nat) (f : Job → Job) : (s.onJob j f).cnts = s.cnts := by
  unfold State.onJob; split <;> rfl
@[simp] theorem State.onJob_pairs (j : Nat) (f : Job → Job) : (s.onJob j f).pairs = s.pairs := by
  unfold State.onJob; split <;> rfl
@[simp] theorem State.onJob_nextJob (j : Nat) (f : Job → Job) : (s.onJob j f).nextJob = s.nextJob := by
  unfold State.onJob; split <;> rfl
@[simp] theorem State.onJob_pcie (j : Nat) (f : Job → Job) : (s.onJob j f).pcie = s.pcie := by
  unfold State.onJob; split <;> rfl
@[simp] theorem State.onJob_ks (j : Nat) (f : Job → Job) : (s.onJob j f).ks = s.ks := by
  unfold State.onJob; split <;> rfl
@[simp] theorem State.onJob_rng (j : Nat) (f : Job → Job) : (s.onJob j f).rng = s.rng := by
  unfold State.onJob; split <;> rfl
@[simp] theorem State.onJob_fc (j : Nat) (f : Job → Job) : (s.onJob j f).fc = s.fc := by
  unfold State.onJob; split <;> rfl
@[simp] theorem State.onJob_al (j : Nat) (f : Job → Job) : (s.onJob j f).al = s.al := by
  unfold State.onJob; split <;> rfl
@[simp] theorem State.onJob_pw (j : Nat) (f : Job → Job) : (s.onJob j f).pw = s.pw := by
  unfold State.onJob; split <;> rfl
@[simp] theorem State.onJob_insts (j : Nat) (f : Job → Job) : (s.onJob j f).insts = s.insts := by
  unfold State.onJob; split <;> rfl
@[simp] theorem State.onJob_engines (j : Nat) (f : Job → Job) : (s.onJob j f).engines = s.engines := by
  unfold State.onJob; split <;> rfl
@[simp] theorem State.onJob_xs (j : Nat) (f : Job → Job) : (s.onJob j f).xs = s.xs := by
  unfold State.onJob; split <;> rfl
@[simp] theorem State.onJob_mc (j : Nat) (f : Job → Job) : (s.onJob j f).mc = s.mc := by
  unfold State.onJob; split <;> rfl
@[simp] theorem State.onJob_hbs (j : Nat) (f : Job → Job) : (s.onJob j f).hbs = s.hbs := by
  unfold State.onJob; split <;> rfl
@[simp] theorem State.onJob_parts (j : Nat) (f : Job → Job) : (s.onJob j f).parts = s.parts := by
  unfold State.onJob; split <;> rfl
@[simp] theorem State.onJob_digests (j : Nat) (f : Job → Job) : (s.onJob j f).digests = s.digests := by
  unfold State.onJob; split <;> rfl
@[simp] theorem State.onJob_tw (j : Nat) (f : Job → Job) : (s.onJob j f).tw = s.tw := by
  unfold State.onJob; split <;> rfl
@[simp] theorem State.onJob_n6 (j : Nat) (f : Job → Job) : (s.onJob j f).n6 = s.n6 := by
  unfold State.onJob; split <;> rfl
@[simp] theorem State.onJob_n6Old (j : Nat) (f : Job → Job) : (s.onJob j f).n6Old = s.n6Old := by
  unfold State.onJob; split <;> rfl
@[simp] theorem State.onJob_n6Copy (j : Nat) (f : Job → Job) : (s.onJob j f).n6Copy = s.n6Copy := by
  unfold State.onJob; split <;> rfl
@[simp] theorem State.onJob_mpSets (j : Nat) (f : Job → Job) : (s.onJob j f).mpSets = s.mpSets := by
  unfold State.onJob; split <;> rfl
@[simp] theorem State.onJob_tr (j : Nat) (f : Job → Job) : (s.onJob j f).tr = s.tr := by
  unfold State.onJob; split <;> rfl
@[simp] theorem State.onJob_lvus (j : Nat) (f : Job → Job) : (s.onJob j f).lvus = s.lvus := by
  unfold State.onJob; split <;> rfl
@[simp] theorem State.onJob_seqs (j : Nat) (f : Job → Job) : (s.onJob j f).seqs = s.seqs := by
  unfold State.onJob; split <;> rfl
@[simp] theorem State.onJob_selftests (j : Nat) (f : Job → Job) : (s.onJob j f).selftests = s.selftests := by
  unfold State.onJob; split <;> rfl
@[simp] theorem State.onJob_free (j : Nat) (f : Job → Job) : (s.onJob j f).free = s.free := by
  unfold State.onJob; split <;> rfl
@[simp] theorem State.onJob_outbox (j : Nat) (f : Job → Job) : (s.onJob j f).outbox = s.outbox := by
  unfold State.onJob; split <;> rfl
@[simp] theorem State.onJob_pending (j : Nat) (f : Job → Job) : (s.onJob j f).pending = s.pending := by
  unfold State.onJob; split <;> rfl
@[simp] theorem State.endJob_tb (j : Nat) (e : Ending) : (s.endJob j e).tb = s.tb := s.onJob_tb j _
@[simp] theorem State.endJob_cfg (j : Nat) (e : Ending) : (s.endJob j e).cfg = s.cfg := s.onJob_cfg j _
@[simp] theorem State.endJob_mp (j : Nat) (e : Ending) : (s.endJob j e).mp = s.mp := s.onJob_mp j _
@[simp] theorem State.endJob_versions (j : Nat) (e : Ending) : (s.endJob j e).versions = s.versions := s.onJob_versions j _
@[simp] theorem State.endJob_regs (j : Nat) (e : Ending) : (s.endJob j e).regs = s.regs := s.onJob_regs j _
@[simp] theorem State.endJob_shadow (j : Nat) (e : Ending) : (s.endJob j e).shadow = s.shadow := s.onJob_shadow j _
@[simp] theorem State.endJob_latch (j : Nat) (e : Ending) : (s.endJob j e).latch = s.latch := s.onJob_latch j _
@[simp] theorem State.endJob_cnts (j : Nat) (e : Ending) : (s.endJob j e).cnts = s.cnts := s.onJob_cnts j _
@[simp] theorem State.endJob_pairs (j : Nat) (e : Ending) : (s.endJob j e).pairs = s.pairs := s.onJob_pairs j _
@[simp] theorem State.endJob_nextJob (j : Nat) (e : Ending) : (s.endJob j e).nextJob = s.nextJob := s.onJob_nextJob j _
@[simp] theorem State.endJob_pcie (j : Nat) (e : Ending) : (s.endJob j e).pcie = s.pcie := s.onJob_pcie j _
@[simp] theorem State.endJob_ks (j : Nat) (e : Ending) : (s.endJob j e).ks = s.ks := s.onJob_ks j _
@[simp] theorem State.endJob_rng (j : Nat) (e : Ending) : (s.endJob j e).rng = s.rng := s.onJob_rng j _
@[simp] theorem State.endJob_fc (j : Nat) (e : Ending) : (s.endJob j e).fc = s.fc := s.onJob_fc j _
@[simp] theorem State.endJob_al (j : Nat) (e : Ending) : (s.endJob j e).al = s.al := s.onJob_al j _
@[simp] theorem State.endJob_pw (j : Nat) (e : Ending) : (s.endJob j e).pw = s.pw := s.onJob_pw j _
@[simp] theorem State.endJob_insts (j : Nat) (e : Ending) : (s.endJob j e).insts = s.insts := s.onJob_insts j _
@[simp] theorem State.endJob_engines (j : Nat) (e : Ending) : (s.endJob j e).engines = s.engines := s.onJob_engines j _
@[simp] theorem State.endJob_xs (j : Nat) (e : Ending) : (s.endJob j e).xs = s.xs := s.onJob_xs j _
@[simp] theorem State.endJob_mc (j : Nat) (e : Ending) : (s.endJob j e).mc = s.mc := s.onJob_mc j _
@[simp] theorem State.endJob_hbs (j : Nat) (e : Ending) : (s.endJob j e).hbs = s.hbs := s.onJob_hbs j _
@[simp] theorem State.endJob_parts (j : Nat) (e : Ending) : (s.endJob j e).parts = s.parts := s.onJob_parts j _
@[simp] theorem State.endJob_digests (j : Nat) (e : Ending) : (s.endJob j e).digests = s.digests := s.onJob_digests j _
@[simp] theorem State.endJob_tw (j : Nat) (e : Ending) : (s.endJob j e).tw = s.tw := s.onJob_tw j _
@[simp] theorem State.endJob_n6 (j : Nat) (e : Ending) : (s.endJob j e).n6 = s.n6 := s.onJob_n6 j _
@[simp] theorem State.endJob_n6Old (j : Nat) (e : Ending) : (s.endJob j e).n6Old = s.n6Old := s.onJob_n6Old j _
@[simp] theorem State.endJob_n6Copy (j : Nat) (e : Ending) : (s.endJob j e).n6Copy = s.n6Copy := s.onJob_n6Copy j _
@[simp] theorem State.endJob_mpSets (j : Nat) (e : Ending) : (s.endJob j e).mpSets = s.mpSets := s.onJob_mpSets j _
@[simp] theorem State.endJob_tr (j : Nat) (e : Ending) : (s.endJob j e).tr = s.tr := s.onJob_tr j _
@[simp] theorem State.endJob_lvus (j : Nat) (e : Ending) : (s.endJob j e).lvus = s.lvus := s.onJob_lvus j _
@[simp] theorem State.endJob_seqs (j : Nat) (e : Ending) : (s.endJob j e).seqs = s.seqs := s.onJob_seqs j _
@[simp] theorem State.endJob_selftests (j : Nat) (e : Ending) : (s.endJob j e).selftests = s.selftests := s.onJob_selftests j _
@[simp] theorem State.endJob_free (j : Nat) (e : Ending) : (s.endJob j e).free = s.free := s.onJob_free j _
@[simp] theorem State.endJob_outbox (j : Nat) (e : Ending) : (s.endJob j e).outbox = s.outbox := s.onJob_outbox j _
@[simp] theorem State.endJob_pending (j : Nat) (e : Ending) : (s.endJob j e).pending = s.pending := s.onJob_pending j _

/-! ### Reading after writing -/

@[simp] theorem State.job_setJob_same (j : Nat) (b : Job) : (s.setJob j b).job j = some b := tget_tset_same _ _ _
@[simp] theorem State.job_setJob_other {i j : Nat} (b : Job) (h : i ≠ j) : (s.setJob j b).job i = s.job i :=
  tget_tset_other _ _ h
@[simp] theorem State.job_dropJob_other {i j : Nat} (h : i ≠ j) : (s.dropJob j).job i = s.job i := tget_tdel_other _ h

/-- Changing a job leaves every other job. -/
@[simp] theorem State.job_onJob_other {i j : Nat} (f : Job → Job) (h : i ≠ j) : (s.onJob j f).job i = s.job i := by
  unfold State.onJob; split
  · exact s.job_setJob_other _ h
  · rfl

theorem State.job_onJob_same {j : Nat} {b : Job} (f : Job → Job) (h : s.job j = some b) :
    (s.onJob j f).job j = some (f b) := by
  unfold State.onJob; rw [h]; exact s.job_setJob_same _ _

/-- Ending a job leaves every other job. -/
@[simp] theorem State.job_endJob_other {i j : Nat} (e : Ending) (h : i ≠ j) : (s.endJob j e).job i = s.job i :=
  s.job_onJob_other _ h

/-- Ending a job fixes its outcome, and it waits for nothing but its completion. -/
theorem State.job_endJob_same {j : Nat} {b : Job} (e : Ending) (h : s.job j = some b) :
    (s.endJob j e).job j = some { b with ending := some e, phase := .ended, wait := .no } :=
  s.job_onJob_same _ h

@[simp] theorem State.reg_setReg_same (off v : Nat) : (s.setReg off v).reg off = v % 2 ^ 32 := by
  unfold State.reg State.setReg; rw [tgetD_tput_same]; exact BitVec.toNat_ofNat _ _
@[simp] theorem State.reg_setReg_other {a off : Nat} (v : Nat) (h : a ≠ off) : (s.setReg off v).reg a = s.reg a := by
  unfold State.reg State.setReg; rw [tgetD_tput_other _ _ _ _ h]
@[simp] theorem State.shadowReg_setShadow_same (off v : Nat) : (s.setShadow off v).shadowReg off = v % 2 ^ 32 := by
  unfold State.shadowReg State.setShadow; simp only [tget_tset_same]; exact BitVec.toNat_ofNat _ _
@[simp] theorem State.cnt_setCnt_same (off idx v : Nat) : (s.setCnt off idx v).cnt off idx = v % 2 ^ 32 :=
  tgetD_tput_same _ _ _ _
@[simp] theorem State.pair_setPair_same (q : Nat) (p : QPair) : (s.setPair q p).pair q = p := tgetD_tput_same _ _ _ _
@[simp] theorem State.pair_setPair_other {r q : Nat} (p : QPair) (h : r ≠ q) : (s.setPair q p).pair r = s.pair r :=
  tgetD_tput_other _ _ _ _ h
@[simp] theorem State.pair_onPair_same (q : Nat) (f : QPair → QPair) : (s.onPair q f).pair q = f (s.pair q) :=
  tgetD_tput_same _ _ _ _
@[simp] theorem State.pair_onPair_other {r q : Nat} (f : QPair → QPair) (h : r ≠ q) : (s.onPair q f).pair r = s.pair r :=
  tgetD_tput_other _ _ _ _ h
@[simp] theorem State.eng_setEng_same (k : Nat) (e : Engine) : (s.setEng k e).eng k = e := tgetD_tput_same _ _ _ _
@[simp] theorem State.inst_setInst_same (n : Nat) (x : Instance) : (s.setInst n x).inst n = x := tgetD_tput_same _ _ _ _
@[simp] theorem State.slot_setSlot_same (n : Nat) (x : Slot) : (s.setSlot n x).slot n = x := tgetD_tput_same _ _ _ _
@[simp] theorem State.slot_setSlot_other {m n : Nat} (x : Slot) (h : m ≠ n) : (s.setSlot n x).slot m = s.slot m :=
  tgetD_tput_other _ _ _ _ h
@[simp] theorem State.lvu_setLvu_same (pe : Nat) (l : Lvu) : (s.setLvu pe l).lvu pe = l := tgetD_tput_same _ _ _ _

end Sys2Proof.Machine
end

