-- ==== Sys2Proof/Laws/Jobs.lean ====
section
/-! SUPPORT. What running an opcode and ending its job do, said once: the lemmas that the statements about opcodes cite. -/

namespace Sys2Proof.Machine

/-- An opcode that runs on an engine ends its job with the outcome its meaning gives. -/
theorem runJob_ends {s : State} {j code : Nat} {b : Job} (f : State → Job → State × Ending) (h : runsOp s j b code) :
    runJob s j code f = .next ((f s b).1.endJob j (f s b).2) := by
  obtain ⟨h1, h2, h3, h4, h5⟩ := h
  unfold runJob; rw [h1]; exact if_pos ⟨h2, h3, h4, by rw [h5]; rfl⟩

/-- A management command runs its meaning. -/
theorem runMp_runs {s : State} {j code : Nat} {b : Job} (f : State → Job → State) (h : runsMp s j b code) :
    runMp s j code f = .next (f s b) := by
  obtain ⟨h1, h2, h3, h4, h5⟩ := h
  unfold runMp; rw [h1]; exact if_pos ⟨h2, h3, h4, by rw [h5]; rfl⟩

/-- A command that needs no engine runs its meaning. -/
theorem runDirect_runs {s : State} {j code : Nat} {b : Job} (f : State → Job → State) (h : runsDirect s j b code) :
    runDirect s j code f = .next (f s b) := by
  obtain ⟨h1, h2, h3, h4, h5⟩ := h
  unfold runDirect; rw [h1]; dsimp only; rw [if_pos ⟨h2, h3, h4⟩, if_neg (by rw [h5]; decide)]

theorem surfaceKept_refl (s : State) : surfaceKept s s := ⟨rfl, rfl, rfl, rfl, rfl, rfl, rfl, rfl, rfl⟩

/-- Ending a job fixes its outcome, whatever else stood. -/
theorem endedWith_endJob {s : State} {j : Nat} {b : Job} (e : Ending) (h : s.job j = some b) :
    endedWith (s.endJob j e) j e :=
  ⟨_, s.job_endJob_same e h, rfl, rfl, rfl⟩

theorem otherJobsKept_endJob (s : State) (j : Nat) (e : Ending) : otherJobsKept s (s.endJob j e) j :=
  fun _ h => s.job_endJob_other e h

/-- Two states with the same jobs know the same job under every number. -/
theorem job_of_jobs {s t : State} (h : t.jobs = s.jobs) (j : Nat) : t.job j = s.job j := by
  unfold State.job; rw [h]

/-- A meaning that leaves the jobs and the surface as they were ends its job quietly. -/
theorem endsQuietly_endJob {s t : State} {j : Nat} {b : Job} (e : Ending) (h : s.job j = some b) (hj : t.jobs = s.jobs)
    (hs : surfaceKept s t) : endsQuietly s (t.endJob j e) j e := by
  refine ⟨endedWith_endJob e (b := b) ?_, fun i hi => ?_, ?_⟩
  · rw [job_of_jobs hj]; exact h
  · rw [State.job_endJob_other _ _ hi, job_of_jobs hj]
  · simpa only [surfaceKept, State.endJob_regs, State.endJob_shadow, State.endJob_cfg, State.endJob_tb,
      State.endJob_pairs, State.endJob_ks, State.endJob_insts, State.endJob_outbox, State.endJob_pending] using hs

/-- The same for an opcode that runs on an engine. -/
theorem runJob_quiet {s : State} {j code : Nat} {b : Job} (f : State → Job → State × Ending) (h : runsOp s j b code)
    (hj : (f s b).1.jobs = s.jobs) (hs : surfaceKept s (f s b).1) :
    ∃ t, runJob s j code f = .next t ∧ endsQuietly s t j (f s b).2 :=
  ⟨_, runJob_ends f h, endsQuietly_endJob _ h.1 hj hs⟩

/-! ### Operations that change neither jobs nor surface -/

/-- Neither the jobs nor the surface changed. -/
def Unseen (s t : State) : Prop := t.jobs = s.jobs ∧ surfaceKept s t

theorem Unseen.refl (s : State) : Unseen s s := ⟨rfl, surfaceKept_refl s⟩

theorem Unseen.trans {s t u : State} (h : Unseen s t) (g : Unseen t u) : Unseen s u := by
  obtain ⟨h1, h2, h3, h4, h5, h6, h7, h8, h9, h10⟩ := h
  obtain ⟨g1, g2, g3, g4, g5, g6, g7, g8, g9, g10⟩ := g
  exact ⟨g1.trans h1, g2.trans h2, g3.trans h3, g4.trans h4, g5.trans h5, g6.trans h6, g7.trans h7, g8.trans h8,
    g9.trans h9, g10.trans h10⟩

theorem unseen_bumpBy (s : State) (off i n : Nat) : Unseen s (s.bumpBy off i n) := ⟨rfl, surfaceKept_refl s⟩
theorem unseen_bump (s : State) (off i : Nat) : Unseen s (s.bump off i) := ⟨rfl, surfaceKept_refl s⟩
theorem unseen_setCnt (s : State) (off i v : Nat) : Unseen s (s.setCnt off i v) := ⟨rfl, surfaceKept_refl s⟩
theorem unseen_setEng (s : State) (k : Nat) (e : Engine) : Unseen s (s.setEng k e) := ⟨rfl, surfaceKept_refl s⟩
theorem unseen_drawBytes (s : State) (n : Nat) : Unseen s (s.drawBytes n).2 := ⟨rfl, surfaceKept_refl s⟩
theorem unseen_drawNat (s : State) (n : Nat) : Unseen s (s.drawNat n).2 := ⟨rfl, surfaceKept_refl s⟩
theorem unseen_bump64 (s : State) (off i n : Nat) : Unseen s (s.bump64 off i n) := by
  unfold State.bump64; exact (unseen_setCnt _ _ _ _).trans (unseen_setCnt _ _ _ _)

theorem unseen_foldl {α : Type} (f : State → α → State) (hf : ∀ s a, Unseen s (f s a)) :
    ∀ (l : List α) (s : State), Unseen s (l.foldl f s)
  | [], s => Unseen.refl s
  | a :: l, s => (hf s a).trans (unseen_foldl f hf l _)

theorem unseen_ite {s a b : State} (c : Prop) [Decidable c] (ha : Unseen s a) (hb : Unseen s b) :
    Unseen s (if c then a else b) := by split <;> assumption

/-- Taking entries out of a key cache touches the engine and its operand memory only. -/
theorem unseen_dropEntries (s : State) (k : Nat) (gone : CacheEntry → Bool) : Unseen s (s.dropEntries k gone) := by
  unfold State.dropEntries
  dsimp only
  repeat' split
  all_goals exact ⟨rfl, surfaceKept_refl _⟩

/-- A sealed copy goes to partition P2 and nowhere else. -/
theorem unseen_writeSealed (s : State) (slot gen inst size : Nat) : Unseen s (s.writeSealed slot gen inst size) := by
  unfold State.writeSealed
  split
  · exact Unseen.refl s
  · split <;> exact ⟨rfl, surfaceKept_refl _⟩

/-- Placing an entry in a key cache touches the engine and its operand memory only. -/
theorem unseen_placeEntry (s : State) (k : Nat) (c : CacheEntry) : Unseen s (s.placeEntry k c) := by
  unfold State.placeEntry
  dsimp only
  split
  · exact Unseen.refl s
  · exact (unseen_dropEntries s k _).trans (unseen_setEng _ k _)

/-- Expanding a key for a PE touches caches, sealed copies and counters only. -/
theorem unseen_expandOn (s : State) (k h inst type pset : Nat) (look : Bool) :
    Unseen s (s.expandOn k h inst type pset look) := by
  unfold State.expandOn
  dsimp only
  split
  · exact Unseen.trans (by split <;> [exact unseen_bump _ _ _; exact Unseen.refl _]) (unseen_setEng _ _ _)
  · have h1 : Unseen s (if look = true then s.bump aPE_KC_MISS (k % 64) else s) := by
      split <;> [exact unseen_bump _ _ _; exact Unseen.refl _]
    refine h1.trans ?_
    generalize (if look = true then s.bump aPE_KC_MISS (k % 64) else s) = t
    have h2 : Unseen t (if t.cacheOn k = true then
        t.placeEntry k { slot := hSlot h, gen := hGen h, expanded := true, size := expandedSize type pset, inst := inst }
        else t) := by
      split <;> [exact unseen_placeEntry _ _ _; exact Unseen.refl _]
    refine h2.trans ?_
    generalize (if t.cacheOn k = true then
      t.placeEntry k { slot := hSlot h, gen := hGen h, expanded := true, size := expandedSize type pset, inst := inst }
      else t) = u
    split
    · exact unseen_writeSealed _ _ _ _ _
    · exact Unseen.refl _

theorem unseen_expandKey (s : State) (b : Job) (type pset : Nat) (look : Bool) :
    Unseen s (s.expandKey b type pset look) :=
  unseen_foldl _ (fun s k => unseen_expandOn s k _ _ _ _ _) _ _

theorem unseen_bnEnd (s : State) (cs : List (Bool × Nat)) (e : Ending) : Unseen s (bnEnd s cs e).1 := by
  unfold bnEnd; dsimp only; split <;> [exact unseen_bump _ _ _; exact Unseen.refl _]

theorem unseen_deBlocks (s : State) (b : Job) (i : AlgInfo) (n : Nat) : Unseen s (s.deBlocks b i n) :=
  unseen_bump64 _ _ _ _

/-- A meaning whose new state is unseen ends its job quietly. -/
theorem runJob_unseen {s : State} {j code : Nat} {b : Job} (f : State → Job → State × Ending) (h : runsOp s j b code)
    (hs : Unseen s (f s b).1) : ∃ t, runJob s j code f = .next t ∧ endsQuietly s t j (f s b).2 :=
  runJob_quiet f h hs.1 hs.2

end Sys2Proof.Machine
end

