-- ==== Sys2Proof/Laws/Keys.lean ====
section
/-! SUPPORT. What a key handle names, and when a need for a key is met: the lemmas that the statements about keys cite. -/

namespace Sys2Proof.Machine

/-- The fields of the handle of a slot are the slot's (R441). -/
theorem State.handleOf_fields (s : State) (n : Nat) (hn : n < 65536) (hg : (s.slot n).gen < 65536)
    (hi : (s.slot n).inst < 256) (ht : (s.slot n).type < 256) :
    hSlot (s.handleOf n) = n ∧ hGen (s.handleOf n) = (s.slot n).gen ∧ hInst (s.handleOf n) = (s.slot n).inst ∧
      hType (s.handleOf n) = (s.slot n).type ∧
      hCheck (s.handleOf n) = handleCheck s.ks.kchk n (s.slot n).gen (s.slot n).inst (s.slot n).type := by
  have hc : handleCheck s.ks.kchk n (s.slot n).gen (s.slot n).inst (s.slot n).type < 65536 := Nat.mod_lt _ (by decide)
  unfold State.handleOf hSlot hGen hInst hType hCheck
  dsimp only
  generalize handleCheck s.ks.kchk n (s.slot n).gen (s.slot n).inst (s.slot n).type = c at hc ⊢
  refine ⟨?_, ?_, ?_, ?_, ?_⟩ <;> omega

/-- The handle of a slot verifies (R441). -/
theorem State.checkOk_handleOf (s : State) (n : Nat) (hn : n < 65536) (hg : (s.slot n).gen < 65536)
    (hi : (s.slot n).inst < 256) (ht : (s.slot n).type < 256) : s.checkOk (s.handleOf n) = true := by
  obtain ⟨h1, h2, h3, h4, h5⟩ := s.handleOf_fields n hn hg hi ht
  unfold State.checkOk
  rw [h1, h2, h3, h4, h5]
  exact beq_self_eq_true _

/-- Slots of one generation, instance and type under one check key have one handle. -/
theorem State.handleOf_congr {s t : State} (n : Nat) (hk : s.ks.kchk = t.ks.kchk) (hg : (s.slot n).gen = (t.slot n).gen)
    (hi : (s.slot n).inst = (t.slot n).inst) (ht : (s.slot n).type = (t.slot n).type) : s.handleOf n = t.handleOf n := by
  unfold State.handleOf
  simp only [hk, hg, hi, ht]

/-- The need for a key of a slot, named by its handle, is refused by nothing when the slot is loaded for the instance
with a type, a policy and uses left that meet it, and no parent (R446). -/
theorem State.refusal_none (s : State) (inst n : Nat) (k : KeyNeed) (hk : k.handle = s.handleOf n) (hn : n < 65536)
    (hg : (s.slot n).gen < 65536) (hi : (s.slot n).inst = inst) (hi' : inst < 256) (ht : (s.slot n).type < 256)
    (hl : (s.slot n).state = .loaded) (hp : (s.slot n).parent = none) (hr : k.role = .key)
    (hty : k.types.contains (s.slot n).type = true) (hps : k.pset = none ∨ k.pset = some (s.slot n).pset)
    (hle : k.lens = [] ∨ k.lens.contains (s.slot n).val.length = true)
    (hpo : policyOk (s.slot n).policy k.policy = true) (hu : (s.slot n).uses = none) :
    s.refusal inst k = none := by
  obtain ⟨h1, h2, h3, h4, h5⟩ := s.handleOf_fields n hn hg (hi ▸ hi') ht
  have hc := s.checkOk_handleOf n hn hg (hi ▸ hi') ht
  unfold State.refusal
  rw [hk, h1, h2, h3, h4, hc]
  have hm : (s.slot n).type ∈ k.types := by simpa using hty
  rcases hle with hle | hle <;> rcases hps with hps | hps <;> simp_all [State.ancestorsOk]

end Sys2Proof.Machine
end

