-- ==== Sys2Proof/Laws/Lvu.lean ====
section
/-! SUPPORT. Reading a vector operand back after it was written: elements of a group of registers are the elements last
written there, the predicate choosing per element, and the registers outside the group stay. -/

namespace Sys2Proof.Machine

/-! ### Elements in a register -/

/-- A register's number as its elements make it. -/
theorem joinNat_digit (w : Nat) : ∀ (es : List Nat) (i : Nat),
    (es.foldr (fun e a => a <<< w ||| e % 2 ^ w) 0) >>> (i * w) % 2 ^ w = es.getD i 0 % 2 ^ w
  | [], i => by simp
  | e :: es, i => by
    have hlt : e % 2 ^ w < 2 ^ w := Nat.mod_lt _ (by positivity)
    rw [List.foldr_cons, ← Nat.shiftLeft_add_eq_or_of_lt hlt, Nat.shiftLeft_eq]
    cases i with
    | zero => simp
    | succ i =>
      rw [Nat.succ_mul, Nat.add_comm (i * w) w, Nat.shiftRight_add]
      have h0 : ∀ x, (x * 2 ^ w + e % 2 ^ w) >>> w = x := fun x => by
        rw [Nat.shiftRight_eq_div_pow, Nat.add_comm, Nat.add_mul_div_right _ _ (by positivity), Nat.div_eq_of_lt hlt,
          Nat.zero_add]
      rw [h0, joinNat_digit w es i]
      simp

theorem joinNat_lt (w : Nat) : ∀ es : List Nat,
    es.foldr (fun e a => a <<< w ||| e % 2 ^ w) 0 < 2 ^ (es.length * w)
  | [] => by simp
  | e :: es => by
    have hlt : e % 2 ^ w < 2 ^ w := Nat.mod_lt _ (by positivity)
    rw [List.foldr_cons, ← Nat.shiftLeft_add_eq_or_of_lt hlt, Nat.shiftLeft_eq, List.length_cons, Nat.succ_mul, Nat.pow_add]
    have := joinNat_lt w es
    calc _ < (es.foldr (fun e a => a <<< w ||| e % 2 ^ w) 0) * 2 ^ w + 2 ^ w := by omega
      _ = ((es.foldr (fun e a => a <<< w ||| e % 2 ^ w) 0) + 1) * 2 ^ w := by ring
      _ ≤ _ := Nat.mul_le_mul_right _ this

/-- The digit of a register at an element's place. -/
def regDigit (w : Nat) (v : BitVec 4096) (i : Nat) : Nat := v.toNat >>> (i * w) % 2 ^ w

theorem regDigit_joinReg (w : Nat) (es : List Nat) (i : Nat) (h : es.length * w ≤ 4096) :
    regDigit w (joinReg w es) i = es.getD i 0 % 2 ^ w := by
  unfold regDigit joinReg
  rw [BitVec.toNat_ofNat, Nat.mod_eq_of_lt ((joinNat_lt w es).trans_le (Nat.pow_le_pow_right (by norm_num) h)),
    joinNat_digit]

theorem lopPer_mul_lopW (o : LvuOp) : lopPer o * lopW o = 4096 := by
  unfold lopPer lopW; split <;> rfl

theorem lopPer_pos (o : LvuOp) : 0 < lopPer o := by unfold lopPer; split <;> norm_num

/-! ### Elements of an operand -/

theorem getD_flatten_uniform {α : Type} (d : α) (n : Nat) (hn : 0 < n) : ∀ (ls : List (List α)) (i : Nat),
    (∀ l ∈ ls, l.length = n) → i < ls.length * n → ls.flatten.getD i d = (ls.getD (i / n) []).getD (i % n) d
  | [], i, _, h => by simp at h
  | l :: ls, i, hl, h => by
    have h1 : l.length = n := hl l (by simp)
    rw [List.flatten_cons]
    by_cases hi : i < n
    · rw [Nat.div_eq_of_lt hi, Nat.mod_eq_of_lt hi, List.getD_append _ _ _ _ (by omega)]; rfl
    · obtain ⟨k, rfl⟩ : ∃ k, i = k + n := ⟨i - n, by omega⟩
      have hk : k < ls.length * n := by rw [List.length_cons, Nat.succ_mul] at h; omega
      rw [List.getD_append_right _ _ _ _ (by omega), h1, Nat.add_sub_cancel,
        getD_flatten_uniform d n hn ls k (fun l h => hl l (by simp [h])) hk, Nat.add_div_right _ hn, Nat.add_mod_right]
      rfl

/-- Element `i` of an operand lies in register `i / per`, at place `i % per`. -/
theorem lvuElem_eq (l : Lvu) (o : LvuOp) (r i : Nat) (h : i < lopN o) :
    lvuElem l o r i = regDigit (lopW o) (l.vreg (r + i / lopPer o)) (i % lopPer o) := by
  have hp := lopPer_pos o
  have hk : i / lopPer o < lopG o := Nat.div_lt_of_lt_mul (by unfold lopN at h; rwa [Nat.mul_comm] at h)
  have hm : i % lopPer o < lopPer o := Nat.mod_lt _ hp
  unfold lvuElem Lvu.elems
  rw [getD_flatten_uniform 0 (lopPer o) hp _ _ (by simp [splitReg]) (by simpa [lopN] using h)]
  simp [List.getD, hk, splitReg, hm, regDigit]

theorem Lvu.vreg_setV_same (l : Lvu) (r : Nat) (v : BitVec 4096) : (l.setV r v).vreg r = v := tgetD_tput_same _ _ _ _

theorem Lvu.vreg_setV_other (l : Lvu) {r k : Nat} (v : BitVec 4096) (h : k ≠ r) : (l.setV r v).vreg k = l.vreg k :=
  tgetD_tput_other _ _ _ _ h

theorem vreg_foldl_setV (f : Nat → BitVec 4096) (r : Nat) : ∀ (n : Nat) (l : Lvu) (k : Nat),
    ((List.range n).foldl (fun l k => l.setV (r + k) (f k)) l).vreg k =
      if r ≤ k ∧ k < r + n then f (k - r) else l.vreg k
  | 0, l, k => by simp
  | n + 1, l, k => by
    rw [List.range_succ, List.foldl_append, List.foldl_cons, List.foldl_nil]
    by_cases h : k = r + n
    · subst h; rw [Lvu.vreg_setV_same, if_pos (by omega)]; simp
    · rw [Lvu.vreg_setV_other _ _ h, vreg_foldl_setV f r n l k]
      by_cases h2 : r ≤ k ∧ k < r + n
      · rw [if_pos h2, if_pos (by omega)]
      · rw [if_neg h2, if_neg (by omega)]

/-- The registers of an operand written whole, and those outside it. -/
theorem Lvu.vreg_putElems (l : Lvu) (o : LvuOp) (r : Nat) (es : List Nat) (k : Nat) :
    (l.putElems o r es).vreg k = if r ≤ k ∧ k < r + lopG o then
      joinReg (lopW o) ((es.drop ((k - r) * lopPer o)).take (lopPer o)) else l.vreg k :=
  vreg_foldl_setV _ _ _ _ _

/-- An operand written whole reads back, element by element. -/
theorem lvuElem_putElems (l : Lvu) (o : LvuOp) (r i : Nat) (es : List Nat) (h : i < lopN o) :
    lvuElem (l.putElems o r es) o r i = es.getD i 0 % 2 ^ lopW o := by
  have hp := lopPer_pos o
  have hk : i / lopPer o < lopG o := Nat.div_lt_of_lt_mul (by unfold lopN at h; rwa [Nat.mul_comm] at h)
  have hm : i % lopPer o < lopPer o := Nat.mod_lt _ hp
  rw [lvuElem_eq _ _ _ _ h, Lvu.vreg_putElems, if_pos ⟨Nat.le_add_right _ _, Nat.add_lt_add_left hk r⟩, regDigit_joinReg]
  · congr 1
    rw [Nat.add_sub_cancel_left]
    simp [List.getD, hm, Nat.mul_comm (i / lopPer o), Nat.div_add_mod]
  · refine (Nat.mul_le_mul_right _ (List.length_take_le _ _)).trans_eq (lopPer_mul_lopW o)

theorem getD_mergeElems (p : Nat → Bool) : ∀ (ns os : List Nat) (k i : Nat), ns.length = os.length →
    (mergeElems p k ns os).getD i 0 = if p (k + i) then ns.getD i 0 else os.getD i 0
  | [], [], k, i, _ => by simp [mergeElems]
  | n :: ns, o :: os, k, i, h => by
    cases i with
    | zero => simp [mergeElems]
    | succ i =>
      have := getD_mergeElems p ns os (k + 1) i (by simpa using h)
      simp only [mergeElems, List.getD_cons_succ, this, Nat.add_assoc, Nat.add_comm 1 i]
  | [], _ :: _, _, _, h => by simp at h
  | _ :: _, [], _, _, h => by simp at h

theorem Lvu.elems_length (l : Lvu) (o : LvuOp) (r : Nat) : (l.elems o r).length = lopN o := by
  unfold Lvu.elems lopN
  rw [List.length_flatten, List.map_map]
  have : (List.length ∘ fun k => splitReg (lopW o) (lopPer o) (l.vreg (r + k))) = fun _ => lopPer o := by
    funext k; simp [splitReg]
  rw [this]; simp

theorem lvuElem_lt (l : Lvu) (o : LvuOp) (r i : Nat) (h : i < lopN o) : lvuElem l o r i < 2 ^ lopW o := by
  rw [lvuElem_eq _ _ _ _ h]; exact Nat.mod_lt _ (by positivity)

/-- An operand written under its predicate reads back, element by element (R360). -/
theorem lvuElem_write (l : Lvu) (o : LvuOp) (r i : Nat) (es : List Nat) (hl : es.length = lopN o) (h : i < lopN o) :
    lvuElem (l.write o r es) o r i = if l.governs o i then es.getD i 0 % 2 ^ lopW o else lvuElem l o r i := by
  unfold Lvu.write
  rw [lvuElem_putElems _ _ _ _ _ h, getD_mergeElems _ _ _ _ _ (by rw [hl, l.elems_length]), Nat.zero_add]
  split
  · rfl
  · exact Nat.mod_eq_of_lt (lvuElem_lt l o r i h)

theorem Lvu.vreg_write_other (l : Lvu) (o : LvuOp) (r k : Nat) (es : List Nat) (h : k < r ∨ r + lopG o ≤ k) :
    (l.write o r es).vreg k = l.vreg k := by
  unfold Lvu.write; rw [Lvu.vreg_putElems, if_neg (by omega)]

theorem foldl_setV_v (f : Nat → BitVec 4096) (r : Nat) : ∀ (ks : List Nat) (l : Lvu),
    ks.foldl (fun l k => l.setV (r + k) (f k)) l =
      { l with v := (ks.foldl (fun l k => l.setV (r + k) (f k)) l).v }
  | [], _ => rfl
  | k :: ks, l => by rw [List.foldl_cons, foldl_setV_v f r ks (l.setV (r + k) (f k))]; rfl

/-- Writing an operand changes vector registers only. -/
theorem Lvu.putElems_v (l : Lvu) (o : LvuOp) (r : Nat) (es : List Nat) :
    l.putElems o r es = { l with v := (l.putElems o r es).v } := foldl_setV_v _ _ _ _

theorem Lvu.write_v (l : Lvu) (o : LvuOp) (r : Nat) (es : List Nat) :
    l.write o r es = { l with v := (l.write o r es).v } := l.putElems_v _ _ _

/-! ### Issue -/

/-- An instruction that can be issued and meets no fault commits what it does, and nothing else changes (R366). -/
theorem State.issue_commits (s : State) (pe lop : Nat) (o : LvuOp) (regs : List Nat) (ok : Bool)
    (hr : s.lvuReady pe lop o regs ok = true) (hw : o.hw = []) (hf : (lvuDo lop [] o (s.lvu pe)).faults = []) :
    s.issue pe lop o regs ok = s.setLvu pe { (lvuDo lop [] o (s.lvu pe)).after with restart := none } := by
  unfold State.issue
  rw [if_pos hr]
  simp [State.lvuEnd, hf, hw, hwFaults, firstFault]

theorem onlyLvuChanged_setLvu (s : State) (pe : Nat) (l : Lvu) : onlyLvuChanged s (s.setLvu pe l) pe :=
  ⟨rfl, fun _ h => tgetD_tput_other _ _ _ _ h⟩

/-- A one-operand write, as the statements say it. -/
theorem lvuWrites_setLvu (s : State) (pe : Nat) (o : LvuOp) (r : Nat) (es : List Nat) (f : Nat → Nat)
    (hr : (s.lvu pe).restart = none) (hl : es.length = lopN o) (hf : ∀ i, i < lopN o → es.getD i 0 % 2 ^ lopW o = f i) :
    lvuWrites s (s.setLvu pe { (s.lvu pe).write o r es with restart := none }) pe o r f := by
  have hv : ((s.setLvu pe { (s.lvu pe).write o r es with restart := none }).lvu pe) = (s.lvu pe).write o r es := by
    rw [State.lvu_setLvu_same, (s.lvu pe).write_v o r es, ← hr]
  refine ⟨onlyLvuChanged_setLvu _ _ _, ?_, fun i hi => ?_, fun k hk => ?_⟩
  · rw [hv]; exact Lvu.write_v _ _ _ _
  · rw [hv, lvuElem_write _ _ _ _ _ hl hi, hf i hi]
  · rw [hv]; exact Lvu.vreg_write_other _ _ _ _ _ hk

theorem State.restart_of_ready {s : State} {pe lop : Nat} {o : LvuOp} {regs : List Nat} {ok : Bool}
    (h : s.lvuReady pe lop o regs ok = true) : (s.lvu pe).restart = none := by
  unfold State.lvuReady at h; simp at h; exact h.1.1.1.1.2

/-- An instruction that writes one operand and meets no fault completes, and writes that operand alone. -/
theorem issue_writes {s : State} {pe lop : Nat} {o : LvuOp} {regs : List Nat} {ok : Bool} {c : Instr} {r : Nat}
    {es : List Nat} {f : Nat → Nat} (hc : exec c s = .next (s.issue pe lop o regs ok))
    (hr : s.lvuReady pe lop o regs ok = true) (hw : o.hw = [])
    (hd : lvuDo lop [] o (s.lvu pe) = ⟨(s.lvu pe).write o r es, []⟩) (hl : es.length = lopN o)
    (hf : ∀ i, i < lopN o → es.getD i 0 % 2 ^ lopW o = f i) : answers c s fun t => lvuWrites s t pe o r f := by
  refine ⟨_, hc, ?_⟩
  rw [State.issue_commits _ _ _ _ _ _ hr hw (by rw [hd]), hd]
  exact lvuWrites_setLvu _ _ _ _ _ _ (State.restart_of_ready hr) hl hf

theorem getD_map_elems (l : Lvu) (o : LvuOp) (r i : Nat) (f : Nat → Nat) (h : i < lopN o) :
    ((l.elems o r).map f).getD i 0 = f (lvuElem l o r i) := by
  have hl : i < (l.elems o r).length := by rw [l.elems_length]; exact h
  simp [lvuElem, List.getD, hl]

theorem getD_zip_elems (l : Lvu) (o : LvuOp) (r q i : Nat) (f : Nat → Nat → Nat) (h : i < lopN o) :
    (List.zipWith f (l.elems o r) (l.elems o q)).getD i 0 = f (lvuElem l o r i) (lvuElem l o q i) := by
  have hl : i < (l.elems o r).length := by rw [l.elems_length]; exact h
  have hl2 : i < (l.elems o q).length := by rw [l.elems_length]; exact h
  simp [lvuElem, List.getD, hl, hl2]

/-! ### Results fit an element -/

theorem wrapTo_mod (w : Nat) (x : Int) : wrapTo w x % 2 ^ w = wrapTo w x := by
  apply Nat.mod_eq_of_lt
  have h0 : 0 ≤ x % 2 ^ w := Int.emod_nonneg _ (by positivity)
  unfold wrapTo
  zify
  rw [Int.toNat_of_nonneg h0]
  exact Int.emod_lt_of_pos _ (by positivity)

theorem satTo_mod (w : Nat) (x : Int) : satTo w x % 2 ^ w = satTo w x := wrapTo_mod _ _

theorem lvuOpen_mod (w lop : Nat) (xs : List Nat) : lvuOpen w lop xs % 2 ^ w = lvuOpen w lop xs := Nat.mod_mod _ _

end Sys2Proof.Machine
end

