-- ==== Sys2Proof/WellFormed.lean ====
section
/-!
DEFINITION. Which commands are well-formed: every operand lies in the range the spec gives it. A command outside its
range names nothing the module has; its meaning then changes nothing, or acts on a part that does not exist.
-/

namespace Sys2Proof

/-- The engines of a class (R6). -/
def EngClass.size : EngClass → Nat
  | .pe => 16 | .me => 8 | .ce => 2 | .bne => 8 | .hse => 8 | .de => 12 | .sse => 40

/-- The causes and elements of read errors: an uncorrectable read or a parity error (R366). -/
def hwWf (hw : List (Nat × Nat)) : Bool := hw.all fun e => e.1 == 1 || e.1 == 3

/-- Every field of an LVU instruction fits its bits (R360, R370, R373). -/
def LvuOp.wf (o : LvuOp) : Bool :=
  decide (o.vd < 32 ∧ o.va < 32 ∧ o.vb < 32 ∧ o.pred < 8 ∧ o.grp < 4 ∧ o.rnd < 4 ∧ o.aux < 4 ∧ o.imm < 32768)
    && decide (o.portA < 2 ^ 32 ∧ o.portB < 2 ^ 32) && hwWf o.hw

/-- A frame names a lane of the module, a VLAN and a payload no longer than what was received (R498, R502). -/
def Frame.wf (f : Frame) : Bool :=
  decide (f.lane < 512 ∧ f.vid < 4096 ∧ f.appid < 65536 ∧ f.smpCnt < 65536 ∧ f.keyId < 2 ^ 32)

/-- Every field of a heartbeat fits its bytes and takes a value R566 gives it. -/
def Heartbeat.wf (h : Heartbeat) : Bool :=
  decide (h.role < 3 ∧ h.state < 256 ∧ h.parity < 3 ∧ h.mseqAcked < 2 ^ 32 ∧ h.updCounter < 2 ^ 64)

/-- The module identities and nonces of a handshake have 32 bytes (R567). -/
def HandshakeMsg.wf : HandshakeMsg → Bool
  | .hello _ _ _ role _ mid nonce _ => decide (role < 3 ∧ mid.length = 32 ∧ nonce.length = 32)
  | .proof _ => true
  | .keyx _ => true

/-- Every field of a fault message fits its bits (R589). -/
def FaultMsg.wf (m : FaultMsg) : Bool :=
  decide (m.source < 2 ^ 12 ∧ m.access < 16 ∧ m.kind < 256 ∧ m.master < 16 ∧ m.address < 2 ^ 48)

/-- The checks on a command's operands. -/
def Instr.wf : Instr → Bool
  | .vnop pe o => decide (pe < 16) && o.wf
  | .vld pe o => decide (pe < 16) && o.wf
  | .vst pe o => decide (pe < 16) && o.wf
  | .vgather pe o => decide (pe < 16) && o.wf
  | .vscatter pe o => decide (pe < 16) && o.wf
  | .vmov pe o => decide (pe < 16) && o.wf
  | .vbcast pe o => decide (pe < 16) && o.wf
  | .vrand pe o => decide (pe < 16) && o.wf
  | .vsetq pe o => decide (pe < 16) && o.wf
  | .vmadd pe o => decide (pe < 16) && o.wf
  | .vmsub pe o => decide (pe < 16) && o.wf
  | .vmmul pe o => decide (pe < 16) && o.wf
  | .vreduce pe o => decide (pe < 16) && o.wf
  | .vadd pe o => decide (pe < 16) && o.wf
  | .vsub pe o => decide (pe < 16) && o.wf
  | .vsadd pe o => decide (pe < 16) && o.wf
  | .vssub pe o => decide (pe < 16) && o.wf
  | .vmulhr pe o => decide (pe < 16) && o.wf
  | .vshrr pe o => decide (pe < 16) && o.wf
  | .vshl pe o => decide (pe < 16) && o.wf
  | .vand pe o => decide (pe < 16) && o.wf
  | .vor pe o => decide (pe < 16) && o.wf
  | .vxor pe o => decide (pe < 16) && o.wf
  | .vcompress pe o => decide (pe < 16) && o.wf
  | .vdecompress pe o => decide (pe < 16) && o.wf
  | .vp2r pe o => decide (pe < 16) && o.wf
  | .vdecompose pe o => decide (pe < 16) && o.wf
  | .vhighbits pe o => decide (pe < 16) && o.wf
  | .vcmp pe o => decide (pe < 16) && o.wf
  | .vsel pe o => decide (pe < 16) && o.wf
  | .vany pe o => decide (pe < 16) && o.wf
  | .vperm pe o => decide (pe < 16) && o.wf
  | .vdeint pe o => decide (pe < 16) && o.wf
  | .uwNext cls eng nptr imm => decide (eng < cls.size) && decide (nptr < 16384) && decide (imm < 32768)
  | .uwJump cls eng nptr imm => decide (eng < cls.size) && decide (nptr < 16384) && decide (imm < 32768)
  | .uwBranch cls eng nptr imm => decide (eng < cls.size) && decide (nptr < 16384) && decide (imm < 32768)
  | .uwLoop cls eng nptr imm => decide (eng < cls.size) && decide (nptr < 16384) && decide (imm < 32768)
  | .uwCall cls eng nptr imm => decide (eng < cls.size) && decide (nptr < 16384) && decide (imm < 32768)
  | .uwReturn cls eng nptr imm => decide (eng < cls.size) && decide (nptr < 16384) && decide (imm < 32768)
  | .uwYield cls eng nptr imm => decide (eng < cls.size) && decide (nptr < 16384) && decide (imm < 32768)
  | .uwEnd cls eng nptr imm => decide (eng < cls.size) && decide (nptr < 16384) && decide (imm < 32768)
  | .lvuRestart pe hw => decide (pe < 16) && hwWf hw
  | .sequencerGuardExpiry cls eng => decide (eng < cls.size)
  | .mcodeParity cls eng _ => decide (eng < cls.size)
  | .segmentReloadDone k _ => decide (k < 8)
  | .microcodeDrainEnd k _ => decide (k < 8)
  | .startupMicrocodeLoad k => decide (k < 8)
  | .shadowWrite off _ => decide (off % 4 = 0)
  | .registerWrite fn off _ => decide (fn ≤ 128) && decide (off % 4 = 0)
  | .latchingReadLo fn off => decide (fn ≤ 128) && decide (off % 4 = 0)
  | .dbSqTail fn _ _ => decide (fn ≤ 128)
  | .dbCqHead fn _ _ => decide (fn ≤ 128)
  | .tenantEnableRequest fn _ _ => decide (fn ≤ 128)
  | .tenantDisableRequest fn _ _ => decide (fn ≤ 128)
  | .tenantInterruptChange fn _ _ _ => decide (fn ≤ 128)
  | .rngData fn => decide (fn ≤ 128)
  | .entryFetch q entry _ _ => decide (q < 2048) && decide (32 ≤ entry.length)
  | .sqReadFailed q => decide (q < 2048)
  | .phasePoll q unit => decide (q < 2048) && decide (unit.length = 32)
  | .jobGrant cls eng => decide (eng < cls.size)
  | .moderationDue q => decide (q < 2048)
  | .d0Return fn => decide (fn ≤ 128)
  | .functionLevelReset n => decide (n ≤ 128)
  | .vfDisable _ numVfs => decide (numVfs ≤ 128)
  | .instanceQuiesced n => decide (n ≤ 128)
  | .quiesceWaitExpiry n => decide (n ≤ 128)
  | .instanceResetDone n => decide (n ≤ 128)
  | .preemptionPoint cls eng => decide (eng < cls.size)
  | .quantumExpiry cls eng => decide (eng < cls.size)
  | .mpWatchdogExpiry pair _ => decide (pair < 2)
  | .mpLockstep pair => decide (pair < 2)
  | .mgmtSessionOpen client _ _ _ _ => decide (client.port < 2)
  | .mgmtPacket port _ _ => decide (port < 2)
  | .mgmtSessionIdle port _ => decide (port < 2)
  | .mgmtSessionClose port _ => decide (port < 3)
  | .blockReserve node => decide (node < 4096)
  | .journalReadback node _ => decide (node < 4096)
  | .treeRebuildDone node => decide (node < 4096)
  | .nextTreeBuilt tree => decide (tree.node < 4096 ∧ 1 ≤ tree.level ∧ tree.level < 8)
  | .noiseSourceFail src test => decide (src < 4) && decide (1 ≤ test ∧ test ≤ 3)
  | .startupTestPass src => decide (src < 4)
  | .autoRetest src => decide (src < 4)
  | .drbgReseed d => decide (d < 9)
  | .expanderSeed cls eng => decide (eng < cls.size)
  | .rngBufferRefill fn => decide (fn ≤ 128)
  | .streamFrame f => f.wf
  | .mgmtLaneFrame vid _ => decide (vid < 4096)
  | .fifoPointerMismatch fifo => decide (fifo < 88)
  | .laneLinkChange lane _ => decide (lane < 512)
  | .cageOvercurrent cage => decide (cage < 64)
  | .cageModulePresent m => decide (m.cage < 64)
  | .heartbeatReceive _ _ mseq _ hb => decide (mseq < 2 ^ 32) && hb.wf
  | .pairingHandshake m => m.wf
  | .mirrorRecord mseq kind _ => decide (mseq < 2 ^ 32) && decide (kind < 256)
  | .mirrorAck mseq status => decide (mseq < 2 ^ 32) && decide (status < 65536)
  | .faultMessage m _ => m.wf
  | .alarm input _ => decide (input < 11)
  | .feedLost feed => decide (feed < 2)
  | .fanChange fan _ => decide (fan < 6)
  | .domainPowerOn d => decide (d < 24)
  | .domainPowerOff d => decide (d < 24)
  | .supercapReady charge => decide (charge ≤ 100)
  | .d3hotEntry fn => decide (fn ≤ 128)
  | .vfEnable numVfs => decide (numVfs ≤ 128)
  | .noiseSourceSettled src => decide (src < 4)
  | .cageModuleUnplugged cage => decide (cage < 64)
  | .feedRestored feed => decide (feed < 2)
  | .alarmInputClear input => decide (input < 11)
  | .scratchZeroingDone n => decide (n ≤ 128)
  | .hello _ | .caps _ | .readyQuery _ | .fwStatus _ | .manifestLoad _ | .manifestActivate _ | .manifestQuery _
  | .keyDerive _ | .keyInstantiate _ | .keyReserve _ | .keyInvalidate _ | .keyRelease _ | .keyInfo _
  | .keyUpdateApply _ | .challengeRespond _ | .keyImportWrapped _ | .keyGenerate _ | .keyAttest _
  | .keyExportPublic _ | .mlkemKeygen _ | .mlkemEncaps _ | .mlkemDecaps _ | .mldsaKeygen _ | .mldsaSign _ _
  | .mldsaVerify _ _ | .fndsaVerify _ _ | .hybridKemEncaps _ | .hybridKemDecaps _ | .compositeSign _ _
  | .compositeVerify _ _ | .slhdsaKeygen _ | .slhdsaSign _ _ | .slhdsaVerify _ _ | .lmsKeygen _ | .lmsSign _ _
  | .lmsVerify _ _ | .xmssKeygen _ | .xmssSign _ _ | .xmssVerify _ _ | .hbsReserveStatus _ | .mceKeygen _
  | .mceEncaps _ | .mceDecaps _ | .hqcKeygen _ | .hqcEncaps _ | .hqcDecaps _ | .bnModexp _ | .bnModmul _
  | .bnModinv _ | .rsaKeygen _ | .rsaPrivate _ | .rsaPublic _ | .ecKeygen _ | .ecdsaSign _ _ | .ecdsaVerify _ _
  | .ecdh _ | .x25519 _ | .x448 _ | .eddsaSign _ _ | .eddsaVerify _ _ | .aesGcmEnc _ _ | .aesGcmDec _ _
  | .aesCtr _ _ | .aesCbcEnc _ _ | .aesCbcDec _ _ | .aesXtsEnc _ _ | .aesXtsDec _ _ | .aesCmac _ _
  | .aesGmac _ _ | .digestUpdate _ _ | .digestRelease _ | .digestFinal _ _ | .macVerify _ _ | .digestSave _
  | .digestRestore _ | .digestOneshot _ _ | .rngGet _ | .rngStatus _ | .streamCreate _ | .streamModify _
  | .streamDelete _ | .streamStats _ | .portConfig _ | .macsecSaInstall _ | .eventSignPolicy _
  | .instanceCreate _ | .instanceShareSet _ | .instanceQuiesce _ | .instanceResume _ | .instanceReset _
  | .instanceRemove _ | .pairEstablish _ | .pairDissolve _ | .castle _ | .pairStatus _ | .faultLogRead _
  | .faultClear _ | .selftest _ | .microcodeLoad _ | .cfgCommit _ | .cfgCancel _ | .cfgRevert _ | .xsTimeSet _
  | .peKcFlush _ | .mpSlowqHwmClr _ | .mpMgmtEn _ | .rngRetest _ | .ptFifoFlush _ | .fcFecValid _
  | .mcLvuFlt0Release _ | .fcRelease _ | .pwrReset _ | .fenceRelease _ | .mpCommandStart | .jobComplete _ _ _ _
  | .deadlineMissed _ | .rngWaitExpiry _ | .reserveWaitExpiry _ | .linkL0Reached | .pcieReset
  | .crossingBoundary | .pathLossCheck | .boundaryGuard _ | .rateChange | .berthLeadIn _ | .berthStart _
  | .berthEnd _ | .ownerArrivalLent _ _ | .forkRoundVerdict _ | .manifestRestore | .timeSourceQualified _ _ _
  | .timeSourceLost _ | .slewLock _ | .holdoverLimit | .ptpMessage _ _ | .pcieLinkUp | .ppsPulse _ | .irigbFrame _ _
  | .mpRestartDone | .mpRestartTimeout | .consoleFrame _ | .invalidationScanEnd | .journalStartupScan
  | .mceRegenerationDone _ | .rsaRegenerationDone _ | .conditionerBlock | .rngFailed | .rngReady
  | .frameEgress _ | .signedEventRelease _ | .lateLimitExpiry _ | .pairingFrame _ _ | .slotRecordTimeout _
  | .promotion | .castleCommit | .castleTakeback | .joinWaitExpiry | .pairWaitExpiry | .engineReturn _
  | .xsGrantRecompute _ | .logRingDrain | .quietPeriodEnd | .feedReturn | .tempHigh _ | .scrubPass _
  | .powerOnReset | .firmwareVerify _ _ | .configRestore | .ddrTrainingDone | .pufReconstruction _
  | .nvStartupScan | .aspmL1Entry _ | .pcieLinkDown | .ref10mSignalChange _ | .railsFall
  | .supercapExhausted | .fatalConditionClear _ => true

end Sys2Proof
end

