-- ==== Sys2Proof/Tests/Slice0.lean ====
section
/-!
SUPPORT. The model's own tests. A theorem test_wf_… gives an ill-formed command for a check of WellFormed.lean and that
the check refuses it; test_witness_<Name> gives, for each clause of the statement Obligations.<Name> with hypotheses,
a concrete state and operands that meet them together; the others run one step on a small state, with a result taken
from the rule of the spec named in their comment.
-/

set_option maxRecDepth 8000
set_option Elab.async false
set_option linter.style.nativeDecide false

namespace Sys2Proof.Tests

open Sys2Proof.Machine

/-! ### Small states -/

/-- A job that runs an opcode with given parameters and handle, from a client that has no pair. -/
def tJob (code : Nat) (ps : List Tlv := []) (handle : Nat := 0) : Job :=
  { src := .session 0 0, inst := 0, opcode := code, tag := 0, major := 2, minor := 2, flags := 0, handle := handle,
    deadline := 0, params := ps, paramLen := 0, resultCap := 65536, resultAddr := 0, dataLen := 0, frags := [],
    order := 0, seqInQueue := 0, phase := .running }

/-- A command that needs no engine and waits in its FIFO. -/
def tDirect (code : Nat) (ps : List Tlv := []) (handle : Nat := 0) : Job :=
  { tJob code ps handle with phase := .fifo }

/-- The reset state with every power domain on. -/
def tOn : State :=
  { State.reset with pw := { State.reset.pw with rails := true, domains := (List.range 24).map fun d => (d, .on) } }

/-- The powered state with one job, numbered 0. -/
def tRun (b : Job) : State := { tOn with jobs := [(0, b)], nextJob := 1 }

/-- Any job is a running one of its opcode, in the state that holds only it. -/
theorem test_tRun_runsOp (code : Nat) (ps : List Tlv) (h : Nat) : runsOp (tRun (tJob code ps h)) 0 (tJob code ps h) code :=
  ⟨rfl, rfl, rfl, rfl, rfl⟩

theorem test_tRun_runsMp (code : Nat) (ps : List Tlv) (h : Nat) : runsMp (tRun (tJob code ps h)) 0 (tJob code ps h) code :=
  ⟨rfl, rfl, rfl, Or.inl rfl, rfl⟩

theorem test_tRun_runsDirect (code : Nat) (ps : List Tlv) (h : Nat) :
    runsDirect (tRun (tDirect code ps h)) 0 (tDirect code ps h) code :=
  ⟨rfl, rfl, rfl, rfl, rfl⟩

/-! ### The queue of commands, and whole-machine statements -/

/-- A waiting command, and a vector unit whose memory holds one byte. -/
def tQueued : State := { State.reset with pending := [.feedReturn], lvus := [(0, { mem := [(5, 1)] })] }

theorem test_witness_QueueAndOutboxDiscipline : ∃ t, step tQueued = .next t := ⟨_, rfl⟩

theorem test_witness_EveryStepKeepsMemoriesCanonical : memoriesCanonical tQueued ∧ ∃ t, step tQueued = .next t :=
  ⟨by intro e h; simp only [tQueued, List.mem_singleton] at h; subst h; exact ⟨rfl, by decide⟩, _, rfl⟩

theorem test_witness_RollbackProtection : ∃ t, step { tQueued with ks := { updCounter := 7 } } = .next t := ⟨_, rfl⟩

/-- A step takes the command in front and leaves the others waiting (log entry 3). -/
theorem test_step_takes_front : (match step { State.reset with pending := [.scrubPass true, .feedReturn] } with
    | .next t => t.pending == [.feedReturn] && t.cnt aFC_SCRUB_DDR 0 == 1
    | _ => false) = true := by decide +kernel

theorem test_step_idles : step State.reset = .next State.reset := rfl

/-! ### Registers, staging and guards -/

/-- A module whose first virtual function is enabled, in an instance that is active. -/
def tVirtual : State := { tOn with pcie := { numVfs := 1, vfEnable := true }, insts := [(1, { state := .active })] }

theorem test_witness_RegistersAndStaging :
    (groupOf aTW_CTL = some 9 ∧ tOn.blockOn aTW_CTL = true ∧ queueOfOff aTW_CTL = none ∧
      ({ tOn with cfg := { tOn.cfg with pending := 0x200 } } : State).cfg.pending.getLsbD 9 = true ∧
      tOn.cfg.pending.getLsbD 9 = false ∧ mpGroups.getLsbD 9 = true) ∧
    (groupOf aXS_RATE = some 0 ∧ tOn.blockOn aXS_RATE = true ∧ queueOfOff aXS_RATE = none ∧
      tOn.cfg.pending.getLsbD 0 = false ∧ mpGroups.getLsbD 0 = false ∧
      aXS_RATE % 0x10000 < 0x8000 ∧ groupOf (aXS_RATE + 0x8000) = none) ∧
    (aSE_SEL < 0x200000 ∧ tOn.blockOn aSE_SEL = true ∧ shadowTarget aSE_SEL = none ∧ queueOfOff aSE_SEL = none ∧
      ownRow aSE_SEL = none ∧ (rowAt aSE_SEL).any (fun w => w.kind == .rw) = true ∧ aSE_SEL ≠ aRNG_STATUS ∧
      aSE_SEL ≠ aCE_P3_QUOTA) ∧
    (rowAt 0x7FFC = none ∧ tOn.blockOn 0x7FFC = true ∧ shadowTarget 0x7FFC = none ∧ queueOfOff 0x7FFC = none ∧
      ownRow 0x7FFC = none) ∧
    State.reset.blockOn aXS_RATE = false ∧ State.reset.vfOn 1 = false ∧
    (∀ a ∈ [aCFG_COMMIT, aCFG_CANCEL, aCFG_REVERT, aXS_TIME_SET_HI, aPE_KC_FLUSH, aMP_MGMT_EN, aPT_FIFO_FLUSH, aFC_RELEASE,
      aPWR_RESET], tOn.blockOn a = true) ∧
    tOn.tb.state = .free ∧ ({ tOn.tb with state := .locked } : Timebase).state ≠ .free ∧
    (∀ e ∈ highWords, tOn.blockOn e.1 = true ∧ ∀ h ∈ e.2, tOn.blockOn h.1 = true) ∧
    (tOn.mpSets = [] ∧ tOn.pw.restoring = 0) ∧
    (let o := qReg 3 aQ_SQ_BASE_LO
     groupOf o = some 4 ∧ tOn.blockOn o = true ∧ mpGroups.getLsbD 4 = false ∧ queueOfOff o = some (3, aQ_SQ_BASE_LO) ∧
      aQ_SQ_BASE_LO ∈ wideRegs ∧ aQ_SQ_BASE_LO + 4 ∉ wideRegs ∧ queueOfOff (o + 4) = some (3, aQ_SQ_BASE_LO + 4) ∧
      tget ({ tOn with pairs := [(3, { lowHeld := [(aQ_SQ_BASE_LO, 5)] })] } : State).pairs[0].2.lowHeld aQ_SQ_BASE_LO = some 5 ∧
      wideLow 0 o = true ∧ tOn.blockOn (o + 4) = true) ∧
    (wideLow 1 (0x4000 + dbOffset aQ_SQ_BASE_LO) = true ∧ tVirtual.vfOn 1 = true) := by
  refine ⟨?_, ?_, ?_, ?_, ?_, ?_, ?_, ?_, ?_, ?_, ?_, ?_, ?_⟩ <;> decide +kernel

/-- In the guard before crossing 0, with a pending rate. -/
def tGuard : State := { tOn with tb := { tOn.tb with inGuard := true, stamp := ⟨0, 4799⟩, pendingRate := some 4000 } }

/-- The powered state with a set of pending groups. -/
def tPending (set : BitVec 16) : State := { tOn with cfg := { tOn.cfg with pending := set } }

theorem test_witness_GuardsAndBoundaries :
    (tGuard.tb.inGuard = true ∧ tGuard.tb.pendingRate.isSome = true ∧ tGuard.nextStamp.idx = 0 ∧
      Tab.rising ({ tGuard with cfg := { taken := [(aXS_QUANTUM, 5)] } } : State).cfg.taken = true ∧
      tget [(aXS_QUANTUM, (5 : Reg))] aXS_QUANTUM = some 5 ∧ aXS_QUANTUM ≠ aXS_RATE) ∧
    ({ tGuard with tb := { tGuard.tb with pendingRate := none } } : State).tb.pendingRate.isSome = false ∧
    (tOn.tb.inGuard = false ∧ tOn.guardJobs = [] ∧ tOn.cfg.pending = 0) ∧
    ((tPending 1).tb.inGuard = false ∧ (tPending 1).guardJobs = [] ∧ (tPending 1).cfg.pending ≠ 0 ∧
      (tPending 1).fc.mstate = .service) := by
  refine ⟨?_, ?_, ?_, ?_⟩ <;> decide +kernel

/-- A quantum from 1,000 to 64,000 is applied at the guard and holds from the boundary (R103, R104). -/
theorem test_guard_applies : (let s := { tPending 2 with shadow := [(aXS_QUANTUM, 2000)] }
    match exec (.boundaryGuard true) s with
    | .next t => t.cfg.pending == 0 && t.cfg.seq == 1 && t.cfg.refused == 0 && tget t.cfg.taken aXS_QUANTUM == some 2000 &&
        t.reg aXS_QUANTUM != 2000
    | _ => false) = true := by decide +kernel

/-- A rate below 1,000 refuses the whole set (R58, R104). -/
theorem test_guard_refuses : (let s := { tPending 1 with shadow := [(aXS_RATE, 999)] }
    match exec (.boundaryGuard true) s with
    | .next t => t.cfg.pending == 0 && t.cfg.seq == 0 && t.cfg.refused == 1 && t.cfg.taken == []
    | _ => false) = true := by decide +kernel

/-! ### Opcodes -/

theorem test_witness_opcodes : ∀ c ∈ [opHELLO, opCAPS, opREADY_QUERY, opFW_STATUS, opMANIFEST_QUERY, opMLKEM_KEYGEN,
    opMLKEM_ENCAPS, opMLKEM_DECAPS, opHYBRID_KEM_ENCAPS, opHYBRID_KEM_DECAPS, opMLDSA_KEYGEN, opMLDSA_VERIFY,
    opFNDSA_VERIFY, opCOMPOSITE_VERIFY, opSLHDSA_KEYGEN, opSLHDSA_SIGN, opSLHDSA_VERIFY, opLMS_KEYGEN, opXMSS_KEYGEN,
    opLMS_SIGN, opXMSS_SIGN, opLMS_VERIFY, opXMSS_VERIFY, opHBS_RESERVE_STATUS, opMCE_KEYGEN, opMCE_DECAPS, opHQC_KEYGEN,
    opHQC_ENCAPS, opHQC_DECAPS, opBN_MODEXP, opBN_MODMUL, opBN_MODINV, opRSA_KEYGEN, opRSA_PRIVATE, opEC_KEYGEN,
    opECDSA_SIGN, opECDSA_VERIFY, opECDH, opX25519, opX448, opEDDSA_SIGN, opEDDSA_VERIFY, opAES_GCM_ENC, opAES_GCM_DEC,
    opAES_CTR, opAES_CBC_ENC, opAES_CBC_DEC, opAES_XTS_ENC, opAES_XTS_DEC, opAES_CMAC, opAES_GMAC, opDIGEST_FINAL,
    opMAC_VERIFY, opDIGEST_SAVE, opDIGEST_RESTORE, opDIGEST_ONESHOT],
    runsOp (tRun (tJob c)) 0 (tJob c) c := fun c _ => test_tRun_runsOp c [] 0

theorem test_witness_KemOperations : runsOp (tRun (tJob opMLKEM_ENCAPS)) 0 (tJob opMLKEM_ENCAPS) opMLKEM_ENCAPS ∧
    runsOp (tRun (tJob opHYBRID_KEM_DECAPS)) 0 (tJob opHYBRID_KEM_DECAPS) opHYBRID_KEM_DECAPS :=
  ⟨test_tRun_runsOp _ _ _, test_tRun_runsOp _ _ _⟩

/-- An encapsulation key whose coefficients are all 0 passes the check of R223, and one of all ones does not. -/
theorem test_ekOk : ekOk (zeros 800) = true ∧ ekOk (List.replicate 800 0xFF) = false := by decide +kernel

/-- A manifest of no berths that waits to be loaded. -/
def tManifest : Manifest := { id := 7, rate := 4800, digest := [], berths := [], image := [1] }

def tRestore : State :=
  { tOn with pw := { tOn.pw with ready := 0x200002, restored := true }, n6 := { manifest := some tManifest } }

theorem test_witness_SessionAndManifestOperations :
    (runsOp (tRun (tJob opHELLO [⟨0x0010, [2, 0, 2, 2]⟩])) 0 (tJob opHELLO [⟨0x0010, [2, 0, 2, 2]⟩]) opHELLO ∧
      chooseVersion (2, 0) (2, 2) = some (2, 2) ∧ chooseVersion (3, 0) (3, 1) = none) ∧
    (runsMp (tRun (tJob opMANIFEST_LOAD)) 0 (tJob opMANIFEST_LOAD) opMANIFEST_LOAD ∧
      (tJob opMANIFEST_LOAD).mirrorStep tOn.manifestMode = .here ∧ (tRun (tJob opMANIFEST_LOAD)).activationPending = false) ∧
    (runsMp (tRun (tJob opMANIFEST_ACTIVATE)) 0 (tJob opMANIFEST_ACTIVATE) opMANIFEST_ACTIVATE ∧
      (tJob opMANIFEST_ACTIVATE).mirrorStep (tRun (tJob opMANIFEST_ACTIVATE)).manifestMode = .here) ∧
    (tRestore.n6.manifest = some tManifest ∧ tRestore.ready 1 = true ∧ tRestore.xs.active = none ∧
      tRestore.activationPending = false ∧ tRestore.pw.restored = true ∧ tRestore.ready 21 = true ∧ tRestore.mpSets = [] ∧
      tRestore.setWaits { manifest := some tManifest } = true ∧
      ({ tRestore with mp := { state := .run } } : State).setWaits { manifest := some tManifest } = false) := by
  refine ⟨⟨⟨rfl, rfl, rfl, rfl, rfl⟩, ?_, ?_⟩, ⟨⟨rfl, rfl, rfl, Or.inl rfl, rfl⟩, ?_, ?_⟩, ⟨⟨rfl, rfl, rfl, Or.inl rfl, rfl⟩, ?_⟩, rfl, ?_⟩ <;>
    decide +kernel

/-- HELLO with the versions 2.0 to 2.2 chooses 2.2 (R113, R116). -/
theorem test_hello_chooses : (match exec (.hello 0) (tRun (tJob opHELLO [⟨0x0010, [2, 0, 2, 2]⟩])) with
    | .next t => ((t.job 0).bind (·.ending)).any fun e => e.status == stDONE && e.results.head? == some ⟨0x0012, [2, 2]⟩
    | _ => false) = true := by decide +kernel

/-- The same state an hour later. -/
def tAfter (s : State) : State := { s with tb := { s.tb with up := 3600 * 10 ^ 9 } }

/-- A signing job in round 1 of its forks. -/
def tForked : Job := { tJob opMLDSA_SIGN with forkRound := some 1, forkEngines := [1] }

theorem test_witness_LatticeSignatures :
    (runsOp (tRun (tJob opMLDSA_SIGN)) 0 (tJob opMLDSA_SIGN) opMLDSA_SIGN ∧ (tJob opMLDSA_SIGN).forkRound = none) ∧
    (runsOp (tRun (tJob opCOMPOSITE_SIGN)) 0 (tJob opCOMPOSITE_SIGN) opCOMPOSITE_SIGN ∧
      (tJob opCOMPOSITE_SIGN).forkRound = none) ∧
    (tRun tForked).job 0 = some tForked ∧ tForked.phase = .running ∧ tForked.forkRound = some 1 :=
  ⟨⟨⟨rfl, rfl, rfl, rfl, rfl⟩, rfl⟩, ⟨⟨rfl, rfl, rfl, rfl, rfl⟩, rfl⟩, rfl, rfl, rfl⟩

theorem test_witness_HashSignatureOperations :
    (runsOp (tRun (tJob opLMS_KEYGEN)) 0 (tJob opLMS_KEYGEN) opLMS_KEYGEN ∧
      tget (tRun (tJob opLMS_KEYGEN)).hbs.keys ((tRun (tJob opLMS_KEYGEN)).jobNode (tJob opLMS_KEYGEN)) = none) ∧
    ((tJob opLMS_KEYGEN).engineStatus = none ∧ ({ tOn with regs := [(aME_CTL, 0x10000)] } : State).buildMes ≤ 1) ∧
    (∀ st ∈ [stDONE, stFAULT_CONTAINED], let b := { tJob opSLHDSA_KEYGEN with engineStatus := some st }
      runsOp (tRun b) 0 b opSLHDSA_KEYGEN ∧ b.engineStatus = some st) ∧
    stFAULT_CONTAINED ≠ stDONE :=
  ⟨⟨⟨rfl, rfl, rfl, rfl, rfl⟩, rfl⟩, ⟨rfl, by decide +kernel⟩, fun _ _ => ⟨⟨rfl, rfl, rfl, rfl, rfl⟩, rfl⟩, by decide⟩

/-- A stateful key of height 10 whose current block is spent to its low mark. -/
def tKey : HbsKey := { xmss := true, params := [1], inst := 0, height := 10, cur := some 0, left := 4, nextEven := 2 }

def tHbs (k : HbsKey) : State := { tOn with hbs := { tOn.hbs with keys := [(3, k)] }, regs := [(aME_CTL, 64)] }

def tWaits : Job := { tJob opXMSS_SIGN with wait := .reservation 3, waitUp := some 0 }

/-- The record of a refresh of node 3, and the state in which it is not yet read back. -/
def tRefresh : JRecord := { seq := 1, node := 3, kind := 2, nextEven := 2, nextOdd := 1 }

def tUnread : State := { tOn with hbs := { tOn.hbs with
  keys := [(3, { tKey with pend := some 1 })], journal := [(0, tRefresh.image)], unread := [(0, zeros 16)] } }

/-- Node 3 is built again as one subtree job, which is over; a lower level of it holds an active tree. -/
def tBuilt : HbsKey :=
  { tKey with tree := .rebuilding, parts := 1, lower := [{ level := 1, below := 5, active := 0, root := [], rootSig := [] }] }

theorem test_witness_StatefulKeyEvents :
    (tget (tHbs tKey).hbs.keys 3 = some tKey ∧ tKey.nextBlock (tHbs tKey).hbs.parity = some 1 ∧
      (tHbs tKey).reserveDue 3 tKey = true ∧ (tHbs tKey).fc.mstate = .service) ∧
    (tUnread.unreadOf 3 = some (0, tRefresh) ∧ tget tUnread.hbs.keys 3 = some { tKey with pend := some 1 } ∧ tRefresh.kind = 2 ∧
      ({ tKey with pend := some 1 } : HbsKey).pend.isSome ∧ tKey.nextEven = tRefresh.nextEven ∧ tKey.nextOdd = tRefresh.nextOdd) ∧
    ((tHbs tBuilt).hbs.keys.find? (fun e => e.2.tree == .rebuilding) = some (3, tBuilt) ∧ tBuilt.parts ≠ 0 ∧
      (tHbs tBuilt).subtreesDone 3 = true ∧ ∃ x ∈ tBuilt.lower, x.level = 1) ∧
    (tget (tHbs { tKey with tree := .ready }).hbs.keys 3 = some { tKey with tree := .ready }) ∧
    (tOn.hbs.keys = [] ∧ tOn.domain 3 = .on) ∧
    (({ tRun tWaits with hbs := (tHbs tKey).hbs } : State).job 0 = some tWaits ∧ tWaits.wait = .reservation 3 ∧
      tget ({ tRun tWaits with hbs := (tHbs tKey).hbs } : State).hbs.keys 3 = some tKey ∧
      (tWaits.waitUp.any fun u => (tAfter (tRun tWaits)).passed u ((tAfter (tRun tWaits)).crossingsNs 2)) = true) := by
  refine ⟨?_, ?_, ?_, ?_, ?_, ?_⟩ <;> decide +kernel

theorem test_witness_LeavesAreUsedOnce :
    (tKey.left ≤ tKey.leaves ∧ 0 < tKey.leaves ∧ tKey.ahead ≠ tKey.cur ∧ tKey.nextLeaf.isSome = true) ∧
    (let k := { tKey with left := 0, ahead := some 1 }
     k.left ≤ k.leaves ∧ k.ahead ≠ k.cur ∧ k.nextLeaf = some k.leaves) ∧
    (tKey.nextEven % 2 = 0 ∧ tKey.nextOdd % 2 = 1 ∧ tKey.nextBlock 0 = some 1 ∧ tKey.nextBlock 1 = some 2 ∧
      tKey.nextBlock 2 = some 1) := by
  refine ⟨?_, ?_, ?_⟩ <;> decide +kernel

def tRegen (code : Nat) : Job := { tJob code with wait := .regeneration }

/-- The peer entry of slot 5, which job 0 also allotted, with the digest of its key or another. -/
def tPeer (good : Bool) : Peer :=
  { inst := 0, slot := some 5, pset := 1, key := [7], digest := if good then sha3_256 [7] else [], job := some 0, pages := 1 }

def tPeers (b : Job) (good : Bool) : State := { tRun b with parts := { peers := [(0, tPeer good)] } }

theorem test_witness_CodeBasedOperations :
    (∀ good : Bool, let s := tPeers (tJob opMCE_ENCAPS [] 5) good
      runsOp s 0 (tJob opMCE_ENCAPS [] 5) opMCE_ENCAPS ∧ (tJob opMCE_ENCAPS [] 5).handle ≠ 0 ∧
        s.peerFor 0 (tJob opMCE_ENCAPS [] 5) = some (0, tPeer good)) ∧
    (sha3_256 (tPeer true).key = (tPeer true).digest ∧ sha3_256 (tPeer false).key ≠ (tPeer false).digest) ∧
    (runsOp (tPeers (tJob opMCE_ENCAPS) true) 0 (tJob opMCE_ENCAPS) opMCE_ENCAPS ∧ (tJob opMCE_ENCAPS).handle = 0 ∧
      (tPeers (tJob opMCE_ENCAPS) true).peerFor 0 (tJob opMCE_ENCAPS) = some (0, tPeer true) ∧
      (tRun (tJob opMCE_ENCAPS)).peerFor 0 (tJob opMCE_ENCAPS) = none) ∧
    (let b := tJob opMCE_ENCAPS [⟨0x0070, [5]⟩]
     let s := { tRun b with ks := { slots := [(hSlot (b.handleIn 0x0070), { state := .pending })] } }
     runsOp s 0 b opMCE_ENCAPS ∧ (b.has 0x0070 && (s.slot (hSlot (b.handleIn 0x0070))).state == .pending) = true) ∧
    ((tRun (tRegen opMCE_DECAPS)).job 0 = some (tRegen opMCE_DECAPS) ∧ (tRegen opMCE_DECAPS).opcode = opMCE_DECAPS ∧
      (tRegen opMCE_DECAPS).wait = .regeneration) :=
  ⟨fun g => ⟨⟨rfl, rfl, rfl, rfl, rfl⟩, by decide, by cases g <;> decide +kernel⟩, ⟨by decide +kernel, by decide +kernel⟩,
    ⟨⟨rfl, rfl, rfl, rfl, rfl⟩, rfl, by decide +kernel, by decide +kernel⟩, ⟨⟨rfl, rfl, rfl, rfl, rfl⟩, by decide +kernel⟩,
    rfl, rfl, rfl⟩

theorem test_witness_RsaAndBignumOperations :
    (∀ p ∈ [0, 1, 2, 3], runsOp (tRun (tJob opRSA_PUBLIC [⟨0x0087, [p]⟩])) 0 (tJob opRSA_PUBLIC [⟨0x0087, [p]⟩]) opRSA_PUBLIC ∧
      tlvNat (tJob opRSA_PUBLIC [⟨0x0087, [p]⟩]).params 0x0087 0 = p.toNat) ∧
    ((tRun (tRegen opRSA_PRIVATE)).job 0 = some (tRegen opRSA_PRIVATE) ∧
      (tRegen opRSA_PRIVATE).opcode = opRSA_PRIVATE ∧ (tRegen opRSA_PRIVATE).wait = .regeneration) :=
  ⟨fun p hp => ⟨test_tRun_runsOp _ _ _, by revert p; decide⟩, rfl, rfl, rfl⟩

/-- A bignum job with N = 7 and small operands. -/
def tNums (code : Nat) : Job := tJob code [⟨0x0081, [7]⟩, ⟨0x0082, [3]⟩, ⟨0x0083, [5]⟩, ⟨0x0084, [5]⟩, ⟨0x008A, [3]⟩]

/-- A private-key job whose key has a sealed copy. -/
def tPrivate : State :=
  { tRun (tJob opRSA_PRIVATE [⟨0x0087, [1]⟩] 5) with
    pw := { tOn.pw with ready := 16 }, parts := { sealed := [{ slot := 5, gen := 0, inst := 0, size := 1 }] } }

/-- 3^5 modulo 7 is 5; the inverse of 3 modulo 7 is 5; 2 has none modulo 4. -/
theorem test_witness_ModularArithmeticIsExact : 1 < 7 ∧ 5 < 2 ^ 3 ∧ modPow 3 7 3 5 = 5 ∧ modInv 3 7 = some 5 ∧
    modInv 2 4 = none ∧
    (∀ code ∈ [opBN_MODEXP, opBN_MODMUL, opBN_MODINV, opRSA_KEYGEN, opRSA_PUBLIC], runsOp (tRun (tNums code)) 0 (tNums code) code) ∧
    ((tNums 0).num 0x0081 = 7 ∧ (tNums 0).num 0x0082 = 3 ∧ (tNums 0).num 0x0083 = 5 ∧ (tNums 0).num 0x0084 = 5 ∧
      (tNums 0).num 0x008A = 3 ∧ 3 * 5 % 7 = 1 ∧ tlvNat (tNums 0).params 0x0087 0 = 0 ∧ 5 % 2 = 1 ∧ 3 ≤ 5 ∧ 5 < 7 ∧ 5 < 2 ^ 256) ∧
    (runsOp tPrivate 0 (tJob opRSA_PRIVATE [⟨0x0087, [1]⟩] 5) opRSA_PRIVATE ∧
      tlvNat (tJob opRSA_PRIVATE [⟨0x0087, [1]⟩] 5).params 0x0087 0 = 1 ∧ tPrivate.hasSealed 5 = true) := by
  refine ⟨by decide, by decide, by decide +kernel, by decide +kernel, by decide +kernel, fun _ _ => ⟨rfl, rfl, rfl, rfl, rfl⟩,
    by decide +kernel, ⟨rfl, rfl, rfl, rfl, rfl⟩, by decide +kernel, by decide +kernel⟩

theorem test_witness_EllipticCurveOperations :
    runsOp (tRun (tJob opECDH)) 0 (tJob opECDH) opECDH ∧ runsOp (tRun (tJob opEDDSA_VERIFY)) 0 (tJob opEDDSA_VERIFY) opEDDSA_VERIFY :=
  ⟨⟨rfl, rfl, rfl, rfl, rfl⟩, rfl, rfl, rfl, rfl, rfl⟩

theorem test_witness_CipherOperations : runsOp (tRun (tJob opAES_GCM_ENC)) 0 (tJob opAES_GCM_ENC) opAES_GCM_ENC ∧
    (tJob opAES_GCM_ENC [⟨0x0099, [1]⟩]).ivGen = true ∧ (tJob opAES_GCM_ENC).ivGen = false :=
  ⟨⟨rfl, rfl, rfl, rfl, rfl⟩, by decide, by decide⟩

theorem test_witness_BlockModesInvert : (zeros 16).length = 16 ∧ (zeros 32).length = 32 := by decide

/-- The example of FIPS 197, appendix C.1. -/
theorem test_aes_encrypts : aesEncrypt ((List.range 16).map (BitVec.ofNat 8)) ((List.range 16).map fun i => BitVec.ofNat 8 (17 * i)) =
    [0x69, 0xC4, 0xE0, 0xD8, 0x6A, 0x7B, 0x04, 0x30, 0xD8, 0xCD, 0xB7, 0x80, 0x70, 0xB4, 0xC5, 0x5A] := by decide +kernel

theorem test_witness_DigestOperations :
    (runsOp (tRun (tJob opDIGEST_UPDATE)) 0 (tJob opDIGEST_UPDATE) opDIGEST_UPDATE ∧ (tJob opDIGEST_UPDATE).releases = false) ∧
    (let b := tJob opDIGEST_UPDATE [⟨0x0090, [0]⟩]
     runsOp (tRun b) 0 b opDIGEST_UPDATE ∧ b.releases = true) :=
  ⟨⟨⟨rfl, rfl, rfl, rfl, rfl⟩, by decide⟩, ⟨rfl, rfl, rfl, rfl, rfl⟩, by decide⟩

/-! ### Keys and random values -/

/-- A loaded SECRET of instance 0 in slot 1, with every policy bit that may be set. -/
def tSlot (type : Nat) : Slot :=
  { state := .loaded, gen := 1, filledGen := 1, type := type, val := zeros 32, policy := 0xFF07FF }

def tKeys (b : Job) (type : Nat) : State := { tRun b with regs := [(aKS_CTL, 1)], ks := { slots := [(1, tSlot type)] } }

/-- The handle of that key. -/
def tHandle (b : Job) (type : Nat) : Nat := (tKeys b type).handleOf 1

/-- Slot 1 is that key's, whatever the job. -/
theorem test_tKeys_slot (b : Job) (type : Nat) : (tKeys b type).slot 1 = tSlot type := rfl

/-- A handle that verifies does not depend on the job. -/
theorem test_tKeys_handle (b : Job) (type : Nat) : (tKeys b type).handleOf 1 = (tKeys (tJob 0) type).handleOf 1 := rfl

/-- Approval of that key succeeds for its type, policy and length. -/
theorem test_tKeys_approve_need (s : State) (x : Slot) (k : KeyNeed) (hs : s.slot 1 = x) (hk : k.handle = s.handleOf 1)
    (hr : k.role = .key) (hx : x.gen = 1 ∧ x.inst = 0 ∧ x.state = .loaded ∧ x.parent = none ∧ x.uses = none ∧ x.type < 256)
    (hty : k.types.contains x.type = true) (hps : k.pset = none ∨ k.pset = some x.pset)
    (hle : k.lens = [] ∨ k.lens.contains x.val.length = true) (hp : policyOk x.policy k.policy = true) :
    s.approve 0 [k] = .ok ((s.setSlot 1 (x.approve k)).bumpBy aKS_APPROVALS 0 1) := by
  subst hs
  obtain ⟨hg, hi, hl, hpa, hu, ht⟩ := hx
  have hg' : (s.slot 1).gen < 65536 := by rw [hg]; decide
  have h : s.refusal 0 k = none :=
    s.refusal_none 0 1 k hk (by decide) hg' hi (by decide) ht hl hpa hr hty hps hle hp hu
  have hn : hSlot k.handle = 1 := by
    rw [hk]; exact (s.handleOf_fields 1 (by decide) hg' (by rw [hi]; decide) ht).1
  unfold State.approve
  simp only [List.findSome?_cons, h, List.findSome?_nil, List.foldl_cons, List.foldl_nil, hn]
  rfl

theorem test_tKeys_approve (s : State) (type : Nat) (types policy : List Nat) (k : KeyNeed)
    (hs : s.slot 1 = tSlot type) (hk : k = { handle := s.handleOf 1, types := types, policy := policy })
    (ht : type < 256) (hty : types.contains type = true) (hp : policyOk 0xFF07FF policy = true) :
    s.approve 0 [k] = .ok ((s.setSlot 1 ((tSlot type).approve k)).bumpBy aKS_APPROVALS 0 1) :=
  test_tKeys_approve_need s (tSlot type) k hs (by rw [hk]) (by rw [hk]) ⟨rfl, rfl, rfl, rfl, rfl, ht⟩
    (by rw [hk]; exact hty) (by rw [hk]; exact Or.inl rfl) (by rw [hk]; exact Or.inl rfl) (by rw [hk]; exact hp)

/-- The handle of the SECRET in slot 1. -/
def tH (type : Nat) : Nat := tHandle (tJob 0) type

/-- The need of a job that names that key. -/
theorem test_tKeys_need (b : Job) (type : Nat) (types policy : List Nat) (hb : b.handle = tH type) :
    b.keyNeed types policy none = { handle := (tKeys b type).handleOf 1, types := types, policy := policy } := by
  unfold Job.keyNeed
  rw [hb]
  rfl

theorem test_tH_slot (type : Nat) (ht : type < 256) : hSlot (tH type) = 1 :=
  ((tKeys (tJob 0) type).handleOf_fields 1 (by decide) (show 1 < 65536 by decide) (show 0 < 256 by decide) ht).1

def tDerive : Job := tDirect opKEY_DERIVE [⟨0x00B2, [1]⟩, ⟨0x00B4, [1]⟩, ⟨0x00B5, [32]⟩, ⟨0x00B6, [1]⟩] (tH 1)

def tInstantiate : Job := tDirect opKEY_DERIVE [⟨0x00B0, [1]⟩, ⟨0x00B1, [3]⟩]

def tNode : State := { tRun tInstantiate with ks := { nodes := [(3, { type := 1 })] } }

def tReserve : Job := tDirect opKEY_DERIVE [⟨0x00B0, [2]⟩, ⟨0x00B4, [0x1A]⟩]

def tGenerate : Job := tJob opKEY_GENERATE [⟨0x00B4, [1]⟩, ⟨0x00B5, [32]⟩, ⟨0x00B6, [1]⟩]

def tSeeded : Rng := { ready := true, drbgs := [(0, { inst := true, left := 9 }), (1, { inst := true, left := 9 })] }

def tImport : Job :=
  tJob opKEY_IMPORT_WRAPPED [⟨0x00B4, [1]⟩, ⟨0x00B5, [16]⟩, ⟨0x00B6, [1]⟩, ⟨0x00B9, zeros 24⟩, ⟨0x00BA, [1]⟩] (tH 6)

theorem test_witness_KeyCreation :
    (∃ s', runsDirect (tKeys tDerive 1) 0 tDerive opKEY_DERIVE ∧
      (tDerive.action = 0 ∧ tlvLen 8 ≤ tDerive.resultCap ∧
        tDerive.deriveTlvs [0x00B2, 0x00B4, 0x00B5, 0x00B6] [0x00B3, 0x00B7, 0x00C6] = true ∧ tDerive.newBad = false ∧
        1 ≤ (tDerive.val 0x00B2).length ∧ (tDerive.val 0x00B2).length ≤ 64 ∧ (tDerive.val 0x00B3).length ≤ 72) ∧
      ((tKeys tDerive 1).slot (hSlot tDerive.handle)).level < 8 ∧
      (∀ st, (tKeys tDerive 1).mirrorFor tDerive ≠ .refuse st) ∧
      ((tKeys tDerive 1).startDirect 0).approve tDerive.inst [tDerive.keyNeed [0x01] [0, 23] none] = .ok s' ∧
      keyRoom s' tDerive) ∧
    (runsDirect tNode 0 tInstantiate opKEY_DERIVE ∧ tInstantiate.action = 1 ∧ tlvLen 8 ≤ tInstantiate.resultCap ∧
      tInstantiate.deriveTlvs [0x00B1] [] = true ∧ tInstantiate.handle = 0 ∧ 3 = tlvNat tInstantiate.params 0x00B1 0 ∧
      (∃ d, tget tNode.ks.nodes 3 = some d ∧ d.owner = tInstantiate.inst) ∧ tNode.instantiated 0 3 = none ∧
      ({ tNode with ks := { tNode.ks with slots := [(4, { state := .loaded, node := some 3 })] } } : State).instantiated 0 3 =
        some 4 ∧ keyRoom tNode tInstantiate) ∧
    (runsDirect (tRun tReserve) 0 tReserve opKEY_DERIVE ∧ tReserve.action = 2 ∧ tlvLen 8 ≤ tReserve.resultCap ∧
      tReserve.deriveTlvs [0x00B4] [] = true ∧ tReserve.handle = 0 ∧ 0x1A = tlvNat tReserve.params 0x00B4 0 ∧
      keyRoom (tRun tReserve) tReserve) ∧
    (let s : State := { tRun tGenerate with rng := tSeeded }
     runsMp s 0 tGenerate opKEY_GENERATE ∧ tGenerate.noRoom (tlvLen 8) = false ∧ tGenerate.newBad = false ∧
      (∀ st, s.mirrorFor tGenerate ≠ .refuse st) ∧ s.drbgCover 1 ≠ 0 ∧ keyRoom s tGenerate) ∧
    (∃ s', runsMp (tKeys tImport 6) 0 tImport opKEY_IMPORT_WRAPPED ∧
      (tImport.noRoom (tlvLen 8) = false ∧ tImport.newBad = false ∧ 24 ≤ (tImport.val 0x00B9).length ∧
        (tImport.val 0x00B9).length ≤ 72 ∧ tlvNat tImport.params 0x00BA 0 = 1) ∧
      (∀ st, (tKeys tImport 6).mirrorFor tImport ≠ .refuse st) ∧
      (tKeys tImport 6).approve tImport.inst [tImport.keyNeed [0x06] [8] none] = .ok s' ∧ keyRoom s' tImport) := by
  refine ⟨⟨_, ⟨rfl, rfl, rfl, rfl, rfl⟩, by decide +kernel, ?_, fun st h => (by cases h),
      test_tKeys_approve _ 1 [0x01] [0, 23] _ rfl (test_tKeys_need tDerive 1 _ _ rfl) (by decide) (by decide) (by decide), ?_⟩,
    ⟨⟨rfl, rfl, rfl, rfl, rfl⟩, by decide, by decide, by decide, rfl, by decide, ⟨_, rfl, rfl⟩, by decide +kernel, by decide +kernel, ?_⟩,
    ⟨⟨rfl, rfl, rfl, rfl, rfl⟩, by decide, by decide, by decide, rfl, by decide, ?_⟩,
    ⟨⟨rfl, rfl, rfl, Or.inl rfl, rfl⟩, rfl, by decide, fun st h => (by cases h), by decide +kernel, ?_⟩,
    ⟨_, ⟨rfl, rfl, rfl, Or.inl rfl, rfl⟩, by decide +kernel, fun st h => (by cases h),
      test_tKeys_approve _ 6 [0x06] [8] _ rfl (test_tKeys_need tImport 6 _ _ rfl) (by decide) (by decide) (by decide), ?_⟩⟩
  · rw [show hSlot tDerive.handle = 1 from test_tH_slot 1 (by decide)]; decide
  all_goals exact ⟨by decide +kernel, 2, by decide +kernel, by decide +kernel⟩

/-- That key is owned by instance 0 and named by its handle. -/
theorem test_tH_owned (b : Job) (type : Nat) (ht : type < 256) :
    (tKeys b type).ownedBy 0 (tH type) = true ∧ hGen (tH type) = 1 ∧ hType (tH type) = type := by
  have hg : ((tKeys b type).slot 1).gen < 65536 := show 1 < 65536 by decide
  have hi : ((tKeys b type).slot 1).inst < 256 := show 0 < 256 by decide
  have ht' : ((tKeys b type).slot 1).type < 256 := ht
  have e : tH type = (tKeys b type).handleOf 1 := (test_tKeys_handle b type).symm
  obtain ⟨h1, h2, h3, h4, -⟩ := (tKeys b type).handleOf_fields 1 (by decide) hg hi ht'
  have hc := (tKeys b type).checkOk_handleOf 1 (by decide) hg hi ht'
  rw [e]
  refine ⟨?_, h2, h4⟩
  unfold State.ownedBy
  rw [hc, h3, h1]
  rfl

def tInvalidate (scope : Byte) : Job := tDirect opKEY_INVALIDATE [⟨0x00C2, [scope]⟩] (tH 1)

def tInfoNode : Job := tDirect opKEY_INFO [⟨0x00B1, [3]⟩]

def tInfo : Job := tDirect opKEY_INFO [] (tH 1)

def tAttest : Job := tJob opKEY_ATTEST [⟨0x00BC, zeros 32⟩] (tH 0x10)

def tExport : Job := tJob opKEY_EXPORT_PUBLIC [] (tH 0x10)

def tChallenge : Job := tJob opCHALLENGE_RESPOND [⟨0x00BC, zeros 32⟩] (tH 0x31)

theorem test_witness_KeyUseAndRemoval :
    (∀ scope ∈ [0, 1], let b := tInvalidate scope
      runsDirect (tKeys b 1) 0 b opKEY_INVALIDATE ∧ b.scope = scope.toNat ∧ (b.has 0x0004 = true → b.inst = 0) ∧
      (tKeys b 1).ownedBy b.targetInst b.handle = true ∧ (∀ st, (tKeys b 1).mirrorOf b.handle ≠ .refuse st) ∧
      ((tKeys b 1).slot (hSlot b.handle)).filledGen ≤ hGen b.handle ∧ hGen b.handle ≤ ((tKeys b 1).slot (hSlot b.handle)).gen) ∧
    (let s : State := { tRun tInfoNode with ks := { nodes := [(3, { type := 1 })] } }
     runsDirect s 0 tInfoNode opKEY_INFO ∧ tInfoNode.has 0x00B1 = true ∧ tInfoNode.handle = 0 ∧
      tlvLen 164 + tlvLen 8 ≤ tInfoNode.resultCap ∧ (tInfoNode.has 0x0004 = true → tInfoNode.inst = 0) ∧
      (tget s.ks.nodes (tlvNat tInfoNode.params 0x00B1 0)).isSome = true ∧ tInfoNode.inst = 0) ∧
    (runsDirect (tKeys tInfo 1) 0 tInfo opKEY_INFO ∧ tInfo.has 0x00B1 = false ∧ tInfo.handle ≠ 0 ∧
      tlvLen 32 ≤ tInfo.resultCap ∧ (tInfo.has 0x0004 = true → tInfo.inst = 0) ∧
      (tKeys tInfo 1).ownedBy tInfo.targetInst tInfo.handle = true) ∧
    (let s := tKeys tAttest 0x10
     ∃ s', runsMp s 0 tAttest opKEY_ATTEST ∧ tAttest.noRoom (tlvLen 4883) = false ∧ s.fld aKS_CTL 0 0 = 1 ∧
      s.approve 0 [tAttest.keyNeed attestable [] none] = .ok s') ∧
    (∃ s', runsMp (tKeys tExport 0x10) 0 tExport opKEY_EXPORT_PUBLIC ∧ tlvNat tExport.params 0x00C3 0 = 0 ∧
      tExport.handle ≠ 0 ∧ (tKeys tExport 0x10).approve 0 [tExport.keyNeed [0x10, 0x11, 0x12, 0x13, 0x14, 0x18, 0x19, 0x20,
        0x21, 0x22, 0x23] [7, keygenEngine (hType tExport.handle)] none] = .ok s') ∧
    (runsMp (tRun (tJob opKEY_EXPORT_PUBLIC)) 0 (tJob opKEY_EXPORT_PUBLIC) opKEY_EXPORT_PUBLIC ∧
      (tJob opKEY_EXPORT_PUBLIC).handle = 0) ∧
    (∃ s', runsMp (tKeys tChallenge 0x31) 0 tChallenge opCHALLENGE_RESPOND ∧ tChallenge.noRoom (tlvLen 32) = false ∧
      (tKeys tChallenge 0x31).approve 0 [tChallenge.keyNeed [0x30, 0x31] [10] none] = .ok s') ∧
    (let b := tJob opKEY_UPDATE_APPLY
     runsMp (tRun b) 0 b opKEY_UPDATE_APPLY ∧ b.cleared = false ∧ b.noRoom (tlvLen 8) = false ∧
      (tRun b).tw.state = .unpaired ∧ (tRun b).fld aKS_CTL 1 1 = 0 ∧ (tRun b).tw.castle = none) ∧
    (({ tOn with ks := { scanOf := [1] } } : State).ks.scanOf ≠ [] ∧
      ∃ e ∈ (tRun { tJob 0 with wait := .scan }).jobs, e.2.wait = .scan) ∧
    ((∀ c ≤ 7, (tKeys tAttest 0x10).classUp c = false ∧ (tKeys tExport 0x10).classUp c = false ∧
        (tRun (tJob opKEY_UPDATE_APPLY)).classUp c = false) ∧
      tAttest.engineStatus = none ∧ tExport.engineStatus = none ∧ (tJob opKEY_UPDATE_APPLY).engineStatus = none ∧
      ({ tKeys tAttest 0x10 with pw := { tOn.pw with ready := 0xFFFFFF } } : State).classUp 1 = true) := by
  have hne : ∀ type, 0 < type → type < 256 → tH type ≠ 0 := fun type h0 h hz => by
    have := (test_tH_owned (tJob 0) type h).2.2
    rw [hz] at this
    exact absurd this (by unfold hType; omega)
  refine ⟨fun scope hs => ⟨⟨rfl, rfl, rfl, rfl, rfl⟩, ?_, fun _ => rfl, (test_tH_owned _ 1 (by decide)).1, ?_, ?_, ?_⟩,
    ⟨⟨rfl, rfl, rfl, rfl, rfl⟩, by decide, rfl, by decide, fun _ => rfl, by decide, rfl⟩,
    ⟨⟨rfl, rfl, rfl, rfl, rfl⟩, rfl, hne 1 (by decide) (by decide), by decide, fun _ => rfl, (test_tH_owned _ 1 (by decide)).1⟩,
    ⟨_, ⟨rfl, rfl, rfl, Or.inl rfl, rfl⟩, rfl, by decide, test_tKeys_approve _ 0x10 attestable [] _ rfl
      (test_tKeys_need tAttest 0x10 _ _ rfl) (by decide) (by decide) (by decide)⟩,
    ⟨_, ⟨rfl, rfl, rfl, Or.inl rfl, rfl⟩, rfl, hne 16 (by decide) (by decide), test_tKeys_approve _ 0x10 _ _ _ rfl
      (test_tKeys_need tExport 0x10 _ _ rfl) (by decide) (by decide) ?_⟩,
    ⟨⟨rfl, rfl, rfl, Or.inl rfl, rfl⟩, rfl⟩,
    ⟨_, ⟨rfl, rfl, rfl, Or.inl rfl, rfl⟩, rfl, test_tKeys_approve _ 0x31 _ _ _ rfl
      (test_tKeys_need tChallenge 0x31 _ _ rfl) (by decide) (by decide) (by decide)⟩,
    ⟨⟨rfl, rfl, rfl, Or.inl rfl, rfl⟩, rfl, rfl, rfl, by decide, rfl⟩,
    ⟨by decide, ⟨_, List.mem_singleton.2 rfl, rfl⟩⟩, ⟨by decide +kernel, rfl, rfl, rfl, by decide +kernel⟩⟩
  · revert scope; decide
  · intro st h
    have : hSlot (tInvalidate scope).handle = 1 := test_tH_slot 1 (by decide)
    unfold State.mirrorOf at h
    rw [this] at h
    cases h
  · rw [show hSlot (tInvalidate scope).handle = 1 from test_tH_slot 1 (by decide),
      show hGen (tInvalidate scope).handle = 1 from (test_tH_owned (tJob 0) 1 (by decide)).2.1]
    exact Nat.le_refl 1
  · rw [show hSlot (tInvalidate scope).handle = 1 from test_tH_slot 1 (by decide),
      show hGen (tInvalidate scope).handle = 1 from (test_tH_owned (tJob 0) 1 (by decide)).2.1]
    exact Nat.le_refl 1
  · rw [show hType tExport.handle = 0x10 from (test_tH_owned (tJob 0) 0x10 (by decide)).2.2]; decide

/-- RNG_GET of 16 bytes into one fragment. -/
def tGet : Job := { tDirect opRNG_GET [⟨0x00D0, [16]⟩] with frags := [{ addr := 0, len := 16, out := true }] }

def tRng (r : Rng) : State := { tOn with rng := r }

theorem test_witness_RandomOperations :
    (let s : State := { tRun tGet with rng := tSeeded }
     runsDirect s 0 tGet opRNG_GET ∧ 1 ≤ tlvNat tGet.params 0x00D0 0 ∧ tlvNat tGet.params 0x00D0 0 ≤ 1048576 ∧
      tlvNat tGet.params 0x00D0 0 ≤ outputLen tGet.frags ∧ ceilDiv (tlvNat tGet.params 0x00D0 0) 4096 ≤ s.drbgCover 0) ∧
    (tRun tGet).drbgCover 0 < ceilDiv (tlvNat tGet.params 0x00D0 0) 4096 ∧
    (runsDirect (tRun (tDirect opRNG_STATUS)) 0 (tDirect opRNG_STATUS) opRNG_STATUS ∧
      tlvLen 16 ≤ (tDirect opRNG_STATUS).resultCap) ∧
    (let b := { tGet with lackUp := some 5 }
     let s := tAfter (tRun b)
     s.job 0 = some b ∧ b.ending = none ∧ b.phase = .fifo ∧ (b.lackUp.any fun u => s.passed u (s.crossingsNs 2)) = true) ∧
    (let b := { tGenerate with wait := .random, lackUp := some 5 }
     let s := tAfter (tRun b)
     s.job 0 = some b ∧ b.ending = none ∧ b.wait = .random ∧ (b.lackUp.any fun u => s.passed u (s.crossingsNs 2)) = true) ∧
    ((tRng { words := [(0, [7])] }).rngWords 0 = [7] ∧ (tRng { words := [(0, [7])] }).rngPort 0 = true) ∧
    (tOn.rngWords 0 = [] ∧ tOn.rngPort 5 = false) ∧
    (let s : State := { tRng tSeeded with pw := { tOn.pw with ready := 8 } }
     s.ready 3 = true ∧ s.rngPort 0 = true ∧ (s.rngWords 0).length ≤ 32 ∧ 1 ≤ s.drbgCover 0) := by
  refine ⟨⟨⟨rfl, rfl, rfl, rfl, rfl⟩, ?_⟩, ?_, ⟨⟨rfl, rfl, rfl, rfl, rfl⟩, ?_⟩, ?_, ?_, ?_, ?_, ?_⟩ <;>
    decide +kernel

/-- Reading RNG_DATA pops one word and marks it valid (R495). -/
theorem test_rngData : (match exec (.rngData 0) (tRng { words := [(0, [7, 9])] }) with
    | .next t => t.rngWords 0 == [9] && t.outbox == [.readData 0 aRNG_DATA 0x80000007]
    | _ => false) = true := by decide +kernel

def tSource (x : SourceState) : State := { tRng { sources := [(0, { state := x })] } with regs := [(aRNG_CTL, 0x101)] }

/-- Every DRBG has its seed and its staged seed. -/
def tDrbgs (x : Drbg) : Tab Drbg := (List.range 9).map fun d => (d, x)

theorem test_witness_NoiseSourcesAndSeeds :
    (((tSource .off).source 0).state = .off ∧ (tSource .off).domain 4 = .on) ∧
    (((tSource .active).source 0).state = .active ∧ ((tSource .startup).source 0).state = .startup) ∧
    (((tSource .retired).source 0).state = .retired ∧ (tSource .retired).fld aRNG_CTL 8 8 = 1 ∧
      (tAfter (tSource .retired)).passed ((tSource .retired).source 0).retiredAt (10 ^ 9) = true) ∧
    ((tSource .active).sourcesIn .active ≠ [] ∧
      seedOrder.find? (fun k => ((tRng { drbgs := tDrbgs { stopped := true } }).drbg k).stopped) = seedOrder.head? ∧
      seedOrder.find? (fun k => ((tSource .active).drbg k).stopped) = none ∧
      seedOrder.find? (fun k => !((tSource .active).drbg k).inst) = seedOrder.head? ∧
      (let s := tRng { drbgs := tDrbgs { inst := true } }
       seedOrder.find? (fun k => !(s.drbg k).inst) = none ∧ seedOrder.find? (fun k => (s.drbg k).staged.isNone) = seedOrder.head?)) ∧
    (let s := tRng { drbgs := tDrbgs { inst := true, staged := some 1 } }
     (s.drbg 3).inst = true ∧ (s.drbg 3).left = 0 ∧ (s.drbg 3).stopped = false ∧ s.rng.ready = false ∧
      (∀ k, k < 9 → (s.drbg k).inst = true ∧ (s.drbg k).staged.isSome) ∧ s.domain 4 = .on ∧ s.fc.mstate ≠ .fault) ∧
    (let s : State := { tRng { drbgs := tDrbgs { inst := true, left := 9 } } with pw := { tOn.pw with ready := 8 } }
     1 ≤ classCode .bne ∧ classCode .bne ≤ 4 ∧ 7 < classSize (classCode .bne) ∧
      (s.expander (engKey (classCode .bne) 7)).left ≤ 65536 ∧ s.ready 3 = true ∧ 1 ≤ s.drbgCover (classDrbg (classCode .bne))) ∧
    (let s := tRng { sources := (List.range 4).map fun i => (i, { state := .disabled }) }
     s.domain 4 = .on ∧ s.rng.failed = false ∧ ∀ k, k < 4 → (s.source k).state = .retired ∨ (s.source k).state = .disabled) := by
  refine ⟨?_, ?_, ?_, ?_, ?_, ?_, ?_⟩ <;> decide +kernel

/-! ### Streams, lanes and FIFOs -/

/-- Lanes 0 and 1 enabled and up; lane 0 forwards to lane 1. -/
def tLanes : State :=
  { tOn with regs := [(aPT_LANE, 1), (aPT_LANE + 4, 1), (aPT_PEER, 0x103FF)], tr := { up := [0, 1] } }

def tStream : Stream :=
  { cls := 0, protect := true, inPort := 0, outPort := 1, addr := 9, vid := 0xFFFF, appid := 4, policy := 0, flagVid := 0,
    wrap := 65536, key := 0, nextKey := 0, keyIds := none, pub := [] }

def tFrame (len : Nat) : Frame :=
  { lane := 0, src := 1, dst := 9, vid := 0, appid := 4, routable := false, eapol := false, secTag := none, wireLen := len,
    declaredLen := len, receivedLen := len, authLen := 0, seqTag := none, forModule := false, keyId := 0, smpCnt := 0,
    stNum := 0, sqNum := 0, tag := [], body := [1, 2] }

def tStreams : State := { tLanes with tr := { tLanes.tr with streams := [(5, tStream)] } }

/-- A CUSTOM stream without a key, between the lanes that are up, in a class that is enabled. -/
def tCreate : Job :=
  tJob opSTREAM_CREATE [⟨0x00E0, [6]⟩, ⟨0x00E1, [0]⟩, ⟨0x00E2, [1]⟩, ⟨0x00E3, [0]⟩, ⟨0x00E4, [1]⟩, ⟨0x00E5, zeros 20⟩, ⟨0x00E8, [128]⟩]

def tCreates (b : Job) : State := { tRun b with regs := (aST_CLASS, 0x80000000) :: tLanes.regs, tr := tLanes.tr }

def tModify : Job := tJob opSTREAM_MODIFY [⟨0x00E0, [5]⟩]

def tLanesSet (n : Byte) : Job := tJob opPORT_CONFIG [⟨0x00FC, [n, n] ++ zeros 14⟩]

def tMacsec : Job :=
  tJob opMACSEC_SA_INSTALL [⟨0x00E3, [0]⟩, ⟨0x00F4, [1]⟩, ⟨0x00F5, [3]⟩, ⟨0x00F6, [1]⟩] (tH 2)

def tPolicyJob (delete : Byte) : Job :=
  tJob opEVENT_SIGN_POLICY [⟨0x00EE, [255]⟩, ⟨0x0050, [44]⟩, ⟨0x00F0, [5, 0, 0, 0]⟩, ⟨0x00F3, [delete]⟩] (tH 0x11)

/-- A signing key of the set ML-DSA-44 in slot 1, and a stream whose outgoing lane may carry long frames. -/
def tSigner : State :=
  { tKeys (tPolicyJob 0) 0x11 with
    ks := { slots := [(1, { tSlot 0x11 with pset := 44 })] }, regs := [(aPT_LANE + 4, 0x81), (aST_CLASS, 0x10000000)],
    tr := { streams := [(5, tStream)], policies := [(255, { key := 0, pset := 44, combo := 0, sources := [5] })] } }

theorem test_tSigner_handle : (tPolicyJob 0).handle = tSigner.handleOf 1 := by
  show tH 0x11 = _
  exact State.handleOf_congr (s := tKeys (tJob 0) 0x11) (t := tSigner) 1 rfl rfl rfl rfl

theorem test_witness_StreamCommands :
    (runsMp (tCreates tCreate) 0 tCreate opSTREAM_CREATE ∧ (tCreates tCreate).createRefused tCreate = none) ∧
    (runsMp (tRun (tJob opSTREAM_CREATE)) 0 (tJob opSTREAM_CREATE) opSTREAM_CREATE ∧
      (tRun (tJob opSTREAM_CREATE)).createRefused (tJob opSTREAM_CREATE) ≠ none) ∧
    (let s : State := { tRun tModify with regs := tLanes.regs, tr := tStreams.tr }
     runsMp s 0 tModify opSTREAM_MODIFY ∧ tget s.streamsNext 5 = some tStream ∧ 5 = tlvNat tModify.params 0x00E0 0 ∧
      s.modifyRefused tModify tStream = none ∧
      ({ s with regs := [] } : State).modifyRefused tModify tStream ≠ none) ∧
    (∀ c ∈ [opSTREAM_DELETE, opSTREAM_STATS], ∀ id ∈ [⟨0x00E0, [0xFF, 0xFF, 0x0F]⟩, (⟨0x00E0, [0]⟩ : Tlv)],
      runsMp (tRun (tJob c [id])) 0 (tJob c [id]) c ∧ tlvNat (tJob c [id]).params 0x00E0 0 < 1048576 ∧
      ((tJob c [id]).doneFit [⟨0x00ED, zeros 64⟩]).status = stDONE) ∧
    ((tget tStreams.streamsNext 5).isSome ∧ tget tStreams.streamsNext 4 = none ∧ (tStreams.stream 5).isSome ∧
      tStreams.stream 4 = none) ∧
    (∀ n ∈ [0, 1], runsMp (tRun (tLanesSet n)) 0 (tLanesSet n) opPORT_CONFIG ∧
      (tlvAll (tLanesSet n).params 0x00FC).length ≤ 512 ∧
      (∀ v ∈ tlvAll (tLanesSet n).params 0x00FC, leAt v 0 2 ≤ 511 ∧ allZero (v.drop 10) = true) ∧
      (tRun (tLanesSet n)).groupsBusy 0x0040 = false) ∧
    (let s : State := { tKeys tMacsec 2 with regs := [(aPT_LANE, 0x41)] }
     ∃ s', runsMp s 0 tMacsec opMACSEC_SA_INSTALL ∧ tMacsec.portBad 0x00E3 = false ∧ tlvNat tMacsec.params 0x00F5 0 ≤ 3 ∧
      tlvNat tMacsec.params 0x00F6 0 ≤ 1 ∧ tlvNat tMacsec.params 0x00F7 0 ≤ 1 ∧ tMacsec.has 0x00F9 = false ∧
      tMacsec.has 0x00FA = false ∧ tlvNat tMacsec.params 0x00FB 0 ≤ 2 ^ 30 ∧ s.portOk 0 = true ∧ s.macsecOn 0 = true ∧
      s.approve 0 [{ handle := tMacsec.handle, types := [0x02], lens := [32], policy := [1, 9, 22], counted := false }] =
        .ok s') ∧
    (∃ s', runsMp tSigner 0 (tPolicyJob 0) opEVENT_SIGN_POLICY ∧ policyBad (tPolicyJob 0) = false ∧
      tlvNat (tPolicyJob 0).params 0x00F3 0 ≠ 1 ∧ (tPolicyJob 0).sources.any tSigner.sourceBad = false ∧
      tlvNat (tPolicyJob 0).params 0x0004 0 ≤ 128 ∧ tSigner.instExists (tlvNat (tPolicyJob 0).params 0x0004 0) = true ∧
      tSigner.approve 0 (policyNeeds (tPolicyJob 0)) = .ok s') ∧
    (runsMp { tSigner with jobs := [(0, tPolicyJob 1)] } 0 (tPolicyJob 1) opEVENT_SIGN_POLICY ∧
      policyBad (tPolicyJob 1) = false ∧ tlvNat (tPolicyJob 1).params 0x00F3 0 = 1 ∧
      (tget tSigner.tr.policies (tlvNat (tPolicyJob 1).params 0x00EE 0)).isSome = true) := by
  have hm : tMacsec.handle = (tKeys tMacsec 2).handleOf 1 := (test_tKeys_handle tMacsec 2).symm
  refine ⟨⟨⟨rfl, rfl, rfl, Or.inl rfl, rfl⟩, by decide +kernel⟩, ⟨⟨rfl, rfl, rfl, Or.inl rfl, rfl⟩, by decide +kernel⟩,
    ⟨⟨rfl, rfl, rfl, Or.inl rfl, rfl⟩, by decide, by decide, by decide +kernel, by decide +kernel⟩,
    fun c hc id hi => ⟨⟨rfl, rfl, rfl, Or.inl rfl, rfl⟩, ?_⟩, by decide +kernel, fun n hn => ⟨⟨rfl, rfl, rfl, Or.inl rfl, rfl⟩, ?_⟩,
    ⟨_, ⟨rfl, rfl, rfl, Or.inl rfl, rfl⟩, by decide, by decide, by decide, by decide, by decide, by decide, by decide, by decide +kernel,
      by decide +kernel, test_tKeys_approve_need _ (tSlot 2) _ rfl (hm.trans (State.handleOf_congr 1 rfl rfl rfl rfl)) rfl
        (by decide) (by decide) (Or.inl rfl) (Or.inr (by decide)) (by decide)⟩,
    ⟨_, ⟨rfl, rfl, rfl, Or.inl rfl, rfl⟩, by decide +kernel, by decide, by decide +kernel, by decide, by decide,
      test_tKeys_approve_need _ { tSlot 0x11 with pset := 44 } _ rfl test_tSigner_handle rfl
        (by decide) (by decide) (Or.inr rfl) (Or.inl rfl) (by decide)⟩,
    ⟨rfl, rfl, rfl, Or.inl rfl, rfl⟩, by decide +kernel, by decide, by decide⟩
  · revert c id; decide +kernel
  · revert n; decide +kernel

/-- A frame of that stream on its way. -/
def tFlight (stage : FlightStage) (drop signed : Bool) : Flight :=
  { frame := tFrame 64, stream := 5, ctx := tStream, se := 0, items := 1, stage := stage, drop := drop, signed := signed }

theorem test_witness_StreamTraffic :
    (tLanes.laneUp 0 = true ∧ (tFrame 63).wireLen < 64 ∧ tLanes.maxFrame (tLanes.portOf 0) < (tFrame 1537).wireLen) ∧
    (∀ len ∈ [64, 1536], let f := tFrame len
      tLanes.laneUp f.lane = true ∧ 64 ≤ f.wireLen ∧ f.wireLen ≤ tLanes.maxFrame (tLanes.portOf f.lane) ∧
      tLanes.macsecOn (tLanes.portOf f.lane) = false ∧ tLanes.redPeer f.lane = none ∧
      tLanes.classify (tLanes.portOf f.lane) f = none ∧ tLanes.fld (aPT_PEER + 4 * tLanes.portOf f.lane) 25 16 = 1 ∧
      tLanes.laneUp 1 = true ∧ tLanes.macsecOn 1 = false ∧ tLanes.redPeer 1 = none ∧
      tStreams.classify (tStreams.portOf f.lane) f = some (5, tStream) ∧
      (tStreams.takeSe (f.lane / 128) tStream.cls (ceilDiv f.wireLen 64)).isSome = true) ∧
    (∀ dr, let fl := tFlight .egress dr false
      let s : State := { tLanes with tr := { tLanes.tr with flights := [(2, fl)] } }
      s.flight 2 = some fl ∧ fl.stage = .egress ∧ fl.drop = dr ∧ s.laneUp fl.ctx.outPort = true ∧
      s.macsecOn fl.ctx.outPort = false ∧ s.redPeer fl.ctx.outPort = none) ∧
    (let s : State := { tLanes with regs := [(aPT_LANE, 0x41)] }
     1 ≠ 0 ∧ s.laneUp (1 - 1) = true ∧ s.macsecOn (1 - 1) = true) ∧
    (∀ dr, let fl := tFlight (.event 0) dr true
      let s : State := { tLanes with tr := { tLanes.tr with flights := [(2, fl)] }, jobs := [(0, tDirect opMLDSA_SIGN)] }
      s.flight 2 = some fl ∧ fl.signed = true ∧ fl.drop = dr ∧ fl.stage = .event 0 ∧
      s.job 0 = some (tDirect opMLDSA_SIGN) ∧ (tDirect opMLDSA_SIGN).phase = .fifo) := by
  refine ⟨?_, ?_, fun dr => ⟨rfl, rfl, rfl, ?_⟩, ?_, fun dr => ⟨rfl, rfl, rfl, rfl, rfl, rfl⟩⟩
  all_goals first | decide +kernel | (cases dr <;> decide +kernel)

/-- A frame of no stream leaves by its forwarding lane (R505). -/
theorem test_frame_forwarded : (match exec (.streamFrame (tFrame 64)) tLanes with
    | .next t => t.outbox == [.frame 1 none [1, 2]]
    | _ => false) = true := by decide +kernel

theorem test_witness_LanesCagesAndFifos :
    (let s : State := { tLanes with pw := { tOn.pw with ready := 0x20000 }, tr := { cages := [(0, { powered := true, present := true })] } }
     0 < 512 ∧ s.speed 0 ≠ 0 ∧ s.ready (17 + 0 / 128) = true ∧ (s.cage (0 / 8)).carries 0 = true ∧ (s.cage 0).powered = true) ∧
    (87 : Reg).toNat % 128 ≤ 87 ∧ 87 < (88 : Reg).toNat % 128 ∧ 87 ≤ 87 ∧ 87 < 88 := by
  refine ⟨?_, ?_, ?_, ?_, ?_⟩ <;> decide +kernel

/-! ### Instances -/

/-- A command about instance 128 with a parameter 0x0136 (force, resume or told). -/
def tInstJob (code : Nat) (mode : Byte := 0) : Job := tJob code [⟨0x0004, [128]⟩, ⟨0x0136, [mode]⟩]

/-- A share command that asks for a number of vectors. -/
def tShareJob (code : Nat) (vectors : Byte) : Job := tJob code [⟨0x0004, [128]⟩, ⟨0x0131, [vectors]⟩]

def tInst (b : Job) (x : InstState) : State := { tRun b with insts := [(128, { state := x })] }

theorem test_witness_InstanceCommands :
    (∀ c ∈ [opINSTANCE_CREATE, opINSTANCE_SHARE_SET], ∀ x ∈ [InstState.absent, .active], ∀ vectors ∈ [64, 65],
      let b := tShareJob c vectors
      let s := tInst b x
      runsMp s 0 b c ∧ 1 ≤ b.target ∧ b.target ≤ 128 ∧ b.shareFormBad = false ∧ b.mirrorStep s.mirrorMode = .here ∧
      s.groupsBusy 0x0100 = false ∧ b.noRoom (tlvLen 4) = false ∧ b.shareRangeBad = (vectors == 65) ∧ tlvNat b.params 0x0136 0 ≤ 1 ∧
      s.mapBusy (s.mapOf s.reg b.target) (applyMap (s.mapOf s.reg b.target) (mapEntries (b.val 0x0130))) = false ∧
      (s.inst b.target).state = x) ∧
    (∀ mode ∈ [0, 1], let b := tInstJob opINSTANCE_QUIESCE mode
      runsMp (tInst b .active) 0 b opINSTANCE_QUIESCE ∧ b.resume = (mode == 1) ∧ 1 ≤ tlvNat b.params 0x0135 4800 ∧
      tlvNat b.params 0x0135 4800 ≤ 96000 ∧ tlvNat b.params 0x0136 0 ≤ 1 ∧ b.noRoom (tlvLen 4) = false) ∧
    (∀ c ∈ [opINSTANCE_RESET, opINSTANCE_REMOVE], ∀ x ∈ [InstState.quiescing, .quiesced], let b := tInstJob c 1
      let s := tInst b x
      runsMp s 0 b c ∧ tlvNat b.params 0x0136 0 ≤ 1 ∧ b.noRoom (tlvLen 4) = false ∧ b.mayReset (s.inst b.target) = true ∧
      b.shareFormBad = false ∧ b.mirrorStep s.mirrorMode = .here ∧
      (s.xs.active.map (·.berths)).any (fun bs => bs.any fun w => w.kind == 3 && w.owner == b.target) = false) := by
  refine ⟨fun c hc x hx v hv => ⟨⟨rfl, rfl, rfl, Or.inl rfl, rfl⟩, ?_⟩, fun m hm => ⟨⟨rfl, rfl, rfl, Or.inl rfl, rfl⟩, ?_⟩,
    fun c hc x hx => ⟨⟨rfl, rfl, rfl, Or.inl rfl, rfl⟩, ?_⟩⟩
  · revert c x v; decide +kernel
  · revert m; decide +kernel
  · revert c x; decide +kernel

theorem test_witness_InstanceWipeLeavesNothing : let b := tInstJob opINSTANCE_RESET
    1 ≤ 128 ∧ 128 ≤ 128 ∧ ((tInst b .quiesced).inst 128).state ≠ .absent ∧ runsMp (tInst b .quiesced) 0 b opINSTANCE_RESET ∧
    b.target = 128 ∧ tlvNat b.params 0x0136 0 ≤ 1 ∧ b.noRoom (tlvLen 4) = false ∧
    b.mayReset ((tInst b .quiesced).inst 128) = true :=
  ⟨by decide, by decide, by decide, ⟨rfl, rfl, rfl, Or.inl rfl, rfl⟩, by decide, by decide, by decide, by decide⟩

/-- The same instance with its VF enabled, and no job. -/
def tVf (x : InstState) : State :=
  { tOn with insts := [(128, { state := x })], pcie := { vfEnable := true, numVfs := 128, link := .l0 } }

def tQuiesceJob : Job := { tInstJob opINSTANCE_QUIESCE with wait := .quiesce 128 false }

theorem test_witness_InstanceEvents :
    (((tVf .quiescing).inst 128).state = .quiescing ∧ (tVf .quiescing).quiet 128 = true ∧
      ((tVf .quiescing).inst 128).waitUntil ≤ (tVf .quiescing).tb.crossings) ∧
    ((tInst tQuiesceJob .quiescing).quiet 128 = true ∧ (tInst tQuiesceJob .quiescing).job 0 = some tQuiesceJob ∧
      tQuiesceJob.wait = .quiesce 128 false) ∧
    ((tVf .resetting).inst 128).state = .resetting ∧
    (∀ x ∈ [InstState.absent, .active, .quiesced], ((tVf x).inst 128).state = x ∧ (tVf x).vfOn 128 = true ∧ min 127 128 < 128) := by
  refine ⟨?_, ?_, ?_, ?_⟩ <;> decide +kernel

/-! ### Queue pairs -/

/-- Queue pair 3 of the physical function, with rings of 32 entries; `ctl` adds bits to its control word. -/
def tQueue (p : QPair) (ctl : Nat := 0) : State :=
  { tOn with regs := [(qReg 3 aQ_CTL, BitVec.ofNat 32 (0x50501 + ctl))], pairs := [(3, p)], versions := [(0, (2, 2))],
             pw := { tOn.pw with ready := 0xFFFFFF }, pcie := { link := .l0 } }

def tPair : QPair := { created := some ⟨0, 0, 0⟩, enabled := true, idle := false, sqTail := 1 }

/-- READY_QUERY of version 2.2: a 64-byte entry, and a 32-byte one of the first lap. -/
def tEntry : Bytes := [2, 2, BitVec.ofNat 8 opREADY_QUERY, BitVec.ofNat 8 (opREADY_QUERY / 256)] ++ zeros 37 ++ [0x10] ++ zeros 6 ++ [64] ++ zeros 15

def tEntry2 : Bytes := [2, 2, BitVec.ofNat 8 opREADY_QUERY, BitVec.ofNat 8 (opREADY_QUERY / 256), 0, 0, 0, 0, 0, 0x80] ++ zeros 22

def isOk {α : Type} (r : Except Nat α) : Bool := match r with
  | .ok _ => true
  | .error _ => false

def tPasses (q : State) (e : Bytes) (fmt2 : Bool) : Bool := match parseEntry fmt2 e none none with
  | .ok x => match ((q.advanceHead 3 (entryUnits (q.qFmt2 3) e)).mirror 3).check (.queue 3) (q.pair 3).owner x with
    | .passed _ _ => true
    | .refused _ => false
  | .error _ => false

/-- The pair of instance 1, number 2 of it, with its VF enabled. -/
def tTenant (p : QPair) : State :=
  { tQueue { p with owner := 1, loc := 2 } with pcie := { vfEnable := true, numVfs := 1, link := .l0 } }

def tFencedJob : Job := { tDirect opRNG_STATUS with phase := .fenced, src := .queue 3 }

theorem test_witness_QueueDoorbellsFetchesAndSetup :
    (tOn.doorPair 1 0 = none ∧ (tQueue tPair).doorPair 0 3 = some 3) ∧
    (((tQueue {}).pair 3).enabled = false ∧ ((tQueue {}).pair 3).draining = false) ∧
    (((tQueue tPair).pair 3).enabled = true ∧ (tQueue tPair 8).qPhase 3 = true ∧ (tQueue tPair).qPhase 3 = false) ∧
    ((tQueue tPair).sqSize 3 = 32 ∧ 31 < (tQueue tPair).sqSize 3 ∧ (tQueue tPair).sqSize 3 ≤ 32) ∧
    (let n := (tQueue tPair).cqSize 3
     n = 32 ∧ (0 + n - tPair.cqHead) % n ≤ (tPair.cqTail + n - tPair.cqHead) % n ∧
      ¬((1 + n - tPair.cqHead) % n ≤ (tPair.cqTail + n - tPair.cqHead) % n)) ∧
    (tOn.fetchOpen 3 = false ∧ (tQueue tPair).fetchOpen 3 = true ∧ 0 < (tQueue tPair).sqFilled 3 ∧
      entryUnits ((tQueue tPair).qFmt2 3) tEntry ≤ (tQueue tPair).sqFilled 3) ∧
    (let s := tQueue { tPair with armed := true } 0xC
     s.fetchOpen 3 = true ∧ s.qPhase 3 = true ∧ (s.pair 3).armed = true ∧ bitAt (leAt tEntry2 8 2) 15 = s.lapPhase 3 ∧
      tPasses s tEntry2 true = true) ∧
    (let s := tQueue { tPair with enabled := false, draining := true }
     s.fetchOpen 3 = true ∧ (s.pair 3).draining = true ∧ 0 < s.sqFilled 3) ∧
    (isOk (parseEntry false (zeros 9 ++ [0x40] ++ zeros 54) none none) = false ∧ tPasses (tQueue tPair) tEntry false = true) ∧
    ((tQueue tPair).sqWaiting 3 = true ∧ ((tQueue tPair 8).qKind 3 = 0 ∧ (tQueue tPair 8).inD3 0 = false ∧ tPair.error = false)) ∧
    ((tRun tFencedJob).job 0 = some tFencedJob ∧ tFencedJob.phase = .fenced ∧
      ∀ e ∈ (tRun tFencedJob).jobs, e.2.src = tFencedJob.src → tFencedJob.seqInQueue ≤ e.2.seqInQueue) ∧
    (∀ p ∈ [tPair, {}], (tTenant p).tenantPair 1 2 = some 3 ∧ ((tTenant p).pair 3).enabled = p.enabled ∧
      ((tTenant p).pair 3).idle = p.idle ∧ tget ((tTenant p).pair 3).lowHeld (aQ_CTL - 4) = none) ∧
    ((1 : Reg).getLsbD 0 = true ∧ (0 : Reg).getLsbD 0 = false) := by
  refine ⟨?_, ?_, ?_, ?_, ?_, ?_, ?_, ?_, ?_, ?_, ?_, ?_, ?_⟩ <;> decide +kernel

/-- An entry that passes its checks becomes a job, and the head moves past it (R167, R181). -/
theorem test_entry_becomes_job : (match exec (.entryFetch 3 tEntry none none) (tQueue tPair) with
    | .next t => (t.pair 3).sqHead == 1 && (t.job 0).any fun b => b.opcode == opREADY_QUERY && b.src == .queue 3
    | _ => false) = true := by decide +kernel

/-! ### Jobs and berths -/

/-- A digest that waits for an engine. -/
def tHash : Job := tDirect opDIGEST_ONESHOT [⟨0x0090, [1]⟩]

def tReadyRun (b : Job) : State :=
  { tRun b with pw := { tOn.pw with ready := 0xFFFFFF }, tb := { tOn.tb with stamp := ⟨0, 2⟩ }, mp := { state := .run } }

def tSlow : Job := { tJob opPAIR_STATUS with phase := .slow }

theorem test_witness_JobsStart :
    (∀ dl ∈ [0, 1], let b := { tHash with deadline := dl }; let s := tReadyRun b
      s.job 0 = some b ∧ s.engUsable 6 11 = true ∧ s.domain (engDomain 6 11) ≠ .draining ∧ (s.eng (engKey 6 11)).leadIn = none ∧
      s.fc.withheld ≠ some (6, 11) ∧ (s.eng (engKey 6 11)).berth = none ∧ (s.eng (engKey 6 11)).saved = [] ∧
      s.hasEventBerth b = false ∧ bitAt (s.fld aDE_CTL 11 0) 11 = true ∧ bitAt (s.fld aSE_CTL 7 0) 7 = true ∧
      s.candidate b 6 11 = true ∧ s.forkSet b 6 11 none = some [] ∧ s.clearsBerth b 6 11 [] = true ∧
      (∀ e ∈ s.jobs, e.2.waitsFor 6 = true → s.hasEventBerth e.2 = false → e = (0, b)) ∧ b.inst ≤ 128 ∧ s.weight b.inst 6 ≠ 0 ∧
      s.deadlinePassed b = (dl == 1) ∧ (s.planOf b).1.early = none ∧ (s.planOf b).1.resultLen ≤ b.resultCap ∧
      (s.planOf b).1.outLen ≤ outputLen b.frags ∧ (s.planOf b).1.bad = none ∧ (s.planOf b).1.needs = [] ∧
      (s.leafGrant b = .none) ∧ (∀ e ∈ engKey 6 11 :: (if b.twoHalves then s.halfFor.toList else []), s.covered b (e / 64) e = true) ∧ b.noEngine = false ∧
      clusterOf 6 11 = none ∧ s.badCopy b.handle = none ∧ b.task = none) ∧
    (∃ s', (tReadyRun tHash).approve 0 [] = .ok s') ∧
    (∀ inst ∈ [0, 5], let b := { tSlow with inst := inst }; let s := { tReadyRun b with insts := [(5, { state := .quiescing })] }
      s.job 0 = some b ∧ s.mp.state = .run ∧ (s.jobsWhere fun x => x.isMp && x.phase == .running).length < 4 ∧
      s.fc.mstate ≠ .fault ∧ b.phase = .slow ∧ ∀ e ∈ s.jobs, e.2.phase = .slow → e = (0, b) ∨ b.order < e.2.order) ∧
    (let b := { tSlow with deadline := 1 }
     (tReadyRun b).job 0 = some b ∧ b.phase = .slow ∧ b.ending = none ∧ (tReadyRun b).deadlinePassed b = true) := by
  refine ⟨?_, ⟨_, rfl⟩, ?_, ?_⟩ <;> decide +kernel

/-- The digest runs on the engine it was granted (R91). -/
theorem test_grant_starts : (match exec (.jobGrant .de 11) (tReadyRun tHash) with
    | .next t => (t.eng (engKey 6 11)).busy == some 0 && (t.job 0).any fun b => b.phase == .running
    | _ => false) = true := by decide +kernel

def tEnded (src : Source) (discard : Bool := false) : Job :=
  { tJob opPAIR_STATUS with src := src, phase := .ended, ending := some (done []), engine := some (6, 0), discard := discard }

theorem test_witness_JobsComplete :
    (∀ src ∈ [Source.session 0 0, .console, .queue 3], ∀ d, let b := tEnded src d
      (tRun b).job 0 = some b ∧ b.phase = .ended ∧ b.ending = some (done []) ∧ (∀ ev, b.src ≠ .event ev) ∧
      b.engine.isSome ∧ b.noEngine = false ∧ b.discard = d ∧ b.interrupted = false ∧ b.src ≠ .mp) ∧
    ((tQueue tPair).inD3 ((tQueue tPair).pair 3).owner = false ∧ (tQueue tPair).cqFree 3 ≠ 0 ∧ tPair.hold = []) ∧
    ((tRun tHash).job 0 = some tHash ∧ tHash.phase ≠ .ended) := by
  refine ⟨fun src hs d => ⟨rfl, rfl, rfl, fun ev h => ?_, rfl, rfl, rfl, rfl, fun h => ?_⟩, ⟨?_, ?_, rfl⟩, rfl, ?_⟩
  · have : src = .event ev := h
    subst this
    simp at hs
  · have : src = .mp := h
    subst this
    simp at hs
  all_goals decide +kernel

/-- A berth of class c on its engine 0, lent when idle, for instance 0. -/
def tBerth (c : Nat) : Berth :=
  { id := 2, kind := 3, flags := 2, owner := 0, cls := c, mask := 1, start := 0, len := 9, tail := 1, budget := 9, profOp := 0,
    profSet := 0 }

/-- Its engine runs job 0, which is of no berth, while job 1 of the owner waits. -/
def tBerths (c : Nat) (b : Job) : State :=
  { tReadyRun b with jobs := [(0, b), (1, tHash)], regs := [(aXS_QUANTUM, 0x10FA0)],
                     engines := [(engKey c 0, { busy := some 0 })],
                     xs := { active := some { tManifest with berths := [tBerth c] }, runs := [(2, { running := true })] } }

def tDrainer : Job := { tJob opDIGEST_ONESHOT with src := .queue 3, preemptAsked := true }

theorem test_witness_BerthsAndPreemption :
    (∀ c ∈ [1, 6, 7], (tBerths c (tJob opDIGEST_ONESHOT)).berthOf 2 = some (tBerth c)) ∧
    (let b := tJob opDIGEST_ONESHOT; let s := tBerths 6 b; let w := tBerth 6
     w.cls ≠ 1 ∧ w.cls ≠ 7 ∧ (s.run 2).running = true ∧ s.lends w = true ∧ (1, tHash) ∈ s.ownerJobs w ∧
      (∀ k ∈ w.engKeys, s.engUsable w.cls (k % 64) = false ∨ s.budgetLeft w (k % 64) = false) ∧
      (∃ k ∈ w.engKeys, s.budgetLeft w (k % 64) = true ∧ ((s.eng k).busy.bind s.job).any
        (fun x => x.berth.isNone && x.phase == .running && !x.preemptAsked) = true)) ∧
    (∀ asked, let b := { tJob opDIGEST_ONESHOT with preemptAsked := asked }; let s := tBerths 6 b
     (s.eng (engKey 6 0)).busy = some 0 ∧ s.job 0 = some b ∧ b.phase = .running ∧ b.wait = .no ∧ s.drainAborts b = false ∧
      b.discard = false ∧ b.preemptAsked = asked ∧ b.quantumOver = false ∧ b.half = none ∧
      (tAfter s).passed b.grantUp ((tAfter s).reg aXS_QUANTUM) = true) ∧
    (let s := { tBerths 6 tDrainer with pairs := [(3, { draining := true })] }
     s.job 0 = some tDrainer ∧ tDrainer.phase = .running ∧ tDrainer.wait = .no ∧ s.drainAborts tDrainer = true ∧ tDrainer.half = none) := by
  refine ⟨?_, ⟨?_, ?_, ?_, ?_, ?_, ?_, ?_⟩, ?_, ?_⟩ <;> decide +kernel

/-! ### Time, and the management processor -/

def tTime (src : Option TimeSource) (q : List TimeSource) (st : TbState) : State :=
  { tOn with regs := [(aXS_TB_CTRL, 0x17), (aXS_PTP_PORT, 0x00010000)],
             mp := { state := .run }
             tb := { tOn.tb with
               source := src, qualified := q, state := st, slewing := true, holdSeconds := 86400, ppsCount := 10, irigCount := 10
               ptpPrimary := { grandmaster := true, goodSeconds := 10 }, ptpBackup := { grandmaster := true, goodSeconds := 10 } } }

theorem test_witness_TimeSources :
    (∀ src ∈ [TimeSource.ptpPrimary, .ptpBackup, .ppsIrig, .irigOnly], (tTime none [] .free).timeEnabled src = true ∧ (tTime none [] .free).timeQualifies src = true ∧
      (tAfter (tTime none [] .free)).timeLost src = true) ∧
    (timePriority .ptpPrimary < timePriority .ptpBackup ∧ timePriority .irigOnly ≤ timePriority .irigOnly) ∧
    (tTime none [] .free).mp.state = .run ∧
    (50000 : Int).natAbs ≤ 50000 ∧ 50000 < (-50001 : Int).natAbs ∧ (tTime none [] .free).fld aXS_TB_CTRL 4 4 = 1 ∧
    ({ tOn with regs := [(aXS_TB_CTRL, 7)] } : State).fld aXS_TB_CTRL 4 4 ≠ 1 ∧
    (let s := tTime (some .ptpPrimary) [.ptpPrimary] .locked
     s.tb.source = some .ptpPrimary ∧ (∀ x ∈ s.tb.qualified, x = .ptpPrimary) ∧ s.tb.state = .locked) ∧
    (let s := tTime (some .ptpPrimary) [.ptpPrimary, .irigOnly, .ppsIrig] .locked
     TimeSource.ppsIrig ∈ s.tb.qualified ∧ TimeSource.ppsIrig ≠ .ptpPrimary ∧
      ∀ x ∈ s.tb.qualified, x ≠ .ptpPrimary → timePriority .ppsIrig ≤ timePriority x) ∧
    ((tTime (some .ppsIrig) [] .free).tb.source.isSome ∧ (tTime (some .ppsIrig) [] .free).tb.slewing = true ∧
      (1000 : Int).natAbs ≤ 1000 ∧ 1000 < (1001 : Int).natAbs) ∧
    ((tTime none [] .holdover).tb.state = .holdover ∧
      (tTime none [] .holdover).fld aXS_HOLDOVER_LIMIT 16 0 ≤ (tTime none [] .holdover).tb.holdSeconds) ∧
    ((tTime none [] .free).fld aXS_TB_CTRL 1 1 = 1 ∧ (tTime none [] .free).fld aXS_TB_CTRL 2 2 = 1) := by
  refine ⟨?_, ?_, ?_, ?_, ?_, ?_, ?_, ?_, ?_, ?_, ?_, ?_⟩ <;> decide +kernel

/-- The MP runs, both ports are enabled, and the session 4 of port 1 is open. -/
def tMp : State :=
  { tOn with mp := { state := .run, sessions := [{ port := 1, id := 4, version := (2, 2) }], nextSession := 5 },
             regs := [(aMP_MGMT_EN, 3)], ks := { trust := [⟨2, []⟩] } }

/-- A console frame of 32 zero bytes with its check sequence. -/
def tConsole : Bytes := zeros 32 ++ leBytes (fcs32 (zeros 32)) 4

theorem test_witness_ManagementChannels :
    (tMp.mpServes = true ∧ tlsGroups ≠ [] ∧ ([] : List Nat).any tlsGroups.contains = false ∧ tlsGroups.any tlsGroups.contains = true ∧
      [tlsSuite].contains tlsSuite = true ∧ tlsSigs.any tlsSigs.contains = true ∧ 1 ≤ 1 ∧ tMp.fld aMP_MGMT_EN 1 1 = 1 ∧ tMp.ks.trust.any (fun x => x.role == 2) = true ∧
      (tMp.mp.sessions.filter fun x => x.port == 1).length < 4) ∧
    (tOn.mpServes = false ∧ 1 < 2 ∧ tMp.fld aMP_MGMT_TCP 15 0 + 1 ≠ tMp.fld aMP_MGMT_TCP 15 0 ∧
      ((tAfter tMp).session 1 4).any (fun x => (tAfter tMp).passed x.lastPacket (600 * 10 ^ 9)) = true) ∧
    ((tMp.session 1 4).isSome ∧ 32 ≤ (zeros 32).length ∧ tMp.outstanding (.session 1 4) < 16) ∧
    (36 ≤ (unstuff tConsole).length ∧ fcs32 ((unstuff tConsole).take ((unstuff tConsole).length - 4)) =
      leNat ((unstuff tConsole).drop ((unstuff tConsole).length - 4)) ∧ tMp.outstanding .console = 0) ∧ 1 ≠ 2 := by
  refine ⟨?_, ?_, ?_, ?_, ?_⟩ <;> decide +kernel

theorem test_witness_ManagementProcessorStates :
    (tMp.mp.state = .run ∧ tMp.mp.runSince = none) ∧
    (let s : State := { tMp with mp := { tMp.mp with runSince := some 0 } }
     s.mp.runSince = some 0 ∧ (s.at_ 5).now < 0 + 10 ^ 10) ∧
    (let b := { tJob opPAIR_STATUS with interrupted := true }; let s : State := { tRun b with mp := { state := .restart } }
     s.mp.state = .restart ∧ Tab.rising s.jobs = true ∧ s.job 0 = some b ∧ b.interrupted = true ∧ s.now < s.mp.restartUp + 10 ^ 9 ∧
      (tAfter s).passed (tAfter s).mp.restartUp (10 ^ 9) = true) := by
  refine ⟨?_, ?_, ?_⟩ <;> decide +kernel

/-! ### Vector units -/

def tOp : LvuOp :=
  { vd := 0, va := 2, vb := 4, pred := 0, grp := 0, w32 := false, rnd := 0, sat := false, aux := 0, imm := 1, portA := 0x100,
    portB := 0x200, uaddr := 0, hw := [] }

/-- PE 15 runs job 0; its unit reads and writes the first 64 KiB, and holds an odd modulus at 0x100. -/
def tLvu (l : Lvu := {}) : State :=
  { tRun (tJob opMLKEM_KEYGEN) with
    engines := [(engKey 1 15, { busy := some 0 })]
    lvus := [(15, { l with winR := [(0, 0xFFFF)], winW := [(0, 0xFFFF)], mem := [(0x100, 7)] })] }

/-- Every instruction can be issued on PE 15, with its register operands and its variant. -/
theorem test_lvu_ready : ∀ row ∈ lvuRows, tLvu.lvuReady 15 row.1 tOp (row.2.2.1 tOp) (row.2.2.2 tOp) = true := by decide +kernel

theorem test_witness_LvuIntegerInstructions : tOp.hw = [] ∧
    (∀ lop ∈ [0x05, 0x15, 0x16], tLvu.lvuReady 15 lop tOp [tOp.vd, tOp.va] true = true) ∧
    (∀ lop ∈ [0x10, 0x11, 0x12, 0x13, 0x14, 0x18, 0x19, 0x1A, 0x29], tLvu.lvuReady 15 lop tOp [tOp.vd, tOp.va, tOp.vb] true = true) ∧
    tLvu.lvuReady 15 0x06 tOp [tOp.vd] true = true := by decide +kernel

/-- 0x7FFF + 1 wraps to 0x8000, and saturates at 0x7FFF (R361). -/
theorem test_lvu_add : (let s := tLvu { v := [(2, 0x7FFF), (4, 1)] }
    (match exec (.vadd 15 tOp) s with
      | .next t => lvuElem (t.lvu 15) tOp 0 0 == 0x8000
      | _ => false) = true ∧
    (match exec (.vsadd 15 tOp) s with
      | .next t => lvuElem (t.lvu 15) tOp 0 0 == 0x7FFF
      | _ => false) = true) := by decide +kernel

theorem test_witness_LvuModularInstructions :
    (∀ lop ∈ [0x09, 0x0A, 0x0B], tLvu.lvuReady 15 lop tOp [tOp.vd, tOp.va, tOp.vb] (tOp.aux ≤ 1) = true) ∧
    (∀ lop ∈ [0x0C, 0x20, 0x21, 0x24], tLvu.lvuReady 15 lop tOp [tOp.vd, tOp.va] (tOp.aux ≤ 1) = true) ∧
    (∀ lop ∈ [0x22, 0x23], tLvu.lvuReady 15 lop tOp [tOp.vd, tOp.vd + lopG tOp, tOp.va] (tOp.aux ≤ 1) = true) ∧ 1 < 7 ∧ 7 % 2 = 1 ∧
    montInv 7 16 * 2 ^ 16 % 7 = 1 := by decide +kernel

theorem test_witness_LvuMemoryInstructions :
    tLvu.lvuReady 15 0x01 tOp [tOp.vd] true = true ∧ tLvu.lvuReady 15 0x02 tOp [tOp.va] true = true ∧
    tLvu.lvuReady 15 0x03 tOp [tOp.vd, tOp.vb] (countOk tOp) = true ∧ tLvu.lvuReady 15 0x04 tOp [tOp.va, tOp.vb] (countOk tOp) = true ∧
    tLvu.lvuReady 15 0x08 tOp [] true = true ∧
    (List.range (lopN tOp)).all (fun i => inWindow (tLvu.lvu 15).winR (tOp.portA % 2 ^ 18 + i * lopBytes tOp) (lopBytes tOp)) = true ∧
    (List.range (lopCount tOp)).all (fun i => inWindow (tLvu.lvu 15).winW ((tLvu.lvu 15).indexed tOp i) (lopBytes tOp)) = true ∧
    (let q := memLoad (tLvu.lvu 15).mem (tOp.portA % 2 ^ 18) 4
     inWindow (tLvu.lvu 15).winR (tOp.portA % 2 ^ 18) 4 = true ∧ q = 7 ∧ q % 2 = 1 ∧ 3 ≤ q ∧ q < 2 ^ 15) := by
  decide +kernel

theorem test_witness_LvuPredicateAndPermutation :
    tLvu.lvuReady 15 0x28 { tOp with vd := 3 } [tOp.va, tOp.vb] (tOp.aux ≤ 3) = true ∧ 3 % 8 ≠ 0 ∧
    (∀ lop ∈ [0x00, 0x2A], tLvu.lvuReady 15 lop tOp [] true = true) ∧
    (∀ lop ∈ [0x30, 0x31], tLvu.lvuReady 15 lop tOp [tOp.vd, tOp.va] (tOp.aux ≤ 1) = true) ∧
    tLvu.lvuReady 15 0x07 tOp [tOp.vd] (tOp.aux ≤ 1) = true ∧ 0 < 4 ∧ permSource 1 128 4 (deintSource 4 5) = 5 := by decide +kernel

/-- An uncorrectable read of element 3. -/
def tStruck : LvuOp := { tOp with hw := [(1, 3)] }

def tWaiting (lop : Nat) : State := tLvu { restart := some ⟨lop, tOp, [], true, 3⟩ }

theorem test_witness_LvuFaultsAndRestarts :
    (∀ row ∈ lvuRows, tLvu.lvuReady 15 row.1 tStruck (row.2.2.1 tStruck) (row.2.2.2 tStruck) = true ∧
      (firstFault (lvuFaults row.1 tStruck (tLvu.lvu 15))).isSome = true) ∧
    (((tWaiting 0x10).lvu 15).restart.isSome = true ∧ (lvuDo 0x10 [] tOp ((tWaiting 0x10).lvu 15)).faults = [] ∧
      (firstFault (hwFaults [(1, 3)] fun _ => 0)).isSome = true) := by decide +kernel

/-- A fault leaves the registers and waits for the restart (R366, R367). -/
theorem test_lvu_fault : (match exec (.vmov 15 tStruck) (tLvu { v := [(2, 5)] }) with
    | .next t => lvuElem (t.lvu 15) tOp 0 0 == 0 && (t.lvu 15).restart.isSome && t.mc.flt.any (fun f => f.element == 3)
    | _ => false) = true := by decide +kernel

theorem test_witness_LvuStoresStayInWindow : inWindow (tLvu.lvu 15).winW 0x10000 1 = false ∧
    (∃ t, exec (.vst 15 tOp) tLvu = .next t) ∧ ((tWaiting 0x02).lvu 15).restart = some ⟨0x02, tOp, [], true, 3⟩ ∧
    (lvuDo 0x02 [] { tOp with hw := [] } ((tWaiting 0x02).lvu 15)).faults = [] ∧
    ∃ t, exec (.lvuRestart 15 []) (tWaiting 0x02) = .next t := by
  refine ⟨by decide +kernel, ⟨_, rfl⟩, rfl, by decide +kernel, ⟨_, rfl⟩⟩

/-! ### Microcode -/

def tPack : Pack := { uw := 8, nw := 8, fmt := 2, base := true }

/-- Engine 0 of class c runs job 0, in a routine of a pack of eight words. -/
def tSeq (c : Nat) (q : Sequencer) : State :=
  { tRun (tJob opMLKEM_KEYGEN) with
    engines := [(engKey c 0, { busy := some 0 })]
    seqs := [(engKey c 0, q)]
    mc := { clusters := [(0, { pack := some tPack }), (4, { pack := some tPack })] } }

theorem test_witness_MicrowordsRun :
    (∀ c ∈ [EngClass.pe, .me], let s := tSeq (classCode c) { pc := 7 }; let k := engKey (classCode c) 0
      0 < classSize (classCode c) ∧ (∃ x ∈ [0, 4], clusterOf (classCode c) 0 = some x ∧ (s.packOf x).uw = 8 ∧ (s.packOf x).nw = 8) ∧
      (s.eng k).busy = some 0 ∧ s.job 0 = some (tJob opMLKEM_KEYGEN) ∧ (tJob opMLKEM_KEYGEN).phase = .running ∧
      (s.seq k).ended = false ∧ (s.lvu 0).restart = none ∧ (s.seq k).pc < 8 ∧ 7 % 16384 < 8 ∧ 8 ≤ 8 % 16384 ∧
      (s.seq k).ret = [] ∧ (s.seq k).cycles < 2000 ∧ (∀ x ∈ [0, 4], (s.packOf x).base = true) ∧
      (tAfter s).passed (tJob opMLKEM_KEYGEN).grantUp 1600 = true ∧ s.drainAborts (tJob opMLKEM_KEYGEN) = false) ∧
    (classCode .me ≠ 1 ∧ 2000 ≤ ((tSeq 2 { cycles := 2000 }).seq (engKey 2 0)).cycles) ∧
    (let s := tSeq 1 { ret := [1, 2, 3, 4, 5, 6, 7, 8] }
     8 ≤ (s.seq (engKey 1 0)).ret.length ∧ (s.seq (engKey 1 0)).ret = 1 :: [2, 3, 4, 5, 6, 7, 8]) ∧
    ((tSeq 1 { ret := [9, 9, 9, 9, 9, 9, 9] }).seq (engKey 1 0)).ret.length < 8 := by
  refine ⟨?_, ?_, ?_, ?_⟩ <;> decide +kernel

/-- CALL pushes the address after it and goes to twice IMM (R371). -/
theorem test_call : (match exec (.uwCall .me 0 7 3) (tSeq 2 { pc := 4 }) with
    | .next t => (t.seq (engKey 2 0)).pc == 6 && (t.seq (engKey 2 0)).ret == [5]
    | _ => false) = true := by decide +kernel

def tLoad (mask : Byte) : Job := tJob opMICROCODE_LOAD [⟨0x0121, [mask]⟩]

def tClusters (x : LoadState) (b : Job) : State :=
  { tRun b with
    mc := { clusters := [(3, { load := x, pack := some tPack })] }
    pw := { tOn.pw with ready := 0xFFFFFF }
    mp := { state := .run } }

def tSegments : Job := { tLoad 8 with wait := .segments 8 }

theorem test_witness_MicrocodePacks :
    (∀ m ∈ [0, 8], let b := tLoad m
      runsMp (tClusters .active b) 0 b opMICROCODE_LOAD ∧ tlvNat b.params 0x0122 1 ≤ 1 ∧ tlvNat b.params 0x0123 0 ≤ 1 ∧
      b.noRoom (tlvLen 8 + tlvLen 64) = false ∧ Nat.land (tClusters .active b).loading b.loadMask = 0 ∧ b.engineStatus = none ∧
      (tClusters .active b).classUp 1 = true ∧ ({ tClusters .active b with pw := tOn.pw } : State).classUp 1 = false) ∧
    (let s := tClusters .draining tSegments
     s.loadOf 3 = some 0 ∧ s.job 0 = some tSegments ∧ (s.cluster 3).load = .draining ∧
      (∀ e ∈ clusterEngines 3, (s.eng (engKey e.1 e.2)).busy = none ∧ (s.eng (engKey e.1 e.2)).saved = []) ∧
      tSegments.wait = .segments 8 ∧ bitAt 8 3 = true) ∧
    ((tClusters .reloading tSegments).cluster 3).load = .reloading ∧
    (let s := { tClusters .active (tJob opMLKEM_KEYGEN) with engines := [(engKey 1 15, { busy := some 0 })] }
     15 < classSize (classCode .pe) ∧ clusterOf (classCode .pe) 15 = some 3 ∧ (s.eng (engKey (classCode .pe) 15)).busy = some 0 ∧
      s.job 0 = some (tJob opMLKEM_KEYGEN) ∧ (tJob opMLKEM_KEYGEN).phase = .running ∧ (s.packOf 3).fmt = 2) ∧
    (let s := tClusters .active tSegments
     7 < 8 ∧ s.mp.state = .run ∧ s.ready 4 = true ∧ s.domain (clusterDomain 7) = .on ∧ (s.cluster 7).load = .empty ∧
      tget s.mc.assigned 7 = none) := by
  refine ⟨fun m hm => ⟨⟨rfl, rfl, rfl, Or.inl rfl, rfl⟩, ?_⟩, ?_, ?_, ?_, ?_⟩
  · revert m; decide +kernel
  all_goals decide +kernel

/-! ### The twin pair -/

/-- A session with its keys, in which nothing waits. -/
def tTwin (x : Twin := {}) : State :=
  { tOn with tw := { x with recvKey := zeros 32, sendKey := zeros 32 }, mp := { state := .run }, pw := { tOn.pw with ready := 0xFFFFFF } }

def tPairJob (wait : List Tlv := []) : Job :=
  tJob opPAIR_ESTABLISH ([⟨0x0140, [3]⟩, ⟨0x0141, zeros 32⟩, ⟨0x0142, [1]⟩] ++ wait)

def tPairNode : Node := { type := 0x30, policy := 1024 }

def tPairing (join : Byte) : State :=
  { tRun (tPairJob [⟨0x0145, [join]⟩]) with ks := { nodes := [(3, tPairNode)] } }

def tHb : Heartbeat :=
  { role := 2, state := 2, fault := false, mpRun := true, castleGo := false, parity := 2, stamp := ⟨0, 0⟩, mseqAcked := 0, updCounter := 0 }

/-- The joining wait from 1 to 60 s, and what lies beside it (R588). -/
theorem test_twin_join_bounds :
    let w := fun (join : Byte) (o : Nat) =>
      ((((tPairing join).twinWrites (tPairJob [⟨0x0145, [join]⟩])).find? fun w => w.1 == o).map (·.2)).getD ((tPairing join).reg o)
    (∀ j ∈ [1, 60], twinRefused (w j) = none) ∧ ∀ j ∈ [0, 61], twinRefused (w j) = some (1, aTW_CTL) := by
  refine ⟨?_, ?_⟩ <;> decide +kernel

theorem test_witness_TwinCommands :
    (let b := tPairJob [⟨0x0145, [60]⟩]; let s := tPairing 60
     runsMp s 0 b opPAIR_ESTABLISH ∧ b.has 0x0143 = false ∧ b.pairBad = false ∧ b.noRoom (tlvLen 64) = false ∧
      tget s.ks.nodes (tlvNat b.params 0x0140 0) = some tPairNode ∧ tPairNode.type = 0x30 ∧ bitAt tPairNode.policy 10 = true ∧
      twinRefused (fun o => (((s.twinWrites b).find? fun w => w.1 == o).map (·.2)).getD (s.reg o)) = none ∧
      s.tw.hs = none ∧ s.tw.castle = none) ∧
    (let b := tJob opPAIR_ESTABLISH [⟨0x0143, [1]⟩]
     runsMp (tRun b) 0 b opPAIR_ESTABLISH ∧ b.params.length = 1 ∧ tlvNat b.params 0x0143 0 = 1 ∧
      b.noRoom (tlvLen 64) = false ∧ (tRun b).tw.hs = none ∧ (tRun b).tw.castle = none ∧ (tRun b).mpSets = [] ∧
      ({ tRun b with mp := { state := .run } } : State).groupsBusy 0x0200 = false) ∧
    (∀ w ∈ [[1], [0, 0x77, 1]], let b := tJob opCASTLE [⟨0x0147, w⟩]
      let s : State := { tRun b with tw := { state := .paired, role := 1, lastHb := some tHb }, mp := { state := .run } }
      runsMp s 0 b opCASTLE ∧ 1 ≤ tlvNat b.params 0x0147 48000 ∧ tlvNat b.params 0x0147 48000 ≤ 96000 ∧
      b.noRoom (tlvLen 64) = false ∧ s.tw.state = .paired ∧ s.tw.role = 1 ∧ s.tw.castle = none ∧
      s.tw.lastHb.any (·.mpRun) = true ∧ s.tw.queue = [] ∧ b.atStamp 0x0149 = none) ∧
    (let b := tJob opPAIR_STATUS
     runsMp (tRun b) 0 b opPAIR_STATUS ∧ b.noRoom (tlvLen 64) = false) := by
  refine ⟨⟨⟨rfl, rfl, rfl, Or.inl rfl, rfl⟩, ?_⟩, ⟨⟨rfl, rfl, rfl, Or.inl rfl, rfl⟩, ?_⟩,
    fun w hw => ⟨⟨rfl, rfl, rfl, Or.inl rfl, rfl⟩, ?_⟩, ⟨rfl, rfl, rfl, Or.inl rfl, rfl⟩, rfl⟩
  · decide +kernel
  · decide +kernel
  · revert w; decide +kernel

def tPairHead (kind : Byte) (n : Nat) : Bytes := [1, kind, 0, BitVec.ofNat 8 n] ++ zeros 7 ++ [5] ++ zeros 4

/-- A frame of a kind with a body of n zero bytes, whose counter is 5 and whose tag fits path A. -/
def tPairFrame (kind : Byte) (n : Nat) : Bytes :=
  tPairHead kind n ++ zeros n ++ gcmTag (zeros 32) (frameIv 1 5) (tPairHead kind n) (zeros n)

/-- The parts of a frame with a head of 16 bytes. -/
theorem test_frame_parts (h body tag : Bytes) (hh : h.length = 16) :
    (h ++ body ++ tag).take 16 = h ∧ slice (h ++ body ++ tag) 16 body.length = body ∧
      (h ++ body ++ tag).drop (16 + body.length) = tag := by
  refine ⟨?_, ?_, ?_⟩
  · rw [List.append_assoc, ← hh]; exact List.take_left
  · unfold slice
    rw [List.append_assoc, ← hh, List.drop_left]; exact List.take_left
  · rw [← hh, ← List.length_append]; exact List.drop_left

theorem test_witness_PairingFrames :
    (tTwin.fc.mstate = .service ∧ TwinPath.plA ≠ .mgmt ∧ ({ tTwin with regs := [(aTW_CTL, 2)] } : State).mgmtPath = true) ∧
    (∀ e ∈ [((1 : Byte), 24), (2, 6), (3, 70), (4, 32), (5, 64), (0x50, 40)], let f := tPairFrame e.1 e.2
      f.length = 32 + beNat (slice f 2 2) ∧ beNat (slice f 2 2) = e.2 ∧ leAt f 1 1 = e.1.toNat ∧
      (tTwin.path .plA).rxCtr < beNat (slice f 4 8) ∧
      beNat (slice f 4 8) ≤ ((tTwin { paths := [(1, { rxCtr := 5 })] }).path .plA).rxCtr) ∧
    (∀ (kind : Byte) (n : Nat), let f := tPairFrame kind n
      f.drop (16 + n) = gcmTag tTwin.tw.recvKey (frameIv (pathCode .plA) 5) (f.take 16) (slice f 16 n)) ∧
    tTwin.tw.recvKey ≠ [] := by
  refine ⟨?_, ?_, fun kind n => ?_, ?_⟩
  · decide +kernel
  · decide +kernel
  · have h := test_frame_parts (tPairHead kind n) (zeros n) (gcmTag (zeros 32) (frameIv 1 5) (tPairHead kind n) (zeros n)) rfl
    rw [show (zeros n).length = n from List.length_replicate] at h
    show (tPairFrame kind n).drop (16 + n) = gcmTag (zeros 32) (frameIv 1 5) ((tPairFrame kind n).take 16) (slice (tPairFrame kind n) 16 n)
    unfold tPairFrame
    rw [h.1, h.2.1, h.2.2]
  · decide +kernel

def tHs : Handshake := { job := some 0, node := 3, role := 1, peerMid := zeros 32, peerNonce := [1], nonce := zeros 32, version := 2 }

def tShaking (h : Handshake) : State :=
  { tTwin { state := .pairing, hs := some h } with jobs := [(0, { tPairJob with wait := .pairing })] }

theorem test_witness_PairingHandshake :
    ((tShaking tHs).canPair = true ∧ (tShaking tHs).tw.hs = some tHs ∧ tHs.peerNonce ≠ [] ∧ tHs.proved = false ∧ tHs.version ≠ 1) ∧
    (tHs.peerNonce ≠ zeros 32 ∧ (tShaking tHs).helloBad tHs 1 2 0 2 4800 (zeros 32) [] = none) ∧
    ((tShaking tHs).helloBad tHs 1 2 0 1 4800 (zeros 32) [] = some stCONFIG_INCONSISTENT ∧ tHs.job = some 0 ∧
      ((tShaking tHs).job 0).isSome = true) ∧
    (∃ r, r ≠ pairProof ((tShaking tHs).pairSecret tHs.node) tHs.peerMid tHs.nonce) ∧
    (∃ r, r = pairProof ((tShaking tHs).pairSecret tHs.node) tHs.peerMid tHs.nonce) ∧
    ({ tHs with syncing := true } : Handshake).syncing = true := by
  refine ⟨?_, ?_, ?_, ⟨_, List.cons_ne_self 0 _⟩, ⟨_, rfl⟩, rfl⟩ <;> decide +kernel

def tRecord (mseq kind : Nat) : PairRecord := { mseq := mseq, kind := kind, body := [], job := some 0 }

def tAckJob : Job := { tDirect opKEY_INVALIDATE with wait := .ack 4, after := some (done []), waitUp := some 0 }

theorem test_witness_MirroredRecords :
    (tTwin.tw.recvKey ≠ [] ∧ tTwin.fc.mstate = .service ∧ tTwin.tw.early = [] ∧ tTwin.tw.applied = 0 ∧ 0 + 1 < 2 ∧
      tTwin.mp.state = .run ∧ mpRecord 0x10 = true ∧ ({ tTwin with mp := { state := .restart } } : State).mp.state ≠ .run) ∧
    (let s : State := { tTwin { queue := [tRecord 4 0x51] } with jobs := [(0, tAckJob)] }
     s.tw.queue.find? (fun x => x.mseq == 4) = some (tRecord 4 0x51) ∧ (tRecord 4 0x51).kind = 0x51 ∧
      (tRecord 4 0x51).job = some 0 ∧ s.job 0 = some tAckJob ∧ tAckJob.after = some (done []) ∧ s.tw.hs = none ∧
      s.tw.castle = none) ∧
    (∀ x ∈ (tTwin { queue := [tRecord 4 0x51] }).tw.queue, x.mseq ≠ 5) ∧
    (∀ kind ∈ [0x50, 0x51], let s : State := { tTwin { state := .frozen, queue := [tRecord 4 kind] } with jobs := [(0, tAckJob)] }
      s.tw.state = .frozen ∧ tRecord 4 kind ∈ s.tw.queue ∧ (tRecord 4 kind).job = some 0 ∧
      ((tRecord 4 kind).kind = 0x50 ∨ (tRecord 4 kind).kind = 0x51) ∧ s.job 0 = some tAckJob ∧
      (tAckJob.waitUp.any fun u => (tAfter s).passed u ((tAfter s).crossingsNs 2)) = true) := by
  refine ⟨?_, ?_, ?_, ?_⟩ <;> decide +kernel

def tCastle : Castling := { job := some 0, at_ := none, since := 0, wait := 1, c := some ⟨0, 0⟩, acked := true }

def tInGuard (x : Twin) : State :=
  { tRun (tJob opCASTLE) with tw := x, tb := { tOn.tb with inGuard := true } }

theorem test_witness_PairPathsAndStates :
    (∀ st ∈ [PairState.paired, .frozen], ∀ role ∈ [1, 2], let s := tTwin { state := st, role := role }
      s.tw.recvKey ≠ [] ∧ s.fc.mstate = .service ∧ s.tw.state = st ∧ s.tw.role = role) ∧
    (let s := tInGuard { promote := true, role := 2 }
     s.tw.promote = true ∧ s.tb.inGuard = true ∧ s.tw.role = 2) ∧
    (let s := tTwin { state := .rejoining }
     s.tw.state = .rejoining ∧ s.tw.hs.any (·.syncing) = false ∧
      (tAfter s).passed (tAfter s).tw.silentSince ((tAfter s).fld aTW_CTL 23 16 * 10 ^ 9) = true) ∧
    (let h := { tHs with wait := 0 }; let s := tShaking h
     s.tw.hs = some h ∧ h.job = some 0 ∧ (s.job 0).isSome = true ∧ h.since + h.wait ≤ s.tb.crossings) ∧
    (let c := { tCastle with acked := false, wait := 0 }; let s := tInGuard { castle := some c }
     s.tw.hs = none ∧ s.tw.castle = some c ∧ c.acked = false ∧ c.job = some 0 ∧ (s.job 0).isSome = true ∧
      c.since + c.wait ≤ s.tb.crossings) := by
  refine ⟨?_, ?_, ?_, ?_, ?_⟩ <;> decide +kernel

theorem test_witness_CastlingCommits :
    (let s := tInGuard { castle := some tCastle }
     s.tb.inGuard = true ∧ s.tw.castle = some tCastle ∧ tCastle.acked = true ∧ tCastle.committed = false ∧
      tCastle.c = some s.tb.stamp) ∧
    (let s := tInGuard { staged := some ⟨0, 0⟩, goHeard := true }
     s.tw.castle = none ∧ s.tw.staged = some s.tb.stamp ∧ s.tw.goHeard = true) ∧
    (tOn.tb.inGuard = false ∧ tOn.tw.castle = none ∧ tOn.tw.goHeard = false) ∧
    (let c := { tCastle with committed := true, stillFollow := 2 }; let s := tInGuard { castle := some c }
     s.tw.castle = some c ∧ c.committed = true ∧ 2 ≤ c.stillFollow ∧ c.job = some 0 ∧ (s.job 0).isSome = true) := by
  refine ⟨?_, ?_, ?_, ?_⟩ <;> decide +kernel

/-- The former lead takes the odd parity and the follow's role (R279). -/
theorem test_castle_commits : (match exec .castleCommit (tInGuard { state := .paired, role := 1, castle := some tCastle }) with
    | .next t => t.tw.role == 2 && t.hbs.parity == 2
    | _ => false) = true := by decide +kernel

theorem test_witness_LockstepMismatchIsFatal :
    tOn.fc.mstate = .service ∧ tOn.domain 1 = .on ∧ tOn.mp.state ≠ .halted ∧ 1 < 2 := by decide +kernel

theorem test_witness_TwinGroupRefused :
    ((tOn.groupCheck 0x200 9).isNone = true ∧
      ({ tOn with cfg := { pending := 0x200 }, shadow := [(aTW_CTL, 0)] } : State).groupCheck 0x200 9 = some (1, aTW_CTL) ∧
      ({ tOn with cfg := { pending := 0x200 }, shadow := [(aTW_CTL, 0x3C0002)] } : State).groupCheck 0x200 9 = some (2, aTW_CTL) ∧
      (0x200 : BitVec 16).getLsbD 9 = true) ∧
    (∀ j ∈ [0, 61], let b := tPairJob [⟨0x0145, [j]⟩]; let s := tPairing j
      runsMp s 0 b opPAIR_ESTABLISH ∧ b.has 0x0143 = false ∧ b.pairBad = false ∧ b.noRoom (tlvLen 64) = false ∧
      tget s.ks.nodes (tlvNat b.params 0x0140 0) = some tPairNode ∧
      (let w := fun o => (((s.twinWrites b).find? fun x => x.1 == o).map (·.2)).getD (s.reg o)
       bitsAt (w aTW_CTL) 23 16 < 1 ∨ 60 < bitsAt (w aTW_CTL) 23 16)) := by
  refine ⟨?_, fun j hj => ⟨⟨rfl, rfl, rfl, Or.inl rfl, rfl⟩, ?_⟩⟩
  · decide +kernel
  · revert j; decide +kernel

/-! ### Faults, alarms and power -/

def tFaulted (x : ModuleState) (b : Job) : State := { tRun b with fc := { mstate := x }, pw := { tOn.pw with ready := 0xFFFFFF } }

def tLogRead : Job := tJob opFAULT_LOG_READ [⟨0x0152, [0]⟩, ⟨0x0153, [120]⟩]

def tClear (release : Byte) : Job := tJob opFAULT_CLEAR [⟨0x0157, [7]⟩, ⟨0x0158, [0xFF, 0xFF]⟩, ⟨0x0159, [release]⟩]

def tSelftest : Job := tJob opSELFTEST [⟨0x0150, [0xFF, 0x1F]⟩]

theorem test_witness_FaultCommands :
    (runsMp (tFaulted .service tLogRead) 0 tLogRead opFAULT_LOG_READ ∧ 1 ≤ tlvNat tLogRead.params 0x0153 0 ∧
      tlvNat tLogRead.params 0x0153 0 ≤ 120 ∧ tlvNat tLogRead.params 0x0154 0 ≤ 1 ∧ tLogRead.noRoom (tlvLen 0 + tlvLen 8) = false) ∧
    (∀ r ∈ [0, 1], runsMp (tFaulted .latched (tClear r)) 0 (tClear r) opFAULT_CLEAR ∧
      tlvNat (tClear r).params 0x0157 0 ≤ 7 ∧ tlvNat (tClear r).params 0x0158 0 = 0xFFFF ∧
      tlvNat (tClear r).params 0x0159 0 = r.toNat ∧ (tFaulted .latched (tClear r)).fc.mstate = .latched) ∧
    (runsMp (tFaulted .service tSelftest) 0 tSelftest opSELFTEST ∧ tlvNat tSelftest.params 0x0150 0 < 2 ^ 13 ∧
      tSelftest.noRoom (tlvLen 4) = false ∧ tSelftest.engineStatus = none ∧
      (targetEngines 0).any (·.1 ≤ 6) = true ∧ (tFaulted .service tSelftest).ready (targetBit 0) = true ∧
      (tRun tSelftest).ready (targetBit 0) = false) ∧
    ((0 : Reg) ≠ 0x4C45524B ∧ tOn.fc.mstate ≠ .latched) := by
  refine ⟨⟨⟨rfl, rfl, rfl, Or.inl rfl, rfl⟩, ?_⟩, fun r hr => ⟨⟨rfl, rfl, rfl, Or.inl rfl, rfl⟩, ?_⟩, ⟨⟨rfl, rfl, rfl, Or.inl rfl, rfl⟩, ?_⟩, ?_⟩
  · decide +kernel
  · revert r; decide +kernel
  all_goals decide +kernel

def tMsg (source kind : Nat) : FaultMsg := { source := source, access := 0, kind := kind, master := 0, address := 0, fatal := true }

/-- DE 1 runs job 0. -/
def tBusyDe : State := { tFaulted .service (tJob opDIGEST_ONESHOT) with engines := [(engKey 6 1, { busy := some 0 })] }

def tRecorded : LogRecord := { seq := 0, cls := 0, msg := [], stamp := ⟨0, 0⟩, ns := 0, step := 0 }

theorem test_witness_FaultCollectionAndRecovery :
    (tBusyDe.domain 0 = .on ∧ kindClass (tMsg 0x600 0x01).kind true = some 0 ∧ kindClass (tMsg 0x189 0x02).kind true = some 1 ∧
      kindClass (tMsg 0x600 0x40).kind true = some 2 ∧ kindClass (tMsg 0x600 0x21).kind true = some 2 ∧
      tget tBusyDe.fc.captures 1 = none ∧ tget ([(1, [5])] : Tab Bytes) 1 = some [5] ∧ 512 ≤ (tMsg 0x600 0x02).source ∧
      tBusyDe.fc.mstate = .service) ∧
    ((tMsg 0x189 0x02).source < 512 ∧ engOfSource (tMsg 0x189 0x02).source = some (6, 1) ∧ (6 : Nat) ≠ 7 ∧
      (tBusyDe.eng (engKey 6 1)).busy = some 0 ∧ (tBusyDe.job 0).isSome = true) ∧
    (({ tOn with fc := { withheld := some (6, 1) } } : State).fc.withheld.isSome = true) ∧
    (let s : State := { tOn with fc := { ring := [tRecorded] }, pw := { tOn.pw with ddrTrained := true } }
     s.pw.ddrTrained = true ∧ s.fc.log.length + s.fc.ring.length ≤ 33554432 ∧ s.fc.ring[0]? = some tRecorded) ∧
    tOn.pw.ddrTrained = false ∧ ((tFaulted .fault (tJob 0)).quietRuns = true ∧ (let s := tAfter (tFaulted .fault (tJob 0))
      s.quietRuns = true ∧ s.passed s.fc.quietFrom (s.fld aFC_CTL 9 0 * 10 ^ 9) = true)) ∧ tOn.quietRuns = false := by
  refine ⟨?_, ?_, ?_, ?_, ?_, ?_, ?_⟩ <;> decide +kernel

/-- A contained fault of DE 1 fails its job and takes it out of service (R594, R595). -/
theorem test_contained_fault : (match exec (.faultMessage (tMsg 0x189 0x02) 0) tBusyDe with
    | .next t => (t.eng (engKey 6 1)).oos && (t.job 0).any fun b => b.ending.any (·.status == stFAULT_CONTAINED)
    | _ => false) = true := by decide +kernel

def tFeeds (a b rails : Bool) : State := { tOn with pw := { tOn.pw with feedA := a, feedB := b, rails := rails } }

theorem test_witness_AlarmsAndMonitors :
    (∀ act ∈ [0, 1, 2], let s : State := { tOn with regs := [(aAL_ACTION, BitVec.ofNat 32 act)] }
      s.domain 0 = .on ∧ s.monitored 0 = true ∧ s.al.live.getLsbD 0 = false ∧ s.alarmAction 0 = act) ∧
    (10 ≤ 10 ∧ 5 < 6 ∧ tOn.domain 1 = .on ∧ tOn.inletLimit < 551 ∧ 550 ≤ tOn.inletLimit) ∧
    ((tFeeds true false true).pw.feedA = true ∧ (tFeeds true false true).pw.feedB = false ∧
      (tFeeds false true true).pw.feedA = false ∧ (tFeeds false true true).pw.feedB = true ∧
      (tFeeds false false true).pw.feedA = false ∧ (tFeeds false false true).pw.feedB = false) := by
  refine ⟨?_, ?_, ?_⟩ <;> decide +kernel

/-- An alarm with the erase action leaves no slot and the module out of SERVICE (R614, R615). -/
theorem test_alarm_erases : (match exec (.alarm 0 0) { tKeys (tJob 0) 1 with regs := [(aAL_ACTION, 1)] } with
    | .next t => t.ks.slots == [] && t.fc.mstate != .service
    | _ => false) = true := by decide +kernel

theorem test_witness_ResetsAndSupply :
    State.reset.pw.rails = false ∧ tOn.pw.rails = true ∧ (0 : Reg) ≠ 0x52535421 ∧
    ((tFeeds false false true).pw.feedA = false ∧ (tFeeds false false true).pw.feedB = false ∧
      (tFeeds false false true).pw.rails = true ∧ (tFeeds false false false).pw.rails = false) ∧ tOn.domain 0 = .on := by
  decide +kernel

def tBoot (ready : BitVec 24) : State :=
  { tOn with pw := { tOn.pw with ready := ready }, al := { capReady := true, record := some tRecorded }, mp := { state := .run } }

/-- One domain in a state of its own. -/
def tDomain (d : Nat) (x : DomainState) (eng : Tab Engine) : State :=
  { tOn with pw := { tOn.pw with domains := [(d, x)] }, engines := eng }

theorem test_witness_StartUpAndDomains :
    (tOn.mp.state = .boot ∧ tOn.domain 1 = .on ∧ tOn.fc.mstate ≠ .fault ∧ tOn.pw.floor ≤ tOn.pw.imgAVersion ∧ tOn.pw.preferred = 0 ∧
      tOn.pw.imgA ≠ 2) ∧
    (let s := tBoot 0x800008
     s.domain 3 = .on ∧ s.al.capReady = true ∧ s.ks.roots = .pending ∧ s.ready 3 = true ∧ s.ready 23 = true ∧
      s.ready 2 = false ∧ (3 < 4 ∧ 4 ≤ 4)) ∧
    ({ tBoot 8 with ks := { roots := .ready } } : State).ks.roots = .ready ∧
    (tOn.domain 19 = .on ∧ (tBoot 4).ready 2 = true) ∧
    (let s : State := { tBoot 0x400004 with n6 := { regs := [(aPT_LANE, 1)], insts := [5] } }
     s.mp.state = .run ∧ s.pw.restored = false ∧ s.pw.restoring = 0 ∧ Tab.rising s.n6.regs = true ∧ (aPT_LANE, 1) ∈ s.n6.regs ∧
      groupOf aPT_LANE = some 6 ∧ s.cfg.pending &&& 0x83C0 = 0 ∧ s.mpSets = [] ∧ s.ready 2 = true ∧ s.ready 22 = true ∧
      5 ∈ s.n6.insts ∧ s.al.record = some tRecorded ∧ tRecorded ∉ s.fc.history) ∧
    (({ tOn with pw := { restoring := 0x83C0 } } : State).pw.restoring.getLsbD 8 = true ∧
      ({ tOn with pw := { domains := [] } } : State).domain 5 = .off ∧ bitAt (tOn.reg aPWR_CTL) 5 = true) ∧
    ((tDomain 14 .powering []).domain 14 = .powering ∧ (tDomain 14 .powering []).pw.rails = true ∧
      (tDomain 14 .powering []).fc.mstate = .service ∧ 17 ∈ domainBits 14 ∧ (tDomain 14 .powering []).bitDue 17 = true) ∧
    ((tDomain 5 .draining []).domain 5 = .draining ∧
      (∀ e ∈ domainEngines 5, ((tDomain 5 .draining []).eng (engKey e.1 e.2)).busy = none ∧
        ((tDomain 5 .draining []).eng (engKey e.1 e.2)).saved = []) ∧
      ∃ e ∈ domainEngines 5, ((tDomain 5 .draining [(engKey 1 0, { busy := some 0 })]).eng (engKey e.1 e.2)).busy ≠ none) := by
  refine ⟨?_, ?_, ?_, ?_, ?_, ?_, ?_, ?_⟩ <;> decide +kernel

def tLink (x : LinkState) : State := { tOn with pcie := { link := x, waiting := [(0, 4)], msix := [(msixKey 0 4 12, 0)] } }

def tTimer (p : Pcie) : State :=
  { tOn with regs := [(qReg 3 aQ_VECTOR, 4), (qReg 3 aQ_MOD, 2)], pairs := [(3, { tPair with modCount := 1 })], pcie := p }

theorem test_witness_LinkAndInterrupts :
    (tOn.domain 20 = .on ∧ tOn.pcie.link = .down ∧ (tLink .l0).pcie.link = .l0 ∧ (tLink .l0).pcie.link ≠ .down ∧
      (tLink .l1).pcie.link = .l1 ∧ (tLink .l12).pcie.link = .l12) ∧
    (∀ x ∈ (tLink .l1).pcie.waiting, (tLink .l1).inD3 x.1 = false ∧ (tLink .l1).msixMasked x.1 x.2 = false) ∧
    ((tLink .l0).inD3 5 = false ∧ ({ tOn with pcie := { d3 := [5] } } : State).inD3 5 = true) ∧
    (∀ link ∈ [LinkState.down, .l0, .l1, .l12], let s := tTimer { link := link, msix := [(msixKey 0 4 12, 0)] }
      s.timerDue 3 = true ∧ s.inD3 (s.pair 3).owner = false ∧
      s.msixMasked (s.pair 3).owner (s.fld (qReg 3 aQ_VECTOR) 5 0) = false ∧ s.pcie.link = link) ∧
    (let s := tTimer { link := .l0 }
     s.msixMasked (s.pair 3).owner (s.fld (qReg 3 aQ_VECTOR) 5 0) = true ∧ (tTimer { d3 := [0] }).inD3 0 = true) ∧
    (tQueue tPair).timerDue 3 = false := by
  refine ⟨?_, ?_, ?_, ?_, ?_, ?_⟩ <;> decide +kernel

/-! ### Ill-formed commands, at the edge of each check -/

def wOp : LvuOp :=
  { vd := 31, va := 31, vb := 31, pred := 7, grp := 3, w32 := true, rnd := 3, sat := true, aux := 3, imm := 32767,
    portA := 4294967295, portB := 4294967295, uaddr := 0, hw := [(1, 0), (3, 2)] }

def wFrame : Frame :=
  { lane := 511, src := 0, dst := 0, vid := 4095, appid := 65535, routable := false, eapol := false, secTag := none, wireLen := 64,
    declaredLen := 0, receivedLen := 0, authLen := 0, seqTag := none, forModule := false, keyId := 4294967295,
    smpCnt := 65535, stNum := 0, sqNum := 0, tag := [], body := [] }

def wHb : Heartbeat :=
  { role := 2, state := 255, fault := false, mpRun := true, castleGo := false, parity := 2, stamp := ⟨0, 0⟩, mseqAcked := 4294967295,
    updCounter := 18446744073709551615 }

def wMsg : FaultMsg := { source := 4095, access := 15, kind := 255, master := 15, address := 281474976710655, fatal := true }

/-- At the edge of every range each of these is well-formed. -/
theorem test_wf_edges : ∀ c ∈ [Instr.vnop 15 wOp, .uwNext .sse 39 16383 32767, .streamFrame wFrame,
    .heartbeatReceive .plA 0 4294967295 true wHb, .faultMessage wMsg 0, .registerWrite 128 4 0, .phasePoll 2047 (zeros 32),
    .entryFetch 2047 (zeros 32) none none, .noiseSourceFail 3 3, .mgmtSessionClose 2 0, .supercapReady 100], c.wf = true := by
  decide +kernel

theorem test_wf_refuses_1 : ∀ c ∈ [Instr.vnop 16 wOp, .vnop 0 { wOp with vd := 32 }, .vnop 0 { wOp with va := 32 },
    .vnop 0 { wOp with vb := 32 }, .vnop 0 { wOp with pred := 8 }, .vnop 0 { wOp with grp := 4 },
    .vnop 0 { wOp with rnd := 4 }, .vnop 0 { wOp with aux := 4 }, .vnop 0 { wOp with imm := 32768 },
    .vnop 0 { wOp with portA := 4294967296 }, .vnop 0 { wOp with portB := 4294967296 },
    .vnop 0 { wOp with hw := [(2, 0)] }, .vld 16 wOp, .vld 0 { wOp with vd := 32 }, .vst 16 wOp,
    .vst 0 { wOp with vd := 32 }, .vgather 16 wOp, .vgather 0 { wOp with vd := 32 }, .vscatter 16 wOp,
    .vscatter 0 { wOp with vd := 32 }, .vmov 16 wOp, .vmov 0 { wOp with vd := 32 }, .vbcast 16 wOp,
    .vbcast 0 { wOp with vd := 32 }, .vrand 16 wOp, .vrand 0 { wOp with vd := 32 }, .vsetq 16 wOp,
    .vsetq 0 { wOp with vd := 32 }, .vmadd 16 wOp, .vmadd 0 { wOp with vd := 32 }], c.wf = false := by
  decide +kernel

theorem test_wf_refuses_2 : ∀ c ∈ [Instr.vmsub 16 wOp, .vmsub 0 { wOp with vd := 32 }, .vmmul 16 wOp,
    .vmmul 0 { wOp with vd := 32 }, .vreduce 16 wOp, .vreduce 0 { wOp with vd := 32 }, .vadd 16 wOp,
    .vadd 0 { wOp with vd := 32 }, .vsub 16 wOp, .vsub 0 { wOp with vd := 32 }, .vsadd 16 wOp,
    .vsadd 0 { wOp with vd := 32 }, .vssub 16 wOp, .vssub 0 { wOp with vd := 32 }, .vmulhr 16 wOp,
    .vmulhr 0 { wOp with vd := 32 }, .vshrr 16 wOp, .vshrr 0 { wOp with vd := 32 }, .vshl 16 wOp,
    .vshl 0 { wOp with vd := 32 }, .vand 16 wOp, .vand 0 { wOp with vd := 32 }, .vor 16 wOp,
    .vor 0 { wOp with vd := 32 }, .vxor 16 wOp, .vxor 0 { wOp with vd := 32 }, .vcompress 16 wOp,
    .vcompress 0 { wOp with vd := 32 }, .vdecompress 16 wOp, .vdecompress 0 { wOp with vd := 32 }], c.wf = false := by
  decide +kernel

theorem test_wf_refuses_3 : ∀ c ∈ [Instr.vp2r 16 wOp, .vp2r 0 { wOp with vd := 32 }, .vdecompose 16 wOp,
    .vdecompose 0 { wOp with vd := 32 }, .vhighbits 16 wOp, .vhighbits 0 { wOp with vd := 32 }, .vcmp 16 wOp,
    .vcmp 0 { wOp with vd := 32 }, .vsel 16 wOp, .vsel 0 { wOp with vd := 32 }, .vany 16 wOp,
    .vany 0 { wOp with vd := 32 }, .vperm 16 wOp, .vperm 0 { wOp with vd := 32 }, .vdeint 16 wOp,
    .vdeint 0 { wOp with vd := 32 }, .uwNext .me 8 0 0, .uwNext .me 0 16384 0, .uwNext .me 0 0 32768,
    .uwJump .me 8 0 0, .uwJump .me 0 16384 0, .uwJump .me 0 0 32768, .uwBranch .me 8 0 0, .uwBranch .me 0 16384 0,
    .uwBranch .me 0 0 32768, .uwLoop .me 8 0 0, .uwLoop .me 0 16384 0, .uwLoop .me 0 0 32768, .uwCall .me 8 0 0,
    .uwCall .me 0 16384 0], c.wf = false := by
  decide +kernel

theorem test_wf_refuses_4 : ∀ c ∈ [Instr.uwCall .me 0 0 32768, .uwReturn .me 8 0 0, .uwReturn .me 0 16384 0,
    .uwReturn .me 0 0 32768, .uwYield .me 8 0 0, .uwYield .me 0 16384 0, .uwYield .me 0 0 32768, .uwEnd .me 8 0 0,
    .uwEnd .me 0 16384 0, .uwEnd .me 0 0 32768, .lvuRestart 16 [], .lvuRestart 0 [(2, 0)],
    .sequencerGuardExpiry .me 8, .mcodeParity .me 8 0, .segmentReloadDone 8 true, .microcodeDrainEnd 8 true,
    .startupMicrocodeLoad 8, .shadowWrite 2 0, .registerWrite 129 0 0, .registerWrite 0 2 0, .latchingReadLo 129 0,
    .latchingReadLo 0 2, .dbSqTail 129 0 0, .dbCqHead 129 0 0, .tenantEnableRequest 129 0 0,
    .tenantDisableRequest 129 0 0, .tenantInterruptChange 129 0 true 0, .rngData 129, .entryFetch 2048 [] none none,
    .entryFetch 0 (zeros 31) none none], c.wf = false := by
  decide +kernel

theorem test_wf_refuses_5 : ∀ c ∈ [Instr.sqReadFailed 2048, .phasePoll 2048 [], .phasePoll 0 (zeros 33),
    .jobGrant .pe 16, .jobGrant .me 8, .jobGrant .ce 2, .jobGrant .bne 8, .jobGrant .hse 8, .jobGrant .de 12,
    .jobGrant .sse 40, .moderationDue 2048, .d0Return 129, .functionLevelReset 129, .vfDisable true 129,
    .instanceQuiesced 129, .quiesceWaitExpiry 129, .instanceResetDone 129, .preemptionPoint .me 8,
    .quantumExpiry .me 8, .mpWatchdogExpiry 2 0, .mpLockstep 2, .mgmtSessionOpen ⟨2, 4433⟩ [] [] [] true,
    .mgmtPacket 2 0 [], .mgmtSessionIdle 2 0, .mgmtSessionClose 3 0, .blockReserve 4096, .journalReadback 4096 true,
    .treeRebuildDone 4096, .nextTreeBuilt ⟨4096, 1⟩, .nextTreeBuilt ⟨0, 0⟩, .nextTreeBuilt ⟨0, 8⟩, .noiseSourceFail 4 0], c.wf = false := by
  decide +kernel

theorem test_wf_refuses_6 : ∀ c ∈ [Instr.noiseSourceFail 0 0, .noiseSourceFail 0 4, .startupTestPass 4, .autoRetest 4,
    .drbgReseed 9, .expanderSeed .me 8, .rngBufferRefill 129, .streamFrame { wFrame with lane := 512 },
    .streamFrame { wFrame with vid := 4096 }, .streamFrame { wFrame with appid := 65536 },
    .streamFrame { wFrame with smpCnt := 65536 }, .streamFrame { wFrame with keyId := 4294967296 },
    .mgmtLaneFrame 4096 [], .fifoPointerMismatch 88, .laneLinkChange 512 true, .cageOvercurrent 64,
    .cageModulePresent ⟨64, false⟩, .heartbeatReceive .plA 0 4294967296 true wHb,
    .heartbeatReceive .plA 0 0 true { wHb with role := 3 }, .heartbeatReceive .plA 0 0 true { wHb with state := 256 },
    .heartbeatReceive .plA 0 0 true { wHb with parity := 3 },
    .heartbeatReceive .plA 0 0 true { wHb with mseqAcked := 4294967296 },
    .heartbeatReceive .plA 0 0 true { wHb with updCounter := 18446744073709551616 },
    .pairingHandshake (.hello 1 2 0 3 0 (zeros 32) (zeros 32) []),
    .pairingHandshake (.hello 1 2 0 1 0 (zeros 31) (zeros 32) []),
    .pairingHandshake (.hello 1 2 0 1 0 (zeros 32) (zeros 31) []), .mirrorRecord 4294967296 0 [],
    .mirrorRecord 0 256 [], .mirrorAck 4294967296 0, .mirrorAck 0 65536], c.wf = false := by
  decide +kernel

theorem test_wf_refuses_7 : ∀ c ∈ [Instr.faultMessage { wMsg with source := 4096 } 0,
    .faultMessage { wMsg with access := 16 } 0, .faultMessage { wMsg with kind := 256 } 0,
    .faultMessage { wMsg with master := 16 } 0, .faultMessage { wMsg with address := 281474976710656 } 0, .alarm 11 0,
    .feedLost 2, .fanChange 6 0, .domainPowerOn 24, .domainPowerOff 24, .supercapReady 101, .d3hotEntry 129,
    .vfEnable 129, .noiseSourceSettled 4, .cageModuleUnplugged 64, .feedRestored 2, .alarmInputClear 11,
    .scratchZeroingDone 129], c.wf = false := by
  decide +kernel

end Sys2Proof.Tests
end

section
/-! What the traffic of the queues leaves alone: completions, events, interrupts and the mirror line write the pairs, their
counters and versions, the outbox, and of the PCIe state only the interrupts that wait. The statement on the link and its
interrupts follows. -/

namespace Sys2Proof.Machine

/-! ### What firing a vector does (R198, R201, R202) -/

/-- A vector of a function in D3hot and a masked one are set pending, and at most a PME goes out; any other is sent. -/
theorem State.fireVector_cases (s : State) (fn v : Nat) :
    ((s.inD3 fn = true ∨ s.msixMasked fn v = true) ∧ ∃ pme out, s.fireVector fn v = { s with
      outbox := out
      pcie := { s.pcie with pmeStatus := pme, pba := if s.pcie.pba.contains (fn, v) then s.pcie.pba
        else s.pcie.pba ++ [(fn, v)] } }) ∨
    (s.inD3 fn = false ∧ s.msixMasked fn v = false ∧ s.fireVector fn v = s.sendVector fn v) := by
  unfold State.fireVector
  dsimp only
  by_cases hd : s.inD3 fn = true
  · rw [if_pos hd]
    refine .inl ⟨.inl hd, ?_⟩
    by_cases hp : s.pcie.pmeEn.contains fn = true
    · rw [if_pos hp]
      exact ⟨_, _, rfl⟩
    · rw [if_neg hp]
      exact ⟨s.pcie.pmeStatus, s.outbox, rfl⟩
  · rw [if_neg hd]
    by_cases hm : s.msixMasked fn v = true
    · rw [if_pos hm]
      exact .inl ⟨.inr hm, s.pcie.pmeStatus, s.outbox, rfl⟩
    · rw [if_neg hm]
      exact .inr ⟨by simpa using hd, by simpa using hm, rfl⟩

/-- A vector of a function in D3hot, or one that is masked, is set pending. -/
theorem State.fireVector_pending (s : State) {fn v : Nat} (h : s.inD3 fn = true ∨ s.msixMasked fn v = true) :
    (fn, v) ∈ (s.fireVector fn v).pcie.pba := by
  rcases s.fireVector_cases fn v with ⟨-, _, _, he⟩ | ⟨hd, hm, -⟩
  · rw [he]
    dsimp only
    split
    · rename_i hc
      simpa using hc
    · exact List.mem_append_right _ List.mem_cons_self
  · simp [hd, hm] at h

/-- A vector that is neither masked nor of a function in D3hot is sent. -/
theorem State.fireVector_sent (s : State) {fn v : Nat} (hd : s.inD3 fn = false) (hm : s.msixMasked fn v = false) :
    s.fireVector fn v = s.sendVector fn v := by
  simp [State.fireVector, hd, hm]

theorem State.sendVector_l0 (s : State) (fn v : Nat) (h : s.pcie.link = .l0) :
    s.sendVector fn v = s.emit (.msix fn v) := by
  simp [State.sendVector, h]

theorem State.sendVector_down (s : State) (fn v : Nat) (h : s.pcie.link = .down) :
    s.sendVector fn v = { s with pcie := { s.pcie with pba := s.pcie.pba ++ [(fn, v)] } } := by
  simp [State.sendVector, h]

theorem State.sendVector_low (s : State) (fn v : Nat) (h : s.pcie.link = .l1 ∨ s.pcie.link = .l12) :
    s.sendVector fn v = { s with pcie := { s.pcie with waiting := s.pcie.waiting ++ [(fn, v)] } }.emit .l1Exit := by
  rcases h with h | h <;> simp [State.sendVector, h]

theorem State.sendVector_pairs (s : State) (fn v : Nat) : (s.sendVector fn v).pairs = s.pairs := by
  unfold State.sendVector
  split <;> rfl

theorem State.fireVector_pairs (s : State) (fn v : Nat) : (s.fireVector fn v).pairs = s.pairs := by
  rcases s.fireVector_cases fn v with ⟨-, _, _, he⟩ | ⟨-, -, he⟩
  · rw [he]
  · rw [he, s.sendVector_pairs]

/-- In L0 a vector that is fired waits for no link. -/
theorem State.fireVector_waiting (s : State) (fn v : Nat) (h : s.pcie.link = .l0) :
    (s.fireVector fn v).pcie.waiting = s.pcie.waiting := by
  rcases s.fireVector_cases fn v with ⟨-, _, _, he⟩ | ⟨-, -, he⟩
  · rw [he]
  · rw [he, s.sendVector_l0 fn v h]
    rfl

/-! ### Queue traffic -/

/-- Between `s` and `t` only queue traffic passed: entries, mirror lines and interrupts. -/
def QueueTraffic (s t : State) : Prop :=
  t = { s with pairs := t.pairs, cnts := t.cnts, versions := t.versions, outbox := t.outbox,
               pcie := { s.pcie with pba := t.pcie.pba, waiting := t.pcie.waiting, pmeStatus := t.pcie.pmeStatus } }

section
variable {r s t : State}

theorem QueueTraffic.refl (s : State) : QueueTraffic s s := rfl

theorem QueueTraffic.trans (h : QueueTraffic r s) (g : QueueTraffic s t) : QueueTraffic r t := by
  unfold QueueTraffic at h g ⊢
  rw [h] at g
  exact g

theorem QueueTraffic.pw (h : QueueTraffic s t) : t.pw = s.pw := by rw [h]
theorem QueueTraffic.jobs (h : QueueTraffic s t) : t.jobs = s.jobs := by rw [h]
theorem QueueTraffic.link (h : QueueTraffic s t) : t.pcie.link = s.pcie.link := by rw [h]
theorem QueueTraffic.gens (h : QueueTraffic s t) : t.pcie.gens = s.pcie.gens := by rw [h]
theorem QueueTraffic.d3 (h : QueueTraffic s t) : t.pcie.d3 = s.pcie.d3 := by rw [h]

theorem QueueTraffic.foldl {α : Type} {f : State → α → State}
    (hf : ∀ s a, QueueTraffic r s → QueueTraffic r (f s a)) :
    ∀ (l : List α) {s : State}, QueueTraffic r s → QueueTraffic r (l.foldl f s)
  | [], _, h => h
  | a :: l, s, h => QueueTraffic.foldl hf l (hf s a h)

/-! ### Interrupts and the mirror line -/

theorem QueueTraffic.emit (h : QueueTraffic r s) (o : Output) : QueueTraffic r (s.emit o) := h.trans rfl
theorem QueueTraffic.setPair (h : QueueTraffic r s) (q : Nat) (p : QPair) : QueueTraffic r (s.setPair q p) := h.trans rfl
theorem QueueTraffic.onPair (h : QueueTraffic r s) (q : Nat) (f : QPair → QPair) : QueueTraffic r (s.onPair q f) :=
  h.trans rfl
theorem QueueTraffic.bump (h : QueueTraffic r s) (off i : Nat) : QueueTraffic r (s.bump off i) := h.trans rfl

theorem QueueTraffic.mirror (h : QueueTraffic r s) (q : Nat) : QueueTraffic r (s.mirror q) := by
  unfold State.mirror
  split
  · exact h
  · exact (h.onPair q _).emit _

theorem QueueTraffic.sendVector (h : QueueTraffic r s) (fn v : Nat) : QueueTraffic r (s.sendVector fn v) := by
  unfold State.sendVector
  split <;> exact h.trans rfl

theorem QueueTraffic.fireVector (h : QueueTraffic r s) (fn v : Nat) : QueueTraffic r (s.fireVector fn v) := by
  rcases s.fireVector_cases fn v with ⟨-, _, _, he⟩ | ⟨-, -, he⟩
  · rw [he]
    exact h.trans rfl
  · rw [he]
    exact h.sendVector fn v

theorem QueueTraffic.deliver (h : QueueTraffic r s) (q : Nat) : QueueTraffic r (s.deliver q) :=
  (h.setPair q _).fireVector _ _

theorem QueueTraffic.moderate (h : QueueTraffic r s) (q : Nat) : QueueTraffic r (s.moderate q) := by
  unfold State.moderate
  dsimp only
  repeat' split
  · exact h
  · exact h.deliver q
  · exact h.deliver q
  · exact h

theorem QueueTraffic.deliverPba (h : QueueTraffic r s) (fn : Nat) : QueueTraffic r (s.deliverPba fn) :=
  QueueTraffic.foldl (fun _ x g => g.fireVector x.1 x.2) _ (h.trans rfl)

/-! ### Entries of a completion queue -/

theorem QueueTraffic.adoptWritten (h : QueueTraffic r s) (q : Nat) (body : Bytes) :
    QueueTraffic r (s.adoptWritten q body) := by
  unfold State.adoptWritten
  split <;> exact h.trans rfl

theorem QueueTraffic.writeCq (h : QueueTraffic r s) (q : Nat) (body : Bytes) : QueueTraffic r (s.writeCq q body) :=
  (((h.emit _).emit _).onPair q _).adoptWritten q body

theorem QueueTraffic.postLost (h : QueueTraffic r s) (q : Nat) : QueueTraffic r (s.postLost q) := by
  unfold State.postLost
  dsimp only
  split
  · exact (h.writeCq q _).onPair q _
  · exact h

theorem QueueTraffic.postEvent (h : QueueTraffic r s) (inst code : Nat) (queue : Option Nat) (info info2 : Nat) :
    QueueTraffic r (s.postEvent inst code queue info info2) := by
  unfold State.postEvent
  split
  · exact h
  · rename_i e _
    have hl := h.postLost e
    dsimp only
    repeat' split
    · exact ((hl.writeCq e _).mirror e).moderate e
    · exact hl.onPair e _
    · exact ((hl.onPair e _).mirror e).moderate e

theorem QueueTraffic.checkStall (h : QueueTraffic r s) (q : Nat) : QueueTraffic r (s.checkStall q) := by
  unfold State.checkStall
  dsimp only
  split
  · exact (((h.setPair q _).bump _ _).mirror q).postEvent _ _ _ _ _
  · exact h

theorem QueueTraffic.checkIdle (h : QueueTraffic r s) (q : Nat) : QueueTraffic r (s.checkIdle q) := by
  unfold State.checkIdle
  dsimp only
  split
  · exact ((h.setPair q _).mirror q).postEvent _ _ _ _ _
  · exact h

theorem QueueTraffic.placeCompletion (h : QueueTraffic r s) (q : Nat) (body : Bytes) :
    QueueTraffic r (s.placeCompletion q body) := by
  unfold State.placeCompletion
  dsimp only
  repeat' split
  · exact h.setPair q _
  · exact h.setPair q _
  · exact h.writeCq q body

theorem QueueTraffic.flushHold (q : Nat) :
    ∀ (fuel : Nat) {s : State}, QueueTraffic r s → QueueTraffic r (s.flushHold q fuel)
  | 0, _, h => h
  | fuel + 1, s, h => by
    unfold State.flushHold
    split
    · exact h
    · split
      · exact h
      · exact QueueTraffic.flushHold q fuel ((h.writeCq q _).onPair q _)

theorem QueueTraffic.flushCopies (q : Nat) :
    ∀ (fuel : Nat) {s : State}, QueueTraffic r s → QueueTraffic r (s.flushCopies q fuel)
  | 0, _, h => h
  | fuel + 1, s, h => by
    unfold State.flushCopies
    split
    · exact h
    · split
      · exact h
      · exact QueueTraffic.flushCopies q fuel (((h.emit _).writeCq q _).onPair q _)

theorem QueueTraffic.releaseD3 (h : QueueTraffic r s) (q : Nat) : QueueTraffic r (s.releaseD3 q) := by
  unfold State.releaseD3
  extract_lets held s1 s2 s3
  have h1 : QueueTraffic r s1 := (QueueTraffic.flushHold q 16 h).onPair q _
  have h2 : QueueTraffic r s2 := QueueTraffic.foldl (fun _ e g => g.placeCompletion q e) _ h1
  have h3 : QueueTraffic r s3 := by
    dsimp only [s3]
    split
    · exact h2.postLost q
    · exact h2
  split
  · exact QueueTraffic.flushCopies q 4096 h3
  · exact h3

end

/-! ### Ready bits -/

/-- Setting ID_READY leaves its new value, and else only its records and the traffic of an event. -/
theorem State.setReadyBits_traffic (s : State) (v : BitVec 24) :
    ∃ lost us, QueueTraffic { s with pw := { s.pw with ready := v, lostBits := lost, readyUs := us } } (s.setReadyBits v) := by
  unfold State.setReadyBits
  split
  · rename_i h
    subst h
    exact ⟨s.pw.lostBits, s.pw.readyUs, QueueTraffic.refl s⟩
  · exact ⟨_, _, (QueueTraffic.refl _).postEvent _ _ _ _ _⟩

/-- ID_READY with one bit set or cleared. -/
def State.readyWith (s : State) (i : Nat) (b : Bool) : BitVec 24 :=
  if b then s.pw.ready ||| BitVec.ofNat 24 (2 ^ i) else s.pw.ready &&& ~~~BitVec.ofNat 24 (2 ^ i)

theorem State.setReady_traffic (s : State) (i : Nat) (b : Bool) : ∃ lost us, QueueTraffic
    { s with pw := { s.pw with ready := s.readyWith i b, lostBits := lost, readyUs := us } } (s.setReady i b) :=
  s.setReadyBits_traffic _

/-- Setting or clearing a ready bit leaves the link, its generations and the functions in D3hot. -/
theorem State.setReady_pcie (s : State) (i : Nat) (b : Bool) : (s.setReady i b).pcie.link = s.pcie.link ∧
    (s.setReady i b).pcie.gens = s.pcie.gens ∧ (s.setReady i b).pcie.d3 = s.pcie.d3 := by
  obtain ⟨_, _, h⟩ := s.setReady_traffic i b
  exact ⟨h.link, h.gens, h.d3⟩

theorem getLsbD_ofNat_two_pow (w i k : Nat) :
    (BitVec.ofNat w (2 ^ i)).getLsbD k = (decide (k < w) && decide (i = k)) := by
  rw [BitVec.getLsbD_ofNat, Nat.testBit_two_pow]

theorem State.getLsbD_readyWith (s : State) {i : Nat} (hi : i < 24) (b : Bool) (k : Nat) :
    (s.readyWith i b).getLsbD k = if k = i then b else s.pw.ready.getLsbD k := by
  unfold State.readyWith
  cases b with
  | false =>
    have hlt : s.pw.ready.getLsbD k = true → k < 24 := BitVec.lt_of_getLsbD
    simp only [Bool.false_eq_true, if_false, BitVec.getLsbD_and, BitVec.getLsbD_not, getLsbD_ofNat_two_pow]
    by_cases hk : k = i
    · simp [hk]
    · simpa [hk, Ne.symm hk] using hlt
  | true =>
    simp only [if_true, BitVec.getLsbD_or, getLsbD_ofNat_two_pow]
    by_cases hk : k = i
    · simp [hk, hi]
    · simp [hk, Ne.symm hk]

/-- A ready bit that is set or cleared reads so, and the others stay. -/
theorem State.ready_setReady (s : State) {i : Nat} (hi : i < 24) (b : Bool) (k : Nat) :
    (s.setReady i b).ready k = if k = i then b else s.ready k := by
  obtain ⟨_, _, h⟩ := s.setReady_traffic i b
  unfold State.ready
  rw [h.pw]
  exact s.getLsbD_readyWith hi b k

/-! ### Firing a list of vectors in L0 -/

/-- In L0 no vector of a list comes to wait for the link. -/
theorem State.fireVectors_waiting : ∀ (l : List (Nat × Nat)) (s : State), s.pcie.link = .l0 →
    (l.foldl (fun s x => s.fireVector x.1 x.2) s).pcie.waiting = s.pcie.waiting
  | [], _, _ => rfl
  | x :: l, s, h => by
    rw [List.foldl_cons, State.fireVectors_waiting l _ (((QueueTraffic.refl s).fireVector x.1 x.2).link.trans h),
      s.fireVector_waiting x.1 x.2 h]

/-- In L0 the vectors of a list that can be sent go out in order. -/
theorem State.fireVectors_outbox : ∀ (l : List (Nat × Nat)) (s : State), s.pcie.link = .l0 →
    (∀ x ∈ l, s.inD3 x.1 = false ∧ s.msixMasked x.1 x.2 = false) →
    (l.foldl (fun s x => s.fireVector x.1 x.2) s).outbox = s.outbox ++ l.map fun x => .msix x.1 x.2
  | [], _, _, _ => by simp
  | x :: l, s, h, hl => by
    obtain ⟨hd, hm⟩ := hl x List.mem_cons_self
    rw [List.foldl_cons, s.fireVector_sent hd hm, s.sendVector_l0 _ _ h,
      State.fireVectors_outbox l (s.emit (.msix x.1 x.2)) h fun y hy => hl y (List.mem_cons_of_mem x hy)]
    simp [State.emit]

/-! ### The clauses -/

/-- The link trains in one generation from 3 to 5, or in one for each half (R9). -/
theorem State.trainLink_gens (s : State) : (s.trainLink.1.length = 1 ∨ s.trainLink.1.length = 2) ∧
    ∀ g ∈ s.trainLink.1, 3 ≤ g ∧ g ≤ 5 := by
  unfold State.trainLink State.drawNat
  dsimp only
  split <;> simp <;> omega

/-- The state after training, before the ready bit sets. -/
def State.linkTrained (s : State) : State :=
  { s.trainLink.2 with pcie := { s.trainLink.2.pcie with link := .l0, gens := s.trainLink.1 } }

/-- PCIE_LINK_UP trains the link, sets its ready bit and delivers what was set pending (R639). -/
theorem execPcieLinkUp_eq {s : State} (hd : s.domain 20 = .on) (hl : s.pcie.link = .down) :
    execPcieLinkUp s = .next (((s.linkTrained.setReady 6 true).pcie.pba.map (·.1)).dedup.foldl State.deliverPba
      (s.linkTrained.setReady 6 true)) := by
  unfold execPcieLinkUp
  rw [if_neg (by simp [hd, hl])]
  rfl

/-- PCIE_LINK_UP takes a link that is down to L0 (R639). -/
theorem pcieLinkUp_answers {s : State} (hd : s.domain 20 = .on) (hl : s.pcie.link = .down) :
    answers .pcieLinkUp s fun t => t.ready 6 = true ∧ t.pcie.link = .l0 ∧
      (t.pcie.gens.length = 1 ∨ t.pcie.gens.length = 2) ∧ (∀ g ∈ t.pcie.gens, 3 ≤ g ∧ g ≤ 5) ∧ t.pcie.d3 = s.pcie.d3 := by
  refine ⟨_, execPcieLinkUp_eq hd hl, ?_⟩
  obtain ⟨hlink, hgens, hd3⟩ := s.linkTrained.setReady_pcie 6 true
  obtain ⟨hlen, hrange⟩ := s.trainLink_gens
  have hready : (s.linkTrained.setReady 6 true).ready 6 = true := s.linkTrained.ready_setReady (by decide) true 6
  generalize s.linkTrained.setReady 6 true = u at hlink hgens hd3 hready ⊢
  have ht : QueueTraffic u ((u.pcie.pba.map (·.1)).dedup.foldl State.deliverPba u) :=
    QueueTraffic.foldl (fun _ fn g => g.deliverPba fn) _ (QueueTraffic.refl u)
  refine ⟨?_, ht.link.trans hlink, ?_, ?_, ht.d3.trans hd3⟩
  · unfold State.ready at hready ⊢
    rw [ht.pw, hready]
  · rw [ht.gens, hgens]
    exact hlen
  · rw [ht.gens, hgens]
    exact hrange

/-- PCIE_LINK_DOWN takes a link that is up to down (R640). -/
theorem pcieLinkDown_answers {s : State} (hl : s.pcie.link ≠ .down) :
    answers .pcieLinkDown s fun t => t.ready 6 = false ∧ t.pcie.link = .down ∧ t.pcie.gens = [] ∧
      ∀ i, i ≠ 6 → t.ready i = s.ready i := by
  refine ⟨_, if_neg hl, ?_⟩
  generalize hu : ({ s with pcie := { s.pcie with link := .down, gens := [] } } : State) = u
  obtain ⟨hlink, hgens, -⟩ := u.setReady_pcie 6 false
  refine ⟨u.ready_setReady (by decide) false 6, ?_, ?_, fun i hi => ?_⟩
  · rw [hlink, ← hu]
  · rw [hgens, ← hu]
  · rw [u.ready_setReady (by decide), if_neg hi, ← hu]
    rfl

/-- In L0 again, the vectors that waited are fired in order (R201). -/
theorem linkL0Reached_answers {s : State} (hl : s.pcie.link = .l1 ∨ s.pcie.link = .l12) :
    answers .linkL0Reached s fun t => t.pcie.link = .l0 ∧ t.pcie.waiting = [] ∧
      ((∀ x ∈ s.pcie.waiting, s.inD3 x.1 = false ∧ s.msixMasked x.1 x.2 = false) →
        t.outbox = s.outbox ++ s.pcie.waiting.map fun x => .msix x.1 x.2) := by
  refine ⟨_, if_pos hl, ?_, ?_, fun hx => ?_⟩
  · exact (QueueTraffic.foldl (fun _ x g => g.fireVector x.1 x.2) _ (QueueTraffic.refl _)).link
  · exact State.fireVectors_waiting _ _ rfl
  · exact State.fireVectors_outbox _ _ rfl hx

/-- A function in D3hot returns to D0 (R202 to R204). -/
theorem d0Return_answers {s : State} {fn : Nat} (hd : s.inD3 fn = true) :
    answers (.d0Return fn) s fun t => t.pcie.d3 = s.pcie.d3.erase fn := by
  refine ⟨_, if_pos hd, ?_⟩
  generalize (s.pairs.filter fun e => e.2.owner == fn && e.2.created.isSome).map (·.1) = qs
  have h0 := QueueTraffic.refl { s with pcie := { s.pcie with d3 := s.pcie.d3.erase fn } }
  have h1 := QueueTraffic.foldl (fun _ q g => g.releaseD3 q) qs h0
  have h2 := QueueTraffic.foldl (fun _ q g => g.mirror q) qs h1
  have h3 := QueueTraffic.foldl (fun _ q g => g.moderate q) qs h2
  have h4 := QueueTraffic.foldl (fun _ q g => g.checkStall q) qs (h3.deliverPba fn)
  exact (QueueTraffic.foldl (fun _ q g => g.checkIdle q) qs h4).d3

/-- The count and the timer of a pair restart (R199). -/
def State.restartCount (s : State) (q : Nat) : State := s.setPair q { s.pair q with modCount := 0, modFirst := 0 }

theorem State.deliver_eq (s : State) (q : Nat) :
    s.deliver q = (s.restartCount q).fireVector (s.pair q).owner (s.fld (qReg q aQ_VECTOR) 5 0) := rfl

/-- A moderation timer that is due clears the count of its pair and fires the vector of the pair once (R199). -/
theorem moderationDue_answers {s : State} {q fn v : Nat} (hfn : (s.pair q).owner = fn)
    (hv : s.fld (qReg q aQ_VECTOR) 5 0 = v) (h : s.timerDue q = true) :
    answers (.moderationDue q) s fun t => (t.pair q).modCount = 0 ∧ t.jobs = s.jobs ∧
      (s.inD3 fn = true ∨ s.msixMasked fn v = true → (fn, v) ∈ t.pcie.pba) ∧
      (s.inD3 fn = false → s.msixMasked fn v = false →
        (s.pcie.link = .l0 → t.outbox = s.outbox ++ [.msix fn v] ∧ t.pcie = s.pcie) ∧
        (s.pcie.link = .l1 ∨ s.pcie.link = .l12 → t.outbox = s.outbox ++ [.l1Exit] ∧
          t.pcie.waiting = s.pcie.waiting ++ [(fn, v)]) ∧
        (s.pcie.link = .down → t.outbox = s.outbox ∧ (fn, v) ∈ t.pcie.pba)) := by
  have hjobs := ((QueueTraffic.refl s).deliver q).jobs
  refine ⟨s.deliver q, if_pos h, ?_⟩
  rw [s.deliver_eq q, hfn, hv] at hjobs ⊢
  refine ⟨?_, hjobs, State.fireVector_pending (s.restartCount q), fun hd hm => ?_⟩
  · unfold State.pair
    rw [State.fireVector_pairs]
    exact congrArg QPair.modCount (State.pair_setPair_same s q _)
  · rw [State.fireVector_sent (s.restartCount q) hd hm]
    refine ⟨fun hl => ?_, fun hl => ?_, fun hl => ?_⟩
    · rw [State.sendVector_l0 (s.restartCount q) _ _ hl]
      exact ⟨rfl, rfl⟩
    · rw [State.sendVector_low (s.restartCount q) _ _ hl]
      exact ⟨rfl, rfl⟩
    · rw [State.sendVector_down (s.restartCount q) _ _ hl]
      exact ⟨rfl, List.mem_append_right _ List.mem_cons_self⟩

/-- Settles O60: each command answers by its lemma above, whose idea is that queue traffic leaves the link, its
generations, the functions in D3hot and the ready bits as they were. -/
theorem linkAndInterrupts : Obligations.LinkAndInterrupts := by
  unfold Obligations.LinkAndInterrupts
  intro s
  exact ⟨pcieLinkUp_answers, pcieLinkDown_answers, fun l12 hl => ⟨_, if_pos hl, rfl⟩, linkL0Reached_answers,
    fun fn hd hl => ⟨_, if_neg (by simp [hd, hl]), rfl⟩, fun fn => d0Return_answers,
    fun q => ⟨moderationDue_answers rfl rfl, fun h => ⟨s, if_neg (by simp [h]), rfl⟩⟩⟩

end Sys2Proof.Machine
end

section
/-! The accesses of the host to the register map: requests and withdrawals of groups, shadow writes, register writes, and
reads that latch. The statement on registers and staging follows. -/

namespace Sys2Proof.Machine

/-! ### Host-owned groups (R103 to R105, R108) -/

/-- A key survives in a table filtered by its keys exactly when the filter keeps it. -/
theorem tget_filter_key {α : Type} (p : Nat → Bool) (k : Nat) :
    ∀ t : Tab α, tget (t.filter fun e => p e.1) k = if p k then tget t k else none
  | [] => by simp
  | (i, v) :: t => by
    have ih := tget_filter_key p k t
    by_cases hi : i = k
    · subst hi
      by_cases hp : p i = true <;> simp_all [tget]
    · by_cases hp : p i = true <;> simp_all [tget]

/-- The host-owned groups of a write are those of its bits 0 to 15 that the MP does not own. -/
theorem getLsbD_hostGroups (v : Reg) (g : Nat) :
    (hostGroups v).getLsbD g = (decide (g < 16) && v.getLsbD g && !mpGroups.getLsbD g) := by
  unfold hostGroups
  rw [BitVec.getLsbD_and, BitVec.getLsbD_not, BitVec.getLsbD_setWidth]
  generalize mpGroups.getLsbD g = m
  by_cases hg : g < 16 <;> simp [hg]

/-- CFG_COMMIT requests the host-owned groups of its mask. -/
theorem cfgCommit_answers (s : State) (v : Reg) :
    answers (.cfgCommit v) s fun t => t = { s with cfg := { s.cfg with pending := t.cfg.pending } } ∧
      ∀ g, g < 16 → t.cfg.pending.getLsbD g =
        (s.cfg.pending.getLsbD g || (hostGroups v).getLsbD g) :=
  ⟨_, rfl, rfl, fun _ _ => BitVec.getLsbD_or⟩

/-- Where no set of the MP waits, waking the groups changes jobs alone. -/
theorem State.wakeGroups_jobs {s : State} (h : s.mpSets = []) : ∃ js, s.wakeGroups = { s with jobs := js } := by
  have hs : s.drainSets = s := by
    unfold State.drainSets
    rw [h, List.foldl_nil, ← h]
  unfold State.wakeGroups
  rw [hs]
  exact ⟨_, rfl⟩

/-- CFG_CANCEL withdraws the host-owned groups of its mask. -/
theorem cfgCancel_answers {s : State} (v : Reg) (hm : s.mpSets = []) (hr : s.pw.restoring = 0) :
    answers (.cfgCancel v) s fun t => t.shadow = s.shadow ∧ t.regs = s.regs ∧ t.cfg.taken = s.cfg.taken ∧
      ∀ g, g < 16 → t.cfg.pending.getLsbD g =
        (s.cfg.pending.getLsbD g && !(hostGroups v).getLsbD g) := by
  have hend : s.endRestore (s.cfg.pending &&& hostGroups v) = s := by
    unfold State.endRestore
    exact if_pos (by rw [hr]; exact BitVec.zero_and)
  refine ⟨_, rfl, ?_⟩
  rw [hend]
  obtain ⟨js, hw⟩ := State.wakeGroups_jobs (s := { s with cfg := { s.cfg with
    pending := s.cfg.pending &&& ~~~hostGroups v, byMp := s.cfg.byMp &&& ~~~hostGroups v } }) hm
  rw [hw]
  refine ⟨rfl, rfl, rfl, fun g hg => ?_⟩
  simp [hg]

/-- CFG_REVERT makes the shadows of the host-owned groups of its mask that are not pending follow the active values. -/
theorem cfgRevert_answers (s : State) (v : Reg) :
    answers (.cfgRevert v) s fun t => t = { s with shadow := t.shadow } ∧ ∀ o, t.shadowReg o =
      if (groupOf o).any (fun g => (hostGroups v).getLsbD g && !s.cfg.pending.getLsbD g) then s.reg o
      else s.shadowReg o := by
  refine ⟨_, rfl, rfl, fun o => ?_⟩
  have hg : (hostGroups v &&& ~~~s.cfg.pending).getLsbD = fun g => (hostGroups v).getLsbD g && !s.cfg.pending.getLsbD g := by
    funext g
    rw [BitVec.getLsbD_and, getLsbD_hostGroups]
    by_cases h : g < 16 <;> simp [h]
  unfold State.shadowReg
  dsimp only
  rw [hg, tget_filter_key fun i => !(groupOf i).any fun g => (hostGroups v).getLsbD g && !s.cfg.pending.getLsbD g]
  cases (groupOf o).any fun g => (hostGroups v).getLsbD g && !s.cfg.pending.getLsbD g <;> rfl

/-! ### Shadow writes (R15, R16, R20, R108) -/

theorem State.shadowReg_setShadow_other (s : State) {o off : Nat} (v : Nat) (h : o ≠ off) :
    (s.setShadow off v).shadowReg o = s.shadowReg o := by
  unfold State.shadowReg State.setShadow
  dsimp only
  rw [tget_tset_other _ _ h]
  rfl

/-- The set of a pair and the register in it name the offset they come from (R45). -/
theorem qReg_of_queueOfOff {off q r : Nat} (h : queueOfOff off = some (q, r)) : qReg q r = off := by
  unfold queueOfOff at h
  split at h
  · simp only [Option.some.injEq, Prod.mk.injEq] at h
    obtain ⟨rfl, rfl⟩ := h
    unfold qReg
    omega
  · cases h

/-- The low word of a 64-bit register is held (R20). -/
theorem State.putWide_low (s : State) {q r : Nat} (w : Reg) (put : State → Nat → Reg → State) (h : r ∈ wideRegs) :
    s.putWide q r w put = s.onPair q fun p => { p with lowHeld := tset p.lowHeld r w } := by
  unfold State.putWide
  exact if_pos (by simpa using h)

/-- A word that is no low word, with no low word held below it, is stored at once. -/
theorem State.putWide_plain (s : State) {q r : Nat} (w : Reg) (put : State → Nat → Reg → State) (h : r ∉ wideRegs)
    (hn : r < 4 ∨ tget (s.pair q).lowHeld (r - 4) = none) : s.putWide q r w put = put s r w := by
  have hnone : (if 4 ≤ r then tget (s.pair q).lowHeld (r - 4) else none) = none := by
    rcases hn with hn | hn
    · exact if_neg (by omega)
    · rw [hn, ite_self]
  unfold State.putWide
  rw [if_neg (by simpa using h), hnone]

/-- The high word of a 64-bit register stores the low word held with it (R20). -/
theorem State.putWide_high (s : State) {q r : Nat} {lo : Reg} (w : Reg) (put : State → Nat → Reg → State)
    (h : r ∉ wideRegs) (h4 : 4 ≤ r) (hl : tget (s.pair q).lowHeld (r - 4) = some lo) : s.putWide q r w put =
      put (put (s.onPair q fun p => { p with lowHeld := tdel p.lowHeld (r - 4) }) (r - 4) lo) r w := by
  unfold State.putWide
  rw [if_neg (by simpa using h), if_pos h4, hl]

section
variable {s : State} {off g : Nat} (v : Reg)

theorem shadowTarget_of_group (hg : groupOf off = some g) : shadowTarget off = some off := by
  simp [shadowTarget, hg]

/-- A shadow write in a powered block reaches the shadow. -/
theorem exec_shadowWrite (hg : groupOf off = some g) (hon : s.blockOn off = true) :
    exec (.shadowWrite off v) s = .next (s.writeShadow off v) := by
  change execShadowWrite off v s = _
  unfold execShadowWrite
  rw [shadowTarget_of_group hg]
  exact if_pos hon

/-- The pair that a shadow belongs to, if any, is the physical function's. -/
theorem ours_of_owner (ho : ∀ x, queueOfOff off = some x → (s.pair x.1).owner = 0) :
    (!(queueOfOff off).all fun x => (s.pair x.1).owner == 0) = false := by
  cases hq : queueOfOff off with
  | none => rfl
  | some x => simp [ho x hq]

variable (hg : groupOf off = some g) (ho : ∀ x, queueOfOff off = some x → (s.pair x.1).owner = 0)
include hg ho

/-- A write to a pending group only sets CFG_WR_IGNORED. -/
theorem State.writeShadow_pending (hp : s.cfg.pending.getLsbD g = true) : s.writeShadow off v =
    { s with cfg := { s.cfg with wrIgnored := s.cfg.wrIgnored ||| BitVec.ofNat 16 (2 ^ g) } } := by
  unfold State.writeShadow
  rw [hg]
  dsimp only
  rw [ours_of_owner ho, if_neg Bool.false_ne_true, if_pos hp]

variable (hp : s.cfg.pending.getLsbD g = false)
include hp

/-- A write to a group of the MP does nothing. -/
theorem State.writeShadow_mp (hm : mpGroups.getLsbD g = true) : s.writeShadow off v = s := by
  unfold State.writeShadow
  rw [hg]
  dsimp only
  rw [ours_of_owner ho, if_neg Bool.false_ne_true, hp, if_neg Bool.false_ne_true, if_pos hm]

variable (hm : mpGroups.getLsbD g = false)
include hm

/-- A write to a shadow outside the queue pairs stores its writable bits. -/
theorem State.writeShadow_reg (hq : queueOfOff off = none) :
    s.writeShadow off v = s.setShadow off (writable off v.toNat) := by
  unfold State.writeShadow
  rw [hg]
  dsimp only
  rw [ours_of_owner ho, if_neg Bool.false_ne_true, hp, if_neg Bool.false_ne_true, hm, if_neg Bool.false_ne_true, hq]

/-- A write to a shadow of a pair stores its writable bits by the rule of 64-bit registers. -/
theorem State.writeShadow_pair {q r : Nat} (hq : queueOfOff off = some (q, r)) :
    s.writeShadow off v = s.putWide q r (BitVec.ofNat 32 (writable off v.toNat)) fun t r w =>
      t.setShadow (qReg q r) w.toNat := by
  unfold State.writeShadow
  rw [hg]
  dsimp only
  rw [ours_of_owner ho, if_neg Bool.false_ne_true, hp, if_neg Bool.false_ne_true, hm, if_neg Bool.false_ne_true, hq]

/-- Every write but one of a word of a 64-bit register stores its writable bits in the one shadow. -/
theorem State.writeShadow_plain (hw : ∀ x, queueOfOff off = some x →
      x.2 ∉ wideRegs ∧ (x.2 < 4 ∨ tget (s.pair x.1).lowHeld (x.2 - 4) = none)) :
    s.writeShadow off v = s.setShadow off (writable off v.toNat) := by
  cases hq : queueOfOff off with
  | none => exact State.writeShadow_reg v hg ho hp hm hq
  | some x =>
    obtain ⟨q, r⟩ := x
    obtain ⟨hr, hn⟩ := hw (q, r) hq
    rw [State.writeShadow_pair v hg ho hp hm hq, s.putWide_plain _ _ hr hn, qReg_of_queueOfOff hq]
    unfold State.setShadow
    rw [BitVec.ofNat_toNat, BitVec.setWidth_eq]

theorem shadowWrite_plain_answers (hon : s.blockOn off = true) (hw : ∀ x, queueOfOff off = some x →
      x.2 ∉ wideRegs ∧ (x.2 < 4 ∨ tget (s.pair x.1).lowHeld (x.2 - 4) = none)) :
    answers (.shadowWrite off v) s fun t => t = { s with shadow := t.shadow } ∧
      t.shadowReg off = writable off v.toNat % 2 ^ 32 ∧ ∀ o, o ≠ off → t.shadowReg o = s.shadowReg o := by
  refine ⟨_, exec_shadowWrite v hg hon, ?_⟩
  rw [State.writeShadow_plain v hg ho hp hm hw]
  exact ⟨rfl, s.shadowReg_setShadow_same _ _, fun o h => s.shadowReg_setShadow_other _ h⟩

theorem shadowWrite_low_answers (hon : s.blockOn off = true) {q r : Nat} (hq : queueOfOff off = some (q, r))
    (hr : r ∈ wideRegs) : answers (.shadowWrite off v) s fun t => t = { s with pairs := t.pairs } ∧
      tget (t.pair q).lowHeld r = some (BitVec.ofNat 32 (writable off v.toNat)) ∧ ∀ p, p ≠ q → t.pair p = s.pair p := by
  refine ⟨_, exec_shadowWrite v hg hon, ?_⟩
  rw [State.writeShadow_pair v hg ho hp hm hq, s.putWide_low _ _ hr]
  refine ⟨rfl, ?_, fun p h => s.pair_onPair_other _ h⟩
  rw [State.pair_onPair_same]
  exact tget_tset_same _ _ _

theorem shadowWrite_high_answers (hon : s.blockOn off = true) {q r : Nat} {lo : Reg} (hq : queueOfOff off = some (q, r))
    (hr : r ∉ wideRegs) (h4 : 4 ≤ r) (hl : tget (s.pair q).lowHeld (r - 4) = some lo) :
    answers (.shadowWrite off v) s fun t => t.shadowReg (off - 4) = lo.toNat ∧
      t.shadowReg off = writable off v.toNat % 2 ^ 32 ∧ t.regs = s.regs ∧
      ∀ o, o ≠ off → o ≠ off - 4 → t.shadowReg o = s.shadowReg o := by
  have hoff := qReg_of_queueOfOff hq
  have hlow : qReg q (r - 4) = off - 4 := by
    unfold qReg at hoff ⊢
    omega
  have hne : off - 4 ≠ off := by
    unfold qReg at hoff
    omega
  refine ⟨_, exec_shadowWrite v hg hon, ?_⟩
  rw [State.writeShadow_pair v hg ho hp hm hq, s.putWide_high _ _ hr h4 hl, hoff, hlow]
  refine ⟨?_, ?_, rfl, fun o h h' => ?_⟩
  · rw [State.shadowReg_setShadow_other _ _ hne, State.shadowReg_setShadow_same]
    exact Nat.mod_eq_of_lt lo.isLt
  · rw [State.shadowReg_setShadow_same]
    simp
  · rw [State.shadowReg_setShadow_other _ _ h, State.shadowReg_setShadow_other _ _ h']
    rfl

end

/-- The shadow of a register can be written 0x8000 above its offset too (R16). -/
theorem shadowWrite_above_answers {s : State} {off g : Nat} (v : Reg) (hg : groupOf off = some g)
    (hon : s.blockOn off = true) (hlow : off % 0x10000 < 0x8000) (hnone : groupOf (off + 0x8000) = none) :
    answers (.shadowWrite (off + 0x8000) v) s fun t => exec (.shadowWrite off v) s = .next t := by
  have htarget : shadowTarget (off + 0x8000) = some off := by
    unfold shadowTarget
    rw [hnone, if_neg (by simp), Nat.add_sub_cancel, hg, if_pos ⟨by omega, rfl⟩]
  refine ⟨s.writeShadow off v, ?_, exec_shadowWrite v hg hon⟩
  change execShadowWrite (off + 0x8000) v s = _
  unfold execShadowWrite
  rw [htarget]
  exact if_pos hon

/-! ### Register writes (R15, R18, R541, R628) -/

/-- The offsets of the physical function's BAR0 outside the doorbells and the MSI-X table (R43, R46). -/
abbrev OnRegisterMap (off : Nat) : Prop := off < 0x200000 ∨ 0xA00000 ≤ off ∧ off < 0x1000000

section
variable {s : State} {off : Nat} (v : Reg)

/-- A write below the doorbells, in a powered block, with no row of its own acts on the register map. -/
theorem exec_registerWrite_pf (hlt : off < 0x200000) (hon : s.blockOn off = true) (hrow : ownRow off = none) :
    exec (.registerWrite 0 off v) s = .next (s.writePf off v) := by
  change execRegisterWrite 0 off v s = _
  unfold execRegisterWrite
  rw [if_pos rfl, if_neg (by simp [hon]), if_neg (by omega), if_neg (by omega), hrow]

/-- A write outside the doorbells and the MSI-X table, in a powered block, with a row of its own acts as that row. -/
theorem exec_registerWrite_ownRow {f : Reg → State → Result} (hmap : OnRegisterMap off)
    (hon : s.blockOn off = true) (hrow : ownRow off = some f) : exec (.registerWrite 0 off v) s = f v s := by
  change execRegisterWrite 0 off v s = _
  unfold execRegisterWrite
  rw [if_pos rfl, if_neg (by simp [hon]), if_neg (by omega), if_neg (by omega), hrow]

theorem exec_registerWrite_unpowered (hoff : s.blockOn off = false) : exec (.registerWrite 0 off v) s = .next s := by
  change execRegisterWrite 0 off v s = _
  unfold execRegisterWrite
  rw [if_pos rfl, if_pos (by simp [hoff])]

theorem exec_registerWrite_vfOff {fn : Nat} (off : Nat) (hfn : fn ≠ 0) (hvf : s.vfOn fn = false) :
    exec (.registerWrite fn off v) s = .next s := by
  change execRegisterWrite fn off v s = _
  unfold execRegisterWrite
  rw [if_neg hfn, if_pos (.inr (by simp [hvf]))]

theorem exec_latchingReadLo_vfOff {fn : Nat} (off : Nat) (hfn : fn ≠ 0) (hvf : s.vfOn fn = false) :
    exec (.latchingReadLo fn off) s = .next s := by
  change execLatchingReadLo fn off s = _
  unfold execLatchingReadLo
  rw [if_pos ⟨hfn, by simp [hvf]⟩]

variable (hs : shadowTarget off = none) (hq : queueOfOff off = none)
include hs hq

/-- A write to a plain read-write register stores its writable bits. -/
theorem State.writePf_rw {w : RegRow} (hw : rowAt off = some w) (hk : w.kind = .rw) (hr : off ≠ aRNG_STATUS)
    (hc : off ≠ aCE_P3_QUOTA) : s.writePf off v = s.setReg off (writable off v.toNat) := by
  unfold State.writePf
  rw [hs, hq]
  dsimp only
  rw [if_neg hr, if_neg hc, hw]
  exact if_pos hk

/-- A write to an offset where no register stands does nothing. -/
theorem State.writePf_unassigned (hw : rowAt off = none) : s.writePf off v = s := by
  have hr : off ≠ aRNG_STATUS := fun h => absurd (h ▸ hw) (by decide +kernel)
  have hc : off ≠ aCE_P3_QUOTA := fun h => absurd (h ▸ hw) (by decide +kernel)
  unfold State.writePf
  rw [hs, hq]
  dsimp only
  rw [if_neg hr, if_neg hc, hw]

end

/-- The write of a register with a row of its own, once the row has a next state. -/
theorem registerWrite_ownRow_answers {s : State} {v : Reg} {off : Nat} {f : Reg → State → Result} {c : Instr}
    (hrow : ownRow off = some f) (hmap : OnRegisterMap off) (hc : exec c s = f v s)
    (hnext : ∃ t, f v s = .next t) (hon : s.blockOn off = true) : answers (.registerWrite 0 off v) s fun t => exec c s = .next t := by
  obtain ⟨t, ht⟩ := hnext
  exact ⟨t, (exec_registerWrite_ownRow v hmap hon hrow).trans ht, hc.trans ht⟩

/-- XS_TIME_SET stores the high word, and asks for the step in FREE only (R20, R67). -/
theorem xsTimeSet_answers (s : State) (v : Reg) :
    answers (.xsTimeSet v) s fun t => t.reg aXS_TIME_SET_HI = v.toNat % 65536 ∧ t.tb.state = s.tb.state ∧
      (s.tb.state = .free → t.tb.step = some (.second (v.toNat % 65536 * 2 ^ 32 + s.reg aXS_TIME_SET_LO))) ∧
      (s.tb.state ≠ .free → t.tb = s.tb) := by
  have hhi : (s.setReg aXS_TIME_SET_HI (v.toNat % 65536)).reg aXS_TIME_SET_HI = v.toNat % 65536 := by
    rw [State.reg_setReg_same]
    omega
  have hlo : (s.setReg aXS_TIME_SET_HI (v.toNat % 65536)).reg aXS_TIME_SET_LO = s.reg aXS_TIME_SET_LO :=
    State.reg_setReg_other s _ (by decide)
  unfold answers
  change ∃ t, execXsTimeSet v s = .next t ∧ _
  unfold execXsTimeSet
  by_cases hf : s.tb.state = .free
  · refine ⟨_, if_neg (fun h => h hf), hhi, rfl, fun _ => ?_, fun h => absurd hf h⟩
    rw [← hlo]
  · exact ⟨_, if_pos hf, hhi, rfl, fun h => absurd h hf, fun _ => rfl⟩

/-! ### Reads that latch (R15, R19) -/

/-- `t` with the values that high words have in `s` latched. -/
def State.latchWords (s t : State) (hs : List (Nat × (State → Nat))) : State :=
  hs.foldl (fun t h => { t with latch := tput t.latch h.1 (BitVec.ofNat 32 (h.2 s)) 0 }) t

/-- A read of a low word of the list latches the words of its entry. -/
theorem State.latchListed_eq (s : State) {e : Nat × List (Nat × (State → Nat))}
    (h : highWords.find? (fun x => x.1 == e.1) = some e) : s.latchListed e.1 = s.latchWords s e.2 := by
  unfold State.latchListed
  rw [h]
  rfl

/-- Latching high words changes the latch alone. -/
theorem State.latchWords_latch (s : State) :
    ∀ (hs : List (Nat × (State → Nat))) (t : State), ∃ l, s.latchWords t hs = { t with latch := l }
  | [], t => ⟨t.latch, rfl⟩
  | h :: hs, t => by
    obtain ⟨l, hl⟩ := State.latchWords_latch s hs { t with latch := tput t.latch h.1 (BitVec.ofNat 32 (h.2 s)) 0 }
    exact ⟨l, hl⟩

theorem State.latchWords_other (s : State) {k : Nat} : ∀ (hs : List (Nat × (State → Nat))) (t : State),
    k ∉ hs.map (·.1) → tgetD (s.latchWords t hs).latch k 0 = tgetD t.latch k 0
  | [], _, _ => rfl
  | h :: hs, t, hk => by
    rw [List.map_cons, List.mem_cons, not_or] at hk
    exact (State.latchWords_other s hs _ hk.2).trans (tgetD_tput_other _ _ _ _ hk.1)

/-- Each of the high words latched together is read back. -/
theorem State.latchWords_same (s : State) {h : Nat × (State → Nat)} : ∀ (hs : List (Nat × (State → Nat))) (t : State),
    (hs.map (·.1)).Nodup → h ∈ hs → tgetD (s.latchWords t hs).latch h.1 0 = BitVec.ofNat 32 (h.2 s)
  | [], _, _, hm => nomatch hm
  | a :: hs, t, hd, hm => by
    rw [List.map_cons, List.nodup_cons] at hd
    rcases List.mem_cons.mp hm with rfl | hm
    · exact (State.latchWords_other s hs _ hd.1).trans (tgetD_tput_same _ _ _ _)
    · exact State.latchWords_same s hs _ hd.2 hm

/-- What a read latches changes the latch alone. -/
theorem State.latchHigh_eq (s : State) (fn off : Nat) : ∃ l, s.latchHigh fn off = { s with latch := l } := by
  unfold State.latchHigh
  split
  · exact ⟨_, rfl⟩
  · split
    · unfold State.latchListed
      split
      · exact ⟨s.latch, rfl⟩
      · exact s.latchWords_latch _ s
    · exact ⟨s.latch, rfl⟩

/-- A read of anything but RNG_DATA, of a function that is on, latches and answers the register's value. -/
theorem exec_latchingReadLo {s : State} {fn off : Nat} (hvf : fn ≠ 0 → s.vfOn fn = true)
    (hrng : off ≠ if fn = 0 then aRNG_DATA else 0x1000) : exec (.latchingReadLo fn off) s =
      .next ({ s.latchHigh fn off with free := (s.latchHigh fn off).free + 2 }.emit
        (.readData fn off (BitVec.ofNat 32 (if fn = 0 then s.readPf off else s.readVf fn off)))) := by
  change execLatchingReadLo fn off s = _
  unfold execLatchingReadLo
  rw [if_neg (fun h => by simp [hvf h.1] at h), if_neg fun h => hrng h.1]

/-- A read of the physical function changes the outbox, the latch and the free values, and answers the value. -/
theorem latchingReadLo_answers (s : State) {off : Nat} (hrng : off ≠ aRNG_DATA) :
    answers (.latchingReadLo 0 off) s fun t => t = { s with outbox := t.outbox, latch := t.latch, free := t.free } ∧
      t.outbox = s.outbox ++ [.readData 0 off (BitVec.ofNat 32 (s.readPf off))] := by
  refine ⟨_, exec_latchingReadLo (fun h => absurd rfl h) hrng, ?_⟩
  obtain ⟨l, hl⟩ := s.latchHigh_eq 0 off
  rw [hl]
  exact ⟨rfl, rfl⟩

/-- A low word of a 64-bit register that is written latches the word above it. -/
theorem State.latchHigh_wide {s : State} {fn off : Nat} (h : wideLow fn off = true) :
    (s.latchHigh fn off).latch = tput s.latch (latchKey fn (off + 4))
      (BitVec.ofNat 32 (if fn = 0 then s.livePf (off + 4) else s.liveVf fn (off + 4))) 0 := by
  unfold State.latchHigh
  rw [if_pos h]

theorem wideHigh_add_four {fn off : Nat} (h : wideLow fn off = true) : wideHigh fn (off + 4) = true := by
  simp [wideHigh, h]

theorem latchingReadLo_wide_answers (s : State) {off : Nat} (hw : wideLow 0 off = true) :
    answers (.latchingReadLo 0 off) s fun t => ∀ u : State, u.latch = t.latch → u.blockOn (off + 4) = true →
      u.readPf (off + 4) = s.livePf (off + 4) % 2 ^ 32 := by
  have hrng : off ≠ aRNG_DATA := fun h => absurd (h ▸ hw) (by decide +kernel)
  refine ⟨_, exec_latchingReadLo (fun h => absurd rfl h) hrng, fun u hu hon => ?_⟩
  have hlatch : u.latch = tput s.latch (latchKey 0 (off + 4)) (BitVec.ofNat 32 (s.livePf (off + 4))) 0 :=
    hu.trans (State.latchHigh_wide hw)
  unfold State.readPf
  rw [if_pos ⟨wideHigh_add_four hw, hon⟩, hlatch, tgetD_tput_same, BitVec.toNat_ofNat]

theorem latchingReadLo_vf_answers (s : State) {fn off : Nat} (hfn : fn ≠ 0) (hvf : s.vfOn fn = true)
    (hw : wideLow fn off = true) : answers (.latchingReadLo fn off) s fun t =>
      t.outbox = s.outbox ++ [.readData fn off (BitVec.ofNat 32 (s.readVf fn off))] ∧
      ∀ u : State, u.latch = t.latch → u.readVf fn (off + 4) = s.liveVf fn (off + 4) % 2 ^ 32 := by
  have hrng : off ≠ if fn = 0 then aRNG_DATA else 0x1000 := by
    rw [if_neg hfn]
    rintro rfl
    simp [wideLow, hfn] at hw
  refine ⟨_, exec_latchingReadLo (fun _ => hvf) hrng, ?_, fun u hu => ?_⟩
  · obtain ⟨l, hl⟩ := s.latchHigh_eq fn off
    rw [hl, if_neg hfn]
    rfl
  · have hlatch := hu.trans (State.latchHigh_wide (s := s) hw)
    rw [if_neg hfn] at hlatch
    unfold State.readVf
    rw [if_pos (wideHigh_add_four hw), hlatch, tgetD_tput_same, BitVec.toNat_ofNat]

/-! ### The listed 64-bit registers (R19) -/

/-- The list has one entry for each low word, and distinct high words in it. -/
theorem find_highWords : ∀ e ∈ highWords, highWords.find? (fun x => x.1 == e.1) = some e := by
  intro e he
  simp only [highWords, List.mem_cons, List.not_mem_nil, or_false] at he
  rcases he with rfl | rfl | rfl | rfl | rfl | rfl | rfl | rfl | rfl | rfl <;> rfl

theorem highWords_low : ∀ e ∈ highWords, wideLow 0 e.1 = false ∧ e.1 ≠ aRNG_DATA ∧ (e.2.map (·.1)).Nodup := by
  decide +kernel

/-- A latched offset is the one of a readable register, below the doorbells or in a block above them. -/
theorem latchedOffs_rows : ∀ o ∈ latchedOffs, wideHigh 0 o = false ∧ OnRegisterMap o ∧
    (rowAt o).any (fun w => w.kind != .wo) = true := by
  decide +kernel

/-- A read at a latched offset answers the latch. -/
theorem State.readPf_latched (u : State) {o : Nat} (ho : o ∈ latchedOffs) (hon : u.blockOn o = true) :
    u.readPf o = (tgetD u.latch o 0).toNat := by
  obtain ⟨hwide, hrange, hrow⟩ := latchedOffs_rows o ho
  obtain ⟨w, hw, hk⟩ := (Option.any_eq_true _ _).mp hrow
  unfold State.readPf State.livePf State.readReg
  rw [if_neg (by simp [hwide]), if_neg (by simp [hon]), if_neg (by omega), if_neg (by omega), if_neg (by omega), hw]
  dsimp only
  rw [if_neg (by simpa using hk), if_pos (by simpa using ho)]

theorem latchingReadLo_listed_answers (s : State) {e : Nat × List (Nat × (State → Nat))} (he : e ∈ highWords)
    {h : Nat × (State → Nat)} (hh : h ∈ e.2) (hon : s.blockOn e.1 = true) :
    answers (.latchingReadLo 0 e.1) s fun t => ∀ u : State, u.latch = t.latch → u.blockOn h.1 = true →
      u.readPf h.1 = h.2 s % 2 ^ 32 := by
  obtain ⟨hwide, hrng, hnodup⟩ := highWords_low e he
  refine ⟨_, exec_latchingReadLo (fun h => absurd rfl h) hrng, fun u hu hb => ?_⟩
  have ho : h.1 ∈ latchedOffs := List.mem_flatMap.mpr ⟨e, he, List.mem_map_of_mem hh⟩
  have hlatch : (s.latchHigh 0 e.1).latch = (s.latchWords s e.2).latch := by
    unfold State.latchHigh
    rw [if_neg (by simp [hwide]), if_pos ⟨rfl, hon⟩, s.latchListed_eq (find_highWords e he)]
  rw [u.readPf_latched ho hb, hu.trans hlatch, s.latchWords_same e.2 s hnodup hh, BitVec.toNat_ofNat]

/-- The writes with a row of their own act as that row. -/
theorem registerWrite_rows_answers (s : State) (v : Reg) : ∀ e ∈ [(aCFG_COMMIT, Instr.cfgCommit), (aCFG_CANCEL, .cfgCancel),
      (aCFG_REVERT, .cfgRevert), (aXS_TIME_SET_HI, .xsTimeSet), (aPE_KC_FLUSH, .peKcFlush), (aMP_MGMT_EN, .mpMgmtEn),
      (aPT_FIFO_FLUSH, .ptFifoFlush), (aFC_RELEASE, .fcRelease), (aPWR_RESET, .pwrReset)], s.blockOn e.1 = true →
    answers (.registerWrite 0 e.1 v) s fun t => exec (e.2 v) s = .next t := by
  intro e he
  simp only [List.mem_cons, List.not_mem_nil, or_false] at he
  rcases he with rfl | rfl | rfl | rfl | rfl | rfl | rfl | rfl | rfl
  · exact registerWrite_ownRow_answers (f := execCfgCommit) rfl (by decide) rfl ⟨_, rfl⟩
  · exact registerWrite_ownRow_answers (f := execCfgCancel) rfl (by decide) rfl ⟨_, rfl⟩
  · exact registerWrite_ownRow_answers (f := execCfgRevert) rfl (by decide) rfl ⟨_, rfl⟩
  · obtain ⟨t, ht, -⟩ := xsTimeSet_answers s v
    exact registerWrite_ownRow_answers (f := execXsTimeSet) rfl (by decide) rfl ⟨t, ht⟩
  · exact registerWrite_ownRow_answers (f := execPeKcFlush) rfl (by decide) rfl ⟨_, rfl⟩
  · exact registerWrite_ownRow_answers (f := execMpMgmtEn) rfl (by decide) rfl ⟨_, rfl⟩
  · refine registerWrite_ownRow_answers (f := execPtFifoFlush) rfl (by decide) rfl ?_
    unfold execPtFifoFlush
    dsimp only
    split <;> exact ⟨_, rfl⟩
  · refine registerWrite_ownRow_answers (f := execFcRelease) rfl (by decide) rfl ?_
    unfold execFcRelease
    split <;> exact ⟨_, rfl⟩
  · refine registerWrite_ownRow_answers (f := execPwrReset) rfl (by decide) rfl ?_
    unfold execPwrReset
    split <;> exact ⟨_, rfl⟩

/-- Settles O7: every clause is the lemma above on its command and its case. -/
theorem registersAndStaging : Obligations.RegistersAndStaging := by
  unfold Obligations.RegistersAndStaging
  intro s v mine
  have hmine : mine = (hostGroups v).getLsbD := funext fun g => (getLsbD_hostGroups v g).symm
  clear_value mine
  subst hmine
  refine ⟨cfgCommit_answers s v, cfgCancel_answers v, cfgRevert_answers s v, fun off g hg hon ho => ⟨?_, ?_, ?_, ?_⟩,
    fun off hlt hon hs hq hrow => ⟨?_, ?_⟩, fun off hoff => ⟨s, exec_registerWrite_unpowered v hoff, rfl⟩,
    fun fn off hfn hvf =>
      ⟨⟨s, exec_registerWrite_vfOff v off hfn hvf, rfl⟩, ⟨s, exec_latchingReadLo_vfOff off hfn hvf, rfl⟩⟩,
    registerWrite_rows_answers s v, xsTimeSet_answers s v, fun off => latchingReadLo_answers s,
    fun e he h hh => latchingReadLo_listed_answers s he hh, fun off => latchingReadLo_wide_answers s,
    fun fn off => latchingReadLo_vf_answers s⟩
  · exact fun hp => ⟨_, exec_shadowWrite v hg hon, State.writeShadow_pending v hg ho hp⟩
  · exact fun hp hm => ⟨_, exec_shadowWrite v hg hon, State.writeShadow_mp v hg ho hp hm⟩
  · exact fun hp hm => ⟨shadowWrite_plain_answers v hg ho hp hm hon,
      fun q r hq hr => shadowWrite_low_answers v hg ho hp hm hon hq hr,
      fun q r lo hq hr h4 hl => shadowWrite_high_answers v hg ho hp hm hon hq hr h4 hl⟩
  · exact shadowWrite_above_answers v hg hon
  · intro w hw hk hr hc
    refine ⟨_, exec_registerWrite_pf v hlt hon hrow, ?_⟩
    rw [State.writePf_rw v hs hq hw hk hr hc]
    exact ⟨rfl, s.reg_setReg_same _ _, fun o h => s.reg_setReg_other _ h⟩
  · exact fun hw => ⟨_, exec_registerWrite_pf v hlt hon hrow, State.writePf_unassigned v hs hq hw⟩

end Sys2Proof.Machine
end

section
/-! The state before any power is applied. -/

namespace Sys2Proof.Machine

/-- Settles O6: the reset state is the record of every field's default, so each read finds its table empty. -/
theorem resetState : Obligations.ResetState := by
  unfold Obligations.ResetState
  exact ⟨fun off => ⟨rfl, rfl⟩, fun _ _ => rfl, fun _ => rfl, fun _ => rfl, fun _ => rfl, fun _ => rfl,
    fun _ => BitVec.getLsbD_zero, fun _ => rfl, fun _ => ⟨rfl, rfl⟩, rfl, rfl, rfl, rfl, rfl, rfl, rfl, rfl, rfl,
    by decide, Nat.zero_lt_succ _, lvusCanonical_nil⟩

end Sys2Proof.Machine
end

section
/-! What a CONTAINED fault of an engine does, and the run of a microword: the statement on the sequencers follows. -/

namespace Sys2Proof.Machine

/-! ### Reading engines and counters after a write -/

section
variable (s : State)

@[simp] theorem State.eng_setEng_other {k i : Nat} (e : Engine) (h : i ≠ k) : (s.setEng k e).eng i = s.eng i :=
  tgetD_tput_other _ _ _ _ h

@[simp] theorem State.eng_onEng_same (k : Nat) (f : Engine → Engine) : (s.onEng k f).eng k = f (s.eng k) :=
  s.eng_setEng_same k _

@[simp] theorem State.eng_onEng_other {k i : Nat} (f : Engine → Engine) (h : i ≠ k) : (s.onEng k f).eng i = s.eng i :=
  s.eng_setEng_other _ h

/-- The counters of two registers are apart, whatever index below 65,536 they are selected by. -/
theorem cntKey_ne {off o idx i : Nat} (h : off ≠ o) (hidx : idx < 65536) (hi : i < 65536) :
    cntKey off idx ≠ cntKey o i := by
  unfold cntKey
  omega

theorem State.cnt_bumpBy_same (off idx n : Nat) : (s.bumpBy off idx n).cnt off idx = (s.cnt off idx + n) % 2 ^ 32 :=
  s.cnt_setCnt_same _ _ _

theorem State.cnt_bumpBy_other {off o idx i : Nat} (n : Nat) (h : off ≠ o) (hidx : idx < 65536) (hi : i < 65536) :
    (s.bumpBy o i n).cnt off idx = s.cnt off idx :=
  tgetD_tput_other _ _ _ _ (cntKey_ne h hidx hi)

/-! ### Recording a fault and telling of it (R589, R599 to R603) -/

/-- Logging a fault changes the collector alone. -/
theorem State.logFault_eq (cls : Nat) (msg : Bytes) : ∃ fc, s.logFault cls msg = { s with fc := fc } ∧
    fc.mstate = s.fc.mstate := by
  unfold State.logFault
  dsimp only
  repeat' split
  all_goals exact ⟨_, rfl, rfl⟩

/-- A capture changes the collector alone. -/
theorem State.capture_eq (cls : Nat) (msg : Bytes) : ∃ fc, s.capture cls msg = { s with fc := fc } ∧
    fc.mstate = s.fc.mstate := by
  unfold State.capture
  split <;> exact ⟨_, rfl, rfl⟩

/-- Collecting a message counts it, and else changes the collector alone. -/
theorem State.collect_eq (m : FaultMsg) (cls : Nat) :
    ∃ fc, s.collect m cls = { s.bump (aFC_CNT_CORR + 4 * cls) 0 with fc := fc } ∧ fc.mstate = s.fc.mstate := by
  unfold State.collect
  extract_lets msg s1 s2
  obtain ⟨fc1, h1, hm1⟩ := (s.bump (aFC_CNT_CORR + 4 * cls) 0).capture_eq cls msg
  have h2 : ∃ fc, s2 = { s.bump (aFC_CNT_CORR + 4 * cls) 0 with fc := fc } ∧ fc.mstate = s.fc.mstate := by
    dsimp only [s2]
    split
    · exact ⟨fc1, h1, hm1⟩
    · obtain ⟨fc2, h2, hm2⟩ := s1.logFault_eq cls msg
      rw [h2]
      refine ⟨fc2, ?_, ?_⟩
      · dsimp only [s1]
        rw [h1]
      · rw [hm2]
        dsimp only [s1]
        rw [h1]
        exact hm1
  obtain ⟨fc, h, hm⟩ := h2
  clear_value s2
  subst h
  split
  · exact ⟨_, rfl, hm⟩
  · exact ⟨_, rfl, hm⟩
end

/-! ### An event counts in no register -/

section
variable (s : State)

theorem State.sendVector_cnts (fn v : Nat) : (s.sendVector fn v).cnts = s.cnts := by
  unfold State.sendVector
  split <;> rfl

theorem State.fireVector_cnts (fn v : Nat) : (s.fireVector fn v).cnts = s.cnts := by
  rcases s.fireVector_cases fn v with ⟨-, _, _, he⟩ | ⟨-, -, he⟩
  · rw [he]
  · rw [he, s.sendVector_cnts]

theorem State.moderate_cnts (q : Nat) : (s.moderate q).cnts = s.cnts := by
  unfold State.moderate
  dsimp only
  repeat' split
  · rfl
  · exact State.fireVector_cnts _ _ _
  · exact State.fireVector_cnts _ _ _
  · rfl

theorem State.mirror_cnts (q : Nat) : (s.mirror q).cnts = s.cnts := by
  unfold State.mirror
  split <;> rfl

theorem State.writeCq_cnts (q : Nat) (body : Bytes) : (s.writeCq q body).cnts = s.cnts := by
  unfold State.writeCq State.adoptWritten
  dsimp only
  split <;> rfl

theorem State.postLost_cnts (q : Nat) : (s.postLost q).cnts = s.cnts := by
  unfold State.postLost
  dsimp only
  split
  · exact s.writeCq_cnts _ _
  · rfl

theorem State.postEvent_cnts (inst code : Nat) (queue : Option Nat) (info info2 : Nat) :
    (s.postEvent inst code queue info info2).cnts = s.cnts := by
  unfold State.postEvent
  split
  · rfl
  · rename_i e _
    have hl := s.postLost_cnts e
    dsimp only
    split
    · rw [State.moderate_cnts, State.mirror_cnts, State.writeCq_cnts, hl]
    · split
      · exact hl
      · rw [State.moderate_cnts, State.mirror_cnts]
        exact hl

end

/-! ### What an engine's CONTAINED fault does (R594, R596) -/

/-- The counters that recording a CONTAINED fault and containing its engine may raise. -/
def containCounters : List Nat :=
  [aFC_CNT_CORR + 4, aFC_FRAME_DROP, aPE_CONTAINED, aME_CONTAINED, aCE_CONTAINED, aBN_CONTAINED, aSE_CONTAINED,
    aDE_CONTAINED]

/-- Between `s` and `t` a CONTAINED fault was recorded and told of: jobs and engines stand, and the counters of other
registers. -/
structure FaultTold (s t : State) : Prop where
  jobs : t.jobs = s.jobs
  engines : t.engines = s.engines
  counters : ∀ off ∉ containCounters, ∀ idx < 65536, t.cnt off idx = s.cnt off idx

theorem FaultTold.refl (s : State) : FaultTold s s := ⟨rfl, rfl, fun _ _ _ _ => rfl⟩

theorem FaultTold.trans {r s t : State} (h : FaultTold r s) (g : FaultTold s t) : FaultTold r t :=
  ⟨g.jobs.trans h.jobs, g.engines.trans h.engines, fun off ho idx hi => (g.counters off ho idx hi).trans (h.counters off ho idx hi)⟩

theorem FaultTold.collect (s : State) (m : FaultMsg) : FaultTold s (s.collect m 1) := by
  obtain ⟨fc, h, -⟩ := s.collect_eq m 1
  rw [h]
  refine ⟨rfl, rfl, fun off ho idx hi => s.cnt_bumpBy_other 1 ?_ hi (by decide)⟩
  rintro rfl
  exact ho (by decide)

theorem FaultTold.postEvent (s : State) (inst code : Nat) (queue : Option Nat) (info info2 : Nat) :
    FaultTold s (s.postEvent inst code queue info info2) := by
  have h := (QueueTraffic.refl s).postEvent inst code queue info info2
  refine ⟨h.jobs, ?_, fun off _ idx _ => ?_⟩
  · rw [h]
  · unfold State.cnt
    rw [s.postEvent_cnts]

/-- Every engine's SOURCE names it again, and lies below those of the other parts (R590). -/
theorem engOfSource_engSource (c : EngClass) {i : Nat} (h : i < classSize (classCode c)) :
    engOfSource (engSource (classCode c) i) = some (classCode c, i) ∧ engSource (classCode c) i < 512 := by
  cases c <;> revert i <;> decide

/-- A CONTAINED fault of an engine is recorded and told of, and contains it. -/
theorem State.raiseEng_contained (s : State) (c : EngClass) {i kind : Nat} (addr : Nat)
    (hi : i < classSize (classCode c)) (hk : kindClass kind false = some 1)
    (hd : kind ≠ 0x10 ∧ kind ≠ 0x11 ∧ kind ≠ 0x12 ∧ kind ≠ 0x13 ∧ kind ≠ 0x21) :
    ∃ u, FaultTold s u ∧ s.raiseEng (classCode c) i kind addr = u.containEngine (classCode c) i := by
  obtain ⟨hsrc, hlow⟩ := engOfSource_engSource c hi
  unfold State.raiseEng State.raise
  rw [hk]
  dsimp only
  rw [if_neg (by decide), if_pos rfl, hsrc]
  dsimp only
  rw [if_pos hlow]
  refine ⟨_, ?_, rfl⟩
  obtain ⟨h1, h2, h3, h4, h5⟩ := hd
  have hdcm : ∀ t : State, t.countDcm kind = t := fun t => by
    unfold State.countDcm
    rw [if_neg (by simp [h1, h2, h3, h4, h5])]
  rw [hdcm]
  split
  · exact (FaultTold.collect s _).trans (FaultTold.postEvent _ _ _ _ _ _)
  · exact FaultTold.collect s _

theorem State.dropFrames_told (s : State) (se : Nat) : FaultTold s (s.dropFrames se) := by
  refine ⟨rfl, rfl, fun off ho idx hi => State.cnt_bumpBy_other _ _ ?_ hi (by decide)⟩
  rintro rfl
  exact ho (by decide)

/-- Counting a CONTAINED fault of an engine raises one of the listed counters. -/
theorem State.countContained_told (s : State) (cls : Nat) {i : Nat} (hi : i < 65536) :
    FaultTold s (match engCounter cls false with
      | some c => s.bump c i
      | none => s) := by
  have hin : ∀ c, engCounter cls false = some c → c ∈ containCounters := by
    unfold engCounter
    split <;> rintro _ ⟨⟩ <;> decide
  split
  · rename_i c hc
    refine ⟨rfl, rfl, fun off ho idx hx => State.cnt_bumpBy_other _ _ ?_ hx hi⟩
    rintro rfl
    exact ho (hin _ hc)
  · exact FaultTold.refl s

/-- Holding an engine leaves the jobs, and the engine out of service. -/
theorem State.holdEngine_told (s : State) (cls i count : Nat) :
    (s.holdEngine cls i count).jobs = s.jobs ∧
    (∀ off ∉ containCounters, ∀ idx < 65536, (s.holdEngine cls i count).cnt off idx = s.cnt off idx) ∧
    ((s.eng (engKey cls i)).oos = true → ((s.holdEngine cls i count).eng (engKey cls i)).oos = true) := by
  unfold State.holdEngine
  dsimp only
  split
  · exact ⟨rfl, fun _ _ _ _ => rfl, id⟩
  · have h := (FaultTold.collect (s.onEng (engKey cls i) fun e => { e with held := true, oos := true })
        { source := engSource cls i, access := 0, kind := 0x42, master := 0, address := count, fatal := false }).trans
      (FaultTold.postEvent _ 0 0x0272 none (engSource cls i) count)
    refine ⟨h.jobs, h.counters, fun _ => ?_⟩
    unfold State.eng
    rw [h.engines]
    exact congrArg Engine.oos (State.eng_onEng_same s _ _)

/-- A contained engine's job ends FAULT_CONTAINED, and the engine is out of service. -/
theorem State.containEngine_ends {s : State} {cls i j : Nat} {b : Job} (hb : (s.eng (engKey cls i)).busy = some j)
    (hj : s.job j = some b) (hi : i < 65536) :
    endedWith (s.containEngine cls i) j (failed stFAULT_CONTAINED) ∧
    ((s.containEngine cls i).eng (engKey cls i)).oos = true ∧
    ∀ off ∉ containCounters, ∀ idx < 65536, (s.containEngine cls i).cnt off idx = s.cnt off idx := by
  generalize ht : s.containEngine cls i = t
  unfold State.containEngine at ht
  extract_lets k s1 s2 s3 recent s4 s5 at ht
  have h0 : s1 = s.failJob j stFAULT_CONTAINED := by
    dsimp only [s1, k]
    rw [hb]
  have h2j : s2.jobs = (s.failJob j stFAULT_CONTAINED).jobs :=
    (show s2.jobs = s1.jobs from rfl).trans (congrArg State.jobs h0)
  have h2c : s2.cnts = s.cnts :=
    (show s2.cnts = s1.cnts from rfl).trans ((congrArg State.cnts h0).trans (State.endJob_cnts _ _ _))
  have h3 : FaultTold s2 s3 := by
    dsimp only [s3]
    split
    · exact s2.dropFrames_told i
    · exact FaultTold.refl s2
  have h5 : FaultTold s4 s5 := s4.countContained_told cls hi
  have hjobs : s5.jobs = (s.failJob j stFAULT_CONTAINED).jobs := (h5.jobs.trans h3.jobs).trans h2j
  have hcnt : ∀ off ∉ containCounters, ∀ idx < 65536, s5.cnt off idx = s.cnt off idx := fun off ho idx hx =>
    calc s5.cnt off idx = s4.cnt off idx := h5.counters off ho idx hx
      _ = s2.cnt off idx := h3.counters off ho idx hx
      _ = s.cnt off idx := by unfold State.cnt; rw [h2c]
  have hoos : (s5.eng k).oos = true := by
    unfold State.eng
    rw [h5.engines]
    exact congrArg Engine.oos (State.eng_onEng_same s3 _ _)
  have hend : endedWith s5 j (failed stFAULT_CONTAINED) := by
    obtain ⟨x, hx, he⟩ := endedWith_endJob (failed stFAULT_CONTAINED) hj
    exact ⟨x, (job_of_jobs hjobs j).trans hx, he⟩
  obtain ⟨gj, gc, go⟩ := s5.holdEngine_told cls i recent.length
  subst ht
  split
  · obtain ⟨x, hx, he⟩ := hend
    exact ⟨⟨x, (job_of_jobs gj j).trans hx, he⟩, go hoos, fun off ho idx hx => (gc off ho idx hx).trans (hcnt off ho idx hx)⟩
  · exact ⟨hend, hoos, hcnt⟩

/-! ### Sequencer faults (R370, R372, R375) -/

/-- A sequencer fault: the job ends FAULT_CONTAINED, the engine is out of service, and MC_SEQ_FAULTS counts it. -/
def SequencerFaulted (s t : State) (k j : Nat) : Prop :=
  endedWith t j (failed stFAULT_CONTAINED) ∧ (t.eng k).oos = true ∧
    t.cnt aMC_SEQ_FAULTS 0 = (s.cnt aMC_SEQ_FAULTS 0 + 1) % 2 ^ 32

theorem State.sequencerFault_faulted {s : State} {c : EngClass} {i j : Nat} {b : Job} (hi : i < classSize (classCode c))
    (hb : (s.eng (engKey (classCode c) i)).busy = some j) (hj : s.job j = some b) :
    SequencerFaulted s (s.sequencerFault (classCode c) i) (engKey (classCode c) i) j := by
  have hi' : i < 65536 := hi.trans_le (by cases c <;> decide)
  unfold State.sequencerFault
  obtain ⟨u, hu, he⟩ := (s.bump aMC_SEQ_FAULTS 0).raiseEng_contained c (kind := 0x14)
    (s.seq (engKey (classCode c) i)).pc hi (by decide) (by decide)
  rw [he]
  have hub : (u.eng (engKey (classCode c) i)).busy = some j := by
    rw [← hb]
    unfold State.eng
    rw [hu.engines]
    rfl
  obtain ⟨h1, h2, h3⟩ := State.containEngine_ends hub ((job_of_jobs hu.jobs j).trans hj) hi'
  refine ⟨h1, h2, ?_⟩
  rw [h3 _ (by decide) 0 (by decide), hu.counters _ (by decide) 0 (by decide)]
  exact s.cnt_bumpBy_same _ _ _

/-! ### A microword (R369 to R372, R375) -/

/-- Engine `i` of class `c` runs job `j`, which is `b`, under cluster `x`; its routine goes on. -/
structure SequencerRuns (s : State) (c : EngClass) (i x j : Nat) (b : Job) : Prop where
  size : i < classSize (classCode c)
  cluster : clusterOf (classCode c) i = some x
  busy : (s.eng (engKey (classCode c) i)).busy = some j
  job : s.job j = some b
  running : b.phase = .running
  open_ : (s.seq (engKey (classCode c) i)).ended = false
  ready : classCode c = 1 → (s.lvu i).restart = none

/-- The sequencer as a microword finds it: a cycle counted, its nanoword and its own address recorded. -/
def Sequencer.issue (q : Sequencer) (nptr : Nat) : Sequencer :=
  { q with cycles := q.cycles + 1, nptr := nptr % 16384, imm := 0, issued := q.pc }

/-- How a word ends: the sequencer as its code moved it, or a sequencer fault. -/
def settleWord (cls i : Nat) : UwEnd × State → State
  | (.fault, t) => t.sequencerFault cls i
  | (.go q, t) => if cls ≠ 1 ∧ q.cycles > 2000 then t.sequencerFault cls i else t.setSeq (engKey cls i) q

theorem settleWord_go {cls i : Nat} {q : Sequencer} (t : State) (h : cls = 1 ∨ q.cycles ≤ 2000) :
    settleWord cls i (.go q, t) = t.setSeq (engKey cls i) q :=
  if_neg fun g => h.elim g.1 g.2.not_ge

theorem settleWord_late {cls i : Nat} {q : Sequencer} (t : State) (hc : cls ≠ 1) (hq : 2000 < q.cycles) :
    settleWord cls i (.go q, t) = t.sequencerFault cls i :=
  if_pos ⟨hc, hq⟩

/-- The word is the one that the pack of cluster `x` holds where the sequencer stands; a base pack may hold any. -/
def UwFits (s : State) (k x sq nptr imm : Nat) : Prop :=
  (s.seq k).pc < (s.packOf x).uw ∧ nptr % 16384 < (s.packOf x).nw ∧
    ((s.packOf x).base = true ∨
      (s.packOf x).microword (s.seq k).pc = (sq, nptr % 16384, immOf (s.packOf x).fmt imm, 0))

section
variable {s t : State} {c : EngClass} {i x j sq nptr imm : Nat} {b : Job} {q : Sequencer}
  {f : State → Job → Sequencer → Nat → UwEnd × State}

theorem SequencerRuns.found (h : SequencerRuns s c i x j b) :
    ((s.eng (engKey (classCode c) i)).busy).bind s.job = some b := by
  rw [h.busy]
  exact h.job

/-- The engine's sequencer takes its next word. -/
theorem SequencerRuns.takes (h : SequencerRuns s c i x j b) :
    ¬(b.phase ≠ .running ∨ (s.seq (engKey (classCode c) i)).ended = true ∨
      (classCode c = 1 ∧ (s.lvu i).restart.isSome = true)) := by
  simpa [h.running, h.open_] using h.ready

/-- A word of which the address or the nanoword lies outside the pack is a sequencer fault. -/
theorem SequencerRuns.microword_outside (h : SequencerRuns s c i x j b)
    (ho : (s.packOf x).uw ≤ (s.seq (engKey (classCode c) i)).pc ∨ (s.packOf x).nw ≤ nptr % 16384) :
    s.microword (classCode c) i sq nptr imm f = s.sequencerFault (classCode c) i := by
  unfold State.microword
  dsimp only
  rw [h.cluster, h.found]
  dsimp only
  rw [if_neg h.takes, if_pos ho]

/-- A fitting word does what its code says. -/
theorem SequencerRuns.microword_inside (h : SequencerRuns s c i x j b)
    (hw : UwFits s (engKey (classCode c) i) x sq nptr imm) :
    s.microword (classCode c) i sq nptr imm f = settleWord (classCode c) i
      (f s b ((s.seq (engKey (classCode c) i)).issue nptr) (immOf (s.packOf x).fmt imm)) := by
  obtain ⟨hpc, hnw, hpack⟩ := hw
  unfold State.microword
  dsimp only
  rw [h.cluster, h.found]
  dsimp only
  rw [if_neg h.takes, if_neg (by omega), if_neg (by rcases hpack with hp | hp <;> simp [hp])]
  unfold Sequencer.issue
  generalize f s b _ _ = r
  obtain ⟨e, t⟩ := r
  cases e <;> rfl

variable {w : Instr} {P : State → Prop} (h : SequencerRuns s c i x j b)
  (he : exec w s = .next (s.microword (classCode c) i sq nptr imm f))
  (hw : UwFits s (engKey (classCode c) i) x sq nptr imm)
include h he hw

/-- A fitting word within its cycles moves its sequencer. -/
theorem SequencerRuns.answers_go
    (hf : f s b ((s.seq (engKey (classCode c) i)).issue nptr) (immOf (s.packOf x).fmt imm) = (.go q, t))
    (hc : classCode c = 1 ∨ q.cycles ≤ 2000) (hP : P (t.setSeq (engKey (classCode c) i) q)) : answers w s P := by
  refine ⟨_, he.trans (congrArg Host.Outcome.next ((h.microword_inside hw).trans (congrArg _ hf))), ?_⟩
  rw [settleWord_go t hc]
  exact hP

/-- More than 2,000 cycles without YIELD are a fault, but on a PE. -/
theorem SequencerRuns.answers_late
    (hf : f s b ((s.seq (engKey (classCode c) i)).issue nptr) (immOf (s.packOf x).fmt imm) = (.go q, t))
    (hc : classCode c ≠ 1) (hq : 2000 < q.cycles) (hP : P (t.sequencerFault (classCode c) i)) : answers w s P := by
  refine ⟨_, he.trans (congrArg Host.Outcome.next ((h.microword_inside hw).trans (congrArg _ hf))), ?_⟩
  rw [settleWord_late t hc hq]
  exact hP

/-- A fitting word whose code refuses is a fault. -/
theorem SequencerRuns.answers_fault
    (hf : f s b ((s.seq (engKey (classCode c) i)).issue nptr) (immOf (s.packOf x).fmt imm) = (.fault, t))
    (hP : P (t.sequencerFault (classCode c) i)) : answers w s P :=
  ⟨_, he.trans (congrArg Host.Outcome.next ((h.microword_inside hw).trans (congrArg _ hf))), hP⟩

end

/-- The free number a condition of the engine's own units draws is all that a branch changes beside its sequencer. -/
theorem State.branchOn_free (s : State) (cls i : Nat) (b : Job) (cond : Nat) :
    ∃ n, (s.branchOn cls i b cond).2 = { s with free := n } :=
  match cond with
  | 0 | 1 | 2 | 6 | 7 | 8 => ⟨s.free, rfl⟩
  | 3 | 4 | 5 => ⟨s.free + 1, rfl⟩
  | _ + 9 => ⟨s.free, rfl⟩

/-- What the conditions with a meaning of their own decide (R371). -/
theorem State.branchOn_decides (s : State) (cls i : Nat) (b : Job) (cond : Nat) :
    (cond = 0 → (s.branchOn cls i b cond).1 = true) ∧
    (cond = 1 → (s.branchOn cls i b cond).1 = (cls == 1 && (s.lvu i).pany)) ∧
    (cond = 2 → (s.branchOn cls i b cond).1 = !(cls == 1 && (s.lvu i).pany)) ∧
    (cond = 6 → (s.branchOn cls i b cond).1 = (b.forkEngines != [])) ∧
    (cond = 8 → (s.branchOn cls i b cond).1 = s.hasSealed b.handle) ∧
    (9 ≤ cond → (s.branchOn cls i b cond).1 = false) := by
  refine ⟨fun h => by rw [h]; rfl, fun h => by rw [h]; rfl, fun h => by rw [h]; rfl, fun h => by rw [h]; rfl,
    fun h => by rw [h]; rfl, fun h => ?_⟩
  obtain ⟨n, rfl⟩ : ∃ n, cond = n + 9 := ⟨cond - 9, by omega⟩
  rfl

theorem State.seq_setSeq_same (s : State) (k : Nat) (q : Sequencer) : (s.setSeq k q).seq k = q :=
  tgetD_tput_same _ _ _ _

/-- A job that nothing asks to stop goes on at its preemption point. -/
theorem State.preemptPoint_unasked {s : State} {c : EngClass} {i j : Nat} {b : Job}
    (hb : (s.eng (engKey (classCode c) i)).busy = some j) (hj : s.job j = some b) (hd : s.drainAborts b = false)
    (hp : b.preemptAsked = false) (hq : b.quantumOver = false) : s.preemptPoint (classCode c) i = s := by
  unfold State.preemptPoint
  split
  · rfl
  · rw [hb]
    dsimp only
    rw [hj]
    dsimp only
    split
    · rfl
    · rw [if_neg (by simp [hd, hp]), if_neg (by simp [hp]), if_neg (by simp [hq])]

/-- A YIELD that fits moves its sequencer, and its preemption point finds nothing asked. -/
theorem SequencerRuns.yield_answers {s : State} {c : EngClass} {i x j nptr imm : Nat} {b : Job} {P : State → Prop}
    (h : SequencerRuns s c i x j b) (hw : UwFits s (engKey (classCode c) i) x 6 nptr imm) (hc : classCode c ≠ 1)
    (hd : s.drainAborts b = false) (hp : b.preemptAsked = false) (hq : b.quantumOver = false)
    (hP : P (s.setSeq (engKey (classCode c) i) { (s.seq (engKey (classCode c) i)).issue nptr with
      pc := (s.seq (engKey (classCode c) i)).pc + 1, imm := immOf (s.packOf x).fmt imm, cycles := 0 })) :
    answers (.uwYield c i nptr imm) s P := by
  refine ⟨_, if_neg hc, ?_⟩
  rw [h.microword_inside hw]
  dsimp only [settleWord]
  rw [if_neg (fun hx => absurd hx.2 (by decide)),
    State.preemptPoint_unasked (s := s.setSeq _ _) h.busy h.job hd hp hq]
  exact hP

/-- A job that has run 1,600 ns or more on an ME, CE or BNE meets the guard of its sequencer (R372). -/
theorem exec_sequencerGuardExpiry {s : State} {c : EngClass} {i x j : Nat} {b : Job}
    (hcl : clusterOf (classCode c) i = some x) (hbusy : (s.eng (engKey (classCode c) i)).busy = some j)
    (hjob : s.job j = some b) (hrun : b.phase = .running) (hc : classCode c ≠ 1) (hp : s.passed b.grantUp 1600 = true) :
    exec (.sequencerGuardExpiry c i) s = .next (s.sequencerFault (classCode c) i) := by
  change execSequencerGuardExpiry c i s = _
  unfold execSequencerGuardExpiry
  dsimp only
  rw [hcl, hbusy]
  dsimp only [Option.bind]
  rw [hjob]
  exact if_pos ⟨hc, hrun, hp⟩

/-- Settles O45: each word is the lemma on its case, and every fault is the sequencer's. -/
theorem microwordsRun : Obligations.MicrowordsRun := by
  unfold Obligations.MicrowordsRun
  intro s c i nptr imm x j b cls k q p v q' faulted runs hi hcl hbusy hjob hrun
  have hfault : faulted (s.sequencerFault cls i) := State.sequencerFault_faulted hi hbusy hjob
  refine ⟨fun hc hp => ⟨_, exec_sequencerGuardExpiry hcl hbusy hjob hrun hc hp, hfault⟩, fun hopen hready => ?_⟩
  have h : SequencerRuns s c i x j b := ⟨hi, hcl, hbusy, hjob, hrun, hopen, hready⟩
  refine ⟨fun ho w hw => ?_, fun hpc hnw => ?_⟩
  · simp only [List.mem_cons, List.not_mem_nil, or_false] at hw
    rcases hw with rfl | rfl | rfl | rfl | rfl | rfl | rfl <;>
      exact ⟨_, congrArg Host.Outcome.next (h.microword_outside ho), hfault⟩
  have fits : ∀ {sq}, (p.base = true ∨ p.microword q.pc = (sq, nptr % 16384, v, 0)) → UwFits s k x sq nptr imm :=
    fun hw => ⟨hpc, hnw, hw⟩
  refine ⟨fun hl hw => h.answers_fault rfl (fits hw) (if_pos hl) hfault,
    fun hr hw => h.answers_fault (t := s) rfl (fits hw) ?_ hfault,
    fun hc hl hw => h.answers_late rfl (fits hw) rfl hc (Nat.lt_succ_of_le hl) hfault,
    fun hc _ hd hp hq hw => h.yield_answers (fits hw) hc hd hp hq rfl, fun hc => ?_⟩
  · dsimp only [Sequencer.issue]
    rw [show (s.seq _).ret = [] from hr]
  have hc' : cls = 1 ∨ q'.cycles ≤ 2000 := hc.imp_right Nat.succ_le_of_lt
  refine ⟨fun hw => h.answers_go rfl (fits hw) rfl hc' rfl, fun hw => h.answers_go rfl (fits hw) rfl hc' rfl,
    fun hw => h.answers_go rfl (fits hw) rfl hc' ?_, fun hw => h.answers_go rfl (fits hw) rfl hc' rfl,
    fun hl hw => h.answers_go rfl (fits hw) (if_neg (Nat.not_le.mpr hl)) hc' rfl,
    fun a r hr hw => h.answers_go (q := { q' with ret := r, pc := a }) (t := s) rfl (fits hw) ?_ hc' rfl,
    fun hw => h.answers_go rfl (fits hw) rfl hc' rfl⟩
  · obtain ⟨n, hn⟩ := s.branchOn_free cls i b (v / 2048 % 16)
    refine ⟨_, State.seq_setSeq_same _ _ _, ?_, s.branchOn_decides cls i b _⟩
    rw [hn]
    rfl
  · dsimp only [Sequencer.issue]
    rw [show (s.seq _).ret = a :: r from hr]

end Sys2Proof.Machine
end

section
/-! The sources of the timebase: which one steers, what its loss does, and what the inputs count. -/

namespace Sys2Proof.Machine

/-! ### Lock and its ready bit (R66) -/

/-- Setting or clearing a ready bit leaves the timebase. -/
theorem State.setReady_tb (s : State) (i : Nat) (b : Bool) : (s.setReady i b).tb = s.tb := by
  obtain ⟨_, _, h⟩ := s.setReady_traffic i b
  rw [h]

theorem State.lockTime_tb (s : State) : s.lockTime.tb = { s.tb with state := .locked, holdSeconds := 0 } :=
  State.setReady_tb _ _ _

theorem State.lockTime_ready (s : State) : s.lockTime.ready 5 = true := by
  unfold State.lockTime
  rw [State.ready_setReady _ (by decide), if_pos rfl]

/-- The best of some sources is the one among them of the least priority code. -/
theorem bestSource_eq {xs : List TimeSource} {y : TimeSource} (hy : y ∈ xs)
    (h : ∀ x ∈ xs, timePriority y ≤ timePriority x) : bestSource xs = some y := by
  have hin : xs.contains y = true := List.contains_iff_mem.mpr hy
  have hout : ∀ x, timePriority x < timePriority y → xs.contains x = false := fun x hx =>
    Bool.eq_false_iff.mpr fun hc => absurd (h x (List.contains_iff_mem.mp hc)) (Nat.not_le.mpr hx)
  unfold bestSource
  cases y with
  | ptpPrimary => rw [List.find?_cons, hin]
  | ptpBackup => rw [List.find?_cons, hout .ptpPrimary (by decide), List.find?_cons, hin]
  | ppsIrig =>
    rw [List.find?_cons, hout .ptpPrimary (by decide), List.find?_cons, hout .ptpBackup (by decide), List.find?_cons, hin]
  | irigOnly =>
    rw [List.find?_cons, hout .ptpPrimary (by decide), List.find?_cons, hout .ptpBackup (by decide), List.find?_cons,
      hout .ppsIrig (by decide), List.find?_cons, hin]

/-! ### A source qualifies (R61, R63, R66) -/

/-- `s` with `src` among the qualified sources. -/
def State.qualify (s : State) (src : TimeSource) : State :=
  { s with tb := { s.tb with
      qualified := if s.tb.qualified.contains src then s.tb.qualified else s.tb.qualified ++ [src] } }

theorem State.qualify_qualified (s : State) (src : TimeSource) :
    src ∈ (s.qualify src).tb.qualified ∧ ∀ x ∈ s.tb.qualified, x ∈ (s.qualify src).tb.qualified := by
  unfold State.qualify
  dsimp only
  split
  · rename_i h
    exact ⟨List.contains_iff_mem.mp h, fun _ hx => hx⟩
  · exact ⟨List.mem_append_right _ List.mem_cons_self, fun _ hx => List.mem_append_left _ hx⟩

/-- `s` steered by `src`, which it has qualified, with offset `off`: the states a better source leads to. -/
def State.steer (s : State) (src : TimeSource) (off : Int) : State :=
  let s := s.qualify src
  let s := { s with tb := { s.tb with source := some src, offset := off } }
  if s.tb.state = .locked then { s with tb := { s.tb with slewing := true } }
  else if off.natAbs ≤ 50000 then { s with tb := { s.tb with slewing := true } }.lockTime
  else if s.fld aXS_TB_CTRL 4 4 = 1 then { s with tb := { s.tb with step := some (.source off) } }
  else { s with tb := { s.tb with slewing := true, state := .free } }

section
variable {s : State} {src : TimeSource} (raw : Int) (tai : Nat) (hq : s.timeQualifies src = true) (hm : s.mp.state = .run)
include hq hm

/-- A qualified source better than the present one steers. -/
theorem exec_timeSourceQualified_better (h : ∀ x, s.tb.source = some x → timePriority src < timePriority x) :
    exec (.timeSourceQualified src raw tai) s = .next (s.steer src (s.taiOffset src raw tai)) := by
  have hb : (s.tb.source.all fun x => decide (timePriority src < timePriority x)) = true := by
    cases hs : s.tb.source with
    | none => rfl
    | some x => exact decide_eq_true (h x hs)
  change execTimeSourceQualified src raw tai s = _
  unfold execTimeSourceQualified State.steer State.qualify
  rw [if_neg (by simp [hq, hm])]
  dsimp only
  rw [if_neg (by rw [hb]; decide), apply_ite Host.Outcome.next, apply_ite Host.Outcome.next, apply_ite Host.Outcome.next]

/-- A qualified source no better than the present one is a candidate. -/
theorem exec_timeSourceQualified_other {x : TimeSource} (hx : s.tb.source = some x)
    (h : timePriority x ≤ timePriority src) :
    exec (.timeSourceQualified src raw tai) s = .next (s.qualify src) := by
  change execTimeSourceQualified src raw tai s = _
  unfold execTimeSourceQualified State.qualify
  rw [if_neg (by simp [hq, hm])]
  dsimp only
  rw [if_pos (by simpa [hx] using h)]

end

section
variable {s : State} {src : TimeSource} {off : Int}

theorem State.steer_locked (h : s.tb.state = .locked) : s.steer src off =
    { s with tb := { (s.qualify src).tb with source := some src, offset := off, slewing := true } } :=
  if_pos h

theorem State.steer_near (h : s.tb.state ≠ .locked) (ho : off.natAbs ≤ 50000) : s.steer src off = State.lockTime
    { s with tb := { (s.qualify src).tb with source := some src, offset := off, slewing := true } } :=
  (if_neg h).trans (if_pos ho)

theorem State.steer_step (h : s.tb.state ≠ .locked) (ho : 50000 < off.natAbs) (hs : s.fld aXS_TB_CTRL 4 4 = 1) :
    s.steer src off =
      { s with tb := { (s.qualify src).tb with source := some src, offset := off, step := some (.source off) } } :=
  ((if_neg h).trans (if_neg ho.not_ge)).trans (if_pos hs)

theorem State.steer_slew (h : s.tb.state ≠ .locked) (ho : 50000 < off.natAbs) (hs : s.fld aXS_TB_CTRL 4 4 ≠ 1) :
    s.steer src off =
      { s with tb := { (s.qualify src).tb with source := some src, offset := off, slewing := true, state := .free } } :=
  ((if_neg h).trans (if_neg ho.not_ge)).trans (if_neg hs)

/-- The timebase after a better source: its source and offset, and the candidates. -/
theorem State.steer_source (s : State) (src : TimeSource) (off : Int) : (s.steer src off).tb.source = some src ∧
    (s.steer src off).tb.offset = off ∧ (s.steer src off).tb.qualified = (s.qualify src).tb.qualified := by
  by_cases h : s.tb.state = .locked
  · rw [State.steer_locked h]
    exact ⟨rfl, rfl, rfl⟩
  by_cases ho : off.natAbs ≤ 50000
  · rw [State.steer_near h ho, State.lockTime_tb]
    exact ⟨rfl, rfl, rfl⟩
  by_cases hs : s.fld aXS_TB_CTRL 4 4 = 1
  · rw [State.steer_step h (by omega) hs]
    exact ⟨rfl, rfl, rfl⟩
  · rw [State.steer_slew h (by omega) hs]
    exact ⟨rfl, rfl, rfl⟩

end

/-! ### A source is lost (R61, R66) -/

/-- A step to a source that is no more is given up. -/
def PendingStep.kept : Option PendingStep → Option PendingStep
  | some (.source _) => none
  | x => x

theorem PendingStep.kept_source (x : Option PendingStep) (o : Int) : PendingStep.kept x ≠ some (.source o) := by
  unfold PendingStep.kept
  split
  · exact nofun
  · rename_i h
    exact h o

/-- `s` with no source: the last frequency is held. -/
def State.unsourced (s : State) : State :=
  { s with tb := { s.tb with qualified := [], source := none, slewing := false, step := PendingStep.kept s.tb.step } }

section
variable {s : State} {src : TimeSource} (hs : s.tb.source = some src) (hl : s.timeLost src = true)
  (hm : s.mp.state = .run)
include hs hl hm

/-- With another qualified source, the best of these takes over. -/
theorem exec_timeSourceLost_next {y : TimeSource} (h : bestSource (s.tb.qualified.filter (· != src)) = some y) :
    exec (.timeSourceLost src) s = .next { s with tb := { s.tb with
      qualified := s.tb.qualified.filter (· != src), source := some y, slewing := true } } := by
  change execTimeSourceLost src s = _
  unfold execTimeSourceLost
  rw [if_neg (by simp [hl, hm])]
  dsimp only
  rw [if_neg (by simp [hs]), h]

/-- With no other qualified source the timebase has none, and a locked one goes into holdover. -/
theorem exec_timeSourceLost_last (h : s.tb.qualified.filter (· != src) = []) :
    exec (.timeSourceLost src) s = .next (if s.tb.state = .locked then
      ({ s.unsourced with tb := { s.unsourced.tb with state := .holdover, holdSeconds := 0 } } : State).setReady 5 false
      else s.unsourced) := by
  change execTimeSourceLost src s = _
  unfold execTimeSourceLost State.unsourced PendingStep.kept
  rw [if_neg (by simp [hl, hm])]
  dsimp only
  rw [if_neg (by simp [hs]), h]
  refine Eq.trans ?_ (apply_ite Host.Outcome.next (s.tb.state = .locked) _ _).symm
  rfl

end

/-! ### The clauses -/

theorem timeSourceQualified_answers {s : State} {src : TimeSource} (raw : Int) (tai : Nat)
    (hq : s.timeQualifies src = true) (hm : s.mp.state = .run) :
    answers (.timeSourceQualified src raw tai) s fun t =>
      let off := s.taiOffset src raw tai
      src ∈ t.tb.qualified ∧ (∀ x ∈ s.tb.qualified, x ∈ t.tb.qualified) ∧
      ((∀ x, s.tb.source = some x → timePriority src < timePriority x) →
        t.tb.source = some src ∧ t.tb.offset = off ∧
        (s.tb.state = .locked → t.tb.state = .locked ∧ t.tb.slewing = true) ∧
        (s.tb.state ≠ .locked → off.natAbs ≤ 50000 →
          (t.tb.state = .locked ∧ t.ready 5 = true ∧ t.tb.holdSeconds = 0) ∧ t.tb.slewing = true) ∧
        (s.tb.state ≠ .locked → 50000 < off.natAbs → s.fld aXS_TB_CTRL 4 4 = 1 →
          t.tb.step = some (.source off) ∧ t.tb.state = s.tb.state) ∧
        (s.tb.state ≠ .locked → 50000 < off.natAbs → s.fld aXS_TB_CTRL 4 4 ≠ 1 →
          t.tb.state = .free ∧ t.tb.slewing = true ∧ t.tb.step = s.tb.step)) ∧
      (∀ x, s.tb.source = some x → timePriority x ≤ timePriority src →
        t = { s with tb := { s.tb with qualified := t.tb.qualified } }) := by
  obtain ⟨hin, hold⟩ := s.qualify_qualified src
  by_cases hb : ∀ x, s.tb.source = some x → timePriority src < timePriority x
  · refine ⟨_, exec_timeSourceQualified_better raw tai hq hm hb, ?_⟩
    generalize s.taiOffset src raw tai = off
    obtain ⟨h1, h2, h3⟩ := s.steer_source src off
    refine ⟨h3 ▸ hin, h3 ▸ hold, fun _ => ⟨h1, h2, fun h => ?_, fun h ho => ?_, fun h ho hs => ?_, fun h ho hs => ?_⟩,
      fun x hx hle => absurd (hb x hx) hle.not_gt⟩
    · rw [State.steer_locked h]
      exact ⟨h, rfl⟩
    · rw [State.steer_near h ho, State.lockTime_tb]
      exact ⟨⟨rfl, State.lockTime_ready _, rfl⟩, rfl⟩
    · rw [State.steer_step h ho hs]
      exact ⟨rfl, rfl⟩
    · rw [State.steer_slew h ho hs]
      exact ⟨rfl, rfl, rfl⟩
  · obtain ⟨x, hx, hle⟩ : ∃ x, s.tb.source = some x ∧ timePriority x ≤ timePriority src := by
      simpa using hb
    exact ⟨_, exec_timeSourceQualified_other raw tai hq hm hx hle, hin, hold, fun h => absurd h hb, fun _ _ _ => rfl⟩

theorem timeSourceLost_last_answers {s : State} {src : TimeSource} (hs : s.tb.source = some src)
    (hl : s.timeLost src = true) (hm : s.mp.state = .run) (h : ∀ x ∈ s.tb.qualified, x = src) :
    answers (.timeSourceLost src) s fun t =>
      t.tb.source = none ∧ t.tb.qualified = [] ∧ (∀ o, t.tb.step ≠ some (.source o)) ∧
      (s.tb.state = .locked → t.tb.state = .holdover ∧ t.tb.holdSeconds = 0 ∧ t.ready 5 = false) ∧
      (s.tb.state ≠ .locked → t.tb.state = s.tb.state) := by
  refine ⟨_, exec_timeSourceLost_last hs hl hm (List.filter_eq_nil_iff.mpr fun x hx => by simp [h x hx]), ?_⟩
  by_cases hlock : s.tb.state = .locked
  · rw [if_pos hlock]
    beta_reduce
    rw [State.setReady_tb]
    exact ⟨rfl, rfl, PendingStep.kept_source _, fun _ => ⟨rfl, rfl, (State.ready_setReady _ (by decide) _ _).trans (if_pos rfl)⟩,
      fun h => absurd hlock h⟩
  · rw [if_neg hlock]
    exact ⟨rfl, rfl, PendingStep.kept_source _, fun h => absurd h hlock, fun _ => rfl⟩

theorem timeSourceLost_next_answers {s : State} {src y : TimeSource} (hs : s.tb.source = some src)
    (hl : s.timeLost src = true) (hm : s.mp.state = .run) (hy : y ∈ s.tb.qualified) (hne : y ≠ src)
    (hbest : ∀ x ∈ s.tb.qualified, x ≠ src → timePriority y ≤ timePriority x) :
    answers (.timeSourceLost src) s fun t =>
      t.tb.source = some y ∧ t.tb.state = s.tb.state ∧ src ∉ t.tb.qualified := by
  have hb : bestSource (s.tb.qualified.filter (· != src)) = some y :=
    bestSource_eq (List.mem_filter.mpr ⟨hy, by simpa using hne⟩) fun x hx => by
      obtain ⟨hx, hxs⟩ := List.mem_filter.mp hx
      exact hbest x hx (by simpa using hxs)
  exact ⟨_, exec_timeSourceLost_next hs hl hm hb, rfl, rfl, fun h => by simpa using (List.mem_filter.mp h).2⟩

theorem slewLock_answers {s : State} (off : Int) (hs : s.tb.source.isSome) (hw : s.tb.slewing = true)
    (hm : s.mp.state = .run) : answers (.slewLock off) s fun t => t.tb.offset = off ∧
      (s.tb.state = .free → off.natAbs ≤ 1000 → t.tb.state = .locked ∧ t.ready 5 = true ∧ t.tb.holdSeconds = 0) ∧
      (s.tb.state ≠ .free ∨ 1000 < off.natAbs → t.tb.state = s.tb.state) := by
  have he : exec (.slewLock off) s = if s.tb.state = .free ∧ off.natAbs ≤ 1000
      then .next (State.lockTime { s with tb := { s.tb with offset := off } })
      else .next { s with tb := { s.tb with offset := off } } := by
    change execSlewLock off s = _
    unfold execSlewLock
    rw [if_neg (by simp [hw, hm, Option.isSome_iff_ne_none.mp hs])]
  by_cases h : s.tb.state = .free ∧ off.natAbs ≤ 1000
  · refine ⟨_, he.trans (if_pos h), ?_⟩
    beta_reduce
    rw [State.lockTime_tb]
    exact ⟨rfl, fun _ _ => ⟨rfl, State.lockTime_ready _, rfl⟩, fun hn => hn.elim (absurd h.1) fun hn => absurd h.2 hn.not_ge⟩
  · exact ⟨_, he.trans (if_neg h), rfl, fun h1 h2 => absurd ⟨h1, h2⟩ h, fun _ => rfl⟩

theorem holdoverLimit_answers {s : State} (hm : s.mp.state ≠ .restart) (hs : s.tb.state = .holdover)
    (hl : s.fld aXS_HOLDOVER_LIMIT 16 0 ≤ s.tb.holdSeconds) :
    answers .holdoverLimit s fun t => t = { s with tb := { s.tb with state := .free } } :=
  ⟨_, if_pos ⟨hm, hs, hl⟩, rfl⟩

/-- A message of the configured domain on the enabled primary port reaches its client (R62). -/
theorem exec_ptpMessage_primary {s : State} (h : s.timeEnabled .ptpPrimary = true) (hm : s.mp.state = .run) (k : PtpKind) :
    exec (.ptpMessage false ⟨s.fld aXS_TB_CTRL 15 8, k⟩) s =
      .next { s with tb := { s.tb with ptpPrimary := ptpTake s.now s.tb.ptpPrimary k } } := by
  change execPtpMessage false _ s = _
  unfold execPtpMessage
  rw [if_neg (by simp [h, hm]), if_neg (by decide)]

/-- Pulses 1 s apart within 1 us go on with the run, and any other starts one (R61). -/
theorem ppsPulse_answers {s : State} (gap : Nat) (h : s.fld aXS_TB_CTRL 1 1 = 1) :
    answers (.ppsPulse gap) s fun t => t.tb.ppsCount =
      if 999999000 ≤ gap ∧ gap ≤ 1000001000 then s.tb.ppsCount + 1 else 1 := by
  have hrun : (10 ^ 9 ≤ gap + 1000 ∧ gap ≤ 10 ^ 9 + 1000) ↔ (999999000 ≤ gap ∧ gap ≤ 1000001000) := by omega
  refine ⟨_, if_neg (by rw [h]; decide), ?_⟩
  dsimp only
  simp only [hrun]

/-- An enabled IRIG-B input counts a valid frame and takes its time, and counts a bad one (R61, R63). -/
theorem exec_irigbFrame {s : State} (h : s.fld aXS_TB_CTRL 2 2 = 1) (valid : Bool) (utc : Nat) :
    exec (.irigbFrame valid utc) s = if valid = true
      then .next { s with tb := { s.tb with
        irigCount := s.tb.irigCount + 1, irigBad := 0, irigLast := s.now, irigUtc := utc } }
      else .next { s with tb := { s.tb with irigCount := 0, irigBad := s.tb.irigBad + 1, irigLast := s.now } } :=
  if_neg (by rw [h]; decide)

/-- Settles O36: each input and each change of state is the lemma on its command. -/
theorem timeSources : Obligations.TimeSources := by
  unfold Obligations.TimeSources
  intro s locked
  refine ⟨fun src raw tai hq hm => timeSourceQualified_answers raw tai hq hm,
    fun src hs hl hm => ⟨timeSourceLost_last_answers hs hl hm, fun y => timeSourceLost_next_answers hs hl hm⟩,
    fun off => slewLock_answers off, holdoverLimit_answers,
    fun h hm => ⟨fun cc utc => ⟨_, exec_ptpMessage_primary h hm _, rfl, rfl⟩,
      fun off => ⟨_, exec_ptpMessage_primary h hm _, rfl, fun ho => if_neg ho.not_ge⟩⟩,
    ppsPulse_answers, fun utc h => ⟨⟨_, (exec_irigbFrame h true utc).trans (if_pos rfl), rfl, rfl, rfl⟩,
      ⟨_, (exec_irigbFrame h false utc).trans (if_neg (by decide)), rfl, rfl, rfl⟩⟩, fun p => ⟨_, rfl, rfl⟩⟩

end Sys2Proof.Machine
end

section
/-! The session commands of the management processor and the commands of the manifest. -/

namespace Sys2Proof.Machine

/-! ### HELLO (R122 to R126) -/

section
variable {s : State} {j : Nat} {b : Job} (h : runsOp s j b opHELLO)
include h

/-- A HOST_ID of no byte or of more than 64 is MALFORMED. -/
theorem exec_hello_host (hh : b.has 0x0011 ∧ ((b.val 0x0011).length < 1 ∨ (b.val 0x0011).length > 64)) :
    exec (.hello j) s = .next (s.endJob j (failed stMALFORMED)) := by
  obtain ⟨hj, hop, hph, hw, -⟩ := h
  change execHello j s = _
  unfold execHello
  rw [hj]
  dsimp only
  rw [if_pos ⟨hop, hph, hw⟩, if_pos hh]
  rfl

variable (hh : ¬(b.has 0x0011 ∧ ((b.val 0x0011).length < 1 ∨ (b.val 0x0011).length > 64)))
include hh

theorem exec_hello_none
    (hv : chooseVersion (leAt (b.val 0x0010) 0 1, leAt (b.val 0x0010) 1 1)
      (leAt (b.val 0x0010) 2 1, leAt (b.val 0x0010) 3 1) = none) :
    exec (.hello j) s = .next (s.endJob j (failed stVERSION_UNSUPPORTED)) := by
  obtain ⟨hj, hop, hph, hw, -⟩ := h
  change execHello j s = _
  unfold execHello
  rw [hj]
  dsimp only
  rw [if_pos ⟨hop, hph, hw⟩, if_neg hh, hv]

/-- The highest common version is the job's; at most the audit log changes beside it. -/
theorem exec_hello_some {v : Nat × Nat}
    (hv : chooseVersion (leAt (b.val 0x0010) 0 1, leAt (b.val 0x0010) 1 1)
      (leAt (b.val 0x0010) 2 1, leAt (b.val 0x0010) 3 1) = some v) :
    ∃ fc, exec (.hello j) s = .next ((({ s with fc := fc } : State).setJob j { b with major := v.1, minor := v.2 }).endJob j
      ({ b with major := v.1, minor := v.2 }.doneFit [⟨0x0012, leBytes v.1 1 ++ leBytes v.2 1⟩, ⟨0x0013, [2, 2]⟩])) := by
  obtain ⟨hj, hop, hph, hw, -⟩ := h
  change ∃ fc, execHello j s = _
  unfold execHello
  rw [hj]
  dsimp only
  rw [if_pos ⟨hop, hph, hw⟩, if_neg hh, hv]
  dsimp only
  split
  · exact ⟨_, rfl⟩
  · exact ⟨s.fc, rfl⟩

end

theorem hello_answers {s : State} {j : Nat} {b : Job} (h : runsOp s j b opHELLO) :
    answers (.hello j) s fun t => otherJobsKept s t j ∧ surfaceKept s t ∧
      let r := b.val 0x0010
      if b.has 0x0011 ∧ ((b.val 0x0011).length < 1 ∨ (b.val 0x0011).length > 64) then endedWith t j (failed stMALFORMED)
      else match chooseVersion (leAt r 0 1, leAt r 1 1) (leAt r 2 1, leAt r 3 1) with
      | none => endedWith t j (failed stVERSION_UNSUPPORTED)
      | some v => endedWith t j ({ b with major := v.1, minor := v.2 }.doneFit
            [⟨0x0012, leBytes v.1 1 ++ leBytes v.2 1⟩, ⟨0x0013, [2, 2]⟩]) ∧
          ∃ b', t.job j = some b' ∧ b'.major = v.1 ∧ b'.minor = v.2 := by
  have hj := h.1
  by_cases hh : b.has 0x0011 ∧ ((b.val 0x0011).length < 1 ∨ (b.val 0x0011).length > 64)
  · obtain ⟨he, ho, hs⟩ := endsQuietly_endJob (failed stMALFORMED) hj rfl (surfaceKept_refl s)
    refine ⟨_, exec_hello_host h hh, ho, hs, ?_⟩
    dsimp only
    rwa [if_pos hh]
  cases hv : chooseVersion (leAt (b.val 0x0010) 0 1, leAt (b.val 0x0010) 1 1)
      (leAt (b.val 0x0010) 2 1, leAt (b.val 0x0010) 3 1) with
  | none =>
    obtain ⟨he, ho, hs⟩ := endsQuietly_endJob (failed stVERSION_UNSUPPORTED) hj rfl (surfaceKept_refl s)
    refine ⟨_, exec_hello_none h hh hv, ho, hs, ?_⟩
    dsimp only
    rwa [if_neg hh, hv]
  | some v =>
    obtain ⟨fc, hx⟩ := exec_hello_some h hh hv
    have hset := State.job_setJob_same { s with fc := fc } j { b with major := v.1, minor := v.2 }
    refine ⟨_, hx, fun i hi => ?_, ?_, ?_⟩
    · rw [State.job_endJob_other _ _ hi, State.job_setJob_other _ _ hi]
      rfl
    · exact (endsQuietly_endJob _ hset rfl (surfaceKept_refl _)).2.2
    · dsimp only
      rw [if_neg hh, hv]
      exact ⟨endedWith_endJob _ hset, _, State.job_endJob_same _ _ hset, rfl, rfl⟩

/-! ### Queries (R85, R148) -/

theorem caps_answers {s : State} {j : Nat} {b : Job} (h : runsOp s j b opCAPS) :
    answers (.caps j) s fun t => endsQuietly s t j (b.doneFit
      [⟨0x0020, [0x42, 0x31]⟩,
       ⟨0x0021, leBytes s.mp.fw.1 1 ++ leBytes s.mp.fw.2.1 1 ++ leBytes s.mp.fw.2.2 2⟩,
       ⟨0x0022, [2, 2]⟩, ⟨0x0023, s.opcodeMap b⟩, ⟨0x0024, fitBytes s.pw.serial 16⟩,
       ⟨0x0025, asciiBytes s.orderCode 12⟩]) := by
  change ∃ t, execCaps j s = _ ∧ _
  unfold execCaps
  exact runJob_unseen _ h (Unseen.refl s)

theorem readyQuery_answers {s : State} {j : Nat} {b : Job} (h : runsOp s j b opREADY_QUERY) :
    answers (.readyQuery j) s fun t => endsQuietly s t j (b.doneFit
      [⟨0x0030, leBytes s.pw.ready.toNat 4⟩, ⟨0x0031, leBytes (mpStateCode s.mp.state) 1⟩]) := by
  change ∃ t, execReadyQuery j s = _ ∧ _
  unfold execReadyQuery
  exact runJob_unseen _ h (Unseen.refl s)

theorem fwStatus_answers {s : State} {j : Nat} {b : Job} (h : runsOp s j b opFW_STATUS) :
    answers (.fwStatus j) s fun t => ∃ packs : List Tlv, packs.length = 8 ∧
      (∀ p ∈ packs, p.type = 0x0042) ∧ endsQuietly s t j (b.doneFit
        ([⟨0x0040, leBytes 0x41 1 ++ leBytes s.pw.imgAVersion 4 ++ leBytes s.pw.imgA 1⟩,
          ⟨0x0040, leBytes 0x42 1 ++ leBytes s.pw.imgBVersion 4 ++ leBytes s.pw.imgB 1⟩,
          ⟨0x0041, leBytes s.pw.floor 4⟩] ++ packs)) := by
  change ∃ t, execFwStatus j s = _ ∧ _
  unfold execFwStatus
  refine (runJob_unseen _ h ?_).imp fun t ht => ⟨ht.1, _, ?_, ?_, ht.2⟩
  · exact Unseen.refl s
  · rw [List.length_map, List.length_range]
  · intro p hp
    obtain ⟨k, -, rfl⟩ := List.mem_map.mp hp
    rfl

theorem manifestQuery_answers {s : State} {j : Nat} {b : Job} (h : runsOp s j b opMANIFEST_QUERY) :
    answers (.manifestQuery j) s fun t => ∃ used : List Nat, used.length = 7 ∧
      endsQuietly s t j (b.doneFit (manifestTlvs s.xs.active ++ manifestTlvs s.xs.loaded ++
        [⟨0x0116, (used.map fun n => leBytes n 2).flatten⟩])) := by
  change ∃ t, execManifestQuery j s = _ ∧ _
  unfold execManifestQuery
  refine (runJob_unseen _ h ?_).imp fun t ht => ⟨ht.1, (List.range 7).map fun c => s.highestReserved (c + 1), ?_, ?_⟩
  · exact Unseen.refl s
  · rw [List.length_map, List.length_range]
  · rw [List.map_map]
    exact ht.2

/-! ### MANIFEST_LOAD (R84 to R86) -/

/-- Where no partner has to be told, a manifest whose results fit is loaded when it passes its proof. -/
theorem manifestLoad_here {s : State} {b : Job} (j : Nat) (hm : b.mirrorStep s.manifestMode = .here)
    (hp : s.activationPending = false) : manifestLoad s j b =
      let m := parseManifest (b.val 0x0110)
      let e := b.doneFit [⟨0x0111, leBytes m.id 4⟩, ⟨0x0112, m.digest⟩]
      if e.status ≠ stDONE then s.endJob j e
      else match s.proof (b.val 0x0110) with
      | some f => s.endJob j { status := proofStatus f.1, results := [⟨0x0113, leBytes f.1 1 ++ leBytes f.2 2⟩] }
      | none => (s.loadManifest m).endJob j e := by
  unfold manifestLoad
  rw [hm, hp]
  dsimp only
  cases s.proof (b.val 0x0110) <;> rfl

theorem manifestLoad_answers {s : State} {j : Nat} {b : Job} (h : runsMp s j b opMANIFEST_LOAD)
    (hm : b.mirrorStep s.manifestMode = .here) (hp : s.activationPending = false) :
    answers (.manifestLoad j) s fun t =>
      let m := parseManifest (b.val 0x0110)
      let e := b.doneFit [⟨0x0111, leBytes m.id 4⟩, ⟨0x0112, m.digest⟩]
      if e.status ≠ stDONE then endsQuietly s t j e ∧ t.xs = s.xs
      else match s.proof (b.val 0x0110) with
      | some f => endsQuietly s t j
          { status := proofStatus f.1, results := [⟨0x0113, leBytes f.1 1 ++ leBytes f.2 2⟩] } ∧ t.xs = s.xs
      | none => endsQuietly s t j e ∧ t.xs = { s.xs with loaded := some m } := by
  have hj := h.1
  refine ⟨_, (runMp_runs (manifestLoad · j ·) h).trans (congrArg _ (manifestLoad_here j hm hp)), ?_⟩
  dsimp only
  split
  · exact ⟨endsQuietly_endJob _ hj rfl (surfaceKept_refl s), State.endJob_xs _ _ _⟩
  · split
    · exact ⟨endsQuietly_endJob _ hj rfl (surfaceKept_refl s), State.endJob_xs _ _ _⟩
    · exact ⟨endsQuietly_endJob _ hj rfl (surfaceKept_refl s), State.endJob_xs _ _ _⟩

/-! ### MANIFEST_ACTIVATE (R86 to R88) -/

/-- Where no partner has to be told, an activation whose result fits is armed when the manifest may be activated. -/
theorem manifestActivate_here {s : State} {b : Job} (j : Nat) (hm : b.mirrorStep s.manifestMode = .here) :
    manifestActivate s j b =
      if (b.doneFit [⟨0x0115, zeros 8⟩]).status ≠ stDONE then s.failJob j stLIMIT_EXCEEDED
      else match s.activatable (leNat (b.val 0x0111)) with
      | none => s.failJob j stCONFIG_INCONSISTENT
      | some m => s.armActivation j m (b.atStamp 0x0114) := by
  unfold manifestActivate
  rw [hm]
  rfl

theorem manifestActivate_answers {s : State} {j : Nat} {b : Job} (h : runsMp s j b opMANIFEST_ACTIVATE)
    (hm : b.mirrorStep s.manifestMode = .here) :
    answers (.manifestActivate j) s fun t =>
      otherJobsKept s t j ∧ surfaceKept s t ∧
      if (b.doneFit [⟨0x0115, zeros 8⟩]).status ≠ stDONE then endedWith t j (failed stLIMIT_EXCEEDED)
      else match s.activatable (leNat (b.val 0x0111)) with
      | none => endedWith t j (failed stCONFIG_INCONSISTENT)
      | some m =>
        t.job j = some { b with wait := .guardBefore (b.atStamp 0x0114) (s.manifestGroups m) } ∧
          t.xs.next = some m ∧ t.xs.activation = some j := by
  have hj := h.1
  have quiet : ∀ st, endsQuietly s (s.failJob j st) j (failed st) := fun st =>
    endsQuietly_endJob _ hj rfl (surfaceKept_refl s)
  refine ⟨_, (runMp_runs (manifestActivate · j ·) h).trans (congrArg _ (manifestActivate_here j hm)), ?_⟩
  split
  · exact ⟨(quiet _).2.1, (quiet _).2.2, (quiet _).1⟩
  · split
    · exact ⟨(quiet _).2.1, (quiet _).2.2, (quiet _).1⟩
    · rename_i m _
      have hx : ({ s with xs := { s.xs with next := some m, activation := some j } } : State).job j = some b := hj
      refine ⟨fun i hi => State.job_onJob_other _ _ hi, ?_, State.job_onJob_same _ _ hx,
        congrArg Scheduler.next (State.onJob_xs _ _ _), congrArg Scheduler.activation (State.onJob_xs _ _ _)⟩
      unfold State.armActivation
      simpa only [surfaceKept, State.onJob_regs, State.onJob_shadow, State.onJob_cfg, State.onJob_tb, State.onJob_pairs,
        State.onJob_ks, State.onJob_insts, State.onJob_outbox, State.onJob_pending] using surfaceKept_refl s

/-! ### MANIFEST_RESTORE (R90) -/

/-- Writing shadows changes the shadows alone. -/
theorem foldl_setShadow_eq (ws : List (Nat × Nat)) : ∀ s : State,
    ∃ sh, ws.foldl (fun (s : State) w => s.setShadow w.1 w.2) s = { s with shadow := sh } := by
  induction ws with
  | nil => exact fun s => ⟨s.shadow, rfl⟩
  | cons w ws ih =>
    intro s
    obtain ⟨sh, h⟩ := ih (s.setShadow w.1 w.2)
    exact ⟨sh, h⟩

/-- A restored manifest that can be staged becomes the next one, and its groups are requested. -/
theorem State.stageMp_manifest (s : State) (m : Manifest) :
    (s.stageMp { manifest := some m }).xs.next = some m ∧
    (s.stageMp { manifest := some m }).cfg.pending = s.cfg.pending ||| s.manifestGroups m ∧
    (s.stageMp { manifest := some m }).mpSets = s.mpSets := by
  unfold State.stageMp
  dsimp only
  obtain ⟨sh, h⟩ := foldl_setShadow_eq
    (if (s.groupsOf { manifest := some m }).getLsbD 0 = true then [(aXS_RATE, m.rate)] else []) s
  rw [h]
  exact ⟨rfl, rfl, rfl⟩

theorem manifestRestore_answers {s : State} {m : Manifest} (hn : s.n6.manifest = some m) (h1 : s.ready 1 = true)
    (hr : s.pw.restored = true) (h21 : s.ready 21 = true) (ha : s.xs.active = none) (hp : s.activationPending = false)
    (hs : s.mpSets = []) :
    answers .manifestRestore s fun t => match s.proof m.image with
      | some _ => t.xs = { s.xs with loaded := some m } ∧ t.mpSets = []
      | none =>
        if s.setWaits { manifest := some m } then t.mpSets = [{ manifest := some m }] ∧ t.xs = s.xs ∧ t.cfg = s.cfg
        else t.xs.next = some m ∧ t.cfg.pending = s.cfg.pending ||| s.manifestGroups m ∧ t.mpSets = [] := by
  have he : exec .manifestRestore s = match s.proof m.image with
      | some (c, i) =>
        .next ({ s with xs := { s.xs with loaded := some m } }.postEvent 0 0x0102 none m.id (c + i * 256))
      | none => .next (s.requestSet { manifest := some m }) := by
    change execManifestRestore s = _
    unfold execManifestRestore
    rw [hn]
    dsimp only
    exact if_neg (by simp [h1, hr, h21, ha, hp])
  unfold answers
  rw [he]
  cases s.proof m.image with
  | some f =>
    have ht := (QueueTraffic.refl { s with xs := { s.xs with loaded := some m } }).postEvent 0 0x0102 none m.id
      (f.1 + f.2 * 256)
    refine ⟨_, rfl, ?_, ?_⟩
    · rw [ht]
    · rw [ht]
      exact hs
  | none =>
    refine ⟨_, rfl, ?_⟩
    dsimp only
    unfold State.requestSet
    by_cases hw : s.setWaits { manifest := some m } = true
    · rw [if_pos hw, if_pos (.inl hw), hs]
      exact ⟨rfl, rfl, rfl⟩
    · obtain ⟨g1, g2, g3⟩ := s.stageMp_manifest m
      rw [if_neg hw, if_neg (by rw [hs]; exact fun h => h.elim hw Bool.false_ne_true)]
      exact ⟨g1, g2, g3.trans hs⟩

/-- Settles O9: each command is the lemma on it. -/
theorem sessionAndManifestOperations : Obligations.SessionAndManifestOperations := by
  unfold Obligations.SessionAndManifestOperations
  exact fun s j b => ⟨hello_answers, caps_answers, readyQuery_answers, fwStatus_answers, manifestQuery_answers,
    manifestLoad_answers, manifestActivate_answers, fun m => manifestRestore_answers⟩

end Sys2Proof.Machine
end

section
/-! How a job starts: the choice of the one job that waits for an engine, its approval, and what the engine takes; the
start of a slow command, and a deadline that is missed. -/

namespace Sys2Proof.Machine

/-! ### Approval (R446) -/

/-- The slots after every handle of `ns` is approved. -/
def approveSlots (ns : List KeyNeed) (t : Tab Slot) : Tab Slot :=
  ns.foldl (fun t n => tput t (hSlot n.handle) ((tgetD t (hSlot n.handle) {}).approve n) {}) t

theorem foldl_approve (ns : List KeyNeed) : ∀ s : State,
    ns.foldl (fun s n => s.setSlot (hSlot n.handle) ((s.slot (hSlot n.handle)).approve n)) s =
      { s with ks := { s.ks with slots := approveSlots ns s.ks.slots } } := by
  induction ns with
  | nil => exact fun s => rfl
  | cons n ns ih => exact fun s => ih _

/-- What an approval that succeeds found, and the state it leaves. -/
theorem State.approve_ok {s s' : State} {inst : Nat} {ns : List KeyNeed} (h : s.approve inst ns = .ok s') :
    ns.findSome? (s.refusal inst) = none ∧
    s' = ({ s with ks := { s.ks with slots := approveSlots ns s.ks.slots } } : State).bumpBy aKS_APPROVALS 0
      (if ns = [] then 0 else 1) := by
  unfold State.approve at h
  split at h
  · exact nomatch h
  · rename_i hn
    rw [foldl_approve] at h
    exact ⟨hn, (Except.ok.inj h).symm⟩

/-- The ancestors of a key are those of its slots. -/
theorem State.ancestorsOk_ks {s t : State} (h : t.ks = s.ks) : ∀ f p, t.ancestorsOk f p = s.ancestorsOk f p
  | 0, _ => rfl
  | _ + 1, none => rfl
  | f + 1, some (n, g) => by
    unfold State.ancestorsOk State.slot
    rw [h]
    dsimp only
    rw [State.ancestorsOk_ks h f]

/-- Whether a handle is refused depends on the key store alone. -/
theorem State.refusal_ks {s t : State} (h : t.ks = s.ks) (inst : Nat) : t.refusal inst = s.refusal inst := by
  funext n
  unfold State.refusal State.checkOk State.slot
  dsimp only
  rw [h]
  simp only [State.ancestorsOk_ks h]

/-- An approval succeeds alike in states with the same key store, and leaves the same key store. -/
theorem State.approve_xs {s s' : State} {inst : Nat} {ns : List KeyNeed} (x : Scheduler) (h : s.approve inst ns = .ok s') :
    ({ s with xs := x } : State).approve inst ns = .ok { s' with xs := x } := by
  obtain ⟨hn, rfl⟩ := State.approve_ok h
  unfold State.approve
  rw [State.refusal_ks (s := s) (t := { s with xs := x }) rfl, hn, foldl_approve]
  rfl

/-! ### What a grant leaves while the engines load -/

/-- Between `s` and `t` the jobs stand, and what is read of the sealed copies. -/
structure JobsAndCopiesKept (s t : State) : Prop where
  jobs : t.jobs = s.jobs
  pw : t.pw = s.pw
  sealed : t.parts.sealed = s.parts.sealed
  partKeys : t.ks.partKeys = s.ks.partKeys

namespace JobsAndCopiesKept
variable {r s t : State}

theorem refl (s : State) : JobsAndCopiesKept s s := ⟨rfl, rfl, rfl, rfl⟩

theorem trans (h : JobsAndCopiesKept r s) (g : JobsAndCopiesKept s t) : JobsAndCopiesKept r t :=
  ⟨g.jobs.trans h.jobs, g.pw.trans h.pw, g.sealed.trans h.sealed, g.partKeys.trans h.partKeys⟩

theorem badCopy (h : JobsAndCopiesKept s t) (x : Nat) : t.badCopy x = s.badCopy x := by
  unfold State.badCopy State.ready State.treeMac
  rw [h.pw, h.sealed, h.partKeys]

end JobsAndCopiesKept

theorem State.atLimit_eq (s : State) (d : Nat) : ∃ rng cnts, s.atLimit d = { s with rng := rng, cnts := cnts } := by
  unfold State.atLimit
  dsimp only
  repeat' split
  · exact ⟨s.rng, s.cnts, rfl⟩
  · exact ⟨_, _, rfl⟩
  · exact ⟨_, _, rfl⟩

theorem State.generate_eq (s : State) (d n : Nat) :
    ∃ rng cnts, (s.generate d n).2 = { s with rng := rng, cnts := cnts } := by
  unfold State.generate
  dsimp only
  split
  · obtain ⟨_, _, h⟩ := State.atLimit_eq (s.setDrbg d { s.drbg d with left := (s.drbg d).left - n }) d
    rw [h]
    exact ⟨_, _, rfl⟩
  · obtain ⟨_, _, h⟩ := State.atLimit_eq (s.setDrbg d { s.drbg d with left := 0 }) d
    rw [h]
    dsimp only
    obtain ⟨_, _, h'⟩ := State.atLimit_eq _ d
    rw [h']
    exact ⟨_, _, rfl⟩

/-- A job's randomness is taken from the random subsystem, and counted: nothing else changes. -/
theorem State.takeRandom_eq (s : State) (b : Job) (cls k : Nat) :
    ∃ rng cnts, (s.takeRandom b cls k).2 = { s with rng := rng, cnts := cnts } := by
  unfold State.takeRandom
  dsimp only
  repeat' split
  · exact ⟨_, s.cnts, rfl⟩
  · exact s.generate_eq 6 1
  · exact ⟨s.rng, s.cnts, rfl⟩

/-! ### Loading an engine (R34, R258, R364) -/

/-- Between `s` and `t` engines were loaded with the work of job `j` alone: what they run is `j` or what they ran. -/
def LoadedFor (j : Nat) (s t : State) : Prop :=
  JobsAndCopiesKept s t ∧ ∀ k, (t.eng k).busy = (s.eng k).busy ∨ (t.eng k).busy = some j

theorem LoadedFor.refl (j : Nat) (s : State) : LoadedFor j s s := ⟨JobsAndCopiesKept.refl s, fun _ => .inl rfl⟩

theorem LoadedFor.trans {j : Nat} {r s t : State} (h : LoadedFor j r s) (g : LoadedFor j s t) : LoadedFor j r t :=
  ⟨h.1.trans g.1, fun k => (g.2 k).elim (fun hg => (h.2 k).imp hg.trans hg.trans) .inr⟩

/-- What runs `j` before runs it after. -/
theorem LoadedFor.busy {j k : Nat} {s t : State} (h : LoadedFor j s t) (hk : (s.eng k).busy = some j) :
    (t.eng k).busy = some j :=
  (h.2 k).elim (·.trans hk) id

/-- An engine rewritten with the job it ran, or with `j`. -/
theorem loadedFor_setEng (j : Nat) (s : State) {k : Nat} {e : Engine} (he : e.busy = (s.eng k).busy ∨ e.busy = some j) :
    LoadedFor j s (s.setEng k e) := by
  refine ⟨⟨rfl, rfl, rfl, rfl⟩, fun i => ?_⟩
  by_cases h : i = k
  · subst h
    rwa [State.eng_setEng_same]
  · rw [State.eng_setEng_other _ _ h]
    exact .inl rfl

/-- Between `s` and `t` neither an engine nor a job changed, nor what is read of the sealed copies. -/
theorem loadedFor_of_engines (j : Nat) {s t : State} (h : JobsAndCopiesKept s t) (he : t.engines = s.engines) :
    LoadedFor j s t :=
  ⟨h, fun k => .inl (congrArg (fun t => (tgetD t k {}).busy) he)⟩

theorem State.changeOwner_loaded (j : Nat) (s : State) (cls i inst : Nat) : LoadedFor j s (s.changeOwner cls i inst) := by
  unfold State.changeOwner
  extract_lets k e s1 kept l s2
  split
  · exact LoadedFor.refl j s
  · have h1 : JobsAndCopiesKept s s1 ∧ s1.engines = s.engines := by
      dsimp only [s1]
      repeat' split
      all_goals exact ⟨⟨rfl, rfl, rfl, rfl⟩, rfl⟩
    have h2 : JobsAndCopiesKept s s2 ∧ s2.engines = s.engines := by
      dsimp only [s2]
      split
      · exact ⟨h1.1.trans ⟨rfl, rfl, rfl, rfl⟩, h1.2⟩
      · exact h1
    refine (loadedFor_of_engines j h2.1 h2.2).trans (loadedFor_setEng j s2 (.inl ?_))
    exact congrArg (fun t => (tgetD t k {}).busy) h2.2.symm

theorem State.askKeys_loaded (s : State) (level k j : Nat) (keys : List LoadedKey) :
    LoadedFor j s (s.askKeys level k j keys) := by
  unfold State.askKeys
  split
  · exact LoadedFor.refl j s
  · exact loadedFor_of_engines j ⟨rfl, rfl, rfl, rfl⟩ rfl

/-- An engine that takes a job's keys and operands runs it. -/
theorem State.loadEngine_loaded (s : State) (j : Nat) (b : Job) (cls k : Nat) (keys : List LoadedKey) (berth : Bool) :
    LoadedFor j s (s.loadEngine j b cls k keys berth) ∧ ((s.loadEngine j b cls k keys berth).eng k).busy = some j := by
  unfold State.loadEngine
  extract_lets keys' ops s1
  have h1 : LoadedFor j s s1 := loadedFor_setEng j s (.inr rfl)
  have hb : (s1.eng k).busy = some j := congrArg Engine.busy (s.eng_onEng_same k _)
  have h2 := s1.askKeys_loaded (if berth then 1 else 3) k j (keys'.filter fun x => !(s1.eng k).keys.contains x)
  exact ⟨h1.trans h2, h2.busy hb⟩

theorem State.startUnit_loaded (j : Nat) (s : State) (b : Job) (cls k : Nat) : LoadedFor j s (s.startUnit b cls k) := by
  unfold State.startUnit
  dsimp only
  split <;> exact loadedFor_of_engines j ⟨rfl, rfl, rfl, rfl⟩ rfl

theorem State.chargeScratch_loaded (j : Nat) (s : State) (inst plus minus : Nat) :
    LoadedFor j s (s.chargeScratch inst plus minus) := by
  unfold State.chargeScratch
  dsimp only
  split
  · exact LoadedFor.refl j s
  · exact loadedFor_of_engines j ⟨rfl, rfl, rfl, rfl⟩ rfl

theorem State.allotPeer_loaded (s : State) (j : Nat) (b : Job) : LoadedFor j s (s.allotPeer j b) := by
  unfold State.allotPeer
  dsimp only
  split
  · exact LoadedFor.refl j s
  · exact loadedFor_of_engines j ⟨rfl, rfl, rfl, rfl⟩ rfl

/-- One engine set up for its job: its owner, its keys and operands, and its sequencer. -/
def State.setUp (s : State) (j : Nat) (b : Job) (cls k : Nat) (keys : List LoadedKey) (berth : Bool) : State :=
  ((s.changeOwner cls (k % 64) b.inst).loadEngine j b cls k keys berth).startUnit b cls k

theorem State.setUp_loaded (s : State) (j : Nat) (b : Job) (cls k : Nat) (keys : List LoadedKey) (berth : Bool) :
    LoadedFor j s (s.setUp j b cls k keys berth) ∧ ((s.setUp j b cls k keys berth).eng k).busy = some j := by
  have h1 := s.changeOwner_loaded j cls (k % 64) b.inst
  obtain ⟨h2, hb⟩ := (s.changeOwner cls (k % 64) b.inst).loadEngine_loaded j b cls k keys berth
  have h3 := State.startUnit_loaded j ((s.changeOwner cls (k % 64) b.inst).loadEngine j b cls k keys berth) b cls k
  exact ⟨(h1.trans h2).trans h3, h3.busy hb⟩

/-! ### The job begins (R91, R446) -/

/-- Job `b` as it begins on engine `i` of its class alone, with the keys its approval reserved. -/
def State.begun (s : State) (b : Job) (cls i : Nat) (needs : List KeyNeed) (old : Bool) : Job :=
  let keys := (needs.filter fun n => n.role == .key).map fun n => s.slot (hSlot n.handle)
  { b with
    phase := .running, engine := some (cls, i), berth := none, forkEngines := [], start := s.tb.stamp,
    startUp := s.now, startNs := s.tb.ns, grantUp := s.now, approved := needs.map fun n => hSlot n.handle,
    destSlot := if b.has 0x0054 then some (hSlot (b.handleIn 0x0054)) else none,
    work := keys.map (·.val), imported := keys.map fun x => x.origin == 4, drbgOnly := b.drbgOnly || old, leaf := none,
    form := formCheck s b, lackUp := none, half := if b.twoHalves then s.halfFor else none }

/-- A job that begins on one engine: the engine runs it, and it is as begun; work of the module's own is over. -/
theorem State.beginJob_begins {s : State} {j : Nat} {b : Job} {cls i : Nat} {needs : List KeyNeed} {old : Bool}
    (hne : b.noEngine = false) (hc : s.badCopy b.handle = none) (ht : b.task.isSome → s.hasSealed b.handle = false) :
    ∃ u, LoadedFor j (s.setJob j (s.begun b cls i needs old)) u ∧ (u.eng (engKey cls i)).busy = some j ∧
      s.beginJob j b cls i [] none needs old none = if b.task.isSome then u.endJob j (done []) else u := by
  unfold State.beginJob
  extract_lets keys b' copies s1 ks s2 s3 s4
  have hb' : b' = s.begun b cls i needs old := rfl
  have h1 : LoadedFor j (s.setJob j b') s1 := State.allotPeer_loaded _ j b'
  have h2 : LoadedFor j s1 s2 ∧ (s2.eng (engKey cls i)).busy = some j := State.setUp_loaded s1 j b' cls (engKey cls i) _ _
  have h3 : LoadedFor j s2 s3 := by
    dsimp only [s3]
    split
    · exact (State.setUp_loaded s2 j b' 4 _ _ _).1
    · exact LoadedFor.refl j s2
  have h4 : LoadedFor j s3 s4 := State.chargeScratch_loaded j s3 b'.inst b'.runScratch 0
  have h := ((h1.trans h2.1).trans h3).trans h4
  refine ⟨s4, h, h4.busy (h3.busy h2.2), ?_⟩
  have hread : s4.readCopy b'.handle cls i = s4 := by
    unfold State.readCopy
    rw [h.1.badCopy, show (s.setJob j b').badCopy b'.handle = none from hc]
  have hcopies : b.task.isSome → copies = false := fun hs => by
    simp [copies, State.readsCopy, show s.hasSealed b'.handle = false from ht hs]
  rw [if_neg (by rw [show b'.noEngine = b.noEngine from rfl, hne]; decide), hread]
  by_cases hs : b.task.isSome = true
  · rw [hcopies hs]
    rfl
  · exact (ite_congr rfl (fun _ => rfl) fun _ => if_neg hs).trans ((ite_self s4).trans (if_neg hs).symm)

/-- How job `j`, which is `b`, stands between `s` and `t` when it has begun on engine `i` alone: the engine runs it, the
other jobs stand, and work of the module's own is over. -/
def JobBegun (s t : State) (j : Nat) (b : Job) (cls i : Nat) (needs : List KeyNeed) : Prop :=
  (t.eng (engKey cls i)).busy = some j ∧ otherJobsKept s t j ∧ ∃ b', t.job j = some b' ∧
    b'.phase = (if b.task.isSome then .ended else .running) ∧ b'.engine = some (cls, i) ∧ b'.start = s.tb.stamp ∧
    b'.opcode = b.opcode ∧ b'.ending = (if b.task.isSome then some (done []) else none) ∧
    b'.work = (needs.filter fun n => n.role == .key).map fun n => (s.slot (hSlot n.handle)).val

theorem State.beginJob_begun {s : State} {j : Nat} {b : Job} {cls i : Nat} {needs : List KeyNeed} {old : Bool}
    (he : b.ending = none) (hne : b.noEngine = false) (hc : s.badCopy b.handle = none)
    (ht : b.task.isSome → s.hasSealed b.handle = false) :
    JobBegun s (s.beginJob j b cls i [] none needs old none) j b cls i needs := by
  obtain ⟨u, hu, hbusy, heq⟩ := State.beginJob_begins (j := j) (cls := cls) (i := i) (needs := needs) (old := old) hne hc ht
  have hj : u.job j = some (s.begun b cls i needs old) := (job_of_jobs hu.1.jobs j).trans (s.job_setJob_same j _)
  have hothers : otherJobsKept s u j := fun k hk => (job_of_jobs hu.1.jobs k).trans (s.job_setJob_other _ hk)
  have hwork : (s.begun b cls i needs old).work =
      (needs.filter fun n => n.role == .key).map fun n => (s.slot (hSlot n.handle)).val := List.map_map
  rw [heq]
  by_cases hs : b.task.isSome = true
  · rw [if_pos hs]
    refine ⟨?_, fun k hk => (u.job_endJob_other _ hk).trans (hothers k hk), _, u.job_endJob_same _ hj, (if_pos hs).symm,
      rfl, rfl, rfl, (if_pos hs).symm, hwork⟩
    unfold State.eng
    rw [State.endJob_engines]
    exact hbusy
  · rw [if_neg hs]
    exact ⟨hbusy, hothers, _, hj, (if_neg hs).symm, rfl, rfl, rfl, he.trans (if_neg hs).symm, hwork⟩

/-- Taking the randomness of every engine of a job changes the random subsystem and counters alone. -/
theorem foldl_takeRandom_eq (b : Job) (ks : List Nat) : ∀ a : Bool × State, ∃ rng cnts,
    (ks.foldl (fun (a : Bool × State) k =>
      let x := a.2.takeRandom b (k / 64) k
      (a.1 || x.1, x.2)) a).2 = { a.2 with rng := rng, cnts := cnts } := by
  induction ks with
  | nil => exact fun a => ⟨a.2.rng, a.2.cnts, rfl⟩
  | cons k ks ih =>
    intro a
    obtain ⟨_, _, h1⟩ := a.2.takeRandom_eq b (k / 64) k
    obtain ⟨rng, cnts, h2⟩ := ih (a.1 || (a.2.takeRandom b (k / 64) k).1, (a.2.takeRandom b (k / 64) k).2)
    refine ⟨rng, cnts, h2.trans ?_⟩
    rw [h1]

/-- What a job finds that passes every check of its grant on engine `i` alone, with plan `p` and approved state `s'`. -/
structure GrantPasses (s s' : State) (b : Job) (cls i : Nat) (p : Plan) (lim : Option Nat) : Prop where
  deadline : s.deadlinePassed b = false
  plan : s.planOf b = (p, lim)
  early : p.early = none
  fits : p.resultLen ≤ b.resultCap
  output : p.outLen ≤ outputLen b.frags
  fair : p.bad = none
  approved : s.approve b.inst p.needs = .ok s'
  leaf : s.leafGrant b = .none
  random : ∀ e ∈ engKey cls i :: (if b.twoHalves then s.halfFor.toList else []), s.covered b (e / 64) e = true
  pack : b.task = none → ∀ x ∈ clusterOf cls i,
    (s.packOf x).has (tableOpcode b.opcode) (if cls = 1 then some (s.profParam b) else none) = true

theorem State.tryStart_late {s : State} {b : Job} (h : s.deadlinePassed b = true) (j cls i : Nat) (fork : List Nat)
    (berth : Option Nat) : s.tryStart j b cls i fork berth = s.failJob j stDEADLINE_MISSED :=
  if_pos h

/-- A job that passes every check begins, with its randomness taken. -/
theorem State.tryStart_begins {s s' : State} {b : Job} {cls i : Nat} {p : Plan} {lim : Option Nat}
    (h : GrantPasses s s' b cls i p lim) (j : Nat) : ∃ old rng cnts, s.tryStart j b cls i [] none =
      ({ s' with rng := rng, cnts := cnts } : State).beginJob j b cls i [] none p.needs old none := by
  obtain ⟨hdl, hplan, hearly, hfit, hout, hbad, happ, hleaf, hcov, hpack⟩ := h
  have href := (State.approve_ok happ).1
  unfold State.tryStart
  rw [hplan]
  dsimp only
  have hpk : ¬(b.task.isNone = true ∧ (!(clusterOf cls i).all fun k =>
      (s.packOf k).has (tableOpcode b.opcode) (if cls = 1 then some (s.profParam b) else none)) = true) := by
    rintro ⟨ht, hk⟩
    have hx := hpack (Option.isNone_iff_eq_none.mp ht)
    cases hcl : clusterOf cls i with
    | none => simp [hcl] at hk
    | some x => simp [hcl, hx x hcl] at hk
  have hrand : ([engKey cls i] ++ if b.twoHalves = true then s.halfFor.toList else []).all
      (fun k => s.covered b (k / 64) k) = true := List.all_eq_true.mpr hcov
  rw [if_neg (by simp [hdl]), hearly]
  dsimp only
  rw [if_neg (by omega), if_neg (by omega), href, hbad]
  dsimp only
  rw [if_neg hpk, hleaf]
  dsimp only
  rw [if_pos rfl, hrand, if_neg (by decide), happ]
  obtain ⟨rng, cnts, hr⟩ := foldl_takeRandom_eq b
    ([engKey cls i] ++ if b.twoHalves = true then s.halfFor.toList else []) (false, s')
  exact ⟨_, rng, cnts, congrArg (fun t : State => t.beginJob j b cls i [] none p.needs _ none) hr⟩

/-! ### The one job that waits for an engine is chosen (R91) -/

/-- Entry `(j, b)` stands in a list whose entries are all it. -/
def OnlyEntry (l : List (Nat × Job)) (j : Nat) (b : Job) : Prop := (j, b) ∈ l ∧ ∀ e ∈ l, e = (j, b)

/-- A test holds of some entry just when it holds of that one. -/
theorem OnlyEntry.any {l : List (Nat × Job)} {j : Nat} {b : Job} (h : OnlyEntry l j b) (p : Nat × Job → Bool) :
    l.any p = p (j, b) := by
  rw [Bool.eq_iff_iff, List.any_eq_true]
  exact ⟨fun ⟨e, he, hp⟩ => h.2 e he ▸ hp, fun hp => ⟨_, h.1, hp⟩⟩

/-- Its tenant is the only one among them. -/
theorem OnlyEntry.instancesOf {l : List (Nat × Job)} {j : Nat} {b : Job} (h : OnlyEntry l j b) (hi : b.inst ≤ 128) :
    instancesOf (l.map (·.2)) = [b.inst] := by
  unfold Sys2Proof.Machine.instancesOf
  have hany : (fun n => (l.map (·.2)).any fun x => x.inst == n) = (· == b.inst) := by
    funext n
    rw [List.any_map]
    exact (h.any _).trans (Bool.beq_comm ..)
  rw [hany, List.filter_beq, List.count_eq_one_of_mem List.nodup_range (List.mem_range.mpr (by omega))]
  rfl

/-- A search among them finds that one. -/
theorem OnlyEntry.find? {l : List (Nat × Job)} {j : Nat} {b : Job} (h : OnlyEntry l j b) {p : Nat × Job → Bool}
    (hp : p (j, b) = true) : l.find? p = some (j, b) := by
  obtain ⟨e, he⟩ := Option.isSome_iff_exists.mp (List.find?_isSome.mpr ⟨_, h.1, hp⟩)
  rw [he, h.2 e (List.mem_of_find?_eq_some he)]

/-- Every number that the entries give is the one of that entry, and so is the least. -/
theorem OnlyEntry.min? {l : List (Nat × Job)} {j : Nat} {b : Job} (h : OnlyEntry l j b) (f : Nat × Job → Nat) :
    (l.map f).min? = some (f (j, b)) := by
  rw [List.min?_eq_some_iff]
  refine ⟨List.mem_map_of_mem h.1, fun x hx => ?_⟩
  obtain ⟨e, he, rfl⟩ := List.mem_map.mp hx
  rw [h.2 e he]

/-- A property of the entry is found in it, and one that it has not is in no other. -/
theorem OnlyEntry.filter {l : List (Nat × Job)} {j : Nat} {b : Job} {p : Nat × Job → Bool}
    (hm : (j, b) ∈ l) (hp : p (j, b) = true) (h : ∀ e ∈ l, p e = true → e = (j, b)) : OnlyEntry (l.filter p) j b :=
  ⟨List.mem_filter.mpr ⟨hm, hp⟩, fun e he => h e (List.mem_filter.mp he).1 (List.mem_filter.mp he).2⟩

/-- Of one waiting tenant with a weight, that tenant is picked, and only its credits change. -/
theorem State.pickInstance_one {s : State} {cls n : Nat} (h : s.weight n cls ≠ 0) :
    ∃ c, s.pickInstance cls [n] [n] = (some n, { s with xs := { s.xs with credits := c } }) := by
  unfold State.pickInstance
  have hw : ([n].filter fun n => s.weight n cls != 0) = [n] := by simp [h]
  dsimp only
  rw [hw]
  dsimp only [List.map]
  have hc : ([n].contains n) = true := by simp
  rw [List.filter_cons_of_pos (by exact hc)]
  exact ⟨_, rfl⟩

/-- Of entries that are all one, that job is picked. -/
theorem OnlyEntry.pickJob {l : List (Nat × Job)} {j : Nat} {b : Job} (h : OnlyEntry l j b) (s : State) (cls : Nat) :
    s.pickJob cls b.inst l = some j := by
  have hmine : OnlyEntry (l.filter fun e => e.2.inst == b.inst) j b := OnlyEntry.filter h.1 (by simp) fun e he _ => h.2 e he
  unfold State.pickJob
  extract_lets last mine qs q
  have hq : q = some b.queueNo := by
    dsimp only [q]
    split
    · rename_i x hx
      obtain ⟨e, he, rfl⟩ := List.mem_map.mp (List.mem_filter.mp (List.min?_mem hx)).1
      rw [hmine.2 e he]
    · exact hmine.min? fun e => e.2.queueNo
  have hof : OnlyEntry (mine.filter fun e => e.2.queueNo == b.queueNo) j b :=
    OnlyEntry.filter hmine.1 (by simp) fun e he _ => hmine.2 e he
  rw [hq]
  dsimp only [Option.bind]
  rw [hof.min? fun e => e.2.order]
  dsimp only [Option.bind]
  rw [hof.find? (by simp)]
  rfl

/-- What makes job `j`, which is `b`, the one to start on engine `i`: the engine may be used and nothing holds it back, and
of the best-effort jobs of its class only this one waits, which may run there. -/
structure OneWaits (s : State) (j : Nat) (b : Job) (cls i : Nat) : Prop where
  job : s.job j = some b
  usable : s.engUsable cls i = true
  undrained : s.domain (engDomain cls i) ≠ .draining
  noLead : (s.eng (engKey cls i)).leadIn = none
  agreed : s.fc.withheld ≠ some (cls, i)
  noBerth : (s.eng (engKey cls i)).berth = none
  noSaved : (s.eng (engKey cls i)).saved = []
  bestEffort : s.hasEventBerth b = false
  seOn : cls = 5 → bitAt (s.fld aSE_CTL 7 0) i = true
  deOn : cls = 6 → bitAt (s.fld aDE_CTL 11 0) i = true
  candidate : s.candidate b cls i = true
  alone : s.forkSet b cls i none = some []
  clears : s.clearsBerth b cls i [] = true
  only : ∀ e ∈ s.jobs, e.2.waitsFor cls = true → s.hasEventBerth e.2 = false → e = (j, b)
  tenant : b.inst ≤ 128
  weight : s.weight b.inst cls ≠ 0

theorem State.waitsFor_of_candidate {s : State} {b : Job} {cls i : Nat} (h : s.candidate b cls i = true) :
    b.waitsFor cls = true := by
  unfold State.candidate at h
  simp only [Bool.and_eq_true] at h
  exact h.1.1.1.1.1.1

theorem Job.phase_of_waitsFor {b : Job} {cls : Nat} (h : b.waitsFor cls = true) : b.phase = .fifo := by
  unfold Job.waitsFor at h
  simp only [Bool.and_eq_true, beq_iff_eq] at h
  exact h.1.1.1.1

theorem Job.ending_of_waitsFor {b : Job} {cls : Nat} (h : b.waitsFor cls = true) : b.ending = none := by
  unfold Job.waitsFor at h
  simp only [Bool.and_eq_true, Option.isNone_iff_eq_none] at h
  exact h.1.1.1.2

/-- `s` with the best-effort credits and the queues granted last as a choice of a job leaves them (R91). -/
def State.charged (s : State) (credits : Tab Int) (last : Tab Nat) : State :=
  { s with xs := { s.xs with credits := credits, lastQueue := last } }

/-- The grant of an engine for which one job waits tries that job, with its tenant charged. -/
theorem OneWaits.grant {s : State} {j : Nat} {b : Job} {cls i : Nat} (h : OneWaits s j b cls i) :
    ∃ c l, s.grant cls i = (s.charged c l).tryStart j b cls i [] none := by
  have hmem : (j, b) ∈ s.jobs := mem_of_tget h.job
  have hwait := State.waitsFor_of_candidate h.candidate
  have hcut : s.cutIn (engKey cls i) = none := by
    unfold State.cutIn
    rw [h.noSaved]
    rfl
  unfold State.grant
  dsimp only
  rw [if_neg fun hx => h.undrained hx.2, if_neg (by simp [h.usable, h.noLead, h.agreed]), h.noBerth]
  dsimp only [Option.bind]
  unfold State.grantBestEffort
  extract_lets k waits able stays able'
  rw [hcut]
  dsimp -zeta only
  have hwaits : OnlyEntry waits j b :=
    OnlyEntry.filter hmem (by simp [hwait, h.bestEffort]) fun e he hp => by
      simp only [k, h.noSaved, List.contains_nil, Bool.or_false, Bool.and_eq_true, Bool.not_eq_true'] at hp
      exact h.only e he hp.1 hp.2
  have hable : OnlyEntry able j b :=
    OnlyEntry.filter hmem (by simp [h.candidate, h.bestEffort, h.alone, h.clears]) fun e he hp => by
      simp only [k, h.noSaved, List.contains_nil, Bool.false_or, Bool.and_eq_true, Bool.not_eq_true'] at hp
      exact h.only e he (State.waitsFor_of_candidate hp.1.1) hp.1.2
  have hstays : stays = false := by
    dsimp only [stays]
    by_cases h5 : cls = 5
    · simp [h5, h.seOn h5]
    · by_cases h6 : cls = 6
      · simp [h6, h.deOn h6]
      · simp [h5, h6]
  have hable' : able' = able := if_neg (by simp [hstays])
  obtain ⟨c, hc⟩ := State.pickInstance_one h.weight
  rw [hable', hwaits.instancesOf h.tenant, hable.instancesOf h.tenant, hc]
  dsimp only
  rw [hable.pickJob]
  dsimp only
  rw [show ({ s with xs := { s.xs with credits := c } } : State).job j = some b from h.job]
  dsimp only
  rw [if_neg (by rw [Job.phase_of_waitsFor hwait]; decide), h.alone]
  exact ⟨_, _, rfl⟩

/-- What a job finds at its grant it finds however its tenant is charged. -/
theorem GrantPasses.charged {s s' : State} {b : Job} {cls i : Nat} {p : Plan} {lim : Option Nat}
    (h : GrantPasses s s' b cls i p lim) (c : Tab Int) (l : Tab Nat) :
    GrantPasses (s.charged c l) { s' with xs := (s.charged c l).xs } b cls i p lim := by
  obtain ⟨h1, h2, h3, h4, h5, h6, h7, h8, h9, h10⟩ := h
  exact ⟨h1, h2, h3, h4, h5, h6, State.approve_xs _ h7, h8, h9, h10⟩

/-! ### The clauses -/

section
variable {s : State} {j : Nat} {b : Job} {c : EngClass} {i : Nat} (h : OneWaits s j b (classCode c) i)
include h

/-- The one job that waits is over when its deadline has passed, and the engine stays free. -/
theorem OneWaits.late_answers (hd : s.deadlinePassed b = true) : answers (.jobGrant c i) s fun t =>
    endedWith t j (failed stDEADLINE_MISSED) ∧ t.eng (engKey (classCode c) i) = s.eng (engKey (classCode c) i) := by
  obtain ⟨cr, l, hx⟩ := h.grant
  rw [State.tryStart_late (s := s.charged cr l) hd] at hx
  refine ⟨_, congrArg Host.Outcome.next hx, endedWith_endJob (s := s.charged cr l) _ h.job, ?_⟩
  unfold State.eng State.failJob
  rw [State.endJob_engines]
  rfl

/-- The one job that waits runs on the engine when it passes every check. -/
theorem OneWaits.starts_answers {s' : State} {p : Plan} {lim : Option Nat} (hp : GrantPasses s s' b (classCode c) i p lim)
    (hne : b.noEngine = false) (hc : s.badCopy b.handle = none) (ht : b.task.isSome → s.hasSealed b.handle = false) :
    answers (.jobGrant c i) s fun t => (t.eng (engKey (classCode c) i)).busy = some j ∧ otherJobsKept s t j ∧
      ∃ b', t.job j = some b' ∧ b'.phase = (if b.task.isSome then .ended else .running) ∧
        b'.engine = some (classCode c, i) ∧ b'.start = s.tb.stamp ∧ b'.opcode = b.opcode ∧
        b'.ending = (if b.task.isSome then some (done []) else none) ∧
        b'.work = (p.needs.filter fun n => n.role == .key).map fun n => (s'.slot (hSlot n.handle)).val := by
  obtain ⟨cr, l, hx⟩ := h.grant
  obtain ⟨old, rng, cnts, hs⟩ := State.tryStart_begins (hp.charged cr l) j
  obtain ⟨-, rfl⟩ := State.approve_ok hp.approved
  have he := Job.ending_of_waitsFor (State.waitsFor_of_candidate h.candidate)
  exact ⟨_, congrArg Host.Outcome.next (hx.trans hs), State.beginJob_begun he hne hc ht⟩

end

/-- The slow command of the lowest order is the one that starts (R133, R138). -/
theorem oldestSlow {l : List (Nat × Job)} {j : Nat} {b : Job} (hm : (j, b) ∈ l)
    (h : ∀ e ∈ l, e = (j, b) ∨ b.order < e.2.order) :
    ((l.map fun e => e.2.order).min?.bind fun o => l.find? fun e => e.2.order == o) = some (j, b) := by
  have hmin : (l.map fun e => e.2.order).min? = some b.order := by
    rw [List.min?_eq_some_iff]
    refine ⟨List.mem_map_of_mem (f := fun e : Nat × Job => e.2.order) hm, fun x hx => ?_⟩
    obtain ⟨e, he, rfl⟩ := List.mem_map.mp hx
    rcases h e he with rfl | hlt
    · exact Nat.le_refl _
    · exact hlt.le
  rw [hmin]
  obtain ⟨e, he⟩ := Option.isSome_iff_exists.mp
    (List.find?_isSome (p := fun e : Nat × Job => e.2.order == b.order).mpr ⟨_, hm, beq_self_eq_true _⟩)
  dsimp only [Option.bind]
  rw [he]
  have hord := List.find?_some he
  rcases h e (List.mem_of_find?_eq_some he) with rfl | hlt
  · rfl
  · simp only [beq_iff_eq] at hord
    omega

theorem mpCommandStart_answers {s : State} {j : Nat} {b : Job} (hj : s.job j = some b) (hm : s.mp.state = .run)
    (hn : (s.jobsWhere fun x => x.isMp && x.phase == .running).length < 4) (hf : s.fc.mstate ≠ .fault)
    (hp : b.phase = .slow) (ho : ∀ e ∈ s.jobs, e.2.phase = .slow → e = (j, b) ∨ b.order < e.2.order) :
    answers .mpCommandStart s fun t => otherJobsKept s t j ∧
      if s.deadlinePassed b then endedWith t j (failed stDEADLINE_MISSED)
      else if b.inst ≠ 0 ∧ ((s.inst b.inst).state = .quiescing ∨ (s.inst b.inst).state = .quiesced)
      then endedWith t j (failed stABORTED)
      else t.job j = some { b with phase := .running, started := true, start := s.tb.stamp, startUp := s.now, startNs := s.tb.ns } := by
  have hpick := oldestSlow (l := s.jobs.filter fun e => e.2.phase == .slow) (j := j) (b := b)
    (List.mem_filter.mpr ⟨mem_of_tget hj, by simp [hp]⟩) fun e he =>
      ho e (List.mem_filter.mp he).1 (by simpa using (List.mem_filter.mp he).2)
  unfold answers
  change ∃ t, execMpCommandStart s = _ ∧ _
  unfold execMpCommandStart
  dsimp only
  rw [if_neg (by simp [hm, hf]; omega), hpick]
  dsimp only
  by_cases hd : s.deadlinePassed b = true
  · refine ⟨_, if_pos hd, otherJobsKept_endJob s j _, ?_⟩
    rw [if_pos hd]
    exact endedWith_endJob _ hj
  · simp only [if_neg hd]
    by_cases hq : b.inst ≠ 0 ∧ ((s.inst b.inst).state = .quiescing ∨ (s.inst b.inst).state = .quiesced)
    · refine ⟨_, if_pos hq, otherJobsKept_endJob s j _, ?_⟩
      rw [if_pos hq]
      exact endedWith_endJob _ hj
    · refine ⟨_, if_neg hq, fun i hi => State.job_setJob_other _ _ hi, ?_⟩
      rw [if_neg hq]
      exact State.job_setJob_same _ _ _

theorem deadlineMissed_answers {s : State} {j : Nat} {b : Job} (hj : s.job j = some b)
    (hp : b.phase = .fifo ∨ b.phase = .fenced ∨ b.phase = .slow) (he : b.ending = none) (hd : s.deadlinePassed b = true) :
    answers (.deadlineMissed j) s fun t => endsQuietly s t j (failed stDEADLINE_MISSED) := by
  refine ⟨s.failJob j stDEADLINE_MISSED, ?_, endsQuietly_endJob _ hj rfl (surfaceKept_refl s)⟩
  change execDeadlineMissed j s = _
  unfold execDeadlineMissed
  rw [hj]
  exact if_pos ⟨hp, by rw [he]; rfl, hd⟩

theorem deadlineMissed_early {s : State} {j : Nat} {b : Job} (hj : s.job j = some b) (hd : s.deadlinePassed b = false) :
    answers (.deadlineMissed j) s fun t => t = s := by
  refine ⟨s, ?_, rfl⟩
  change execDeadlineMissed j s = _
  unfold execDeadlineMissed
  rw [hj]
  exact if_neg fun h => by simp [hd] at h

/-- Settles O33: the grant, the start of a slow command and the deadline are the lemmas on them. -/
theorem jobsStart : Obligations.JobsStart := by
  unfold Obligations.JobsStart
  intro s j b hj
  refine ⟨fun c i => ?_,
    mpCommandStart_answers hj, deadlineMissed_answers hj, deadlineMissed_early hj⟩
  intro cls k hus hdr hlead hwith hberth hsaved hev hse hde hcand hfork hclear honly hinst hw
  have h : OneWaits s j b cls i :=
    ⟨hj, hus, hdr, hlead, hwith, hberth, hsaved, hev, hse, hde, hcand, hfork, hclear, honly, hinst, hw⟩
  exact ⟨h.late_answers, fun p lim s' hdl hplan hearly hfit hout hbad happ hleaf hcov hne hpack hc ht =>
    h.starts_answers ⟨hdl, hplan, hearly, hfit, hout, hbad, happ, hleaf, hcov, hpack⟩ hne hc ht⟩

end Sys2Proof.Machine
end

section
/-! Berths and preemption: an engine's lead-in and seat in a berth, what a grant leaves of them, and how a job yields. -/

namespace Sys2Proof.Machine

/-! ### The engines of a berth (R76) -/

theorem classSize_lt (cls : Nat) : classSize cls < 64 := by
  unfold classSize
  split <;> decide

/-- An engine of a berth is one of the berth's class. -/
theorem Berth.class_of_engKeys {w : Berth} {k : Nat} (h : k ∈ w.engKeys) : k / 64 = w.cls := by
  unfold Berth.engKeys at h
  obtain ⟨i, hi, rfl⟩ := List.mem_map.mp h
  have hlt := List.mem_range.mp (List.mem_filter.mp hi).1
  have := classSize_lt w.cls
  unfold engKey
  omega

section
variable {s : State}

/-! ### Cutting in on an engine (R95) -/

/-- Job `b` as a cut-in leaves it: best-effort work is asked to yield. -/
def Job.asked (b : Job) : Job := if b.berth.isNone then { b with preemptAsked := true } else b

theorem State.cutInOn_busy {k j : Nat} (h1 : k / 64 ≠ 1) (h7 : k / 64 ≠ 7) (hb : (s.eng k).busy = some j) :
    s.cutInOn k = s.onJob j Job.asked := by
  unfold State.cutInOn
  rw [if_neg (not_or.mpr ⟨h1, h7⟩), hb]
  rfl

@[simp] theorem State.cutInOn_engines (k : Nat) : (s.cutInOn k).engines = s.engines := by
  unfold State.cutInOn
  repeat' split
  · rfl
  · exact State.onJob_engines ..
  · rfl

@[simp] theorem State.eng_cutInOn (k i : Nat) : (s.cutInOn k).eng i = s.eng i := by
  unfold State.eng
  rw [State.cutInOn_engines]

theorem Job.asked_berth (b : Job) : b.asked.berth = b.berth := by
  unfold Job.asked
  split <;> rfl

/-- A job is asked to yield when it was before, or when it is best-effort work. -/
theorem Job.asked_of {b : Job} (h : b.preemptAsked = true ∨ b.berth = none) : b.asked.preemptAsked = true := by
  unfold Job.asked
  split
  · rfl
  · rename_i hb
    exact h.resolve_right fun h => hb (by rw [h]; rfl)

/-! ### The lead-in of a berth (R76) -/

/-- Engine `k` enters the lead-in of a berth. -/
def State.leadInOn (id : Nat) (s : State) (k : Nat) : State := (s.onEng k fun e => { e with leadIn := some id }).cutInOn k

theorem State.eng_leadInOn_same (id k : Nat) : (s.leadInOn id k).eng k = { s.eng k with leadIn := some id } :=
  (State.eng_cutInOn k k).trans (s.eng_onEng_same k _)

theorem State.eng_leadInOn_other {id k i : Nat} (h : i ≠ k) : (s.leadInOn id k).eng i = s.eng i :=
  (State.eng_cutInOn k i).trans (s.eng_onEng_other _ h)

theorem State.busy_leadInOn (id k i : Nat) : ((s.leadInOn id k).eng i).busy = (s.eng i).busy := by
  by_cases h : i = k
  · rw [h, State.eng_leadInOn_same]
  · rw [State.eng_leadInOn_other h]

/-- How job `j`, which was `b`, stands after a lead-in: asked if it was before, or if it is best-effort work that one of
the engines `ks` runs. -/
def AskedOn (s t : State) (ks : List Nat) (j : Nat) (b : Job) : Prop :=
  ∃ b', t.job j = some b' ∧ b'.berth = b.berth ∧
    (b.preemptAsked = true ∨ b.berth = none ∧ (∃ k ∈ ks, (s.eng k).busy = some j) → b'.preemptAsked = true)

/-- A lead-in on one engine asks the job that the engine runs. -/
theorem State.leadInOn_asks {id k j : Nat} {b : Job} (h1 : k / 64 ≠ 1) (h7 : k / 64 ≠ 7) (hj : s.job j = some b) :
    AskedOn s (s.leadInOn id k) [k] j b := by
  unfold State.leadInOn
  cases hb : (s.eng k).busy with
  | none =>
    have hs : (s.onEng k fun e => { e with leadIn := some id }).cutInOn k = s.onEng k fun e => { e with leadIn := some id } := by
      unfold State.cutInOn
      rw [if_neg (not_or.mpr ⟨h1, h7⟩), State.eng_onEng_same, hb]
    rw [hs]
    refine ⟨b, hj, rfl, fun h => h.resolve_right fun ⟨_, i, hi, hbi⟩ => ?_⟩
    rw [List.mem_singleton.mp hi, hb] at hbi
    exact nomatch hbi
  | some i =>
    rw [State.cutInOn_busy h1 h7 (by rw [State.eng_onEng_same]; exact hb)]
    by_cases hij : j = i
    · subst hij
      exact ⟨b.asked, State.job_onJob_same _ Job.asked hj, b.asked_berth, fun h => Job.asked_of (h.imp_right And.left)⟩
    · refine ⟨b, (State.job_onJob_other _ Job.asked hij).trans hj, rfl, fun h => h.resolve_right fun ⟨_, x, hx, hbx⟩ => ?_⟩
      rw [List.mem_singleton.mp hx, hb] at hbx
      exact hij (Option.some.inj hbx).symm

theorem foldl_leadInOn_asks {id : Nat} {ks : List Nat} (hk : ∀ k ∈ ks, k / 64 ≠ 1 ∧ k / 64 ≠ 7) :
    ∀ {s : State} {j : Nat} {b : Job}, s.job j = some b → AskedOn s (ks.foldl (State.leadInOn id) s) ks j b := by
  induction ks with
  | nil => exact fun hj => ⟨_, hj, rfl, fun h => h.resolve_right fun ⟨_, _, hn, _⟩ => nomatch hn⟩
  | cons k ks ih =>
    intro s j b hj
    obtain ⟨h1, h7⟩ := hk k List.mem_cons_self
    obtain ⟨b1, hj1, hb1, ha1⟩ := State.leadInOn_asks (id := id) h1 h7 hj
    obtain ⟨b2, hj2, hb2, ha2⟩ := ih (fun x hx => hk x (List.mem_cons_of_mem _ hx)) hj1
    refine ⟨b2, hj2, hb2.trans hb1, ?_⟩
    rintro (h | ⟨hn, x, hx, hbx⟩)
    · exact ha2 (.inl (ha1 (.inl h)))
    · obtain rfl | hx := List.mem_cons.mp hx
      · exact ha2 (.inl (ha1 (.inr ⟨hn, x, List.mem_singleton_self x, hbx⟩)))
      · exact ha2 (.inr ⟨hb1.trans hn, x, hx, (State.busy_leadInOn id k x).trans hbx⟩)

/-- A change of single engines by `f`, one engine after the other, changes each engine of the list and no other. -/
theorem eng_foldl_of {f : State → Nat → State} {g : Engine → Engine} (hsame : ∀ s k, (f s k).eng k = g (s.eng k))
    (hother : ∀ s k i, i ≠ k → (f s k).eng i = s.eng i) (hg : ∀ e, g (g e) = g e) (ks : List Nat) : ∀ (s : State) (i : Nat),
    (ks.foldl f s).eng i = if i ∈ ks then g (s.eng i) else s.eng i := by
  induction ks with
  | nil => exact fun _ _ => rfl
  | cons k ks ih =>
    intro s i
    rw [List.foldl_cons, ih]
    by_cases hik : i = k
    · subst hik
      rw [hsame, if_pos List.mem_cons_self, hg, ite_self]
    · rw [hother s k i hik]
      exact if_congr (by simp [hik]) rfl rfl

theorem eng_foldl_leadInOn (id : Nat) (ks : List Nat) (s : State) (i : Nat) :
    (ks.foldl (State.leadInOn id) s).eng i = if i ∈ ks then { s.eng i with leadIn := some id } else s.eng i :=
  eng_foldl_of (g := fun e => { e with leadIn := some id }) (fun _ _ => State.eng_leadInOn_same id _)
    (fun _ _ _ h => State.eng_leadInOn_other h) (fun _ => rfl) ks s i

theorem berthLeadIn_answers {id : Nat} {w : Berth} (hw : s.berthOf id = some w) (h1 : w.cls ≠ 1) (h7 : w.cls ≠ 7) :
    answers (.berthLeadIn id) s fun t =>
      (∀ k ∈ w.engKeys, (t.eng k).leadIn = some id ∧ (t.eng k).busy = (s.eng k).busy ∧
        ∀ j b, (s.eng k).busy = some j → s.job j = some b → b.berth = none → (t.job j).map (·.preemptAsked) = some true) ∧
      ∀ k, k ∉ w.engKeys → t.eng k = s.eng k := by
  refine ⟨w.engKeys.foldl (State.leadInOn id) s, ?_, fun k hk => ?_, fun k hk => ?_⟩
  · change execBerthLeadIn id s = _
    unfold execBerthLeadIn
    rw [hw]
    exact if_neg (not_or.mpr ⟨h1, h7⟩)
  · rw [eng_foldl_leadInOn, if_pos hk]
    refine ⟨rfl, rfl, fun j b hb hj hn => ?_⟩
    obtain ⟨b', hj', -, ha⟩ := foldl_leadInOn_asks (id := id)
      (fun x hx => by rw [Berth.class_of_engKeys hx]; exact ⟨h1, h7⟩) hj
    rw [hj', Option.map_some, ha (.inr ⟨hn, k, hk, hb⟩)]
  · rw [eng_foldl_leadInOn, if_neg hk]

theorem berthLeadIn_stays {id : Nat} {w : Berth} (hw : s.berthOf id = some w) (h : w.cls = 1 ∨ w.cls = 7) :
    answers (.berthLeadIn id) s fun t => t = s := by
  refine ⟨s, ?_, rfl⟩
  change execBerthLeadIn id s = _
  unfold execBerthLeadIn
  rw [hw]
  exact if_pos h

/-! ### Owner work in lent time (R80) -/

theorem ownerArrivalLent_answers {id j : Nat} {b : Job} {w : Berth} (hw : s.berthOf id = some w) (h1 : w.cls ≠ 1)
    (h7 : w.cls ≠ 7) (hr : (s.run id).running = true) (hl : s.lends w = true) (ho : (j, b) ∈ s.ownerJobs w)
    (hidle : ∀ k ∈ w.engKeys, s.engUsable w.cls (k % 64) = false ∨ s.budgetLeft w (k % 64) = false)
    (hlent : ∃ k ∈ w.engKeys, s.budgetLeft w (k % 64) = true ∧ ((s.eng k).busy.bind s.job).any
      (fun x => x.berth.isNone && x.phase == .running && !x.preemptAsked) = true) :
    answers (.ownerArrivalLent id j) s fun t => ∃ k ∈ w.engKeys, ∃ i x, (s.eng k).busy = some i ∧ s.job i = some x ∧
      x.berth = none ∧ x.preemptAsked = false ∧ t.job i = some { x with preemptAsked := true } ∧ otherJobsKept s t i := by
  have hgo : ¬((!(s.run id).running) = true ∨ (!s.lends w) = true ∨ (!(s.ownerJobs w).any (fun e => e.1 == j)) = true ∨
      (w.engKeys.any fun k => s.engUsable w.cls (k % 64) && s.budgetLeft w (k % 64)) = true) := by
    have hmine : (s.ownerJobs w).any (fun e => e.1 == j) = true := List.any_eq_true.mpr ⟨_, ho, beq_self_eq_true j⟩
    have hnone : (w.engKeys.any fun k => s.engUsable w.cls (k % 64) && s.budgetLeft w (k % 64)) = false :=
      List.any_eq_false.mpr fun k hk => by rcases hidle k hk with h | h <;> simp [h]
    simp [hr, hl, hmine, hnone]
  have hexec : exec (.ownerArrivalLent id j) s = execOwnerArrivalLent id j s := rfl
  unfold answers
  rw [hexec]
  unfold execOwnerArrivalLent
  rw [hw]
  dsimp only
  rw [if_neg hgo]
  split
  case h_1 hnil =>
    obtain ⟨k, hk, hb, ha⟩ := hlent
    exact absurd hnil (List.ne_nil_of_mem (List.mem_filter.mpr ⟨hk, by rw [hb]; exact ha⟩))
  case h_2 k ks hcons =>
    obtain ⟨hk, hc⟩ := List.mem_filter.mp (hcons ▸ List.mem_cons_self (a := k) (l := ks))
    have hcls := Berth.class_of_engKeys hk
    obtain ⟨-, hany⟩ := Bool.and_eq_true_iff.mp hc
    obtain ⟨x, hx, hx'⟩ := (Option.any_eq_true _ _).mp hany
    obtain ⟨i, hi, hj⟩ := Option.bind_eq_some_iff.mp hx
    simp only [Bool.and_eq_true, Option.isNone_iff_eq_none, Bool.not_eq_true'] at hx'
    obtain ⟨⟨hn, -⟩, hp⟩ := hx'
    refine ⟨_, rfl, k, hk, i, _, hi, hj, hn, hp, ?_, ?_⟩
    · rw [State.cutInOn_busy (by omega) (by omega) hi, State.job_onJob_same _ Job.asked hj]
      unfold Job.asked
      rw [hn]
      rfl
    · rw [State.cutInOn_busy (by omega) (by omega) hi]
      exact fun y hy => State.job_onJob_other _ Job.asked hy

/-! ### What an engine holds, and which berths run -/

/-- Between `s` and `t` every engine kept its seat in a berth and its lead-in, and the same berths run. -/
def SeatsKept (s t : State) : Prop :=
  (∀ k, (t.eng k).berth = (s.eng k).berth ∧ (t.eng k).leadIn = (s.eng k).leadIn) ∧
  ∀ id, (t.run id).running = (s.run id).running

theorem SeatsKept.refl (s : State) : SeatsKept s s := ⟨fun _ => ⟨rfl, rfl⟩, fun _ => rfl⟩

theorem SeatsKept.trans {r s t : State} (h : SeatsKept r s) (g : SeatsKept s t) : SeatsKept r t :=
  ⟨fun k => ⟨(g.1 k).1.trans (h.1 k).1, (g.1 k).2.trans (h.1 k).2⟩, fun id => (g.2 id).trans (h.2 id)⟩

theorem SeatsKept.of_eq {t : State} (he : t.engines = s.engines) (hx : t.xs.runs = s.xs.runs) : SeatsKept s t :=
  ⟨fun k => by unfold State.eng; rw [he]; exact ⟨rfl, rfl⟩, fun id => by unfold State.run; rw [hx]⟩

theorem SeatsKept.setEng {k : Nat} {e : Engine} (hb : e.berth = (s.eng k).berth) (hl : e.leadIn = (s.eng k).leadIn) :
    SeatsKept s (s.setEng k e) := by
  refine ⟨fun i => ?_, fun _ => rfl⟩
  by_cases h : i = k
  · subst h
    rw [State.eng_setEng_same]
    exact ⟨hb, hl⟩
  · rw [State.eng_setEng_other _ _ h]
    exact ⟨rfl, rfl⟩

theorem SeatsKept.foldl {α : Type} {f : State → α → State} (hf : ∀ s a, SeatsKept s (f s a)) :
    ∀ (l : List α) (s : State), SeatsKept s (l.foldl f s)
  | [], s => SeatsKept.refl s
  | a :: l, s => (hf s a).trans (SeatsKept.foldl hf l _)

/-- One transfer of the gangway leaves what an engine runs. -/
theorem State.busy_gangStep (s : State) (k : Nat) : ((s.gangStep).eng k).busy = (s.eng k).busy := by
  unfold State.gangStep
  split
  · rfl
  · rename_i t _
    extract_lets rest s1
    by_cases h : k = t.engine
    · subst h
      rw [State.eng_onEng_same]
      rfl
    · rw [State.eng_onEng_other _ _ h]
      rfl

theorem State.busy_at_ (s : State) (ns k : Nat) : ((s.at_ ns).eng k).busy = (s.eng k).busy :=
  State.gangServe_leaves _ (fun t : State => (t.eng k).busy) (fun t => t.busy_gangStep k) _

/-- The end of a berth, the engine's part: it gives up its seat in that berth. -/
def Engine.unseat (id : Nat) (e : Engine) : Engine := if e.berth = some id then { e with berth := none } else e

theorem Engine.unseat_berth (id : Nat) (e : Engine) : (e.unseat id).berth ≠ some id := by
  unfold Engine.unseat
  split
  · exact nofun
  · assumption

theorem Engine.unseat_busy (id : Nat) (e : Engine) : (e.unseat id).busy = e.busy := by
  unfold Engine.unseat
  split <;> rfl

theorem eng_foldl_onEng {g : Engine → Engine} (hg : ∀ e, g (g e) = g e) (ks : List Nat) (s : State) (i : Nat) :
    (ks.foldl (fun s k => s.onEng k g) s).eng i = if i ∈ ks then g (s.eng i) else s.eng i :=
  eng_foldl_of (fun s k => s.eng_onEng_same k g) (fun s _ _ h => s.eng_onEng_other g h) hg ks s i

/-- A change of single engines leaves what is read of no engine. -/
theorem foldl_onEng_leaves {β : Type} (φ : State → β) (hφ : ∀ s k e, φ (State.setEng s k e) = φ s) (g : Engine → Engine)
    (ks : List Nat) : ∀ s : State, φ (ks.foldl (fun s k => s.onEng k g) s) = φ s := by
  induction ks with
  | nil => exact fun _ => rfl
  | cons k ks ih => exact fun s => (ih _).trans (hφ s k _)

theorem foldl_onEng_run (g : Engine → Engine) (ks : List Nat) (s : State) (id : Nat) :
    (ks.foldl (fun s k => s.onEng k g) s).run id = s.run id :=
  foldl_onEng_leaves (fun t => t.run id) (fun _ _ _ => rfl) g ks s

theorem foldl_onEng_jobs (g : Engine → Engine) (ks : List Nat) (s : State) :
    (ks.foldl (fun s k => s.onEng k g) s).jobs = s.jobs :=
  foldl_onEng_leaves State.jobs (fun _ _ _ => rfl) g ks s

theorem foldl_onEng_cnt (g : Engine → Engine) (ks : List Nat) (s : State) (off idx : Nat) :
    (ks.foldl (fun s k => s.onEng k g) s).cnt off idx = s.cnt off idx :=
  foldl_onEng_leaves (fun t => t.cnt off idx) (fun _ _ _ => rfl) g ks s

@[simp] theorem State.run_setRun_same (s : State) (id : Nat) (r : BerthRun) : (s.setRun id r).run id = r :=
  tgetD_tput_same _ _ _ _

@[simp] theorem State.run_setRun_other (s : State) {id i : Nat} (r : BerthRun) (h : i ≠ id) : (s.setRun id r).run i = s.run i :=
  tgetD_tput_other _ _ _ _ h

/-- The end of a berth, the scheduler's part: the jobs that still run are counted, and the berth runs no more. -/
def State.closeRun (s : State) (id : Nat) : State :=
  let s := s.bumpBy aXS_TAIL_CNT 0 (s.jobsWhere fun b => b.berth == some id && b.phase == .running).length
  s.setRun id { s.run id with running := false }

theorem State.closeRun_jobs (s : State) (id : Nat) : (s.closeRun id).jobs = s.jobs := rfl

theorem State.eng_closeRun (s : State) (id k : Nat) : (s.closeRun id).eng k = s.eng k := rfl

theorem State.run_closeRun (s : State) (id : Nat) : ((s.closeRun id).run id).running = false :=
  congrArg BerthRun.running (State.run_setRun_same _ id _)

theorem State.tail_closeRun (s : State) (id : Nat) : (s.closeRun id).cnt aXS_TAIL_CNT 0 = (s.cnt aXS_TAIL_CNT 0 +
    (s.jobsWhere fun b => b.berth == some id && b.phase == .running).length) % 2 ^ 32 :=
  s.cnt_bumpBy_same aXS_TAIL_CNT 0 _

theorem execBerthEnd_eq {id : Nat} {w : Berth} (hw : s.berthOf id = some w) : exec (.berthEnd id) s =
    .next (w.engKeys.foldl (fun s k => s.onEng k (Engine.unseat id)) ((s.at_ ((w.start + w.len) * 128)).closeRun id)) := by
  change execBerthEnd id s = _
  unfold execBerthEnd
  rw [hw]
  rfl

theorem berthEnd_answers {id : Nat} {w : Berth} (hw : s.berthOf id = some w) :
    answers (.berthEnd id) s fun t => (t.run id).running = false ∧ t.jobs = s.jobs ∧
      (∀ k ∈ w.engKeys, (t.eng k).berth ≠ some id ∧ (t.eng k).busy = (s.eng k).busy) ∧
      t.cnt aXS_TAIL_CNT 0 = (s.cnt aXS_TAIL_CNT 0 +
        (s.jobsWhere fun b => b.berth == some id && b.phase == .running).length) % 2 ^ 32 := by
  refine ⟨_, execBerthEnd_eq hw, ?_, ?_, fun k hk => ?_, ?_⟩
  · rw [foldl_onEng_run]
    exact State.run_closeRun _ id
  · rw [foldl_onEng_jobs, State.closeRun_jobs, State.at_jobs]
  · rw [eng_foldl_onEng (fun e => if_neg (Engine.unseat_berth id e)), if_pos hk]
    exact ⟨Engine.unseat_berth id _, by rw [Engine.unseat_busy, State.eng_closeRun, State.busy_at_]⟩
  · rw [foldl_onEng_cnt, State.tail_closeRun]
    unfold State.cnt State.jobsWhere
    rw [State.at_cnts, State.at_jobs]

/-! ### A preemption point and the end of a quantum (R92, R95, R97) -/

section
variable {c : EngClass} {i j : Nat} {b : Job}

/-- A job that a disable stops ends at its preemption point. -/
theorem preemptionPoint_stops (h1 : classCode c ≠ 1) (h7 : classCode c ≠ 7)
    (hb : (s.eng (engKey (classCode c) i)).busy = some j) (hj : s.job j = some b) (hp : b.phase = .running)
    (hw : b.wait = .no) (hh : b.half = none)
    (hstop : s.drainAborts b = true ∨ (b.discard = true ∧ b.preemptAsked = true)) :
    answers (.preemptionPoint c i) s fun t => endsQuietly s t j (failed stABORTED) := by
  refine ⟨s.failJob j stABORTED, ?_, endsQuietly_endJob _ hj rfl (surfaceKept_refl s)⟩
  change Host.Outcome.next (s.preemptPoint (classCode c) i) = _
  unfold State.preemptPoint
  rw [if_neg (not_or.mpr ⟨h1, h7⟩), hb]
  dsimp only
  rw [hj]
  dsimp only
  rw [if_neg (by simp [hp, hw]), if_pos ⟨by rw [hh]; rfl, hstop⟩]

/-- Between `s` and `t` the context of job `j`, which was `b`, was saved on engine `k`, and counted as a preemption. -/
def ContextSaved (s t : State) (k j : Nat) (b : Job) : Prop :=
  (t.eng k).busy = none ∧ (t.eng k).saved = (s.eng k).saved ++ [j] ∧ otherJobsKept s t j ∧
    t.cnt aXS_PREEMPT_CNT 0 = (s.cnt aXS_PREEMPT_CNT 0 + 1) % 2 ^ 32 ∧
    ∃ b', t.job j = some b' ∧ b'.phase = .saved ∧ b'.preemptAsked = false ∧ b'.preempts = b.preempts + 1

/-- Between `s` and `t` no engine and no job changed, and no preemption was counted. -/
def UnpreemptedKept (s t : State) : Prop :=
  t.engines = s.engines ∧ t.jobs = s.jobs ∧ t.cnt aXS_PREEMPT_CNT 0 = s.cnt aXS_PREEMPT_CNT 0

theorem UnpreemptedKept.trans {r s t : State} (h : UnpreemptedKept r s) (g : UnpreemptedKept s t) : UnpreemptedKept r t :=
  ⟨g.1.trans h.1, g.2.1.trans h.2.1, g.2.2.trans h.2.2⟩

theorem State.bump_unpreempted (s : State) {off : Nat} (idx : Nat) (h : cntKey aXS_PREEMPT_CNT 0 < cntKey off idx) :
    UnpreemptedKept s (s.bump off idx) :=
  ⟨rfl, rfl, tgetD_tput_other _ _ _ _ h.ne⟩

theorem State.chargeScratch_unpreempted (s : State) (inst plus minus : Nat) :
    UnpreemptedKept s (s.chargeScratch inst plus minus) := by
  unfold State.chargeScratch
  dsimp only
  split <;> exact ⟨rfl, rfl, rfl⟩

theorem State.saveContext_saves {cls : Nat} (hb : (s.eng (engKey cls i)).busy = some j) (hj : s.job j = some b) :
    ContextSaved s (s.saveContext cls i false) (engKey cls i) j b := by
  unfold State.saveContext
  extract_lets k spill
  rw [hb]
  dsimp -zeta only
  rw [hj]
  dsimp -zeta only
  extract_lets s1 s2 s3 seq s4
  have h1 : UnpreemptedKept s s1 := by
    dsimp only [s1]
    split
    · exact (s.bump_unpreempted (off := aXS_SPILL_CNT) 0 (by decide)).trans (State.chargeScratch_unpreempted _ _ _ _)
    · exact ⟨rfl, rfl, rfl⟩
  have h3 : UnpreemptedKept s2 s3 := by
    dsimp only [s3]
    split
    · exact s2.bump_unpreempted i (by simp only [cntKey, aXS_PREEMPT_CNT, aSE_PREEMPT]; omega)
    · split
      · exact s2.bump_unpreempted i (by simp only [cntKey, aXS_PREEMPT_CNT, aDE_PREEMPT]; omega)
      · exact ⟨rfl, rfl, rfl⟩
  have he : s3.eng k = s.eng k := congrArg (fun t => tgetD t k ({} : Engine)) (h3.1.trans h1.1)
  have h4 : s4.eng k = _ := s3.eng_onEng_same k _
  refine ⟨congrArg Engine.busy h4, ?_, fun y hy => ?_, ?_, _, State.job_setJob_same _ _ _, rfl, rfl, rfl⟩
  · refine (congrArg Engine.saved h4).trans ?_
    rw [he]
  · refine (State.job_setJob_other _ _ hy).trans ?_
    exact congrArg (fun t => tget t y) (h3.2.1.trans h1.2.1)
  · exact (h3.2.2.trans (s1.cnt_bumpBy_same _ _ _)).trans (by rw [h1.2.2])

/-- A job that was asked to yield is saved at its preemption point. -/
theorem preemptionPoint_saves (h1 : classCode c ≠ 1) (h7 : classCode c ≠ 7)
    (hb : (s.eng (engKey (classCode c) i)).busy = some j) (hj : s.job j = some b) (hp : b.phase = .running)
    (hw : b.wait = .no) (hda : s.drainAborts b = false) (hdi : b.discard = false) (ha : b.preemptAsked = true) :
    answers (.preemptionPoint c i) s fun t => ContextSaved s t (engKey (classCode c) i) j b := by
  refine ⟨s.saveContext (classCode c) i false, ?_, State.saveContext_saves hb hj⟩
  change Host.Outcome.next (s.preemptPoint (classCode c) i) = _
  unfold State.preemptPoint
  rw [if_neg (not_or.mpr ⟨h1, h7⟩), hb]
  dsimp only
  rw [hj]
  dsimp only
  rw [if_neg (by simp [hp, hw]), if_neg (by simp [hda, hdi]), if_pos ha]

theorem preemptionPoint_passes (hb : (s.eng (engKey (classCode c) i)).busy = some j) (hj : s.job j = some b)
    (hda : s.drainAborts b = false) (ha : b.preemptAsked = false) (hq : b.quantumOver = false) :
    answers (.preemptionPoint c i) s fun t => t = s :=
  ⟨s, congrArg Host.Outcome.next (State.preemptPoint_unasked hb hj hda ha hq), rfl⟩

/-- Job `b` as the end of its quantum leaves it: best-effort work that has run it is marked. -/
def State.quantumMarked (s : State) (b : Job) : Job :=
  if b.berth.isNone ∧ s.passed b.grantUp (s.reg aXS_QUANTUM) then { b with quantumOver := true } else b

theorem quantumExpiry_answers (h1 : classCode c ≠ 1) (h7 : classCode c ≠ 7)
    (hb : (s.eng (engKey (classCode c) i)).busy = some j) (hj : s.job j = some b) :
    answers (.quantumExpiry c i) s fun t => otherJobsKept s t j ∧
      t.job j = some (if b.berth.isNone ∧ s.passed b.grantUp (s.reg aXS_QUANTUM) = true then { b with quantumOver := true }
        else b) := by
  refine ⟨s.onJob j s.quantumMarked, ?_, fun y hy => State.job_onJob_other _ _ hy, State.job_onJob_same _ _ hj⟩
  change execQuantumExpiry c i s = _
  unfold execQuantumExpiry
  dsimp only
  rw [if_neg (not_or.mpr ⟨h1, h7⟩), hb]
  rfl

end

/-! ### A grant leaves the seats of the engines (R77, R78, R91) -/

theorem seatsKept_endJob (s : State) (j : Nat) (e : Ending) : SeatsKept s (s.endJob j e) :=
  .of_eq (State.endJob_engines ..) (congrArg Scheduler.runs (State.endJob_xs ..))

theorem seatsKept_onJob (s : State) (j : Nat) (f : Job → Job) : SeatsKept s (s.onJob j f) :=
  .of_eq (State.onJob_engines ..) (congrArg Scheduler.runs (State.onJob_xs ..))

/-- A change of one engine that leaves its seat. -/
theorem seatsKept_onEng (s : State) (k : Nat) {f : Engine → Engine} (hb : (f (s.eng k)).berth = (s.eng k).berth)
    (hl : (f (s.eng k)).leadIn = (s.eng k).leadIn) : SeatsKept s (s.onEng k f) :=
  .setEng hb hl

theorem seatsKept_setRun (s : State) {id : Nat} {r : BerthRun} (h : r.running = (s.run id).running) :
    SeatsKept s (s.setRun id r) := by
  refine ⟨fun _ => ⟨rfl, rfl⟩, fun i => ?_⟩
  by_cases hid : i = id
  · subst hid
    rw [State.run_setRun_same]
    exact h
  · rw [State.run_setRun_other _ _ hid]

theorem QueueTraffic.seatsKept {t : State} (h : QueueTraffic s t) : SeatsKept s t := by
  unfold QueueTraffic at h
  rw [h]
  exact .of_eq rfl rfl

theorem seatsKept_chargeScratch (s : State) (inst plus minus : Nat) : SeatsKept s (s.chargeScratch inst plus minus) := by
  unfold State.chargeScratch
  dsimp only
  split <;> exact .of_eq rfl rfl

theorem seatsKept_dropContext (s : State) (j : Nat) : SeatsKept s (s.dropContext j) := by
  unfold State.dropContext
  split
  · exact .refl s
  · split
    · exact .refl s
    · rename_i c i _
      extract_lets k out s1
      have h1 : SeatsKept s s1 := seatsKept_onEng s k rfl rfl
      split
      · exact h1.trans (seatsKept_chargeScratch s1 _ _ _)
      · exact h1

theorem seatsKept_changeOwner (s : State) (cls i inst : Nat) : SeatsKept s (s.changeOwner cls i inst) := by
  unfold State.changeOwner
  extract_lets k e s1 kept l s2
  split
  · exact .refl s
  · have h1 : s1.engines = s.engines ∧ s1.xs = s.xs := by
      dsimp only [s1]
      repeat' split
      all_goals exact ⟨rfl, rfl⟩
    have h2 : s2.engines = s.engines ∧ s2.xs = s.xs := by
      dsimp only [s2]
      split
      · exact h1
      · exact h1
    have he : s2.eng k = e := congrArg (fun t => tgetD t k ({} : Engine)) h2.1
    exact (SeatsKept.of_eq h2.1 (congrArg Scheduler.runs h2.2)).trans (.setEng (by rw [he]) (by rw [he]))

theorem seatsKept_askKeys (s : State) (level k j : Nat) (keys : List LoadedKey) : SeatsKept s (s.askKeys level k j keys) := by
  unfold State.askKeys
  split <;> exact .of_eq rfl rfl

theorem seatsKept_loadEngine (s : State) (j : Nat) (b : Job) (cls k : Nat) (keys : List LoadedKey) (berth : Bool) :
    SeatsKept s (s.loadEngine j b cls k keys berth) := by
  unfold State.loadEngine
  extract_lets keys' ops s1
  have h1 : SeatsKept s s1 := seatsKept_onEng s k rfl rfl
  exact h1.trans (seatsKept_askKeys s1 _ k j _)

theorem seatsKept_startUnit (s : State) (b : Job) (cls k : Nat) : SeatsKept s (s.startUnit b cls k) := by
  unfold State.startUnit
  dsimp only
  split <;> exact .of_eq rfl rfl

/-- An engine that is made ready for a job keeps its seat: its owner, its keys and operands, and its sequencer. -/
theorem seatsKept_prepare (s : State) (j : Nat) (b : Job) (cls k inst : Nat) (keys : State → List LoadedKey) (berth : Bool) :
    SeatsKept s (((s.changeOwner cls (k % 64) inst).loadEngine j b cls k (keys s) berth).startUnit b cls k) :=
  ((seatsKept_changeOwner s cls (k % 64) inst).trans (seatsKept_loadEngine _ j b cls k _ berth)).trans
    (seatsKept_startUnit _ b cls k)

theorem seatsKept_allotPeer (s : State) (j : Nat) (b : Job) : SeatsKept s (s.allotPeer j b) := by
  unfold State.allotPeer
  dsimp only
  split <;> exact .of_eq rfl rfl

/-- A CONTAINED message of no engine is counted, recorded and told, and ends nothing (R592). -/
theorem State.raise_told (s : State) {m : FaultMsg} (hc : kindClass m.kind m.fatal = some 1)
    (hd : ∀ t : State, t.countDcm m.kind = t) (he : engOfSource m.source = none) :
    ∃ fc, QueueTraffic { s with fc := fc } (s.raise m) ∧ fc.mstate = s.fc.mstate := by
  obtain ⟨fc, h, hm⟩ := s.collect_eq m 1
  have h1 : QueueTraffic { s with fc := fc } (s.collect m 1) := by
    rw [h]
    rfl
  refine ⟨fc, ?_, hm⟩
  unfold State.raise
  rw [hc]
  dsimp -zeta only
  rw [hd, he]
  extract_lets s1 s2
  rw [if_neg (by decide), if_pos rfl]
  dsimp only [s2]
  split
  · exact h1.postEvent _ _ _ _ _
  · exact h1

/-- A message of an access to P2 whose MAC does not verify ends no berth (R54). -/
theorem seatsKept_raise (s : State) {m : FaultMsg} (hk : m.kind = 0x05) (hf : m.fatal = false)
    (hs : engOfSource m.source = none) : SeatsKept s (s.raise m) := by
  obtain ⟨fc, h, -⟩ := s.raise_told (m := m) (by rw [hk, hf]; rfl) (fun t => by rw [hk]; exact if_neg (by decide)) hs
  exact SeatsKept.trans (.of_eq rfl rfl) h.seatsKept

theorem seatsKept_loseCopy (s : State) (c : Sealed) : SeatsKept s (s.loseCopy c) := by
  unfold State.loseCopy
  dsimp only
  exact SeatsKept.trans (.of_eq rfl rfl) (.foldl (fun s j => seatsKept_endJob s j _) _ _)

theorem seatsKept_readCopy (s : State) (h cls i : Nat) : SeatsKept s (s.readCopy h cls i) := by
  unfold State.readCopy
  split
  · exact .refl s
  · exact (seatsKept_loseCopy s _).trans (seatsKept_raise _ rfl rfl (show engOfSource 0x4F0 = none by decide))

theorem seatsKept_beginJob (s : State) (j : Nat) (b : Job) (cls i : Nat) (fork : List Nat) (berth : Option Nat)
    (needs : List KeyNeed) (old : Bool) (leaf : Option Nat) :
    SeatsKept s (s.beginJob j b cls i fork berth needs old leaf) := by
  unfold State.beginJob
  extract_lets keys b' copies s1 ks s2 s3 s4
  have h1 : SeatsKept s s1 := SeatsKept.trans (.of_eq rfl rfl) (seatsKept_allotPeer _ j b')
  have h2 : SeatsKept s1 s2 := .foldl (fun s k => seatsKept_prepare s j b' cls k _
    (fun s => s.jobKeys b' (if b'.half.isSome then needs.take 1 else needs)) _) ks s1
  have h3 : SeatsKept s2 s3 := by
    dsimp only [s3]
    split
    · exact seatsKept_prepare s2 j b' 4 _ _ (fun s => s.needKeys b' (needs.drop 1)) _
    · exact .refl s2
  have h4 : SeatsKept s s4 := ((h1.trans h2).trans h3).trans (seatsKept_chargeScratch s3 _ _ _)
  split
  · exact h1
  · split
    · exact h4.trans (seatsKept_readCopy s4 _ _ _)
    · split
      · exact h4.trans (seatsKept_endJob s4 j _)
      · exact h4

theorem seatsKept_checkLow (s : State) (node : Nat) : SeatsKept s (s.checkLow node) := by
  unfold State.checkLow
  split
  · exact .refl s
  · rename_i k _
    extract_lets own n s1
    split
    · exact SeatsKept.trans (.of_eq (t := s1) rfl rfl)
        (.foldl (fun s _ => ((QueueTraffic.refl s).postEvent _ _ _ _ _).seatsKept) _ s1)
    · exact .refl s

theorem seatsKept_lacksRandom (s : State) (j : Nat) : SeatsKept s (s.lacksRandom j) := by
  unfold State.lacksRandom
  split
  · exact (seatsKept_endJob s j _).trans (.of_eq rfl rfl)
  · exact seatsKept_onJob s j _

theorem seatsKept_approve {s s' : State} {inst : Nat} {ns : List KeyNeed} (h : s.approve inst ns = .ok s') : SeatsKept s s' := by
  obtain ⟨-, rfl⟩ := State.approve_ok h
  exact .of_eq rfl rfl

theorem seatsKept_resumeJob (s : State) (j : Nat) : SeatsKept s (s.resumeJob j) := by
  unfold State.resumeJob
  split
  · exact .refl s
  · rename_i b _
    split
    · exact .refl s
    · rename_i c i _
      extract_lets k r s1
      have h1 : SeatsKept s s1 := ((seatsKept_changeOwner s _ _ _).trans (seatsKept_dropContext _ j)).trans
        (seatsKept_onEng _ k rfl rfl)
      exact h1.trans (.of_eq rfl rfl)

theorem seatsKept_pickInstance (s : State) (cls : Nat) (waiting able : List Nat) :
    SeatsKept s (s.pickInstance cls waiting able).2 := by
  unfold State.pickInstance
  dsimp only
  split <;> exact .of_eq rfl rfl

theorem seatsKept_tryStart (s : State) (j : Nat) (b : Job) (cls i : Nat) (fork : List Nat) (berth : Option Nat) :
    SeatsKept s (s.tryStart j b cls i fork berth) := by
  unfold State.tryStart
  obtain ⟨p, limit⟩ := s.planOf b
  dsimp -zeta only
  generalize (if cls = 1 then some (s.profParam b) else none) = param
  extract_lets engines
  split
  · exact seatsKept_endJob s j _
  split
  · exact seatsKept_endJob s j _
  split
  · exact seatsKept_endJob s j _
  split
  · exact seatsKept_endJob s j _
  split
  · exact (seatsKept_endJob s j _).trans (.of_eq rfl rfl)
  split
  · extract_lets s1
    have h1 : SeatsKept s s1 := by
      dsimp only [s1]
      split <;> exact .of_eq rfl rfl
    exact h1.trans (seatsKept_endJob s1 j _)
  split
  · exact seatsKept_endJob s j _
  split
  · exact seatsKept_endJob s j _
  · exact .of_eq rfl rfl
  split
  · exact seatsKept_lacksRandom s j
  split
  · exact seatsKept_endJob s j _
  · rename_i s' happ
    extract_lets r
    have hr : SeatsKept s r.2 := by
      obtain ⟨_, _, hr⟩ := foldl_takeRandom_eq b engines (false, s')
      refine (seatsKept_approve happ).trans ?_
      dsimp only [r]
      rw [hr]
      exact .of_eq rfl rfl
    split
    · extract_lets s1 d
      have h1 : SeatsKept r.2 s1 := by
        dsimp only [s1]
        split
        · exact SeatsKept.trans (.of_eq rfl rfl) (seatsKept_checkLow _ _)
        · exact .refl r.2
      have hd : SeatsKept s1 d.2 := .of_eq rfl rfl
      exact ((hr.trans h1).trans hd).trans (seatsKept_beginJob d.2 j _ cls i fork berth _ _ _)
    · exact hr.trans (seatsKept_beginJob r.2 j b cls i fork berth _ _ none)

theorem seatsKept_grantBestEffort (s : State) (cls i : Nat) : SeatsKept s (s.grantBestEffort cls i) := by
  unfold State.grantBestEffort
  extract_lets k waits able stays able'
  split
  · exact seatsKept_resumeJob s _
  · have hp := seatsKept_pickInstance s cls (instancesOf (waits.map (·.2))) (instancesOf (able'.map (·.2)))
    split
    · exact .refl s
    · rename_i n s' heq
      rw [heq] at hp
      split
      · exact .refl s
      · split
        · exact .refl s
        · rename_i b _
          extract_lets more x s2
          have h2 : SeatsKept s s2 := hp.trans (.of_eq rfl rfl)
          split
          · exact h2.trans (seatsKept_resumeJob s2 _)
          · exact h2.trans (seatsKept_tryStart s2 _ b cls i _ none)

theorem seatsKept_grantInBerth (s : State) (w : Berth) (i : Nat) : SeatsKept s (s.grantInBerth w i) := by
  unfold State.grantInBerth
  extract_lets lend r
  have hl : ∀ s, SeatsKept s (lend s) := fun s => by
    dsimp only [lend]
    split
    · exact seatsKept_grantBestEffort s _ _
    · exact .refl s
  split
  · exact hl s
  · rename_i j b _ _
    split
    · exact hl s
    · split
      · exact hl s
      · split
        · exact .refl s
        · rename_i f _
          extract_lets fits s1 ks
          split
          · exact (seatsKept_setRun s (r := { r with blocked := true }) rfl).trans (hl _)
          · split
            · exact hl s
            · have h1 : SeatsKept s s1 := seatsKept_tryStart s j b w.cls i f (some w.id)
              split
              · exact h1.trans (seatsKept_setRun s1 (h1.2 w.id).symm)
              · exact h1

theorem seatsKept_grant (s : State) (cls i : Nat) : SeatsKept s (s.grant cls i) := by
  unfold State.grant State.drainEngine
  dsimp only
  repeat' split
  · exact .refl s
  · exact seatsKept_resumeJob s _
  · exact .refl s
  · exact .refl s
  · exact seatsKept_grantInBerth s _ i
  · exact seatsKept_grantBestEffort s cls i

theorem berthStart_answers {id : Nat} {w : Berth} (hw : s.berthOf id = some w) :
    answers (.berthStart id) s fun t => (t.run id).running = true ∧
      ∀ k ∈ w.engKeys, (t.eng k).berth = some id ∧ (t.eng k).leadIn = none := by
  let s1 := (s.at_ (w.start * 128)).setRun id { running := true }
  let s2 := w.engKeys.foldl (fun s k => s.onEng k fun e => { e with berth := some id, leadIn := none }) s1
  have h : SeatsKept s2 (w.engKeys.foldl (fun s k => s.grant w.cls (k % 64)) s2) :=
    .foldl (fun s k => seatsKept_grant s w.cls (k % 64)) _ s2
  refine ⟨_, ?_, (h.2 id).trans ?_, fun k hk => ?_⟩
  · change execBerthStart id s = _
    unfold execBerthStart
    rw [hw]
  · rw [foldl_onEng_run, State.run_setRun_same]
  · have he := eng_foldl_onEng (g := fun e => { e with berth := some id, leadIn := none }) (fun _ => rfl) w.engKeys s1 k
    rw [if_pos hk] at he
    exact ⟨(h.1 k).1.trans (congrArg Engine.berth he), (h.1 k).2.trans (congrArg Engine.leadIn he)⟩

end

/-- Settles O35: the berth's lead-in, start and end, the owner's arrival, the preemption points and the quantum, each by
its lemma. -/
theorem berthsAndPreemption : Obligations.BerthsAndPreemption := by
  unfold Obligations.BerthsAndPreemption
  refine fun s => ⟨fun id w hw => ⟨berthLeadIn_answers hw, berthLeadIn_stays hw, berthStart_answers hw, berthEnd_answers hw,
    fun j b h1 h7 hr hl ho hidle hlent => ownerArrivalLent_answers hw h1 h7 hr hl ho hidle hlent⟩, fun c i j b => ?_⟩
  intro cls k h1 h7 hb hj
  exact ⟨fun hp hwait => ⟨preemptionPoint_stops h1 h7 hb hj hp hwait, preemptionPoint_saves h1 h7 hb hj hp hwait,
    preemptionPoint_passes hb hj⟩, quantumExpiry_answers h1 h7 hb hj⟩

end Sys2Proof.Machine
end

section
/-! What the operations of a guard and of a boundary leave of the crossing: its time, the staged configuration, and the state of
the module. -/

namespace Sys2Proof.Machine

/-! ### The view of a crossing -/

/-- What a guard and a boundary decide on. `rest` is what a statement reads of the pending rate, the values taken and the active
registers, which some operations change. -/
structure CrossingView (β : Type) where
  /-- the timebase, its pending rate left out -/
  tb : Timebase
  /-- the staged configuration, the values taken left out -/
  cfg : Staging
  /-- the sets of the MP that wait -/
  mpSets : List MpSet
  /-- the state of the module -/
  mstate : ModuleState
  /-- the copies of the scheduler have disagreed -/
  mismatch : Bool
  /-- what is read of the pending rate, the values taken and the active registers -/
  rest : β

/-- The crossing of a state, as `f` reads the pending rate, the values taken and the active registers. -/
def State.crossing {β : Type} (f : Option Nat → Tab Reg → Tab Reg → β) (s : State) : CrossingView β :=
  { tb := { s.tb with pendingRate := none }, cfg := { s.cfg with taken := [] }, mpSets := s.mpSets, mstate := s.fc.mstate,
    mismatch := s.xs.stateMismatch, rest := f s.tb.pendingRate s.cfg.taken s.regs }

section
variable {β : Type} (f : Option Nat → Tab Reg → Tab Reg → β) (s : State)

theorem QueueTraffic.crossing {s t : State} (h : QueueTraffic s t) : t.crossing f = s.crossing f := by
  rw [h]
  rfl

/-- An operation repeated over a list leaves what it leaves once. -/
@[simp] theorem crossing_foldl {α : Type} {g : State → α → State} (h : ∀ s a, (g s a).crossing f = s.crossing f) (l : List α) :
    ∀ s : State, (l.foldl g s).crossing f = s.crossing f := by
  induction l with
  | nil => exact fun _ => rfl
  | cons a l ih => exact fun s => (ih _).trans (h s a)

/-! ### Jobs, engines, pairs and counters -/

@[simp] theorem State.drawBytes_crossing (n : Nat) : (s.drawBytes n).2.crossing f = s.crossing f := rfl
@[simp] theorem State.bump_crossing (off i : Nat) : (s.bump off i).crossing f = s.crossing f := rfl
@[simp] theorem State.onEng_crossing (k : Nat) (g : Engine → Engine) : (s.onEng k g).crossing f = s.crossing f := rfl
@[simp] theorem State.onEngines_crossing (g : Engine → Engine) : (s.onEngines g).crossing f = s.crossing f := rfl
@[simp] theorem State.setJob_crossing (j : Nat) (b : Job) : (s.setJob j b).crossing f = s.crossing f := rfl
@[simp] theorem State.dropJob_crossing (j : Nat) : (s.dropJob j).crossing f = s.crossing f := rfl
@[simp] theorem State.onJobs_crossing (g : Job → Job) : (s.onJobs g).crossing f = s.crossing f := rfl
@[simp] theorem State.setPair_crossing (q : Nat) (p : QPair) : (s.setPair q p).crossing f = s.crossing f := rfl
@[simp] theorem State.onPair_crossing (q : Nat) (g : QPair → QPair) : (s.onPair q g).crossing f = s.crossing f := rfl
@[simp] theorem State.emit_crossing (o : Output) : (s.emit o).crossing f = s.crossing f := rfl
@[simp] theorem State.writeN6_crossing (x : Store) : (s.writeN6 x).crossing f = s.crossing f := rfl
@[simp] theorem State.setShadow_crossing (off v : Nat) : (s.setShadow off v).crossing f = s.crossing f := rfl
@[simp] theorem State.setInst_crossing (n : Nat) (x : Instance) : (s.setInst n x).crossing f = s.crossing f := rfl
@[simp] theorem State.setSource_crossing (i : Nat) (x : NoiseSource) : (s.setSource i x).crossing f = s.crossing f := rfl
@[simp] theorem State.setDomain_crossing (d : Nat) (x : DomainState) : (s.setDomain d x).crossing f = s.crossing f := rfl
@[simp] theorem State.onCluster_crossing (k : Nat) (g : Cluster → Cluster) : (s.onCluster k g).crossing f = s.crossing f := rfl
@[simp] theorem State.clearDomain_crossing (d : Nat) : (s.clearDomain d).crossing f = s.crossing f := rfl
@[simp] theorem State.nextEpoch_crossing : s.nextEpoch.crossing f = s.crossing f := rfl
@[simp] theorem State.applyStreams_crossing : s.applyStreams.crossing f = s.crossing f := rfl
@[simp] theorem State.dropFrames_crossing (i : Nat) : (s.dropFrames i).crossing f = s.crossing f := rfl
@[simp] theorem State.storeNodes_crossing (n : Tab Node) (t : List Trust) : (s.storeNodes n t).crossing f = s.crossing f := rfl
@[simp] theorem State.unpinAll_crossing : s.unpinAll.crossing f = s.crossing f := rfl
@[simp] theorem State.recordLoad_crossing (b : Job) : (s.recordLoad b).crossing f = s.crossing f := rfl
@[simp] theorem State.takeSlot_crossing (n : Nat) (x : Slot) : (s.takeSlot n x).crossing f = s.crossing f := rfl
@[simp] theorem State.applyPort_crossing (w : Nat → Nat) : (s.applyPort w).crossing f = s.crossing f := rfl
@[simp] theorem State.countMp_crossing : s.countMp.crossing f = s.crossing f := rfl

@[simp] theorem State.onJob_crossing (j : Nat) (g : Job → Job) : (s.onJob j g).crossing f = s.crossing f := by
  unfold State.onJob
  split <;> rfl

@[simp] theorem State.endJob_crossing (j : Nat) (e : Ending) : (s.endJob j e).crossing f = s.crossing f :=
  s.onJob_crossing f j _

@[simp] theorem State.failJob_crossing (j st : Nat) : (s.failJob j st).crossing f = s.crossing f :=
  s.endJob_crossing f j _

@[simp] theorem State.chargeScratch_crossing (n p m : Nat) : (s.chargeScratch n p m).crossing f = s.crossing f := by
  unfold State.chargeScratch
  dsimp only
  split <;> rfl

@[simp] theorem State.dropContext_crossing (j : Nat) : (s.dropContext j).crossing f = s.crossing f := by
  unfold State.dropContext
  repeat' split
  · rfl
  · rfl
  · dsimp only
    split <;> simp

@[simp] theorem State.dropEntries_crossing (k : Nat) (gone : CacheEntry → Bool) :
    (s.dropEntries k gone).crossing f = s.crossing f := by
  unfold State.dropEntries
  dsimp only
  repeat' split
  all_goals rfl

@[simp] theorem State.setVersion_crossing (src : Source) (n : Nat) (v : Nat × Nat) :
    (s.setVersion src n v).crossing f = s.crossing f := by
  unfold State.setVersion
  split <;> rfl

@[simp] theorem State.addJob_crossing (b : Job) : (s.addJob b).2.crossing f = s.crossing f := by
  unfold State.addJob
  dsimp only
  split <;> rfl

/-! ### Queue traffic and the ready bits -/

@[simp] theorem State.mirror_crossing (q : Nat) : (s.mirror q).crossing f = s.crossing f :=
  ((QueueTraffic.refl s).mirror q).crossing f

@[simp] theorem State.moderate_crossing (q : Nat) : (s.moderate q).crossing f = s.crossing f :=
  ((QueueTraffic.refl s).moderate q).crossing f

@[simp] theorem State.postEvent_crossing (n c : Nat) (q : Option Nat) (i j : Nat) :
    (s.postEvent n c q i j).crossing f = s.crossing f :=
  ((QueueTraffic.refl s).postEvent n c q i j).crossing f

@[simp] theorem State.checkStall_crossing (q : Nat) : (s.checkStall q).crossing f = s.crossing f :=
  ((QueueTraffic.refl s).checkStall q).crossing f

@[simp] theorem State.checkIdle_crossing (q : Nat) : (s.checkIdle q).crossing f = s.crossing f :=
  ((QueueTraffic.refl s).checkIdle q).crossing f

@[simp] theorem State.placeCompletion_crossing (q : Nat) (body : Bytes) : (s.placeCompletion q body).crossing f = s.crossing f :=
  ((QueueTraffic.refl s).placeCompletion q body).crossing f

@[simp] theorem State.mirrorIf_crossing (q before : Nat) : (s.mirrorIf q before).crossing f = s.crossing f := by
  unfold State.mirrorIf
  split <;> simp

theorem QueueTraffic.useSpace {r s : State} (h : QueueTraffic r s) (q : Nat) : QueueTraffic r (s.useSpace q) := by
  unfold State.useSpace
  extract_lets tail s1 s2 s3
  have h1 : QueueTraffic r s1 := QueueTraffic.flushHold q 16 h
  have h2 : QueueTraffic r s2 := by
    dsimp only [s2]
    split
    · exact h1.postLost q
    · exact h1
  have h3 : QueueTraffic r s3 := by
    dsimp only [s3]
    split
    · exact QueueTraffic.flushCopies q 4096 h2
    · exact h2
  split
  · exact h3
  · exact (h3.mirror q).moderate q

@[simp] theorem State.enablePair_crossing (q : Nat) : (s.enablePair q).crossing f = s.crossing f := by
  unfold State.enablePair
  extract_lets p c fresh new s1 s2
  have h1 : s1.crossing f = s.crossing f := by
    dsimp only [s1]
    split <;> rfl
  exact ((((QueueTraffic.refl s2).mirror q).useSpace q).crossing f).trans h1

@[simp] theorem State.setReadyBits_crossing (v : BitVec 24) : (s.setReadyBits v).crossing f = s.crossing f := by
  obtain ⟨_, _, h⟩ := s.setReadyBits_traffic v
  exact h.crossing f

@[simp] theorem State.setReady_crossing (i : Nat) (b : Bool) : (s.setReady i b).crossing f = s.crossing f :=
  s.setReadyBits_crossing f _

/-! ### Completions -/

@[simp] theorem State.withDetail_crossing (b : Job) (e : Ending) : (s.withDetail b e).2.crossing f = s.crossing f := by
  unfold State.withDetail
  split <;> rfl

@[simp] theorem State.sendReply_crossing (b : Job) (e : Ending) (p : Bytes) : (s.sendReply b e p).crossing f = s.crossing f := by
  unfold State.sendReply
  extract_lets s1
  have h1 : s1.crossing f = s.crossing f := by
    dsimp only [s1]
    split <;> rfl
  split
  · rw [State.setVersion_crossing, h1]
  · exact h1

@[simp] theorem State.queueCompletion_crossing (q : Nat) (b : Job) (e : Ending) :
    (s.queueCompletion q b e).crossing f = s.crossing f := by
  unfold State.queueCompletion
  extract_lets rs s1 s2 body s3
  have h1 : s1.crossing f = s.crossing f := by
    dsimp only [s1]
    split <;> rfl
  have h2 : s2.crossing f = s1.crossing f := by
    dsimp only [s2]
    split <;> rfl
  have h3 : s3.crossing f = s2.crossing f := by
    dsimp only [s3]
    split <;> rfl
  simp [h1, h2, h3]

@[simp] theorem State.subtreeLeft_crossing (b : Job) (t : MpTask) (n st : Nat) :
    (s.subtreeLeft b t n st).crossing f = s.crossing f := by
  unfold State.subtreeLeft
  extract_lets s1 left
  have h1 : s1.crossing f = s.crossing f := by
    dsimp only [s1]
    split <;> simp
  split
  · exact h1
  · exact h1

@[simp] theorem State.taskLeft_crossing (b : Job) (e : Ending) : (s.taskLeft b e).crossing f = s.crossing f := by
  unfold State.taskLeft
  split
  · rfl
  · split <;> simp

@[simp] theorem State.writeCompletion_crossing (j : Nat) : (s.writeCompletion j).crossing f = s.crossing f := by
  unfold State.writeCompletion
  split
  · rfl
  · split
    · rfl
    · extract_lets b s0
      have h0 : s0.crossing f = s.crossing f := s.dropJob_crossing f j
      split
      · split <;> simp [h0]
      · split
        · split <;> simp [h0]
        · simp [h0]
        · simp [h0]
        · simp [h0]

@[simp] theorem State.finish_crossing (j : Nat) : (s.finish j).crossing f = s.crossing f := by
  unfold State.finish
  dsimp only
  split
  · exact s.writeCompletion_crossing f j
  · exact s.writeCompletion_crossing f j

@[simp] theorem State.abortJob_crossing (j : Nat) : (s.abortJob j).crossing f = s.crossing f := by
  unfold State.abortJob
  split
  · rfl
  · dsimp only
    split <;> simp

@[simp] theorem State.disablePair_crossing (q : Nat) : (s.disablePair q).crossing f = s.crossing f := by
  unfold State.disablePair
  dsimp only
  split
  · rfl
  · simp

end

end Sys2Proof.Machine
end

section
/-! The boundary: what the start of a crossing makes of the time, the values taken, the rate and the engines. -/

namespace Sys2Proof.Machine

/-! ### What the start of a crossing sends to the partner -/

/-- Between `s` and `t` only the pairing went on: its records and frames, and the end of a command of it. -/
def PairingTraffic (s t : State) : Prop := t = { s with tw := t.tw, outbox := t.outbox, free := t.free, jobs := t.jobs }

section
variable {r s t : State}

theorem PairingTraffic.refl (s : State) : PairingTraffic s s := rfl

theorem PairingTraffic.trans (h : PairingTraffic r s) (g : PairingTraffic s t) : PairingTraffic r t := by
  unfold PairingTraffic at h g ⊢
  rw [h] at g
  exact g

theorem PairingTraffic.foldl {α : Type} {f : State → α → State} (hf : ∀ s a, PairingTraffic s (f s a)) :
    ∀ (l : List α) (s : State), PairingTraffic s (l.foldl f s)
  | [], s => PairingTraffic.refl s
  | a :: l, s => (hf s a).trans (PairingTraffic.foldl hf l _)

theorem PairingTraffic.engines (h : PairingTraffic s t) : t.engines = s.engines := by rw [h]
theorem PairingTraffic.xs (h : PairingTraffic s t) : t.xs = s.xs := by rw [h]

theorem PairingTraffic.crossing {β : Type} (f : Option Nat → Tab Reg → Tab Reg → β) (h : PairingTraffic s t) :
    t.crossing f = s.crossing f := by
  rw [h]
  rfl

theorem pairingTraffic_onJob (s : State) (j : Nat) (g : Job → Job) : PairingTraffic s (s.onJob j g) := by
  unfold State.onJob
  split <;> rfl

theorem pairingTraffic_sendFrame (s : State) (p : TwinPath) (kind mseq : Nat) (body : Bytes) :
    PairingTraffic s (s.sendFrame p kind mseq body) := rfl

theorem pairingTraffic_sendOnPaths (s : State) (kind mseq : Nat) (body : Bytes) :
    PairingTraffic s (s.sendOnPaths kind mseq body) :=
  .foldl (fun s p => pairingTraffic_sendFrame s p kind mseq body) _ s

theorem pairingTraffic_sendRecord (s : State) (kind : Nat) (body : Bytes) (job : Option Nat) :
    PairingTraffic s (s.sendRecord kind body job) := by
  unfold State.sendRecord
  extract_lets n go x tw s1
  have h1 : PairingTraffic s s1 := rfl
  split
  · exact h1.trans (pairingTraffic_sendOnPaths s1 kind n body)
  · exact h1

theorem pairingTraffic_endCastle (s : State) (st : Nat) : PairingTraffic s (s.endCastle st) := by
  unfold State.endCastle
  split
  · exact .refl s
  · extract_lets tw s1
    have h1 : PairingTraffic s s1 := rfl
    split
    · exact h1
    · split
      · exact (h1.trans (pairingTraffic_onJob s1 _ _)).trans (pairingTraffic_onJob _ _ _)
      · exact h1.trans (pairingTraffic_onJob s1 _ _)

theorem pairingTraffic_castleStep (s : State) : PairingTraffic s s.castleStep := by
  unfold State.castleStep
  split
  · exact .refl s
  · split
    · exact .refl s
    · exact (pairingTraffic_sendRecord s _ _ _).trans rfl

theorem pairingTraffic_castleTick (s : State) : PairingTraffic s s.castleTick := by
  unfold State.castleTick
  extract_lets late s1
  have h1 : PairingTraffic s s1 := by
    dsimp only [s1]
    split
    · exact pairingTraffic_endCastle s _
    · exact .refl s
  split
  · exact h1.trans rfl
  · exact h1.trans (pairingTraffic_castleStep s1)

theorem pairingTraffic_sendHeartbeats (s : State) : PairingTraffic s s.sendHeartbeats := by
  unfold State.sendHeartbeats
  split
  · exact .refl s
  · exact .foldl (fun s p => pairingTraffic_sendFrame s p 1 _ _) _ s

theorem pairingTraffic_sendHello (s : State) : PairingTraffic s s.sendHello := by
  unfold State.sendHello
  split
  · exact .refl s
  · extract_lets d h u tw s1
    have hu : PairingTraffic s u := by
      dsimp only [u]
      split <;> rfl
    have h1 : PairingTraffic u s1 := rfl
    exact (hu.trans h1).trans (pairingTraffic_sendOnPaths s1 _ _ _)

theorem pairingTraffic_helloTick (s : State) : PairingTraffic s s.helloTick := by
  unfold State.helloTick
  split
  · exact .refl s
  · split
    · split
      · exact pairingTraffic_sendHello s
      · exact .refl s
    · split
      · exact PairingTraffic.trans (s := { s with tw := { s.tw with hs := some _ } }) rfl (pairingTraffic_sendHello _)
      · exact .refl s

end

/-! ### A manifest becomes active -/

section
variable {β : Type} (f : Option Nat → Tab Reg → Tab Reg → β) (s : State)

@[simp] theorem State.placeEntry_crossing (k : Nat) (c : CacheEntry) : (s.placeEntry k c).crossing f = s.crossing f := by
  unfold State.placeEntry
  dsimp only
  split
  · rfl
  · simp

@[simp] theorem State.pinBerth_crossing (w : Berth) : (s.pinBerth w).crossing f = s.crossing f := by
  unfold State.pinBerth
  split
  · rfl
  · dsimp only
    split
    · rfl
    · exact crossing_foldl f (fun s i => by simp) _ s

@[simp] theorem State.activate_crossing (m : Manifest) : (s.activate m).crossing f = s.crossing f := by
  unfold State.activate
  extract_lets was s1 xs s2 n6 s3 now tr s4
  have h1 : s1.crossing f = s.crossing f := (s.unpinAll.onEngines_crossing f _).trans (s.unpinAll_crossing f)
  have h2 : s2.crossing f = s1.crossing f := rfl
  have h3 : s3.crossing f = s2.crossing f := s2.writeN6_crossing f _
  have h4 : s4.crossing f = s3.crossing f := rfl
  have h5 := crossing_foldl f (fun s w => s.pinBerth_crossing f w) (m.berths.filter fun w => w.kind == 2) s4
  exact h5.trans (h4.trans (h3.trans (h2.trans h1)))

end

/-! ### The values taken -/

/-- Taking values changes the active registers alone. -/
theorem foldl_setReg_eq (l : Tab Reg) : ∀ s : State,
    ∃ regs, l.foldl (fun (s : State) e => s.setReg e.1 e.2.toNat) s = { s with regs := regs } := by
  induction l with
  | nil => exact fun s => ⟨s.regs, rfl⟩
  | cons e l ih =>
    intro s
    obtain ⟨regs, h⟩ := ih (s.setReg e.1 e.2.toNat)
    exact ⟨regs, h⟩

theorem reg_foldl_setReg_other {o : Nat} (l : Tab Reg) (h : tget l o = none) : ∀ s : State,
    (l.foldl (fun (s : State) e => s.setReg e.1 e.2.toNat) s).reg o = s.reg o := by
  induction l with
  | nil => exact fun _ => rfl
  | cons e l ih =>
    intro s
    unfold tget at h
    split at h
    · exact nomatch h
    · rename_i hk
      exact (ih h _).trans (State.reg_setReg_other s _ (Ne.symm hk))

/-- No key of a rising table lies at or below that of an entry before it. -/
theorem tget_tail_of_rising {α : Type} {k : Nat} {v : α} {l : Tab α} (h : Tab.rising ((k, v) :: l) = true) :
    tget l k = none := by
  rw [rising_iff, List.map_cons, List.pairwise_cons] at h
  cases hl : tget l k with
  | none => rfl
  | some w => exact absurd (h.1 k (List.mem_map.mpr ⟨(k, w), mem_of_tget hl, rfl⟩)) (Nat.lt_irrefl k)

theorem rising_tail {α : Type} {e : Nat × α} {l : Tab α} (h : Tab.rising (e :: l) = true) : Tab.rising l = true := by
  rw [rising_iff, List.map_cons] at h
  exact (rising_iff l).mpr h.of_cons

theorem reg_foldl_setReg_same {o : Nat} {v : Reg} (l : Tab Reg) (hr : Tab.rising l = true) (h : tget l o = some v) :
    ∀ s : State, (l.foldl (fun (s : State) e => s.setReg e.1 e.2.toNat) s).reg o = v.toNat := by
  induction l with
  | nil => exact nomatch h
  | cons e l ih =>
    intro s
    unfold tget at h
    split at h
    · rename_i hk
      obtain rfl : e.2 = v := Option.some.inj h
      have hn := tget_tail_of_rising (k := e.1) (v := e.2) hr
      rw [← hk]
      refine (reg_foldl_setReg_other l hn _).trans ?_
      rw [State.reg_setReg_same]
      exact Nat.mod_eq_of_lt e.2.isLt
    · exact ih (rising_tail hr) h _

/-- What the guard took is active, and nothing else changed. -/
theorem State.takeValues_eq (s : State) : ∃ regs, s.takeValues = { s with cfg := { s.cfg with taken := [] }, regs := regs } :=
  foldl_setReg_eq s.cfg.taken { s with cfg := { s.cfg with taken := [] } }

theorem State.reg_takeValues_other {s : State} {o : Nat} (h : tget s.cfg.taken o = none) : s.takeValues.reg o = s.reg o :=
  reg_foldl_setReg_other s.cfg.taken h _

theorem State.reg_takeValues_same {s : State} {o : Nat} {v : Reg} (hr : Tab.rising s.cfg.taken = true)
    (h : tget s.cfg.taken o = some v) : s.takeValues.reg o = v.toNat :=
  reg_foldl_setReg_same s.cfg.taken hr h _

/-! ### The rate (R59) -/

/-- The rate `r` is in force. -/
def State.withRate (s : State) (r : Nat) : State :=
  { (s.setReg aXS_RATE r) with tb := { s.tb with rate := r, pendingRate := none } }

/-- A pending rate takes over in crossing 0 of a second, with the manifest that waits for it. -/
theorem State.takeRate_rated {β : Type} (f : Option Nat → Tab Reg → Tab Reg → β) {s : State} {r : Nat}
    (hr : s.tb.pendingRate = some r) (hi : s.tb.stamp.idx = 0) : s.takeRate.crossing f = (s.withRate r).crossing f := by
  unfold State.takeRate
  rw [hr]
  dsimp -zeta only
  rw [if_neg (not_not.mpr hi)]
  extract_lets regs tb s1 job s2
  have h1 : s1.crossing f = (s.withRate r).crossing f := rfl
  have h2 : s2.crossing f = s1.crossing f := by
    dsimp only [s2]
    split
    · exact s1.activate_crossing f _
    · rfl
  split
  · exact h1
  · clear_value job
    cases job with
    | none => exact h2.trans h1
    | some j => exact (s2.endJob_crossing f j _).trans (h2.trans h1)

theorem State.takeRate_unrated {s : State} (h : ¬(s.tb.pendingRate.isSome = true ∧ s.tb.stamp.idx = 0)) : s.takeRate = s := by
  unfold State.takeRate
  split
  · rfl
  · rename_i r hr
    exact if_pos fun hi => h ⟨by rw [hr]; rfl, hi⟩

/-! ### The start of a crossing (R27, R59, R103) -/

/-- The values of a crossing are in force: its time, what the guard took, and its rate. -/
def State.stepped (s : State) : State := s.advanceTime.takeValues.takeRate

/-- No contained engine stays out of service, unless it is held (R594, R596). -/
theorem oos_onEngines (s : State) {k : Nat}
    (h : ((s.onEngines fun e => if e.held then e else { e with oos := false }).eng k).oos = true) :
    ((s.onEngines fun e => if e.held then e else { e with oos := false }).eng k).held = true := by
  revert h
  unfold State.eng State.onEngines tgetD
  dsimp only
  cases ht : tget ((s.engines.map fun e => (e.1, if e.2.held then e.2 else { e.2 with oos := false })).filter
      fun e => e.2 != {}) k with
  | none => exact fun h => nomatch h
  | some e =>
    obtain ⟨x, -, hx⟩ := List.mem_map.mp (List.mem_filter.mp (mem_of_tget ht)).1
    obtain rfl := (Prod.mk.inj hx).2
    dsimp only [Option.getD]
    split
    · rename_i hh
      exact fun _ => hh
    · exact fun h => nomatch h

theorem State.withRuns_crossing {β : Type} (f : Option Nat → Tab Reg → Tab Reg → β) (s : State) (runs : Tab BerthRun) :
    ({ s with xs := { s.xs with runs := runs } } : State).crossing f = s.crossing f := rfl

/-- After its values, the start of a crossing sets pairs and engines going, clears the berths' runs, and sends what is due. -/
theorem State.startCrossing_after (s : State) : ∃ u : State, PairingTraffic u s.startCrossing ∧
    (∀ {β : Type} (f : Option Nat → Tab Reg → Tab Reg → β), u.crossing f = s.stepped.crossing f) ∧ u.xs.runs = [] ∧
    ∀ k, (u.eng k).oos = true → (u.eng k).held = true := by
  unfold State.startCrossing
  extract_lets s1 s2 s3 xs s4 s5 s6
  have h6 : s6.engines = s3.engines ∧ s6.xs.runs = [] := by
    dsimp only [s6]
    split <;> exact ⟨rfl, rfl⟩
  refine ⟨s6, ?_, fun f => ?_, h6.2, fun k h => ?_⟩
  · exact ((pairingTraffic_castleTick s6).trans (pairingTraffic_sendHeartbeats _)).trans (pairingTraffic_helloTick _)
  · have h2 : s2.crossing f = s1.crossing f := crossing_foldl f (fun s q => s.enablePair_crossing f q) _ s1
    have h3 : s3.crossing f = s2.crossing f := s2.onEngines_crossing f _
    have h4 : s4.crossing f = s3.crossing f := s3.withRuns_crossing f []
    have h5 : s5.crossing f = s4.crossing f := s4.countMp_crossing f
    have h6 : s6.crossing f = s5.crossing f := by
      dsimp only [s6]
      split
      · exact s5.emit_crossing f _
      · rfl
    exact h6.trans (h5.trans (h4.trans (h3.trans h2)))
  · have he : s6.eng k = s3.eng k := congrArg (fun t => tgetD t k ({} : Engine)) h6.1
    rw [he] at h ⊢
    exact oos_onEngines s2 h

/-! ### What a boundary leaves -/

/-- What is read of a crossing in full: its pending rate, the values taken, and the active registers. -/
def wholeRest (rate : Option Nat) (taken regs : Tab Reg) : Option Nat × Tab Reg × Tab Reg := (rate, taken, regs)

section
variable {s t : State}

theorem tb_of_crossing (h : t.crossing wholeRest = s.crossing wholeRest) : t.tb = s.tb := by
  have h1 : ({ t.tb with pendingRate := none } : Timebase) = { s.tb with pendingRate := none } := congrArg CrossingView.tb h
  have h2 : t.tb.pendingRate = s.tb.pendingRate := congrArg (fun v => v.rest.1) h
  calc t.tb = { ({ t.tb with pendingRate := none } : Timebase) with pendingRate := t.tb.pendingRate } := rfl
    _ = { ({ s.tb with pendingRate := none } : Timebase) with pendingRate := s.tb.pendingRate } := by rw [h1, h2]

theorem taken_of_crossing (h : t.crossing wholeRest = s.crossing wholeRest) : t.cfg.taken = s.cfg.taken :=
  congrArg (fun v => v.rest.2.1) h

theorem regs_of_crossing (h : t.crossing wholeRest = s.crossing wholeRest) : t.regs = s.regs :=
  congrArg (fun v => v.rest.2.2) h

theorem reg_of_crossing (h : t.crossing wholeRest = s.crossing wholeRest) (o : Nat) : t.reg o = s.reg o := by
  unfold State.reg
  rw [regs_of_crossing h]

end

/-- What a crossing has at its start, the `n`th since power-up. -/
def CrossingBegun (n : Nat) (t : State) : Prop :=
  t.tb.ns = 0 ∧ t.tb.inGuard = false ∧ t.tb.crossings = n ∧ t.tb.stretched = none ∧ t.tb.extra = 0 ∧ t.xs.runs = [] ∧
    ∀ k, (t.eng k).oos = true → (t.eng k).held = true

/-- What the start of a crossing keeps of its values, its berths and its engines. -/
theorem State.startCrossing_crossing (s : State) : s.startCrossing.crossing wholeRest = s.stepped.crossing wholeRest := by
  obtain ⟨u, hu, hc, -⟩ := s.startCrossing_after
  exact (hu.crossing wholeRest).trans (hc wholeRest)

/-- The values of the next crossing, the rate not yet changed. -/
theorem State.takeValues_advanceTime (s : State) :
    ∃ regs, s.advanceTime.takeValues = { s.advanceTime with cfg := { s.cfg with taken := [] }, regs := regs } :=
  s.advanceTime.takeValues_eq

/-- What a rate may change of the timebase: the rate and the pending rate alone. -/
theorem State.stepped_crossing (s : State) : ∃ u : State,
    s.stepped.crossing wholeRest = u.crossing wholeRest ∧
    (s.tb.pendingRate.isSome = true ∧ s.nextStamp.idx = 0 →
      ∃ r, s.tb.pendingRate = some r ∧ u = s.advanceTime.takeValues.withRate r) ∧
    (¬(s.tb.pendingRate.isSome = true ∧ s.nextStamp.idx = 0) → u = s.advanceTime.takeValues) := by
  obtain ⟨regs, hv⟩ := s.takeValues_advanceTime
  have htb : s.advanceTime.takeValues.tb = s.advanceTime.tb := by rw [hv]
  by_cases h : s.tb.pendingRate.isSome = true ∧ s.nextStamp.idx = 0
  · obtain ⟨r, hr⟩ := Option.isSome_iff_exists.mp h.1
    refine ⟨s.advanceTime.takeValues.withRate r, ?_, fun _ => ⟨r, hr, rfl⟩, fun hn => absurd h hn⟩
    exact State.takeRate_rated wholeRest (by rw [htb]; exact hr) (by rw [htb]; exact h.2)
  · refine ⟨s.advanceTime.takeValues, ?_, fun hy => absurd hy h, fun _ => rfl⟩
    exact congrArg _ (State.takeRate_unrated (by rw [htb]; exact h))

/-- A crossing begins. -/
theorem State.startCrossing_begun (s : State) : CrossingBegun (s.tb.crossings + 1) s.startCrossing := by
  obtain ⟨u, hu, -, hruns, hoos⟩ := s.startCrossing_after
  obtain ⟨v, hv, hy, hn⟩ := s.stepped_crossing
  have htb : s.startCrossing.tb = v.tb := tb_of_crossing (s.startCrossing_crossing.trans hv)
  obtain ⟨regs, ha⟩ := s.takeValues_advanceTime
  have h5 : v.tb.ns = 0 ∧ v.tb.inGuard = false ∧ v.tb.crossings = s.tb.crossings + 1 ∧ v.tb.stretched = none ∧ v.tb.extra = 0 := by
    by_cases h : s.tb.pendingRate.isSome = true ∧ s.nextStamp.idx = 0
    · obtain ⟨r, -, rfl⟩ := hy h
      rw [ha]
      exact ⟨rfl, rfl, rfl, rfl, rfl⟩
    · rw [hn h, ha]
      exact ⟨rfl, rfl, rfl, rfl, rfl⟩
  obtain ⟨h1, h2, h3, h4, h5⟩ := h5
  refine ⟨by rw [htb, h1], by rw [htb, h2], by rw [htb, h3], by rw [htb, h4], by rw [htb, h5], by rw [hu.xs, hruns], fun k => ?_⟩
  unfold State.eng
  rw [hu.engines]
  exact hoos k

/-- How a boundary that ends a guard leaves the stamp, the registers and the rate. -/
def CrossingPassed (s t : State) : Prop :=
  t.tb.stamp = s.nextStamp ∧ t.cfg.taken = [] ∧
    (Tab.rising s.cfg.taken = true → ∀ o v, tget s.cfg.taken o = some v → o ≠ aXS_RATE → t.reg o = v.toNat) ∧
    (∀ o, tget s.cfg.taken o = none → o ≠ aXS_RATE → t.reg o = s.reg o) ∧
    (s.tb.pendingRate.isSome = true ∧ s.nextStamp.idx = 0 → ∀ r, s.tb.pendingRate = some r →
      t.tb.rate = r ∧ t.tb.pendingRate = none ∧ t.reg aXS_RATE = r % 2 ^ 32) ∧
    (¬(s.tb.pendingRate.isSome = true ∧ s.nextStamp.idx = 0) → t.tb.rate = s.tb.rate ∧ t.tb.pendingRate = s.tb.pendingRate)

theorem State.startCrossing_passed (s : State) : CrossingPassed s s.startCrossing := by
  obtain ⟨v, hv, hy, hn⟩ := s.stepped_crossing
  have hc := s.startCrossing_crossing.trans hv
  have htb : s.startCrossing.tb = v.tb := tb_of_crossing hc
  obtain ⟨regs, ha⟩ := s.takeValues_advanceTime
  have hval : v.tb.stamp = s.nextStamp ∧ v.cfg.taken = [] ∧ ∀ o, o ≠ aXS_RATE → v.reg o = s.advanceTime.takeValues.reg o := by
    by_cases h : s.tb.pendingRate.isSome = true ∧ s.nextStamp.idx = 0
    · obtain ⟨r, -, rfl⟩ := hy h
      refine ⟨?_, ?_, fun o ho => State.reg_setReg_other _ _ ho⟩
      · rw [ha]; rfl
      · rw [ha]; rfl
    · rw [hn h]
      refine ⟨?_, ?_, fun o _ => rfl⟩
      · rw [ha]; rfl
      · rw [ha]
  obtain ⟨hstamp, htaken, hreg⟩ := hval
  refine ⟨by rw [htb, hstamp], (taken_of_crossing hc).trans htaken, fun hr o x ho hne => ?_, fun o ho hne => ?_, fun h r hr => ?_, fun h => ?_⟩
  · exact ((reg_of_crossing hc o).trans (hreg o hne)).trans (State.reg_takeValues_same hr ho)
  · exact ((reg_of_crossing hc o).trans (hreg o hne)).trans (State.reg_takeValues_other ho)
  · obtain ⟨r', hr', rfl⟩ := hy h
    obtain rfl : r = r' := Option.some.inj (hr.symm.trans hr')
    refine ⟨by rw [htb]; rfl, by rw [htb]; rfl, (reg_of_crossing hc aXS_RATE).trans ?_⟩
    exact State.reg_setReg_same _ _ _
  · rw [htb, hn h, ha]
    exact ⟨rfl, rfl⟩

end Sys2Proof.Machine
end

section
/-! The guard: what it refuses, what it applies, and what it leaves of the crossing. -/

namespace Sys2Proof.Machine

section
variable {β : Type} (f : Option Nat → Tab Reg → Tab Reg → β) (s : State)

/-! ### Faults that end nothing, and the ready bits that come due (R453, R636 to R639) -/

theorem State.raise_crossing {m : FaultMsg} (hc : kindClass m.kind m.fatal = some 1)
    (hd : ∀ t : State, t.countDcm m.kind = t) (he : engOfSource m.source = none) : (s.raise m).crossing f = s.crossing f := by
  obtain ⟨fc, h, hm⟩ := s.raise_told hc hd he
  rw [h.crossing f]
  unfold State.crossing
  dsimp only
  rw [hm]

theorem State.withKs_crossing (ks : KeyStore) : ({ s with ks := ks } : State).crossing f = s.crossing f := rfl

@[simp] theorem State.scanNodes_crossing : s.scanNodes.crossing f = s.crossing f := by
  unfold State.scanNodes
  extract_lets bad s1 s2
  have h1 : s1.crossing f = s.crossing f :=
    crossing_foldl f (fun s e => (State.raise_crossing f _ rfl (fun t => show t.countDcm 0x06 = t from if_neg (by decide))
      (show engOfSource 0x610 = none by decide)).trans (s.bump_crossing f _ _)) bad s
  exact (s2.withKs_crossing f _).trans ((s1.storeNodes_crossing f _ _).trans h1)

@[simp] theorem State.keystoreUp_crossing : s.keystoreUp.crossing f = s.crossing f := by
  unfold State.keystoreUp
  split
  · rfl
  · extract_lets s1 a b u ks s2 ks'
    have h1 : s1.crossing f = s.crossing f := s.scanNodes_crossing f
    have h2 : s2.crossing f = b.2.crossing f := b.2.withKs_crossing f _
    have hb : b.2.crossing f = s1.crossing f := (a.2.drawBytes_crossing f 32).trans (s1.drawBytes_crossing f 32)
    exact (State.setReady_crossing f _ _ _).trans ((s2.withKs_crossing f _).trans (h2.trans (hb.trans h1)))

@[simp] theorem State.launchRebuild_crossing : s.launchRebuild.crossing f = s.crossing f := by
  unfold State.launchRebuild
  split
  · rfl
  · split
    · rfl
    · exact crossing_foldl f (fun s _ => s.addJob_crossing f _) _ _

@[simp] theorem State.startRebuilds_crossing : s.startRebuilds.crossing f = s.crossing f := by
  unfold State.startRebuilds
  split
  · rfl
  · exact State.launchRebuild_crossing f _

@[simp] theorem State.ddrUp_crossing : s.ddrUp.crossing f = s.crossing f := by
  unfold State.ddrUp
  split
  · rfl
  · dsimp only
    split <;> simp

@[simp] theorem State.pickSlot_crossing (lo hi : Nat) : (s.pickSlot lo hi).2.crossing f = s.crossing f := by
  unfold State.pickSlot
  dsimp only
  split <;> rfl

theorem State.createSlot_crossing {inst lo hi n : Nat} {x : Slot} {t : State} (h : s.createSlot inst lo hi x = .ok (n, t)) :
    t.crossing f = s.crossing f := by
  unfold State.createSlot at h
  split at h
  · exact nomatch h
  · split at h
    · rename_i m u hp
      obtain ⟨rfl, rfl⟩ := Prod.mk.inj (Except.ok.inj h)
      exact (u.takeSlot_crossing f _ _).trans ((congrArg (fun p => p.2.crossing f) hp).symm.trans (s.pickSlot_crossing f lo hi))
    · exact nomatch h

@[simp] theorem State.instantiateNode_crossing (n : Nat) : (s.instantiateNode n).2.crossing f = s.crossing f := by
  unfold State.instantiateNode
  split
  · rfl
  · split
    · rfl
    · split
      · rename_i h
        exact s.createSlot_crossing f h
      · rfl

@[simp] theorem State.restorePolicy_crossing (p : Nat) (pol : EventPolicy) (node second : Option Nat) :
    (s.restorePolicy p pol node second).crossing f = s.crossing f := by
  unfold State.restorePolicy
  extract_lets take a b tr
  have ht : ∀ (s : State) (n : Option Nat), (take s n).2.crossing f = s.crossing f := fun s n => by
    dsimp only [take]
    split
    · exact s.instantiateNode_crossing f _
    · rfl
  exact (ht a.2 second).trans (ht s node)

@[simp] theorem State.streamsUp_crossing : s.streamsUp.crossing f = s.crossing f := by
  unfold State.streamsUp
  split
  · rfl
  · dsimp only
    rw [State.setReady_crossing]
    exact crossing_foldl f (fun s e => s.restorePolicy_crossing f _ _ _ _) _ s

@[simp] theorem State.readyUp_crossing : s.readyUp.crossing f = s.crossing f := by
  unfold State.readyUp
  simp

@[simp] theorem State.endRestore_crossing (set : BitVec 16) : (s.endRestore set).crossing f = s.crossing f := by
  unfold State.endRestore
  split
  · rfl
  · exact State.readyUp_crossing f _

/-! ### A refused set (R106, R107) -/

@[simp] theorem State.undoLoad_crossing (b : Job) : (s.undoLoad b).crossing f = s.crossing f :=
  crossing_foldl f (fun s k => s.onCluster_crossing f k _) _ s

@[simp] theorem State.refuseJob_crossing (j : Nat) : (s.refuseJob j).crossing f = s.crossing f := by
  unfold State.refuseJob
  split
  · rfl
  · split <;> simp

/-- Staged configuration with a set refused. -/
def Staging.refuse (c : Staging) (set : BitVec 16) (info off : Nat) : Staging :=
  { c with
    pending := c.pending &&& ~~~set, byMp := c.byMp &&& ~~~set, refused := c.refused ||| set
    failInfo := info, failAddr := off
    shareFault := if set.getLsbD 8 then none else c.shareFault }

theorem State.refuseSet_crossing (set : BitVec 16) (g code off : Nat) : (s.refuseSet set g code off).crossing f =
    { s.crossing f with cfg := (s.crossing f).cfg.refuse set (256 * g + code) off } := by
  unfold State.refuseSet
  extract_lets s1 x xs info cfg s2
  have h1 : s1.crossing f = s.crossing f := crossing_foldl f (fun s j => s.refuseJob_crossing f j) _ s
  have hx : xs.stateMismatch = s1.xs.stateMismatch := by
    dsimp only [xs]
    split <;> rfl
  have h2 : s2.crossing f = { s1.crossing f with cfg := (s1.crossing f).cfg.refuse set info off } := by
    unfold State.crossing
    dsimp only [s2]
    rw [hx]
    rfl
  rw [State.postEvent_crossing, State.endRestore_crossing, h2, h1]

/-! ### Sets that wait (R105) -/

/-- A crossing with the requests left out: the pending groups, and the sets of the MP that wait. -/
def CrossingView.decided (v : CrossingView β) : CrossingView β :=
  { v with cfg := { v.cfg with pending := 0, byMp := 0 }, mpSets := [] }

theorem State.stageMp_decided (x : MpSet) : ((s.stageMp x).crossing f).decided = (s.crossing f).decided := by
  unfold State.stageMp
  extract_lets groups ws s1 cfg xs s2
  have h1 : s1.crossing f = s.crossing f := crossing_foldl f (fun s w => s.setShadow_crossing f _ _) ws s
  have h2 : (s2.crossing f).decided = (s1.crossing f).decided := rfl
  split
  · rw [State.onJob_crossing, h2, h1]
  · rw [h2, h1]

theorem State.requestSet_decided (x : MpSet) : ((s.requestSet x).crossing f).decided = (s.crossing f).decided := by
  unfold State.requestSet
  split
  · extract_lets s1
    have h1 : (s1.crossing f).decided = (s.crossing f).decided := rfl
    split
    · rw [State.onJob_crossing, h1]
    · exact h1
  · exact s.stageMp_decided f x

theorem foldl_requestSet_decided (l : List MpSet) : ∀ s : State,
    ((l.foldl State.requestSet s).crossing f).decided = (s.crossing f).decided := by
  induction l with
  | nil => exact fun _ => rfl
  | cons x l ih => exact fun s => (ih _).trans (s.requestSet_decided f x)

theorem State.wakeGroups_decided : (s.wakeGroups.crossing f).decided = (s.crossing f).decided := by
  unfold State.wakeGroups State.drainSets
  dsimp only
  rw [State.onJobs_crossing]
  exact foldl_requestSet_decided f s.mpSets { s with mpSets := [] }

theorem State.wakeGroups_crossing {s : State} (h : s.mpSets = []) : s.wakeGroups.crossing f = s.crossing f := by
  unfold State.wakeGroups State.drainSets
  rw [h]
  unfold State.crossing
  dsimp only [List.foldl, State.onJobs]
  rw [h]

/-! ### Requests of tenants (R156, R157) -/

@[simp] theorem State.refuseSetup_crossing (q : Nat) (e : GroupFail) : (s.refuseSetup q e).crossing f = s.crossing f := by
  unfold State.refuseSetup
  dsimp only
  simp

theorem State.decideRequests_crossing {decide : State → Nat → SetupRequest → State}
    (h : ∀ s q r, (decide s q r).crossing f = s.crossing f) : (s.decideRequests decide).crossing f = s.crossing f := by
  unfold State.decideRequests
  refine crossing_foldl f (fun s e => ?_) _ s
  dsimp only
  exact (crossing_foldl f (fun s r => h s e.1 r) _ _).trans (s.onPair_crossing f _ _)

end

end Sys2Proof.Machine
end

section
/-! What a guard applies: each group of a set, the command behind it, and the requests of tenants and instances. -/

namespace Sys2Proof.Machine

/-! ### The values taken below the queues -/

/-- What is read of a crossing in a guard: the values taken of the registers below the queues. -/
def belowQueues (_ : Option Nat) (taken _ : Tab Reg) (o : Nat) : Option Reg := if o < 0x100000 then tget taken o else none

theorem qReg_ge (q r : Nat) : 0x100000 ≤ qReg q r := by
  unfold qReg
  omega

section
variable (s : State)

/-- A value taken of a queue's register is none below the queues. -/
theorem State.take_crossing {off : Nat} (v : Nat) (h : 0x100000 ≤ off) :
    (s.take off v).crossing belowQueues = s.crossing belowQueues := by
  have hlow : belowQueues s.tb.pendingRate (tset s.cfg.taken off (BitVec.ofNat 32 v)) s.regs =
      belowQueues s.tb.pendingRate s.cfg.taken s.regs := by
    funext o
    unfold belowQueues
    split
    · exact tget_tset_other _ _ (by omega)
    · rfl
  unfold State.crossing
  rw [← hlow]
  rfl

@[simp] theorem State.turnOff_crossing (q : Nat) : (s.turnOff q).crossing belowQueues = s.crossing belowQueues :=
  (State.disablePair_crossing belowQueues _ q).trans (s.take_crossing _ (qReg_ge q aQ_CTL))

@[simp] theorem State.takeSetup_crossing (q : Nat) (regs : List Nat) :
    (s.takeSetup q regs).crossing belowQueues = s.crossing belowQueues :=
  crossing_foldl belowQueues (fun s r => s.take_crossing _ (qReg_ge q r)) regs s

/-! ### What each group does (R103) -/

@[simp] theorem State.applyRate_crossing : s.applyRate.crossing belowQueues = s.crossing belowQueues := rfl

end

section
variable {β : Type} (f : Option Nat → Tab Reg → Tab Reg → β) (s : State)

theorem State.withXs_crossing {x : Scheduler} (h : x.stateMismatch = s.xs.stateMismatch) :
    ({ s with xs := x } : State).crossing f = s.crossing f := by
  unfold State.crossing
  dsimp only
  rw [h]

@[simp] theorem State.applyManifest_crossing (set : BitVec 16) : (s.applyManifest set).crossing f = s.crossing f := by
  unfold State.applyManifest
  split
  · rfl
  · split
    · exact s.withXs_crossing f rfl
    · exact s.activate_crossing f _

@[simp] theorem State.applyQueue_crossing (set : BitVec 16) : (s.applyQueue set).crossing f = s.crossing f := by
  unfold State.applyQueue
  refine crossing_foldl f (fun s q => ?_) _ s
  dsimp only
  split
  · rfl
  · split
    · exact s.disablePair_crossing f q
    · rfl

@[simp] theorem State.callStandby_crossing : s.callStandby.crossing f = s.crossing f := by
  unfold State.callStandby
  split <;> rfl

@[simp] theorem State.switchSource_crossing (i cause : Nat) : (s.switchSource i cause).crossing f = s.crossing f := by
  unfold State.switchSource
  simp

@[simp] theorem State.checkLost_crossing : s.checkLost.crossing f = s.crossing f := by
  unfold State.checkLost
  split
  · extract_lets rng s1
    have h1 : s1.crossing f = s.crossing f := rfl
    rw [State.postEvent_crossing]
    exact (s1.raise_crossing f rfl (fun t => show t.countDcm 0x31 = t from if_neg (by decide))
      (show engOfSource 0x434 = none by decide)).trans h1
  · rfl

@[simp] theorem State.applySource_crossing (en i : Nat) : (s.applySource en i).crossing f = s.crossing f := by
  unfold State.applySource
  dsimp only
  split
  · rw [State.checkLost_crossing]
    split <;> simp
  · split <;> rfl

@[simp] theorem State.failWaiting_crossing (cls : Nat) : (s.failWaiting cls).crossing f = s.crossing f := by
  unfold State.failWaiting
  split
  · rfl
  · exact crossing_foldl f (fun s j => by simp) _ s

@[simp] theorem State.domainOff_crossing (d : Nat) : (s.domainOff d).crossing f = s.crossing f := by
  unfold State.domainOff
  extract_lets s1 classes s2 tr s3
  have h1 : s1.crossing f = s.crossing f := crossing_foldl f (fun s b => s.setReady_crossing f b false) _ s
  split
  · have h2 : (s1.setDomain d .draining).crossing f = s1.crossing f := s1.setDomain_crossing f d _
    have h3 := crossing_foldl f (fun s c => s.failWaiting_crossing f c) classes (s1.setDomain d .draining)
    exact h3.trans (h2.trans h1)
  · have h2 : s2.crossing f = s1.crossing f := crossing_foldl f
      (g := fun (s : State) (e : Nat × Nat) => s.dropFrames e.2) (fun s e => s.dropFrames_crossing f e.2) _ s1
    have h3 : s3.crossing f = s2.crossing f := by
      dsimp only [s3]
      split <;> rfl
    rw [State.setDomain_crossing, State.clearDomain_crossing, h3, h2, h1]

@[simp] theorem State.domainOn_crossing (d : Nat) : (s.domainOn d).crossing f = s.crossing f := by
  unfold State.domainOn
  split
  · rfl
  · refine (crossing_foldl f (fun s b => ?_) _ _).trans (s.setDomain_crossing f d _)
    split
    · exact s.setReady_crossing f b true
    · rfl
  · rfl

@[simp] theorem State.applyPower_crossing (w : Nat → Nat) : (s.applyPower w).crossing f = s.crossing f := by
  unfold State.applyPower
  extract_lets was s1
  have h1 : s1.crossing f = s.crossing f := by
    refine crossing_foldl f (fun s d => ?_) _ s
    split
    · exact s.domainOff_crossing f d
    · split
      · exact s.domainOn_crossing f d
      · rfl
  refine (crossing_foldl f (fun t c => ?_) _ s1).trans h1
  split <;> rfl

@[simp] theorem State.createInstance_crossing (n : Nat) : (s.createInstance n).crossing f = s.crossing f := rfl

@[simp] theorem State.activatePack_crossing (k : Nat) : (s.activatePack k).crossing f = s.crossing f := by
  unfold State.activatePack
  split <;> rfl

@[simp] theorem State.endQuiesce_crossing (n : Nat) (resume : Bool) (e : Ending) :
    (s.endQuiesce n resume e).crossing f = s.crossing f :=
  crossing_foldl f (fun s j => s.endJob_crossing f j e) _ s

@[simp] theorem State.bumpGeneration_crossing (n : Nat) : (s.bumpGeneration n).crossing f = s.crossing f := by
  unfold State.bumpGeneration
  dsimp only
  split <;> simp

end

section
variable (s : State)

@[simp] theorem State.applyMap_crossing (w : Nat → Nat) (n : Nat) :
    (s.applyMap w n).crossing belowQueues = s.crossing belowQueues := by
  unfold State.applyMap
  extract_lets old new gone s1
  have h1 : s1.crossing belowQueues = s.crossing belowQueues := crossing_foldl belowQueues
    (g := fun (s : State) (e : Nat × Nat) => (s.resetPair e.2).setPair e.2 {}) (fun _ _ => rfl) gone s
  refine (crossing_foldl belowQueues (fun s e => ?_) new s1).trans h1
  split <;> rfl

@[simp] theorem State.restoreInstances_crossing (w : Nat → Nat) :
    (s.restoreInstances w).crossing belowQueues = s.crossing belowQueues := by
  unfold State.restoreInstances State.restoreInstance
  split
  · exact crossing_foldl belowQueues (fun s n => by simp) _ s
  · rfl

/-- What a group of an applied set does leaves the crossing, a pending rate left out. -/
@[simp] theorem State.applyGroup_crossing (set : BitVec 16) (w : Nat → Nat) (g : Nat) :
    (s.applyGroup set w g).crossing belowQueues = s.crossing belowQueues := by
  unfold State.applyGroup
  split
  · exact s.applyRate_crossing
  · exact s.applyManifest_crossing belowQueues set
  · exact s.applyQueue_crossing belowQueues set
  · exact s.applyPort_crossing belowQueues w
  · exact s.restoreInstances_crossing w
  · exact crossing_foldl belowQueues (fun s i => s.applySource_crossing belowQueues _ i) _ s
  · exact s.applyPower_crossing belowQueues w
  · rfl

@[simp] theorem State.applyJob_crossing (w : Nat → Nat) (j : Nat) :
    (s.applyJob w j).crossing belowQueues = s.crossing belowQueues := by
  unfold State.applyJob
  split
  · rfl
  · rename_i b _
    dsimp only
    split
    · rw [State.endJob_crossing, State.recordLoad_crossing]
      exact crossing_foldl belowQueues (fun s k => s.activatePack_crossing belowQueues k) _ s
    · split
      · simp
      · split
        · simp
        · split
          · split <;> simp
          · simp

/-! ### An applied set (R103) -/

/-- Staged configuration with a set applied. -/
def Staging.apply (c : Staging) (set : BitVec 16) (stamp : Stamp) : Staging :=
  { c with pending := c.pending &&& ~~~set, byMp := c.byMp &&& ~~~set, seq := (c.seq + 1) % 2 ^ 32, appliedStamp := stamp }

theorem State.applySet_crossing (set : BitVec 16) : (s.applySet set).crossing belowQueues =
    let u := (s.takenOf set).foldl (fun s e => s.take e.1 e.2) s
    { u.crossing belowQueues with cfg := (u.crossing belowQueues).cfg.apply set u.tb.stamp } := by
  unfold State.applySet
  extract_lets w taken jobs u kept put n6 u1 u2 cfg u3
  have h1 : u1.crossing belowQueues = u.crossing belowQueues := by
    dsimp only [u1]
    split <;> rfl
  have h2 : u2.crossing belowQueues = u.crossing belowQueues :=
    (crossing_foldl belowQueues (fun s g => s.applyGroup_crossing set w g) _ u1).trans h1
  have hstamp : u2.tb.stamp = u.tb.stamp := congrArg (fun v => v.tb.stamp) h2
  have h3 : u3.crossing belowQueues = { u2.crossing belowQueues with cfg := (u2.crossing belowQueues).cfg.apply set u2.tb.stamp } :=
    rfl
  refine (crossing_foldl belowQueues (fun s j => s.applyJob_crossing w j) jobs _).trans ?_
  rw [State.endRestore_crossing, h3, h2, hstamp]

/-! ### Requests of tenants and instances -/

@[simp] theorem State.decideRequest_crossing (q : Nat) (r : SetupRequest) :
    (s.decideRequest q r).crossing belowQueues = s.crossing belowQueues := by
  unfold State.decideRequest
  dsimp only
  split
  · exact s.turnOff_crossing q
  · split <;> simp
  · split
    · simp
    · split <;> simp

@[simp] theorem State.instanceRequests_crossing (n : Nat) :
    (s.instanceRequests n).crossing belowQueues = s.crossing belowQueues := by
  unfold State.instanceRequests
  extract_lets x s1 y s2
  have h1 : s1.crossing belowQueues = s.crossing belowQueues := by
    dsimp only [s1]
    split
    · exact crossing_foldl belowQueues (fun s q => s.turnOff_crossing q) _ s
    · rfl
  split
  · simp [s2, h1]
  · exact h1

end

end Sys2Proof.Machine
end

section
/-! The guard as a whole, and the statement on guards and boundaries. -/

namespace Sys2Proof.Machine

/-! ### The guard begins (R71, R73, R199) -/

/-- The guard has begun, a pending step is taken, and nothing is decided yet. -/
def State.guardOpened (s : State) : State :=
  ({ (s.at_ (crossLen s.tb.rate s.tb.stamp.idx - 4000)).moderateCrossing with
    tb := { (s.at_ (crossLen s.tb.rate s.tb.stamp.idx - 4000)).moderateCrossing.tb with inGuard := true } } : State).takeStep

/-- What the beginning of a guard leaves as it was: what is staged, the jobs, and the count of crossings. -/
structure GuardOpened (s m : State) : Prop where
  cfg : m.cfg = s.cfg
  regs : m.regs = s.regs
  shadow : m.shadow = s.shadow
  mpSets : m.mpSets = s.mpSets
  jobs : m.jobs = s.jobs
  mstate : m.fc.mstate = s.fc.mstate
  stamp : m.tb.stamp = s.tb.stamp
  inGuard : m.tb.inGuard = true
  crossings : m.tb.crossings = s.tb.crossings

theorem QueueTraffic.moderateCrossing {r s : State} (h : QueueTraffic r s) : QueueTraffic r s.moderateCrossing :=
  QueueTraffic.foldl (fun _ q g => g.deliver q) _ h

theorem State.at_tb (s : State) (ns : Nat) : (s.at_ ns).tb = { s.tb with ns := s.tb.later ns } :=
  State.gangServe_leaves _ State.tb (fun t => t.gangStep_tb) _

theorem State.lockTime_traffic (s : State) : ∃ pw, QueueTraffic
    { s with tb := { s.tb with state := .locked, holdSeconds := 0 }, pw := pw } s.lockTime := by
  obtain ⟨_, _, h⟩ := State.setReady_traffic { s with tb := { s.tb with state := .locked, holdSeconds := 0 } } 5 true
  exact ⟨_, h⟩

/-- Queue traffic, and then another timebase and power state, are queue traffic under these. -/
theorem QueueTraffic.withTb {s u t : State} {tb : Timebase} {pw : Power} (h : QueueTraffic s u)
    (g : QueueTraffic { u with tb := tb, pw := pw } t) : QueueTraffic { s with tb := tb, pw := pw } t := by
  rw [h] at g
  exact g

/-- A step changes the timebase and the ready bits, and is told: the stamp, the guard and the count of crossings stay. -/
theorem State.takeStep_traffic (s : State) : ∃ tb pw, QueueTraffic { s with tb := tb, pw := pw } s.takeStep ∧
    tb.stamp = s.tb.stamp ∧ tb.inGuard = s.tb.inGuard ∧ tb.crossings = s.tb.crossings := by
  unfold State.takeStep
  split
  · exact ⟨s.tb, s.pw, QueueTraffic.refl s, rfl, rfl, rfl⟩
  · rename_i st _
    cases st with
    | second sec => exact ⟨_, s.pw, (QueueTraffic.refl _).postEvent _ _ _ _ _, rfl, rfl, rfl⟩
    | source off =>
      dsimp -zeta only
      extract_lets finish n tb e b s1 s2
      have h1 : QueueTraffic s1 s2 := (QueueTraffic.refl s1).postEvent _ _ _ _ _
      obtain ⟨pw, h2⟩ := s2.lockTime_traffic
      have htb : s2.tb = s1.tb := by rw [h1]
      rw [htb] at h2
      exact ⟨_, pw, h1.withTb h2, rfl, rfl, rfl⟩

theorem State.guardOpened_opened (s : State) : GuardOpened s s.guardOpened := by
  unfold State.guardOpened
  generalize hn : crossLen s.tb.rate s.tb.stamp.idx - 4000 = ns
  have h1 := (QueueTraffic.refl (s.at_ ns)).moderateCrossing
  obtain ⟨tb, pw, h2, hs, hg, hc⟩ := State.takeStep_traffic
    { (s.at_ ns).moderateCrossing with tb := { (s.at_ ns).moderateCrossing.tb with inGuard := true } }
  rw [h2]
  rw [h1] at hs hg hc ⊢
  dsimp only at hs hg hc
  rw [State.at_tb] at hs hc
  exact ⟨State.at_cfg s ns, State.at_regs s ns, State.at_shadow s ns, State.at_mpSets s ns, State.at_jobs s ns,
    congrArg _ (State.at_fc s ns), hs, hg, hc⟩

/-! ### Applying (R103) -/

section
variable {s : State}

theorem guardJobs_of_jobs {t : State} (h : t.jobs = s.jobs) : t.guardJobs = s.guardJobs := by
  unfold State.guardJobs State.jobsWhere
  rw [h]

/-- A guard stages what waits for it, decides what is requested, and lets what waits for that go on. -/
theorem State.guardApply_crossing (s : State) : s.guardApply.crossing belowQueues =
    (s.guardJobs.foldl State.stageDue s).decideSet.wakeGroups.crossing belowQueues := by
  unfold State.guardApply
  extract_lets s0 s1 s2 ns s3
  have h2 : s2.crossing belowQueues = s1.crossing belowQueues :=
    s1.decideRequests_crossing belowQueues fun s q r => s.decideRequest_crossing q r
  have h3 : s3.crossing belowQueues = s2.crossing belowQueues :=
    crossing_foldl belowQueues (fun s n => s.instanceRequests_crossing n) ns s2
  have h4 := crossing_foldl belowQueues (fun s n => s.bumpGeneration_crossing belowQueues n) ns s3
  exact (State.applyStreams_crossing belowQueues _).trans (h4.trans (h3.trans h2))

theorem State.stageSet_decided (s : State) (j : Nat) (groups : BitVec 16) (writes : List (Nat × Nat)) (after : Ending) :
    ((s.stageSet j groups writes after).crossing belowQueues).decided = (s.crossing belowQueues).decided := by
  unfold State.stageSet
  extract_lets s1 cfg s2
  have h1 : s1.crossing belowQueues = s.crossing belowQueues :=
    crossing_foldl belowQueues (fun s w => s.setShadow_crossing belowQueues _ _) writes s
  have h2 : (s2.crossing belowQueues).decided = (s1.crossing belowQueues).decided := rfl
  rw [State.onJob_crossing, h2, h1]

theorem State.stageDue_decided (s : State) (j : Nat) :
    ((s.stageDue j).crossing belowQueues).decided = (s.crossing belowQueues).decided := by
  unfold State.stageDue
  split
  · rfl
  · split
    · split
      · rfl
      · split
        · split
          · rfl
          · exact s.stageSet_decided j _ _ _
        · split
          · rfl
          · dsimp only
            split
            · rfl
            · exact s.stageSet_decided j _ _ _
    · rfl

theorem foldl_stageDue_decided (l : List Nat) : ∀ s : State,
    ((l.foldl State.stageDue s).crossing belowQueues).decided = (s.crossing belowQueues).decided := by
  induction l with
  | nil => exact fun _ => rfl
  | cons j l ih => exact fun s => (ih _).trans (s.stageDue_decided j)

/-- Taking values changes the values taken alone. -/
theorem foldl_take_eq (l : List (Nat × Nat)) : ∀ s : State, l.foldl (fun (s : State) e => s.take e.1 e.2) s =
    { s with cfg := { s.cfg with taken := l.foldl (fun t e => tset t e.1 (BitVec.ofNat 32 e.2)) s.cfg.taken } } := by
  induction l with
  | nil => exact fun _ => rfl
  | cons e l ih => exact fun s => ih (s.take e.1 e.2)

/-- A value of each key, stored in turn, is what is stored. -/
theorem tget_foldl_tset (g : Nat → Nat) {o : Nat} (ks : List Nat) : ∀ t : Tab Reg,
    o ∈ ks ∨ tget t o = some (BitVec.ofNat 32 (g o)) →
    tget ((ks.map fun k => (k, g k)).foldl (fun t e => tset t e.1 (BitVec.ofNat 32 e.2)) t) o = some (BitVec.ofNat 32 (g o)) := by
  induction ks with
  | nil => exact fun t h => h.resolve_left List.not_mem_nil
  | cons k ks ih =>
    intro t h
    refine ih _ ?_
    by_cases hk : o = k
    · subst hk
      exact .inr (tget_tset_same _ _ _)
    · rw [tget_tset_other _ _ hk]
      exact h.imp_left fun hm => (List.mem_cons.mp hm).resolve_left hk

/-- A staged value below the queues that the set changes is taken. -/
theorem State.tget_takenOf {set : BitVec 16} {o g : Nat} (hlow : o < 0x100000) (hrate : o ≠ aXS_RATE)
    (hg : groupOf o = some g) (hset : set.getLsbD g = true) (hsh : (tget s.shadow o).isSome) (hch : s.changes o = true) :
    tget ((s.takenOf set).foldl (fun (s : State) e => s.take e.1 e.2) s).cfg.taken o =
      some (BitVec.ofNat 32 (s.shadowReg o)) := by
  obtain ⟨v, hv⟩ := Option.isSome_iff_exists.mp hsh
  have hq : queueOfOff o = none := if_neg fun h => absurd h.1 (Nat.not_le.mpr hlow)
  rw [foldl_take_eq]
  refine tget_foldl_tset s.shadowReg _ _ (.inl (List.mem_filter.mpr ⟨List.mem_map.mpr ⟨(o, v), mem_of_tget hv, rfl⟩, ?_⟩))
  simp [hq, hg, hset, hch, hrate]

/-- How the guard leaves the crossing where the set is refused. -/
theorem State.decideSet_refused {x : Nat × GroupFail} (hp : s.cfg.pending ≠ 0) (h : s.setCheck s.cfg.pending = some x) :
    s.decideSet = s.refuseSet s.cfg.pending x.1 x.2.1 x.2.2 := by
  unfold State.decideSet
  dsimp only
  rw [if_neg hp, h]

theorem State.decideSet_applied (hp : s.cfg.pending ≠ 0) (h : s.setCheck s.cfg.pending = none) :
    s.decideSet = s.applySet s.cfg.pending := by
  unfold State.decideSet
  dsimp only
  rw [if_neg hp, h]

theorem State.decideSet_none (hp : s.cfg.pending = 0) : s.decideSet = s := by
  unfold State.decideSet
  exact if_pos hp

/-! What a view of a state says of the state's fields. The states are variables here, so that no operation is unfolded. -/

/-- What the requests cannot change, the same in two states. -/
structure DecidedAlike (t u : State) : Prop where
  seq : t.cfg.seq = u.cfg.seq
  refused : t.cfg.refused = u.cfg.refused
  failInfo : t.cfg.failInfo = u.cfg.failInfo
  failAddr : t.cfg.failAddr = u.cfg.failAddr
  applied : t.cfg.appliedStamp = u.cfg.appliedStamp
  inGuard : t.tb.inGuard = u.tb.inGuard
  stamp : t.tb.stamp = u.tb.stamp
  crossings : t.tb.crossings = u.tb.crossings
  taken : ∀ o < 0x100000, tget t.cfg.taken o = tget u.cfg.taken o

theorem tget_of_rest {t u : State} (h : (t.crossing belowQueues).rest = (u.crossing belowQueues).rest) {o : Nat}
    (ho : o < 0x100000) : tget t.cfg.taken o = tget u.cfg.taken o := by
  have hr := congrFun h o
  unfold State.crossing belowQueues at hr
  dsimp only at hr
  rwa [if_pos ho, if_pos ho] at hr

theorem decidedAlike_of_decided {t u : State}
    (h : (t.crossing belowQueues).decided = (u.crossing belowQueues).decided) : DecidedAlike t u where
  seq := congrArg (fun v => v.cfg.seq) h
  refused := congrArg (fun v => v.cfg.refused) h
  failInfo := congrArg (fun v => v.cfg.failInfo) h
  failAddr := congrArg (fun v => v.cfg.failAddr) h
  applied := congrArg (fun v => v.cfg.appliedStamp) h
  inGuard := congrArg (fun v => v.tb.inGuard) h
  stamp := congrArg (fun v => v.tb.stamp) h
  crossings := congrArg (fun v => v.tb.crossings) h
  taken := fun _ ho => by
    have hr := congrArg CrossingView.rest h
    exact tget_of_rest hr ho

theorem pending_of_crossing {β : Type} {f : Option Nat → Tab Reg → Tab Reg → β} {t u : State}
    (h : t.crossing f = u.crossing f) : t.cfg.pending = u.cfg.pending :=
  congrArg (fun v => v.cfg.pending) h

/-- The times of the crossing, the same in two states. -/
def TimeAlike (t u : State) : Prop :=
  t.tb.inGuard = u.tb.inGuard ∧ t.tb.stamp = u.tb.stamp ∧ t.tb.crossings = u.tb.crossings

/-- How a refused set leaves the staged configuration and the time. -/
structure SetRefused (u t : State) (info off : Nat) : Prop where
  seq : t.cfg.seq = u.cfg.seq
  refused : t.cfg.refused = u.cfg.refused ||| u.cfg.pending
  failInfo : t.cfg.failInfo = info
  failAddr : t.cfg.failAddr = off
  pending : t.cfg.pending = 0
  mpSets : t.mpSets = u.mpSets
  time : TimeAlike t u

theorem setRefused_of_crossing {t u : State} {info off : Nat} (h : t.crossing belowQueues =
    { u.crossing belowQueues with cfg := (u.crossing belowQueues).cfg.refuse u.cfg.pending info off }) :
    SetRefused u t info off where
  seq := congrArg (fun v => v.cfg.seq) h
  refused := congrArg (fun v => v.cfg.refused) h
  failInfo := congrArg (fun v => v.cfg.failInfo) h
  failAddr := congrArg (fun v => v.cfg.failAddr) h
  pending := (congrArg (fun v => v.cfg.pending) h).trans (BitVec.and_not_self u.cfg.pending)
  mpSets := congrArg CrossingView.mpSets h
  time := ⟨congrArg (fun v => v.tb.inGuard) h, congrArg (fun v => v.tb.stamp) h, congrArg (fun v => v.tb.crossings) h⟩

/-- How an applied set leaves the staged configuration and the time; `taken` are the values it took. -/
structure SetApplied (u t : State) (taken : Tab Reg) : Prop where
  seq : t.cfg.seq = (u.cfg.seq + 1) % 2 ^ 32
  refused : t.cfg.refused = u.cfg.refused
  applied : t.cfg.appliedStamp = u.tb.stamp
  pending : t.cfg.pending = 0
  mpSets : t.mpSets = u.mpSets
  time : TimeAlike t u
  taken : ∀ o < 0x100000, tget t.cfg.taken o = tget taken o

theorem setApplied_of_crossing {t u : State} {taken : Tab Reg}
    (h : t.crossing belowQueues = { ({ u with cfg := { u.cfg with taken := taken } } : State).crossing belowQueues with
      cfg := (u.crossing belowQueues).cfg.apply u.cfg.pending u.tb.stamp }) : SetApplied u t taken where
  seq := congrArg (fun v => v.cfg.seq) h
  refused := congrArg (fun v => v.cfg.refused) h
  applied := congrArg (fun v => v.cfg.appliedStamp) h
  pending := (congrArg (fun v => v.cfg.pending) h).trans (BitVec.and_not_self u.cfg.pending)
  mpSets := congrArg CrossingView.mpSets h
  time := ⟨congrArg (fun v => v.tb.inGuard) h, congrArg (fun v => v.tb.stamp) h, congrArg (fun v => v.tb.crossings) h⟩
  taken := fun _ ho => by
    have hr := congrArg CrossingView.rest h
    exact tget_of_rest (u := { u with cfg := { u.cfg with taken := taken } }) hr ho

theorem State.decideSet_refuses {x : Nat × GroupFail} (hp : s.cfg.pending ≠ 0) (h : s.setCheck s.cfg.pending = some x) :
    SetRefused s s.decideSet (256 * x.1 + x.2.1) x.2.2 := by
  rw [State.decideSet_refused hp h]
  exact setRefused_of_crossing (s.refuseSet_crossing belowQueues _ _ _ _)

theorem State.decideSet_applies (hp : s.cfg.pending ≠ 0) (h : s.setCheck s.cfg.pending = none) :
    SetApplied s s.decideSet ((s.takenOf s.cfg.pending).foldl (fun (s : State) e => s.take e.1 e.2) s).cfg.taken := by
  rw [State.decideSet_applied hp h]
  refine setApplied_of_crossing ((s.applySet_crossing s.cfg.pending).trans ?_)
  rw [foldl_take_eq]
  rfl

/-- Deciding a set leaves the time and the sets that wait, and no group pending. -/
theorem State.decideSet_keeps (s : State) :
    TimeAlike s.decideSet s ∧ s.decideSet.mpSets = s.mpSets ∧ s.decideSet.cfg.pending = 0 := by
  by_cases hp : s.cfg.pending = 0
  · rw [State.decideSet_none hp]
    exact ⟨⟨rfl, rfl, rfl⟩, rfl, hp⟩
  · cases h : s.setCheck s.cfg.pending with
    | some x =>
      have hr := State.decideSet_refuses hp h
      exact ⟨hr.time, hr.mpSets, hr.pending⟩
    | none =>
      have ha := State.decideSet_applies hp h
      exact ⟨ha.time, ha.mpSets, ha.pending⟩

end

/-! ### Refusing everything (R107, R595) -/

section
variable {β : Type} (f : Option Nat → Tab Reg → Tab Reg → β) (s : State)

/-- Entering FAULT changes of the crossing the state of the module alone. -/
theorem State.enterFault_crossing (kind : Nat) (byAlarm : Bool) : (s.enterFault kind byAlarm).crossing f =
    { s.crossing f with mstate := if s.fc.mstate = .service then .fault else s.fc.mstate } := by
  unfold State.enterFault
  extract_lets fc s1 s2 fc' tr tw mp s3 s4
  by_cases h : s1.fc.mstate ≠ .service
  · rw [if_pos h, if_neg h]
    rfl
  · rw [if_neg h, if_pos (not_not.mp h)]
    have h2 : s2.crossing f = s1.crossing f := s1.postEvent_crossing f _ _ _ _ _
    have h3 : s3.crossing f = { s2.crossing f with mstate := .fault } := rfl
    have h4 : s4.crossing f = s3.crossing f := s3.onEngines_crossing f _
    rw [State.setReadyBits_crossing, h4, h3, h2]
    rfl

/-- A FATAL message of the scheduler enters FAULT. -/
theorem State.raise_fatal {m : FaultMsg} (hc : kindClass m.kind m.fatal = some 2)
    (hd : ∀ t : State, t.countDcm m.kind = t) :
    (s.raise m).crossing f = { s.crossing f with mstate := if s.fc.mstate = .service then .fault else s.fc.mstate } := by
  obtain ⟨fc, h, hm⟩ := s.collect_eq m 2
  have h1 : (s.collect m 2).crossing f = s.crossing f := by
    rw [h]
    unfold State.crossing
    dsimp only
    rw [hm]
    rfl
  unfold State.raise
  rw [hc]
  dsimp only
  rw [hd, if_neg (by decide), if_neg (by decide), State.enterFault_crossing, h1, h, hm]

/-- Staged configuration after a guard whose copies disagree: what was pending is refused, with the lowest group. -/
def Staging.mismatched (c : Staging) : Staging :=
  if c.pending = 0 then c else c.refuse c.pending (256 * (groupsIn c.pending).headD 0 + 5) 0

/-- When the copies disagree everything requested is refused, what waited goes on, and the fault is FATAL. -/
theorem State.guardMismatch_crossing : ∃ u : State,
    u.crossing f = { s.crossing f with cfg := (s.crossing f).cfg.mismatched, mismatch := true } ∧
    s.guardMismatch.crossing f =
      { u.wakeGroups.crossing f with mstate := if u.wakeGroups.fc.mstate = .service then .fault else u.wakeGroups.fc.mstate } := by
  unfold State.guardMismatch
  extract_lets x xs s1 set s2 s3
  have h1 : s1.crossing f = { s.crossing f with mismatch := true } := rfl
  have h2 : s2.crossing f = { s.crossing f with cfg := (s.crossing f).cfg.mismatched, mismatch := true } := by
    dsimp only [s2]
    unfold Staging.mismatched
    by_cases hp : set = 0
    · rw [if_pos hp]
      refine h1.trans ?_
      rw [if_pos (show (s.crossing f).cfg.pending = 0 from hp)]
    · rw [if_neg hp, State.refuseSet_crossing, h1]
      rw [if_neg (show ¬(s.crossing f).cfg.pending = 0 from hp)]
      rfl
  have h3 : s3.crossing f = s2.crossing f := s2.decideRequests_crossing f fun s q _ => s.refuseSetup_crossing f q _
  exact ⟨s3, h3.trans h2, State.raise_fatal f s3.wakeGroups rfl fun t => show t.countDcm 0x22 = t from if_neg (by decide)⟩

end

/-! ### The guard (R73, R103, R106, R107) -/

section
variable {s : State}

theorem boundaryGuard_again {agree : Bool} (h : s.tb.inGuard = true) : answers (.boundaryGuard agree) s fun t => t = s :=
  ⟨s, if_pos h, rfl⟩

theorem State.guardStart_true (s : State) : s.guardStart true = s.guardOpened.guardApply := by
  unfold State.guardStart State.guardOpened
  exact if_pos rfl

theorem State.guardStart_false (s : State) : s.guardStart false = s.guardOpened.guardMismatch := by
  unfold State.guardStart State.guardOpened
  exact if_neg Bool.false_ne_true

theorem State.guardOpened_guardJobs (h : s.guardJobs = []) : s.guardOpened.guardJobs = [] :=
  (guardJobs_of_jobs s.guardOpened_opened.jobs).trans h

theorem State.guardApply_alike (s : State) : DecidedAlike s.guardApply (s.guardJobs.foldl State.stageDue s).decideSet :=
  decidedAlike_of_decided ((congrArg CrossingView.decided s.guardApply_crossing).trans (State.wakeGroups_decided belowQueues _))

/-- A guard leaves the count of crossings. -/
theorem State.guardStart_crossings (s : State) : (s.guardStart true).tb.crossings = s.tb.crossings := by
  have hs := decidedAlike_of_decided (foldl_stageDue_decided s.guardOpened.guardJobs s.guardOpened)
  obtain ⟨-, -, hd⟩ := (s.guardOpened.guardJobs.foldl State.stageDue s.guardOpened).decideSet_keeps.1
  rw [State.guardStart_true, s.guardOpened.guardApply_alike.crossings, hd, hs.crossings, s.guardOpened_opened.crossings]

/-- Where no command waits for it, a guard with agreeing copies leaves, the requests left out, what the decision of the
pending set leaves. -/
theorem State.guardStart_alike (h : s.guardJobs = []) : DecidedAlike (s.guardStart true) s.guardOpened.decideSet := by
  have ha := s.guardOpened.guardApply_alike
  rw [State.guardOpened_guardJobs h, List.foldl_nil] at ha
  rw [State.guardStart_true]
  exact ha

/-- With no set of the MP that waits, a guard leaves no group pending. -/
theorem State.guardStart_pending (h : s.guardJobs = []) (hm : s.mpSets = []) : (s.guardStart true).cfg.pending = 0 := by
  obtain ⟨-, hsets, hp⟩ := s.guardOpened.decideSet_keeps
  have ha := s.guardOpened.guardApply_crossing
  rw [State.guardOpened_guardJobs h, List.foldl_nil] at ha
  rw [State.guardStart_true]
  refine (pending_of_crossing ha).trans ?_
  refine (pending_of_crossing (State.wakeGroups_crossing belowQueues ?_)).trans hp
  rw [hsets, s.guardOpened_opened.mpSets, hm]

/-- What a set that is refused in the guard leaves staged. -/
def RefusedAs (s t : State) (x : Nat × GroupFail) : Prop :=
  t.cfg.refused = s.cfg.refused ||| s.cfg.pending ∧ t.cfg.failInfo = 256 * x.1 + x.2.1 ∧ t.cfg.failAddr = x.2.2 ∧
    t.cfg.seq = s.cfg.seq

/-- What a set that is applied in the guard leaves staged: it is counted, and its values below the queues are taken. -/
def AppliedAs (s t : State) : Prop :=
  t.cfg.seq = (s.cfg.seq + 1) % 2 ^ 32 ∧ t.cfg.appliedStamp = s.tb.stamp ∧ t.cfg.refused = s.cfg.refused ∧
    ∀ o g, o < 0x100000 → o ≠ aXS_RATE → groupOf o = some g → s.cfg.pending.getLsbD g = true →
      (tget s.shadow o).isSome → s.changes o = true → tget t.cfg.taken o = some (BitVec.ofNat 32 (s.shadowReg o))

theorem State.guardStart_refused {x : Nat × GroupFail} (h : s.guardJobs = []) (hp : s.cfg.pending ≠ 0)
    (hx : s.guardOpened.setCheck s.guardOpened.cfg.pending = some x) : RefusedAs s (s.guardStart true) x := by
  have ho := s.guardOpened_opened
  have ha := State.guardStart_alike h
  have hr := State.decideSet_refuses (by rw [ho.cfg]; exact hp) hx
  exact ⟨by rw [ha.refused, hr.refused, ho.cfg], ha.failInfo.trans hr.failInfo, ha.failAddr.trans hr.failAddr,
    by rw [ha.seq, hr.seq, ho.cfg]⟩

theorem State.guardStart_applied (h : s.guardJobs = []) (hp : s.cfg.pending ≠ 0)
    (hx : s.guardOpened.setCheck s.guardOpened.cfg.pending = none) : AppliedAs s (s.guardStart true) := by
  have ho := s.guardOpened_opened
  have ha := State.guardStart_alike h
  have hs := State.decideSet_applies (by rw [ho.cfg]; exact hp) hx
  refine ⟨by rw [ha.seq, hs.seq, ho.cfg], by rw [ha.applied, hs.applied, ho.stamp], by rw [ha.refused, hs.refused, ho.cfg],
    fun o g hlow hrate hg hset hsh hch => ?_⟩
  have hshadow : s.guardOpened.shadowReg o = s.shadowReg o := by
    unfold State.shadowReg State.reg
    rw [ho.shadow, ho.regs]
  have hchanges : s.guardOpened.changes o = s.changes o := by
    unfold State.changes State.reg
    rw [hshadow, ho.regs]
  rw [ha.taken o hlow, hs.taken o hlow, ← hshadow]
  exact State.tget_takenOf hlow hrate hg (by rw [ho.cfg]; exact hset) (by rw [ho.shadow]; exact hsh) (hchanges.trans hch)

/-- The time in a guard with agreeing copies. -/
theorem State.guardStart_time (h : s.guardJobs = []) :
    (s.guardStart true).tb.inGuard = true ∧ (s.guardStart true).tb.stamp = s.tb.stamp := by
  have ho := s.guardOpened_opened
  have ha := State.guardStart_alike h
  obtain ⟨hg, hst, -⟩ := s.guardOpened.decideSet_keeps.1
  exact ⟨ha.inGuard.trans (hg.trans ho.inGuard), ha.stamp.trans (hst.trans ho.stamp)⟩

/-- What a guard whose copies disagree leaves: nothing applied, what was pending refused, and the fault FATAL. -/
structure Mismatched (s t : State) : Prop where
  inGuard : t.tb.inGuard = true
  pending : s.mpSets = [] → t.cfg.pending = 0
  taken : t.cfg.taken = s.cfg.taken
  seq : t.cfg.seq = s.cfg.seq
  regs : t.regs = s.regs
  refused : t.cfg.refused = s.cfg.refused ||| s.cfg.pending
  told : t.xs.stateMismatch = true
  fault : s.fc.mstate = .service → t.fc.mstate = .fault

theorem Staging.mismatched_refused (c : Staging) : c.mismatched.refused = c.refused ||| c.pending := by
  unfold Staging.mismatched
  split
  · rename_i h
    rw [h]
    simp
  · rfl

theorem Staging.mismatched_pending (c : Staging) : c.mismatched.pending = 0 := by
  unfold Staging.mismatched
  split
  · assumption
  · exact BitVec.and_not_self _

theorem Staging.mismatched_seq (c : Staging) : c.mismatched.seq = c.seq := by
  unfold Staging.mismatched
  split <;> rfl

/-- The crossing of `u` is that of `m` with what was pending refused; with the sets that wait staged it is `w`, and in the
state `mstate` of the module it is `t`. -/
theorem mismatched_of_crossing {s m u w t : State} (ho : GuardOpened s m)
    (hu : u.crossing wholeRest = { m.crossing wholeRest with cfg := (m.crossing wholeRest).cfg.mismatched, mismatch := true })
    (hw : (w.crossing wholeRest).decided = (u.crossing wholeRest).decided)
    (hp : u.mpSets = [] → w.crossing wholeRest = u.crossing wholeRest)
    (ht : t.crossing wholeRest = { w.crossing wholeRest with mstate := if w.fc.mstate = .service then .fault else w.fc.mstate }) :
    Mismatched s t := by
  have hrest : (t.crossing wholeRest).rest = (m.crossing wholeRest).rest := by
    have h1 := congrArg CrossingView.rest ht
    have h2 := congrArg CrossingView.rest hw
    have h3 := congrArg CrossingView.rest hu
    exact h1.trans (h2.trans h3)
  have hms : w.fc.mstate = m.fc.mstate := (congrArg CrossingView.mstate hw).trans (congrArg CrossingView.mstate hu)
  have hcfg : ({ t.cfg with taken := [], pending := 0, byMp := 0 } : Staging) =
      { (m.crossing wholeRest).cfg.mismatched with pending := 0, byMp := 0 } :=
    (congrArg (fun v => v.decided.cfg) ht).trans ((congrArg CrossingView.cfg hw).trans (congrArg (fun v => v.decided.cfg) hu))
  have htb : (t.crossing wholeRest).tb = (m.crossing wholeRest).tb := by
    have h1 := congrArg CrossingView.tb ht
    have h2 := congrArg CrossingView.tb hw
    have h3 := congrArg CrossingView.tb hu
    exact h1.trans (h2.trans h3)
  refine ⟨?_, fun h => ?_, ?_, ?_, ?_, ?_, ?_, fun h => ?_⟩
  · exact (congrArg Timebase.inGuard htb).trans ho.inGuard
  · have hsets : u.mpSets = [] := (congrArg CrossingView.mpSets hu).trans (ho.mpSets.trans h)
    exact (congrArg (fun v => v.cfg.pending) (ht.trans (by rw [hp hsets, hu]))).trans (Staging.mismatched_pending _)
  · exact (congrArg (fun x => x.2.1) hrest).trans (congrArg Staging.taken ho.cfg)
  · refine (congrArg Staging.seq hcfg).trans ((Staging.mismatched_seq _).trans ?_)
    show m.cfg.seq = s.cfg.seq
    rw [ho.cfg]
  · exact (congrArg (fun x => x.2.2) hrest).trans ho.regs
  · refine (congrArg Staging.refused hcfg).trans ((Staging.mismatched_refused _).trans ?_)
    show m.cfg.refused ||| m.cfg.pending = s.cfg.refused ||| s.cfg.pending
    rw [ho.cfg]
  · exact (congrArg CrossingView.mismatch ht).trans ((congrArg CrossingView.mismatch hw).trans (congrArg CrossingView.mismatch hu))
  · refine (congrArg CrossingView.mstate ht).trans ?_
    exact if_pos (hms.trans (ho.mstate.trans h))

theorem State.guardStart_mismatched (s : State) : Mismatched s (s.guardStart false) := by
  obtain ⟨u, hu, ht⟩ := s.guardOpened.guardMismatch_crossing wholeRest
  rw [State.guardStart_false]
  exact mismatched_of_crossing s.guardOpened_opened hu (u.wakeGroups_decided wholeRest)
    (fun h => State.wakeGroups_crossing wholeRest h) ht

/-! ### The boundary that ends a guard -/

theorem crossingBoundary_begun (s : State) :
    answers .crossingBoundary s fun t => CrossingBegun (s.tb.crossings + 1) t := by
  refine ⟨_, rfl, ?_⟩
  unfold State.crossBoundary
  split
  · exact s.startCrossing_begun
  · have h := (s.guardStart true).startCrossing_begun
    rwa [s.guardStart_crossings] at h

theorem State.crossBoundary_inGuard (h : s.tb.inGuard = true) : s.crossBoundary = s.startCrossing := by
  unfold State.crossBoundary
  rw [if_pos h]

theorem crossingBoundary_passed (h : s.tb.inGuard = true) : answers .crossingBoundary s fun t =>
    CrossingBegun (s.tb.crossings + 1) t ∧ CrossingPassed s t :=
  ⟨_, congrArg Host.Outcome.next (State.crossBoundary_inGuard h), s.startCrossing_begun, s.startCrossing_passed⟩

theorem rateChange_passed (h : s.tb.inGuard = true) (hr : s.tb.pendingRate.isSome = true ∧ s.nextStamp.idx = 0) :
    answers .rateChange s fun t => CrossingBegun (s.tb.crossings + 1) t ∧ CrossingPassed s t :=
  ⟨_, (if_pos ⟨hr.1, h, hr.2⟩).trans (congrArg Host.Outcome.next (State.crossBoundary_inGuard h)), s.startCrossing_begun,
    s.startCrossing_passed⟩

theorem rateChange_stays (h : s.tb.inGuard = false ∨ ¬(s.tb.pendingRate.isSome = true ∧ s.nextStamp.idx = 0)) :
    answers .rateChange s fun t => t = s :=
  ⟨s, if_neg fun ⟨hr, hg, hi⟩ => h.elim (fun hn => by rw [hn] at hg; exact nomatch hg) fun hn => hn ⟨hr, hi⟩, rfl⟩

theorem exec_boundaryGuard (agree : Bool) (h : s.tb.inGuard = false) :
    exec (.boundaryGuard agree) s = .next (s.guardStart agree) := by
  change execBoundaryGuard agree s = _
  unfold execBoundaryGuard
  rw [if_neg (by rw [h]; decide)]

end

/-- Settles O8: the boundary's values and the guard's decision, each by its lemma. -/
theorem guardsAndBoundaries : Obligations.GuardsAndBoundaries := by
  unfold Obligations.GuardsAndBoundaries
  intro s next rated began passed m
  refine ⟨crossingBoundary_begun s, crossingBoundary_passed, rateChange_passed, rateChange_stays,
    fun agree h => boundaryGuard_again h, fun hg hj => ⟨_, exec_boundaryGuard true hg, ?_⟩,
    fun hg => ⟨_, exec_boundaryGuard false hg, ?_⟩⟩
  · obtain ⟨hin, hstamp⟩ := State.guardStart_time hj
    refine ⟨hin, hstamp, State.guardStart_pending hj, fun hp => ?_, fun hp => ?_⟩
    · have ha := State.guardStart_alike hj
      rw [State.decideSet_none (by rw [s.guardOpened_opened.cfg]; exact hp)] at ha
      exact ⟨by rw [ha.seq, s.guardOpened_opened.cfg], by rw [ha.refused, s.guardOpened_opened.cfg]⟩
    · cases hx : m.setCheck m.cfg.pending with
      | some x => exact State.guardStart_refused hj hp hx
      | none => exact State.guardStart_applied hj hp hx
  · have h := s.guardStart_mismatched
    exact ⟨h.inGuard, h.pending, h.taken, h.seq, h.regs, h.refused, h.told, h.fault⟩

end Sys2Proof.Machine
end

section
/-! What a FATAL fault of the management processor does, and the statement on its lockstep pairs. -/

namespace Sys2Proof.Machine

/-! ### Entering FAULT from SERVICE (R605) -/

theorem State.setReadyBits_cnts (s : State) (v : BitVec 24) : (s.setReadyBits v).cnts = s.cnts := by
  unfold State.setReadyBits
  split
  · rfl
  · exact State.postEvent_cnts _ _ _ _ _ _

/-- Between `s` and `t` the module entered FAULT for a cause: no job is left, and the counters stand. -/
structure FaultEntered (s t : State) (cause : Nat) : Prop where
  mstate : t.fc.mstate = .fault
  cause : t.fc.cause = cause
  jobs : t.jobs = []
  mp : t.mp = { s.mp with drainNow := 0 }
  cnts : t.cnts = s.cnts

theorem State.enterFault_entered {s : State} (h : s.fc.mstate = .service) (cause : Nat) (byAlarm : Bool) :
    FaultEntered s (s.enterFault cause byAlarm) cause := by
  unfold State.enterFault
  extract_lets fc s1 s2 fc' tr tw mp s3 s4
  have h2 : QueueTraffic s1 s2 := (QueueTraffic.refl s1).postEvent _ _ _ _ _
  have hc2 : s2.cnts = s.cnts := s1.postEvent_cnts _ _ _ _ _
  obtain ⟨lost, us, h4⟩ := s4.setReadyBits_traffic (s4.pw.ready &&& faultBits)
  have hc4 := s4.setReadyBits_cnts (s4.pw.ready &&& faultBits)
  rw [if_neg (not_not.mpr h)]
  refine ⟨?_, ?_, ?_, ?_, hc4.trans hc2⟩
  · rw [h4]; rfl
  · rw [h4]; rfl
  · rw [h4]; rfl
  · rw [h4]
    show { s2.mp with drainNow := 0 } = _
    rw [h2]

/-! ### A FATAL fault of a lockstep pair (R144, R145) -/

/-- A FATAL fault that no alarm input counts is collected, and FAULT is entered. -/
theorem State.raise_fatal_eq {s : State} {m : FaultMsg} (hc : kindClass m.kind m.fatal = some 2)
    (hd : ∀ t : State, t.countDcm m.kind = t) : s.raise m = (s.collect m 2).enterFault m.kind false := by
  unfold State.raise
  rw [hc]
  dsimp only
  rw [hd, if_neg (by decide), if_neg (by decide)]

/-- What a FATAL fault of a pair leaves of a module in SERVICE: it is counted, and FAULT is entered for its kind. -/
theorem State.raise_pairFault_entered {s : State} (h : s.fc.mstate = .service) (pair : Nat) {kind : Nat}
    (hk : kind = 0x23 ∨ kind = 0x24) :
    FaultEntered (s.bump aFC_CNT_FATAL 0) (s.raise (pairFault pair kind true)) kind := by
  have hc : kindClass kind true = some 2 := by rcases hk with rfl | rfl <;> rfl
  have hd : ∀ t : State, t.countDcm kind = t := fun t => if_neg (by rcases hk with rfl | rfl <;> decide)
  obtain ⟨fc, he, hm⟩ := s.collect_eq (pairFault pair kind true) 2
  have hf : FaultEntered (s.collect (pairFault pair kind true) 2) (s.raise (pairFault pair kind true)) kind := by
    rw [State.raise_fatal_eq hc hd]
    exact State.enterFault_entered (by rw [he]; exact hm.trans h) kind false
  refine ⟨hf.mstate, hf.cause, hf.jobs, hf.mp.trans ?_, hf.cnts.trans ?_⟩
  · rw [he]
  · rw [he]

/-- A mismatch of a pair is noted, raised and halts the MP (R144). -/
theorem mpLockstep_answers {s : State} (hm : s.fc.mstate = .service) (hd : s.domain 1 = .on) (hs : s.mp.state ≠ .halted)
    (pair : Nat) : answers (.mpLockstep pair) s fun t =>
      t.cnt aFC_CNT_FATAL 0 = (s.cnt aFC_CNT_FATAL 0 + 1) % 2 ^ 32 ∧ t.mp.state = .halted ∧
      t.fc.mstate = .fault ∧ t.fc.cause = 0x23 ∧ t.jobs = [] ∧
      (pair = 0 → t.mp.pair0Ok = false) ∧ (pair = 1 → t.mp.pair1Ok = false) := by
  refine ⟨_, if_neg (by simp [hd, hs]), ?_⟩
  generalize hu : ({ s with
    mp := if pair = 0 then { s.mp with pair0Ok := false } else { s.mp with pair1Ok := false } } : State) = u
  have hf : FaultEntered (u.bump aFC_CNT_FATAL 0) (u.raise (pairFault pair 0x23 true)) 0x23 :=
    State.raise_pairFault_entered (by rw [← hu]; exact hm) pair (.inl rfl)
  refine ⟨?_, rfl, hf.mstate, hf.cause, hf.jobs, fun hp => ?_, fun hp => ?_⟩
  · calc (u.raise (pairFault pair 0x23 true)).cnt aFC_CNT_FATAL 0
      _ = (u.bump aFC_CNT_FATAL 0).cnt aFC_CNT_FATAL 0 := by unfold State.cnt; rw [hf.cnts]
      _ = (s.cnt aFC_CNT_FATAL 0 + 1) % 2 ^ 32 := by rw [← hu]; exact State.cnt_bumpBy_same _ _ _ _
  · show (u.raise (pairFault pair 0x23 true)).mp.pair0Ok = false
    rw [hf.mp, ← hu, hp]; rfl
  · show (u.raise (pairFault pair 0x23 true)).mp.pair1Ok = false
    rw [hf.mp, ← hu, hp]; rfl

/-- Settles O53: the mismatch is a FATAL fault of its pair, which the lemma above follows into FAULT. -/
theorem lockstepMismatchIsFatal : Obligations.LockstepMismatchIsFatal := by
  unfold Obligations.LockstepMismatchIsFatal
  intro s pair _ hm hd hs
  exact mpLockstep_answers hm hd hs pair

end Sys2Proof.Machine
end

section
/-! The states of the management processor: its watchdog, the end of its restart, and what a second failure does. -/

namespace Sys2Proof.Machine

/-! ### Closing channels (R126, R136, R146) -/

theorem tget_map {α β : Type} (f : α → β) (k : Nat) :
    ∀ t : Tab α, tget (t.map fun e => (e.1, f e.2)) k = (tget t k).map f
  | [] => rfl
  | (i, v) :: t => by
    rw [List.map_cons, tget, tget]
    split
    · rfl
    · exact tget_map f k t

@[simp] theorem State.job_onJobs (s : State) (f : Job → Job) (j : Nat) : (s.onJobs f).job j = (s.job j).map f :=
  tget_map f j s.jobs

/-- Closing the sessions of a list takes those with the port and the number of one of them away, and changes else the jobs
alone. -/
theorem State.closeSessions_eq (l : List Session) : ∀ s : State, ∃ jobs,
    l.foldl (fun s x => s.closeChannel (.session x.port x.id)) s = { s with
      jobs := jobs
      mp := { s.mp with sessions := s.mp.sessions.filter fun x => !l.any fun y => x.port == y.port && x.id == y.id } } := by
  induction l with
  | nil => exact fun s => ⟨s.jobs, by simp⟩
  | cons y l ih =>
    intro s
    obtain ⟨jobs, h⟩ := ih (s.closeChannel (.session y.port y.id))
    refine ⟨jobs, h.trans ?_⟩
    simp [State.closeChannel, State.onJobs, List.filter_filter, Bool.and_comm]

/-- Closing every channel leaves no session and no console, and changes else the jobs alone. -/
theorem State.closeAll_eq (s : State) : ∃ jobs, s.closeAll = { s with
    jobs := jobs, mp := { s.mp with sessions := [], consoleOpen := false, consoleVersion := (0, 0) } } := by
  obtain ⟨jobs, h⟩ := State.closeSessions_eq s.mp.sessions s
  have hnone : (s.mp.sessions.filter fun x => !s.mp.sessions.any fun y => x.port == y.port && x.id == y.id) = [] := by
    rw [List.filter_eq_nil_iff]
    intro x hx
    simpa using ⟨x, hx, rfl, rfl⟩
  rw [hnone] at h
  unfold State.closeAll
  rw [h]
  exact ⟨_, rfl⟩

theorem QueueTraffic.tb {s t : State} (h : QueueTraffic s t) : t.tb = s.tb := by rw [h]
theorem QueueTraffic.fc {s t : State} (h : QueueTraffic s t) : t.fc = s.fc := by rw [h]

/-! ### A CONTAINED fault of a lockstep pair (R145) -/

/-- A CONTAINED fault counts in its register, and no event it posts counts anywhere. -/
theorem State.raise_contained_cnts {s : State} {m : FaultMsg} (hc : kindClass m.kind m.fatal = some 1)
    (hd : ∀ t : State, t.countDcm m.kind = t) (he : engOfSource m.source = none) :
    (s.raise m).cnts = (s.bump aFC_CNT_CONT 0).cnts := by
  obtain ⟨fc, h, -⟩ := s.collect_eq m 1
  have h1 : (s.collect m 1).cnts = (s.bump aFC_CNT_CONT 0).cnts := by rw [h]
  unfold State.raise
  rw [hc]
  dsimp -zeta only
  rw [hd, he]
  extract_lets s1 s2
  rw [if_neg (by decide), if_pos rfl]
  dsimp only [s2]
  split
  · rw [State.postEvent_cnts]
    exact h1
  · exact h1

/-- The sources of the pairs lie above those of the engines (R590). -/
theorem engOfSource_pair (pair : Nat) : engOfSource (0x440 + pair) = none := by
  have h : (0x440 + pair) / 512 ≠ 0 := by omega
  unfold engOfSource
  rw [if_pos h]

/-! ### The watchdog (R145, R146) -/

/-- A command that the MP runs, or has started and not completed, is interrupted when the MP restarts. -/
def Job.interrupt (b : Job) : Job :=
  if b.isMp && (b.phase == .running || (b.phase == .ended && b.started)) then { b with interrupted := true } else b

theorem Job.interrupt_running (b : Job) (hmp : b.interrupt.isMp = true) (hph : b.interrupt.phase = .running) :
    b.interrupt.interrupted = true := by
  unfold Job.interrupt at hmp hph ⊢
  split
  · rfl
  · rename_i h
    rw [if_neg h] at hmp hph
    simp [hmp, hph] at h

/-- A FATAL fault of a pair halts the MP, and in SERVICE it leaves FAULT with no job. -/
theorem State.raise_haltMp_fatal {s u : State} (h : u.fc = s.fc) (pair : Nat) :
    let t := (u.raise (pairFault pair 0x24 true)).haltMp
    t.mp.state = .halted ∧ (s.fc.mstate = .service → t.fc.mstate = .fault ∧ t.jobs = []) := by
  refine ⟨rfl, fun hm => ?_⟩
  have hf := State.raise_pairFault_entered (s := u) (by rw [h]; exact hm) pair (.inr rfl)
  exact ⟨hf.mstate, hf.jobs⟩

/-- An expiry within 10 s of the last restart is FATAL (R145). -/
theorem mpWatchdogExpiry_again {s : State} {x : Nat} (ns pair : Nat) (hrun : s.mp.state = .run)
    (hx : s.mp.runSince = some x) (hnow : (s.at_ ns).now < x + 10 ^ 10) :
    answers (.mpWatchdogExpiry pair ns) s fun t => t.mp.state = .halted ∧
      (s.fc.mstate = .service → t.fc.mstate = .fault ∧ t.jobs = []) := by
  have hstate : (s.at_ ns).mp.state = .run := by rw [State.at_mp]; exact hrun
  have hsoon : (s.at_ ns).mp.runSince.any (fun t => (s.at_ ns).now < t + 10 * 10 ^ 9) = true := by
    rw [State.at_mp, hx, Option.any_some, decide_eq_true_iff, show 10 * 10 ^ 9 = 10 ^ 10 by norm_num]
    exact hnow
  refine ⟨_, (if_neg (not_not.mpr hstate)).trans (if_pos hsoon), State.raise_haltMp_fatal ?_ pair⟩
  exact s.at_fc ns

/-- The first expiry restarts the MP: every channel closes, and what ran is marked (R145, R146). -/
theorem mpWatchdogExpiry_first {s : State} (ns pair : Nat) (hrun : s.mp.state = .run) (hx : s.mp.runSince = none) :
    answers (.mpWatchdogExpiry pair ns) s fun t => t.mp.state = .restart ∧ t.mp.sessions = [] ∧
      t.mp.consoleOpen = false ∧ t.mp.restartStamp = s.tb.stamp ∧ t.fc.mstate = s.fc.mstate ∧
      (∀ j b, t.job j = some b → b.isMp = true → b.phase = .running → b.interrupted = true) ∧
      t.cnt aFC_CNT_CONT 0 = (s.cnt aFC_CNT_CONT 0 + 1) % 2 ^ 32 := by
  have hstate : (s.at_ ns).mp.state = .run := by rw [State.at_mp]; exact hrun
  have hnever : ¬(s.at_ ns).mp.runSince.any (fun t => (s.at_ ns).now < t + 10 * 10 ^ 9) = true := by
    rw [State.at_mp, hx]
    exact Bool.false_ne_true
  refine ⟨_, (if_neg (not_not.mpr hstate)).trans (if_neg hnever), ?_⟩
  generalize hu : (s.at_ ns).raise (pairFault pair 0x24 false) = u
  have hd : ∀ t : State, t.countDcm 0x24 = t := fun t => if_neg (by decide)
  obtain ⟨fc, ht, hm⟩ := (s.at_ ns).raise_told (m := pairFault pair 0x24 false) rfl hd (engOfSource_pair pair)
  have hc := State.raise_contained_cnts (s := s.at_ ns) (m := pairFault pair 0x24 false) rfl hd (engOfSource_pair pair)
  rw [hu] at ht hc
  obtain ⟨jobs, ha⟩ := u.closeAll_eq
  rw [ha]
  refine ⟨rfl, rfl, rfl, ?_, ?_, fun j b hb hmp hph => ?_, ?_⟩
  · show u.tb.stamp = s.tb.stamp
    rw [ht.tb, State.at_tb]
  · show u.fc.mstate = s.fc.mstate
    rw [ht.fc, hm, State.at_fc]
  · have hx := (State.job_onJobs _ Job.interrupt j).symm.trans hb
    obtain ⟨x, -, rfl⟩ := Option.map_eq_some_iff.mp hx
    exact x.interrupt_running hmp hph
  · calc u.cnt aFC_CNT_CONT 0
      _ = ((s.at_ ns).bump aFC_CNT_CONT 0).cnt aFC_CNT_CONT 0 := by unfold State.cnt; rw [hc]
      _ = ((s.at_ ns).cnt aFC_CNT_CONT 0 + 1) % 2 ^ 32 := State.cnt_bumpBy_same _ _ _ _
      _ = (s.cnt aFC_CNT_CONT 0 + 1) % 2 ^ 32 := by unfold State.cnt; rw [State.at_cnts]

/-! ### The end of a restart (R145, R147) -/

/-- In a table in canonical form a key has one value. -/
theorem tget_of_mem {α : Type} {k : Nat} {v : α} : ∀ {t : Tab α}, Tab.rising t = true → (k, v) ∈ t → tget t k = some v
  | (i, w) :: t, hr, hm => by
    have hall := List.pairwise_cons.mp ((rising_iff ((i, w) :: t)).mp hr)
    rcases List.mem_cons.mp hm with he | hm
    · cases he
      exact if_pos rfl
    · have hlt : i < k := hall.1 k (List.mem_map_of_mem hm)
      exact (if_neg hlt.ne).trans (tget_of_mem (rising_tail hr) hm)

/-- In a job table in canonical form the numbers of the jobs that satisfy a test are those of the jobs that do. -/
theorem State.mem_jobsWhere {s : State} (hr : Tab.rising s.jobs = true) (p : Job → Bool) {j : Nat} {b : Job}
    (hj : s.job j = some b) : j ∈ s.jobsWhere p ↔ p b = true := by
  unfold State.jobsWhere
  simp only [List.mem_map, List.mem_filter]
  constructor
  · rintro ⟨⟨i, x⟩, ⟨hm, hx⟩, rfl⟩
    cases hj.symm.trans (tget_of_mem hr hm)
    exact hx
  · exact fun hb => ⟨(j, b), ⟨mem_of_tget hj, hb⟩, rfl⟩

theorem State.onJob_eq (s : State) (j : Nat) (f : Job → Job) : ∃ jobs, s.onJob j f = { s with jobs := jobs } := by
  unfold State.onJob
  split
  · exact ⟨_, rfl⟩
  · exact ⟨_, rfl⟩

/-- End one interrupted command (R147). -/
def State.endOneInterrupted (s : State) (j : Nat) : State :=
  (s.failJob j stFAULT_CONTAINED).onJob j fun b => { b with interrupted := false }

theorem State.endOneInterrupted_eq (s : State) (j : Nat) : ∃ jobs, s.endOneInterrupted j = { s with jobs := jobs } := by
  obtain ⟨js, h⟩ := s.onJob_eq j fun b => { b with ending := some (failed stFAULT_CONTAINED), phase := .ended, wait := .no }
  obtain ⟨ks, g⟩ := (s.failJob j stFAULT_CONTAINED).onJob_eq j fun b => { b with interrupted := false }
  refine ⟨ks, g.trans ?_⟩
  rw [show s.failJob j stFAULT_CONTAINED = { s with jobs := js } from h]

theorem State.job_endOneInterrupted_same {s : State} {j : Nat} {b : Job} (hj : s.job j = some b) :
    endedWith (s.endOneInterrupted j) j (failed stFAULT_CONTAINED) :=
  ⟨_, State.job_onJob_same _ _ (State.job_endJob_same _ _ hj), rfl, rfl, rfl⟩

theorem State.job_endOneInterrupted_other (s : State) {i j : Nat} (h : i ≠ j) :
    (s.endOneInterrupted j).job i = s.job i :=
  (State.job_onJob_other _ _ h).trans (State.job_endJob_other _ _ h)

/-- Ending the commands of a list changes the jobs alone. -/
theorem foldl_endOneInterrupted_eq (l : List Nat) : ∀ s : State,
    ∃ jobs, l.foldl State.endOneInterrupted s = { s with jobs := jobs } := by
  induction l with
  | nil => exact fun s => ⟨s.jobs, rfl⟩
  | cons j l ih =>
    intro s
    obtain ⟨js, h⟩ := s.endOneInterrupted_eq j
    obtain ⟨ks, g⟩ := ih (s.endOneInterrupted j)
    refine ⟨ks, g.trans ?_⟩
    rw [h]

theorem job_foldl_endOneInterrupted_other {i : Nat} (l : List Nat) (hi : i ∉ l) : ∀ s : State,
    (l.foldl State.endOneInterrupted s).job i = s.job i := by
  induction l with
  | nil => exact fun _ => rfl
  | cons j l ih =>
    intro s
    obtain ⟨hne, hl⟩ := not_or.mp (mt List.mem_cons.mpr hi)
    exact (ih hl _).trans (s.job_endOneInterrupted_other hne)

/-- Each command of a list ends FAULT_CONTAINED, at its last turn in the list. -/
theorem endedWith_foldl_endOneInterrupted {i : Nat} (l : List Nat) (hi : i ∈ l) : ∀ {s : State} {b : Job},
    s.job i = some b → endedWith (l.foldl State.endOneInterrupted s) i (failed stFAULT_CONTAINED) := by
  induction l with
  | nil => exact fun _ => nomatch hi
  | cons j l ih =>
    intro s b hb
    rw [List.foldl_cons]
    have hstep : ∃ x, (s.endOneInterrupted j).job i = some x := by
      by_cases hij : i = j
      · subst hij
        obtain ⟨x, hx, -⟩ := State.job_endOneInterrupted_same hb
        exact ⟨x, hx⟩
      · exact ⟨b, (s.job_endOneInterrupted_other hij).trans hb⟩
    obtain ⟨x, hx⟩ := hstep
    by_cases hl : i ∈ l
    · exact ih hl hx
    · obtain rfl : i = j := (List.mem_cons.mp hi).resolve_right hl
      obtain ⟨y, hy, he⟩ := State.job_endOneInterrupted_same hb
      exact ⟨y, (job_foldl_endOneInterrupted_other l hl _).trans hy, he⟩

/-- A restart that ends in time is counted, and the commands it interrupted end (R145, R147). -/
theorem mpRestartDone_answers {s : State} (hst : s.mp.state = .restart) (hnow : s.now < s.mp.restartUp + 10 ^ 9) :
    answers .mpRestartDone s fun t => t.mp.state = .run ∧ t.mp.runSince = some s.now ∧
      t.cnt aMP_RESTART_CNT 0 = (s.cnt aMP_RESTART_CNT 0 + 1) % 2 ^ 32 ∧
      (Tab.rising s.jobs = true → ∀ j b, s.job j = some b → if b.interrupted = true
        then endedWith t j (failed stFAULT_CONTAINED) else t.job j = some b) := by
  obtain ⟨jobs, h⟩ := foldl_endOneInterrupted_eq (s.jobsWhere fun b => b.interrupted) s
  have hin : ¬(s.mp.state ≠ .restart ∨ s.mp.restartUp + 10 ^ 9 ≤ s.now) :=
    not_or.mpr ⟨not_not.mpr hst, Nat.not_le.mpr hnow⟩
  refine ⟨_, if_neg hin, rfl, ?_, ?_, fun hr j b hj => ?_⟩
  · show some s.endInterrupted.now = some s.now
    rw [show s.endInterrupted = _ from h]
    rfl
  · refine (State.cnt_bumpBy_same s.endInterrupted _ _ _).trans ?_
    rw [show s.endInterrupted = _ from h]
    rfl
  · have hmem := State.mem_jobsWhere hr (fun b => b.interrupted) hj
    split
    · rename_i hb
      exact endedWith_foldl_endOneInterrupted _ (hmem.mpr hb) hj
    · rename_i hb
      exact (job_foldl_endOneInterrupted_other _ (fun h => hb (hmem.mp h)) s).trans hj

/-- A restart that is not over within 1 s is FATAL (R145). -/
theorem mpRestartTimeout_answers {s : State} (hst : s.mp.state = .restart) (hp : s.passed s.mp.restartUp (10 ^ 9) = true) :
    answers .mpRestartTimeout s fun t => t.mp.state = .halted ∧
      (s.fc.mstate = .service → t.fc.mstate = .fault ∧ t.jobs = []) :=
  ⟨_, if_neg (by rw [hst, hp]; decide), State.raise_haltMp_fatal rfl 0⟩

theorem mpSlowqHwmClr_answers (s : State) (v : Reg) : answers (.mpSlowqHwmClr v) s fun t =>
    t = { s with mp := { s.mp with hwm := if v.getLsbD 0 then s.mpOccupancy else s.mp.hwm } } := by
  by_cases h : v.getLsbD 0 = true
  · exact ⟨_, if_pos h, by rw [if_pos h]⟩
  · exact ⟨_, if_neg h, by rw [if_neg h]⟩

/-- Settles O38: each command is the lemma on it; a second failure is FATAL like a lockstep mismatch. -/
theorem managementProcessorStates : Obligations.ManagementProcessorStates := by
  unfold Obligations.ManagementProcessorStates
  exact fun s => ⟨fun pair ns hrun => ⟨mpWatchdogExpiry_first ns pair hrun,
      fun x hx hnow => mpWatchdogExpiry_again ns pair hrun hx hnow⟩,
    mpRestartDone_answers, mpRestartTimeout_answers, mpSlowqHwmClr_answers s⟩

end Sys2Proof.Machine
end

section
/-! The channels of the management processor: how a packet of a session or of the console is taken, how a session opens, and
what its closing leaves. -/

namespace Sys2Proof.Machine

/-! ### Replies (R118, R131) -/

/-- A session or the console: a channel without a queue. -/
def Source.isChannel (src : Source) : Prop := (∃ port id, src = .session port id) ∨ src = .console

/-- What carries a reply packet out on a channel. -/
def Source.carry (src : Source) (p : Bytes) : Output := if src = .console then .serial (hdlcFrame p) else .reply src p

section
variable (s : State)

theorem State.withDetail_eq (b : Job) (e : Ending) : ∃ n, (s.withDetail b e).2 = { s with free := n } := by
  unfold State.withDetail
  split
  · exact ⟨s.free, rfl⟩
  · exact ⟨_, rfl⟩

theorem State.setVersion_eq (src : Source) (n : Nat) (v : Nat × Nat) :
    ∃ mp versions, s.setVersion src n v = { s with mp := mp, versions := versions } := by
  cases src <;> exact ⟨_, _, rfl⟩

/-- A reply is the one thing that leaves with it, and no job changes. -/
theorem State.sendReply_channel {b : Job} (h : b.src.isChannel) (e : Ending) (p : Bytes) :
    (s.sendReply b e p).jobs = s.jobs ∧ (s.sendReply b e p).outbox = s.outbox ++ [b.src.carry p] := by
  unfold State.sendReply
  extract_lets s1
  have h1 : s1 = s.emit (b.src.carry p) := by
    rcases h with ⟨port, id, h⟩ | h <;> simp [s1, h, Source.carry]
  rw [h1]
  split
  · rename_i v _
    obtain ⟨mp, versions, hv⟩ := (s.emit (b.src.carry p)).setVersion_eq b.src b.inst v
    rw [hv]
    exact ⟨rfl, rfl⟩
  · exact ⟨rfl, rfl⟩

/-- The completion of a job of a channel that is not discarded is its reply, and the job is forgotten. -/
theorem State.writeCompletion_reply {j : Nat} {b : Job} {e : Ending} (hj : s.job j = some b) (he : b.ending = some e)
    (hd : b.discard = false) (h : b.src.isChannel) : s.writeCompletion j =
      let d := (s.dropJob j).withDetail (s.spanning b) e
      d.2.sendReply (s.spanning b) d.1
        (replyPacket s (s.spanning b) d.1 (tlvsBytes (resultTlvs (s.spanning b) d.1 false))) := by
  unfold State.writeCompletion
  rcases h with ⟨port, id, h⟩ | h <;> simp [hj, he, hd, h, State.spanning]

theorem State.writeCompletion_channel {j : Nat} {b : Job} {e : Ending} (hj : s.job j = some b) (he : b.ending = some e)
    (hd : b.discard = false) (h : b.src.isChannel) : (s.writeCompletion j).jobs = tdel s.jobs j ∧
      ∃ p, (s.writeCompletion j).outbox = s.outbox ++ [b.src.carry p] := by
  rw [s.writeCompletion_reply hj he hd h]
  extract_lets d
  obtain ⟨n, hn⟩ := (s.dropJob j).withDetail_eq (s.spanning b) e
  obtain ⟨hjobs, hout⟩ := d.2.sendReply_channel (b := s.spanning b) h d.1
    (replyPacket s (s.spanning b) d.1 (tlvsBytes (resultTlvs (s.spanning b) d.1 false)))
  rw [show d.2 = _ from hn] at hjobs hout ⊢
  exact ⟨hjobs, _, hout⟩

/-! ### Packets (R121, R136, R137) -/

theorem State.addJob_channel {b : Job} (h : b.src.isChannel) :
    s.addJob b = (s.nextJob, { s with jobs := tset s.jobs s.nextJob b, nextJob := s.nextJob + 1 }) := by
  unfold State.addJob
  rcases h with ⟨port, id, h⟩ | h <;> simp [h]

/-- A packet of a channel never waits for an earlier entry: only a queue fences. -/
theorem State.fenced_channel {src : Source} (h : src.isChannel) (flags : Nat) : s.fenced src flags = false := by
  unfold State.fenced
  rcases h with ⟨port, id, rfl⟩ | rfl <;> simp

/-- A packet of a channel that is completed at once leaves no job, and is answered. -/
theorem State.complete_channel {src : Source} (h : src.isChannel) (inst : Nat) (e : Entry) (ending : Ending) :
    (s.complete src inst e ending).job s.nextJob = none ∧
    (∀ i, i ≠ s.nextJob → (s.complete src inst e ending).job i = s.job i) ∧
    ∃ p, (s.complete src inst e ending).outbox = s.outbox ++ [src.carry p] := by
  unfold State.complete
  generalize hb : ({ s.jobOf src inst e [] .ended with ending := some ending } : Job) = b
  have hsrc : b.src = src := by rw [← hb]; rfl
  rw [← hsrc] at h ⊢
  rw [s.addJob_channel h]
  obtain ⟨hjobs, hout⟩ := State.writeCompletion_channel { s with jobs := tset s.jobs s.nextJob b, nextJob := s.nextJob + 1 }
    (State.job_setJob_same s s.nextJob b) (show b.ending = some ending by rw [← hb]) (by rw [← hb]; rfl) h
  refine ⟨?_, fun i hi => ?_, hout⟩
  · unfold State.job
    rw [hjobs, tget_tdel_same]
  · unfold State.job
    rw [hjobs, tget_tdel_other _ hi, tget_tset_other _ _ hi]

/-- A packet of a channel that passes the checks becomes the next job, waiting as its opcode says; one that is refused is
answered. -/
def PacketTaken (s t : State) (src : Source) (e : Entry) : Prop :=
  match s.check src 0 e with
  | .passed o ts => t.jobs = tset s.jobs s.nextJob (s.jobOf src 0 e ts (if o.mp then .slow else .fifo)) ∧
      t.nextJob = s.nextJob + 1 ∧ t.outbox = s.outbox
  | .refused _ => t.job s.nextJob = none ∧ (∀ i, i ≠ s.nextJob → t.job i = s.job i) ∧
      ∃ p, t.outbox = s.outbox ++ [src.carry p]

theorem State.accept_taken {src : Source} (h : src.isChannel) (e : Entry) : PacketTaken s (s.accept src 0 e) src e := by
  unfold PacketTaken State.accept
  cases s.check src 0 e with
  | passed o ts =>
    dsimp only
    rw [s.fenced_channel h, if_neg Bool.false_ne_true, s.addJob_channel (show (s.jobOf src 0 e ts _).src.isChannel from h)]
    split <;> exact ⟨rfl, rfl, rfl⟩
  | refused ending =>
    dsimp only
    split
    · exact (s.bump aMP_BUSY_CNT 0).complete_channel h 0 e ending
    · exact s.complete_channel h 0 e ending

/-- The time of its last packet is noted of a session (R136). -/
def State.heard (s : State) (port id : Nat) : State :=
  { s with mp := { s.mp with sessions := s.mp.sessions.map fun x =>
    if x.port = port ∧ x.id = id then { x with lastPacket := s.now } else x } }

theorem mgmtPacket_answers {s : State} {port id : Nat} {packet : Bytes} (hs : (s.session port id).isSome)
    (hrun : s.mpServes = true) (hlen : 32 ≤ packet.length) (hout : s.outstanding (.session port id) < 16) :
    answers (.mgmtPacket port id packet) s fun t =>
      PacketTaken (s.heard port id) t (.session port id) (packetEntry packet) := by
  have hin : ¬((s.session port id).isNone = true ∨ (!s.mpServes) = true ∨ packet.length < 32 ∨
      s.outstanding (.session port id) ≥ 16) := by
    simp [Option.ne_none_iff_isSome.mpr hs, hrun, hlen, hout]
  exact ⟨_, if_neg hin, (s.heard port id).accept_taken (.inl ⟨port, id, rfl⟩) (packetEntry packet)⟩

theorem consoleFrame_answers {s : State} {frame : Bytes} (hrun : s.mpServes = true) (hlen : 36 ≤ (unstuff frame).length)
    (hfcs : fcs32 ((unstuff frame).take ((unstuff frame).length - 4)) =
      leNat ((unstuff frame).drop ((unstuff frame).length - 4))) (hout : s.outstanding .console = 0) :
    answers (.consoleFrame frame) s fun t => PacketTaken { s with mp := { s.mp with consoleOpen := true } } t .console
      (packetEntry ((unstuff frame).take ((unstuff frame).length - 4))) := by
  refine ⟨_, if_neg ?_, State.accept_taken _ (.inr rfl) _⟩
  simp [hrun, hlen, hfcs, hout]

end

/-! ### Opening a session (R135, R136) -/

section
variable {s : State} {port tcp : Nat} {groups suites sigs : List Nat}

/-- The MP serves the port, and the client comes to the configured TCP port. -/
def State.reaches (s : State) (port tcp : Nat) : Prop :=
  s.mpServes = true ∧ port ≤ 1 ∧ s.fld aMP_MGMT_EN port port = 1 ∧ tcp = s.fld aMP_MGMT_TCP 15 0

theorem State.reaches.passes (h : s.reaches port tcp) : ¬((!s.mpServes) = true ∨ port > 1 ∨
    s.fld aMP_MGMT_EN port port = 0 ∨ tcp ≠ s.fld aMP_MGMT_TCP 15 0) := by
  obtain ⟨hrun, hport, hen, htcp⟩ := h
  simp [hrun, hport, hen, htcp]

theorem mgmtSessionOpen_alert (h : s.reaches port tcp) (hg : groups.any tlsGroups.contains = false) (ok : Bool) :
    answers (.mgmtSessionOpen ⟨port, tcp⟩ groups suites sigs ok) s fun t =>
      t = { s with outbox := s.outbox ++ [.alert port] } :=
  ⟨_, (if_neg h.passes).trans (if_pos (by rw [hg]; rfl)), rfl⟩

theorem mgmtSessionOpen_opens (h : s.reaches port tcp) (hg : groups.any tlsGroups.contains = true)
    (hsuite : suites.contains tlsSuite = true) (hsig : sigs.any tlsSigs.contains = true)
    (htrust : s.ks.trust.any (fun x => x.role == 2) = true)
    (hroom : (s.mp.sessions.filter fun x => x.port == port).length < 4) :
    answers (.mgmtSessionOpen ⟨port, tcp⟩ groups suites sigs true) s fun t => t = { s with
      outbox := s.outbox ++ [.certificate port (s.ks.certs.headD [])]
      mp := { s.mp with
        sessions := s.mp.sessions ++ [{ port := port, id := s.mp.nextSession, lastPacket := s.now }]
        nextSession := s.mp.nextSession + 1 } } := by
  have hgroup : ¬(!groups.any tlsGroups.contains) = true := by rw [hg]; decide
  have hoffer : ¬((!suites.contains tlsSuite) = true ∨ (!sigs.any tlsSigs.contains) = true) := by rw [hsuite, hsig]; decide
  have hclient : ¬((!true) = true ∨ (!s.ks.trust.any fun x => x.role == 2) = true ∨
      (s.mp.sessions.filter fun x => x.port == port).length ≥ 4) := by
    rw [htrust]
    simpa using hroom
  exact ⟨_, (if_neg h.passes).trans ((if_neg hgroup).trans ((if_neg hoffer).trans (if_neg hclient))), rfl⟩

theorem mgmtSessionOpen_ignored (ok : Bool) (h : s.mpServes = false ∨ 1 < port ∨ s.fld aMP_MGMT_EN port port = 0 ∨
    tcp ≠ s.fld aMP_MGMT_TCP 15 0) :
    answers (.mgmtSessionOpen ⟨port, tcp⟩ groups suites sigs ok) s fun t => t = s :=
  ⟨s, if_pos (h.imp_left fun hr => by rw [hr]; rfl), rfl⟩

end

/-! ### Closing a session (R126, R136, R149) -/

/-- A session is gone, and the jobs it issued will be discarded; other sessions and jobs stand. -/
def SessionGone (s t : State) (port id : Nat) : Prop :=
  t.session port id = none ∧
  (∀ j b, s.job j = some b → t.job j = some (if b.src = .session port id then { b with discard := true } else b)) ∧
  ∀ port' id', (port', id') ≠ (port, id) → t.session port' id' = s.session port' id'

/-- A job that a channel issued is discarded when the channel closes. -/
def Job.closedBy (src : Source) (b : Job) : Job := if b.src = src then { b with discard := true } else b

theorem State.closeChannel_gone (s : State) (port id : Nat) : SessionGone s (s.closeChannel (.session port id)) port id := by
  have hs : ∀ p i, (s.closeChannel (.session port id)).session p i =
      (s.mp.sessions.filter fun x => !(x.port == port && x.id == id)).find? fun x => x.port == p && x.id == i :=
    fun _ _ => rfl
  refine ⟨?_, fun j b hb => ?_, fun port' id' hne => ?_⟩
  · rw [hs, List.find?_filter, List.find?_eq_none]
    intro x _
    cases x.port == port && x.id == id <;> decide
  · exact (State.job_onJobs s (Job.closedBy (.session port id)) j).trans (congrArg (Option.map _) hb)
  · rw [hs, List.find?_filter]
    refine congrArg (List.find? · s.mp.sessions) (funext fun x => ?_)
    by_cases hx : x.port = port' ∧ x.id = id'
    · obtain ⟨rfl, rfl⟩ := hx
      have hkept : (x.port == port && x.id == id) = false := by simpa using hne
      simp [hkept]
    · have hnot : (x.port == port' && x.id == id') = false := by simpa using hx
      simp [hnot]

theorem mgmtSessionIdle_answers {s : State} {port id : Nat}
    (h : (s.session port id).any (fun x => s.passed x.lastPacket (600 * 10 ^ 9)) = true) :
    answers (.mgmtSessionIdle port id) s fun t => SessionGone s t port id :=
  ⟨_, if_pos h, s.closeChannel_gone port id⟩

theorem mgmtSessionClose_answers (s : State) {port : Nat} (id : Nat) (h : port ≠ 2) :
    answers (.mgmtSessionClose port id) s fun t => SessionGone s t port id :=
  ⟨_, rfl, by rw [if_neg h]; exact s.closeChannel_gone port id⟩

/-- A write of MP_MGMT_EN closes the sessions of the ports whose bit it clears, and no other (R149). -/
theorem mpMgmtEn_answers (s : State) (v : Reg) : answers (.mpMgmtEn v) s fun t => t.reg aMP_MGMT_EN = v.toNat % 4 ∧
    (∀ x ∈ t.mp.sessions, x ∈ s.mp.sessions ∧ bitAt v.toNat x.port = true) ∧
    (∀ x ∈ s.mp.sessions, bitAt v.toNat x.port = true → x ∈ t.mp.sessions) := by
  refine ⟨_, rfl, ?_⟩
  have hreg := State.reg_setReg_same s aMP_MGMT_EN (v.toNat % 4)
  have hmp : (s.setReg aMP_MGMT_EN (v.toNat % 4)).mp = s.mp := rfl
  generalize s.setReg aMP_MGMT_EN (v.toNat % 4) = u at hreg hmp
  obtain ⟨jobs, h⟩ := State.closeSessions_eq (u.mp.sessions.filter fun x => !bitAt v.toNat x.port) u
  rw [h, ← hmp]
  refine ⟨?_, fun x hx => ?_, fun x hx hb => List.mem_filter.mpr ⟨hx, ?_⟩⟩
  · show u.reg aMP_MGMT_EN = _
    rw [hreg]
    omega
  · obtain ⟨hx, hn⟩ := List.mem_filter.mp hx
    refine ⟨hx, by_contra fun hb => ?_⟩
    have hclosed : x ∈ u.mp.sessions.filter fun x => !bitAt v.toNat x.port := List.mem_filter.mpr ⟨hx, by simpa using hb⟩
    rw [List.any_eq_true.mpr ⟨x, hclosed, by simp⟩] at hn
    exact Bool.false_ne_true hn
  · have hother : ∀ y ∈ u.mp.sessions.filter (fun x => !bitAt v.toNat x.port), x.port ≠ y.port := fun y hy hport => by
      have hcleared := (List.mem_filter.mp hy).2
      rw [← hport, hb] at hcleared
      exact Bool.false_ne_true hcleared
    rw [List.any_eq_false.mpr fun y hy => by simp [hother y hy]]
    rfl

/-- Settles O37: each command of a channel is the lemma on it. -/
theorem managementChannels : Obligations.ManagementChannels := by
  unfold Obligations.ManagementChannels
  intro s port id gone taken
  refine ⟨fun tcp groups suites sigs hrun hport hen htcp => ?_, fun tcp groups suites sigs ok => mgmtSessionOpen_ignored ok,
    fun packet => mgmtPacket_answers, fun frame => consoleFrame_answers, mgmtSessionIdle_answers,
    mgmtSessionClose_answers s id, ⟨_, rfl, rfl, rfl, rfl⟩, mpMgmtEn_answers s⟩
  have hreach : s.reaches port tcp := ⟨hrun, hport, hen, htcp⟩
  exact ⟨mgmtSessionOpen_alert hreach, mgmtSessionOpen_opens hreach⟩

end Sys2Proof.Machine
end

section
/-! The queues: what the doorbells, the fetching of entries and a tenant's setup words do to the pair they name, and what
the entries written on the way leave of it. -/

namespace Sys2Proof.Machine

/-! ### What written entries leave of a pair (R171, R177, R187) -/

/-- What the entries that are written leave of a pair: both its heads, that it is enabled, and while it is its error. -/
def QPair.standing (p : QPair) : Nat × Nat × Bool × Bool := (p.sqHead, p.cqHead, p.enabled, p.enabled && p.error)

/-- Between `s` and `t` no job changed, pair `q` stands as it did, and none of its entries was rejected. -/
structure PairStands (q : Nat) (s t : State) : Prop where
  jobs : t.jobs = s.jobs
  standing : (t.pair q).standing = (s.pair q).standing
  rejects : t.cnt aQ_REJECT_CNT q = s.cnt aQ_REJECT_CNT q

section
variable {q : Nat} {r s t : State}

theorem PairStands.refl (q : Nat) (s : State) : PairStands q s s := ⟨rfl, rfl, rfl⟩

theorem PairStands.trans (h : PairStands q r s) (g : PairStands q s t) : PairStands q r t :=
  ⟨g.jobs.trans h.jobs, g.standing.trans h.standing, g.rejects.trans h.rejects⟩

theorem PairStands.sqHead (h : PairStands q s t) : (t.pair q).sqHead = (s.pair q).sqHead := congrArg (·.1) h.standing
theorem PairStands.cqHead (h : PairStands q s t) : (t.pair q).cqHead = (s.pair q).cqHead := congrArg (·.2.1) h.standing

/-- The error of an enabled pair stands. -/
theorem PairStands.error (h : PairStands q s t) (he : (s.pair q).enabled = true) : (t.pair q).error = (s.pair q).error := by
  have hen : (t.pair q).enabled = true := (congrArg (·.2.2.1) h.standing).trans he
  have herr : ((t.pair q).enabled && (t.pair q).error) = ((s.pair q).enabled && (s.pair q).error) :=
    congrArg (·.2.2.2) h.standing
  rwa [hen, he, Bool.true_and, Bool.true_and] at herr

/-- Where jobs, pairs and counters are as they were, every pair stands. -/
theorem PairStands.of_same (hj : t.jobs = s.jobs) (hp : t.pairs = s.pairs) (hc : t.cnts = s.cnts) : PairStands q s t := by
  refine ⟨hj, ?_, ?_⟩
  · unfold State.pair
    rw [hp]
  · unfold State.cnt
    rw [hc]

theorem PairStands.setPair (h : PairStands q r s) {k : Nat} {p : QPair}
    (hp : p.standing = (s.pair k).standing := by rfl) : PairStands q r (s.setPair k p) := by
  refine h.trans ⟨rfl, ?_, rfl⟩
  by_cases hk : q = k
  · rw [hk, State.pair_setPair_same, hp]
  · rw [State.pair_setPair_other _ _ hk]

theorem PairStands.onPair (h : PairStands q r s) (k : Nat) {f : QPair → QPair}
    (hf : ∀ p, (f p).standing = p.standing := by exact fun _ => rfl) : PairStands q r (s.onPair k f) :=
  h.setPair (hf _)

theorem PairStands.emit (h : PairStands q r s) (o : Output) : PairStands q r (s.emit o) := h.trans ⟨rfl, rfl, rfl⟩

/-! ### The mirror line and interrupts -/

theorem PairStands.mirror (h : PairStands q r s) (k : Nat) : PairStands q r (s.mirror k) := by
  unfold State.mirror
  split
  · exact h
  · exact (h.onPair k).emit _

theorem PairStands.mirrorIf (h : PairStands q r s) (k before : Nat) : PairStands q r (s.mirrorIf k before) := by
  unfold State.mirrorIf
  split
  · exact h
  · exact h.mirror k

theorem PairStands.deliver (h : PairStands q r s) (k : Nat) : PairStands q r (s.deliver k) := by
  unfold State.deliver
  exact h.setPair.trans
    (.of_same ((QueueTraffic.refl _).fireVector _ _).jobs (State.fireVector_pairs _ _ _) (State.fireVector_cnts _ _ _))

theorem PairStands.moderate (h : PairStands q r s) (k : Nat) : PairStands q r (s.moderate k) := by
  unfold State.moderate
  dsimp only
  repeat' split
  · exact h
  · exact h.deliver k
  · exact h.deliver k
  · exact h

/-! ### Entries of a completion queue -/

theorem PairStands.setVersion (h : PairStands q r s) (src : Source) (n : Nat) (v : Nat × Nat) :
    PairStands q r (s.setVersion src n v) := by
  obtain ⟨mp, versions, hv⟩ := s.setVersion_eq src n v
  rw [hv]
  exact h.trans ⟨rfl, rfl, rfl⟩

theorem PairStands.adoptWritten (h : PairStands q r s) (k : Nat) (body : Bytes) :
    PairStands q r (s.adoptWritten k body) := by
  unfold State.adoptWritten
  split
  · exact h
  · exact (h.onPair k).setVersion _ _ _

theorem PairStands.writeCq (h : PairStands q r s) (k : Nat) (body : Bytes) : PairStands q r (s.writeCq k body) := by
  unfold State.writeCq
  exact (((h.emit _).emit _).onPair k).adoptWritten k body

theorem PairStands.postLost (h : PairStands q r s) (k : Nat) : PairStands q r (s.postLost k) := by
  unfold State.postLost
  dsimp only
  split
  · exact (h.writeCq k _).onPair k
  · exact h

theorem PairStands.postEvent (h : PairStands q r s) (inst code : Nat) (queue : Option Nat) (info info2 : Nat) :
    PairStands q r (s.postEvent inst code queue info info2) := by
  unfold State.postEvent
  split
  · exact h
  · rename_i e _
    have hl := h.postLost e
    dsimp only
    repeat' split
    · exact ((hl.writeCq e _).mirror e).moderate e
    · exact hl.onPair e
    · exact ((hl.onPair e).mirror e).moderate e

theorem PairStands.flushHold (k : Nat) :
    ∀ (fuel : Nat) {s : State}, PairStands q r s → PairStands q r (s.flushHold k fuel)
  | 0, _, h => h
  | fuel + 1, s, h => by
    unfold State.flushHold
    split
    · exact h
    · split
      · exact h
      · exact PairStands.flushHold k fuel ((h.writeCq k _).onPair k)

theorem PairStands.flushCopies (k : Nat) :
    ∀ (fuel : Nat) {s : State}, PairStands q r s → PairStands q r (s.flushCopies k fuel)
  | 0, _, h => h
  | fuel + 1, s, h => by
    unfold State.flushCopies
    split
    · exact h
    · split
      · exact h
      · exact PairStands.flushCopies k fuel (((h.emit _).writeCq k _).onPair k)

theorem PairStands.useSpace (h : PairStands q r s) (k : Nat) : PairStands q r (s.useSpace k) := by
  unfold State.useSpace
  extract_lets tail s1 s2 s3
  have h1 : PairStands q r s1 := PairStands.flushHold k 16 h
  have h2 : PairStands q r s2 := by
    dsimp only [s2]
    split
    · exact h1.postLost k
    · exact h1
  have h3 : PairStands q r s3 := by
    dsimp only [s3]
    split
    · exact PairStands.flushCopies k 4096 h2
    · exact h2
  split
  · exact h3
  · exact (h3.mirror k).moderate k

theorem PairStands.placeCompletion (h : PairStands q r s) (k : Nat) (body : Bytes) :
    PairStands q r (s.placeCompletion k body) := by
  unfold State.placeCompletion
  dsimp only
  repeat' split
  · exact h.setPair
  · exact h.setPair
  · exact h.writeCq k body

/-! ### Stalls and idling (R185, R189) -/

/-- Counting a stall of a pair rejects none of its entries. -/
theorem PairStands.bumpStall (h : PairStands q r s) : PairStands q r (s.bump aQ_STALL_CNT q) :=
  h.trans ⟨rfl, rfl, tgetD_tput_other _ _ _ _ (by unfold cntKey aQ_REJECT_CNT aQ_STALL_CNT; omega)⟩

theorem PairStands.checkStall (h : PairStands q r s) : PairStands q r (s.checkStall q) := by
  unfold State.checkStall
  dsimp only
  split
  · exact (h.setPair.bumpStall.mirror q).postEvent _ _ _ _ _
  · exact h

theorem PairStands.checkUnstall (h : PairStands q r s) (k : Nat) : PairStands q r (s.checkUnstall k) := by
  unfold State.checkUnstall
  dsimp only
  split
  · exact (h.setPair.mirror k).postEvent _ _ _ _ _
  · exact h

/-- Only a pair that is not enabled falls idle. -/
theorem PairStands.checkIdle (h : PairStands q r s) (k : Nat) : PairStands q r (s.checkIdle k) := by
  unfold State.checkIdle
  dsimp only
  split
  · rename_i hidle
    have hen : (s.pair k).enabled = false := by simpa using hidle.1
    exact ((h.setPair (by simp [QPair.standing, hen])).mirror k).postEvent _ _ _ _ _
  · exact h

/-! ### Jobs and completions of a queue (R167, R172) -/

theorem PairStands.queueCompletion (h : PairStands q r s) (b : Job) (e : Ending) :
    PairStands q r (s.queueCompletion q b e) := by
  unfold State.queueCompletion
  extract_lets rs s1 s2 body s3
  have h1 : PairStands q r s1 := by
    dsimp only [s1]
    split
    · exact h
    · exact h.emit _
  have h2 : PairStands q r s2 := by
    dsimp only [s2]
    split
    · exact h1
    · exact h1.emit _
  have h3 : PairStands q r s3 := by
    dsimp only [s3]
    split
    · exact h2.onPair q
    · exact h2
  exact ((((h3.placeCompletion q body).mirror q).moderate q).checkStall).checkIdle q

theorem PairStands.withDetail (h : PairStands q r s) (b : Job) (e : Ending) : PairStands q r (s.withDetail b e).2 := by
  obtain ⟨n, hn⟩ := s.withDetail_eq b e
  rw [hn]
  exact h.trans ⟨rfl, rfl, rfl⟩

theorem PairStands.dropJob (h : PairStands q s t) (j : Nat) : PairStands q (s.dropJob j) (t.dropJob j) :=
  ⟨congrArg (tdel · j) h.jobs, h.standing, h.rejects⟩

/-- The completion of a queue's job forgets the job and leaves the pair as it stands. -/
theorem pairStands_writeCompletion {j : Nat} {b : Job} {e : Ending} (hj : s.job j = some b) (he : b.ending = some e)
    (hd : b.discard = false) (hq : b.src = .queue q) : PairStands q (s.dropJob j) (s.writeCompletion j) := by
  have h := PairStands.refl q (s.dropJob j)
  unfold State.writeCompletion
  simp only [hj, he, State.spanning, hd, hq, Bool.false_eq_true, if_false]
  split
  · exact (h.placeCompletion q _).checkIdle q
  · exact (h.withDetail _ _).queueCompletion _ _

/-- A job of the pair enters under the next number. -/
theorem pairStands_addJob {b : Job} (hq : b.src = .queue q) :
    PairStands q (s.setJob s.nextJob b) (s.addJob b).2 ∧ (s.addJob b).1 = s.nextJob := by
  unfold State.addJob
  rw [hq]
  dsimp only
  have h : PairStands q (s.setJob s.nextJob b)
    { s with jobs := tset s.jobs s.nextJob b, nextJob := s.nextJob + 1 } := ⟨rfl, rfl, rfl⟩
  exact ⟨h.onPair q, rfl⟩

/-- An entry that is completed at once leaves no job under its number and its pair as it stands. -/
theorem State.complete_queue (s : State) (q inst : Nat) (e : Entry) (ending : Ending) : ∃ b : Job,
    PairStands q ((s.setJob s.nextJob b).dropJob s.nextJob) (s.complete (.queue q) inst e ending) := by
  generalize hb : ({ s.jobOf (.queue q) inst e [] .ended with ending := some ending } : Job) = b
  have hc : s.complete (.queue q) inst e ending = (s.addJob b).2.writeCompletion (s.addJob b).1 := by rw [← hb]; rfl
  have hq : b.src = .queue q := by rw [← hb]; rfl
  obtain ⟨h, hnum⟩ := pairStands_addJob (s := s) hq
  have hjob : (s.addJob b).2.job s.nextJob = some b := by
    rw [job_of_jobs h.jobs, State.job_setJob_same]
  rw [hc, hnum]
  exact ⟨b, (h.dropJob _).trans (pairStands_writeCompletion hjob (by rw [← hb]) (by rw [← hb]; rfl) hq)⟩

/-- After a completion at once its number names no job, and every other job stands. -/
theorem PairStands.jobGone {j : Nat} {b : Job} (h : PairStands q ((s.setJob j b).dropJob j) t) :
    t.job j = none ∧ otherJobsKept s t j := by
  refine ⟨(job_of_jobs h.jobs j).trans (tget_tdel_same _ _), fun i hi => ?_⟩
  rw [job_of_jobs h.jobs, State.job_dropJob_other _ hi, State.job_setJob_other _ _ hi]

/-- The job of a queue's entry that passed its checks: fenced, slow or in its FIFO as it asks. -/
def State.takenJob (s : State) (q inst : Nat) (e : Entry) (o : OpInfo) (ts : List Tlv) : Job :=
  s.jobOf (.queue q) inst e ts (if s.fenced (.queue q) e.header.flags then .fenced else if o.mp then .slow else .fifo)

/-- An entry that passes its checks becomes the next job, and its pair stands. -/
theorem State.accept_queue {inst : Nat} {e : Entry} {o : OpInfo} {ts : List Tlv}
    (hc : s.check (.queue q) inst e = .passed o ts) :
    PairStands q (s.setJob s.nextJob (s.takenJob q inst e o ts)) (s.accept (.queue q) inst e) := by
  have h := (pairStands_addJob (q := q) (s := s) (b := s.takenJob q inst e o ts) rfl).1
  unfold State.accept
  rw [hc]
  change PairStands q _ (if o.mp then (s.addJob (s.takenJob q inst e o ts)).2.markHwm
    else (s.addJob (s.takenJob q inst e o ts)).2)
  split
  · exact h.trans ⟨rfl, rfl, rfl⟩
  · exact h

end

/-! ### Doorbells (R174, R175) -/

/-- Between `s` and `t` no job changed, and no pair but `q`. -/
def OthersStand (q : Nat) (s t : State) : Prop := t.jobs = s.jobs ∧ ∀ k, k ≠ q → t.pair k = s.pair k

/-- A mirror line counts in its pair and leaves the module; where none is written nothing changes. -/
theorem State.mirrorIf_cases (s : State) (q before : Nat) : s.mirrorIf q before = s ∨
    ∃ n o, s.mirrorIf q before = (s.setPair q { s.pair q with mirrorSeq := n }).emit o := by
  unfold State.mirrorIf State.mirror
  split
  · exact .inl rfl
  · split
    · exact .inl rfl
    · exact .inr ⟨_, _, rfl⟩

/-- A pair that is stored, with its mirror line, changes in nothing else but the number of mirror lines. -/
theorem State.setPair_mirrorIf (s : State) (q : Nat) (p : QPair) (before : Nat) :
    ∃ n, OthersStand q s ((s.setPair q p).mirrorIf q before) ∧
      ((s.setPair q p).mirrorIf q before).pair q = { p with mirrorSeq := n } := by
  have hp := s.pair_setPair_same q p
  rcases (s.setPair q p).mirrorIf_cases q before with h | ⟨n, o, h⟩
  · rw [h]
    exact ⟨p.mirrorSeq, ⟨rfl, fun k hk => s.pair_setPair_other p hk⟩, hp⟩
  · rw [h, hp]
    refine ⟨n, ⟨rfl, fun k hk => ?_⟩, (s.setPair q p).pair_setPair_same q _⟩
    exact ((s.setPair q p).pair_setPair_other _ hk).trans (s.pair_setPair_other p hk)

section
variable {s : State} {fn pair q : Nat} (v : Reg)

theorem dbSqTail_unmapped (hd : s.doorPair fn pair = none) : answers (.dbSqTail fn pair v) s fun t => t = s :=
  ⟨s, show execDbSqTail fn pair v s = .next s by simp [execDbSqTail, hd], rfl⟩

theorem dbCqHead_unmapped (hd : s.doorPair fn pair = none) : answers (.dbCqHead fn pair v) s fun t => t = s :=
  ⟨s, show execDbCqHead fn pair v s = .next s by simp [execDbCqHead, hd], rfl⟩

section
variable (hd : s.doorPair fn pair = some q)
include hd

theorem dbSqTail_disabled (he : (s.pair q).enabled = false) : answers (.dbSqTail fn pair v) s fun t => t = s :=
  ⟨s, show execDbSqTail fn pair v s = .next s by simp [execDbSqTail, hd, he], rfl⟩

/-- In phase mode the doorbell wakes the pair (R182). -/
theorem dbSqTail_wakes (he : (s.pair q).enabled = true) (hph : s.qPhase q = true) :
    answers (.dbSqTail fn pair v) s fun t => (t.pair q).armed = true ∧ OthersStand q s t := by
  obtain ⟨n, ho, hp⟩ := s.setPair_mirrorIf q { s.pair q with armed := true } (s.qStatus q)
  refine ⟨_, show execDbSqTail fn pair v s = .next _ by simp only [execDbSqTail, hd, he, hph]; rfl, ?_, ho⟩
  rw [hp]

/-- The tail moves within the ring; a value beyond it sets DB_ERR. -/
theorem dbSqTail_moves (he : (s.pair q).enabled = true) (hph : s.qPhase q = false) :
    answers (.dbSqTail fn pair v) s fun t => OthersStand q s t ∧
      (t.pair q).sqTail = (if v.toNat % 65536 < s.sqSize q then v.toNat % 65536 else (s.pair q).sqTail) ∧
      (t.pair q).dbErr = ((s.pair q).dbErr || decide (s.sqSize q ≤ v.toNat % 65536)) := by
  by_cases hin : v.toNat % 65536 < s.sqSize q
  · obtain ⟨n, ho, hp⟩ := s.setPair_mirrorIf q
      { s.pair q with sqTail := v.toNat % 65536, partialEntry := false } (s.qStatus q)
    refine ⟨_, show execDbSqTail fn pair v s = .next _ by
      simp only [execDbSqTail, hd, he, hph, ge_iff_le, not_le.mpr hin]; rfl, ho, ?_, ?_⟩
    · rw [hp, if_pos hin]
    · rw [hp, decide_eq_false (not_le.mpr hin), Bool.or_false]
  · refine ⟨s.setPair q { s.pair q with dbErr := true }, show execDbSqTail fn pair v s = .next _ by
      simp [execDbSqTail, hd, he, hph, not_lt.mp hin], ⟨rfl, fun k hk => s.pair_setPair_other _ hk⟩, ?_, ?_⟩
    · rw [State.pair_setPair_same, if_neg hin]
    · rw [State.pair_setPair_same, decide_eq_true (not_lt.mp hin), Bool.or_true]

theorem dbCqHead_disabled (he : (s.pair q).enabled = false) (hdr : (s.pair q).draining = false) :
    answers (.dbCqHead fn pair v) s fun t => t = s :=
  ⟨s, show execDbCqHead fn pair v s = .next s by simp [execDbCqHead, hd, he, hdr], rfl⟩

/-- The head moves up to the tail; a value beyond it sets DB_ERR. -/
theorem dbCqHead_moves (he : (s.pair q).enabled = true ∨ (s.pair q).draining = true) :
    let p := s.pair q
    let head := v.toNat % 65536
    let n := s.cqSize q
    if head < n ∧ (head + n - p.cqHead) % n ≤ (p.cqTail + n - p.cqHead) % n
    then answers (.dbCqHead fn pair v) s fun t => (t.pair q).cqHead = head ∧ t.jobs = s.jobs
    else answers (.dbCqHead fn pair v) s fun t => t = s.setPair q { p with dbErr := true } := by
  intro p head n
  have hopen : ¬(!((s.pair q).enabled || (s.pair q).draining)) = true := by
    rcases he with he | he <;> simp [he]
  split
  · rename_i hin
    have hrange : ¬(head ≥ n ∨ (head + n - p.cqHead) % n > (p.cqTail + n - p.cqHead) % n) := by omega
    have hstands := ((((PairStands.refl q (s.setPair q { p with cqHead := head })).useSpace q).checkUnstall q).checkIdle
      q).mirrorIf q (s.qStatus q)
    refine ⟨_, show execDbCqHead fn pair v s = .next _ by
      unfold execDbCqHead
      rw [hd]
      exact (if_neg hopen).trans (if_neg hrange), ?_, hstands.jobs⟩
    rw [hstands.cqHead, State.pair_setPair_same]
  · rename_i hout
    have hrange : head ≥ n ∨ (head + n - p.cqHead) % n > (p.cqTail + n - p.cqHead) % n := by omega
    refine ⟨_, show execDbCqHead fn pair v s = .next _ by
      unfold execDbCqHead
      rw [hd]
      exact (if_neg hopen).trans (if_pos hrange), rfl⟩

end
end

/-! ### Fetching (R167, R181 to R188, R677) -/

section
variable {s : State} {q : Nat} {entry : Bytes} (params table : Option Bytes)

/-- A whole entry waits at the head of pair `q`: by its phase bit, or by the doorbelled tail. -/
def State.entryWaits (s : State) (q : Nat) (entry : Bytes) : Prop :=
  if s.qPhase q then (s.pair q).armed = true ∧ bitAt (leAt entry 8 2) 15 = s.lapPhase q
  else 0 < s.sqFilled q ∧ entryUnits (s.qFmt2 q) entry ≤ s.sqFilled q

/-- The state in which the entry at the head of pair `q` is dealt with: the head stands past it, and the mirror line
says so. -/
def State.fetched (s : State) (q : Nat) (entry : Bytes) : State :=
  (s.advanceHead q (entryUnits (s.qFmt2 q) entry)).mirror q

/-- What becomes of a fetched entry: completed ABORTED where the pair drains, completed with its fault where it is
malformed, taken in otherwise. -/
def State.disposeEntry (s : State) (q : Nat) (entry : Bytes) (params table : Option Bytes) : State :=
  if (s.pair q).draining then
    (s.fetched q entry).complete (.queue q) (s.pair q).owner (bareEntry entry) { status := stABORTED }
  else match parseEntry (s.qFmt2 q) entry params table with
    | .error st => ((s.fetched q entry).bump aQ_REJECT_CNT q).complete (.queue q) (s.pair q).owner (bareEntry entry)
      { status := st }
    | .ok e => (s.fetched q entry).accept (.queue q) (s.pair q).owner e

theorem State.fetched_nextJob (s : State) (q : Nat) (entry : Bytes) : (s.fetched q entry).nextJob = s.nextJob := by
  unfold State.fetched State.mirror
  split <;> rfl

theorem State.fetched_stands (s : State) (q : Nat) (entry : Bytes) :
    PairStands q (s.advanceHead q (entryUnits (s.qFmt2 q) entry)) (s.fetched q entry) :=
  (PairStands.refl q _).mirror q

theorem State.fetched_job (s : State) (q : Nat) (entry : Bytes) (i : Nat) : (s.fetched q entry).job i = s.job i :=
  job_of_jobs (s := s) (s.fetched_stands q entry).jobs i

theorem State.fetched_sqHead (s : State) (q : Nat) (entry : Bytes) : ((s.fetched q entry).pair q).sqHead =
    ((s.pair q).sqHead + entryUnits (s.qFmt2 q) entry) % s.sqSize q := by
  rw [(s.fetched_stands q entry).sqHead]
  unfold State.advanceHead
  rw [State.pair_onPair_same]

/-- Where fetching is open and a whole entry waits, it is disposed of, and its pair stands after that. -/
theorem entryFetch_disposes (hopen : s.fetchOpen q = true) (hw : s.entryWaits q entry) :
    answers (.entryFetch q entry params table) s (PairStands q (s.disposeEntry q entry params table)) := by
  have hvalid : (if s.qPhase q then (s.pair q).armed && bitAt (leAt entry 8 2) 15 == s.lapPhase q
      else 0 < s.sqFilled q && entryUnits (s.qFmt2 q) entry ≤ s.sqFilled q : Bool) = true := by
    unfold State.entryWaits at hw
    split at hw <;> rename_i hph <;> simp [hph, hw.1, hw.2]
  refine ⟨_, show execEntryFetch q entry params table s = .next _ by
    unfold execEntryFetch
    exact (if_neg (by simp [hopen])).trans (if_neg (Bool.eq_false_iff.mp (congrArg not hvalid))), ?_⟩
  exact ((PairStands.refl q (s.disposeEntry q entry params table)).checkStall.checkIdle q).mirrorIf q _

theorem entryFetch_closed (hopen : s.fetchOpen q = false) : answers (.entryFetch q entry params table) s fun t => t = s :=
  ⟨s, show execEntryFetch q entry params table s = .next s by simp [execEntryFetch, hopen], rfl⟩

/-- An entry of a pair that drains leaves no job. -/
theorem entryFetch_draining (hopen : s.fetchOpen q = true) (hw : s.entryWaits q entry) (hdr : (s.pair q).draining = true) :
    answers (.entryFetch q entry params table) s fun t => t.job s.nextJob = none ∧ otherJobsKept s t s.nextJob := by
  obtain ⟨t, ht, h⟩ := entryFetch_disposes params table hopen hw
  unfold State.disposeEntry at h
  rw [if_pos hdr] at h
  obtain ⟨b, hb⟩ := (s.fetched q entry).complete_queue q (s.pair q).owner (bareEntry entry) { status := stABORTED }
  obtain ⟨hnone, hothers⟩ := (hb.trans h).jobGone
  rw [s.fetched_nextJob] at hnone hothers
  exact ⟨t, ht, hnone, fun i hi => (hothers i hi).trans (s.fetched_job q entry i)⟩

/-- A malformed entry is counted and leaves no job, and the head moves past it. -/
theorem entryFetch_malformed {st : Nat} (hopen : s.fetchOpen q = true) (hw : s.entryWaits q entry)
    (hdr : (s.pair q).draining = false) (hbad : parseEntry (s.qFmt2 q) entry params table = .error st) :
    answers (.entryFetch q entry params table) s fun t => t.job s.nextJob = none ∧
      (t.pair q).sqHead = ((s.pair q).sqHead + entryUnits (s.qFmt2 q) entry) % s.sqSize q ∧
      t.cnt aQ_REJECT_CNT q = (s.cnt aQ_REJECT_CNT q + 1) % 2 ^ 32 := by
  obtain ⟨t, ht, h⟩ := entryFetch_disposes params table hopen hw
  unfold State.disposeEntry at h
  rw [if_neg (by simp [hdr]), hbad] at h
  obtain ⟨b, hb⟩ := ((s.fetched q entry).bump aQ_REJECT_CNT q).complete_queue q (s.pair q).owner (bareEntry entry)
    { status := st }
  have hall := hb.trans h
  refine ⟨t, ht, s.fetched_nextJob q entry ▸ hall.jobGone.1, hall.sqHead.trans (s.fetched_sqHead q entry), ?_⟩
  rw [hall.rejects]
  refine ((s.fetched q entry).cnt_bumpBy_same aQ_REJECT_CNT q 1).trans ?_
  rw [(s.fetched_stands q entry).rejects]
  rfl

/-- An entry that passes its checks becomes the next job, and the head moves past it. -/
theorem entryFetch_passes {e : Entry} {o : OpInfo} {ts : List Tlv} (hopen : s.fetchOpen q = true) (hw : s.entryWaits q entry)
    (hdr : (s.pair q).draining = false) (hgood : parseEntry (s.qFmt2 q) entry params table = .ok e)
    (hc : (s.fetched q entry).check (.queue q) (s.pair q).owner e = .passed o ts) :
    answers (.entryFetch q entry params table) s fun t =>
      (t.pair q).sqHead = ((s.pair q).sqHead + entryUnits (s.qFmt2 q) entry) % s.sqSize q ∧
      t.jobs = tset s.jobs s.nextJob ((s.fetched q entry).takenJob q (s.pair q).owner e o ts) := by
  obtain ⟨t, ht, h⟩ := entryFetch_disposes params table hopen hw
  unfold State.disposeEntry at h
  rw [if_neg (by simp [hdr]), hgood] at h
  have hall := (State.accept_queue hc).trans h
  refine ⟨t, ht, hall.sqHead.trans (s.fetched_sqHead q entry), ?_⟩
  rw [hall.jobs, ← s.fetched_nextJob q entry]
  exact congrArg (tset · _ _) (s.fetched_stands q entry).jobs

/-- The SQ that cannot be read is an error of its pair (R170). -/
theorem sqReadFailed_answers (hopen : s.fetchOpen q = true) (hw : s.sqWaiting q = true ∨ s.qPhase q = true)
    (he : (s.pair q).enabled = true) :
    answers (.sqReadFailed q) s fun t => (t.pair q).error = true ∧ t.jobs = s.jobs := by
  have hset := s.pair_setPair_same q { s.pair q with error := true }
  have h := (((PairStands.refl q (s.setPair q { s.pair q with error := true })).mirror q).postEvent (s.pair q).owner 4
    (some q) 1 (s.pair q).sqHead).checkIdle q
  refine ⟨_, if_pos ⟨hopen, hw⟩, ?_, h.jobs⟩
  rw [h.error (by rw [hset]; exact he), hset]

/-- A poll arms the pair when the unit at its head is of this lap (R181, R182). -/
theorem phasePoll_answers (unit : Bytes) (he : (s.pair q).enabled = true) (hph : s.qPhase q = true) (hk : s.qKind q = 0)
    (hd : s.inD3 (s.pair q).owner = false) (herr : (s.pair q).error = false) :
    answers (.phasePoll q unit) s fun t =>
      OthersStand q s t ∧ (t.pair q).armed = (bitAt (leAt unit 8 2) 15 == s.lapPhase q) := by
  obtain ⟨n, ho, hp⟩ := s.setPair_mirrorIf q
    { s.pair q with armed := bitAt (leAt unit 8 2) 15 == s.lapPhase q } (s.qStatus q)
  refine ⟨_, if_pos ⟨he, hph, hk, by simp [hd], by simp [herr]⟩, ho, ?_⟩
  exact congrArg (·.armed) hp

end

/-- A fenced job goes on when no earlier entry of its queue is left (R677). -/
theorem fenceRelease_answers {s : State} {j : Nat} {b : Job} (hj : s.job j = some b) (hph : b.phase = .fenced)
    (hfirst : ∀ e ∈ s.jobs, e.2.src = b.src → b.seqInQueue ≤ e.2.seqInQueue) :
    answers (.fenceRelease j) s fun t =>
      t.job j = some { b with phase := if b.isMp then .slow else .fifo } ∧ otherJobsKept s t j ∧ t.pairs = s.pairs := by
  have hclear : (s.jobs.all fun e => e.2.src != b.src || e.2.seqInQueue ≥ b.seqInQueue) = true := by
    rw [List.all_eq_true]
    intro e he
    by_cases hsrc : e.2.src = b.src <;> simp [hsrc, hfirst e he]
  refine ⟨_, show execFenceRelease j s = .next _ by
    unfold execFenceRelease
    rw [hj]
    exact if_pos ⟨hph, hclear⟩, s.job_setJob_same j _, fun i hi => s.job_setJob_other _ hi, rfl⟩

/-! ### A tenant's setup words (R155, R156) -/

theorem bitAt_toNat (v : Reg) (i : Nat) : bitAt v.toNat i = v.getLsbD i := by
  unfold bitAt BitVec.getLsbD
  rw [Nat.testBit_eq_decide_div_mod_eq]
  rfl

/-- The setup words of a pair once `v` is written to the one of register `r` (R156, R208). -/
def QPair.storeWord (p : QPair) (r : Nat) (v : Reg) : Tab Reg :=
  tput p.setup (dbOffset r) (BitVec.ofNat 32 (qMask r).1 &&& v) (BitVec.ofNat 32 (qMask r).2)

/-- A setup word is refused by a pair that is enabled or drains, and else stored: with no low word held beside it, at once. -/
theorem State.setupWrite_eq (s : State) {q r : Nat} (v : Reg) (hr : r ∉ wideRegs)
    (hl : tget (s.pair q).lowHeld (r - 4) = none) : s.setupWrite q r v = s.setPair q
      (if (s.pair q).enabled || (s.pair q).draining then { s.pair q with wrIgnored := true }
        else { s.pair q with setup := (s.pair q).storeWord r v }) := by
  unfold State.setupWrite
  simp only [Bool.or_eq_true]
  split
  · rfl
  · exact s.putWide_plain _ _ hr (.inr hl)

section
variable {s : State} {fn pair q : Nat} (v : Reg) (hq : s.tenantPair fn pair = some q)
include hq

/-- A write of DB_CTL that sets ENABLE of a disabled, IDLE pair is a request; any other write is a plain one. -/
theorem exec_tenantEnableRequest : exec (.tenantEnableRequest fn pair v) s =
    if (s.pair q).enabled = false ∧ (s.pair q).idle = true ∧ v.getLsbD 0 = true then .next (s.askSetup q aQ_CTL v .enable)
    else .next (s.setupWrite q aQ_CTL v) := by
  change execTenantEnableRequest fn pair v s = _
  unfold execTenantEnableRequest
  rw [hq]
  simp only [bitAt_toNat, Bool.not_eq_true']

/-- A write of DB_CTL that clears ENABLE of an enabled pair is a request; any other write is a plain one. -/
theorem exec_tenantDisableRequest : exec (.tenantDisableRequest fn pair v) s =
    if (s.pair q).enabled = true ∧ v.getLsbD 0 = false then .next (s.askSetup q aQ_CTL v .disable)
    else .next (s.setupWrite q aQ_CTL v) := by
  change execTenantDisableRequest fn pair v s = _
  unfold execTenantDisableRequest
  rw [hq]
  simp only [bitAt_toNat, Bool.not_eq_true']

/-- A write of DB_VECTOR or DB_MOD of an enabled pair is a request; any other write is a plain one. -/
theorem exec_tenantInterruptChange (vector : Bool) : exec (.tenantInterruptChange fn pair vector v) s =
    if (s.pair q).enabled = true then .next (s.askSetup q (if vector then aQ_VECTOR else aQ_MOD) v .interrupt)
    else .next (s.setupWrite q (if vector then aQ_VECTOR else aQ_MOD) v) := by
  change execTenantInterruptChange fn pair vector v s = _
  unfold execTenantInterruptChange
  rw [hq]

end

/-- Settles O32: each doorbell, fetch and setup write is the lemma on it. -/
theorem queueDoorbellsFetchesAndSetup : Obligations.QueueDoorbellsFetchesAndSetup := by
  unfold Obligations.QueueDoorbellsFetchesAndSetup
  refine ⟨fun s q => ?_, fun s fn pair q v => ?_⟩
  · intro p others
    refine ⟨fun fn pair v => ?_, fun entry params table => ?_, sqReadFailed_answers, phasePoll_answers,
      fun j b => fenceRelease_answers⟩
    · exact ⟨fun hd => ⟨dbSqTail_unmapped v hd, dbCqHead_unmapped v hd⟩, fun hd => ⟨dbSqTail_disabled v hd,
        dbCqHead_disabled v hd, dbSqTail_wakes v hd, dbSqTail_moves v hd, dbCqHead_moves v hd⟩⟩
    · exact ⟨entryFetch_closed params table, fun hopen hw => ⟨entryFetch_draining params table hopen hw,
        fun st => entryFetch_malformed params table hopen hw, fun e o ts => entryFetch_passes params table hopen hw⟩⟩
  · intro p word stored asked written r
    have hctl {t : State} (ht : t = s.setupWrite q aQ_CTL v) : written aQ_CTL t :=
      fun hl => ht.trans (s.setupWrite_eq v (by decide) hl)
    refine ⟨fun hq => ⟨fun he hi hv => ?_, fun h => ?_, fun he hv => ?_, fun h => ?_,
      fun vector => ⟨fun he => ?_, fun he => ?_⟩⟩, ⟨s, rfl, rfl⟩, ⟨s, rfl, rfl⟩, fun vector => ⟨s, rfl, rfl⟩⟩
    · exact ⟨_, (exec_tenantEnableRequest v hq).trans (if_pos ⟨he, hi, hv⟩), rfl⟩
    · refine ⟨_, (exec_tenantEnableRequest v hq).trans (if_neg fun ⟨he, hi, hv⟩ => ?_), hctl rfl⟩
      rcases h with h | h | h
      · exact Bool.false_ne_true (he.symm.trans h)
      · exact Bool.false_ne_true (h.symm.trans hi)
      · exact Bool.false_ne_true (h.symm.trans hv)
    · exact ⟨_, (exec_tenantDisableRequest v hq).trans (if_pos ⟨he, hv⟩), rfl⟩
    · refine ⟨_, (exec_tenantDisableRequest v hq).trans (if_neg fun ⟨he, hv⟩ => ?_), hctl rfl⟩
      rcases h with h | h
      · exact Bool.false_ne_true (h.symm.trans he)
      · exact Bool.false_ne_true (hv.symm.trans h)
    · exact ⟨_, (exec_tenantInterruptChange v hq vector).trans (if_pos he), rfl⟩
    · refine ⟨_, (exec_tenantInterruptChange v hq vector).trans (if_neg (Bool.eq_false_iff.mp he)), fun hl => ?_⟩
      exact s.setupWrite_eq v (by cases vector <;> decide) hl

end Sys2Proof.Machine
end


section
/-! What the commands of the engines keep: the waiting commands, the update counter and the microcode floors, which only
rise, the outbox, which only grows, and the canonical form of the operand memories. A lemma for each way a command runs
comes first, then one for each command; the lemmas on the shared operations close its branches. -/

namespace Sys2Proof.Machine

/-- The command answers a next state that keeps what stood before. -/
def Kept.after (r : Kept) (o : Result) : Prop := ∃ t, o = .next t ∧ r.of t

theorem Kept.next {r : Kept} {t : State} (h : r.of t) : r.after (.next t) := ⟨t, rfl, h⟩

@[simp] theorem Kept.after_next (r : Kept) (t : State) : r.after (.next t) ↔ r.of t :=
  ⟨fun ⟨u, hu, h⟩ => by cases hu; exact h, Kept.next⟩

theorem Kept.after_ite {r : Kept} {c : Prop} [Decidable c] {a b : Result} (ha : r.after a) (hb : r.after b) :
    r.after (if c then a else b) := by split <;> assumption

theorem foldl_kept_via {α β : Type} (r : Kept) (p : β → State) (f : β → α → β)
    (hf : ∀ a x, r.of (p a) → r.of (p (f a x))) : ∀ (l : List α) (a : β), r.of (p a) → r.of (p (l.foldl f a))
  | [], _, h => h
  | x :: l, a, h => foldl_kept_via r p f hf l _ (hf a x h)

section
variable {kr : Kept} {s : State} (hk : kr.of s)
include hk

/-! ### Ways to run a command -/

theorem runJob_kept (j code : Nat) (f : State → Job → State × Ending) (hf : ∀ b, kr.of (f s b).1) :
    kr.after (runJob s j code f) := by
  unfold runJob
  repeat' split
  all_goals simp [hk, hf]

theorem runHybrid_kept (j code : Nat) (f : State → Job → State × Ending) (hf : ∀ b, kr.of (f s b).1) :
    kr.after (runHybrid s j code f) := by
  unfold runHybrid
  repeat' split
  all_goals simp [hk, hf]

theorem runMp_kept (j code : Nat) (f : State → Job → State) (hf : ∀ b, kr.of (f s b)) :
    kr.after (runMp s j code f) := by
  unfold runMp
  repeat' split
  all_goals simp [hk, hf]

theorem runDirect_kept (j code : Nat) (f : State → Job → State) (hf : ∀ b, kr.of (f s b)) :
    kr.after (runDirect s j code f) := by
  unfold runDirect
  repeat' split
  all_goals simp [hk, hf]

theorem seJob_kept (j code : Nat) (f : State → Job → State × Ending) (hf : ∀ s b, kr.of s → kr.of (f s b).1) :
    kr.after (seJob s j code f) :=
  runJob_kept hk j code _ fun b => hf _ b (State.bump64_kept kr s _ _ _ hk)

theorem runKeygen_kept (j code : Nat) (known : State → Job → Bool) (f : State → Job → State × Ending)
    (hf : ∀ b, kr.of (f s b).1) : kr.after (runKeygen s j code known f) := by
  unfold runKeygen
  dsimp only
  repeat' split
  · simp [hf]
  · simp [hk]
  · simp [hf]
  · refine (Kept.after_next _ _).2 (State.onJob_kept kr _ _ _ (foldl_kept kr _ (fun s _ h => ?_) _ _ hk))
    exact State.addJob_kept kr s _ h
  · simpa using hk
  · simpa using hk

/-! ### Big numbers, RSA and curves -/

theorem execBnModexp_kept (j : Nat) : kr.after (execBnModexp j s) :=
  runJob_kept hk _ _ _ fun b => by simp [hk]

theorem execBnModmul_kept (j : Nat) : kr.after (execBnModmul j s) :=
  runJob_kept hk _ _ _ fun b => by simp [hk]

theorem execBnModinv_kept (j : Nat) : kr.after (execBnModinv j s) :=
  runJob_kept hk _ _ _ fun b => by simp [hk]

theorem execRsaKeygen_kept (j : Nat) : kr.after (execRsaKeygen j s) :=
  runJob_kept hk _ _ _ fun _ => hk

theorem execRsaPrivate_kept (j : Nat) : kr.after (execRsaPrivate j s) := by
  unfold execRsaPrivate
  repeat' split
  all_goals simp [hk]

theorem execRsaRegenerationDone_kept (j : Nat) : kr.after (execRsaRegenerationDone j s) := by
  unfold execRsaRegenerationDone
  dsimp only
  repeat' split
  · simpa using hk
  · exact Kept.next (State.regenerated_kept kr _ _ (State.sealKey_kept kr _ _ _ _ _ (by simp [hk])))
  · simpa using hk

theorem execRsaPublic_kept (j : Nat) : kr.after (execRsaPublic j s) :=
  runJob_kept hk _ _ _ fun b => by
    dsimp only
    repeat' split
    all_goals simp [hk]

theorem execEcKeygen_kept (j : Nat) : kr.after (execEcKeygen j s) :=
  runJob_kept hk _ _ _ fun _ => hk

theorem execEcdsaSign_kept (j : Nat) (data : Bytes) : kr.after (execEcdsaSign j data s) :=
  runJob_kept hk _ _ _ fun b => by
    split <;> simp [hk]

theorem execEcdsaVerify_kept (j : Nat) (data : Bytes) : kr.after (execEcdsaVerify j data s) :=
  runJob_kept hk _ _ _ fun b => by
    split <;> simp [hk]

theorem execEcdh_kept (j : Nat) : kr.after (execEcdh j s) :=
  runJob_kept hk _ _ _ fun b => by simp [hk]

theorem execX25519_kept (j : Nat) : kr.after (execX25519 j s) :=
  runJob_kept hk _ _ _ fun b => by simp [hk]

theorem execX448_kept (j : Nat) : kr.after (execX448 j s) :=
  runJob_kept hk _ _ _ fun b => by simp [hk]

theorem execEddsaSign_kept (j : Nat) (data : Bytes) : kr.after (execEddsaSign j data s) :=
  runJob_kept hk _ _ _ fun _ => hk

theorem execEddsaVerify_kept (j : Nat) (data : Bytes) : kr.after (execEddsaVerify j data s) :=
  runJob_kept hk _ _ _ fun b => by simp [hk]

/-! ### Code-based opcodes -/

theorem execMceKeygen_kept (j : Nat) : kr.after (execMceKeygen j s) :=
  runJob_kept hk _ _ _ fun _ => hk

theorem execMceEncaps_kept (j : Nat) : kr.after (execMceEncaps j s) :=
  runJob_kept hk _ _ _ fun b => by
    dsimp only
    repeat' split
    all_goals simp [hk]

theorem execMceDecaps_kept (j : Nat) : kr.after (execMceDecaps j s) := by
  unfold execMceDecaps
  repeat' split
  all_goals simp [hk]

theorem execMceRegenerationDone_kept (j : Nat) : kr.after (execMceRegenerationDone j s) := by
  unfold execMceRegenerationDone
  dsimp only
  repeat' split
  · simpa using hk
  · exact Kept.next (State.regenerated_kept kr _ _ (State.sealKey_kept kr _ _ _ _ _ (by simp [hk])))
  · simpa using hk

theorem execHqcKeygen_kept (j : Nat) : kr.after (execHqcKeygen j s) :=
  runJob_kept hk _ _ _ fun _ => hk

theorem execHqcEncaps_kept (j : Nat) : kr.after (execHqcEncaps j s) :=
  runJob_kept hk _ _ _ fun b => by
    dsimp only
    split <;> simp [hk]

theorem execHqcDecaps_kept (j : Nat) : kr.after (execHqcDecaps j s) :=
  runJob_kept hk _ _ _ fun _ => hk

/-! ### Ciphers and digests -/

theorem State.ivOf_kept (b : Job) : kr.of (s.ivOf b).2.1 := by
  unfold State.ivOf
  split <;> simp [hk]

theorem finishJob_kept (b : Job) (data : Bytes) (f : State → Bytes → CtxEffect → State × Ending)
    (hf : ∀ s d e, kr.of s → kr.of (f s d e).1) : kr.of (finishJob s b data f).1 := by
  unfold finishJob
  repeat' split
  · exact hf _ _ _ (State.deBlocks_kept kr s b _ _ hk)
  · exact hk
  · exact hk

theorem execAesGcmEnc_kept (j : Nat) (data : Bytes) : kr.after (execAesGcmEnc j data s) :=
  seJob_kept hk _ _ _ fun _ b hk => State.ivOf_kept hk b

theorem execAesGcmDec_kept (j : Nat) (data : Bytes) : kr.after (execAesGcmDec j data s) :=
  seJob_kept hk _ _ _ fun s b hk => by simp [ite_kept, hk]

theorem execAesCtr_kept (j : Nat) (data : Bytes) : kr.after (execAesCtr j data s) :=
  seJob_kept hk _ _ _ fun _ _ hk => hk

theorem execAesCbcEnc_kept (j : Nat) (data : Bytes) : kr.after (execAesCbcEnc j data s) :=
  seJob_kept hk _ _ _ fun _ _ hk => hk

theorem execAesCbcDec_kept (j : Nat) (data : Bytes) : kr.after (execAesCbcDec j data s) :=
  seJob_kept hk _ _ _ fun _ _ hk => hk

theorem execAesXtsEnc_kept (j : Nat) (data : Bytes) : kr.after (execAesXtsEnc j data s) :=
  seJob_kept hk _ _ _ fun s b hk => by simp [hk]

theorem execAesXtsDec_kept (j : Nat) (data : Bytes) : kr.after (execAesXtsDec j data s) :=
  seJob_kept hk _ _ _ fun s b hk => by simp [hk]

theorem execAesCmac_kept (j : Nat) (data : Bytes) : kr.after (execAesCmac j data s) :=
  seJob_kept hk _ _ _ fun s b hk => by simp [hk]

theorem execAesGmac_kept (j : Nat) (data : Bytes) : kr.after (execAesGmac j data s) :=
  seJob_kept hk _ _ _ fun _ b hk => tagEnd_kept kr _ b _ _ (State.ivOf_kept hk b)

theorem execDigestUpdate_kept (j : Nat) (data : Bytes) : kr.after (execDigestUpdate j data s) := by
  unfold execDigestUpdate
  split
  · split
    · simpa using hk
    · refine runJob_kept hk _ _ _ fun b => ?_
      repeat' split
      all_goals simp [hk]
  · simpa using hk

theorem execDigestRelease_kept (j : Nat) : kr.after (execDigestRelease j s) := by
  unfold execDigestRelease
  split
  · split
    · exact runJob_kept hk _ _ _ fun _ => hk
    · simpa using hk
  · simpa using hk

theorem execDigestFinal_kept (j : Nat) (data : Bytes) : kr.after (execDigestFinal j data s) :=
  runJob_kept hk _ _ _ fun b => finishJob_kept hk b data _ fun _ _ _ h => h

theorem execMacVerify_kept (j : Nat) (data : Bytes) : kr.after (execMacVerify j data s) :=
  runJob_kept hk _ _ _ fun b => finishJob_kept hk b data _ fun s d e h => compareEnd_kept kr s b d e h

theorem execDigestSave_kept (j : Nat) : kr.after (execDigestSave j s) :=
  runJob_kept hk _ _ _ fun b => by
    repeat' split
    all_goals simp [hk]

theorem execDigestRestore_kept (j : Nat) : kr.after (execDigestRestore j s) :=
  runJob_kept hk _ _ _ fun b => by
    dsimp only
    split <;> simp [hk]

theorem execDigestOneshot_kept (j : Nat) (data : Bytes) : kr.after (execDigestOneshot j data s) :=
  runJob_kept hk _ _ _ fun b => by
    repeat' split
    all_goals simp [hk]

/-! ### Lattice opcodes -/

theorem signJob_kept (j code : Nat) (data : Bytes) : kr.after (signJob s j code data) := by
  have drawn : ∀ b, kr.of
      (((s.expandKey b 0x11 b.signSet true).signMessage b data).2.signDraw b
        ((s.expandKey b 0x11 b.signSet true).signMessage b data).1).1 := fun b =>
    State.signDraw_kept kr _ b _ (State.signMessage_kept kr _ b data (State.expandKey_kept kr s b _ _ _ hk))
  unfold signJob
  dsimp only
  repeat' split
  · simpa using hk
  · exact Kept.next (State.endJob_kept kr _ _ _ (State.signEnd_kept kr _ _ _ _ _
      (State.countAttempts_kept kr _ _ _ (drawn _))))
  · exact Kept.next (State.setJob_kept kr _ _ _ (State.countAttempts_kept kr _ _ _ (drawn _)))
  · simpa using hk

theorem execMlkemKeygen_kept (j : Nat) : kr.after (execMlkemKeygen j s) :=
  runJob_kept hk _ _ _ fun b => by simp [hk]

theorem execMlkemEncaps_kept (j : Nat) : kr.after (execMlkemEncaps j s) :=
  runJob_kept hk _ _ _ fun b => by
    dsimp only
    split <;> simp [hk]

theorem execMlkemDecaps_kept (j : Nat) : kr.after (execMlkemDecaps j s) :=
  runJob_kept hk _ _ _ fun b => by simp [hk]

theorem execMldsaKeygen_kept (j : Nat) : kr.after (execMldsaKeygen j s) :=
  runJob_kept hk _ _ _ fun b => by simp [hk]

theorem execMldsaSign_kept (j : Nat) (data : Bytes) : kr.after (execMldsaSign j data s) := signJob_kept hk _ _ _

theorem execMldsaVerify_kept (j : Nat) (data : Bytes) : kr.after (execMldsaVerify j data s) :=
  runJob_kept hk _ _ _ fun b => by simp [ite_kept, hk]

theorem execFndsaVerify_kept (j : Nat) (data : Bytes) : kr.after (execFndsaVerify j data s) :=
  runJob_kept hk _ _ _ fun _ => hk

theorem execHybridKemEncaps_kept (j : Nat) : kr.after (execHybridKemEncaps j s) :=
  runHybrid_kept hk _ _ _ fun b => by
    dsimp only
    repeat' split
    all_goals simp [hk]

theorem execHybridKemDecaps_kept (j : Nat) : kr.after (execHybridKemDecaps j s) :=
  runHybrid_kept hk _ _ _ fun b => by
    dsimp only
    repeat' split
    all_goals simp [hk]

theorem execCompositeSign_kept (j : Nat) (data : Bytes) : kr.after (execCompositeSign j data s) := signJob_kept hk _ _ _

theorem execCompositeVerify_kept (j : Nat) (data : Bytes) : kr.after (execCompositeVerify j data s) :=
  runJob_kept hk _ _ _ fun b => by
    split <;> simp [hk]

theorem execForkRoundVerdict_kept (j : Nat) : kr.after (execForkRoundVerdict j s) := by
  unfold execForkRoundVerdict
  split
  · simpa using hk
  · split
    · simpa using hk
    · rename_i b _ _ r _
      have counted : kr.of (if r < 50 then s.countAttempts b 1 else s) :=
        ite_kept kr _ _ _ (State.countAttempts_kept kr s b 1 hk) hk
      dsimp only
      generalize (if r < 50 then s.countAttempts b 1 else s) = u at counted ⊢
      split
      · split
        · exact Kept.next (State.yieldPes_kept kr _ b (State.endJob_kept kr _ _ _
            (State.signEnd_kept kr u b _ _ _ counted)))
        · exact Kept.next (State.setJob_kept kr u _ _ counted)
      · simpa using hk

/-! ### Vector units -/

theorem execVrand_kept (pe : Nat) (o : LvuOp) : kr.after (execVrand pe o s) := by
  unfold execVrand
  split
  · have h := foldl_kept2 kr (fun (a : List Nat × State) (_ : Nat) =>
      ((a.2.drawNat (2 ^ 32)).1 :: a.1, (a.2.drawNat (2 ^ 32)).2)) (fun _ _ h => h) (List.range (lopN o)) ([], s) hk
    exact Kept.next (State.lvuEnd_kept kr _ _ _ _ _ _ _
      (fun hl => lvuDo_mem _ _ _ _ (kept_lvu kr _ pe h hl)) h)
  · simpa using hk

theorem execLvuRestart_kept (pe : Nat) (hw : List (Nat × Nat)) : kr.after (execLvuRestart pe hw s) := by
  unfold execLvuRestart
  split
  · simpa using hk
  · exact Kept.next (State.lvuEnd_kept kr s _ _ _ _ _ _
      (fun hl => lvuDo_mem _ _ _ _ (kept_lvu kr s pe hk hl)) hk)

/-! ### Hash-based opcodes and stateful keys -/

theorem execSlhdsaKeygen_kept (j : Nat) : kr.after (execSlhdsaKeygen j s) :=
  runKeygen_kept hk _ _ _ _ fun _ => hk

theorem execSlhdsaSign_kept (j : Nat) (data : Bytes) : kr.after (execSlhdsaSign j data s) :=
  runJob_kept hk _ _ _ fun b => by
    split <;> simp [hk]

theorem execSlhdsaVerify_kept (j : Nat) (data : Bytes) : kr.after (execSlhdsaVerify j data s) :=
  runJob_kept hk _ _ _ fun _ => hk

theorem execLmsKeygen_kept (j : Nat) : kr.after (execLmsKeygen j s) :=
  runKeygen_kept hk _ _ _ _ fun b => by simp [hk]

theorem execLmsSign_kept (j : Nat) (data : Bytes) : kr.after (execLmsSign j data s) :=
  runJob_kept hk _ _ _ fun b => by simp [hk]

theorem execLmsVerify_kept (j : Nat) (data : Bytes) : kr.after (execLmsVerify j data s) :=
  runJob_kept hk _ _ _ fun _ => hk

theorem execXmssKeygen_kept (j : Nat) : kr.after (execXmssKeygen j s) :=
  runKeygen_kept hk _ _ _ _ fun b => by simp [hk]

theorem execXmssSign_kept (j : Nat) (data : Bytes) : kr.after (execXmssSign j data s) :=
  runJob_kept hk _ _ _ fun b => by simp [hk]

theorem execXmssVerify_kept (j : Nat) (data : Bytes) : kr.after (execXmssVerify j data s) :=
  runJob_kept hk _ _ _ fun _ => hk

theorem execHbsReserveStatus_kept (j : Nat) : kr.after (execHbsReserveStatus j s) :=
  runJob_kept hk _ _ _ fun _ => hk

theorem execBlockReserve_kept (node : Nat) : kr.after (execBlockReserve node s) := by
  unfold execBlockReserve
  repeat' split
  all_goals simp [hk]

theorem execJournalReadback_kept (node : Nat) (ok : Bool) : kr.after (execJournalReadback node ok s) := by
  unfold execJournalReadback
  split
  · simpa using hk
  · rename_i slot r _
    have h := State.clearUnread_kept kr s slot hk
    dsimp only
    generalize s.clearUnread slot = u at h ⊢
    split
    · exact Kept.next (State.appendJournal_kept kr _ _ _ _ _ h)
    · repeat' split
      all_goals simp [h]

theorem execTreeRebuildDone_kept (node : Nat) : kr.after (execTreeRebuildDone node s) := by
  unfold execTreeRebuildDone
  repeat' split
  · exact Kept.next (State.launchRebuild_kept kr _ (State.checkLow_kept kr _ _ (by simp [hk])))
  · simpa using hk
  · simpa using hk

theorem execNextTreeBuilt_kept (tree : KeyTree) : kr.after (execNextTreeBuilt tree s) := by
  unfold execNextTreeBuilt
  repeat' split
  all_goals simp [hk]

theorem execJournalStartupScan_kept : kr.after (execJournalStartupScan s) := by
  unfold execJournalStartupScan
  split
  · simpa using hk
  · exact Kept.next (foldl_kept kr _ (fun s _ h => State.raise_kept kr s _ h) _ _ (State.startRebuilds_kept kr _ hk))

theorem execReserveWaitExpiry_kept (j : Nat) : kr.after (execReserveWaitExpiry j s) := by
  unfold execReserveWaitExpiry
  dsimp only
  repeat' split
  all_goals simp [hk]

/-! ### Microcode -/

theorem execUwNext_kept (cls : EngClass) (eng nptr imm : Nat) : kr.after (execUwNext cls eng nptr imm s) :=
  Kept.next (State.microword_kept kr s _ _ _ _ _ _ (fun _ _ _ => hk) hk)

theorem execUwJump_kept (cls : EngClass) (eng nptr imm : Nat) : kr.after (execUwJump cls eng nptr imm s) :=
  Kept.next (State.microword_kept kr s _ _ _ _ _ _ (fun _ _ _ => hk) hk)

theorem execUwBranch_kept (cls : EngClass) (eng nptr imm : Nat) : kr.after (execUwBranch cls eng nptr imm s) :=
  Kept.next (State.microword_kept kr s _ _ _ _ _ _ (fun b _ _ => State.branchOn_kept kr s _ _ b _ hk) hk)

theorem execUwLoop_kept (cls : EngClass) (eng nptr imm : Nat) : kr.after (execUwLoop cls eng nptr imm s) :=
  Kept.next (State.microword_kept kr s _ _ _ _ _ _ (fun _ _ _ => hk) hk)

theorem execUwCall_kept (cls : EngClass) (eng nptr imm : Nat) : kr.after (execUwCall cls eng nptr imm s) :=
  Kept.next (State.microword_kept kr s _ _ _ _ _ _ (fun _ _ _ => by split <;> exact hk) hk)

theorem execUwReturn_kept (cls : EngClass) (eng nptr imm : Nat) : kr.after (execUwReturn cls eng nptr imm s) :=
  Kept.next (State.microword_kept kr s _ _ _ _ _ _ (fun _ _ _ => by split <;> exact hk) hk)

theorem execUwYield_kept (cls : EngClass) (eng nptr imm : Nat) : kr.after (execUwYield cls eng nptr imm s) := by
  unfold execUwYield
  dsimp only
  split
  · simpa using hk
  · exact Kept.next (State.preemptPoint_kept kr _ _ _ (State.microword_kept kr s _ _ _ _ _ _ (fun _ _ _ => hk) hk))

theorem execUwEnd_kept (cls : EngClass) (eng nptr imm : Nat) : kr.after (execUwEnd cls eng nptr imm s) :=
  Kept.next (State.microword_kept kr s _ _ _ _ _ _ (fun _ _ _ => hk) hk)

theorem execSequencerGuardExpiry_kept (cls : EngClass) (eng : Nat) : kr.after (execSequencerGuardExpiry cls eng s) := by
  unfold execSequencerGuardExpiry
  dsimp only
  repeat' split
  all_goals simp [hk]

theorem execMcodeParity_kept (cls : EngClass) (eng addr : Nat) : kr.after (execMcodeParity cls eng addr s) := by
  unfold execMcodeParity
  dsimp only
  repeat' split
  · exact Kept.next (State.raiseEng_kept kr _ _ _ _ _ (by simp [hk]))
  · simpa using hk
  · simpa using hk

theorem execSegmentReloadDone_kept (k : Nat) (ok : Bool) : kr.after (execSegmentReloadDone k ok s) := by
  unfold execSegmentReloadDone
  repeat' split
  all_goals simp [hk]

theorem execMicrocodeLoad_kept (j : Nat) : kr.after (execMicrocodeLoad j s) :=
  runMp_kept hk _ _ _ fun b => by
    dsimp only
    repeat' split
    · simp [hk]
    · simp [hk]
    · exact hk
    · refine State.withEngine_kept kr s j b _ _ _ _ (fun t ht => ?_) hk
      repeat' split
      · simp [ht]
      · simp [ht]
      · exact State.awaitLoad_kept kr _ _ _ (State.onJob_kept kr _ _ _
          (foldl_kept kr _ (fun s k h => State.onCluster_kept kr s k _ h) _ _ ht))

theorem execMicrocodeDrainEnd_kept (k : Nat) (ok : Bool) : kr.after (execMicrocodeDrainEnd k ok s) := by
  unfold execMicrocodeDrainEnd
  dsimp only
  repeat' split
  all_goals simp [hk]

theorem execStartupMicrocodeLoad_kept (k : Nat) : kr.after (execStartupMicrocodeLoad k s) := by
  unfold execStartupMicrocodeLoad
  dsimp only
  repeat' split
  all_goals simp [hk]

theorem execPeKcFlush_kept (v : Reg) : kr.after (execPeKcFlush v s) :=
  Kept.next (foldl_kept kr _ (fun s _ h => State.flushEntries_kept kr s _ h) _ _ hk)

end

end Sys2Proof.Machine
end

section
/-! What the commands on queues, jobs, sessions, time, random values, keys, instances and streams keep. -/

namespace Sys2Proof.Machine

section
variable {kr : Kept} {s : State} (hk : kr.of s)
include hk

/-! ### Queues -/

theorem execEntryFetch_kept (q : Nat) (entry : Bytes) (params table : Option Bytes) :
    kr.after (execEntryFetch q entry params table s) := by
  have h1 : kr.of ((s.advanceHead q (entryUnits (s.qFmt2 q) entry)).mirror q) := by simp [hk]
  unfold execEntryFetch
  extract_lets fmt2 units phase valid s1 before inst src s2
  have h2 : kr.of s2 := by
    dsimp only [s2]
    split
    · exact State.complete_kept kr s1 _ _ _ _ h1
    · split
      · exact State.complete_kept kr _ _ _ _ _ (State.bump_kept kr s1 _ _ h1)
      · exact State.accept_kept kr s1 _ _ _ h1
  split
  · simpa using hk
  · split
    · simp [hk]
    · exact Kept.next (State.mirrorIf_kept kr _ q before (State.checkIdle_kept kr _ q
        (State.checkStall_kept kr s2 q h2)))

theorem execSqReadFailed_kept (q : Nat) : kr.after (execSqReadFailed q s) := by
  unfold execSqReadFailed
  split
  · exact Kept.next (State.checkIdle_kept kr _ _ (State.postEvent_kept kr _ _ _ _ _ _ (by simp [hk])))
  · simpa using hk

theorem execPhasePoll_kept (q : Nat) (unit : Bytes) : kr.after (execPhasePoll q unit s) := by
  unfold execPhasePoll
  dsimp only
  split <;> simp [hk]

theorem execFenceRelease_kept (j : Nat) : kr.after (execFenceRelease j s) := by
  unfold execFenceRelease
  dsimp only
  repeat' split
  all_goals simp [hk]

theorem execDbSqTail_kept (fn pair : Nat) (v : Reg) : kr.after (execDbSqTail fn pair v s) := by
  unfold execDbSqTail
  dsimp only
  repeat' split
  all_goals simp [hk]

theorem execDbCqHead_kept (fn pair : Nat) (v : Reg) : kr.after (execDbCqHead fn pair v s) := by
  unfold execDbCqHead
  dsimp only
  repeat' split
  · simpa using hk
  · simpa using hk
  · simp [hk]
  · exact Kept.next (State.mirrorIf_kept kr _ _ _ (State.checkIdle_kept kr _ _ (State.checkUnstall_kept kr _ _
      (by simp [hk]))))

theorem execTenantEnableRequest_kept (fn pair : Nat) (v : Reg) : kr.after (execTenantEnableRequest fn pair v s) := by
  unfold execTenantEnableRequest
  dsimp only
  repeat' split
  all_goals simp [hk]

theorem execTenantDisableRequest_kept (fn pair : Nat) (v : Reg) : kr.after (execTenantDisableRequest fn pair v s) := by
  unfold execTenantDisableRequest
  repeat' split
  all_goals simp [hk]

theorem execTenantInterruptChange_kept (fn pair : Nat) (vector : Bool) (v : Reg) :
    kr.after (execTenantInterruptChange fn pair vector v s) := by
  unfold execTenantInterruptChange
  repeat' split
  all_goals simp [hk]

theorem execModerationDue_kept (q : Nat) : kr.after (execModerationDue q s) := by
  unfold execModerationDue
  split <;> simp [hk]

theorem execLinkL0Reached_kept : kr.after (execLinkL0Reached s) := by
  unfold execLinkL0Reached
  split
  · exact Kept.next (foldl_kept kr _ (fun s x h => State.fireVector_kept kr s _ _ h) _ _ hk)
  · simpa using hk

theorem execD0Return_kept (fn : Nat) : kr.after (execD0Return fn s) := by
  unfold execD0Return
  split
  · refine Kept.next (foldl_kept kr _ (fun s q h => State.checkIdle_kept kr s q h) _ _
      (foldl_kept kr _ (fun s q h => State.checkStall_kept kr s q h) _ _ (State.deliverPba_kept kr _ _
        (foldl_kept kr _ (fun s q h => State.moderate_kept kr s q h) _ _
          (foldl_kept kr _ (fun s q h => State.mirror_kept kr s q h) _ _
            (foldl_kept kr _ (fun s q h => State.releaseD3_kept kr s q h) _ _ hk))))))
  · simpa using hk

/-! ### Jobs and berths -/

theorem execMpCommandStart_kept : kr.after (execMpCommandStart s) := by
  unfold execMpCommandStart
  dsimp only
  repeat' split
  all_goals simp [hk]

theorem execDeadlineMissed_kept (j : Nat) : kr.after (execDeadlineMissed j s) := by
  unfold execDeadlineMissed
  repeat' split
  all_goals simp [hk]

theorem execJobComplete_kept (j ns failedChecks : Nat) (dmaFault : Option Nat) :
    kr.after (execJobComplete j ns failedChecks dmaFault s) := by
  have h : kr.of ((s.at_ ns).gangServe 16) := by simp [hk]
  unfold execJobComplete
  generalize (s.at_ ns).gangServe 16 = u at h
  dsimp only
  repeat' split
  all_goals simp [h]

theorem execBerthLeadIn_kept (berth : Nat) : kr.after (execBerthLeadIn berth s) := by
  unfold execBerthLeadIn
  repeat' split
  · simpa using hk
  · simpa using hk
  · exact Kept.next (foldl_kept kr _ (fun s k h => by simp [h]) _ _ hk)

theorem execBerthStart_kept (berth : Nat) : kr.after (execBerthStart berth s) := by
  unfold execBerthStart
  split
  · simpa using hk
  · exact Kept.next (foldl_kept kr _ (fun s k h => State.grant_kept kr s _ _ h) _ _
      (foldl_kept kr _ (fun s k h => State.onEng_kept kr s _ _ h) _ _ (by simp [hk])))

theorem execBerthEnd_kept (berth : Nat) : kr.after (execBerthEnd berth s) := by
  unfold execBerthEnd
  split
  · simpa using hk
  · exact Kept.next (foldl_kept kr _ (fun s k h => State.onEng_kept kr s _ _ h) _ _
      (State.setRun_kept kr _ _ _ (by simp [hk])))

theorem execOwnerArrivalLent_kept (berth j : Nat) : kr.after (execOwnerArrivalLent berth j s) := by
  unfold execOwnerArrivalLent
  dsimp only
  repeat' split
  all_goals simp [hk]

theorem execQuantumExpiry_kept (cls : EngClass) (eng : Nat) : kr.after (execQuantumExpiry cls eng s) := by
  unfold execQuantumExpiry
  dsimp only
  repeat' split
  all_goals simp [hk]

/-! ### Sessions and the management processor -/

theorem execHello_kept (j : Nat) : kr.after (execHello j s) := by
  unfold execHello
  dsimp only
  repeat' split
  all_goals simp [hk]

theorem execCaps_kept (j : Nat) : kr.after (execCaps j s) :=
  runJob_kept hk _ _ _ fun _ => hk

theorem execReadyQuery_kept (j : Nat) : kr.after (execReadyQuery j s) :=
  runJob_kept hk _ _ _ fun _ => hk

theorem execFwStatus_kept (j : Nat) : kr.after (execFwStatus j s) :=
  runJob_kept hk _ _ _ fun _ => hk

theorem execMgmtSessionOpen_kept (client : MgmtEndpoint) (groups suites sigs : List Nat) (clientCertOk : Bool) :
    kr.after (execMgmtSessionOpen client groups suites sigs clientCertOk s) := by
  unfold execMgmtSessionOpen
  dsimp only
  repeat' split
  all_goals simp [hk]
  exact State.emit_kept kr s _ hk

theorem execMgmtPacket_kept (port session : Nat) (packet : Bytes) : kr.after (execMgmtPacket port session packet s) := by
  unfold execMgmtPacket
  dsimp only
  split <;> simp [hk]

theorem execConsoleFrame_kept (frame : Bytes) : kr.after (execConsoleFrame frame s) := by
  unfold execConsoleFrame
  dsimp only
  split <;> simp [hk]

theorem execMpWatchdogExpiry_kept (pair ns : Nat) : kr.after (execMpWatchdogExpiry pair ns s) := by
  have h : kr.of (s.at_ ns) := by simp [hk]
  unfold execMpWatchdogExpiry
  generalize s.at_ ns = u at h
  dsimp only
  repeat' split
  · simpa using h
  · exact Kept.next (State.haltMp_kept kr _ (State.raise_kept kr _ _ h))
  · have h1 : kr.of (u.raise (pairFault pair 0x24 false)).closeAll := by simp [h]
    exact Kept.next h1

theorem execMpRestartDone_kept : kr.after (execMpRestartDone s) := by
  unfold execMpRestartDone
  split
  · simpa using hk
  · exact Kept.next (State.bump_kept kr s.endInterrupted aMP_RESTART_CNT 0 (State.endInterrupted_kept kr s hk))

theorem execMpRestartTimeout_kept : kr.after (execMpRestartTimeout s) := by
  unfold execMpRestartTimeout
  split <;> simp [hk]

theorem execMpLockstep_kept (pair : Nat) : kr.after (execMpLockstep pair s) := by
  unfold execMpLockstep
  split <;> simp [hk]

theorem execMpMgmtEn_kept (v : Reg) : kr.after (execMpMgmtEn v s) := by
  unfold execMpMgmtEn
  exact Kept.next (foldl_kept kr _ (fun s x h => State.closeChannel_kept kr s _ h) _ _ hk)

/-! ### Time -/

theorem execTimeSourceQualified_kept (src : TimeSource) (offsetNs : Int) (tai : Nat) :
    kr.after (execTimeSourceQualified src offsetNs tai s) := by
  unfold execTimeSourceQualified
  dsimp only
  repeat' split
  all_goals simp [hk]

theorem execTimeSourceLost_kept (src : TimeSource) : kr.after (execTimeSourceLost src s) := by
  unfold execTimeSourceLost
  dsimp only
  repeat' split
  all_goals simp [hk]

theorem execSlewLock_kept (offsetNs : Int) : kr.after (execSlewLock offsetNs s) := by
  unfold execSlewLock
  dsimp only
  repeat' split
  all_goals simp [hk]

theorem execPtpMessage_kept (backup : Bool) (m : PtpMessage) : kr.after (execPtpMessage backup m s) := by
  unfold execPtpMessage
  repeat' split
  all_goals simp [hk]

theorem execPpsPulse_kept (gapNs : Nat) : kr.after (execPpsPulse gapNs s) := by
  unfold execPpsPulse
  split <;> simp [hk]

theorem execIrigbFrame_kept (valid : Bool) (utc : Nat) : kr.after (execIrigbFrame valid utc s) := by
  unfold execIrigbFrame
  repeat' split
  all_goals simp [hk]

theorem execXsTimeSet_kept (v : Reg) : kr.after (execXsTimeSet v s) := by
  unfold execXsTimeSet
  dsimp only
  split <;> simp [hk]

/-! ### Manifests -/

theorem execManifestLoad_kept (j : Nat) : kr.after (execManifestLoad j s) :=
  runMp_kept hk _ _ _ fun b => by simp [hk]

theorem execManifestActivate_kept (j : Nat) : kr.after (execManifestActivate j s) :=
  runMp_kept hk _ _ _ fun b => by simp [hk]

theorem execManifestQuery_kept (j : Nat) : kr.after (execManifestQuery j s) :=
  runJob_kept hk _ _ _ fun _ => hk

theorem execManifestRestore_kept : kr.after (execManifestRestore s) := by
  unfold execManifestRestore
  repeat' split
  all_goals simp [hk]

/-! ### Random values -/

theorem execRngGet_kept (j : Nat) : kr.after (execRngGet j s) :=
  runDirect_kept hk _ _ _ fun b => by
    have drawn : kr.of (((s.startDirect j).generate 0 (ceilDiv (tlvNat b.params 0x00D0 0) 4096)).2.drawBytes
        (tlvNat b.params 0x00D0 0)).2 :=
      State.drawBytes_kept kr _ _ (State.generate_kept kr _ _ _ (State.startDirect_kept kr s j hk))
    dsimp only
    repeat' split
    · simp [hk]
    · simp [hk]
    · simp [hk]
    · simp [hk]
    · exact State.endJob_kept kr _ _ _ (State.onJob_kept kr _ _ _ drawn)

theorem execRngStatus_kept (j : Nat) : kr.after (execRngStatus j s) :=
  runDirect_kept hk _ _ _ fun b => by
    split <;> simp [hk]

theorem execRngData_kept (fn : Nat) : kr.after (execRngData fn s) := by
  unfold execRngData
  split <;> simp [hk]

theorem execRngBufferRefill_kept (fn : Nat) : kr.after (execRngBufferRefill fn s) := by
  unfold execRngBufferRefill
  split
  · exact Kept.next (State.setRngWords_kept kr _ _ _ (by simp [hk]))
  · simpa using hk

theorem execRngWaitExpiry_kept (j : Nat) : kr.after (execRngWaitExpiry j s) := by
  unfold execRngWaitExpiry
  repeat' split
  all_goals simp [hk]

theorem execNoiseSourceFail_kept (src test : Nat) : kr.after (execNoiseSourceFail src test s) := by
  unfold execNoiseSourceFail
  extract_lets x running s1 s2 s3 s4 s5 s6
  split
  · have h1 : kr.of s1 := by
      dsimp only [s1]
      repeat' split
      all_goals simp [hk]
    have h4 : kr.of s4 := State.raise_kept kr _ _ (State.setSource_kept kr _ _ _ (State.bump_kept kr s1 _ _ h1))
    have h5 : kr.of s5 := ite_kept kr _ _ _ (State.bump_kept kr s4 _ _ h4) h4
    have h6 : kr.of s6 := ite_kept kr _ _ _ (State.switchSource_kept kr s5 _ _ h5) (State.nextEpoch_kept kr s5 h5)
    exact Kept.next (State.checkLost_kept kr s6 h6)
  · simpa using hk

theorem execStartupTestPass_kept (src : Nat) : kr.after (execStartupTestPass src s) := by
  unfold execStartupTestPass
  dsimp only
  split
  · exact Kept.next hk
  · simpa using hk

theorem execAutoRetest_kept (src : Nat) : kr.after (execAutoRetest src s) := by
  unfold execAutoRetest
  dsimp only
  split <;> simp [hk]

theorem execRngRetest_kept (v : Reg) : kr.after (execRngRetest v s) :=
  Kept.next (foldl_kept kr _ (fun s _ h => by dsimp only; split <;> simp [h]) _ _ hk)

theorem execConditionerBlock_kept : kr.after (execConditionerBlock s) := by
  unfold execConditionerBlock
  dsimp only
  repeat' split
  all_goals simp [hk]

theorem execDrbgReseed_kept (d : Nat) : kr.after (execDrbgReseed d s) := by
  unfold execDrbgReseed
  split <;> simp [hk]

theorem execExpanderSeed_kept (cls : EngClass) (eng : Nat) : kr.after (execExpanderSeed cls eng s) := by
  unfold execExpanderSeed
  dsimp only
  split <;> simp [hk]

theorem execRngFailed_kept : kr.after (execRngFailed s) := by
  unfold execRngFailed
  split <;> simp [hk]

/-! ### Keys -/

theorem execKeyDerive_kept (j : Nat) : kr.after (execKeyDerive j s) :=
  runDirect_kept hk _ _ _ fun b => by
    repeat' split
    all_goals simp [hk]

theorem execKeyInstantiate_kept (j : Nat) : kr.after (execKeyInstantiate j s) :=
  runDirect_kept hk _ _ _ fun b => by
    split <;> simp [hk]

theorem execKeyReserve_kept (j : Nat) : kr.after (execKeyReserve j s) :=
  runDirect_kept hk _ _ _ fun b => by
    split <;> simp [hk]

theorem execKeyInvalidate_kept (j : Nat) : kr.after (execKeyInvalidate j s) :=
  runDirect_kept hk _ _ _ fun b => by
    split
    · exact hk
    · refine State.invalidateGuard_kept kr _ _ _ _ (fun t ht => ?_) (by simp [hk])
      have counted : kr.of ((t.bump aKS_INVAL_CNT 0).bump aKS_APPROVALS 0) := by simp [ht]
      dsimp only
      split
      · exact State.endJob_kept kr _ _ _ counted
      · exact State.awaitScan_kept kr _ _ (State.sendInvalidate_kept kr _ _ _ _ (State.invalidateKey_kept kr _ _ counted))

theorem execKeyRelease_kept (j : Nat) : kr.after (execKeyRelease j s) :=
  runDirect_kept hk _ _ _ fun b => by
    split
    · exact hk
    · refine State.invalidateGuard_kept kr _ _ _ _ (fun t ht => ?_) (by simp [hk])
      extract_lets n x s1 stale s2 s3
      have h1 : kr.of s1 := by simp [s1, ht]
      have h2 : kr.of s2 := ite_kept kr _ _ _ h1 (State.invalidateKey_kept kr s1 _ h1)
      have h3 : kr.of s3 := by simp [s3, h2]
      split
      · simp [ht]
      · exact ite_kept kr _ _ _ (State.scanned_kept kr s3 _ h3) h3

theorem execInvalidationScanEnd_kept : kr.after (execInvalidationScanEnd s) := by
  unfold execInvalidationScanEnd
  dsimp only
  split
  · simpa using hk
  · exact Kept.next (foldl_kept kr _ (fun s _ h => State.scanned_kept kr s _ h) _ _
      (foldl_kept kr _ (fun s _ h => State.sendInvalidate_kept kr s _ _ _ h) _ _ (by simp [hk])))

theorem execKeyInfo_kept (j : Nat) : kr.after (execKeyInfo j s) :=
  runDirect_kept hk _ _ _ fun b => by
    have h := State.startDirect_kept kr s j hk
    dsimp only
    generalize s.startDirect j = u at h ⊢
    repeat' split
    all_goals simp [h, nodeInfo_kept]

theorem execKeyGenerate_kept (j : Nat) : kr.after (execKeyGenerate j s) :=
  runMp_kept hk _ _ _ fun b => by
    dsimp only
    split
    · simp [hk]
    · split
      · simp [hk]
      · refine State.mayCreate_kept kr s j b _ (fun t ht => ?_) hk
        split
        · split <;> simp [ht]
        · exact State.createKey_kept kr _ _ _ _ (State.onJob_kept kr _ _ _ (by simp [ht]))

theorem execKeyImportWrapped_kept (j : Nat) : kr.after (execKeyImportWrapped j s) :=
  runMp_kept hk _ _ _ fun b => by
    dsimp only
    split
    · simp [hk]
    · split
      · simp [hk]
      · refine State.mayCreate_kept kr s j b _ (fun t ht => State.withKeys_kept kr t j _ _ _ (fun u hu => ?_) ht) hk
        repeat' split
        all_goals simp [hu]

theorem execKeyAttest_kept (j : Nat) : kr.after (execKeyAttest j s) :=
  runMp_kept hk _ _ _ fun b => by
    have sign : ∀ t, kr.of t → kr.of (t.withKeys j b.inst [b.keyNeed attestable [] none] fun s =>
        (s.identitySign "KRYTORATI-KATT-1" (s.attestBody b.handle (b.val 0x00BC))).2.endJob j
          (done [⟨0x00BD, s.attestBody b.handle (b.val 0x00BC) ++
            (s.identitySign "KRYTORATI-KATT-1" (s.attestBody b.handle (b.val 0x00BC))).1⟩])) :=
      fun t ht => State.withKeys_kept kr t j _ _ _ (fun u hu => by simp [hu]) ht
    dsimp only
    repeat' split
    · simp [hk]
    · simp [hk]
    · exact sign s hk
    · exact State.withEngine_kept kr s j b _ _ _ _ sign hk

theorem execKeyExportPublic_kept (j : Nat) : kr.after (execKeyExportPublic j s) :=
  runMp_kept hk _ _ _ fun b => by
    have give : ∀ ns t, kr.of t → kr.of (t.withKeys j b.inst ns fun s =>
        match s.publicOf (s.slot (hSlot b.handle)) with
        | some pk => s.endJob j (b.doneFit [⟨0x0051, pk⟩])
        | none => s.failJob j stKEY_POLICY) :=
      fun ns t ht => State.withKeys_kept kr t j _ _ _ (fun u hu => by split <;> simp [hu]) ht
    extract_lets which type need giv op
    split
    · simp [hk]
    · split
      · simp [hk]
      · split
        · simp [hk]
        · split
          · exact give _ s hk
          · exact State.withEngine_kept kr s j b _ _ _ _ (give _) hk

theorem execChallengeRespond_kept (j : Nat) : kr.after (execChallengeRespond j s) :=
  runMp_kept hk _ _ _ fun b => by
    split
    · simp [hk]
    · exact State.withKeys_kept kr s j _ _ _ (fun u hu => by simp [hu]) hk

theorem execKeyUpdateApply_kept (j : Nat) : kr.after (execKeyUpdateApply j s) :=
  runMp_kept hk _ _ _ fun b => by simp [hk]

/-! ### Instances -/

theorem execInstanceCreate_kept (j : Nat) : kr.after (execInstanceCreate j s) :=
  runMp_kept hk _ _ _ fun b => by simp [hk]

theorem execInstanceShareSet_kept (j : Nat) : kr.after (execInstanceShareSet j s) :=
  runMp_kept hk _ _ _ fun b => by simp [hk]

theorem execInstanceQuiesce_kept (j : Nat) : kr.after (execInstanceQuiesce j s) :=
  runMp_kept hk _ _ _ fun b => by
    dsimp only
    repeat' split
    all_goals simp [hk]

theorem execInstanceResume_kept (j : Nat) : kr.after (execInstanceResume j s) :=
  runMp_kept hk _ _ _ fun b => by
    dsimp only
    repeat' split
    all_goals simp [hk]

theorem execInstanceQuiesced_kept (n : Nat) : kr.after (execInstanceQuiesced n s) := by
  unfold execInstanceQuiesced
  split <;> simp [hk]

theorem execQuiesceWaitExpiry_kept (n : Nat) : kr.after (execQuiesceWaitExpiry n s) := by
  unfold execQuiesceWaitExpiry
  split <;> simp [hk]

theorem execInstanceReset_kept (j : Nat) : kr.after (execInstanceReset j s) :=
  runMp_kept hk _ _ _ fun b => by
    dsimp only
    repeat' split
    · simp [hk]
    · simp [hk]
    · simp [hk]
    · simp [hk]
    · exact State.endJob_kept kr _ _ _ (State.bump_kept kr _ _ _
        (State.resetInstance_kept kr _ _ _ _ (by simp [hk])))

theorem execInstanceRemove_kept (j : Nat) : kr.after (execInstanceRemove j s) :=
  runMp_kept hk _ _ _ fun b => by simp [hk]

theorem execInstanceResetDone_kept (n : Nat) : kr.after (execInstanceResetDone n s) := by
  unfold execInstanceResetDone
  dsimp only
  repeat' split
  all_goals simp [hk]

theorem execFunctionLevelReset_kept (n : Nat) : kr.after (execFunctionLevelReset n s) := by
  unfold execFunctionLevelReset
  split <;> simp [hk]

/-! ### Streams and ports -/

theorem State.unprotect_kept (l : Nat) (tag : Nat × Nat × Nat × Bool) {t : State} (h : s.unprotect l tag = some t) :
    kr.of t := by
  unfold State.unprotect at h
  dsimp only at h
  repeat' split at h
  all_goals cases h
  exact State.setMacsec_kept kr s _ _ hk

theorem State.screenFrame_kept (p : Nat) (f : Frame) {t : State} (h : s.screenFrame p f = some t) : kr.of t := by
  unfold State.screenFrame at h
  split at h
  · cases h
    exact hk
  · obtain ⟨tag, -, ht⟩ := Option.bind_eq_some_iff.mp h
    exact State.unprotect_kept hk p tag ht

theorem execStreamCreate_kept (j : Nat) : kr.after (execStreamCreate j s) :=
  runMp_kept hk _ _ _ fun b => by simp [hk]

theorem execStreamModify_kept (j : Nat) : kr.after (execStreamModify j s) :=
  runMp_kept hk _ _ _ fun b => by simp [hk]

theorem execStreamDelete_kept (j : Nat) : kr.after (execStreamDelete j s) :=
  runMp_kept hk _ _ _ fun b => by
    dsimp only
    repeat' split
    all_goals simp [hk]

theorem execStreamStats_kept (j : Nat) : kr.after (execStreamStats j s) :=
  runMp_kept hk _ _ _ fun b => by
    dsimp only
    repeat' split
    all_goals simp [hk]

theorem execPortConfig_kept (j : Nat) : kr.after (execPortConfig j s) :=
  runMp_kept hk _ _ _ fun b => by
    repeat' split
    all_goals simp [ite_kept, hk]

theorem execMacsecSaInstall_kept (j : Nat) : kr.after (execMacsecSaInstall j s) :=
  runMp_kept hk _ _ _ fun b => by
    dsimp only
    split
    · simp [hk]
    · split
      · simp [hk]
      · refine State.withKeys_kept kr s j _ _ _ (fun u hu => ?_) hk
        split <;> simp [hu]

theorem execEventSignPolicy_kept (j : Nat) : kr.after (execEventSignPolicy j s) :=
  runMp_kept hk _ _ _ fun b => by
    dsimp only
    split
    · simp [hk]
    · split
      · split
        · simp [hk]
        · exact State.endJob_kept kr _ _ _ (State.recordPolicies_kept kr _ hk)
      · split
        · simp [hk]
        · exact State.withKeys_kept kr s j _ _ _ (fun u hu => State.endJob_kept kr _ _ _
            (foldl_kept kr _ (fun s w h => State.pinBerth_kept kr s w h) _ _ (State.recordPolicies_kept kr _ hu))) hk

theorem execStreamFrame_kept (f : Frame) : kr.after (execStreamFrame f s) := by
  unfold execStreamFrame
  have h := State.bump_kept kr s aPT_RX_FRAMES f.lane hk
  dsimp only
  generalize s.bump aPT_RX_FRAMES f.lane = u at h ⊢
  split
  · simpa using hk
  · split
    · simp [h]
    · split
      · simp [h]
      · rename_i t ht
        have ht := State.screenFrame_kept h _ f ht
        split
        · simp [ht]
        · refine Kept.next (State.takeFrame_kept kr _ _ f ?_)
          repeat' split
          · exact State.sendLane_kept kr t _ _ _ ht
          · exact ht
          · exact ht

theorem execFrameEgress_kept (id : Nat) : kr.after (execFrameEgress id s) := by
  unfold execFrameEgress
  repeat' split
  all_goals simp [hk]

theorem execMgmtLaneFrame_kept (vid : Nat) (bytes : Bytes) : kr.after (execMgmtLaneFrame vid bytes s) := by
  unfold execMgmtLaneFrame
  dsimp only
  split <;> simp [hk]

theorem execSignedEventRelease_kept (ev : Nat) : kr.after (execSignedEventRelease ev s) := by
  unfold execSignedEventRelease
  repeat' split
  · simpa using hk
  · simpa using hk
  · simp [hk]
  · exact Kept.next (State.postCopy_kept kr _ _ _ _ _ (State.bump_kept kr _ _ _
      (State.countStream_kept kr _ _ _ (by simp [hk]))))

theorem execLateLimitExpiry_kept (ev : Nat) : kr.after (execLateLimitExpiry ev s) := by
  unfold execLateLimitExpiry
  repeat' split
  all_goals simp [hk]

theorem execPtFifoFlush_kept (v : Reg) : kr.after (execPtFifoFlush v s) := by
  unfold execPtFifoFlush
  dsimp only
  split <;> simp [hk]

theorem execFifoPointerMismatch_kept (fifo : Nat) : kr.after (execFifoPointerMismatch fifo s) := by
  unfold execFifoPointerMismatch
  split
  · simpa using hk
  · exact Kept.next (State.raise_kept kr _ _ (State.emptyFifo_kept kr _ _ (by simp [hk])))

theorem execLaneLinkChange_kept (lane : Nat) (up : Bool) : kr.after (execLaneLinkChange lane up s) := by
  unfold execLaneLinkChange
  repeat' split
  all_goals simp [hk]

theorem execCageOvercurrent_kept (cage : Nat) : kr.after (execCageOvercurrent cage s) := by
  unfold execCageOvercurrent
  split <;> simp [hk]

end

end Sys2Proof.Machine
end

section
/-! What the commands on power, faults, the pair, the groups and the registers keep; then every command, and every step. -/

namespace Sys2Proof.Machine

section
variable {kr : Kept} {s : State} (hk : kr.of s)
include hk

/-! ### Power and start-up -/

theorem State.trainLink_kept : kr.of s.trainLink.2 := hk

theorem execPowerOnReset_kept : kr.after (execPowerOnReset s) := by
  unfold execPowerOnReset
  split <;> simp [hk]

theorem execFeedReturn_kept : kr.after (execFeedReturn s) := by
  unfold execFeedReturn
  split <;> simp [hk]

theorem execFeedLost_kept (feed : Nat) : kr.after (execFeedLost feed s) := by
  unfold execFeedLost
  dsimp only
  repeat' split
  all_goals simp [hk]

theorem execFeedRestored_kept (feed : Nat) : kr.after (execFeedRestored feed s) := by
  unfold execFeedRestored
  repeat' split
  all_goals simp [hk]

theorem execRailsFall_kept : kr.after (execRailsFall s) := by
  unfold execRailsFall
  split
  · simpa using hk
  · obtain ⟨hp, -, hf, ho, hl⟩ := State.moduleReset_kept kr s s.pw.resetCause hk
    exact Kept.next ⟨hp, hk.2.1, hf, ho, hl⟩

theorem execSupercapExhausted_kept : kr.after (execSupercapExhausted s) := by
  unfold execSupercapExhausted
  split <;> simp [hk]

theorem execFirmwareVerify_kept (sigA sigB : Bool) : kr.after (execFirmwareVerify sigA sigB s) := by
  unfold execFirmwareVerify
  extract_lets okA okB firstA ran code pw s1 mp
  have h1 : kr.of s1 := hk
  clear_value mp s1 ran
  split
  · simpa using hk
  · split
    · simpa using h1
    · exact Kept.next (ite_kept kr _ _ _ h1 (State.readyUp_kept kr _ (State.setReady_kept kr _ _ _ h1)))

theorem execNvStartupScan_kept : kr.after (execNvStartupScan s) := by
  unfold execNvStartupScan
  split <;> simp [hk]

theorem execPufReconstruction_kept (failedAttempts : Nat) : kr.after (execPufReconstruction failedAttempts s) := by
  unfold execPufReconstruction
  repeat' split
  all_goals simp [hk]

theorem execRngReady_kept : kr.after (execRngReady s) := by
  unfold execRngReady
  dsimp only
  split <;> simp [hk]

theorem execDdrTrainingDone_kept : kr.after (execDdrTrainingDone s) := by
  unfold execDdrTrainingDone
  split <;> simp [hk]

theorem execConfigRestore_kept : kr.after (execConfigRestore s) := by
  unfold execConfigRestore
  split
  · simpa using hk
  · have h := foldl_kept kr State.keepRecord (fun s r h => State.keepRecord_kept kr s r h) s.al.record.toList s hk
    exact Kept.next (foldl_kept kr _ (fun s _ h => State.requestSet_kept kr s _ h) _ _ h)

theorem execDomainPowerOn_kept (d : Nat) : kr.after (execDomainPowerOn d s) := by
  unfold execDomainPowerOn
  extract_lets s1 cages s2
  have h2 : kr.of s2 := foldl_kept kr _ (fun s c h => State.setCage_kept kr s c _ h) _ _ (by simp [s1, hk])
  clear_value s2
  repeat' split
  · simpa using hk
  · exact Kept.next (foldl_kept kr _ (fun s _ h => by split <;> simp [h]) _ _ h2)
  · simpa using h2

theorem execDomainPowerOff_kept (d : Nat) : kr.after (execDomainPowerOff d s) := by
  unfold execDomainPowerOff
  dsimp only
  split <;> simp [hk]

theorem execPwrReset_kept (v : Reg) : kr.after (execPwrReset v s) := by
  unfold execPwrReset
  split <;> simp [hk]

theorem execPcieLinkUp_kept : kr.after (execPcieLinkUp s) := by
  unfold execPcieLinkUp
  split
  · simpa using hk
  · exact Kept.next (foldl_kept kr _ (fun s _ h => State.deliverPba_kept kr s _ h) _ _
      (State.setReady_kept kr _ _ _ (State.trainLink_kept hk)))

theorem execPcieLinkDown_kept : kr.after (execPcieLinkDown s) := by
  unfold execPcieLinkDown
  split <;> simp [hk]

/-! ### Faults and alarms -/

theorem execFcRelease_kept (v : Reg) : kr.after (execFcRelease v s) := by
  unfold execFcRelease
  split <;> simp [hk]

theorem execFaultLogRead_kept (j : Nat) : kr.after (execFaultLogRead j s) :=
  runMp_kept hk _ _ _ fun b => by
    dsimp only
    repeat' split
    all_goals simp [hk]

theorem execFaultClear_kept (j : Nat) : kr.after (execFaultClear j s) :=
  runMp_kept hk _ _ _ fun b => by
    have h1 := State.releaseCaptures_kept kr s (tlvNat b.params 0x0157 0) hk
    dsimp only
    generalize s.releaseCaptures (tlvNat b.params 0x0157 0) = u at h1 ⊢
    have h2 : ∀ back, kr.of (if !b.has 0x0158 then u else if back = 0xFFFF then u.returnHeld fun _ => true
        else u.returnHeld fun k => u.heldKey back == some k) := fun back =>
      ite_kept kr _ _ _ h1 (ite_kept kr _ _ _ (State.returnHeld_kept kr u _ h1) (State.returnHeld_kept kr u _ h1))
    split
    · simp [hk]
    · split
      · simp [hk]
      · have h3 := State.endJob_kept kr _ j (done []) (h2 (tlvNat b.params 0x0158 0))
        exact ite_kept kr _ _ _ (State.releaseLatch_kept kr _ (State.writeCompletion_kept kr _ _ h3)) h3

theorem execSelftest_kept (j : Nat) : kr.after (execSelftest j s) :=
  runMp_kept hk _ _ _ fun b => by
    dsimp only
    repeat' split
    · simp [hk]
    · simp [hk]
    · exact foldl_kept kr _ (fun s t h => State.addSelftest_kept kr s j t h) _ _ hk
    · exact State.endJob_kept kr _ _ _ (foldl_kept_via kr (fun (a : Nat × Bool × State) => a.2.2) _
        (fun a t h => by split <;> simp [h]) _ _ hk)

theorem execFaultMessage_kept (m : FaultMsg) (ns : Nat) : kr.after (execFaultMessage m ns s) := by
  unfold execFaultMessage
  repeat' split
  · simpa using hk
  · simp [hk]
  · exact Kept.next (State.raise_kept kr _ _ (by simp [hk]))

theorem execEngineReturn_kept (source : Nat) : kr.after (execEngineReturn source s) := by
  unfold execEngineReturn
  split
  · exact ⟨_, rfl, hk⟩
  · exact ⟨_, rfl, hk⟩

theorem execXsGrantRecompute_kept (agree : Bool) : kr.after (execXsGrantRecompute agree s) := by
  unfold execXsGrantRecompute
  repeat' split
  all_goals simp [hk]

theorem execQuietPeriodEnd_kept : kr.after (execQuietPeriodEnd s) := by
  unfold execQuietPeriodEnd
  split <;> simp [hk]

theorem execAlarm_kept (input eraseNs : Nat) : kr.after (execAlarm input eraseNs s) := by
  unfold execAlarm
  split <;> simp [hk]

theorem execFanChange_kept (fan rpm : Nat) : kr.after (execFanChange fan rpm s) := by
  unfold execFanChange
  repeat' split
  all_goals simp [hk]

theorem execTempHigh_kept (deciC : Nat) : kr.after (execTempHigh deciC s) := by
  unfold execTempHigh
  repeat' split
  all_goals simp [hk]

/-! ### The pair -/

theorem execPairingHandshake_kept (m : HandshakeMsg) : kr.after (execPairingHandshake m s) := by
  unfold execPairingHandshake
  split <;> simp [hk]

theorem execPairingFrame_kept (path : TwinPath) (frame : Bytes) : kr.after (execPairingFrame path frame s) := by
  unfold execPairingFrame
  dsimp only
  repeat' split
  all_goals simp [hk]

theorem execPathLossCheck_kept : kr.after (execPathLossCheck s) := by
  unfold execPathLossCheck
  split
  · simpa using hk
  · have h := foldl_kept kr State.judgePath (fun s p h => State.judgePath_kept kr s p h)
      (allPaths.filter fun p => p != .mgmt || s.mgmtPath) s hk
    dsimp only
    generalize (allPaths.filter fun p => p != .mgmt || s.mgmtPath).foldl State.judgePath s = u at h ⊢
    repeat' split
    · exact Kept.next h
    · exact Kept.next (State.becomeAlone_kept kr u h)
    · exact Kept.next (State.pairEvent_kept kr _ _ _ h)
    · exact Kept.next h
    · exact Kept.next h
    · exact Kept.next (State.becomeAlone_kept kr u h)
    · exact Kept.next (State.sendQueued_kept kr _ h)
    · exact Kept.next h
    · exact Kept.next h

theorem execSlotRecordTimeout_kept (j : Nat) : kr.after (execSlotRecordTimeout j s) := by
  unfold execSlotRecordTimeout
  dsimp only
  split <;> simp [hk]

theorem execPromotion_kept : kr.after (execPromotion s) := by
  unfold execPromotion
  split
  · simpa using hk
  · exact Kept.next (State.pairEvent_kept kr _ _ _ (State.bump_kept kr _ _ _ (State.settleHbs_kept kr _
      (State.dropRecords_kept kr _ (State.changeRole_kept kr _ _ _ hk)))))

theorem execCastleCommit_kept : kr.after (execCastleCommit s) := by
  unfold execCastleCommit
  repeat' split
  · simpa using hk
  · exact Kept.next (State.bump_kept kr _ _ _ (State.takeParity_kept kr _ _ (State.changeRole_kept kr _ _ _ hk)))
  · simpa using hk
  · exact Kept.next (State.bump_kept kr _ _ _ (State.takeParity_kept kr _ _ (State.changeRole_kept kr _ _ _ hk)))
  · simpa using hk

theorem execCastleTakeback_kept : kr.after (execCastleTakeback s) := by
  unfold execCastleTakeback
  repeat' split
  · simpa using hk
  · exact Kept.next (State.endCastle_kept kr _ _ (by simp [hk]))
  · simpa using hk

theorem execPairWaitExpiry_kept : kr.after (execPairWaitExpiry s) := by
  unfold execPairWaitExpiry
  dsimp only
  repeat' split
  all_goals simp [hk]

theorem execPairEstablish_kept (j : Nat) : kr.after (execPairEstablish j s) :=
  runMp_kept hk _ _ _ fun b => by
    dsimp only
    repeat' split
    all_goals simp [hk]

theorem execPairDissolve_kept (j : Nat) : kr.after (execPairDissolve j s) :=
  runMp_kept hk _ _ _ fun b => by
    have dissolved : kr.of (((s.failPairing (failed stNOT_READY)).endCastle stNOT_READY).dropRecords).dropParity :=
      State.dropParity_kept kr _ (State.dropRecords_kept kr _ (by simp [hk]))
    repeat' split
    · exact hk
    · simp [hk]
    · simp [hk]
    · exact State.requestTwin_kept kr _ _ _ (State.settleHbs_kept kr _ dissolved)

theorem execCastle_kept (j : Nat) : kr.after (execCastle j s) :=
  runMp_kept hk _ _ _ fun b => by
    repeat' split
    all_goals simp [ite_kept, hk]

theorem execPairStatus_kept (j : Nat) : kr.after (execPairStatus j s) :=
  runMp_kept hk _ _ _ fun b => by
    split <;> simp [hk]

/-! ### Groups and crossings -/

theorem execCfgCancel_kept (v : Reg) : kr.after (execCfgCancel v s) :=
  Kept.next (State.wakeGroups_kept kr _ (State.endRestore_kept kr s _ hk))

theorem execBoundaryGuard_kept (agree : Bool) : kr.after (execBoundaryGuard agree s) := by
  unfold execBoundaryGuard
  split <;> simp [hk]

theorem execRateChange_kept : kr.after (execRateChange s) := by
  unfold execRateChange
  split <;> simp [hk]

/-! ### Registers -/

theorem execLatchingReadLo_kept (fn off : Nat) : kr.after (execLatchingReadLo fn off s) :=
  Kept.after_ite (Kept.next hk) (Kept.after_ite (execRngData_kept hk fn)
    (Kept.next (State.emit_kept kr _ _ (State.latchHigh_kept kr s _ _ hk))))

theorem execShadowWrite_kept (off : Nat) (v : Reg) : kr.after (execShadowWrite off v s) := by
  unfold execShadowWrite
  repeat' split
  all_goals simp [hk]

/-- A write that has a row of its own acts as that row. -/
theorem ownRow_kept (off : Nat) (v : Reg) {f : Reg → State → Result} (h : ownRow off = some f) : kr.after (f v s) := by
  unfold ownRow at h
  repeat' split at h
  all_goals cases h
  · exact Kept.next hk
  · exact execCfgCancel_kept hk v
  · exact Kept.next hk
  · exact execXsTimeSet_kept hk v
  · exact execPeKcFlush_kept hk v
  · exact Kept.after_ite (Kept.next hk) (Kept.next hk)
  · exact execMpMgmtEn_kept hk v
  · exact execRngRetest_kept hk v
  · exact execPtFifoFlush_kept hk v
  · exact execFcRelease_kept hk v
  · exact execPwrReset_kept hk v

/-- A doorbell block's word acts as the row of its offset. -/
theorem doorWrite_kept (fn pair off : Nat) (v : Reg) : kr.after (doorWrite fn pair off v s) := by
  have change : ∀ vector, kr.after (execTenantInterruptChange fn pair vector v s) := fun vector =>
    execTenantInterruptChange_kept hk fn pair vector v
  refine Kept.after_ite (execDbSqTail_kept hk fn pair v) (Kept.after_ite (execDbCqHead_kept hk fn pair v)
    (Kept.after_ite (Kept.after_ite (execTenantDisableRequest_kept hk fn pair v) (execTenantEnableRequest_kept hk fn pair v))
      (Kept.after_ite (change false) (Kept.after_ite (change true) ?_))))
  split
  · exact Kept.next (State.writeDoor_kept kr s _ _ _ _ hk)
  · exact Kept.next hk

theorem execRegisterWrite_kept (fn off : Nat) (v : Reg) : kr.after (execRegisterWrite fn off v s) := by
  have msix : ∀ x, kr.after (.next (s.writeMsix fn x v)) := fun x => Kept.next (State.writeMsix_kept kr s _ _ _ hk)
  unfold execRegisterWrite
  split
  · rename_i h0
    subst h0
    refine Kept.after_ite (Kept.next hk) (Kept.after_ite (doorWrite_kept hk _ _ _ v) (Kept.after_ite (msix _) ?_))
    split
    · rename_i f hf
      exact ownRow_kept hk off v hf
    · exact Kept.next (State.writePf_kept kr s _ _ hk)
  · exact Kept.after_ite (Kept.next hk) (Kept.after_ite (Kept.next (State.clearErr_kept kr s _ _ hk))
      (Kept.after_ite (doorWrite_kept hk _ _ _ v) (Kept.after_ite (msix _) (Kept.next hk))))

end

/-! ### Every command and every step -/

/-- Every command answers a next state, and keeps what stood before. -/
theorem exec_kept {kr : Kept} {s : State} (hk : kr.of s) : ∀ c : Instr, kr.after (exec c s)
  | .hello j => execHello_kept hk j
  | .caps j => execCaps_kept hk j
  | .readyQuery j => execReadyQuery_kept hk j
  | .fwStatus j => execFwStatus_kept hk j
  | .manifestLoad j => execManifestLoad_kept hk j
  | .manifestActivate j => execManifestActivate_kept hk j
  | .manifestQuery j => execManifestQuery_kept hk j
  | .keyDerive j => execKeyDerive_kept hk j
  | .keyInstantiate j => execKeyInstantiate_kept hk j
  | .keyReserve j => execKeyReserve_kept hk j
  | .keyInvalidate j => execKeyInvalidate_kept hk j
  | .keyRelease j => execKeyRelease_kept hk j
  | .keyInfo j => execKeyInfo_kept hk j
  | .keyUpdateApply j => execKeyUpdateApply_kept hk j
  | .challengeRespond j => execChallengeRespond_kept hk j
  | .keyImportWrapped j => execKeyImportWrapped_kept hk j
  | .keyGenerate j => execKeyGenerate_kept hk j
  | .keyAttest j => execKeyAttest_kept hk j
  | .keyExportPublic j => execKeyExportPublic_kept hk j
  | .mlkemKeygen j => execMlkemKeygen_kept hk j
  | .mlkemEncaps j => execMlkemEncaps_kept hk j
  | .mlkemDecaps j => execMlkemDecaps_kept hk j
  | .mldsaKeygen j => execMldsaKeygen_kept hk j
  | .mldsaSign j data => execMldsaSign_kept hk j data
  | .mldsaVerify j data => execMldsaVerify_kept hk j data
  | .fndsaVerify j data => execFndsaVerify_kept hk j data
  | .hybridKemEncaps j => execHybridKemEncaps_kept hk j
  | .hybridKemDecaps j => execHybridKemDecaps_kept hk j
  | .compositeSign j data => execCompositeSign_kept hk j data
  | .compositeVerify j data => execCompositeVerify_kept hk j data
  | .slhdsaKeygen j => execSlhdsaKeygen_kept hk j
  | .slhdsaSign j data => execSlhdsaSign_kept hk j data
  | .slhdsaVerify j data => execSlhdsaVerify_kept hk j data
  | .lmsKeygen j => execLmsKeygen_kept hk j
  | .lmsSign j data => execLmsSign_kept hk j data
  | .lmsVerify j data => execLmsVerify_kept hk j data
  | .xmssKeygen j => execXmssKeygen_kept hk j
  | .xmssSign j data => execXmssSign_kept hk j data
  | .xmssVerify j data => execXmssVerify_kept hk j data
  | .hbsReserveStatus j => execHbsReserveStatus_kept hk j
  | .mceKeygen j => execMceKeygen_kept hk j
  | .mceEncaps j => execMceEncaps_kept hk j
  | .mceDecaps j => execMceDecaps_kept hk j
  | .hqcKeygen j => execHqcKeygen_kept hk j
  | .hqcEncaps j => execHqcEncaps_kept hk j
  | .hqcDecaps j => execHqcDecaps_kept hk j
  | .bnModexp j => execBnModexp_kept hk j
  | .bnModmul j => execBnModmul_kept hk j
  | .bnModinv j => execBnModinv_kept hk j
  | .rsaKeygen j => execRsaKeygen_kept hk j
  | .rsaPrivate j => execRsaPrivate_kept hk j
  | .rsaPublic j => execRsaPublic_kept hk j
  | .ecKeygen j => execEcKeygen_kept hk j
  | .ecdsaSign j data => execEcdsaSign_kept hk j data
  | .ecdsaVerify j data => execEcdsaVerify_kept hk j data
  | .ecdh j => execEcdh_kept hk j
  | .x25519 j => execX25519_kept hk j
  | .x448 j => execX448_kept hk j
  | .eddsaSign j data => execEddsaSign_kept hk j data
  | .eddsaVerify j data => execEddsaVerify_kept hk j data
  | .aesGcmEnc j data => execAesGcmEnc_kept hk j data
  | .aesGcmDec j data => execAesGcmDec_kept hk j data
  | .aesCtr j data => execAesCtr_kept hk j data
  | .aesCbcEnc j data => execAesCbcEnc_kept hk j data
  | .aesCbcDec j data => execAesCbcDec_kept hk j data
  | .aesXtsEnc j data => execAesXtsEnc_kept hk j data
  | .aesXtsDec j data => execAesXtsDec_kept hk j data
  | .aesCmac j data => execAesCmac_kept hk j data
  | .aesGmac j data => execAesGmac_kept hk j data
  | .digestUpdate j data => execDigestUpdate_kept hk j data
  | .digestRelease j => execDigestRelease_kept hk j
  | .digestFinal j data => execDigestFinal_kept hk j data
  | .macVerify j data => execMacVerify_kept hk j data
  | .digestSave j => execDigestSave_kept hk j
  | .digestRestore j => execDigestRestore_kept hk j
  | .digestOneshot j data => execDigestOneshot_kept hk j data
  | .rngGet j => execRngGet_kept hk j
  | .rngStatus j => execRngStatus_kept hk j
  | .streamCreate j => execStreamCreate_kept hk j
  | .streamModify j => execStreamModify_kept hk j
  | .streamDelete j => execStreamDelete_kept hk j
  | .streamStats j => execStreamStats_kept hk j
  | .portConfig j => execPortConfig_kept hk j
  | .macsecSaInstall j => execMacsecSaInstall_kept hk j
  | .eventSignPolicy j => execEventSignPolicy_kept hk j
  | .instanceCreate j => execInstanceCreate_kept hk j
  | .instanceShareSet j => execInstanceShareSet_kept hk j
  | .instanceQuiesce j => execInstanceQuiesce_kept hk j
  | .instanceResume j => execInstanceResume_kept hk j
  | .instanceReset j => execInstanceReset_kept hk j
  | .instanceRemove j => execInstanceRemove_kept hk j
  | .pairEstablish j => execPairEstablish_kept hk j
  | .pairDissolve j => execPairDissolve_kept hk j
  | .castle j => execCastle_kept hk j
  | .pairStatus j => execPairStatus_kept hk j
  | .faultLogRead j => execFaultLogRead_kept hk j
  | .faultClear j => execFaultClear_kept hk j
  | .selftest j => execSelftest_kept hk j
  | .microcodeLoad j => execMicrocodeLoad_kept hk j
  | .vnop _ _ => Kept.next (State.issue_kept kr s _ _ _ _ _ hk)
  | .vld _ _ => Kept.next (State.issue_kept kr s _ _ _ _ _ hk)
  | .vst _ _ => Kept.next (State.issue_kept kr s _ _ _ _ _ hk)
  | .vgather _ _ => Kept.next (State.issue_kept kr s _ _ _ _ _ hk)
  | .vscatter _ _ => Kept.next (State.issue_kept kr s _ _ _ _ _ hk)
  | .vmov _ _ => Kept.next (State.issue_kept kr s _ _ _ _ _ hk)
  | .vbcast _ _ => Kept.next (State.issue_kept kr s _ _ _ _ _ hk)
  | .vrand pe o => execVrand_kept hk pe o
  | .vsetq _ _ => Kept.next (State.issue_kept kr s _ _ _ _ _ hk)
  | .vmadd _ _ => Kept.next (State.issue_kept kr s _ _ _ _ _ hk)
  | .vmsub _ _ => Kept.next (State.issue_kept kr s _ _ _ _ _ hk)
  | .vmmul _ _ => Kept.next (State.issue_kept kr s _ _ _ _ _ hk)
  | .vreduce _ _ => Kept.next (State.issue_kept kr s _ _ _ _ _ hk)
  | .vadd _ _ => Kept.next (State.issue_kept kr s _ _ _ _ _ hk)
  | .vsub _ _ => Kept.next (State.issue_kept kr s _ _ _ _ _ hk)
  | .vsadd _ _ => Kept.next (State.issue_kept kr s _ _ _ _ _ hk)
  | .vssub _ _ => Kept.next (State.issue_kept kr s _ _ _ _ _ hk)
  | .vmulhr _ _ => Kept.next (State.issue_kept kr s _ _ _ _ _ hk)
  | .vshrr _ _ => Kept.next (State.issue_kept kr s _ _ _ _ _ hk)
  | .vshl _ _ => Kept.next (State.issue_kept kr s _ _ _ _ _ hk)
  | .vand _ _ => Kept.next (State.issue_kept kr s _ _ _ _ _ hk)
  | .vor _ _ => Kept.next (State.issue_kept kr s _ _ _ _ _ hk)
  | .vxor _ _ => Kept.next (State.issue_kept kr s _ _ _ _ _ hk)
  | .vcompress _ _ => Kept.next (State.issue_kept kr s _ _ _ _ _ hk)
  | .vdecompress _ _ => Kept.next (State.issue_kept kr s _ _ _ _ _ hk)
  | .vp2r _ _ => Kept.next (State.issue_kept kr s _ _ _ _ _ hk)
  | .vdecompose _ _ => Kept.next (State.issue_kept kr s _ _ _ _ _ hk)
  | .vhighbits _ _ => Kept.next (State.issue_kept kr s _ _ _ _ _ hk)
  | .vcmp _ _ => Kept.next (State.issue_kept kr s _ _ _ _ _ hk)
  | .vsel _ _ => Kept.next (State.issue_kept kr s _ _ _ _ _ hk)
  | .vany _ _ => Kept.next (State.issue_kept kr s _ _ _ _ _ hk)
  | .vperm _ _ => Kept.next (State.issue_kept kr s _ _ _ _ _ hk)
  | .vdeint _ _ => Kept.next (State.issue_kept kr s _ _ _ _ _ hk)
  | .uwNext cls eng nptr imm => execUwNext_kept hk cls eng nptr imm
  | .uwJump cls eng nptr imm => execUwJump_kept hk cls eng nptr imm
  | .uwBranch cls eng nptr imm => execUwBranch_kept hk cls eng nptr imm
  | .uwLoop cls eng nptr imm => execUwLoop_kept hk cls eng nptr imm
  | .uwCall cls eng nptr imm => execUwCall_kept hk cls eng nptr imm
  | .uwReturn cls eng nptr imm => execUwReturn_kept hk cls eng nptr imm
  | .uwYield cls eng nptr imm => execUwYield_kept hk cls eng nptr imm
  | .uwEnd cls eng nptr imm => execUwEnd_kept hk cls eng nptr imm
  | .lvuRestart pe hw => execLvuRestart_kept hk pe hw
  | .sequencerGuardExpiry cls eng => execSequencerGuardExpiry_kept hk cls eng
  | .mcodeParity cls eng addr => execMcodeParity_kept hk cls eng addr
  | .segmentReloadDone k ok => execSegmentReloadDone_kept hk k ok
  | .microcodeDrainEnd k ok => execMicrocodeDrainEnd_kept hk k ok
  | .startupMicrocodeLoad k => execStartupMicrocodeLoad_kept hk k
  | .cfgCommit _ => Kept.next hk
  | .cfgCancel v => execCfgCancel_kept hk v
  | .cfgRevert _ => Kept.next hk
  | .shadowWrite off v => execShadowWrite_kept hk off v
  | .registerWrite fn off v => execRegisterWrite_kept hk fn off v
  | .latchingReadLo fn off => execLatchingReadLo_kept hk fn off
  | .xsTimeSet v => execXsTimeSet_kept hk v
  | .dbSqTail fn pair v => execDbSqTail_kept hk fn pair v
  | .dbCqHead fn pair v => execDbCqHead_kept hk fn pair v
  | .tenantEnableRequest fn pair v => execTenantEnableRequest_kept hk fn pair v
  | .tenantDisableRequest fn pair v => execTenantDisableRequest_kept hk fn pair v
  | .tenantInterruptChange fn pair vector v => execTenantInterruptChange_kept hk fn pair vector v
  | .peKcFlush v => execPeKcFlush_kept hk v
  | .mpSlowqHwmClr _ => Kept.after_ite (Kept.next hk) (Kept.next hk)
  | .mpMgmtEn v => execMpMgmtEn_kept hk v
  | .rngRetest v => execRngRetest_kept hk v
  | .rngData fn => execRngData_kept hk fn
  | .ptFifoFlush v => execPtFifoFlush_kept hk v
  | .fcFecValid _ => Kept.next hk
  | .mcLvuFlt0Release _ => Kept.after_ite (Kept.next hk) (Kept.next hk)
  | .fcRelease v => execFcRelease_kept hk v
  | .pwrReset v => execPwrReset_kept hk v
  | .entryFetch q entry params table => execEntryFetch_kept hk q entry params table
  | .sqReadFailed q => execSqReadFailed_kept hk q
  | .phasePoll q unit => execPhasePoll_kept hk q unit
  | .fenceRelease j => execFenceRelease_kept hk j
  | .jobGrant _ _ => Kept.next (by simp [hk])
  | .mpCommandStart => execMpCommandStart_kept hk
  | .jobComplete j ns failedChecks dmaFault => execJobComplete_kept hk j ns failedChecks dmaFault
  | .deadlineMissed j => execDeadlineMissed_kept hk j
  | .rngWaitExpiry j => execRngWaitExpiry_kept hk j
  | .reserveWaitExpiry j => execReserveWaitExpiry_kept hk j
  | .moderationDue q => execModerationDue_kept hk q
  | .linkL0Reached => execLinkL0Reached_kept hk
  | .d0Return fn => execD0Return_kept hk fn
  | .functionLevelReset n => execFunctionLevelReset_kept hk n
  | .vfDisable _ _ => Kept.next (by simp [hk])
  | .pcieReset => Kept.next (by simp [hk])
  | .instanceQuiesced n => execInstanceQuiesced_kept hk n
  | .quiesceWaitExpiry n => execQuiesceWaitExpiry_kept hk n
  | .instanceResetDone n => execInstanceResetDone_kept hk n
  | .crossingBoundary => Kept.next (by simp [hk])
  | .pathLossCheck => execPathLossCheck_kept hk
  | .boundaryGuard agree => execBoundaryGuard_kept hk agree
  | .rateChange => execRateChange_kept hk
  | .berthLeadIn berth => execBerthLeadIn_kept hk berth
  | .berthStart berth => execBerthStart_kept hk berth
  | .berthEnd berth => execBerthEnd_kept hk berth
  | .ownerArrivalLent berth j => execOwnerArrivalLent_kept hk berth j
  | .preemptionPoint _ _ => Kept.next (by simp [hk])
  | .quantumExpiry cls eng => execQuantumExpiry_kept hk cls eng
  | .forkRoundVerdict j => execForkRoundVerdict_kept hk j
  | .manifestRestore => execManifestRestore_kept hk
  | .timeSourceQualified src offsetNs tai => execTimeSourceQualified_kept hk src offsetNs tai
  | .timeSourceLost src => execTimeSourceLost_kept hk src
  | .slewLock offsetNs => execSlewLock_kept hk offsetNs
  | .holdoverLimit => Kept.after_ite (Kept.next hk) (Kept.next hk)
  | .ptpMessage backup m => execPtpMessage_kept hk backup m
  | .ppsPulse gapNs => execPpsPulse_kept hk gapNs
  | .irigbFrame valid utc => execIrigbFrame_kept hk valid utc
  | .mpWatchdogExpiry pair ns => execMpWatchdogExpiry_kept hk pair ns
  | .mpRestartDone => execMpRestartDone_kept hk
  | .mpRestartTimeout => execMpRestartTimeout_kept hk
  | .mpLockstep pair => execMpLockstep_kept hk pair
  | .mgmtSessionOpen client groups suites sigs clientCertOk =>
    execMgmtSessionOpen_kept hk client groups suites sigs clientCertOk
  | .mgmtPacket port session packet => execMgmtPacket_kept hk port session packet
  | .mgmtSessionIdle _ _ => Kept.after_ite (Kept.next hk) (Kept.next hk)
  | .mgmtSessionClose _ _ => Kept.next (by simp [hk])
  | .consoleFrame frame => execConsoleFrame_kept hk frame
  | .invalidationScanEnd => execInvalidationScanEnd_kept hk
  | .blockReserve node => execBlockReserve_kept hk node
  | .journalReadback node ok => execJournalReadback_kept hk node ok
  | .treeRebuildDone node => execTreeRebuildDone_kept hk node
  | .nextTreeBuilt tree => execNextTreeBuilt_kept hk tree
  | .journalStartupScan => execJournalStartupScan_kept hk
  | .mceRegenerationDone j => execMceRegenerationDone_kept hk j
  | .rsaRegenerationDone j => execRsaRegenerationDone_kept hk j
  | .noiseSourceFail src test => execNoiseSourceFail_kept hk src test
  | .startupTestPass src => execStartupTestPass_kept hk src
  | .autoRetest src => execAutoRetest_kept hk src
  | .conditionerBlock => execConditionerBlock_kept hk
  | .drbgReseed d => execDrbgReseed_kept hk d
  | .expanderSeed cls eng => execExpanderSeed_kept hk cls eng
  | .rngFailed => execRngFailed_kept hk
  | .rngReady => execRngReady_kept hk
  | .rngBufferRefill fn => execRngBufferRefill_kept hk fn
  | .streamFrame f => execStreamFrame_kept hk f
  | .frameEgress id => execFrameEgress_kept hk id
  | .mgmtLaneFrame vid bytes => execMgmtLaneFrame_kept hk vid bytes
  | .signedEventRelease ev => execSignedEventRelease_kept hk ev
  | .lateLimitExpiry ev => execLateLimitExpiry_kept hk ev
  | .fifoPointerMismatch fifo => execFifoPointerMismatch_kept hk fifo
  | .laneLinkChange lane up => execLaneLinkChange_kept hk lane up
  | .cageOvercurrent cage => execCageOvercurrent_kept hk cage
  | .cageModulePresent _ => Kept.after_ite (Kept.next hk) (Kept.next hk)
  | .pairingFrame path frame => execPairingFrame_kept hk path frame
  | .heartbeatReceive _ _ _ _ _ => Kept.next (by simp [hk])
  | .pairingHandshake m => execPairingHandshake_kept hk m
  | .mirrorRecord _ _ _ => Kept.next (by simp [hk])
  | .mirrorAck _ _ => Kept.next (by simp [hk])
  | .slotRecordTimeout j => execSlotRecordTimeout_kept hk j
  | .promotion => execPromotion_kept hk
  | .castleCommit => execCastleCommit_kept hk
  | .castleTakeback => execCastleTakeback_kept hk
  | .joinWaitExpiry => Kept.after_ite (Kept.next hk) (Kept.next hk)
  | .pairWaitExpiry => execPairWaitExpiry_kept hk
  | .faultMessage m ns => execFaultMessage_kept hk m ns
  | .engineReturn source => execEngineReturn_kept hk source
  | .xsGrantRecompute agree => execXsGrantRecompute_kept hk agree
  | .logRingDrain => Kept.after_ite (Kept.next hk) (Kept.next hk)
  | .quietPeriodEnd => execQuietPeriodEnd_kept hk
  | .alarm input eraseNs => execAlarm_kept hk input eraseNs
  | .feedLost feed => execFeedLost_kept hk feed
  | .feedReturn => execFeedReturn_kept hk
  | .fanChange fan rpm => execFanChange_kept hk fan rpm
  | .tempHigh deciC => execTempHigh_kept hk deciC
  | .scrubPass _ => Kept.next hk
  | .domainPowerOn d => execDomainPowerOn_kept hk d
  | .domainPowerOff d => execDomainPowerOff_kept hk d
  | .powerOnReset => execPowerOnReset_kept hk
  | .firmwareVerify sigA sigB => execFirmwareVerify_kept hk sigA sigB
  | .configRestore => execConfigRestore_kept hk
  | .ddrTrainingDone => execDdrTrainingDone_kept hk
  | .supercapReady _ => Kept.after_ite (Kept.next hk) (Kept.next hk)
  | .pufReconstruction failedAttempts => execPufReconstruction_kept hk failedAttempts
  | .nvStartupScan => execNvStartupScan_kept hk
  | .d3hotEntry _ => Kept.after_ite (Kept.next hk) (Kept.next hk)
  | .aspmL1Entry _ => Kept.after_ite (Kept.next hk) (Kept.next hk)
  | .pcieLinkUp => execPcieLinkUp_kept hk
  | .pcieLinkDown => execPcieLinkDown_kept hk
  | .vfEnable _ => Kept.next (by simp [hk])
  | .ref10mSignalChange _ => Kept.next hk
  | .noiseSourceSettled _ => Kept.after_ite (Kept.next hk) (Kept.next hk)
  | .cageModuleUnplugged _ => Kept.next hk
  | .feedRestored feed => execFeedRestored_kept hk feed
  | .railsFall => execRailsFall_kept hk
  | .supercapExhausted => execSupercapExhausted_kept hk
  | .alarmInputClear _ => Kept.next hk
  | .fatalConditionClear _ => Kept.next hk
  | .scratchZeroingDone _ => Kept.next hk

/-- A step takes the command in front, and keeps what stood before beside it. -/
theorem step_kept {s t : State} (h : step s = .next t) : (Kept.now { s with pending := s.pending.tail }).of t := by
  unfold step at h
  split at h
  · rename_i hp
    cases h
    obtain ⟨-, hupd, hfloors, hout, hlv⟩ := Kept.now_of s
    exact ⟨by simp [Kept.now, hp], hupd, hfloors, hout, hlv⟩
  · rename_i c r hp
    obtain ⟨u, hu, hk⟩ := exec_kept (Kept.now_of { s with pending := r }) c
    rw [hu] at h
    cases h
    simpa [hp] using hk

/-- Settles O4: a step keeps the canonical form beside all else that every command keeps. -/
theorem everyStepKeepsMemoriesCanonical : Obligations.EveryStepKeepsMemoriesCanonical := by
  unfold Obligations.EveryStepKeepsMemoriesCanonical
  intro s t hs ht
  obtain ⟨-, -, -, -, hlv⟩ := step_kept ht
  exact hlv hs

end Sys2Proof.Machine
end

section
/-! The lattice opcodes: an opcode ends its job with what its meaning answers, and nothing of the surface changes, since
key expansion, drawing and counting touch caches, sealed copies, counters and the free values only. -/

namespace Sys2Proof.Machine

/-! ### What the opcodes' operations leave -/

theorem State.drawBytes_length (s : State) (n : Nat) : (s.drawBytes n).1.length = n := by
  simp [State.drawBytes]

theorem State.dropEntries_tr (s : State) (k : Nat) (gone : CacheEntry → Bool) : (s.dropEntries k gone).tr = s.tr := by
  unfold State.dropEntries
  dsimp only
  repeat' split
  all_goals rfl

theorem State.placeEntry_tr (s : State) (k : Nat) (c : CacheEntry) : (s.placeEntry k c).tr = s.tr := by
  unfold State.placeEntry
  dsimp only
  split
  · rfl
  · exact s.dropEntries_tr k _

theorem State.writeSealed_tr (s : State) (slot gen inst size : Nat) : (s.writeSealed slot gen inst size).tr = s.tr := by
  unfold State.writeSealed
  repeat' split
  all_goals rfl

theorem State.expandOn_tr (s : State) (k h inst type pset : Nat) (look : Bool) :
    (s.expandOn k h inst type pset look).tr = s.tr := by
  unfold State.expandOn
  dsimp only
  split
  · split <;> rfl
  · have counted : (if look = true then s.bump aPE_KC_MISS (k % 64) else s).tr = s.tr := by split <;> rfl
    generalize (if look = true then s.bump aPE_KC_MISS (k % 64) else s) = t at counted ⊢
    rw [apply_ite State.tr, State.writeSealed_tr, ite_self, apply_ite State.tr, State.placeEntry_tr, ite_self, counted]

/-- Expanding a key leaves the streams and their policies. -/
theorem State.expandKey_tr (s : State) (b : Job) (type pset : Nat) (look : Bool) :
    (s.expandKey b type pset look).tr = s.tr := by
  unfold State.expandKey
  generalize b.engines = ks
  induction ks generalizing s with
  | nil => rfl
  | cons k ks ih => rw [List.foldl_cons, ih, State.expandOn_tr]

theorem unseen_countAttempts (s : State) (b : Job) (n : Nat) : Unseen s (s.countAttempts b n) :=
  unseen_foldl _ (fun s _ => unseen_bumpBy s _ _ _) _ _

theorem unseen_freeEngine (s : State) (j k : Nat) (verify : Bool) : Unseen s (s.freeEngine j k verify) := by
  unfold State.freeEngine
  dsimp only
  split
  · exact Unseen.refl s
  · have released : Unseen s ((s.onEng k (·.release (k / 64) verify s.keyLive)).dropEntries k (·.doomed)) :=
      (unseen_setEng s k _).trans (unseen_dropEntries _ k _)
    refine released.trans ?_
    split <;> exact ⟨rfl, surfaceKept_refl _⟩

theorem unseen_freePes (s : State) (j : Nat) (b : Job) : Unseen s (s.freePes j b) :=
  unseen_foldl _ (fun s k => unseen_freeEngine s j k false) _ _

theorem unseen_yieldPes (s : State) (b : Job) : Unseen s (s.yieldPes b) :=
  unseen_ite _ (unseen_foldl _ (fun s k => unseen_setEng s k _) _ _) (Unseen.refl s)

/-- What changes neither jobs nor surface after a job's quiet end leaves the end quiet. -/
theorem endsQuietly_trans {s t u : State} {j : Nat} {e : Ending} (h : endsQuietly s t j e) (g : Unseen t u) :
    endsQuietly s u j e := by
  obtain ⟨⟨b, hb, he⟩, ho, hs⟩ := h
  obtain ⟨gj, gs⟩ := g
  refine ⟨⟨b, (job_of_jobs gj j).trans hb, he⟩, fun i hi => (job_of_jobs gj i).trans (ho i hi), ?_⟩
  obtain ⟨h1, h2, h3, h4, h5, h6, h7, h8, h9⟩ := hs
  obtain ⟨g1, g2, g3, g4, g5, g6, g7, g8, g9⟩ := gs
  exact ⟨g1.trans h1, g2.trans h2, g3.trans h3, g4.trans h4, g5.trans h5, g6.trans h6, g7.trans h7, g8.trans h8, g9.trans h9⟩

/-- A job that ends after what neither jobs nor surface show ends quietly. -/
theorem endJob_unseen {s u : State} {j : Nat} {b : Job} (e : Ending) (hj : s.job j = some b) (hu : Unseen s u) :
    endsQuietly s (u.endJob j e) j e := endsQuietly_endJob e hj hu.1 hu.2

/-- A hybrid's halves end its job together, and its PEs are free. -/
theorem runHybrid_unseen {s : State} {j code : Nat} {b : Job} (f : State → Job → State × Ending) (h : runsOp s j b code)
    (hs : Unseen s (f s b).1) : ∃ t, runHybrid s j code f = .next t ∧ endsQuietly s t j (f s b).2 := by
  obtain ⟨hj, hc, hp, hw, hi⟩ := h
  refine ⟨((f s b).1.endJob j (f s b).2).freePes j b, ?_,
    endsQuietly_trans (endJob_unseen _ hj hs) (unseen_freePes _ j b)⟩
  unfold runHybrid
  rw [hj]
  exact if_pos ⟨hc, hp, hw, by rw [hi]; rfl⟩

/-! ### ML-KEM and the hybrid KEM (R215, R223 to R225, R243 to R246) -/

section
variable {s : State} {j : Nat} {b : Job}

theorem mlkemKeygen_answers (h : runsOp s j b opMLKEM_KEYGEN) : answers (.mlkemKeygen j) s fun t =>
    endsQuietly s t j { done [⟨0x0051, mlkemPublic b.pset b.key⟩] with bind := b.pset } :=
  (runJob_unseen _ h (unseen_expandKey s b _ _ _) : ∃ t, execMlkemKeygen j s = .next t ∧ _)

/-- Encapsulation draws its message when the key's coefficients are below q (R223). -/
theorem mlkemEncaps_answers (h : runsOp s j b opMLKEM_ENCAPS) : answers (.mlkemEncaps j) s fun t =>
    if ekOk (b.val 0x0051) then ∃ m : Bytes, m.length = 32 ∧ endsQuietly s t j
      (b.sharedEnd [⟨0x0052, (mlkemEncaps b.pset (b.val 0x0051) m).1⟩] (mlkemEncaps b.pset (b.val 0x0051) m).2)
    else endsQuietly s t j (failed stINPUT_ENCODING) := by
  refine (runJob_unseen _ h ?_ : ∃ t, execMlkemEncaps j s = .next t ∧ _).imp fun t ⟨hx, ht⟩ => ⟨hx, ?_⟩
  · dsimp only
    split <;> exact ⟨rfl, surfaceKept_refl s⟩
  · split
    · rename_i hek
      exact ⟨(s.drawBytes 32).1, s.drawBytes_length 32, by simpa [hek] using ht⟩
    · rename_i hek
      simpa [hek] using ht

theorem mlkemDecaps_answers (h : runsOp s j b opMLKEM_DECAPS) : answers (.mlkemDecaps j) s fun t =>
    endsQuietly s t j (b.sharedEnd [] (mlkemDecaps b.pset b.key (b.val 0x0052))) :=
  (runJob_unseen _ h (unseen_expandKey s b _ _ _) : ∃ t, execMlkemDecaps j s = .next t ∧ _)

/-- A hybrid encapsulation draws its message and its classical key's bytes (R244). -/
theorem hybridKemEncaps_answers (h : runsOp s j b opHYBRID_KEM_ENCAPS) : answers (.hybridKemEncaps j) s fun t =>
    match hybridOf b.combo with
    | none => endsQuietly s t j (failed stMALFORMED)
    | some (p, ec, _, _) =>
      let n := ((mlkemSizes p).map (·.1)).getD 0
      let ek := (b.val 0x0051).take n
      let c := if ec then 1 else 0x10
      if ekOk ek then ∃ m d : Bytes, m.length = 32 ∧ d.length = 32 ∧
        let e := ecPrivate c false d
        match ecAgree c e ((b.val 0x0051).drop n) with
        | none => endsQuietly s t j (failed stPOINT_INVALID)
        | some z => endsQuietly s t j (b.sharedEnd
            [⟨0x0052, (mlkemEncaps p ek m).1 ++ ecPublic c e⟩]
            (hybridKey b.combo (mlkemEncaps p ek m).2 z (mlkemEncaps p ek m).1 (ecPublic c e)))
      else endsQuietly s t j (failed stINPUT_ENCODING) := by
  refine (runHybrid_unseen _ h ?_ : ∃ t, execHybridKemEncaps j s = .next t ∧ _).imp fun t ⟨hx, ht⟩ => ⟨hx, ?_⟩
  · dsimp only
    repeat' split
    all_goals exact ⟨rfl, surfaceKept_refl s⟩
  · cases hc : hybridOf b.combo with
    | none => simpa only [hc] using ht
    | some x =>
      obtain ⟨p, ec, y, z⟩ := x
      simp only [hc] at ht ⊢
      split
      · rename_i hek
        refine ⟨(s.drawBytes 32).1, ((s.drawBytes 32).2.drawBytes 32).1, s.drawBytes_length 32, State.drawBytes_length _ 32, ?_⟩
        simp only [hek, Bool.not_true, Bool.false_eq_true, if_false] at ht
        split
        · rename_i ha
          simpa only [ha] using ht
        · rename_i ha
          simpa only [ha] using ht
      · rename_i hek
        simpa [hek] using ht

/-- The lattice half of a hybrid decapsulation never fails; the classical half may (R245). -/
theorem hybridKemDecaps_answers (h : runsOp s j b opHYBRID_KEM_DECAPS) : answers (.hybridKemDecaps j) s fun t =>
    match hybridOf b.combo with
    | none => endsQuietly s t j (failed stMALFORMED)
    | some (p, ec, _, _) =>
      let n := ((mlkemSizes p).map (·.2)).getD 0
      let x := (b.val 0x0052).take n
      let y := (b.val 0x0052).drop n
      let c := if ec then 1 else 0x10
      match ecAgree c (b.ecKey2 c) y with
      | none => endsQuietly s t j (failed stPOINT_INVALID)
      | some z => endsQuietly s t j (b.sharedEnd [] (hybridKey b.combo (mlkemDecaps p b.key x) z x y)) := by
  refine (runHybrid_unseen _ h ?_ : ∃ t, execHybridKemDecaps j s = .next t ∧ _).imp fun t ⟨hx, ht⟩ => ⟨hx, ?_⟩
  · dsimp only
    repeat' split
    · exact Unseen.refl s
    · exact unseen_expandKey s b _ _ _
    · exact unseen_expandKey s b _ _ _
  · cases hc : hybridOf b.combo with
    | none => simpa only [hc] using ht
    | some x =>
      obtain ⟨p, ec, y, z⟩ := x
      simp only [hc] at ht ⊢
      split
      · rename_i ha
        simpa only [ha] using ht
      · rename_i ha
        simpa only [ha] using ht

end

/-- Settles O10: each opcode ends its job with what its meaning answers, and its meaning is unseen. -/
theorem kemOperations : Obligations.KemOperations := by
  unfold Obligations.KemOperations
  intro s j b
  exact ⟨mlkemKeygen_answers, mlkemEncaps_answers, mlkemDecaps_answers, hybridKemEncaps_answers, hybridKemDecaps_answers⟩

/-! ### Verification and key generation (R214, R215, R240, R241, R249) -/

section
variable {s : State} {j : Nat} {b : Job}

theorem mldsaKeygen_answers (h : runsOp s j b opMLDSA_KEYGEN) : answers (.mldsaKeygen j) s fun t =>
    endsQuietly s t j { done [⟨0x0051, mldsaPublic b.pset b.key⟩] with bind := b.pset } :=
  (runJob_unseen _ h (unseen_expandKey s b _ _ _) : ∃ t, execMldsaKeygen j s = .next t ∧ _)

/-- With its own key a verification uses the cache; the verdict is that of the key's public half (R217). -/
theorem mldsaVerify_answers (data : Bytes) (h : runsOp s j b opMLDSA_VERIFY) : answers (.mldsaVerify j data) s fun t =>
    endsQuietly s t j (verdictEnd (Config.standardCheck "ML-DSA.verify" b.pset
      ((if b.handle ≠ 0 then mldsaPublic b.pset b.key else b.val 0x0051) :: mldsaInput b data ++ [b.val 0x0055]))) := by
  refine (runJob_unseen _ h ?_ : ∃ t, execMldsaVerify j data s = .next t ∧ _).imp fun t ⟨hx, ht⟩ => ⟨hx, ?_⟩
  · exact unseen_ite _ (unseen_expandKey s b _ _ _) (Unseen.refl s)
  · simpa using ht

theorem fndsaVerify_answers (data : Bytes) (h : runsOp s j b opFNDSA_VERIFY) : answers (.fndsaVerify j data) s fun t =>
    endsQuietly s t j (verdictEnd (decide ((b.val 0x0055).length ≥ 42) &&
      Config.standardCheck "FN-DSA.verify" b.pset [b.val 0x0051, b.val 0x0056, data, b.val 0x0055])) :=
  (runJob_unseen _ h (Unseen.refl s) : ∃ t, execFndsaVerify j data s = .next t ∧ _)

theorem compositeVerify_answers (data : Bytes) (h : runsOp s j b opCOMPOSITE_VERIFY) :
    answers (.compositeVerify j data) s fun t => endsQuietly s t j
      (match compositeVerify b.combo (b.val 0x0056) data (b.val 0x0051) (b.val 0x0055) with
      | none => failed stPOINT_INVALID
      | some ok => verdictEnd ok) := by
  refine (runJob_unseen _ h ?_ : ∃ t, execCompositeVerify j data s = .next t ∧ _).imp fun t ⟨hx, ht⟩ => ⟨hx, ?_⟩
  · split <;> exact Unseen.refl s
  · cases hv : compositeVerify b.combo (b.val 0x0056) data (b.val 0x0051) (b.val 0x0055) with
    | none => simpa only [hv] using ht
    | some ok => simpa only [hv] using ht

/-! ### Signing (R213, R214, R228 to R232) -/

/-- What a signing job signs depends on the streams and the policies alone. -/
theorem State.signMessage_congr {u : State} (hu : u.tr = s.tr) (data : Bytes) :
    (u.signMessage b data).1 = (s.signMessage b data).1 := by
  unfold State.signMessage
  rw [hu]
  repeat' split
  all_goals rfl

/-- Taking a policy's next number changes no job and nothing of the surface. -/
theorem unseen_signMessage (s : State) (b : Job) (data : Bytes) : Unseen s (s.signMessage b data).2 := by
  unfold State.signMessage
  repeat' split
  all_goals exact ⟨rfl, surfaceKept_refl s⟩

theorem unseen_signDraw (s : State) (b : Job) (m : Bytes) : Unseen s (s.signDraw b m).1 := by
  unfold State.signDraw
  dsimp only
  repeat' split
  all_goals exact ⟨rfl, surfaceKept_refl s⟩

/-- A signature draws 32 random bytes, and zeros in deterministic mode (R214). -/
theorem State.signDraw_draws (s : State) (b : Job) (m : Bytes) : ∃ rnd extra : Bytes, rnd.length = 32 ∧
    (tlvNat b.params 0x0059 0 = 1 → rnd = zeros 32 ∧ extra = []) ∧
    (s.signDraw b m).2 = { b with work := [b.key, b.key2, rnd, extra, m] } := by
  unfold State.signDraw
  by_cases hd : tlvNat b.params 0x0059 0 = 1
  · exact ⟨zeros 32, [], by simp [zeros], fun _ => ⟨rfl, rfl⟩, by simp [hd]⟩
  · exact ⟨(s.drawBytes 32).1, ((s.drawBytes 32).2.drawBytes 32).1, s.drawBytes_length 32, fun h => absurd h hd,
      by simp [hd]⟩

/-- How a signing job ends, by its attempt count (R230, R231). -/
theorem State.signEnd_ending (s : State) (b : Job) (rounds cap hist : Nat) : (s.signEnd b rounds cap hist).2 =
    if rounds ≤ cap then { done [⟨0x0055, b.signature⟩] with rounds := rounds }
    else { failed stSIGN_RETRY_EXHAUSTED with rounds := cap } := by
  unfold State.signEnd
  split <;> rfl

theorem unseen_signEnd (s : State) (b : Job) (rounds cap hist : Nat) : Unseen s (s.signEnd b rounds cap hist).1 := by
  unfold State.signEnd
  split <;> exact unseen_bump s _ _

/-- How a signing job stands once its randomness is drawn (`d`, R228 to R231): on one PE it is over, in fork mode its
first round is issued. -/
def SignedAs (s t : State) (j : Nat) (d : Job) : Prop :=
  let n := mldsaAttempts d.signSet d.signArgs
  if d.forkEngines = [] then
    endsQuietly s t j (if n ≤ 200 then { done [⟨0x0055, d.signature⟩] with rounds := n }
      else { failed stSIGN_RETRY_EXHAUSTED with rounds := 200 })
  else t.job j = some { d with forkRound := some 1 } ∧ otherJobsKept s t j ∧ surfaceKept s t

/-- A job that is stored is the only one that changes. -/
theorem stored_setJob {u : State} (hu : Unseen s u) (d : Job) :
    (u.setJob j d).job j = some d ∧ otherJobsKept s (u.setJob j d) j ∧ surfaceKept s (u.setJob j d) :=
  ⟨u.job_setJob_same j d, fun i hi => (u.job_setJob_other d hi).trans (job_of_jobs hu.1 i), hu.2⟩

/-- A signing job draws its randomness, and ends or issues its first round. -/
theorem signJob_signs {code : Nat} (data : Bytes) (h : runsOp s j b code) (hf : b.forkRound = none) :
    ∃ t, signJob s j code data = .next t ∧ ∃ rnd extra : Bytes, rnd.length = 32 ∧
      (tlvNat b.params 0x0059 0 = 1 → rnd = zeros 32 ∧ extra = []) ∧
      SignedAs s t j { b with work := [b.key, b.key2, rnd, extra, (s.signMessage b data).1] } := by
  obtain ⟨hj, hc, hp, hw, hi⟩ := h
  have hrun : b.opcode = code ∧ b.phase = .running ∧ b.wait = .no ∧ !b.interrupted ∧ b.forkRound = none :=
    ⟨hc, hp, hw, by rw [hi]; rfl, hf⟩
  have hm := State.signMessage_congr (b := b) (s.expandKey_tr b 0x11 b.signSet true) data
  unfold signJob
  simp only [hj, if_pos hrun, hm]
  generalize hu : ((s.expandKey b 0x11 b.signSet true).signMessage b data).2 = u
  have seen : Unseen s (u.signDraw b (s.signMessage b data).1).1 :=
    ((unseen_expandKey s b _ _ _).trans (hu ▸ unseen_signMessage _ b data)).trans (unseen_signDraw u b _)
  obtain ⟨rnd, extra, hlen, hdet, hd⟩ := u.signDraw_draws b (s.signMessage b data).1
  rw [hd]
  by_cases hfork : b.forkEngines = []
  · rw [if_pos hfork]
    refine ⟨_, rfl, rnd, extra, hlen, hdet, ?_⟩
    unfold SignedAs
    rw [if_pos (by exact hfork), ← State.signEnd_ending]
    exact endJob_unseen _ hj ((seen.trans (unseen_countAttempts _ _ _)).trans (unseen_signEnd _ _ _ _ _))
  · rw [if_neg hfork]
    refine ⟨_, rfl, rnd, extra, hlen, hdet, ?_⟩
    unfold SignedAs
    rw [if_neg (by exact hfork)]
    exact stored_setJob (seen.trans (unseen_countAttempts _ _ _)) _

/-- A round's verdict ends the job in the round of the accepted attempt, four to a round, or after round 50 (R228 to
R230); else the next round runs. -/
theorem forkRoundVerdict_answers {r : Nat} (hj : s.job j = some b) (hp : b.phase = .running) (hr : b.forkRound = some r) :
    answers (.forkRoundVerdict j) s fun t =>
      let n := mldsaAttempts b.signSet b.signArgs
      if n ≤ 4 * r ∨ 50 ≤ r then
        endsQuietly s t j (if n ≤ 4 * r ∧ r ≤ 50 then { done [⟨0x0055, b.signature⟩] with rounds := r }
          else { failed stSIGN_RETRY_EXHAUSTED with rounds := 50 })
      else t.job j = some { b with forkRound := some (r + 1) } ∧ otherJobsKept s t j ∧ surfaceKept s t := by
  have counted : Unseen s (if r < 50 then s.countAttempts b 1 else s) :=
    unseen_ite _ (unseen_countAttempts s b 1) (Unseen.refl s)
  unfold answers
  change ∃ t, execForkRoundVerdict j s = .next t ∧ _
  unfold execForkRoundVerdict
  simp only [hj, hr, hp, if_true]
  generalize (if r < 50 then s.countAttempts b 1 else s) = u at counted ⊢
  by_cases hn : mldsaAttempts b.signSet b.signArgs ≤ 4 * r ∨ 50 ≤ r
  · rw [if_pos (by exact hn)]
    refine ⟨_, rfl, ?_⟩
    rw [if_pos hn]
    have he : (u.signEnd b (if mldsaAttempts b.signSet b.signArgs ≤ 4 * r then r else 51) 50 aPE_HIST_FORK).2 =
        if mldsaAttempts b.signSet b.signArgs ≤ 4 * r ∧ r ≤ 50 then { done [⟨0x0055, b.signature⟩] with rounds := r }
        else { failed stSIGN_RETRY_EXHAUSTED with rounds := 50 } := by
      rw [State.signEnd_ending]
      by_cases ha : mldsaAttempts b.signSet b.signArgs ≤ 4 * r <;> simp [ha]
    rw [← he]
    exact endsQuietly_trans (endJob_unseen _ hj (counted.trans (unseen_signEnd u b _ _ _))) (unseen_yieldPes _ b)
  · rw [if_neg (by exact hn)]
    refine ⟨_, rfl, ?_⟩
    rw [if_neg hn]
    exact stored_setJob counted _

end

/-- Settles O11: the checks and the key generation end with what their meanings answer; signing and a round's verdict are
the lemmas on them. -/
theorem latticeSignatures : Obligations.LatticeSignatures := by
  unfold Obligations.LatticeSignatures
  intro s j b data
  exact ⟨mldsaKeygen_answers, mldsaVerify_answers data, fndsaVerify_answers data, compositeVerify_answers data,
    signJob_signs data, signJob_signs data, fun r => forkRoundVerdict_answers⟩

end Sys2Proof.Machine
end

section
/-! The microcode packs: what the operations of the clusters leave, and the statement on loading, reloading and
start-up. -/

namespace Sys2Proof.Machine

/-! ### Reading a cluster after a write -/

section
variable (s : State)

@[simp] theorem State.cluster_onCluster_same (k : Nat) (f : Cluster → Cluster) :
    (s.onCluster k f).cluster k = f (s.cluster k) := tgetD_tput_same _ _ _ _

theorem State.cluster_onCluster_other {k i : Nat} (f : Cluster → Cluster) (h : i ≠ k) :
    (s.onCluster k f).cluster i = s.cluster i := tgetD_tput_other _ _ _ _ h

theorem State.cluster_of_mc {s t : State} (h : t.mc = s.mc) (k : Nat) : t.cluster k = s.cluster k := by
  unfold State.cluster
  rw [h]

/-- A change of clusters by `g`, one after the other, changes each cluster of the list and no other. -/
theorem State.cluster_foldl_onCluster {g : Cluster → Cluster} (hg : ∀ x, g (g x) = g x) (ks : List Nat) :
    ∀ (s : State) (i : Nat),
      (ks.foldl (fun s k => s.onCluster k g) s).cluster i = if i ∈ ks then g (s.cluster i) else s.cluster i := by
  induction ks with
  | nil => exact fun _ _ => rfl
  | cons k ks ih =>
    intro s i
    rw [List.foldl_cons, ih]
    by_cases hik : i = k
    · subst hik
      rw [State.cluster_onCluster_same, if_pos List.mem_cons_self, hg, ite_self]
    · rw [State.cluster_onCluster_other s g hik]
      exact if_congr (by simp [hik]) rfl rfl

theorem State.job_foldl_onCluster (g : Cluster → Cluster) (ks : List Nat) (j : Nat) :
    ∀ s : State, (ks.foldl (fun s k => s.onCluster k g) s).job j = s.job j := by
  induction ks with
  | nil => exact fun _ => rfl
  | cons k ks ih => exact fun s => ih _

end

/-! ### Engine work for a command (R142) -/

/-- Entering a job of the module's own gives the next number to it and leaves every other job. -/
theorem State.addJob_own {s : State} {b : Job} (h : b.src = .mp) :
    (s.addJob b).2.nextJob = s.nextJob + 1 ∧ (s.addJob b).2.job s.nextJob = some b ∧
      ∀ i, i ≠ s.nextJob → (s.addJob b).2.job i = s.job i := by
  unfold State.addJob
  rw [h]
  exact ⟨rfl, tget_tset_same _ _ _, fun i hi => tget_tset_other _ _ hi⟩

theorem State.nextJob_onJob (s : State) (j : Nat) (f : Job → Job) : (s.onJob j f).nextJob = s.nextJob := by
  unfold State.onJob
  split <;> rfl

/-- The command asks for engine work: a job with the opcode joins, and the command waits. -/
theorem State.addTask_asks {s : State} {j : Nat} {b : Job} (hj : s.job j = some b) (cls mask opcode : Nat) (ps : List Tlv) :
    asksEngine s (s.addTask j cls mask opcode ps) j cls opcode := by
  unfold State.addTask
  obtain ⟨hn, hnew, hold⟩ := s.addJob_own
    (b := taskJob 0 s.nextJob opcode ps { cls := cls, mask := mask, parent := j }) rfl
  generalize (s.addJob (taskJob 0 s.nextJob opcode ps { cls := cls, mask := mask, parent := j })).2 = t at hn hnew hold
  refine ⟨(t.nextJob_onJob j _).trans hn, ?_, fun hne => ?_, fun i hi hin => ?_⟩
  · by_cases hjn : s.nextJob = j
    · rw [← hjn, State.job_onJob_same t _ hnew]
      exact ⟨_, rfl, rfl, by simp [taskJob]⟩
    · rw [State.job_onJob_other t _ hjn, hnew]
      exact ⟨_, rfl, rfl, by simp [taskJob]⟩
  · rw [State.job_onJob_same t _ ((hold j hne).trans hj)]
    exact ⟨_, rfl, rfl⟩
  · rw [State.job_onJob_other t _ hi, hold i hin]

/-- With the engine work done, or left to the management processor, the rest of the command runs. -/
theorem State.withEngine_over {s : State} {b : Job} {cls : Nat} (h : engineOver s b cls) (j opcode : Nat) (ps : List Tlv)
    (f : State → State) : s.withEngine j b cls opcode ps f = f s := by
  unfold State.withEngine
  rcases h with hd | ⟨hn, hup⟩
  · simp [hd]
  · simp [hn, hup]

/-! ### MICROCODE_LOAD (R383 to R385) -/

/-- A cluster that a load selects drains, unless its segment is being reloaded. -/
def Cluster.drained (x : Cluster) : Cluster := { x with load := if x.load = .reloading then .reloading else .draining }

theorem Cluster.drained_drained (x : Cluster) : x.drained.drained = x.drained := by
  unfold Cluster.drained
  by_cases h : x.load = .reloading <;> simp [h]

/-- What a load does once its pack has passed every check and no cluster is held: the clusters drain, and it waits. -/
def State.startLoad (s : State) (j mask : Nat) (p : Pack) : State :=
  (((clustersIn mask).foldl (fun s k => s.onCluster k Cluster.drained) s).onJob j fun b =>
    { b with after := some (loadDone p) }).awaitLoad j mask

section
variable {s : State} {j mask : Nat} {p : Pack}

theorem State.cluster_startLoad (n : Nat) : (s.startLoad j mask p).cluster n =
    if n ∈ clustersIn mask then (s.cluster n).drained else s.cluster n := by
  rw [← State.cluster_foldl_onCluster Cluster.drained_drained (clustersIn mask) s n]
  exact State.cluster_of_mc ((State.onJob_mc _ j _).trans (State.onJob_mc _ j _)) n

theorem State.otherJobsKept_startLoad : otherJobsKept s (s.startLoad j mask p) j := fun i hi => by
  unfold State.startLoad State.awaitLoad
  rw [State.job_onJob_other _ _ hi, State.job_onJob_other _ _ hi, State.job_foldl_onCluster]

theorem State.job_startLoad {b : Job} (hj : s.job j = some b) : (s.startLoad j mask p).job j = some
    { b with after := some (loadDone p), wait :=
        if mask = 0 then .guardBefore (b.atStamp 0x0124) 0x4000 else .segments mask } := by
  have drained := (State.job_foldl_onCluster Cluster.drained (clustersIn mask) j s).trans hj
  exact State.job_onJob_same _ _ (State.job_onJob_same _ _ drained)

end

/-- The part of MICROCODE_LOAD behind its signature checks. -/
def State.loadChecked (s : State) (j : Nat) (b : Job) : State :=
  match s.checkPack (b.val 0x0120) b.loadMask with
  | .error e => s.endJob j (loadFailed e.1 e.2.1 e.2.2)
  | .ok p =>
    if (clustersIn b.loadMask).any fun k => s.clusterHeld k || forkHeld (s.fld aPE_CTL 11 8) p k then
      s.endJob j (loadFailed 9 stCONFIG_INCONSISTENT 0)
    else s.startLoad j b.loadMask p

/-- A well-formed load of clusters that no other load holds asks for its signature checks, and goes on behind them. -/
theorem microcodeLoad_runs {s : State} {j : Nat} {b : Job} (h : runsMp s j b opMICROCODE_LOAD)
    (hactivate : tlvNat b.params 0x0122 1 ≤ 1) (hraise : tlvNat b.params 0x0123 0 ≤ 1)
    (hroom : b.noRoom (tlvLen 8 + tlvLen 64) = false) (hfree : Nat.land s.loading b.loadMask = 0) :
    exec (.microcodeLoad j) s =
      .next (s.withEngine j b 1 opCOMPOSITE_VERIFY [⟨0x005B, [0x25]⟩] fun s => s.loadChecked j b) := by
  refine (runMp_runs _ h : execMicrocodeLoad j s = _).trans ?_
  dsimp only
  rw [if_neg (by simp [hroom]), if_neg (by omega), if_neg (not_not.mpr hfree)]
  rfl

/-- What a load leaves behind its signature checks. -/
theorem loadChecked_ends {s : State} {j : Nat} {b : Job} (hj : s.job j = some b) :
    match s.checkPack (b.val 0x0120) b.loadMask with
    | .error e => endsQuietly s (s.loadChecked j b) j (loadFailed e.1 e.2.1 e.2.2) ∧ (s.loadChecked j b).mc = s.mc
    | .ok p =>
      if (clustersIn b.loadMask).any fun n => s.clusterHeld n || forkHeld (s.fld aPE_CTL 11 8) p n
      then endsQuietly s (s.loadChecked j b) j (loadFailed 9 stCONFIG_INCONSISTENT 0) ∧ (s.loadChecked j b).mc = s.mc
      else s.loadChecked j b = s.startLoad j b.loadMask p := by
  have fails : ∀ e, endsQuietly s (s.endJob j e) j e ∧ (s.endJob j e).mc = s.mc := fun e =>
    ⟨endsQuietly_endJob e hj rfl (surfaceKept_refl s), State.endJob_mc _ _ _⟩
  unfold State.loadChecked
  cases s.checkPack (b.val 0x0120) b.loadMask with
  | error e => exact fails _
  | ok p =>
    dsimp only
    split
    · exact fails _
    · rfl

/-- MICROCODE_LOAD, each of the clauses the statement makes of it. -/
theorem microcodeLoad_answers {s : State} {j : Nat} {b : Job} (h : runsMp s j b opMICROCODE_LOAD)
    (hactivate : tlvNat b.params 0x0122 1 ≤ 1) (hraise : tlvNat b.params 0x0123 0 ≤ 1)
    (hroom : b.noRoom (tlvLen 8 + tlvLen 64) = false) (hfree : Nat.land s.loading b.loadMask = 0) :
    (b.engineStatus = none → s.classUp 1 = true →
      answers (.microcodeLoad j) s fun t => asksEngine s t j 1 opCOMPOSITE_VERIFY) ∧
    (engineOver s b 1 → answers (.microcodeLoad j) s fun t => match s.checkPack (b.val 0x0120) b.loadMask with
      | .error e => endsQuietly s t j (loadFailed e.1 e.2.1 e.2.2) ∧ t.mc = s.mc
      | .ok p =>
        if (clustersIn b.loadMask).any fun n => s.clusterHeld n || forkHeld (s.fld aPE_CTL 11 8) p n
        then endsQuietly s t j (loadFailed 9 stCONFIG_INCONSISTENT 0) ∧ t.mc = s.mc
        else (∀ n ∈ clustersIn b.loadMask, (t.cluster n).load =
            (if (s.cluster n).load = .reloading then .reloading else .draining) ∧ (t.cluster n).pack = (s.cluster n).pack) ∧
          (∀ n, n ∉ clustersIn b.loadMask → t.cluster n = s.cluster n) ∧ otherJobsKept s t j ∧
          t.job j = some { b with after := some (loadDone p), wait :=
            if b.loadMask = 0 then .guardBefore (b.atStamp 0x0124) 0x4000 else .segments b.loadMask }) := by
  have runs := microcodeLoad_runs h hactivate hraise hroom hfree
  refine ⟨fun hs hup => ⟨_, runs, ?_⟩, fun hover => ⟨_, runs.trans (by rw [State.withEngine_over hover]), ?_⟩⟩
  · have asked : ∀ f, s.withEngine j b 1 opCOMPOSITE_VERIFY [⟨0x005B, [0x25]⟩] f =
        s.addTask j 1 0 opCOMPOSITE_VERIFY [⟨0x005B, [0x25]⟩] := fun f => by simp [State.withEngine, hs, hup]
    rw [asked]
    exact State.addTask_asks h.1 _ _ _ _
  · have ends := loadChecked_ends (b := b) h.1
    cases hc : s.checkPack (b.val 0x0120) b.loadMask with
    | error e => simpa only [hc] using ends
    | ok p =>
      simp only [hc] at ends ⊢
      split at ends
      · rw [if_pos ‹_›]
        exact ends
      · rw [if_neg ‹_›, ends]
        refine ⟨fun n hn => ?_, fun n hn => ?_, State.otherJobsKept_startLoad, State.job_startLoad h.1⟩
        · rw [State.cluster_startLoad, if_pos hn]
          exact ⟨rfl, rfl⟩
        · rw [State.cluster_startLoad, if_neg hn]

end Sys2Proof.Machine
end
section
/-! The segments of the microcode stores: a segment that fails is FATAL, one that is written or reloaded serves its
cluster again, and a parity error takes the cluster out of service. -/

namespace Sys2Proof.Machine

/-! ### Faults leave the clusters -/

theorem QueueTraffic.mc {s t : State} (h : QueueTraffic s t) : t.mc = s.mc := by rw [h]

section
variable (s : State)

theorem State.postEvent_mc (inst code : Nat) (queue : Option Nat) (info info2 : Nat) :
    (s.postEvent inst code queue info info2).mc = s.mc := ((QueueTraffic.refl s).postEvent inst code queue info info2).mc

theorem State.setReadyBits_mc (v : BitVec 24) : (s.setReadyBits v).mc = s.mc := by
  obtain ⟨_, _, h⟩ := s.setReadyBits_traffic v
  exact h.mc

theorem State.collect_mc (m : FaultMsg) (cls : Nat) : (s.collect m cls).mc = s.mc := by
  obtain ⟨fc, h, -⟩ := s.collect_eq m cls
  rw [h]
  rfl

theorem State.enterFault_mc (cause : Nat) (byAlarm : Bool) : (s.enterFault cause byAlarm).mc = s.mc := by
  unfold State.enterFault
  extract_lets fc s1 s2
  split
  · rfl
  · exact (State.setReadyBits_mc _ _).trans (s1.postEvent_mc _ _ _ _ _)

theorem State.holdEngine_mc (cls i count : Nat) : (s.holdEngine cls i count).mc = s.mc := by
  unfold State.holdEngine
  extract_lets k s1 s2
  split
  · rfl
  · exact (s2.postEvent_mc _ _ _ _ _).trans (s1.collect_mc _ _)

theorem State.containEngine_mc (cls i : Nat) : (s.containEngine cls i).mc = s.mc := by
  unfold State.containEngine
  extract_lets k s1 s2 s3 recent s4 s5
  have ended : s1.mc = s.mc := by
    dsimp only [s1]
    split
    · exact State.endJob_mc _ _ _
    · rfl
  have dropped : s3.mc = s2.mc := by
    dsimp only [s3]
    split <;> rfl
  have counted : s5.mc = s4.mc := by
    dsimp only [s5]
    split <;> rfl
  have contained : s5.mc = s.mc := (counted.trans dropped).trans ended
  split
  · exact (State.holdEngine_mc _ _ _ _).trans contained
  · exact contained

end

/-- Kinds 0x15 and 0x16, the faults of a microcode store, count towards no alarm input. -/
theorem State.countDcm_store (s : State) {kind : Nat} (h : kind = 0x15 ∨ kind = 0x16) : s.countDcm kind = s := by
  unfold State.countDcm
  exact if_neg (by omega)

/-! ### A segment that fails its verification (R376, R385) -/

/-- A failed segment stays failed, and a module in SERVICE enters FAULT. -/
theorem State.segmentFailed_fails (s : State) (k : Nat) : ((s.segmentFailed k).cluster k).load = .failed ∧
    (s.fc.mstate = .service → (s.segmentFailed k).fc.mstate = .fault) := by
  unfold State.segmentFailed
  rw [State.raise_fatal_eq rfl (fun t => t.countDcm_store (.inr rfl))]
  constructor
  · rw [State.cluster_of_mc ((State.enterFault_mc _ _ _).trans (State.collect_mc _ _ _)), State.cluster_onCluster_same]
  · intro h
    obtain ⟨fc, he, hm⟩ := (s.onCluster k fun x => { x with load := .failed }).collect_eq
      { source := 0x4E0, access := 0, kind := 0x16, master := 0, address := segmentOffset k, fatal := true } 2
    exact (State.enterFault_entered (by rw [he]; exact hm.trans h) _ _).mstate

/-! ### Writing a drained cluster (R385) -/

/-- A cluster's bit of a mask is the whole mask exactly when nothing is left without it. -/
theorem mask_sub_bit {m k : Nat} (h : bitAt m k = true) : m - 2 ^ k = 0 ↔ m = 2 ^ k := by
  have : 2 ^ k ≤ m := by
    by_contra hlt
    simp [bitAt, Nat.div_eq_of_lt (Nat.lt_of_not_le hlt)] at h
  omega

section
variable {s : State} {j k : Nat} {b : Job}

/-- No job runs on the cluster, and no context waits there. -/
def State.clusterIdle (s : State) (k : Nat) : Prop :=
  ∀ e ∈ clusterEngines k, (s.eng (engKey e.1 e.2)).busy = none ∧ (s.eng (engKey e.1 e.2)).saved = []

theorem State.clusterIdle_any (h : s.clusterIdle k) : ((clusterEngines k).any fun e =>
    (s.eng (engKey e.1 e.2)).busy.isSome || (s.eng (engKey e.1 e.2)).saved != []) = false := by
  rw [List.any_eq_false]
  intro e he
  obtain ⟨hbusy, hsaved⟩ := h e he
  simp [hbusy, hsaved]

/-- The load that drains an idle cluster takes the outcome of writing its segment. -/
theorem microcodeDrainEnd_runs (hload : s.loadOf k = some j) (hj : s.job j = some b)
    (hdrain : (s.cluster k).load = .draining) (hidle : s.clusterIdle k) {m : Nat} :
    exec (.microcodeDrainEnd k false) s = .next (s.segmentFailed k) ∧
    (b.wait = .segments m → bitAt m k = true → exec (.microcodeDrainEnd k true) s =
      .next ((s.onCluster k fun x => { x with load := .writing, written := some b.loadPack }).awaitLoad j (m - 2 ^ k))) := by
  show execMicrocodeDrainEnd k false s = _ ∧ (_ → _ → execMicrocodeDrainEnd k true s = _)
  unfold execMicrocodeDrainEnd Job.loadPack
  rw [hload]
  dsimp only
  rw [hj]
  dsimp only
  have hready : ¬((s.cluster k).load ≠ .draining ∨ ((clusterEngines k).any fun e =>
      (s.eng (engKey e.1 e.2)).busy.isSome || (s.eng (engKey e.1 e.2)).saved != []) = true) := by
    simp [hdrain, State.clusterIdle_any hidle]
  rw [if_neg hready]
  refine ⟨if_pos rfl, fun hm hbit => ?_⟩
  rw [if_neg hready, if_neg (by decide), hm]
  dsimp only
  rw [if_pos hbit]

theorem microcodeDrainEnd_fails (hload : s.loadOf k = some j) (hj : s.job j = some b)
    (hdrain : (s.cluster k).load = .draining) (hidle : s.clusterIdle k) :
    answers (.microcodeDrainEnd k false) s fun t =>
      (t.cluster k).load = .failed ∧ (s.fc.mstate = .service → t.fc.mstate = .fault) :=
  ⟨s.segmentFailed k, (microcodeDrainEnd_runs hload hj hdrain hidle (m := 0)).1, s.segmentFailed_fails k⟩

theorem microcodeDrainEnd_writes (hload : s.loadOf k = some j) (hj : s.job j = some b)
    (hdrain : (s.cluster k).load = .draining) (hidle : s.clusterIdle k) {m : Nat} (hm : b.wait = .segments m)
    (hbit : bitAt m k = true) : answers (.microcodeDrainEnd k true) s fun t =>
      (t.cluster k).load = .writing ∧ (t.cluster k).written = some b.loadPack ∧ otherJobsKept s t j ∧
      t.job j = some { b with wait :=
        if m = 2 ^ k then .guardBefore (b.atStamp 0x0124) 0x4000 else .segments (m - 2 ^ k) } := by
  refine ⟨_, (microcodeDrainEnd_runs hload hj hdrain hidle).2 hm hbit, ?_⟩
  generalize hu : (s.onCluster k fun x => { x with load := .writing, written := some b.loadPack }) = u
  have jobs : u.jobs = s.jobs := by rw [← hu]; rfl
  have cluster : (u.awaitLoad j (m - 2 ^ k)).cluster k =
      { s.cluster k with load := .writing, written := some b.loadPack } := by
    unfold State.awaitLoad
    rw [State.cluster_of_mc (State.onJob_mc u j _), ← hu, State.cluster_onCluster_same]
  refine ⟨congrArg Cluster.load cluster, congrArg Cluster.written cluster,
    fun i hi => (State.job_onJob_other u _ hi).trans (job_of_jobs jobs i),
    (State.job_onJob_same u _ ((job_of_jobs jobs j).trans hj)).trans ?_⟩
  simp only [mask_sub_bit hbit]

/-! ### Reloading a segment (R376) -/

theorem segmentReloadDone_fails (h : (s.cluster k).load = .reloading) :
    answers (.segmentReloadDone k false) s fun t =>
      (t.cluster k).load = .failed ∧ (s.fc.mstate = .service → t.fc.mstate = .fault) := by
  refine ⟨_, (?_ : execSegmentReloadDone k false s = _), s.segmentFailed_fails k⟩
  unfold execSegmentReloadDone
  rw [if_neg (not_not.mpr h), if_neg nofun]

theorem segmentReloadDone_returns (h : (s.cluster k).load = .reloading) :
    answers (.segmentReloadDone k true) s fun t => t.cluster k =
      { s.cluster k with oos := false, load := if s.drains k then .draining else .active } := by
  refine ⟨s.onCluster k fun x => { x with oos := false, load := if s.drains k then .draining else .active },
    (?_ : execSegmentReloadDone k true s = _), s.cluster_onCluster_same k _⟩
  unfold execSegmentReloadDone
  rw [if_neg (not_not.mpr h), if_pos rfl]

/-! ### A parity error (R376) -/

theorem clusterOf_lt (c : EngClass) {i k : Nat} (hi : i < classSize (classCode c))
    (h : clusterOf (classCode c) i = some k) : k < 8 := by
  cases c <;> simp only [classCode, clusterOf, classSize, Option.some.injEq, reduceCtorEq] at h hi <;> omega

/-- A CONTAINED fault of an engine leaves the clusters. -/
theorem State.raiseEng_mc (s : State) (cls i addr : Nat) : (s.raiseEng cls i 0x15 addr).mc = s.mc := by
  unfold State.raiseEng State.raise
  rw [show kindClass 0x15 false = some 1 from rfl]
  dsimp only
  rw [if_neg (by decide), if_pos rfl, State.countDcm_store _ (.inl rfl)]
  have collected := s.collect_mc
    { source := engSource cls i, access := 6, kind := 0x15, master := engMaster cls i, address := addr, fatal := false } 1
  generalize s.collect _ 1 = u at collected ⊢
  have told : ∀ (c : Prop) [Decidable c] (x y : Nat), (if c then u.postEvent 0 0x0270 none x y else u).mc = s.mc := by
    intro c _ x y
    rw [apply_ite State.mc, State.postEvent_mc, ite_self, collected]
  cases engOfSource (engSource cls i) with
  | none => exact told _ _ _
  | some e =>
    dsimp only
    by_cases low : engSource cls i < 512
    · rw [if_pos low, State.containEngine_mc]
      exact told _ _ _
    · rw [if_neg low]
      exact told _ _ _

theorem mcodeParity_contains (c : EngClass) {i : Nat} (addr : Nat) (hi : i < classSize (classCode c))
    (hc : clusterOf (classCode c) i = some k) (hbusy : (s.eng (engKey (classCode c) i)).busy = some j)
    (hj : s.job j = some b) (hrun : b.phase = .running) (hfmt : (s.packOf k).fmt = 2) :
    answers (.mcodeParity c i addr) s fun t => t.cluster k = { s.cluster k with oos := true, load := .reloading } ∧
      t.cnt aMC_MCHK_CNT k = (s.cnt aMC_MCHK_CNT k + 1) % 2 ^ 32 ∧ endedWith t j (failed stFAULT_CONTAINED) := by
  generalize hs1 : (s.onCluster k fun x => { x with oos := true, load := .reloading }).bump aMC_MCHK_CNT k = s1
  have runs : execMcodeParity c i addr s = .next (s1.raiseEng (classCode c) i 0x15 addr) := by
    unfold execMcodeParity
    dsimp only
    rw [hc, hbusy, Option.bind_some, hj, ← hs1]
    exact if_pos ⟨hrun, hfmt⟩
  have hcluster : s1.cluster k = { s.cluster k with oos := true, load := .reloading } := by
    rw [← hs1, State.cluster_of_mc (State.bump_mc _ _ _), State.cluster_onCluster_same]
  have hcount : s1.cnt aMC_MCHK_CNT k = (s.cnt aMC_MCHK_CNT k + 1) % 2 ^ 32 := by
    rw [← hs1]
    exact State.cnt_bumpBy_same _ _ _ 1
  have hjobs : s1.jobs = s.jobs := by rw [← hs1]; rfl
  have hengines : s1.engines = s.engines := by rw [← hs1]; rfl
  obtain ⟨u, told, hraise⟩ := s1.raiseEng_contained c addr hi (kind := 0x15) rfl (by decide)
  have hu : (u.eng (engKey (classCode c) i)).busy = some j := by
    rw [← hbusy]
    unfold State.eng
    rw [told.engines, hengines]
  have small : i < 65536 := by cases c <;> simp only [classCode, classSize] at hi <;> omega
  have hk := clusterOf_lt c hi hc
  obtain ⟨ends, -, counters⟩ := State.containEngine_ends hu ((job_of_jobs (told.jobs.trans hjobs) j).trans hj) small
  refine ⟨_, runs, (State.cluster_of_mc (s1.raiseEng_mc _ _ _) k).trans hcluster, ?_, ?_⟩
  · rw [hraise, counters aMC_MCHK_CNT (by decide) k (by omega), told.counters aMC_MCHK_CNT (by decide) k (by omega), hcount]
  · rw [hraise]
    exact ends

end

end Sys2Proof.Machine
end
section
/-! The start of a cluster with its base pack, the register writes of the microcode units, and the statement on the
packs. -/

namespace Sys2Proof.Machine

/-! ### Start-up (R387) -/

/-- Between `s` and `t` cluster `k` started with a pack: its load is counted, and in SERVICE its ready bit is set. -/
structure ClusterStarted (s t : State) (k : Nat) (p : Pack) : Prop where
  load : (t.cluster k).load = .active
  oos : (t.cluster k).oos = false
  pack : (t.cluster k).pack = some p
  ready : s.fc.mstate = .service → t.ready (clusterReadyBit k) = true
  count : t.cnt aMC_LOAD_CNT k = (s.cnt aMC_LOAD_CNT k + 1) % 2 ^ 32

section
variable {s t : State} {k : Nat} {p : Pack}

/-- What leaves the clusters, ID_READY and the counters leaves a cluster started. -/
theorem ClusterStarted.trans {u : State} (h : ClusterStarted s t k p) (hmc : u.mc = t.mc) (hpw : u.pw = t.pw)
    (hcnt : u.cnts = t.cnts) : ClusterStarted s u k p := by
  have cluster := State.cluster_of_mc hmc k
  refine ⟨?_, ?_, ?_, fun hs => ?_, ?_⟩
  · rw [cluster, h.load]
  · rw [cluster, h.oos]
  · rw [cluster, h.pack]
  · unfold State.ready
    rw [hpw]
    exact h.ready hs
  · unfold State.cnt
    rw [hcnt]
    exact h.count

theorem ClusterStarted.postEvent (h : ClusterStarted s t k p) (inst code : Nat) (queue : Option Nat) (info info2 : Nat) :
    ClusterStarted s (t.postEvent inst code queue info info2) k p :=
  h.trans (t.postEvent_mc _ _ _ _ _) ((QueueTraffic.refl t).postEvent _ _ _ _ _).pw (t.postEvent_cnts _ _ _ _ _)

theorem State.setReady_mc (s : State) (i : Nat) (b : Bool) : (s.setReady i b).mc = s.mc := s.setReadyBits_mc _

theorem State.setReady_cnts (s : State) (i : Nat) (b : Bool) : (s.setReady i b).cnts = s.cnts := s.setReadyBits_cnts _

theorem State.startCluster_started (s : State) (hk : k < 8) (p : Pack) : ClusterStarted s (s.startCluster k p) k p := by
  unfold State.startCluster
  extract_lets s1 s2 s3
  have cluster : s3.cluster k = { s.cluster k with load := .active, pack := some p, written := none, oos := false } :=
    s.cluster_onCluster_same k fun x => { x with load := .active, pack := some p, written := none, oos := false }
  have count : s3.cnt aMC_LOAD_CNT k = (s.cnt aMC_LOAD_CNT k + 1) % 2 ^ 32 := s2.cnt_bumpBy_same _ _ 1
  have mstate : s3.fc.mstate = s.fc.mstate := rfl
  clear_value s3
  by_cases hs : s3.fc.mstate = .service
  · rw [if_pos hs]
    have set : State.cluster (s3.setReady (clusterReadyBit k) true) k = s3.cluster k :=
      State.cluster_of_mc (s3.setReady_mc _ _) k
    refine ⟨by rw [set, cluster], by rw [set, cluster], by rw [set, cluster], fun _ => ?_, ?_⟩
    · rw [s3.ready_setReady (by unfold clusterReadyBit; omega), if_pos rfl]
    · unfold State.cnt
      rw [s3.setReady_cnts]
      exact count
  · rw [if_neg hs]
    exact ⟨by rw [cluster], by rw [cluster], by rw [cluster], fun h => absurd (mstate.trans h) hs, count⟩

/-- No pack is assigned to the cluster, or the boot flash does not hold it. -/
def State.packMissing (s : State) (k : Nat) : Prop :=
  ∀ a, tget s.mc.assigned k = some a → ∀ p ∈ s.mc.flash, p.id ≠ a.1 ∨ p.version ≠ a.2

theorem State.assignedPack_missing (h : s.packMissing k) : s.assignedPack k = none ∨ s.assignedPack k = some (.error 1) := by
  unfold State.assignedPack
  cases ha : tget s.mc.assigned k with
  | none => exact .inl rfl
  | some a =>
    have absent : (s.mc.flash.find? fun p => p.id == a.1 && p.version == a.2) = none := by
      rw [List.find?_eq_none]
      intro p hp
      have := h a ha p hp
      simp only [Bool.and_eq_true, beq_iff_eq]
      tauto
    dsimp only
    rw [absent]
    exact .inr rfl

/-- A cluster without an assigned image runs the base pack (R387). -/
theorem startupMicrocodeLoad_starts (hk : k < 8) (hmp : s.mp.state = .run) (hready : s.ready 4 = true)
    (hon : s.domain (clusterDomain k) = .on) (hempty : (s.cluster k).load = .empty) (hmissing : s.packMissing k) :
    answers (.startupMicrocodeLoad k) s fun t => ClusterStarted s t k (basePack (clusterClass k)) := by
  show ∃ t, execStartupMicrocodeLoad k s = .next t ∧ _
  unfold execStartupMicrocodeLoad
  rw [if_neg (by simp [hk, hmp, hready, hon, hempty])]
  dsimp only
  have started := s.startCluster_started hk (basePack (clusterClass k))
  rcases State.assignedPack_missing hmissing with h | h
  · rw [h]
    exact ⟨_, rfl, started⟩
  · rw [h]
    exact ⟨_, rfl, started.postEvent _ _ _ _ _⟩

end

/-! ### The LVU fault record (R368) -/

theorem mcLvuFlt0Release_answers (s : State) (v : Reg) : answers (.mcLvuFlt0Release v) s fun t =>
    t = { s with mc := { s.mc with flt := if v.getLsbD 31 then none else s.mc.flt } } := by
  show ∃ t, execMcLvuFlt0Release v s = .next t ∧ _
  unfold execMcLvuFlt0Release
  cases v.getLsbD 31 with
  | true => exact ⟨_, rfl, rfl⟩
  | false => exact ⟨_, rfl, rfl⟩

/-! ### Flushing the expanded-key caches (R218, R259) -/

/-- Flushing an engine's cache: a running job finishes with the entries it holds. -/
def Engine.flushed (e : Engine) : Engine :=
  { e with cache := if e.busy.isSome then e.cache.map fun x => if x.pinned then x else { x with doomed := true }
      else e.cache.filter (·.pinned) }

theorem Engine.flushed_flushed (e : Engine) : e.flushed.flushed = e.flushed := by
  unfold Engine.flushed
  cases e.busy with
  | none => simp
  | some j =>
    simp only [Option.isSome_some, if_true, List.map_map]
    congr 2
    funext x
    by_cases h : x.pinned = true <;> simp [h]

section
variable (s : State) (k : Nat)

/-- Taking entries out of a cache changes an engine that holds such entries, and no other. -/
theorem State.engines_dropEntries (gone : CacheEntry → Bool) : (s.dropEntries k gone).engines =
    (if (s.eng k).cache.filter gone = [] then s
      else s.onEng k fun e => { e with cache := e.cache.filter fun c => !gone c }).engines := by
  unfold State.dropEntries
  dsimp only
  split
  · rfl
  · split <;> rfl

theorem State.eng_of_engines {s t : State} (h : t.engines = s.engines) (k : Nat) : t.eng k = s.eng k := by
  unfold State.eng
  rw [h]

theorem State.eng_dropEntries_same (gone : CacheEntry → Bool) :
    (s.dropEntries k gone).eng k = { s.eng k with cache := (s.eng k).cache.filter fun c => !gone c } := by
  rw [State.eng_of_engines (s.engines_dropEntries k gone)]
  split
  · rename_i noneGone
    have kept : ((s.eng k).cache.filter fun c => !gone c) = (s.eng k).cache :=
      List.filter_eq_self.mpr fun c hc => by simpa using List.filter_eq_nil_iff.mp noneGone c hc
    rw [kept]
  · exact s.eng_onEng_same k _

theorem State.eng_dropEntries_other (gone : CacheEntry → Bool) {i : Nat} (h : i ≠ k) :
    (s.dropEntries k gone).eng i = s.eng i := by
  rw [State.eng_of_engines (s.engines_dropEntries k gone)]
  split
  · rfl
  · exact s.eng_onEng_other _ h

theorem State.eng_flushEntries_same : (s.flushEntries k).eng k = (s.eng k).flushed := by
  unfold State.flushEntries Engine.flushed
  split
  · exact s.eng_onEng_same k _
  · rw [State.eng_dropEntries_same]
    simp only [Bool.not_not]

theorem State.eng_flushEntries_other {i : Nat} (h : i ≠ k) : (s.flushEntries k).eng i = s.eng i := by
  unfold State.flushEntries
  split
  · exact s.eng_onEng_other _ h
  · exact s.eng_dropEntries_other k _ h

end

/-- PE_KC_FLUSH flushes the PEs of the clusters it names, and no others. -/
theorem peKcFlush_answers (s : State) (v : Reg) : answers (.peKcFlush v) s fun t => ∀ i, i < 16 →
    t.eng (engKey 1 i) = if v.getLsbD (i / 4) then (s.eng (engKey 1 i)).flushed else s.eng (engKey 1 i) := by
  refine ⟨_, (rfl : execPeKcFlush v s = _), fun i hi => ?_⟩
  rw [← List.foldl_map (f := engKey 1) (g := State.flushEntries),
    eng_foldl_of State.eng_flushEntries_same (fun s k _ => s.eng_flushEntries_other k) Engine.flushed_flushed]
  have named : engKey 1 i ∈ ((List.range 16).filter fun i => v.getLsbD (i / 4)).map (engKey 1) ↔ 
      v.getLsbD (i / 4) = true := by
    simp [engKey, hi]
  exact if_congr named rfl rfl

/-! ### The obligation -/

/-- Settles O46: a load goes through its checks to its drain; a fault of a segment and its reload, the start of a cluster,
and the register writes are each one of the lemmas above. -/
theorem microcodePacks : Obligations.MicrocodePacks := by
  unfold Obligations.MicrocodePacks
  intro s j k b
  dsimp only
  refine ⟨fun h hactivate hraise hroom hfree => microcodeLoad_answers h hactivate hraise hroom hfree,
    fun hload hj hdrain hidle => ⟨microcodeDrainEnd_fails hload hj hdrain hidle,
      fun m hm hbit => microcodeDrainEnd_writes hload hj hdrain hidle hm hbit⟩,
    fun h => ⟨segmentReloadDone_fails h, segmentReloadDone_returns h⟩,
    fun c i addr hi hc hbusy hj hrun hfmt => mcodeParity_contains c addr hi hc hbusy hj hrun hfmt,
    fun hk hmp hready hon hempty hmissing => ?_, fun v => ⟨mcLvuFlt0Release_answers s v, ?_⟩⟩
  · obtain ⟨t, ht, started⟩ := startupMicrocodeLoad_starts hk hmp hready hon hempty hmissing
    exact ⟨t, ht, started.load, started.oos, started.pack, started.ready, started.count⟩
  · obtain ⟨t, ht, flushed⟩ := peKcFlush_answers s v
    refine ⟨t, ht, fun i hi => (flushed i hi).trans ?_⟩
    cases v.getLsbD (i / 4) with
    | true => rfl
    | false => rfl

end Sys2Proof.Machine
end

section
/-! What the operations of the stateful keys do to the key table and the journal, and what they leave: the low-water check, an
appended record, the launch of a rebuild, and the settling of reservations. -/

namespace Sys2Proof.Machine

/-! ### Queue traffic leaves the stateful keys and the pairing -/

theorem QueueTraffic.hbs {s t : State} (h : QueueTraffic s t) : t.hbs = s.hbs := by rw [h]
theorem QueueTraffic.tw {s t : State} (h : QueueTraffic s t) : t.tw = s.tw := by rw [h]

/-- An operation repeated over a list leaves the stateful keys when each time it does. -/
theorem hbs_foldl {α : Type} {f : State → α → State} (hf : ∀ s a, (f s a).hbs = s.hbs) (l : List α) :
    ∀ s : State, (l.foldl f s).hbs = s.hbs := by
  induction l with
  | nil => exact fun _ => rfl
  | cons a l ih => exact fun s => (ih _).trans (hf s a)

/-! ### The low-water check (R291) -/

/-- Between `s` and `t` keys were checked for low water: events were posted, and the count of a key's events moved. -/
structure LowChecked (s t : State) : Prop where
  traffic : QueueTraffic { s with hbs := { s.hbs with keys := t.hbs.keys } } t
  cnts : t.cnts = s.cnts
  key : ∀ n k, tget s.hbs.keys n = some k → ∃ m, tget t.hbs.keys n = some { k with low := m }
  listed : ∀ e ∈ t.hbs.keys, ∃ k m, (e.1, k) ∈ s.hbs.keys ∧ e.2 = { k with low := m }

namespace LowChecked
variable {r s t : State}

theorem refl (s : State) : LowChecked s s :=
  ⟨rfl, rfl, fun _ k h => ⟨k.low, h⟩, fun e he => ⟨e.2, e.2.low, he, rfl⟩⟩

theorem trans (h : LowChecked r s) (g : LowChecked s t) : LowChecked r t where
  traffic := by
    have ht := h.traffic
    have gt := g.traffic
    unfold QueueTraffic at ht gt ⊢
    rw [ht] at gt
    exact gt
  cnts := g.cnts.trans h.cnts
  key n k hk := by
    obtain ⟨m, hm⟩ := h.key n k hk
    obtain ⟨m', hm'⟩ := g.key n _ hm
    exact ⟨m', hm'⟩
  listed e he := by
    obtain ⟨k, m, hk, hek⟩ := g.listed e he
    obtain ⟨k', m', hk', hkk'⟩ := h.listed _ hk
    exact ⟨k', m, hk', by rw [hek, show k = _ from hkk']⟩

theorem foldl {α : Type} {f : State → α → State} (hf : ∀ s a, LowChecked s (f s a)) :
    ∀ (l : List α) (s : State), LowChecked s (l.foldl f s)
  | [], s => refl s
  | a :: l, s => (hf s a).trans (foldl hf l _)

theorem jobs (h : LowChecked s t) : t.jobs = s.jobs := h.traffic.jobs
theorem tw (h : LowChecked s t) : t.tw = s.tw := h.traffic.tw
theorem hbs (h : LowChecked s t) : t.hbs = { s.hbs with keys := t.hbs.keys } := h.traffic.hbs

end LowChecked

theorem lowChecked_postEvent (s : State) (inst code : Nat) (queue : Option Nat) (info info2 : Nat) :
    LowChecked s (s.postEvent inst code queue info info2) := by
  have traffic := (QueueTraffic.refl s).postEvent inst code queue info info2
  have hk : (s.postEvent inst code queue info info2).hbs = s.hbs := traffic.hbs
  refine ⟨?_, s.postEvent_cnts _ _ _ _ _, fun n k h => ⟨k.low, ?_⟩, fun e he => ⟨e.2, e.2.low, ?_, rfl⟩⟩
  · rw [hk]
    exact traffic
  · rw [hk]
    exact h
  · rw [hk] at he
    exact he

/-- A new count of the events posted for a key. -/
theorem lowChecked_setHbs {s : State} {node : Nat} {k : HbsKey} (h : tget s.hbs.keys node = some k) (n : Nat) :
    LowChecked s (s.setHbs node { k with low := n }) := by
  refine ⟨rfl, rfl, fun i x hx => ?_, fun e he => ?_⟩
  · by_cases hi : i = node
    · subst hi
      obtain rfl : k = x := Option.some.inj (h.symm.trans hx)
      exact ⟨n, tget_tset_same _ _ _⟩
    · exact ⟨x.low, (tget_tset_other _ _ hi).trans hx⟩
  · rcases mem_tset he with rfl | he
    · exact ⟨k, n, mem_of_tget h, rfl⟩
    · exact ⟨e.2, e.2.low, he, rfl⟩

theorem lowChecked_checkLow (s : State) (node : Nat) : LowChecked s (s.checkLow node) := by
  unfold State.checkLow
  split
  · exact .refl s
  · rename_i k hk
    extract_lets own n s1
    split
    · exact (lowChecked_setHbs hk _).trans (.foldl (fun s _ => lowChecked_postEvent s _ _ _ _ _) _ _)
    · exact .refl s

theorem lowChecked_checkLows (s : State) : LowChecked s s.checkLows := .foldl lowChecked_checkLow _ s

/-! ### An appended record (R276) -/

/-- A refresh writes journal records and leaves the keys. -/
theorem State.refreshAhead_eq (fuel : Nat) : ∀ s : State, ∃ h : Hbs, s.refreshAhead fuel = { s with hbs := h } ∧
    h.keys = s.hbs.keys := by
  induction fuel with
  | zero => exact fun s => ⟨s.hbs, rfl, rfl⟩
  | succ f ih =>
    intro s
    unfold State.refreshAhead
    split
    · obtain ⟨h, he, hk⟩ := ih (s.putRecord _)
      exact ⟨h, he, hk⟩
    · exact ⟨s.hbs, rfl, rfl⟩

/-- Appending a record leaves the keys, and some slot of the journal holds the record under the highest number. -/
theorem State.appendJournal_eq (s : State) (node kind nextEven nextOdd : Nat) : ∃ (h : Hbs) (i : Nat),
    s.appendJournal node kind nextEven nextOdd = { s with hbs := h } ∧ h.keys = s.hbs.keys ∧
    tget h.journal i = some (JRecord.image
      { seq := h.seq, node := node, kind := kind, nextEven := nextEven, nextOdd := nextOdd }) := by
  obtain ⟨h, he, hk⟩ := s.refreshAhead_eq 4096
  unfold State.appendJournal
  rw [he]
  exact ⟨_, _, rfl, hk, tget_tset_same _ _ _⟩

/-! ### The launch of a rebuild (R263, R286) -/

/-- A job that is made leaves the stateful keys. -/
theorem State.addJob_hbs (s : State) (b : Job) : (s.addJob b).2.hbs = s.hbs := by
  unfold State.addJob
  dsimp only
  split <;> rfl

/-- The launch marks at most one key, whose cache is being rebuilt, with the number of its subtree jobs. -/
theorem State.launchRebuild_hbs (s : State) : s.launchRebuild.hbs = s.hbs ∨ ∃ n k parts, tget s.hbs.keys n = some k ∧
    k.tree = .rebuilding ∧ s.launchRebuild.hbs = (s.setHbs n { k with parts := parts, progress := 0 }).hbs := by
  unfold State.launchRebuild
  split
  · exact .inl rfl
  · rename_i n k hfind
    split
    · exact .inl rfl
    · rename_i hn
      obtain ⟨-, hk⟩ := not_or.mp hn
      exact .inr ⟨n, k, _, not_not.mp hk, by simpa using List.find?_some hfind, hbs_foldl (fun s _ => s.addJob_hbs _) _ _⟩

/-- A key whose cache is not being rebuilt stands as a rebuild is launched. -/
theorem State.launchRebuild_key {s : State} {n : Nat} {k : HbsKey} (h : tget s.hbs.keys n = some k)
    (hk : k.tree ≠ .rebuilding) : tget s.launchRebuild.hbs.keys n = some k := by
  rcases s.launchRebuild_hbs with he | ⟨m, x, parts, hm, hx, he⟩
  · rw [he]
    exact h
  · rw [he]
    have hnm : n ≠ m := by
      rintro rfl
      exact hk (Option.some.inj (h.symm.trans hm) ▸ hx)
    exact (tget_tset_other _ _ hnm).trans h

/-- The launch of a rebuild leaves the journal and its highest number. -/
theorem State.launchRebuild_journal (s : State) :
    s.launchRebuild.hbs.journal = s.hbs.journal ∧ s.launchRebuild.hbs.seq = s.hbs.seq := by
  rcases s.launchRebuild_hbs with he | ⟨m, x, parts, -, -, he⟩
  · rw [he]
    exact ⟨rfl, rfl⟩
  · rw [he]
    exact ⟨rfl, rfl⟩

/-! ### Settling reservations (R273) -/

theorem State.settleHbs_key {s : State} {n : Nat} {k : HbsKey} (h : tget s.hbs.keys n = some k) :
    tget s.settleHbs.hbs.keys n = some (k.settle s.ackFree) :=
  (tget_map (fun k => HbsKey.settle k s.ackFree) n s.hbs.keys).trans (by rw [h]; rfl)

end Sys2Proof.Machine
end

section
/-! The hash-based opcodes: how a key generation that may be split into subtree jobs ends, what registering a stateful key
does, and the signatures and checks. -/

namespace Sys2Proof.Machine

section
variable {s : State} {j code : Nat} {b : Job}

/-! ### Key generation (R263, R265, R270) -/

/-- A key generation that is whole, since its subtree jobs are done or it needs none, ends its job with what its meaning
answers. -/
theorem runKeygen_ends {known : State → Job → Bool} (f : State → Job → State × Ending) (h : runsOp s j b code)
    (whole : b.engineStatus = some stDONE ∨ b.engineStatus = none ∧ (s.buildMes ≤ 1 ∨ known s b = true)) :
    runKeygen s j code known f = .next ((f s b).1.endJob j (f s b).2) := by
  obtain ⟨hj, hc, hp, hw, hi⟩ := h
  unfold runKeygen
  rw [hj]
  refine (if_pos ⟨hc, hp, hw, by rw [hi]; rfl⟩).trans ?_
  rcases whole with he | ⟨he, hone⟩
  · rw [he]
    exact if_pos rfl
  · rw [he]
    exact if_pos hone

/-- A key generation whose subtree jobs failed ends with their status. -/
theorem runKeygen_spoiled {known : State → Job → Bool} (f : State → Job → State × Ending) (h : runsOp s j b code) {st : Nat}
    (he : b.engineStatus = some st) (hst : st ≠ stDONE) : runKeygen s j code known f = .next (s.failJob j st) := by
  obtain ⟨hj, hc, hp, hw, hi⟩ := h
  unfold runKeygen
  rw [hj]
  refine (if_pos ⟨hc, hp, hw, by rw [hi]; rfl⟩).trans ?_
  rw [he]
  exact if_neg hst

/-- The key that a generation with the parameters `v` registers, before its trees are built (R270). -/
def freshHbs (xmss : Bool) (v : Bytes) (inst : Nat) : HbsKey :=
  { xmss := xmss, params := v, inst := inst, height := ((hbsInfo xmss v).map (·.height)).getD 2 }

/-- That key with its trees built from the job's seed, as it is registered (R270, R284). -/
def State.newHbs (s : State) (b : Job) (xmss : Bool) : HbsKey :=
  (freshHbs xmss (b.val 0x0060) b.inst).built b.key s.hbs.parity

/-- No further key of these trees can be registered (R270, R284). -/
abbrev State.hbsFull (s : State) (k : HbsKey) : Prop :=
  s.hbs.keys.length ≥ 512 ∨ s.treesUsed + k.treeBytes > s.partBytes 4

theorem hbsKeygen_known (xmss : Bool) (h : s.hbsKnown b = true) :
    hbsKeygen xmss s b = (s, done [⟨0x0051, hbsPublic xmss (b.val 0x0060) b.key⟩]) := by
  obtain ⟨k, hk⟩ := Option.isSome_iff_exists.mp h
  unfold hbsKeygen
  dsimp only
  rw [hk]

theorem hbsKeygen_full (xmss : Bool) (h : s.hbsKnown b = false) (hf : s.hbsFull (freshHbs xmss (b.val 0x0060) b.inst)) :
    hbsKeygen xmss s b = (s, failed stLIMIT_EXCEEDED) := by
  have hn : tget s.hbs.keys (s.jobNode b) = none := by simpa [State.hbsKnown] using h
  unfold hbsKeygen
  dsimp only
  rw [hn]
  exact if_pos hf

theorem hbsKeygen_registers (xmss : Bool) (h : s.hbsKnown b = false)
    (hf : ¬ s.hbsFull (freshHbs xmss (b.val 0x0060) b.inst)) :
    hbsKeygen xmss s b = ((s.setHbs (s.jobNode b) (s.newHbs b xmss)).appendJournal (s.jobNode b) 1 0 1,
      done [⟨0x0051, hbsPublic xmss (b.val 0x0060) b.key⟩]) := by
  have hn : tget s.hbs.keys (s.jobNode b) = none := by simpa [State.hbsKnown] using h
  unfold hbsKeygen
  dsimp only
  rw [hn]
  exact if_neg hf

/-- Key generation answers the public key, and registers the key where its node is not registered and has room (R270). -/
theorem hbsKeygen_ends (xmss : Bool) (h : runsOp s j b code)
    (whole : b.engineStatus = some stDONE ∨ b.engineStatus = none ∧ (s.buildMes ≤ 1 ∨ s.hbsKnown b = true)) :
    ∃ t, runKeygen s j code State.hbsKnown (hbsKeygen xmss) = .next t ∧
      if s.hbsKnown b = false ∧ s.hbsFull (freshHbs xmss (b.val 0x0060) b.inst) then
        endsQuietly s t j (failed stLIMIT_EXCEEDED) ∧ t.hbs = s.hbs
      else endsQuietly s t j (done [⟨0x0051, hbsPublic xmss (b.val 0x0060) b.key⟩]) ∧
        (s.hbsKnown b = false → ∃ k i, tget t.hbs.keys (s.jobNode b) = some k ∧
          k.xmss = xmss ∧ k.params = b.val 0x0060 ∧ k.inst = b.inst ∧ k.nextEven = 0 ∧ k.nextOdd = 1 ∧ k.tree = .ready ∧
          tget t.hbs.journal i = some (JRecord.image
            { seq := t.hbs.seq, node := s.jobNode b, kind := 1, nextEven := 0, nextOdd := 1 })) := by
  refine ⟨_, runKeygen_ends _ h whole, ?_⟩
  by_cases hk : s.hbsKnown b = true
  · rw [if_neg (by simp [hk]), hbsKeygen_known xmss hk]
    exact ⟨endJob_unseen _ h.1 (Unseen.refl s), fun hn => absurd (hk.symm.trans hn) (by decide)⟩
  rw [Bool.not_eq_true] at hk
  by_cases hf : s.hbsFull (freshHbs xmss (b.val 0x0060) b.inst)
  · rw [if_pos ⟨hk, hf⟩, hbsKeygen_full xmss hk hf]
    exact ⟨endJob_unseen _ h.1 (Unseen.refl s), State.endJob_hbs _ _ _⟩
  · rw [if_neg fun x => hf x.2, hbsKeygen_registers xmss hk hf]
    obtain ⟨g, i, he, hkeys, himage⟩ :=
      (s.setHbs (s.jobNode b) (s.newHbs b xmss)).appendJournal_eq (s.jobNode b) 1 0 1
    rw [he]
    refine ⟨endJob_unseen _ h.1 ⟨rfl, surfaceKept_refl s⟩, fun _ =>
      ⟨s.newHbs b xmss, i, ?_, rfl, rfl, rfl, rfl, rfl, rfl, ?_⟩⟩
    · rw [State.endJob_hbs]
      exact (congrArg (tget · _) hkeys).trans (tget_tset_same _ _ _)
    · rw [State.endJob_hbs]
      exact himage

/-! ### SLH-DSA (R264 to R266) -/

theorem slhdsaKeygen_spoiled (h : runsOp s j b opSLHDSA_KEYGEN) (st : Nat) (he : b.engineStatus = some st)
    (hst : st ≠ stDONE) : answers (.slhdsaKeygen j) s fun t => t = s.failJob j st :=
  ⟨_, (runKeygen_spoiled _ h he hst : execSlhdsaKeygen j s = _), rfl⟩

theorem slhdsaKeygen_ends (h : runsOp s j b opSLHDSA_KEYGEN)
    (whole : b.engineStatus = some stDONE ∨ b.engineStatus = none ∧ (s.buildMes ≤ 1 ∨ false = true)) :
    answers (.slhdsaKeygen j) s fun t =>
      endsQuietly s t j { done [⟨0x0051, slhPublic b.pset b.key⟩] with bind := b.pset } :=
  ⟨_, (runKeygen_ends _ h whole : execSlhdsaKeygen j s = _), endJob_unseen _ h.1 (Unseen.refl s)⟩

/-- Signing draws n random bytes, and in deterministic mode takes PK.seed (R266). -/
theorem slhdsaSign_answers (data : Bytes) (h : runsOp s j b opSLHDSA_SIGN) : answers (.slhdsaSign j data) s fun t =>
    ∃ r : Bytes, (if tlvNat b.params 0x0059 0 = 1 then
        r = (slhExpand b.pset b.key).drop (2 * ((slhSizes b.pset).getD (0, 0, 0)).1)
      else r.length = ((slhSizes b.pset).getD (0, 0, 0)).1) ∧
      endsQuietly s t j (done [⟨0x0055, Config.standard "SLH-DSA.sign" b.pset
        (slhExpand b.pset b.key :: mldsaInput b data ++ [r]) ((slhSizes b.pset).getD (0, 0, 0)).2.2⟩]) := by
  refine (runJob_unseen _ h ?_ : ∃ t, execSlhdsaSign j data s = .next t ∧ _).imp fun t ⟨hx, ht⟩ => ⟨hx, ?_⟩
  · dsimp only
    split <;> exact ⟨rfl, surfaceKept_refl s⟩
  · by_cases hd : tlvNat b.params 0x0059 0 = 1
    · exact ⟨_, by rw [if_pos hd], by simpa only [hd, if_true] using ht⟩
    · exact ⟨_, by rw [if_neg hd]; exact s.drawBytes_length _, by simpa only [hd, if_false] using ht⟩

theorem slhdsaVerify_answers (data : Bytes) (h : runsOp s j b opSLHDSA_VERIFY) : answers (.slhdsaVerify j data) s fun t =>
    endsQuietly s t j (verdictEnd (Config.standardCheck "SLH-DSA.verify" b.pset
      ((if b.handle = 0 then b.val 0x0051 else slhPublic b.pset b.key) :: mldsaInput b data ++ [b.val 0x0055]))) :=
  (runJob_unseen _ h (Unseen.refl s) : ∃ t, execSlhdsaVerify j data s = .next t ∧ _)

/-! ### Stateful signatures (R272, R274, R289 to R291) -/

/-- A stateful signature is made with the leaf and the randomizer of the grant; without a key or a leaf the job ends
NOT_READY. -/
theorem hbsSign_ends (xmss : Bool) (data : Bytes) (h : runsOp s j b code) :
    ∃ t, runJob s j code (hbsSign xmss data) = .next t ∧ otherJobsKept s t j ∧
      match s.hbsOf b.handle, b.leaf with
      | some k, some leaf =>
          endedWith t j (done [⟨0x0055, Config.standard (if xmss then "XMSS.sign" else "LMS.sign") 0
            [k.params, hbsExpand xmss k.params b.key, leBytes leaf 8, b.rand, data]
            (((hbsInfo xmss k.params).map (·.sig)).getD 0)⟩, ⟨0x0061, leBytes leaf 8⟩])
      | _, _ => endsQuietly s t j (failed stNOT_READY) := by
  refine ⟨_, runJob_ends _ h, ?_⟩
  have unready : endsQuietly s (s.endJob j (failed stNOT_READY)) j (failed stNOT_READY) :=
    endJob_unseen _ h.1 (Unseen.refl s)
  unfold hbsSign
  cases s.hbsOf b.handle with
  | none => exact ⟨unready.2.1, unready⟩
  | some k =>
    cases b.leaf with
    | none => exact ⟨unready.2.1, unready⟩
    | some leaf =>
      have hjobs := (lowChecked_checkLow s (s.jobNode b)).jobs
      exact ⟨fun i hi => (State.job_endJob_other _ _ hi).trans (job_of_jobs hjobs i),
        endedWith_endJob _ ((job_of_jobs hjobs j).trans h.1)⟩

/-- The check of a stateful signature answers the doubled verdict. -/
theorem hbsVerify_ends (xmss : Bool) (data : Bytes) (h : runsOp s j b code) :
    ∃ t, runJob s j code (hbsVerify xmss data) = .next t ∧
      endsQuietly s t j (verdictEnd (Config.standardCheck (if xmss then "XMSS.verify" else "LMS.verify") 0
        [b.val 0x0051, data, b.val 0x0055])) :=
  runJob_unseen _ h (Unseen.refl s)

theorem hbsReserveStatus_answers (h : runsOp s j b opHBS_RESERVE_STATUS) : answers (.hbsReserveStatus j) s fun t =>
    ∃ height : Nat, endsQuietly s t j (done [⟨0x0062, hbsStateBytes (s.hbsOf b.handle) s.hbs.parity height⟩]) := by
  obtain ⟨t, hx, ht⟩ : ∃ t, execHbsReserveStatus j s = .next t ∧ _ := runJob_unseen _ h (Unseen.refl s)
  exact ⟨t, hx, _, ht⟩

end

/-- Settles O12: a key generation ends as its subtree jobs let it, registering a stateful key that is new; the signatures
and checks are the lemmas on them, a stateful signature leaving at most a low-water event behind. -/
theorem hashSignatureOperations : Obligations.HashSignatureOperations := by
  unfold Obligations.HashSignatureOperations
  intro s j b data
  dsimp only
  refine ⟨fun h => ⟨slhdsaKeygen_spoiled h, slhdsaKeygen_ends h⟩, slhdsaSign_answers data,
    slhdsaVerify_answers data,
    fun h => ⟨hbsKeygen_ends false h, fun st he hst => ⟨_, runKeygen_spoiled _ h he hst, rfl⟩⟩,
    fun h => ⟨hbsKeygen_ends true h, fun st he hst => ⟨_, runKeygen_spoiled _ h he hst, rfl⟩⟩,
    hbsSign_ends false data, hbsSign_ends true data, hbsVerify_ends false data, hbsVerify_ends true data,
    hbsReserveStatus_answers⟩

end Sys2Proof.Machine
end

section
/-! The events of the stateful keys: a reservation and its read-back, the end of a rebuild, the next tree, the start-up scan of
the journal, and the wait for a reservation. -/

namespace Sys2Proof.Machine

section
variable {s : State} {node : Nat} {k : HbsKey}

/-! ### Reservations (R273, R276, R280) -/

/-- Mirroring a reservation leaves the stateful keys and the journal. -/
theorem State.mirrorKey_hbs (s : State) (node : Nat) (k : HbsKey) : (s.mirrorKey node k).hbs = s.hbs := by
  have sent : (s.sendRecord 0x20 (hbsBody node k) none).hbs = s.hbs := by rw [pairingTraffic_sendRecord s _ _ _]
  unfold State.mirrorKey
  split
  · exact sent
  · exact sent
  · exact sent
  · rfl

/-- The key after the reservation of block `b`: its pointer is advanced, and the block pends. -/
def HbsKey.reserved (k : HbsKey) (b : Nat) : HbsKey := { k.advance b with pend := some b, readBack := false, acked := false }

/-- The pointer of the reserved block's parity has advanced by two. -/
theorem HbsKey.reserved_pointer (k : HbsKey) (b : Nat) :
    (if b % 2 = 0 then (k.reserved b).nextEven else (k.reserved b).nextOdd) = b + 2 := by
  unfold HbsKey.reserved HbsKey.advance
  by_cases hb : b % 2 = 0
  · simp only [hb, if_true]
  · simp only [hb, if_false]

/-- A reservation stores the key with the block pending and appends its record. -/
theorem State.reserve_hbs (s : State) (node : Nat) (k : HbsKey) (b : Nat) : ∃ i,
    tget (s.reserve node k b).hbs.keys node = some (k.reserved b) ∧
    tget (s.reserve node k b).hbs.journal i = some (JRecord.image
      { seq := (s.reserve node k b).hbs.seq, node := node, kind := 2,
        nextEven := (k.reserved b).nextEven, nextOdd := (k.reserved b).nextOdd }) := by
  obtain ⟨h, i, he, hkeys, himage⟩ := (s.setHbs node (k.reserved b)).appendJournal_eq node 2 (k.reserved b).nextEven
    (k.reserved b).nextOdd
  have hr : (s.reserve node k b).hbs = h := by
    refine (State.mirrorKey_hbs _ node (k.reserved b)).trans ?_
    change ((s.setHbs node (k.reserved b)).appendJournal node 2 (k.reserved b).nextEven (k.reserved b).nextOdd).hbs = h
    rw [he]
  rw [hr]
  exact ⟨i, (congrArg (tget · node) hkeys).trans (tget_tset_same _ _ _), himage⟩

/-- A reservation that is due in SERVICE is made (R273). -/
theorem blockReserve_answers {b : Nat} (hk : tget s.hbs.keys node = some k) (hb : k.nextBlock s.hbs.parity = some b)
    (hdue : s.reserveDue node k = true) (hm : s.fc.mstate = .service) : answers (.blockReserve node) s fun t =>
    ∃ (k' : HbsKey) (i : Nat), tget t.hbs.keys node = some k' ∧
      k' = { k.advance b with pend := some b, readBack := false, acked := false } ∧
      (if b % 2 = 0 then k'.nextEven else k'.nextOdd) = b + 2 ∧
      tget t.hbs.journal i = some (JRecord.image
        { seq := t.hbs.seq, node := node, kind := 2, nextEven := k'.nextEven, nextOdd := k'.nextOdd }) := by
  obtain ⟨i, hkey, hrecord⟩ := s.reserve_hbs node k b
  refine ⟨s.reserve node k b, ?_, k.reserved b, i, hkey, rfl, k.reserved_pointer b, hrecord⟩
  change execBlockReserve node s = _
  unfold execBlockReserve
  simp only [hk, hb]
  exact if_pos ⟨hdue, hm⟩

/-! ### Read-back (R273, R276) -/

/-- A record that reads back as written is unread no longer; a reservation is usable by it where no acknowledgement is owed. -/
theorem journalReadback_reads {i : Nat} {r : JRecord} (h : s.unreadOf node = some (i, r)) :
    answers (.journalReadback node true) s fun t => t.hbs.journal = s.hbs.journal ∧ (∀ u ∈ t.hbs.unread, u.1 ≠ i) ∧
      (tget s.hbs.keys node = some k → r.kind = 2 → k.pend.isSome → k.nextEven = r.nextEven → k.nextOdd = r.nextOdd →
        tget t.hbs.keys node = some ({ k with readBack := true }.settle s.ackFree)) := by
  have cleared : ∀ u ∈ (s.clearUnread i).hbs.unread, u.1 ≠ i := fun u hu => by
    simpa using (List.mem_filter.mp hu).2
  unfold answers
  change ∃ t, execJournalReadback node true s = .next t ∧ _
  unfold execJournalReadback
  rw [h]
  dsimp only
  rw [if_neg (by decide), show (s.clearUnread i).hbs.keys = s.hbs.keys from rfl]
  cases hx : tget s.hbs.keys node with
  | none => exact ⟨_, rfl, rfl, cleared, fun hk => nomatch hk⟩
  | some x =>
    dsimp only
    by_cases hp : r.kind = 2 ∧ x.pend.isSome ∧ x.nextEven = r.nextEven ∧ x.nextOdd = r.nextOdd
    · rw [if_pos hp]
      refine ⟨_, rfl, rfl, cleared, fun hk _ _ _ _ => ?_⟩
      obtain rfl := Option.some.inj hk
      have hset : tget ((s.clearUnread i).setHbs node { x with readBack := true }).hbs.keys node =
          some { x with readBack := true } := tget_tset_same _ _ _
      exact State.settleHbs_key hset
    · rw [if_neg hp]
      refine ⟨_, rfl, rfl, cleared, fun hk h1 h2 h3 h4 => ?_⟩
      obtain rfl := Option.some.inj hk
      exact absurd ⟨h1, h2, h3, h4⟩ hp

/-- A record that reads back differently is appended again. -/
theorem journalReadback_differs {i : Nat} {r : JRecord} (h : s.unreadOf node = some (i, r)) :
    answers (.journalReadback node false) s fun t => t.hbs.keys = s.hbs.keys ∧ ∃ m : Nat,
      tget t.hbs.journal m = some (JRecord.image
        { seq := t.hbs.seq, node := node, kind := r.kind, nextEven := r.nextEven, nextOdd := r.nextOdd }) := by
  unfold answers
  change ∃ t, execJournalReadback node false s = .next t ∧ _
  unfold execJournalReadback
  rw [h]
  dsimp only
  rw [if_pos (by decide)]
  refine ⟨_, rfl, ?_⟩
  obtain ⟨g, m, he, hkeys, himage⟩ := State.appendJournal_eq _ node r.kind r.nextEven r.nextOdd
  rw [he]
  exact ⟨hkeys, m, himage⟩

/-! ### Trees (R285, R286) -/

/-- The end of a rebuild whose subtree jobs are over makes the cache ready, before the next key's rebuild starts. -/
theorem treeRebuildDone_answers (hfind : s.hbs.keys.find? (fun e => e.2.tree == .rebuilding) = some (node, k))
    (hparts : k.parts ≠ 0) (hdone : s.subtreesDone node = true) : answers (.treeRebuildDone node) s fun t =>
    ∃ k' : HbsKey, tget t.hbs.keys node = some k' ∧ k'.tree = .ready ∧ k'.progress = 1000 ∧
      k'.nextEven = k.nextEven ∧ k'.nextOdd = k.nextOdd := by
  unfold answers
  change ∃ t, execTreeRebuildDone node s = .next t ∧ _
  unfold execTreeRebuildDone
  rw [hfind]
  dsimp -zeta only
  rw [if_pos ⟨rfl, hparts, hdone⟩]
  extract_lets s1
  have h1 : tget s1.hbs.keys node = some (k.built (s.hbsSeed node) s.hbs.parity) := tget_tset_same _ _ _
  have posted := (lowChecked_postEvent s1 k.inst 0x0211 none node 0).trans (lowChecked_checkLow _ node)
  obtain ⟨low, h2⟩ := posted.key node _ h1
  exact ⟨_, rfl, _, State.launchRebuild_key h2 TreeState.noConfusion, rfl, rfl, rfl, rfl⟩

/-- The next tree of a level is built for a ready key, and nothing else changes (R285). -/
theorem nextTreeBuilt_answers {level : Nat} (hk : tget s.hbs.keys node = some k) (ht : k.tree = .ready) :
    answers (.nextTreeBuilt ⟨node, level⟩) s fun t => t = s.setHbs node
      { k with lower := k.lower.map fun x =>
          if x.level = level then k.buildNext (s.hbsSeed node) s.hbs.parity x else x } := by
  refine ⟨_, ?_, rfl⟩
  change execNextTreeBuilt ⟨node, level⟩ s = _
  unfold execNextTreeBuilt
  simp only [hk, ht, if_true]

/-! ### The start-up scan (R277) -/

/-- The scan's step: a record with a higher number is the newest so far, with the slot after it. -/
def newerRecord (a : Nat × Nat) (e : Nat × JRecord) : Nat × Nat := if e.2.seq > a.2 then (e.1 + 1, e.2.seq) else a

/-- The scan finds the highest number: none is above it, and it is a record's or the one it began with. -/
theorem foldl_newerRecord (l : Tab JRecord) : ∀ a : Nat × Nat, a.2 ≤ (l.foldl newerRecord a).2 ∧
    (∀ e ∈ l, e.2.seq ≤ (l.foldl newerRecord a).2) ∧
    ((l.foldl newerRecord a).2 = a.2 ∨ ∃ e ∈ l, e.2.seq = (l.foldl newerRecord a).2) := by
  induction l with
  | nil => exact fun a => ⟨le_refl _, by simp, .inl rfl⟩
  | cons x l ih =>
    intro a
    obtain ⟨hge, hall, hsome⟩ := ih (newerRecord a x)
    have step : a.2 ≤ (newerRecord a x).2 ∧ x.2.seq ≤ (newerRecord a x).2 ∧
        ((newerRecord a x).2 = a.2 ∨ (newerRecord a x).2 = x.2.seq) := by
      unfold newerRecord
      split
      · rename_i hx
        exact ⟨Nat.le_of_lt hx, le_refl _, .inr rfl⟩
      · rename_i hx
        exact ⟨le_refl _, Nat.le_of_not_lt hx, .inl rfl⟩
    obtain ⟨ha, hx, hor⟩ := step
    rw [List.foldl_cons]
    refine ⟨ha.trans hge, ?_, ?_⟩
    · intro e he
      rcases List.mem_cons.mp he with rfl | he
      · exact hx.trans hge
      · exact hall e he
    · rcases hsome with hs | ⟨e, he, hs⟩
      · rcases hor with ho | ho
        · exact .inl (hs.trans ho)
        · exact .inr ⟨x, List.mem_cons_self, (hs.trans ho).symm⟩
      · exact .inr ⟨e, List.mem_cons_of_mem _ he, hs⟩

/-- The fault of a journal record whose CRC fails (R592). -/
def journalFault (slot : Nat) : FaultMsg :=
  { source := 0x610, access := 0, kind := 0x06, master := 0, address := 0x30000 + 16 * slot, fatal := false }

/-- The fault of a bad record is CONTAINED and of no engine, so it leaves the stateful keys. -/
theorem State.raise_journalFault_hbs (s : State) (slot : Nat) : (s.raise (journalFault slot)).hbs = s.hbs := by
  obtain ⟨fc, h, -⟩ := s.raise_told (m := journalFault slot) rfl
    (fun t => show t.countDcm 0x06 = t from if_neg (by decide)) (show engOfSource 0x610 = none by decide)
  exact h.hbs

/-- The rebuilds that start leave the journal and its highest number. -/
theorem State.startRebuilds_journal (s : State) :
    s.startRebuilds.hbs.journal = s.hbs.journal ∧ s.startRebuilds.hbs.seq = s.hbs.seq := by
  unfold State.startRebuilds
  split
  · exact ⟨rfl, rfl⟩
  · exact State.launchRebuild_journal _

/-- The scan takes over the highest number of the good records, whatever faults the bad ones raise. -/
theorem journalStartupScan_answers (hkeys : s.hbs.keys = []) (hd : s.domain 3 = .on) : answers .journalStartupScan s fun t =>
    t.hbs.journal = s.hbs.journal ∧ (∀ e ∈ s.records, e.2.seq ≤ t.hbs.seq) ∧
    (t.hbs.seq = 0 ∨ ∃ e ∈ s.records, e.2.seq = t.hbs.seq) := by
  unfold answers
  change ∃ t, execJournalStartupScan s = .next t ∧ _
  unfold execJournalStartupScan
  rw [if_neg (by simp [hkeys, hd])]
  extract_lets bad top g s1 live keys g1 s2
  obtain ⟨hj, hseq⟩ : s2.hbs.journal = s.hbs.journal ∧ s2.hbs.seq = top.2 := State.startRebuilds_journal _
  obtain ⟨-, hall, hsome⟩ := foldl_newerRecord s.records (0, 0)
  refine ⟨bad.foldl (fun s slot => s.raise (journalFault slot)) s2, rfl, ?_⟩
  rw [hbs_foldl State.raise_journalFault_hbs, hj, hseq]
  exact ⟨rfl, hall, hsome⟩

/-! ### The wait for a reservation (R274) -/

theorem reserveWaitExpiry_answers {j : Nat} {b : Job} (hj : s.job j = some b) (hw : b.wait = .reservation node)
    (hlate : (b.waitUp.any fun u => s.passed u (s.crossingsNs 2)) = true) (hk : tget s.hbs.keys node = some k) :
    answers (.reserveWaitExpiry j) s fun t => endedWith t j (failed stNOT_READY) ∧ otherJobsKept s t j ∧
      tget t.hbs.keys node = some { k with waiting := true } := by
  have hrun : exec (.reserveWaitExpiry j) s = .next ((s.setHbs node { k with waiting := true }).failJob j stNOT_READY) := by
    change execReserveWaitExpiry j s = _
    unfold execReserveWaitExpiry
    simp [hj, hw, hlate, hk]
  refine ⟨_, hrun, endedWith_endJob _ (b := b) hj, fun i hi => State.job_endJob_other _ _ hi, ?_⟩
  unfold State.failJob
  rw [State.endJob_hbs]
  exact tget_tset_same _ _ _

end

/-- Settles O13: each event is the lemma on it; a read-back has one for each outcome. -/
theorem statefulKeyEvents : Obligations.StatefulKeyEvents := by
  unfold Obligations.StatefulKeyEvents
  intro s node k
  exact ⟨fun _ => blockReserve_answers, fun i r h => ⟨journalReadback_reads h, journalReadback_differs h⟩,
    treeRebuildDone_answers, fun _ => nextTreeBuilt_answers, journalStartupScan_answers, fun _ _ => reserveWaitExpiry_answers⟩

end Sys2Proof.Machine
end

section
/-! Castling in the guard: what the exchange of roles and parities changes and leaves, when it is committed, and how it is taken
back. -/

namespace Sys2Proof.Machine

section
variable {s : State}

/-! ### Roles and parities (R279 to R281, R579) -/

theorem HbsKey.held_discard (k : HbsKey) : k.discard.held = 0 := by simp [HbsKey.discard, HbsKey.held, b2n]

/-- What a module does as it takes a new parity: its keys' blocks are discarded and their low water is checked; its jobs,
counters and the rest of its pairing stand. -/
structure ParityTaken (s t : State) (p : Nat) : Prop where
  jobs : t.jobs = s.jobs
  cnts : t.cnts = s.cnts
  tw : t.tw = s.tw
  parity : t.hbs.parity = p
  unheld : ∀ e ∈ t.hbs.keys, e.2.held = 0

/-- Taking a parity discards every block, and the low-water check after it reserves none (R279). -/
theorem State.takeParity_taken (s : State) (p : Nat) : ParityTaken s (s.takeParity p) p := by
  unfold State.takeParity
  have checked := lowChecked_checkLows
    { s.discardBlocks fun _ => true with hbs := { (s.discardBlocks fun _ => true).hbs with parity := p } }
  refine ⟨checked.jobs, checked.cnts, checked.tw, congrArg Hbs.parity checked.hbs, fun e he => ?_⟩
  obtain ⟨k, m, hk, hek⟩ := checked.listed e he
  obtain ⟨x, -, hx⟩ := List.mem_map.mp (show (e.1, k) ∈ s.hbs.keys.map fun e => (e.1, e.2.discard) from hk)
  obtain rfl : x.2.discard = k := congrArg Prod.snd hx
  rw [hek]
  exact x.2.held_discard

/-- The roles are exchanged: the new one holds with its parity and the stamp of the next boundary, and no block is held. -/
def RoleSwapped (s t : State) (role : Nat) : Prop :=
  t.tw.role = role ∧ t.tw.state = s.tw.state ∧ t.hbs.parity = role ∧ t.tw.lastCastle = s.stampIn 1 ∧
    t.cnt aTW_CASTLE_CNT 0 = (s.cnt aTW_CASTLE_CNT 0 + 1) % 2 ^ 32 ∧ t.jobs = s.jobs ∧
    (s.hbs.parity ≠ role → ∀ e ∈ t.hbs.keys, e.2.held = 0)

/-- A castling side's last act in the guard: it takes the role and the parity, and counts the exchange. -/
def State.swapRole (s : State) (role : Nat) : State :=
  ((s.changeRole s.tw.state role).takeParity role).bump aTW_CASTLE_CNT 0

/-- The rest of the pairing is that of the role change. -/
theorem State.swapRole_tw (s : State) (role : Nat) : (s.swapRole role).tw = (s.changeRole s.tw.state role).tw :=
  ((s.changeRole s.tw.state role).takeParity_taken role).tw

theorem State.swapRole_swapped (s : State) (role : Nat) : RoleSwapped s (s.swapRole role) role := by
  have taken := (s.changeRole s.tw.state role).takeParity_taken role
  have counted : (s.swapRole role).cnt aTW_CASTLE_CNT 0 = (s.cnt aTW_CASTLE_CNT 0 + 1) % 2 ^ 32 := by
    refine (State.cnt_bumpBy_same _ _ _ _).trans ?_
    unfold State.cnt
    rw [taken.cnts]
    rfl
  unfold RoleSwapped
  rw [s.swapRole_tw role]
  exact ⟨rfl, rfl, taken.parity, rfl, counted, taken.jobs, fun _ => taken.unheld⟩

/-! ### Committing (R579 step 3) -/

/-- The lead that holds the acknowledgement becomes the follow, remembering the parity it had. -/
theorem castleCommit_lead {c : Castling} (hg : s.tb.inGuard = true) (hc : s.tw.castle = some c) (ha : c.acked = true)
    (hn : c.committed = false) (hat : c.c = some s.tb.stamp) : answers .castleCommit s fun t => RoleSwapped s t 2 ∧
      t.tw.castle = some { c with committed := true, parity := s.hbs.parity } := by
  have hrun : execCastleCommit s = .next (({ s with
      tw := { s.tw with castle := some { c with committed := true, parity := s.hbs.parity } } } : State).swapRole 2) := by
    unfold execCastleCommit
    simp only [hg, hc, ha, hn, hat]
    rfl
  exact ⟨_, hrun, State.swapRole_swapped _ 2, congrArg Twin.castle (State.swapRole_tw _ 2)⟩

/-- The follow that has staged the swap and heard CASTLE_GO becomes the lead. -/
theorem castleCommit_follow (hg : s.tb.inGuard = true) (hc : s.tw.castle = none) (hs : s.tw.staged = some s.tb.stamp)
    (hgo : s.tw.goHeard = true) : answers .castleCommit s fun t => RoleSwapped s t 1 ∧ t.tw.staged = none ∧
      t.tw.goHeard = false := by
  have hrun : execCastleCommit s =
      .next (({ s with tw := { s.tw with staged := none, goHeard := false } } : State).swapRole 1) := by
    unfold execCastleCommit
    simp only [hg, hc, hs, hgo]
    rfl
  exact ⟨_, hrun, State.swapRole_swapped _ 1, congrArg Twin.staged (State.swapRole_tw _ 1),
    congrArg Twin.goHeard (State.swapRole_tw _ 1)⟩

/-- Outside the guard, at another crossing, or without the acknowledgement or CASTLE_GO, nothing is committed. -/
theorem castleCommit_stands (h : s.tb.inGuard = false ∨
      (s.tw.castle = none ∧ (s.tw.staged ≠ some s.tb.stamp ∨ s.tw.goHeard = false)) ∨
      (∃ c, s.tw.castle = some c ∧ (c.acked = false ∨ c.committed = true ∨ c.c ≠ some s.tb.stamp))) :
    answers .castleCommit s fun t => t = s := by
  refine ⟨s, ?_, rfl⟩
  change execCastleCommit s = _
  unfold execCastleCommit
  cases hg : s.tb.inGuard with
  | false => rfl
  | true =>
    rw [if_neg (by decide)]
    rcases h with hout | ⟨hc, hno⟩ | ⟨c, hc, hno⟩
    · exact absurd (hg.symm.trans hout) (by decide)
    · rw [hc]
      refine if_neg fun ⟨hs, hgo⟩ => ?_
      rcases hno with hn | hn
      · exact hn hs
      · exact absurd (hgo.symm.trans hn) (by decide)
    · rw [hc]
      refine if_neg fun ⟨ha, hcom, hat⟩ => ?_
      rcases hno with hn | hn | hn
      · exact absurd (ha.symm.trans hn) (by decide)
      · rw [hn] at hcom
        exact absurd hcom (by decide)
      · exact hn hat

/-! ### Taking back (R579) -/

/-- A castling that ends with a status other than DONE fails its command (R579). -/
theorem State.endCastle_fails {c : Castling} {j st : Nat} (hc : s.tw.castle = some c) (hj : c.job = some j)
    (hst : st ≠ stDONE) : s.endCastle st = ({ s with tw := { s.tw with castle := none } } : State).failJob j st := by
  unfold State.endCastle
  simp only [hc, hj, if_neg hst]

/-- A former lead whose partner still reports follow takes its role and its old parity back, and its CASTLE fails. -/
theorem castleTakeback_answers {c : Castling} {j : Nat} {b : Job} (hg : s.tb.inGuard = true) (hc : s.tw.castle = some c)
    (hcom : c.committed = true) (hf : 2 ≤ c.stillFollow) (hcj : c.job = some j) (hj : s.job j = some b) :
    answers .castleTakeback s fun t => t.tw.role = 1 ∧ t.tw.state = s.tw.state ∧ t.tw.castle = none ∧
      t.hbs.parity = c.parity ∧ endedWith t j (failed stNOT_READY) ∧ otherJobsKept s t j := by
  have hrun : execCastleTakeback s =
      .next (((s.changeRole s.tw.state 1).takeParity c.parity).endCastle stNOT_READY) := by
    unfold execCastleTakeback
    rw [hc]
    exact if_pos ⟨hg, hcom, hf⟩
  have taken := (s.changeRole s.tw.state 1).takeParity_taken c.parity
  generalize (s.changeRole s.tw.state 1).takeParity c.parity = u at hrun taken
  have hjobs : u.jobs = s.jobs := taken.jobs
  have huc : u.tw.castle = some c := by
    rw [taken.tw]
    exact hc
  rw [State.endCastle_fails huc hcj (by decide)] at hrun
  have htw : (({ u with tw := { u.tw with castle := none } } : State).failJob j stNOT_READY).tw =
      { u.tw with castle := none } := State.endJob_tw _ _ _
  refine ⟨_, hrun, ?_, ?_, congrArg Twin.castle htw, (congrArg Hbs.parity (State.endJob_hbs _ _ _)).trans taken.parity,
    endedWith_endJob _ ((job_of_jobs hjobs j).trans hj),
    fun i hi => (State.job_endJob_other _ _ hi).trans (job_of_jobs hjobs i)⟩
  · rw [htw]
    exact congrArg Twin.role taken.tw
  · rw [htw]
    exact (congrArg Twin.state taken.tw : u.tw.state = _)

end

/-- Settles O52: each side's commit exchanges its role, nothing else commits, and the take-back is the lemma on it. -/
theorem castlingCommits : Obligations.CastlingCommits := by
  unfold Obligations.CastlingCommits
  intro s
  dsimp only
  exact ⟨fun _ => castleCommit_lead, castleCommit_follow, castleCommit_stands, fun _ _ _ => castleTakeback_answers⟩

end Sys2Proof.Machine
end

section
/-! The code-based opcodes: what generation, encapsulation and decapsulation end with, how a key is stored under PEER_SLOT,
and how the end of a regeneration lets the jobs of its key go on. -/

namespace Sys2Proof.Machine

section
variable {s : State} {j : Nat} {b : Job}

/-! ### Key generation (R305, R306) -/

theorem mceKeygen_answers (h : runsOp s j b opMCE_KEYGEN) : answers (.mceKeygen j) s fun t =>
    endsQuietly s t j { done [⟨0x0072, sha3_256 (mcePublic b.pset b.key)⟩,
        ⟨0x0074, leBytes (mceAttempts b.pset b.key) 4⟩] with
      out := mcePublic b.pset b.key, bind := b.pset, sealSize := ((mceSizes b.pset).map (·.2.1)).getD 0 } ∧
    t.cnt aCE_KG_ATTEMPTS b.engineNo = (s.cnt aCE_KG_ATTEMPTS b.engineNo + mceAttempts b.pset b.key) % 2 ^ 32 := by
  refine ⟨_, (runJob_ends _ h : execMceKeygen j s = _), endJob_unseen _ h.1 (unseen_bumpBy s _ _ _), ?_⟩
  unfold State.cnt
  rw [State.endJob_cnts]
  exact s.cnt_bumpBy_same _ _ _

/-! ### Encapsulation (R309 to R313) -/

/-- Job `j` ended with the ciphertext of fresh error bytes for the key `pk` behind the results `stored`, and with its
shared secret (R309). -/
def EncapsulatedTo (t : State) (j : Nat) (b : Job) (pk : Bytes) (stored : List Tlv) : Prop :=
  ∃ e : Bytes, e.length = 32 ∧
    endedWith t j (b.sharedEnd (stored ++ [⟨0x0052, (mceEncaps b.pset pk e).1⟩]) (mceEncaps b.pset pk e).2)

/-- The job's end after drawing 32 error bytes and encapsulating to `pk` with them. -/
def State.encapsulate (s : State) (j : Nat) (b : Job) (pk : Bytes) (stored : List Tlv) : State :=
  let r := s.drawBytes 32
  let z := mceEncaps b.pset pk r.1
  r.2.endJob j (b.sharedEnd (stored ++ [⟨0x0052, z.1⟩]) z.2)

theorem State.encapsulate_encapsulated {s : State} {j : Nat} {b : Job} (hj : s.job j = some b) (pk : Bytes)
    (stored : List Tlv) : EncapsulatedTo (s.encapsulate j b pk stored) j b pk stored :=
  ⟨_, s.drawBytes_length 32, endedWith_endJob (b := b) _ hj⟩

theorem State.encapsulate_otherJobs (s : State) (j : Nat) (b : Job) (pk : Bytes) (stored : List Tlv) :
    otherJobsKept s (s.encapsulate j b pk stored) j :=
  otherJobsKept_endJob (s.drawBytes 32).2 j _

/-- Ending a job leaves the slots. -/
theorem State.slot_endJob (s : State) (j : Nat) (e : Ending) (d : Nat) : (s.endJob j e).slot d = s.slot d := by
  unfold State.slot
  rw [State.endJob_ks]

theorem State.encapsulate_slot (s : State) (j : Nat) (b : Job) (pk : Bytes) (stored : List Tlv) (d : Nat) :
    (s.encapsulate j b pk stored).slot d = s.slot d :=
  (s.drawBytes 32).2.slot_endJob j _ d

/-- Without an entry for its key an encapsulation is contained. -/
theorem mceEncaps_noPeer (h : runsOp s j b opMCE_ENCAPS) (hp : s.peerFor j b = none) :
    answers (.mceEncaps j) s fun t => endsQuietly s t j (failed stFAULT_CONTAINED) := by
  have hrun : execMceEncaps j s = _ := runJob_ends _ h
  rw [hp] at hrun
  exact ⟨_, hrun, endJob_unseen _ h.1 (Unseen.refl s)⟩

/-- A stored key that still has its recorded digest is encapsulated to (R312). -/
theorem mceEncaps_loaded {n : Nat} {e : Peer} (h : runsOp s j b opMCE_ENCAPS) (hp : s.peerFor j b = some (n, e))
    (hh : b.handle ≠ 0) (hd : sha3_256 e.key = e.digest) :
    answers (.mceEncaps j) s fun t => otherJobsKept s t j ∧ EncapsulatedTo t j b e.key [] := by
  have hrun : execMceEncaps j s = .next (s.encapsulate j b e.key []) := by
    refine (runJob_ends _ h).trans ?_
    simp only [hp, if_pos hh, if_pos hd]
    rfl
  exact ⟨_, hrun, s.encapsulate_otherJobs j b _ _, State.encapsulate_encapsulated h.1 _ _⟩

/-- A job that still stands when it is ended has that outcome. -/
theorem State.endJob_ending {s : State} {j : Nat} {e : Ending} {b : Job} (h : (s.endJob j e).job j = some b) :
    b.ending = some e := by
  cases hj : s.job j with
  | none =>
    unfold State.endJob State.onJob at h
    rw [hj] at h
    exact absurd (hj.symm.trans h) (by simp)
  | some x =>
    rw [s.job_endJob_same e hj] at h
    exact congrArg Job.ending (Option.some.inj h.symm)

/-- A stored key whose digest differs contains the job: whatever the fault did, the job's end is the last word (R312,
R322). -/
theorem mceEncaps_digestFails {n : Nat} {e : Peer} (h : runsOp s j b opMCE_ENCAPS) (hp : s.peerFor j b = some (n, e))
    (hh : b.handle ≠ 0) (hd : sha3_256 e.key ≠ e.digest) :
    answers (.mceEncaps j) s fun t => ∀ b', t.job j = some b' → b'.ending = some (failed stFAULT_CONTAINED) := by
  have hrun : execMceEncaps j s = .next ((s.digestFails j b.engineNo).endJob j (failed stFAULT_CONTAINED)) := by
    refine (runJob_ends _ h).trans ?_
    simp only [hp, if_pos hh, if_neg hd]
  exact ⟨_, hrun, fun _ => State.endJob_ending⟩

/-- The slot that PEER_SLOT names is PENDING, so that the job's key fills it (R310, R311). -/
def State.fillsPeer (s : State) (b : Job) : Bool :=
  b.has 0x0070 && (s.slot (hSlot (b.handleIn 0x0070))).state == .pending

/-- The state with the entry `n` of the job's key under the PENDING slot of PEER_SLOT, if it names one (R311). -/
def State.fillPeer (s : State) (b : Job) (n : Nat) (e : Peer) : State :=
  if s.fillsPeer b then
    let d := hSlot (b.handleIn 0x0070)
    ({ s with parts := { s.parts with peers := tset s.parts.peers n { e with slot := some d } } } : State).setSlot d
      { s.slot d with state := .loaded, pset := b.pset }
  else s

/-- What a job with PEER_SLOT answers of its key: the handle of the slot it fills, and the key's digest (R310, R311). -/
def State.peerResults (s : State) (b : Job) (digest : Bytes) : List Tlv :=
  if b.has 0x0070 then
    (if s.fillsPeer b then [⟨0x0071, leBytes (s.handleOf (hSlot (b.handleIn 0x0070))) 8⟩] else []) ++ [⟨0x0072, digest⟩]
  else []

theorem State.fillPeer_jobs (s : State) (b : Job) (n : Nat) (e : Peer) : (s.fillPeer b n e).jobs = s.jobs := by
  unfold State.fillPeer
  split <;> rfl

/-- A filled slot is loaded with the job's parameter set. -/
theorem State.fillPeer_slot (n : Nat) (e : Peer) (hf : s.fillsPeer b = true) :
    (s.fillPeer b n e).slot (hSlot (b.handleIn 0x0070)) =
      { s.slot (hSlot (b.handleIn 0x0070)) with state := .loaded, pset := b.pset } := by
  unfold State.fillPeer
  rw [if_pos hf]
  exact State.slot_setSlot_same _ _ _

/-- Filling a slot leaves its handle. -/
theorem State.fillPeer_handleOf (s : State) (b : Job) (n : Nat) (e : Peer) :
    (s.fillPeer b n e).handleOf (hSlot (b.handleIn 0x0070)) = s.handleOf (hSlot (b.handleIn 0x0070)) := by
  cases hf : s.fillsPeer b with
  | false => rw [State.fillPeer, hf]; rfl
  | true =>
    have hslot := State.fillPeer_slot n e hf
    refine State.handleOf_congr _ ?_ (by rw [hslot]) (by rw [hslot]) (by rw [hslot])
    unfold State.fillPeer
    rw [if_pos hf]
    rfl

/-- An encapsulation to the operand key fills the slot that waits for it, and with STORE_ONLY ends there (R311). -/
theorem execMceEncaps_operand {n : Nat} {e : Peer} (h : runsOp s j b opMCE_ENCAPS)
    (hp : s.peerFor j b = some (n, e)) (hh : b.handle = 0) :
    execMceEncaps j s = .next (if tlvNat b.params 0x0073 0 = 1 then
      (s.fillPeer b n e).endJob j (done (s.peerResults b e.digest))
      else (s.fillPeer b n e).encapsulate j b e.key (s.peerResults b e.digest)) := by
  have hres : s.peerResults b e.digest = if !b.has 0x0070 then [] else
      (if s.fillsPeer b then [⟨0x0071, leBytes ((s.fillPeer b n e).handleOf (hSlot (b.handleIn 0x0070))) 8⟩] else []) ++
        [⟨0x0072, e.digest⟩] := by
    rw [s.fillPeer_handleOf, State.peerResults]
    cases b.has 0x0070 <;> rfl
  rw [hres]
  refine (runJob_ends _ h).trans ?_
  simp only [hp, if_neg (not_not_intro hh)]
  by_cases ho : tlvNat b.params 0x0073 0 = 1
  · rw [if_pos ho, if_pos ho]
    rfl
  · rw [if_neg ho, if_neg ho]
    rfl

theorem mceEncaps_operand {n : Nat} {e : Peer} (h : runsOp s j b opMCE_ENCAPS) (hp : s.peerFor j b = some (n, e))
    (hh : b.handle = 0) : answers (.mceEncaps j) s fun t => otherJobsKept s t j ∧
      (s.fillsPeer b = true → (t.slot (hSlot (b.handleIn 0x0070))).state = .loaded ∧
        (t.slot (hSlot (b.handleIn 0x0070))).pset = b.pset) ∧
      if tlvNat b.params 0x0073 0 = 1 then endedWith t j (done (s.peerResults b e.digest))
      else EncapsulatedTo t j b e.key (s.peerResults b e.digest) := by
  have hjobs := job_of_jobs (s.fillPeer_jobs b n e)
  have loaded : s.fillsPeer b = true → ((s.fillPeer b n e).slot (hSlot (b.handleIn 0x0070))).state = .loaded ∧
      ((s.fillPeer b n e).slot (hSlot (b.handleIn 0x0070))).pset = b.pset := fun hf => by
    rw [State.fillPeer_slot n e hf]
    exact ⟨rfl, rfl⟩
  refine ⟨_, execMceEncaps_operand h hp hh, ?_⟩
  by_cases ho : tlvNat b.params 0x0073 0 = 1
  · simp only [if_pos ho, State.slot_endJob]
    exact ⟨fun i hi => (State.job_endJob_other _ _ hi).trans (hjobs i), loaded,
      endedWith_endJob _ ((hjobs j).trans h.1)⟩
  · simp only [if_neg ho, State.encapsulate_slot]
    exact ⟨fun i hi => (State.encapsulate_otherJobs _ _ _ _ _ i hi).trans (hjobs i), loaded,
      State.encapsulate_encapsulated ((hjobs j).trans h.1) _ _⟩

/-! ### Decapsulation and regeneration (R307, R323) -/

theorem unseen_sealKey (s : State) (slot gen inst size : Nat) : Unseen s (s.sealKey slot gen inst size) :=
  Unseen.trans ⟨rfl, surfaceKept_refl s⟩ (unseen_writeSealed (s.dropSealed fun c => c.slot == slot) slot gen inst size)

theorem State.writeSealed_cnts (s : State) (slot gen inst size : Nat) :
    (s.writeSealed slot gen inst size).cnts = s.cnts := by
  unfold State.writeSealed
  repeat' split
  all_goals rfl

theorem State.sealKey_cnts (s : State) (slot gen inst size : Nat) : (s.sealKey slot gen inst size).cnts = s.cnts :=
  State.writeSealed_cnts (s.dropSealed fun c => c.slot == slot) slot gen inst size

/-- Decapsulation uses the sealed copy of its key; without one its job waits for the regeneration. -/
theorem mceDecaps_answers (h : runsOp s j b opMCE_DECAPS) : answers (.mceDecaps j) s fun t =>
    if s.hasSealed b.handle then
      endsQuietly s t j (b.sharedEnd [] (Config.standard "McEliece.decaps" b.pset [b.key, b.val 0x0052] 32))
    else t.job j = some { b with wait := .regeneration } ∧ otherJobsKept s t j ∧ surfaceKept s t ∧
      hSlot b.handle ∈ t.parts.regen := by
  obtain ⟨hj, hc, hp, hw, -⟩ := h
  have hruns : b.opcode = opMCE_DECAPS ∧ b.phase = .running ∧ b.wait = .no := ⟨hc, hp, hw⟩
  unfold answers
  change ∃ t, execMceDecaps j s = .next t ∧ _
  unfold execMceDecaps
  simp only [hj, if_pos hruns]
  by_cases hs : s.hasSealed b.handle = true
  · simp only [if_pos hs]
    exact ⟨_, rfl, endJob_unseen _ hj (Unseen.refl s)⟩
  simp only [if_neg hs]
  by_cases hr : s.parts.regen.contains (hSlot b.handle) = true
  · rw [if_pos hr]
    obtain ⟨stored, others, surface⟩ := stored_setJob (j := j) (Unseen.refl s) { b with wait := .regeneration }
    exact ⟨_, rfl, stored, others, surface, by simpa using hr⟩
  · rw [if_neg hr]
    obtain ⟨stored, others, surface⟩ := stored_setJob (s := s) (j := j)
      (u := { s with parts := { s.parts with regen := s.parts.regen ++ [hSlot b.handle] } })
      ⟨rfl, surfaceKept_refl s⟩ { b with wait := .regeneration }
    exact ⟨_, rfl, stored, others, surface, List.mem_append_right _ (List.mem_singleton.mpr rfl)⟩

/-- The end of a slot's regeneration lets its waiting jobs go on, and changes nothing of the surface or the counters. -/
theorem State.regenerated_goesOn {t : State} (seen : Unseen s t) (hj : s.job j = some b) (hw : b.wait = .regeneration) :
    (t.regenerated (hSlot b.handle)).job j = some { b with wait := .no } ∧
    hSlot b.handle ∉ (t.regenerated (hSlot b.handle)).parts.regen ∧ surfaceKept s (t.regenerated (hSlot b.handle)) ∧
    (t.regenerated (hSlot b.handle)).cnts = t.cnts := by
  obtain ⟨hjobs, hsurface⟩ := seen
  refine ⟨?_, fun hmem => ?_, hsurface, rfl⟩
  · have hjob : State.job { t with parts := { t.parts with regen := t.parts.regen.filter (· != hSlot b.handle) } } j =
        some b := (job_of_jobs hjobs j).trans hj
    refine (State.job_onJobs _ _ j).trans ?_
    rw [hjob, Option.map_some, if_pos ⟨hw, rfl⟩]
  · simpa using (List.mem_filter.mp hmem).2

/-- The counters that the end of a regeneration raises: the regeneration and the attempts it took (R305, R307). -/
def State.countRegen (s : State) (b : Job) : State :=
  (s.bump aCE_REGEN b.engineNo).bumpBy aCE_KG_ATTEMPTS b.engineNo (mceAttempts b.pset b.key)

/-- The attempts are counted beside the regeneration. -/
theorem State.countRegen_cnt (s : State) (b : Job) :
    (s.countRegen b).cnt aCE_REGEN b.engineNo = (s.cnt aCE_REGEN b.engineNo + 1) % 2 ^ 32 := by
  have hapart : cntKey aCE_REGEN b.engineNo ≠ cntKey aCE_KG_ATTEMPTS b.engineNo := by
    unfold cntKey
    have : aCE_REGEN ≠ aCE_KG_ATTEMPTS := by decide
    omega
  exact (tgetD_tput_other _ _ _ _ hapart).trans (s.cnt_bumpBy_same _ _ _)

/-- The end of a regeneration makes the sealed copy, counts, and lets the job go on. -/
theorem mceRegenerationDone_answers (hj : s.job j = some b) (hc : b.opcode = opMCE_DECAPS)
    (hw : b.wait = .regeneration) : answers (.mceRegenerationDone j) s fun t =>
      t.job j = some { b with wait := .no } ∧ hSlot b.handle ∉ t.parts.regen ∧ surfaceKept s t ∧
      t.cnt aCE_REGEN b.engineNo = (s.cnt aCE_REGEN b.engineNo + 1) % 2 ^ 32 := by
  have hrun : execMceRegenerationDone j s = .next (((s.countRegen b).sealKey (hSlot b.handle) (hGen b.handle) b.inst
      (((mceSizes b.pset).map (·.2.1)).getD 0)).regenerated (hSlot b.handle)) := by
    unfold execMceRegenerationDone
    rw [hj]
    exact if_pos ⟨hc, hw⟩
  have seen : Unseen s (s.countRegen b) := (unseen_bump s _ _).trans (unseen_bumpBy _ _ _ _)
  obtain ⟨hjob, hregen, hsurface, hcnts⟩ :=
    State.regenerated_goesOn (seen.trans (unseen_sealKey (s.countRegen b) _ _ _ _)) hj hw
  refine ⟨_, hrun, hjob, hregen, hsurface, ?_⟩
  rw [← s.countRegen_cnt b]
  unfold State.cnt
  rw [hcnts, State.sealKey_cnts]

/-! ### HQC (R304, R308, R321, R323) -/

theorem hqcKeygen_answers (h : runsOp s j b opHQC_KEYGEN) : answers (.hqcKeygen j) s fun t => endsQuietly s t j
    { done [⟨0x0051, Config.standard "HQC.keygen" b.pset [hqcExpand b.pset b.key]
        (((hqcSizes b.pset).map (·.1)).getD 0)⟩] with bind := b.pset } :=
  (runJob_unseen _ h (Unseen.refl s) : ∃ t, execHqcKeygen j s = .next t ∧ _)

/-- Encapsulation draws its 64 bytes when the padding of the public key is clear (R321). -/
theorem hqcEncaps_answers (h : runsOp s j b opHQC_ENCAPS) : answers (.hqcEncaps j) s fun t =>
    if hqcPkOk b.pset (b.val 0x0051) then ∃ r : Bytes, r.length = 64 ∧ endsQuietly s t j (b.sharedEnd
      [⟨0x0052, Config.standard "HQC.encaps.c" b.pset [b.val 0x0051, r] (((hqcSizes b.pset).map (·.2.1)).getD 0)⟩]
      (Config.standard "HQC.encaps.k" b.pset [b.val 0x0051, r] 64))
    else endsQuietly s t j (failed stINPUT_ENCODING) := by
  refine (runJob_unseen _ h ?_ : ∃ t, execHqcEncaps j s = .next t ∧ _).imp fun t ⟨hx, ht⟩ => ⟨hx, ?_⟩
  · dsimp only
    split
    · exact Unseen.refl s
    · exact unseen_drawBytes s 64
  · split
    · rename_i hpk
      exact ⟨(s.drawBytes 64).1, s.drawBytes_length 64, by simpa [hpk] using ht⟩
    · rename_i hpk
      simpa [hpk] using ht

theorem hqcDecaps_answers (h : runsOp s j b opHQC_DECAPS) : answers (.hqcDecaps j) s fun t => endsQuietly s t j
    (b.sharedEnd [] (Config.standard "HQC.decaps" b.pset [hqcExpand b.pset b.key, b.val 0x0052] 64)) :=
  (runJob_unseen _ h (Unseen.refl s) : ∃ t, execHqcDecaps j s = .next t ∧ _)

end

/-- Settles O15: each opcode is the lemma on it; MCE_ENCAPS goes by its entry of P3 and by whether a peer handle names it,
and MCE_DECAPS by whether a sealed copy stands. -/
theorem codeBasedOperations : Obligations.CodeBasedOperations := by
  unfold Obligations.CodeBasedOperations
  intro s j b
  exact ⟨mceKeygen_answers, mceEncaps_noPeer,
    fun n e h hp hh => ⟨mceEncaps_loaded h hp hh, mceEncaps_digestFails h hp hh⟩,
    fun n e h hp hh => mceEncaps_operand h hp hh, mceDecaps_answers, mceRegenerationDone_answers, hqcKeygen_answers,
    hqcEncaps_answers, hqcDecaps_answers⟩

end Sys2Proof.Machine
end

section
/-! Modular arithmetic: the exponentiation ladder computes the power, and the extended Euclidean loop the inverse. -/

namespace Sys2Proof.Machine

/-! ### The ladder (R333) -/

/-- The ladder squares the base and halves the exponent, so that it needs one round for each bit of the exponent. -/
theorem modPow_eq_pow (n : Nat) : ∀ (bits a e : Nat), e < 2 ^ bits → modPow a n bits e = a ^ e % n
  | 0, a, e, he => by
    have he : e = 0 := by simpa using he
    rw [he, pow_zero]
    rfl
  | bits + 1, a, e, he => by
    have hhalf : modPow (a * a % n) n bits (e / 2) = a ^ (2 * (e / 2)) % n := by
      rw [modPow_eq_pow n bits _ _ (by omega), ← Nat.pow_mod, ← pow_two, ← pow_mul]
    rw [modPow, hhalf]
    split
    · next h => rw [h, pow_zero]
    · split
      · next hodd => rw [Nat.mul_mod_mod, ← pow_succ', show 2 * (e / 2) + 1 = e by omega]
      · next heven => rw [show 2 * (e / 2) = e by omega]

/-! ### The inverse (R344) -/

/-- The loop keeps each remainder congruent to its coefficient times `a`, so what it answers is an inverse. -/
theorem invLoop_sound (a : Int) (n : Nat) {x : Nat} : ∀ (f r0 r1 : Nat) (t0 t1 : Int), t0 * a ≡ r0 [ZMOD n] →
    t1 * a ≡ r1 [ZMOD n] → invLoop n f r0 r1 t0 t1 = some x → ∃ t : Int, x = (t % n).toNat ∧ t * a ≡ 1 [ZMOD n]
  | 0, _, _, _, _, _, _, h => by simp [invLoop] at h
  | f + 1, r0, r1, t0, t1, h0, h1, h => by
    rw [invLoop] at h
    split at h
    · split at h
      · next hr => exact ⟨t0, (Option.some.inj h).symm, by simpa [hr] using h0⟩
      · cases h
    · refine invLoop_sound a n f _ _ _ _ h1 ?_ h
      have hrem : ((r0 % r1 : Nat) : Int) = r0 - (r0 / r1 : Nat) * r1 := by
        have := Nat.mod_add_div' r0 r1
        omega
      rw [hrem, sub_mul, mul_assoc]
      exact h0.sub (h1.mul_left _)

/-- Each round keeps the common divisor and at least halves the product of the remainders, so the fuel is enough and the
loop answers exactly when the common divisor is 1. -/
theorem invLoop_isSome (n : Nat) : ∀ (f r0 r1 : Nat) (t0 t1 : Int), r1 < r0 → r0 * r1 < 2 ^ f →
    ((invLoop n (f + 1) r0 r1 t0 t1).isSome ↔ Nat.gcd r0 r1 = 1)
  | f, r0, 0, t0, t1, _, _ => by
    rw [invLoop, if_pos rfl, Nat.gcd_zero_right]
    split <;> simp [*]
  | 0, r0, r1 + 1, _, _, hlt, hprod => by
    have : 0 < r0 * (r1 + 1) := Nat.mul_pos (by omega) (by omega)
    omega
  | f + 1, r0, r1 + 1, t0, t1, hlt, hprod => by
    have hrem : r0 % (r1 + 1) < r1 + 1 := Nat.mod_lt _ (Nat.succ_pos r1)
    have hhalf : 2 * (r0 % (r1 + 1)) ≤ r0 := by
      have := Nat.mod_add_div r0 (r1 + 1)
      have : r1 + 1 ≤ (r1 + 1) * (r0 / (r1 + 1)) := Nat.le_mul_of_pos_right _ (Nat.div_pos hlt.le (Nat.succ_pos r1))
      omega
    have hless : (r1 + 1) * (r0 % (r1 + 1)) < 2 ^ f := by
      have := Nat.mul_le_mul_left (r1 + 1) hhalf
      rw [pow_succ] at hprod
      linarith
    rw [invLoop, if_neg (Nat.succ_ne_zero r1), invLoop_isSome n f _ _ _ _ hrem hless, Nat.gcd_comm, ← Nat.gcd_rec,
      Nat.gcd_comm]

variable {a n : Nat}

/-- An inverse that is answered is below the modulus, and its product with `a` is 1. -/
theorem modInv_sound {x : Nat} (hn : 1 < n) (h : modInv a n = some x) : x < n ∧ a * x % n = 1 := by
  obtain ⟨t, rfl, ht⟩ := invLoop_sound a n _ _ _ _ _ (by simpa using (Int.modEq_zero_iff_dvd.mpr dvd_rfl).symm)
    (by rw [one_mul]) h
  have hpos : (0 : Int) < n := by omega
  have hcast : ((t % n).toNat : Int) = t % n := Int.toNat_of_nonneg (Int.emod_nonneg t hpos.ne')
  refine ⟨by have := Int.emod_lt_of_pos t hpos; omega, ?_⟩
  have hone : (a * (t % n) : Int) % n = 1 := by
    rw [mul_comm, Int.mul_emod, Int.emod_emod, ← Int.mul_emod, ht]
    exact Int.emod_eq_of_lt zero_le_one (by exact_mod_cast hn)
  rw [← hcast] at hone
  exact_mod_cast hone

/-- A number below the modulus has an inverse exactly when it has no common divisor with it. -/
theorem modInv_isSome (ha : a < n) : (modInv a n).isSome ↔ Nat.gcd a n = 1 := by
  have hlog : n < 2 ^ (Nat.log2 n + 1) := Nat.lt_log2_self
  have hprod : n * a < 2 ^ (2 * Nat.log2 n + 3) := calc
    n * a ≤ n * n := Nat.mul_le_mul_left n ha.le
    _ < 2 ^ (Nat.log2 n + 1) * 2 ^ (Nat.log2 n + 1) := Nat.mul_lt_mul'' hlog hlog
    _ = 2 ^ (2 * Nat.log2 n + 2) := by rw [← pow_add]; congr 1; omega
    _ ≤ 2 ^ (2 * Nat.log2 n + 3) := Nat.pow_le_pow_right two_pos (by omega)
  rw [Nat.gcd_comm]
  exact invLoop_isSome n _ n a 0 1 ha hprod

/-- The inverse is the one number below the modulus whose product with `a` is 1. -/
theorem modInv_eq_of_mul {y : Nat} (hn : 1 < n) (ha : a < n) (hy : y < n) (h : a * y % n = 1) : modInv a n = some y := by
  have hinv : a * y ≡ 1 [MOD n] := h.trans (Nat.mod_eq_of_lt hn).symm
  have hcop : Nat.gcd a n = 1 := Nat.coprime_of_mul_modEq_one y hinv
  obtain ⟨x, hx⟩ := Option.isSome_iff_exists.mp ((modInv_isSome ha).mpr hcop)
  obtain ⟨hlt, hmul⟩ := modInv_sound hn hx
  have hsame : a * x ≡ a * y [MOD n] := hmul.trans h.symm
  rw [hx, (Nat.ModEq.cancel_left_of_coprime ((Nat.gcd_comm n a).trans hcop) hsame).eq_of_lt_of_lt hlt hy]

/-! ### Operands (R331) -/

theorem leNat_lt : ∀ bs : Bytes, leNat bs < 2 ^ (8 * bs.length)
  | [] => by decide
  | b :: r => by
    have hb : b.toNat < 256 := b.isLt
    have hr := leNat_lt r
    rw [List.length_cons, mul_add, pow_add, leNat]
    omega

/-- An operand has at most as many bits as its bytes hold. -/
theorem Job.num_lt (b : Job) (ty : Nat) : b.num ty < 2 ^ (8 * (b.val ty).length) := by
  simpa [Job.num, beNat] using leNat_lt (b.val ty).reverse

end Sys2Proof.Machine
end

section
/-! The big-number and RSA opcodes: what their value checks and their results end a job with, and how RSA_PRIVATE waits for
the regeneration of its key. -/

namespace Sys2Proof.Machine

/-! ### Value checks (R344) -/

/-- The ending of a job that a value check refuses with the status `st`. -/
def refusedWith (st : Nat) : Ending := { status := st, verdict := if st = stVERIFY_FAIL then vFail else 0 }

/-- The ending of a job by the first of its value checks that fails, or else by `e`. -/
def checkedEnd (checks : List (Bool × Nat)) (e : Ending) : Ending :=
  match firstBad checks with
  | some st => refusedWith st
  | none => e

theorem bnEnd_ending (s : State) (checks : List (Bool × Nat)) (e : Ending) :
    (bnEnd s checks e).2 = checkedEnd checks e := by
  unfold bnEnd checkedEnd
  cases firstBad checks <;> rfl

theorem firstBad_cons (bad : Bool) (st : Nat) (checks : List (Bool × Nat)) :
    firstBad ((bad, st) :: checks) = if bad then some st else firstBad checks := by
  cases bad <;> rfl

/-- A check that passes leaves the ending to the others. -/
theorem checkedEnd_pass {bad : Bool} {st : Nat} {checks : List (Bool × Nat)} {e : Ending} (h : bad = false) :
    checkedEnd ((bad, st) :: checks) e = checkedEnd checks e := by
  rw [checkedEnd, firstBad_cons, h]
  rfl

/-- An odd modulus above 1 passes. -/
theorem checkedEnd_modulus {n : Nat} (hn : 1 < n) (hodd : n % 2 = 1) (checks : List (Bool × Nat)) (e : Ending) :
    checkedEnd (modulusBad n ++ checks) e = checkedEnd checks e := by
  have hzero : (n == 0) = false := beq_false_of_ne (by omega)
  have heven : (n == 1 || n % 2 == 0) = false := by
    rw [beq_false_of_ne (by omega : n ≠ 1), hodd]
    rfl
  exact (checkedEnd_pass hzero).trans (checkedEnd_pass heven)

section
variable {s : State} {j : Nat} {b : Job}

/-- An opcode whose meaning ends in value checks, in a state `u` that the host sees no change in, ends its job by them. -/
theorem runJob_checked {u : State} {code : Nat} {f : State → Job → State × Ending} {checks : List (Bool × Nat)}
    {e : Ending} (h : runsOp s j b code) (hf : f s b = bnEnd u checks e) (hu : Unseen s u) :
    ∃ t, runJob s j code f = .next t ∧ endsQuietly s t j (checkedEnd checks e) := by
  rw [← bnEnd_ending u, ← hf]
  exact runJob_unseen f h (hf ▸ hu.trans (unseen_bnEnd u checks e))

/-! ### Big numbers (R331 to R333, R344) -/

theorem bnModexp_answers (h : runsOp s j b opBN_MODEXP) : answers (.bnModexp j) s fun t => endsQuietly s t j
    (checkedEnd (modulusBad (b.num 0x0081) ++ [(decide (b.num 0x0082 ≥ b.num 0x0081), stINPUT_RANGE)])
      (b.bnResult (if b.num 0x0082 = 0 then 0
        else modPow (b.num 0x0082) (b.num 0x0081) (8 * (b.val 0x0084).length) (b.num 0x0084)))) :=
  (runJob_checked h rfl (Unseen.refl s) : ∃ t, execBnModexp j s = .next t ∧ _)

theorem bnModmul_answers (h : runsOp s j b opBN_MODMUL) : answers (.bnModmul j) s fun t => endsQuietly s t j
    (checkedEnd (modulusBad (b.num 0x0081) ++
        [(decide (b.num 0x0082 ≥ b.num 0x0081 ∨ b.num 0x0083 ≥ b.num 0x0081), stINPUT_RANGE)])
      (b.bnResult (b.num 0x0082 * b.num 0x0083 % b.num 0x0081))) := by
  rw [Bool.decide_or]
  exact (runJob_checked h rfl (Unseen.refl s) : ∃ t, execBnModmul j s = .next t ∧ _)

theorem bnModinv_answers (h : runsOp s j b opBN_MODINV) : answers (.bnModinv j) s fun t => endsQuietly s t j
    (checkedEnd (modulusBad (b.num 0x0081) ++ [(decide (b.num 0x0082 ≥ b.num 0x0081), stINPUT_RANGE),
        ((modInv (b.num 0x0082) (b.num 0x0081)).isNone, stINPUT_RANGE)])
      (b.bnResult ((modInv (b.num 0x0082) (b.num 0x0081)).getD 0))) :=
  (runJob_checked h rfl (Unseen.refl s) : ∃ t, execBnModinv j s = .next t ∧ _)

/-! ### RSA keys (R335, R336) -/

theorem rsaKeygen_answers (h : runsOp s j b opRSA_KEYGEN) : answers (.rsaKeygen j) s fun t =>
    endsQuietly s t j { done [⟨0x0081, rsaModulus (tlvNat b.params 0x0086 0) b.key⟩,
        ⟨0x008B, leBytes (rsaCandidates (tlvNat b.params 0x0086 0) b.key) 4⟩] with
      bind := tlvNat b.params 0x0086 0, sealSize := rsaSealedSize (tlvNat b.params 0x0086 0) } ∧
    t.cnt aBN_KG_CANDIDATES b.engineNo =
      (s.cnt aBN_KG_CANDIDATES b.engineNo + rsaCandidates (tlvNat b.params 0x0086 0) b.key) % 2 ^ 32 := by
  refine ⟨_, (runJob_ends _ h : execRsaKeygen j s = _), endJob_unseen _ h.1 (unseen_bumpBy s _ _ _), ?_⟩
  unfold State.cnt
  rw [State.endJob_cnts]
  exact s.cnt_bumpBy_same _ _ _

/-- RSA_PRIVATE draws a salt or counts a rejected value, and neither is seen. -/
theorem unseen_rsaPrivate (s : State) (b : Job) : Unseen s (rsaPrivate s b).1 := by
  unfold rsaPrivate
  dsimp only
  split
  · exact unseen_bnEnd _ _ _
  split
  · exact unseen_bnEnd _ _ _
  split
  · exact unseen_drawBytes _ _
  · exact Unseen.refl s

/-- An ending that is DONE behind one check, whose status is another, is the result. -/
theorem checkedEnd_done {bad : Bool} {st : Nat} {e : Ending} (hst : st ≠ stDONE)
    (h : (checkedEnd [(bad, st)] e).status = stDONE) : checkedEnd [(bad, st)] e = e := by
  cases bad with
  | true => exact absurd h hst
  | false => rfl

/-- What RSA_PRIVATE answers is one RESULT for a raw operation or a decryption, and one SIGNATURE otherwise (R340). -/
theorem rsaPrivate_results (h : (rsaPrivate s b).2.status = stDONE) : ∃ tag v, (rsaPrivate s b).2.results = [⟨tag, v⟩] ∧
    tag = if tlvNat b.params 0x0087 0 = 0 ∨ tlvNat b.params 0x0087 0 = 3 then 0x0085 else 0x0055 := by
  unfold rsaPrivate at h ⊢
  by_cases hraw : tlvNat b.params 0x0087 0 = 0
  · simp only [if_pos hraw, bnEnd_ending] at h ⊢
    rw [checkedEnd_done (by decide) h, if_pos (Or.inl hraw)]
    exact ⟨_, _, rfl, rfl⟩
  by_cases hoaep : tlvNat b.params 0x0087 0 = 3
  · simp only [if_neg hraw, if_pos hoaep, bnEnd_ending] at h ⊢
    rw [checkedEnd_done (by decide) h, if_pos (Or.inr hoaep)]
    exact ⟨_, _, rfl, rfl⟩
  · rw [if_neg (not_or.mpr ⟨hraw, hoaep⟩)]
    simp only [if_neg hraw, if_neg hoaep]
    split <;> exact ⟨_, _, rfl, rfl⟩

/-- The state in which the key of the job `b` is among the keys that are regenerated. -/
def State.regenerating (s : State) (b : Job) : State :=
  if s.parts.regen.contains (hSlot b.handle) then s
  else { s with parts := { s.parts with regen := s.parts.regen ++ [hSlot b.handle] } }

theorem unseen_regenerating (s : State) (b : Job) : Unseen s (s.regenerating b) := by
  unfold State.regenerating
  split <;> exact ⟨rfl, surfaceKept_refl s⟩

theorem State.mem_regenerating (s : State) (b : Job) : hSlot b.handle ∈ (s.regenerating b).parts.regen := by
  unfold State.regenerating
  split
  · next h => simpa using h
  · exact List.mem_append_right _ (List.mem_singleton.mpr rfl)

/-- With a sealed copy of its key RSA_PRIVATE ends its job, and without one the job waits for a regeneration (R336). -/
theorem execRsaPrivate_runs (h : runsOp s j b opRSA_PRIVATE) : execRsaPrivate j s = .next
    (if s.hasSealed b.handle then (rsaPrivate s b).1.endJob j (rsaPrivate s b).2
    else (s.regenerating b).setJob j { b with wait := .regeneration }) := by
  obtain ⟨hj, hc, hp, hw, -⟩ := h
  have hruns : b.opcode = opRSA_PRIVATE ∧ b.phase = .running ∧ b.wait = .no := ⟨hc, hp, hw⟩
  unfold execRsaPrivate State.regenerating
  simp only [hj, if_pos hruns]
  by_cases hs : s.hasSealed b.handle = true
  · simp only [if_pos hs]
  · simp only [if_neg hs]
    split <;> rfl

theorem rsaPrivate_sealed (h : runsOp s j b opRSA_PRIVATE) (hs : s.hasSealed b.handle = true) :
    ∃ t, execRsaPrivate j s = .next t ∧ endsQuietly s t j (rsaPrivate s b).2 :=
  ⟨_, by rw [execRsaPrivate_runs h, if_pos hs], endJob_unseen _ h.1 (unseen_rsaPrivate s b)⟩

theorem rsaPrivate_answers (h : runsOp s j b opRSA_PRIVATE) : answers (.rsaPrivate j) s fun t =>
    if s.hasSealed b.handle then
      ∃ x : Ending, endsQuietly s t j x ∧ x.status = (rsaPrivate s b).2.status ∧
        (x.status = stDONE → ∃ tag v, x.results = [⟨tag, v⟩] ∧
          tag = if tlvNat b.params 0x0087 0 = 0 ∨ tlvNat b.params 0x0087 0 = 3 then 0x0085 else 0x0055)
    else t.job j = some { b with wait := .regeneration } ∧ otherJobsKept s t j ∧ surfaceKept s t ∧
      hSlot b.handle ∈ t.parts.regen := by
  refine ⟨_, execRsaPrivate_runs h, ?_⟩
  by_cases hs : s.hasSealed b.handle = true
  · simp only [if_pos hs]
    exact ⟨_, endJob_unseen _ h.1 (unseen_rsaPrivate s b), rfl, rsaPrivate_results⟩
  · simp only [if_neg hs]
    obtain ⟨stored, others, surface⟩ :=
      stored_setJob (j := j) (unseen_regenerating s b) { b with wait := .regeneration }
    exact ⟨stored, others, surface, s.mem_regenerating b⟩

/-- The counters that the end of an RSA key's regeneration raises: the regeneration and the candidates it tested (R336). -/
def State.countRsaRegen (s : State) (b : Job) : State :=
  (s.bump aBN_REGEN b.engineNo).bumpBy aBN_KG_CANDIDATES b.engineNo
    (rsaCandidates (s.slot (hSlot b.handle)).pset b.key)

/-- The candidates are counted beside the regeneration. -/
theorem State.countRsaRegen_cnt (s : State) (b : Job) :
    (s.countRsaRegen b).cnt aBN_REGEN b.engineNo = (s.cnt aBN_REGEN b.engineNo + 1) % 2 ^ 32 := by
  have hapart : cntKey aBN_REGEN b.engineNo ≠ cntKey aBN_KG_CANDIDATES b.engineNo := by
    unfold cntKey
    have : aBN_REGEN ≠ aBN_KG_CANDIDATES := by decide
    omega
  exact (tgetD_tput_other _ _ _ _ hapart).trans (s.cnt_bumpBy_same _ _ _)

/-- The end of a regeneration makes the sealed copy, counts, and lets the job go on. -/
theorem rsaRegenerationDone_answers (hj : s.job j = some b) (hc : b.opcode = opRSA_PRIVATE)
    (hw : b.wait = .regeneration) : answers (.rsaRegenerationDone j) s fun t =>
      t.job j = some { b with wait := .no } ∧ hSlot b.handle ∉ t.parts.regen ∧ surfaceKept s t ∧
      t.cnt aBN_REGEN b.engineNo = (s.cnt aBN_REGEN b.engineNo + 1) % 2 ^ 32 := by
  have hrun : execRsaRegenerationDone j s = .next (((s.countRsaRegen b).sealKey (hSlot b.handle) (hGen b.handle) b.inst
      (rsaSealedSize (s.slot (hSlot b.handle)).pset)).regenerated (hSlot b.handle)) := by
    unfold execRsaRegenerationDone
    rw [hj]
    exact if_pos ⟨hc, hw⟩
  have seen : Unseen s (s.countRsaRegen b) := (unseen_bump s _ _).trans (unseen_bumpBy _ _ _ _)
  obtain ⟨hjob, hregen, hsurface, hcnts⟩ :=
    State.regenerated_goesOn (seen.trans (unseen_sealKey (s.countRsaRegen b) _ _ _ _)) hj hw
  refine ⟨_, hrun, hjob, hregen, hsurface, ?_⟩
  rw [← s.countRsaRegen_cnt b]
  unfold State.cnt
  rw [hcnts, State.sealKey_cnts]

/-! ### RSA with a public key (R340, R344) -/

/-- The check on a public exponent: even, below 3, or not below the modulus. -/
def Job.exponentBad (b : Job) : Bool × Nat :=
  (b.num 0x0084 % 2 == 0 || decide (b.num 0x0084 < 3) || decide (b.num 0x0084 ≥ b.num 0x0081), stINPUT_RANGE)

theorem rsaPublic_raw (h : runsOp s j b opRSA_PUBLIC) (hp : tlvNat b.params 0x0087 0 = 0) :
    answers (.rsaPublic j) s fun t => endsQuietly s t j (checkedEnd
      (modulusBad (b.num 0x0081) ++ [(decide (b.num 0x008A ≥ b.num 0x0081), stINPUT_RANGE), b.exponentBad])
      (b.bnResult (if b.num 0x008A = 0 then 0 else modPow (b.num 0x008A) (b.num 0x0081) 256 (b.num 0x0084)))) :=
  (runJob_checked h (if_pos hp) (Unseen.refl s) : ∃ t, execRsaPublic j s = .next t ∧ _)

/-- OAEP encodes the message under a seed of fresh bytes. -/
theorem rsaPublic_oaep (h : runsOp s j b opRSA_PUBLIC) (hp : tlvNat b.params 0x0087 0 = 3) :
    ∃ seed : Bytes, seed.length = (hashLen b.hash).getD 0 ∧ answers (.rsaPublic j) s fun t => endsQuietly s t j
      (checkedEnd (modulusBad (b.num 0x0081) ++ [b.exponentBad]) (b.bnResult (modPow
        (beNat (Config.standard "RSA.oaepEncode" (8 * (b.val 0x0081).length) [b.val 0x008A, leBytes b.hash 2, seed]
          (b.val 0x0081).length)) (b.num 0x0081) 256 (b.num 0x0084)))) :=
  ⟨_, s.drawBytes_length _, (runJob_checked h
    ((if_neg (by rw [hp]; decide)).trans (if_pos hp)) (unseen_drawBytes s _) : ∃ t, execRsaPublic j s = .next t ∧ _)⟩

/-- Every other padding code verifies a signature. -/
theorem rsaPublic_verify (h : runsOp s j b opRSA_PUBLIC) (hraw : tlvNat b.params 0x0087 0 ≠ 0)
    (hoaep : tlvNat b.params 0x0087 0 ≠ 3) : answers (.rsaPublic j) s fun t => endsQuietly s t j (checkedEnd
      (modulusBad (b.num 0x0081) ++
        [b.exponentBad, (decide (beNat (b.val 0x0055) ≥ b.num 0x0081), stVERIFY_FAIL)])
      (verdictEnd (Config.standardCheck
        (if tlvNat b.params 0x0087 0 = 1 then "RSA.pkcs1Verify" else "RSA.pssVerify") (8 * (b.val 0x0081).length)
        [beBytes (modPow (beNat (b.val 0x0055)) (b.num 0x0081) 256 (b.num 0x0084)) (b.val 0x0081).length, b.val 0x0057,
          b.val 0x0081]))) :=
  (runJob_checked h ((if_neg hraw).trans (if_neg hoaep)) (Unseen.refl s) : ∃ t, execRsaPublic j s = .next t ∧ _)

end

/-- Settles O16: each opcode is the lemma on it; RSA_PUBLIC has one for each kind of padding code. -/
theorem rsaAndBignumOperations : Obligations.RsaAndBignumOperations := by
  unfold Obligations.RsaAndBignumOperations
  intro s j b
  exact ⟨bnModexp_answers, bnModmul_answers, bnModinv_answers, rsaKeygen_answers, rsaPrivate_answers,
    rsaRegenerationDone_answers, rsaPublic_raw, rsaPublic_oaep, rsaPublic_verify⟩

end Sys2Proof.Machine
end

section
/-! The big-number and RSA opcodes with operands in range: every value check passes, and the result is the exact one. -/

namespace Sys2Proof.Machine

section
variable {s : State} {j : Nat} {b : Job}

/-- A raw operation in the range of the modulus ends with the power (R332, R333). -/
theorem bnModexp_exact (h : runsOp s j b opBN_MODEXP) (hn : 1 < b.num 0x0081) (hodd : b.num 0x0081 % 2 = 1)
    (ha : b.num 0x0082 < b.num 0x0081) (hpos : 0 < b.num 0x0082) :
    ∃ t, exec (.bnModexp j) s = .next t ∧
      endsQuietly s t j (b.bnResult (b.num 0x0082 ^ b.num 0x0084 % b.num 0x0081)) := by
  have hend := bnModexp_answers h
  rwa [checkedEnd_modulus hn hodd, checkedEnd_pass (decide_eq_false ha.not_ge), if_neg hpos.ne',
    modPow_eq_pow _ _ _ _ (b.num_lt 0x0084)] at hend

theorem bnModmul_exact (h : runsOp s j b opBN_MODMUL) (hn : 1 < b.num 0x0081) (hodd : b.num 0x0081 % 2 = 1)
    (ha : b.num 0x0082 < b.num 0x0081) (hm : b.num 0x0083 < b.num 0x0081) :
    ∃ t, exec (.bnModmul j) s = .next t ∧
      endsQuietly s t j (b.bnResult (b.num 0x0082 * b.num 0x0083 % b.num 0x0081)) := by
  have hend := bnModmul_answers h
  rwa [checkedEnd_modulus hn hodd,
    checkedEnd_pass (decide_eq_false (not_or.mpr ⟨ha.not_ge, hm.not_ge⟩))] at hend

theorem bnModinv_exact {y : Nat} (h : runsOp s j b opBN_MODINV) (hn : 1 < b.num 0x0081)
    (hodd : b.num 0x0081 % 2 = 1) (ha : b.num 0x0082 < b.num 0x0081) (hy : y < b.num 0x0081)
    (hinv : b.num 0x0082 * y % b.num 0x0081 = 1) :
    ∃ t, exec (.bnModinv j) s = .next t ∧ endsQuietly s t j (b.bnResult y) := by
  have hend := bnModinv_answers h
  rwa [checkedEnd_modulus hn hodd, checkedEnd_pass (decide_eq_false ha.not_ge),
    modInv_eq_of_mul hn ha hy hinv, checkedEnd_pass (Option.isNone_some (a := y))] at hend

/-- An odd exponent of at least 3 below the modulus passes its check. -/
theorem checkedEnd_exponent (hodd : b.num 0x0084 % 2 = 1) (hlow : 3 ≤ b.num 0x0084)
    (hhigh : b.num 0x0084 < b.num 0x0081) (e : Ending) : checkedEnd [b.exponentBad] e = e := by
  refine checkedEnd_pass ?_
  simp only [Bool.or_eq_false_iff, beq_eq_false_iff_ne, decide_eq_false_iff_not]
  omega

/-- A raw RSA_PUBLIC in its value range ends with the power; its modulus is above the exponent and so above 1 (R340). -/
theorem rsaPublic_exact (h : runsOp s j b opRSA_PUBLIC) (hp : tlvNat b.params 0x0087 0 = 0)
    (hn : b.num 0x0081 % 2 = 1) (hx : b.num 0x008A < b.num 0x0081) (hpos : 0 < b.num 0x008A)
    (hodd : b.num 0x0084 % 2 = 1) (hlow : 3 ≤ b.num 0x0084) (hhigh : b.num 0x0084 < b.num 0x0081)
    (hbits : b.num 0x0084 < 2 ^ 256) : ∃ t, exec (.rsaPublic j) s = .next t ∧
      endsQuietly s t j (b.bnResult (b.num 0x008A ^ b.num 0x0084 % b.num 0x0081)) := by
  have hend := rsaPublic_raw h hp
  rwa [checkedEnd_modulus (by omega) hn, checkedEnd_pass (decide_eq_false hx.not_ge),
    checkedEnd_exponent hodd hlow hhigh, if_neg hpos.ne',
    modPow_eq_pow _ _ _ _ hbits] at hend

/-- With PKCS#1 padding RSA_PRIVATE answers the signature of its key. -/
theorem rsaPrivate_pkcs1 (hp : tlvNat b.params 0x0087 0 = 1) : (rsaPrivate s b).2 =
    done [⟨0x0055, Config.standard "RSA.pkcs1Sign" (s.slot (hSlot b.handle)).pset [b.key, b.val 0x0057]
      ((s.slot (hSlot b.handle)).pset / 8)⟩] := by
  unfold rsaPrivate
  simp [hp]

theorem rsaPrivate_signs (h : runsOp s j b opRSA_PRIVATE) (hp : tlvNat b.params 0x0087 0 = 1)
    (hs : s.hasSealed b.handle = true) : ∃ t, exec (.rsaPrivate j) s = .next t ∧ endsQuietly s t j
      (done [⟨0x0055, Config.standard "RSA.pkcs1Sign" (s.slot (hSlot b.handle)).pset [b.key, b.val 0x0057]
        ((s.slot (hSlot b.handle)).pset / 8)⟩]) :=
  rsaPrivate_pkcs1 (s := s) hp ▸ rsaPrivate_sealed h hs

end

/-- Settles O17: the ladder and the inverse by their lemmas, and each opcode by the lemma on its operands in range. -/
theorem modularArithmeticIsExact : Obligations.ModularArithmeticIsExact := by
  unfold Obligations.ModularArithmeticIsExact
  refine ⟨fun a n bits e _ he => modPow_eq_pow n bits a e he,
    fun a n hn ha => ⟨fun x => modInv_sound hn, modInv_isSome ha⟩, fun s j b => ?_⟩
  exact ⟨bnModexp_exact, bnModmul_exact, fun y => bnModinv_exact,
    fun h => (rsaKeygen_answers h).imp fun t ⟨hx, hend, _⟩ => ⟨hx, hend⟩, rsaPublic_exact, rsaPrivate_signs⟩

end Sys2Proof.Machine
end

section
/-! The elliptic-curve opcodes: the form check that a job may fail, the point check, and what each opcode ends with. -/

namespace Sys2Proof.Machine

/-- A single value check ends a job by its status, or by `e`. -/
theorem checkedEnd_single (bad : Bool) (st : Nat) (e : Ending) :
    checkedEnd [(bad, st)] e = if bad then refusedWith st else e := by
  cases bad <;> rfl

/-- The ending of a job by its form check, or else by `e` (R343). -/
def Job.formedEnd (b : Job) (e : Ending) : Ending :=
  match b.form with
  | some st => refusedWith st
  | none => e

/-- The ending of a job that agrees on the secret `z`, where there is one (R337, R344). -/
def Job.agreedEnd (b : Job) (z : Option Bytes) : Ending :=
  match z with
  | none => failed stPOINT_INVALID
  | some z => b.sharedEnd [] z

/-- The ending of a job with the verdict `ok` under the public key `pk`, which is checked first (R344). -/
def pointEnd (c : Nat) (pk : Bytes) (ok : Bool) : Ending :=
  if pointOk c pk then verdictEnd ok else failed stPOINT_INVALID

/-- The values r and s of the signature of an ECDSA_VERIFY (R338). -/
def Job.signatureValues (b : Job) : Nat × Nat :=
  let l := (ecField b.curve).getD 0
  if tlvNat b.params 0x0089 0 = 1 then (derSig l (b.val 0x0055)).getD (0, 0)
  else (beNat ((b.val 0x0055).take l), beNat ((b.val 0x0055).drop l))

section
variable {s : State} {j : Nat} {b : Job}

theorem pointCheck_ending (c : Nat) (pk : Bytes) (ok : Bool) :
    (bnEnd s [(!pointOk c pk, stPOINT_INVALID)] (verdictEnd ok)).2 = pointEnd c pk ok := by
  rw [bnEnd_ending, checkedEnd_single, pointEnd]
  cases pointOk c pk <;> rfl

/-! ### Agreement (R337) -/

theorem agreeEnd_ending (s : State) (b : Job) (c : Nat) :
    (agreeEnd s b c).2 = b.formedEnd (b.agreedEnd (ecAgree c (b.ecKey c) (b.val 0x0051))) := by
  unfold agreeEnd Job.formedEnd
  cases b.form with
  | some st => exact bnEnd_ending s _ _
  | none =>
    dsimp only
    rw [bnEnd_ending, checkedEnd_single]
    cases ecAgree c (b.ecKey c) (b.val 0x0051) <;> rfl

theorem unseen_agreeEnd (s : State) (b : Job) (c : Nat) : Unseen s (agreeEnd s b c).1 := by
  unfold agreeEnd
  split <;> exact unseen_bnEnd s _ _

/-- An opcode that agrees on a secret ends its job by it. -/
theorem runJob_agrees {code c : Nat} {f : State → Job → State × Ending} (h : runsOp s j b code)
    (hf : f s b = agreeEnd s b c) : ∃ t, runJob s j code f = .next t ∧
      endsQuietly s t j (b.formedEnd (b.agreedEnd (ecAgree c (b.ecKey c) (b.val 0x0051)))) := by
  rw [← agreeEnd_ending s, ← hf]
  exact runJob_unseen f h (hf ▸ unseen_agreeEnd s b c)

theorem ecdh_answers (h : runsOp s j b opECDH) : answers (.ecdh j) s fun t =>
    endsQuietly s t j (b.formedEnd (b.agreedEnd (ecAgree b.curve (b.ecKey b.curve) (b.val 0x0051)))) :=
  (runJob_agrees h rfl : ∃ t, execEcdh j s = .next t ∧ _)

theorem x25519_answers (h : runsOp s j b opX25519) : answers (.x25519 j) s fun t =>
    endsQuietly s t j (b.formedEnd (b.agreedEnd (ecAgree 0x10 (b.ecKey 0x10) (b.val 0x0051)))) :=
  (runJob_agrees h rfl : ∃ t, execX25519 j s = .next t ∧ _)

theorem x448_answers (h : runsOp s j b opX448) : answers (.x448 j) s fun t =>
    endsQuietly s t j (b.formedEnd (b.agreedEnd (ecAgree 0x11 (b.ecKey 0x11) (b.val 0x0051)))) :=
  (runJob_agrees h rfl : ∃ t, execX448 j s = .next t ∧ _)

/-! ### Keys and signatures (R334, R338, R339) -/

theorem ecKeygen_answers (h : runsOp s j b opEC_KEYGEN) : answers (.ecKeygen j) s fun t =>
    endsQuietly s t j { done [⟨0x0051, ecPublic b.curve (b.ecKey b.curve)⟩] with bind := b.curve } :=
  (runJob_unseen _ h (Unseen.refl s) : ∃ t, execEcKeygen j s = .next t ∧ _)

/-- The ending of an ECDSA_SIGN with the additional bytes `extra`: r and s, or their DER form. -/
def Job.ecdsaSigned (b : Job) (data extra : Bytes) : Ending :=
  let sig := ecdsaSign b.curve (b.ecKey b.curve) (b.ecdsaDigest data) extra
  let l := (ecField b.curve).getD 0
  done [⟨0x0055, if tlvNat b.params 0x0089 0 = 1 then derOfSig (beNat (sig.take l)) (beNat (sig.drop l)) else sig⟩]

/-- A deterministic signature takes no additional bytes, and every other one 32 fresh ones. -/
theorem ecdsaSign_answers (data : Bytes) (h : runsOp s j b opECDSA_SIGN) : answers (.ecdsaSign j data) s fun t =>
    ∃ extra : Bytes, (if tlvNat b.params 0x0059 0 = 1 then extra = [] else extra.length = 32) ∧
      endsQuietly s t j (b.ecdsaSigned data extra) := by
  refine (runJob_unseen _ h ?_ : ∃ t, execEcdsaSign j data s = .next t ∧ _).imp fun t ⟨hx, ht⟩ => ⟨hx, _, ?_, ht⟩
  · dsimp only
    split
    · exact Unseen.refl s
    · exact unseen_drawBytes s 32
  · split
    · rfl
    · exact s.drawBytes_length 32

/-- A verification ends by the form check of the job, then by the point check of its key, then by the verdict. -/
theorem ecdsaVerify_answers (data : Bytes) (h : runsOp s j b opECDSA_VERIFY) :
    answers (.ecdsaVerify j data) s fun t => endsQuietly s t j (b.formedEnd
      (let pk := if b.handle ≠ 0 then ecPublic b.curve (b.ecKey b.curve) else b.val 0x0051
       pointEnd b.curve pk
        (ecdsaVerify b.curve pk (b.ecdsaDigest data) b.signatureValues.1 b.signatureValues.2))) := by
  refine (runJob_unseen _ h ?_ : ∃ t, execEcdsaVerify j data s = .next t ∧ _).imp fun t ⟨hx, ht⟩ => ⟨hx, ?_⟩
  · dsimp only
    split <;> exact unseen_bnEnd s _ _
  · unfold Job.formedEnd
    cases hf : b.form with
    | some st => simpa only [hf, bnEnd_ending, checkedEnd_single, if_true] using ht
    | none =>
      simp only [hf, pointCheck_ending] at ht
      exact ht

theorem eddsaSign_answers (data : Bytes) (h : runsOp s j b opEDDSA_SIGN) : answers (.eddsaSign j data) s fun t =>
    endsQuietly s t j (done [⟨0x0055, eddsaSign b.curve b.key (b.val 0x0056) (b.val 0x0057) data⟩]) :=
  (runJob_unseen _ h (Unseen.refl s) : ∃ t, execEddsaSign j data s = .next t ∧ _)

theorem eddsaVerify_answers (data : Bytes) (h : runsOp s j b opEDDSA_VERIFY) :
    answers (.eddsaVerify j data) s fun t => endsQuietly s t j
      (let pk := if b.handle ≠ 0 then ecPublic b.curve b.key else b.val 0x0051
       pointEnd b.curve pk (eddsaVerify b.curve pk (b.val 0x0056) (b.val 0x0057) data (b.val 0x0055))) := by
  rw [← pointCheck_ending (s := s)]
  exact (runJob_unseen _ h (unseen_bnEnd s _ _) : ∃ t, execEddsaVerify j data s = .next t ∧ _)

end

/-- Settles O18: each opcode is the lemma on it. -/
theorem ellipticCurveOperations : Obligations.EllipticCurveOperations := by
  unfold Obligations.EllipticCurveOperations
  intro s j b data
  exact ⟨ecKeygen_answers, ecdsaSign_answers data, ecdsaVerify_answers data, ecdh_answers, x25519_answers, x448_answers,
    eddsaSign_answers data, eddsaVerify_answers data⟩

end Sys2Proof.Machine
end

section
/-! The key-update counter and the rollback floors of the microcode never fall. -/

namespace Sys2Proof.Machine

/-- Settles O5: a step keeps the counter and the floors beside all else that every command keeps, and these only rise. -/
theorem rollbackProtection : Obligations.RollbackProtection := by
  unfold Obligations.RollbackProtection
  intro s t ht
  obtain ⟨-, hcounter, hfloors, -, -⟩ := step_kept ht
  exact ⟨hcounter, hfloors⟩

end Sys2Proof.Machine
end

section
/-! The vector instructions that compute element by element: what an issued instruction leaves when it meets no fault, and
the statements on the integer and the modular instructions. -/

namespace Sys2Proof.Machine

/-! ### Elements -/

/-- Every element fits its width, one beyond the operand too, which reads as 0. -/
theorem lvuElem_mod (l : Lvu) (o : LvuOp) (r i : Nat) : lvuElem l o r i % 2 ^ lopW o = lvuElem l o r i := by
  by_cases h : i < lopN o
  · exact Nat.mod_eq_of_lt (lvuElem_lt l o r i h)
  · rw [lvuElem, List.getD_eq_default _ _ (by rw [l.elems_length]; omega), Nat.zero_mod]

theorem lvuElem_lt_width (l : Lvu) (o : LvuOp) (r i : Nat) : lvuElem l o r i < 2 ^ lopW o :=
  lvuElem_mod l o r i ▸ Nat.mod_lt _ (by positivity)

/-! ### An instruction that can be issued -/

section
variable {s : State} {pe lop : Nat} {o : LvuOp} {regs : List Nat} {ok : Bool} {c : Instr}
  (hc : exec c s = .next (s.issue pe lop o regs ok)) (hr : s.lvuReady pe lop o regs ok = true) (hw : o.hw = [])
include hc hr hw

/-- An instruction that meets no fault leaves its unit as it says, and everything else as it was (R366). -/
theorem issue_answers {l : Lvu} {P : State → Prop} (hf : (lvuDo lop [] o (s.lvu pe)).faults = [])
    (ha : (lvuDo lop [] o (s.lvu pe)).after = l) (hl : l.restart = (s.lvu pe).restart)
    (h : ∀ t, onlyLvuChanged s t pe → t.lvu pe = l → P t) : answers c s P := by
  refine ⟨_, hc, ?_⟩
  rw [State.issue_commits _ _ _ _ _ _ hr hw hf, ha]
  refine h _ (onlyLvuChanged_setLvu _ _ _) ?_
  rw [State.lvu_setLvu_same, ← State.restart_of_ready hr, ← hl]

theorem issue_map1 {f g : Nat → Nat} (hd : lvuDo lop [] o (s.lvu pe) = (s.lvu pe).map1 o g)
    (hg : ∀ i, g (lvuElem (s.lvu pe) o o.va i) % 2 ^ lopW o = f i) :
    answers c s fun t => lvuWrites s t pe o o.vd f :=
  issue_writes hc hr hw hd (by rw [List.length_map, Lvu.elems_length]) fun i hi => by rw [getD_map_elems _ _ _ _ _ hi, hg]

theorem issue_map2 {f : Nat → Nat} {g : Nat → Nat → Nat} (hd : lvuDo lop [] o (s.lvu pe) = (s.lvu pe).map2 o g)
    (hg : ∀ i, g (lvuElem (s.lvu pe) o o.va i) (lvuElem (s.lvu pe) o o.vb i) % 2 ^ lopW o = f i) :
    answers c s fun t => lvuWrites s t pe o o.vd f :=
  issue_writes hc hr hw hd (by rw [List.length_zipWith, Lvu.elems_length, Lvu.elems_length, Nat.min_self]) fun i hi => by
    rw [getD_zip_elems _ _ _ _ _ _ hi, hg]

end

/-! ### The integer instructions (R361) -/

theorem vsel_answers {s : State} {pe : Nat} {o : LvuOp}
    (hr : s.lvuReady pe 0x29 o [o.vd, o.va, o.vb] true = true) (hw : o.hw = []) :
    answers (.vsel pe o) s fun t =>
      onlyLvuChanged s t pe ∧ t.lvu pe = { s.lvu pe with v := (t.lvu pe).v } ∧
      (∀ i, i < lopN o → lvuElem (t.lvu pe) o o.vd i =
        if (s.lvu pe).governs o i then lvuElem (s.lvu pe) o o.va i else lvuElem (s.lvu pe) o o.vb i) ∧
      ∀ k, k < o.vd ∨ o.vd + lopG o ≤ k → (t.lvu pe).vreg k = (s.lvu pe).vreg k := by
  refine issue_answers rfl hr hw rfl
    (rfl : _ = (s.lvu pe).putElems o o.vd (mergeElems _ 0 ((s.lvu pe).elems o o.va) ((s.lvu pe).elems o o.vb)))
    ?_ fun t ht hl => ⟨ht, ?_, fun i hi => ?_, fun k hk => ?_⟩
  · rw [Lvu.putElems_v]
  · rw [hl, Lvu.putElems_v]
  · rw [hl, lvuElem_putElems _ _ _ _ _ hi, getD_mergeElems _ _ _ _ _ (by simp only [Lvu.elems_length]), Nat.zero_add]
    split <;> exact lvuElem_mod _ _ _ _
  · rw [hl, Lvu.vreg_putElems, if_neg (by omega)]

/-- Settles O39: VSEL is the lemma on it, VBCAST writes one value, and every other instruction maps its sources. -/
theorem lvuIntegerInstructions : Obligations.LvuIntegerInstructions := by
  unfold Obligations.LvuIntegerInstructions
  intro s pe o hw
  dsimp only
  refine ⟨fun hr => issue_map1 rfl hr hw rfl fun i => lvuElem_mod _ _ _ _, fun hr => ?vbcast,
    fun hr => issue_map2 rfl hr hw rfl fun i => wrapTo_mod _ _, fun hr => issue_map2 rfl hr hw rfl fun i => wrapTo_mod _ _,
    fun hr => issue_map2 rfl hr hw rfl fun i => satTo_mod _ _, fun hr => issue_map2 rfl hr hw rfl fun i => satTo_mod _ _,
    fun hr => issue_map2 rfl hr hw rfl fun i => ?vmulhr, fun hr => issue_map1 rfl hr hw rfl fun i => ?vshrr,
    fun hr => issue_map1 rfl hr hw rfl fun i => ?vshl,
    fun hr => issue_map2 rfl hr hw rfl fun i => Nat.mod_eq_of_lt (Nat.and_lt_two_pow _ (lvuElem_lt_width _ _ _ _)),
    fun hr => issue_map2 rfl hr hw rfl fun i =>
      Nat.mod_eq_of_lt (Nat.or_lt_two_pow (lvuElem_lt_width _ _ _ _) (lvuElem_lt_width _ _ _ _)),
    fun hr => issue_map2 rfl hr hw rfl fun i =>
      Nat.mod_eq_of_lt (Nat.xor_lt_two_pow (lvuElem_lt_width _ _ _ _) (lvuElem_lt_width _ _ _ _)),
    fun hr => vsel_answers hr hw⟩
  case vbcast =>
    refine issue_writes rfl hr hw rfl (List.length_replicate ..) fun i hi => ?_
    rw [List.getD_replicate _ hi, wrapTo_mod]
  case vmulhr =>
    generalize shiftRound _ _ _ = r
    cases r
    · exact lvuOpen_mod _ _ _
    · exact satTo_mod _ _
  case vshrr =>
    generalize shiftRound _ _ _ = r
    cases r
    · exact lvuOpen_mod _ _ _
    · exact wrapTo_mod _ _
  case vshl =>
    dsimp only
    split
    · exact satTo_mod _ _
    · exact wrapTo_mod _ _

/-! ### Two results of one source -/

/-- Two states that differ from a third in one vector unit differ in that unit alone. -/
theorem onlyLvuChanged.of_both {s m t : State} {pe : Nat} (hm : onlyLvuChanged s m pe) (ht : onlyLvuChanged s t pe) :
    onlyLvuChanged m t pe :=
  ⟨by rw [hm.1]; exact ht.1, fun p hp => (ht.2 p hp).trans (hm.2 p hp).symm⟩

theorem lvuWrites_of_write {s t : State} {pe : Nat} {o : LvuOp} {r : Nat} {es : List Nat} {f : Nat → Nat}
    (ht : onlyLvuChanged s t pe) (hl : t.lvu pe = (s.lvu pe).write o r es) (hn : es.length = lopN o)
    (hf : ∀ i, i < lopN o → es.getD i 0 % 2 ^ lopW o = f i) : lvuWrites s t pe o r f := by
  refine ⟨ht, ?_, fun i hi => ?_, fun k hk => ?_⟩
  · rw [hl]; exact Lvu.write_v _ _ _ _
  · rw [hl, lvuElem_write _ _ _ _ _ hn hi, hf i hi]
  · rw [hl]; exact Lvu.vreg_write_other _ _ _ _ _ hk

theorem Lvu.write_restart (l : Lvu) (o : LvuOp) (r : Nat) (es : List Nat) : (l.write o r es).restart = l.restart := by
  rw [l.write_v]

/-- An instruction with two results writes one operand, and then the one after it. -/
theorem issue_mapPair {s : State} {pe lop : Nat} {o : LvuOp} {regs : List Nat} {ok : Bool} {c : Instr}
    (hc : exec c s = .next (s.issue pe lop o regs ok)) (hr : s.lvuReady pe lop o regs ok = true) (hw : o.hw = [])
    {g : Nat → Nat × Nat} {f₁ f₂ : Nat → Nat} (hd : lvuDo lop [] o (s.lvu pe) = (s.lvu pe).mapPair o g)
    (h₁ : ∀ i, (g (lvuElem (s.lvu pe) o o.va i)).1 % 2 ^ lopW o = f₁ i)
    (h₂ : ∀ i, (g (lvuElem (s.lvu pe) o o.va i)).2 % 2 ^ lopW o = f₂ i) :
    answers c s fun t => ∃ m : State, lvuWrites s m pe o o.vd f₁ ∧ lvuWrites m t pe o (o.vd + lopG o) f₂ := by
  have hlen (h : Nat → Nat) : (((s.lvu pe).elems o o.va).map h).length = lopN o := by
    rw [List.length_map, Lvu.elems_length]
  have hm := onlyLvuChanged_setLvu s pe ((s.lvu pe).write o o.vd (((s.lvu pe).elems o o.va).map fun a => (g a).1))
  refine issue_answers hc hr hw (by rw [hd]; rfl) (congrArg LvuEffect.after hd) ?_ fun t ht hl => ⟨_,
    lvuWrites_of_write hm (State.lvu_setLvu_same _ _ _) (hlen _) fun i hi => ?_,
    lvuWrites_of_write (es := ((s.lvu pe).elems o o.va).map fun a => (g a).2) (hm.of_both ht) ?_ (hlen _) fun i hi => ?_⟩
  · exact (Lvu.write_restart _ _ _ _).trans (Lvu.write_restart _ _ _ _)
  · rw [getD_map_elems _ _ _ _ _ hi, h₁]
  · rw [hl, State.lvu_setLvu_same]
    simp only [Lvu.mapPair, List.map_map, Function.comp_def]
  · rw [getD_map_elems _ _ _ _ _ hi, h₂]

/-! ### The modular and the FIPS instructions (R361) -/

theorem ite_lvuOpen_mod {p : Prop} [Decidable p] {w lop x y : Nat} {xs : List Nat} (h : x % 2 ^ w = y) :
    (if p then x else lvuOpen w lop xs) % 2 ^ w = if p then y else lvuOpen w lop xs := by
  split
  · exact h
  · exact lvuOpen_mod _ _ _

/-- A modular instruction is exact on a pair of elements that are both in range. -/
theorem modElem_mod (o : LvuOp) (q lop : Nat) (f : Int → Int → Int) (a b : Nat) :
    modElem o q lop f a b % 2 ^ lopW o = if modIn o.w32 q a = true ∧ modIn o.w32 q b = true then
      wrapTo (lopW o) (f (sInt (lopW o) a) (sInt (lopW o) b) % q) else lvuOpen (lopW o) lop [a, b, q] := by
  simp only [modElem, Bool.and_eq_true]
  exact ite_lvuOpen_mod (wrapTo_mod _ _)

theorem decomposeElem_fst_mod (o : LvuOp) (q a : Nat) : (decomposeElem o q a).1 % 2 ^ lopW o =
    if modIn o.w32 q a = true ∧ gamma2Of q o.aux ≠ 0 then
      wrapTo (lopW o) (decomposeQ q (gamma2Of q o.aux) (sInt (lopW o) a)).1
    else lvuOpen (lopW o) 0x23 [a, o.aux, q, 1] := by
  rw [decomposeElem, apply_ite Prod.fst]
  exact ite_lvuOpen_mod (wrapTo_mod _ _)

theorem decomposeElem_snd_mod (o : LvuOp) (q a : Nat) : (decomposeElem o q a).2 % 2 ^ lopW o =
    if modIn o.w32 q a = true ∧ gamma2Of q o.aux ≠ 0 then
      wrapTo (lopW o) (decomposeQ q (gamma2Of q o.aux) (sInt (lopW o) a)).2
    else lvuOpen (lopW o) 0x23 [a, o.aux, q, 0] := by
  rw [decomposeElem, apply_ite Prod.snd]
  exact ite_lvuOpen_mod (wrapTo_mod _ _)

/-- The inverse of R modulo an odd q: (q + 1) / 2 is the inverse of 2, so its power is the inverse of the power. -/
theorem montInv_mul_two_pow {q n : Nat} (h1 : 1 < q) (hq : q % 2 = 1) : montInv q n * 2 ^ n % q = 1 := by
  have half : (q + 1) / 2 * 2 ≡ 1 [MOD q] := by
    rw [show (q + 1) / 2 * 2 = q + 1 by omega]
    exact Nat.add_modEq_left
  calc montInv q n * 2 ^ n % q
      = ((q + 1) / 2 * 2) ^ n % q := by rw [montInv, Nat.mod_mul_mod, mul_pow]
    _ = 1 ^ n % q := half.pow n
    _ = 1 := by rw [one_pow, Nat.mod_eq_of_lt h1]

/-- Settles O40: each instruction maps its sources by a function whose value is exact in range; the inverse of R is the
lemma above. -/
theorem lvuModularInstructions : Obligations.LvuModularInstructions := by
  unfold Obligations.LvuModularInstructions
  refine ⟨fun s pe o hw => ?_, fun q n => montInv_mul_two_pow⟩
  exact ⟨fun hr => issue_map2 rfl hr hw rfl fun i => modElem_mod _ _ _ _ _ _,
    fun hr => issue_map2 rfl hr hw rfl fun i => modElem_mod _ _ _ _ _ _,
    fun hr => issue_map2 rfl hr hw rfl fun i => modElem_mod _ _ _ _ _ _,
    fun hr => issue_map1 rfl hr hw rfl fun i => ite_lvuOpen_mod (wrapTo_mod _ _),
    fun hr => issue_map1 rfl hr hw rfl fun i => ite_lvuOpen_mod rfl,
    fun hr => issue_map1 rfl hr hw rfl fun i => ite_lvuOpen_mod (Nat.mod_mod _ _),
    fun hr => issue_map1 rfl hr hw rfl fun i => decomposeElem_fst_mod _ _ _,
    fun hr => issue_mapPair rfl hr hw rfl (fun i => by rw [apply_ite Prod.fst]; exact ite_lvuOpen_mod (wrapTo_mod _ _))
      fun i => by rw [apply_ite Prod.snd]; exact ite_lvuOpen_mod (wrapTo_mod _ _),
    fun hr => issue_mapPair rfl hr hw rfl (fun i => decomposeElem_fst_mod _ _ _) fun i => decomposeElem_snd_mod _ _ _⟩

end Sys2Proof.Machine
end

section
/-! The vector instructions on operand memory: which element addresses fault, what a run of stores changes, and the
statement on loads, stores, gathers, scatters and the modulus. -/

namespace Sys2Proof.Machine

/-! ### What an issued instruction satisfies -/

theorem State.variant_of_ready {s : State} {pe lop : Nat} {o : LvuOp} {regs : List Nat} {ok : Bool}
    (h : s.lvuReady pe lop o regs ok = true) : ok = true := by
  simp only [State.lvuReady, Bool.and_eq_true] at h
  obtain ⟨⟨-, hok⟩, -⟩ := h
  exact hok

/-- A gather or a scatter that can be issued counts no more elements than an operand has. -/
theorem lopCount_le_of_ready {s : State} {pe lop : Nat} {o : LvuOp} {regs : List Nat}
    (h : s.lvuReady pe lop o regs (countOk o) = true) : lopCount o ≤ lopN o := by
  have hok := State.variant_of_ready h
  simp only [countOk, Bool.and_eq_true, decide_eq_true_eq] at hok
  exact hok.2

/-! ### Windows (R364) -/

theorem hwFaults_nil {hw : List (Nat × Nat)} (h : hw = []) (addr : Nat → Nat) : hwFaults hw addr = [] := by
  rw [h]; rfl

/-- No element faults exactly when every one of them lies in a window. -/
theorem windowFaults_eq_nil {w : List (Nat × Nat)} {n : Nat} {addr : Nat → Nat} {is : List Nat} :
    windowFaults w n addr is = [] ↔ ∀ i ∈ is, inWindow w (addr i) n = true := by
  simp [windowFaults]

/-! ### Runs of stores (R363) -/

/-- A byte outside every element stored keeps its value. -/
theorem memGet_foldl_memStore {β : Type} (addr v : β → Nat) (n a : Nat) : ∀ (es : List β) (m : Tab Byte),
    (∀ e ∈ es, a < addr e ∨ addr e + n ≤ a) →
      memGet (es.foldl (fun m e => memStore m (addr e) n (v e)) m) a = memGet m a
  | [], _, _ => rfl
  | e :: es, m, h => by
    rw [List.foldl_cons, memGet_foldl_memStore addr v n a es _ fun x hx => h x (List.mem_cons_of_mem _ hx),
      memGet_memStore_other (h e List.mem_cons_self)]

/-- The unit after the governed ones of the first `k` elements of VA were stored, in rising order. -/
def Lvu.storeRun (l : Lvu) (o : LvuOp) (addr : Nat → Nat) (k : Nat) : Lvu :=
  let governed := (List.range k).filter (l.governs o)
  { l with mem := governed.foldl (fun m i => memStore m (addr i) (lopBytes o) (lvuElem l o o.va i)) l.mem }

theorem Lvu.memGet_storeRun (l : Lvu) (o : LvuOp) (addr : Nat → Nat) (k a : Nat)
    (h : ∀ i ∈ List.range k, a < addr i ∨ addr i + lopBytes o ≤ a) :
    memGet (l.storeRun o addr k).mem a = memGet l.mem a :=
  memGet_foldl_memStore _ _ _ _ _ _ fun i hi => h i (List.mem_of_mem_filter hi)

/-- The first `k` elements of an operand with their numbers. -/
theorem zipIdx_take_elems (l : Lvu) (o : LvuOp) (r k : Nat) :
    ((l.elems o r).take k).zipIdx = (List.range (min k (lopN o))).map fun i => (lvuElem l o r i, i) := by
  have hn := l.elems_length o r
  refine List.ext_getElem (by simp [hn]) fun i h₁ h₂ => ?_
  have hi : i < (l.elems o r).length := by simp [hn] at h₁ ⊢; omega
  simp [lvuElem, List.getD, hi]

theorem lvuVscatter_after (o : LvuOp) (l : Lvu) :
    (lvuVscatter o l).after = l.storeRun o (l.indexed o) (min (lopCount o) (lopN o)) := by
  simp only [lvuVscatter, Lvu.storeRun, zipIdx_take_elems, List.filter_map, List.foldl_map]
  rfl

theorem lvuVst_after (o : LvuOp) (l : Lvu) :
    (lvuVst o l).after = l.storeRun o (fun i => o.portA % 2 ^ 18 + i * lopBytes o) (lopN o) := by
  have hz := zipIdx_take_elems l o o.va (lopN o)
  rw [← l.elems_length o o.va, List.take_length, l.elems_length, Nat.min_self] at hz
  simp only [lvuVst, Lvu.storeRun, hz, List.filter_map, List.foldl_map]
  rfl

/-! ### Loads and stores (R361) -/

section
variable {s : State} {pe : Nat} {o : LvuOp} (hw : o.hw = [])
include hw

theorem vld_answers (hr : s.lvuReady pe 0x01 o [o.vd] true = true)
    (hin : ∀ i, i < lopN o → inWindow (s.lvu pe).winR (o.portA % 2 ^ 18 + i * lopBytes o) (lopBytes o) = true) :
    answers (.vld pe o) s fun t => lvuWrites s t pe o o.vd fun i =>
      memLoad (s.lvu pe).mem (o.portA % 2 ^ 18 + i * lopBytes o) (lopBytes o) % 2 ^ lopW o := by
  have hf : (lvuVld o (s.lvu pe)).faults = [] := by
    simp only [lvuVld, hwFaults_nil hw, List.nil_append, windowFaults_eq_nil, List.mem_range]
    exact hin
  refine issue_writes rfl hr hw (congrArg (LvuEffect.mk _) hf) (by simp) fun i hi => ?_
  simp [List.getD, hi]

theorem vgather_answers (hr : s.lvuReady pe 0x03 o [o.vd, o.vb] (countOk o) = true)
    (hin : ∀ i, i < lopCount o → inWindow (s.lvu pe).winR ((s.lvu pe).indexed o i) (lopBytes o) = true) :
    answers (.vgather pe o) s fun t => lvuWrites s t pe o o.vd fun i => if i < lopCount o then
      memLoad (s.lvu pe).mem ((s.lvu pe).indexed o i) (lopBytes o) % 2 ^ lopW o else lvuElem (s.lvu pe) o o.vd i := by
  have hn := lopCount_le_of_ready hr
  have hf : (lvuVgather o (s.lvu pe)).faults = [] := by
    simp only [lvuVgather, hwFaults_nil hw, List.nil_append, windowFaults_eq_nil, List.mem_range]
    exact hin
  refine issue_writes rfl hr hw (congrArg (LvuEffect.mk _) hf) (by simp [Lvu.elems_length, hn]) fun i hi => ?_
  by_cases hlow : i < lopCount o
  · rw [if_pos hlow, List.getD_append _ _ _ _ (by simpa using hlow)]
    simp [List.getD, hlow]
  · rw [if_neg hlow, List.getD_append_right _ _ _ _ (by simpa using hlow)]
    simp only [List.length_map, List.length_range, List.getD, List.getElem?_drop]
    rw [Nat.add_sub_cancel' (by omega)]
    exact lvuElem_mod _ _ _ _

/-- A run of stores whose addresses lie in the write windows changes memory alone. -/
theorem storeRun_answers {lop : Nat} {regs : List Nat} {ok : Bool} {c : Instr} {addr : Nat → Nat} {k : Nat}
    (hc : exec c s = .next (s.issue pe lop o regs ok)) (hr : s.lvuReady pe lop o regs ok = true)
    (ha : (lvuDo lop [] o (s.lvu pe)).after = (s.lvu pe).storeRun o addr k)
    (hf : (lvuDo lop [] o (s.lvu pe)).faults =
      hwFaults o.hw (fun _ => 0) ++ windowFaults (s.lvu pe).winW (lopBytes o) addr (List.range k))
    (hin : ∀ i, i < k → inWindow (s.lvu pe).winW (addr i) (lopBytes o) = true) :
    answers c s fun t => onlyLvuChanged s t pe ∧ t.lvu pe = { s.lvu pe with mem := (t.lvu pe).mem } ∧
      (t.lvu pe).mem = ((List.range k).filter ((s.lvu pe).governs o)).foldl
        (fun m i => memStore m (addr i) (lopBytes o) (lvuElem (s.lvu pe) o o.va i)) (s.lvu pe).mem ∧
      ∀ a, (∀ i ∈ List.range k, a < addr i ∨ addr i + lopBytes o ≤ a) →
        memGet (t.lvu pe).mem a = memGet (s.lvu pe).mem a := by
  refine issue_answers hc hr hw ?_ ha rfl fun t ht hl => ⟨ht, by rw [hl]; rfl, by rw [hl]; rfl, fun a h => ?_⟩
  · rw [hf, hwFaults_nil hw, List.nil_append, windowFaults_eq_nil]
    exact fun i hi => hin i (List.mem_range.mp hi)
  · rw [hl, Lvu.memGet_storeRun _ _ _ _ _ h]

theorem vsetq_answers (hr : s.lvuReady pe 0x08 o [] true = true)
    (hin : inWindow (s.lvu pe).winR (o.portA % 2 ^ 18) 4 = true) {q : Nat}
    (hq : q = memLoad (s.lvu pe).mem (o.portA % 2 ^ 18) 4) (hodd : q % 2 = 1) (h3 : 3 ≤ q)
    (hlt : q < if o.w32 then 2 ^ 23 else 2 ^ 15) :
    answers (.vsetq pe o) s fun t => onlyLvuChanged s t pe ∧ (t.lvu pe).modq = q ∧ (t.lvu pe).radix = lopW o ∧
      t.lvu pe = { s.lvu pe with modq := q, radix := lopW o, barrett := (t.lvu pe).barrett } := by
  have valid : ¬(q % 2 = 0 ∨ q < 3 ∨ q ≥ if o.w32 then 2 ^ 23 else 2 ^ 15) := by
    rintro (h | h | h) <;> omega
  refine issue_answers (l := (lvuVsetq o (s.lvu pe)).after) rfl hr hw ?_ rfl rfl fun t ht hl => ⟨ht, ?_, ?_, ?_⟩
  · show (lvuVsetq o (s.lvu pe)).faults = []
    rw [hq] at valid
    simp only [lvuVsetq, hwFaults_nil hw, List.nil_append, if_neg valid, List.append_nil, windowFaults_eq_nil]
    exact fun _ _ => hin
  · rw [hl, hq]; rfl
  · rw [hl]; rfl
  · rw [hl, hq]; rfl

end

/-- Settles O41: each instruction is the lemma on it; VST and VSCATTER store alike, from their own addresses. -/
theorem lvuMemoryInstructions : Obligations.LvuMemoryInstructions := by
  unfold Obligations.LvuMemoryInstructions
  intro s pe o hw
  refine ⟨fun hr => vld_answers hw hr, fun hr => vgather_answers hw hr,
    fun hr => storeRun_answers hw rfl hr (lvuVst_after o _) rfl, fun hr => ?_, fun hr hin => vsetq_answers hw hr hin rfl⟩
  have hn := Nat.min_eq_left (lopCount_le_of_ready hr)
  exact storeRun_answers hw rfl hr (hn ▸ lvuVscatter_after o _) rfl

end Sys2Proof.Machine
end

section
/-! The vector instructions on predicates, the permutations and the random elements, and the statement on them: the bits
that a comparison packs, the sources of the permutations, and the words that VRAND draws. -/

namespace Sys2Proof.Machine

/-! ### Packed bits (R355) -/

theorem testBit_b2n_succ (b : Bool) (i : Nat) : (b2n b).testBit (i + 1) = false :=
  Nat.testBit_lt_two_pow (by cases b <;> simp [b2n])

/-- Bit `i` of a number packed from a list, lowest first, is the bit of its element `i`. -/
theorem testBit_foldr_bits {α : Type} (p : α → Bool) : ∀ (xs : List α) (i : Nat),
    (xs.foldr (fun x a => a <<< 1 ||| b2n (p x)) 0).testBit i = (xs.map p).getD i false
  | [], i => by simp
  | x :: xs, 0 => by
    rw [List.foldr_cons, Nat.testBit_or, Nat.testBit_shiftLeft]
    cases h : p x <;> simp [b2n, h]
  | x :: xs, i + 1 => by
    rw [List.foldr_cons, Nat.testBit_or, Nat.testBit_shiftLeft, testBit_b2n_succ, Nat.add_sub_cancel,
      testBit_foldr_bits p xs i]
    simp

theorem lopN_le (o : LvuOp) : lopN o ≤ 2048 := by
  have hg : lopG o ≤ 2 ^ 3 := Nat.pow_le_pow_right (by norm_num) (by omega)
  have hp : lopPer o ≤ 256 := by unfold lopPer; split <;> norm_num
  exact Nat.mul_le_mul hg hp

/-- The lower bits of a number replaced by `n` packed ones. -/
theorem testBit_replaceLow {n x i : Nat} (b : Nat) (hi : i < n) : (x >>> n <<< n ||| b).testBit i = b.testBit i := by
  rw [Nat.testBit_or, Nat.testBit_shiftLeft, decide_eq_false (by omega : ¬ i ≥ n), Bool.false_and, Bool.false_or]

theorem Lvu.preg_setP_same (l : Lvu) {r : Nat} (v : BitVec 2048) (h : r ≠ 0) : (l.setP r v).preg r = v := by
  rw [Lvu.preg, if_neg h, Lvu.setP, if_neg h]
  exact tgetD_tput_same _ _ _ _

/-- A write to a predicate register leaves the others, and P0 whatever it names (R355). -/
theorem Lvu.preg_setP_other (l : Lvu) {r q : Nat} (v : BitVec 2048) (h : q ≠ r ∨ q = 0) :
    (l.setP r v).preg q = l.preg q := by
  by_cases hq : q = 0
  · rw [Lvu.preg, Lvu.preg, if_pos hq, if_pos hq]
  · rw [Lvu.preg, Lvu.preg, if_neg hq, if_neg hq, Lvu.setP]
    split
    · rfl
    · exact tgetD_tput_other _ _ _ _ (h.resolve_right hq)

/-- Writing a predicate changes predicate registers only. -/
theorem Lvu.setP_p (l : Lvu) (r : Nat) (v : BitVec 2048) : l.setP r v = { l with p := (l.setP r v).p } := by
  unfold Lvu.setP; split <;> rfl

/-- VCMP compares the governed elements and keeps the other bits. -/
theorem getLsbD_vcmp (o : LvuOp) (l : Lvu) {i : Nat} (hi : i < lopN o) (hd : o.vd % 8 ≠ 0) :
    ((lvuVcmp o l).after.preg (o.vd % 8)).getLsbD i =
      if l.governs o i then cmpElem o (lvuElem l o o.va i) (lvuElem l o o.vb i) else (l.preg (o.vd % 8)).getLsbD i := by
  have hn := hi.trans_le (lopN_le o)
  have hz : (List.zipWith (cmpElem o) (l.elems o o.va) (l.elems o o.vb)).length = lopN o := by simp [Lvu.elems_length]
  have ha : i < (l.elems o o.va).length := by rwa [l.elems_length]
  have hb : i < (l.elems o o.vb).length := by rwa [l.elems_length]
  simp only [lvuVcmp]
  rw [Lvu.preg_setP_same _ _ hd, BitVec.getLsbD_ofNat, decide_eq_true hn, Bool.true_and,
    testBit_replaceLow _ (hz ▸ hi), testBit_foldr_bits]
  simp [List.getD, lvuElem, ha, hb]

/-! ### Permutations (R361) -/

theorem getD_permute (l : Lvu) (o : LvuOp) (r i : Nat) (f : Nat → Nat) (h : i < lopN o) :
    (permute f (l.elems o r)).getD i 0 = lvuElem l o r (f i) := by
  have hl : i < (l.elems o r).length := by rwa [l.elems_length]
  simp [permute, lvuElem, List.getD, hl]

/-- A place inside the block of 2d that holds position `i` has that block's number, and its own offset. -/
theorem block_div_mod {n k : Nat} (i : Nat) (hk : k < n) : (i / n * n + k) / n = i / n ∧ (i / n * n + k) % n = k := by
  constructor
  · rw [Nat.mul_comm, Nat.mul_add_div (by omega), Nat.div_eq_of_lt hk, Nat.add_zero]
  · rw [Nat.mul_comm, Nat.mul_add_mod, Nat.mod_eq_of_lt hk]

/-- VDEINT reads the lower half of a block from its even places and the upper half from its odd ones, where the interleave
of VPERM put them. -/
theorem permSource_deintSource (n : Nat) {d : Nat} (hd : 0 < d) (i : Nat) : permSource 1 n d (deintSource d i) = i := by
  have hr : i % (2 * d) < 2 * d := Nat.mod_lt _ (by omega)
  have hi : i / (2 * d) * (2 * d) + i % (2 * d) = i := Nat.div_add_mod' i (2 * d)
  simp only [permSource, deintSource, Nat.one_ne_zero, if_false]
  split
  · obtain ⟨hb, hm⟩ := block_div_mod (n := 2 * d) i (by omega : 2 * (i % (2 * d)) < 2 * d)
    rw [hb, hm, Nat.mul_div_cancel_left _ two_pos, Nat.mul_mod_right, Nat.zero_mul, Nat.add_zero, hi]
  · obtain ⟨hb, hm⟩ := block_div_mod (n := 2 * d) i (by omega : 2 * (i % (2 * d) - d) + 1 < 2 * d)
    rw [hb, hm, show (2 * (i % (2 * d) - d) + 1) / 2 = i % (2 * d) - d by omega,
      show (2 * (i % (2 * d) - d) + 1) % 2 = 1 by omega]
    omega

theorem deintSource_permSource (n : Nat) {d : Nat} (hd : 0 < d) (i : Nat) : deintSource d (permSource 1 n d i) = i := by
  have hr : i % (2 * d) < 2 * d := Nat.mod_lt _ (by omega)
  have hi : i / (2 * d) * (2 * d) + i % (2 * d) = i := Nat.div_add_mod' i (2 * d)
  simp only [permSource, deintSource, Nat.one_ne_zero, if_false, Nat.add_assoc]
  rcases Nat.mod_two_eq_zero_or_one (i % (2 * d)) with he | he
  · rw [he, Nat.zero_mul, Nat.add_zero]
    obtain ⟨hb, hm⟩ := block_div_mod (n := 2 * d) i (by omega : i % (2 * d) / 2 < 2 * d)
    rw [hb, hm, if_pos (by omega)]
    omega
  · rw [he, Nat.one_mul]
    obtain ⟨hb, hm⟩ := block_div_mod (n := 2 * d) i (by omega : i % (2 * d) / 2 + d < 2 * d)
    rw [hb, hm, if_neg (by omega)]
    omega

/-! ### Random elements (R358) -/

/-- An instruction that ends without a fault commits what it does (R366). -/
theorem State.lvuEnd_commits (s : State) (pe lop : Nat) (o : LvuOp) (rand : List Nat) (e : LvuEffect)
    (h : e.faults = []) : s.lvuEnd pe lop o rand e none = s.setLvu pe { e.after with restart := none } := by
  simp [State.lvuEnd, h, firstFault]

/-- `n` random words, drawn one after another. -/
def State.drawWords (s : State) (n : Nat) : List Nat × State :=
  (List.range n).foldl (fun (a : List Nat × State) _ =>
    let x := a.2.drawNat (2 ^ 32)
    (x.1 :: a.1, x.2)) ([], s)

theorem execVrand_eq (pe : Nat) (o : LvuOp) (s : State) : execVrand pe o s = .next
    (if s.lvuReady pe 0x07 o [o.vd] (o.aux ≤ 1) then
      let r := s.drawWords (lopN o)
      r.2.lvuEnd pe 0x07 o r.1 { lvuDo 0x07 r.1 o (r.2.lvu pe) with faults := hwFaults o.hw fun _ => 0 } none
    else s) := by
  unfold execVrand
  split <;> rfl

theorem State.drawWords_succ (s : State) (n : Nat) : s.drawWords (n + 1) =
    (((s.drawWords n).2.drawNat (2 ^ 32)).1 :: (s.drawWords n).1, ((s.drawWords n).2.drawNat (2 ^ 32)).2) := by
  rw [State.drawWords, List.range_succ, List.foldl_append]
  rfl

theorem State.drawWords_length (s : State) : ∀ n, (s.drawWords n).1.length = n
  | 0 => rfl
  | n + 1 => by rw [State.drawWords_succ, List.length_cons, s.drawWords_length n]

/-- Drawing advances the free values and changes nothing else. -/
theorem State.drawWords_state (s : State) : ∀ n, (s.drawWords n).2 = { s with free := s.free + n }
  | 0 => rfl
  | n + 1 => by
    rw [State.drawWords_succ, s.drawWords_state n]
    rfl

/-! ### The instructions -/

section
variable {s : State} {pe : Nat} {o : LvuOp} (hw : o.hw = [])
include hw

theorem vcmp_answers (hr : s.lvuReady pe 0x28 o [o.va, o.vb] (o.aux ≤ 3) = true) : answers (.vcmp pe o) s fun t =>
    onlyLvuChanged s t pe ∧ t.lvu pe = { s.lvu pe with p := (t.lvu pe).p } ∧
    (∀ i, i < lopN o → o.vd % 8 ≠ 0 → ((t.lvu pe).preg (o.vd % 8)).getLsbD i = if (s.lvu pe).governs o i then
      cmpElem o (lvuElem (s.lvu pe) o o.va i) (lvuElem (s.lvu pe) o o.vb i) else ((s.lvu pe).preg (o.vd % 8)).getLsbD i) ∧
    ∀ r, r ≠ o.vd % 8 ∨ r = 0 → (t.lvu pe).preg r = (s.lvu pe).preg r := by
  refine issue_answers (l := (lvuVcmp o (s.lvu pe)).after) rfl hr hw rfl rfl ?_ fun t ht hl => ⟨ht, ?_, ?_, ?_⟩
  · simp only [lvuVcmp]
    rw [Lvu.setP_p]
  · rw [hl]
    exact Lvu.setP_p _ _ _
  · rw [hl]
    exact fun i hi hd => getLsbD_vcmp o _ hi hd
  · rw [hl]
    exact fun r h => Lvu.preg_setP_other _ _ h

theorem permute_answers {lop : Nat} {regs : List Nat} {ok : Bool} {c : Instr} {f : Nat → Nat}
    (hc : exec c s = .next (s.issue pe lop o regs ok)) (hr : s.lvuReady pe lop o regs ok = true)
    (hd : lvuDo lop [] o (s.lvu pe) = ⟨(s.lvu pe).write o o.vd (permute f ((s.lvu pe).elems o o.va)), []⟩) :
    answers c s fun t => lvuWrites s t pe o o.vd fun i => lvuElem (s.lvu pe) o o.va (f i) :=
  issue_writes hc hr hw hd (by simp [permute, Lvu.elems_length]) fun i hi => by
    rw [getD_permute _ _ _ _ _ hi, lvuElem_mod]

/-- A VRAND that no read error strikes draws a word for each element and writes it below MODQ or of the element's width. -/
theorem vrand_answers (hr : s.lvuReady pe 0x07 o [o.vd] (o.aux ≤ 1) = true) : answers (.vrand pe o) s fun t =>
    ∃ f : Nat → Nat, lvuWrites { s with free := t.free } t pe o o.vd f ∧
      ∀ i, i < lopN o → f i < if o.aux = 0 ∧ (s.lvu pe).modq ≠ 0 then (s.lvu pe).modq else 2 ^ lopW o := by
  have hlen := s.drawWords_length (lopN o)
  refine ⟨_, (execVrand_eq pe o s).trans (congrArg _ (if_pos hr)), ?_⟩
  dsimp only
  rw [State.lvuEnd_commits _ _ _ _ _ _ (hwFaults_nil hw fun _ => 0), s.drawWords_state]
  generalize (s.drawWords (lopN o)).1 = words at hlen
  refine ⟨_, lvuWrites_setLvu { s with free := s.free + lopN o } pe o o.vd
    (words.map fun x => if o.aux = 0 ∧ (s.lvu pe).modq ≠ 0 then x % (s.lvu pe).modq else x % 2 ^ lopW o) _
    (State.restart_of_ready hr) (by rw [List.length_map, hlen]) fun i hi => rfl, fun i hi => ?_⟩
  simp only [List.getD, List.getElem?_map, List.getElem?_eq_getElem (hlen ▸ hi), Option.map_some, Option.getD_some]
  split
  · rename_i h
    exact (Nat.mod_le _ _).trans_lt (Nat.mod_lt _ (Nat.pos_of_ne_zero h.2))
  · exact Nat.mod_lt _ (by positivity)

end

/-- Settles O42: each instruction is the lemma on it, and the permutations are inverse by the lemmas on their blocks. -/
theorem lvuPredicateAndPermutation : Obligations.LvuPredicateAndPermutation := by
  unfold Obligations.LvuPredicateAndPermutation
  refine ⟨fun s pe o hw => ⟨vcmp_answers hw, fun hr => ?vany, fun hr => ?vperm, fun hr => ?vdeint, vrand_answers hw,
    fun hr => ?vnop⟩, fun n d i hd => ⟨permSource_deintSource n hd i, deintSource_permSource n hd i⟩⟩
  case vany => exact issue_answers rfl hr hw rfl rfl rfl fun t ht hl => ⟨ht, hl⟩
  case vperm => exact permute_answers hw rfl hr rfl
  case vdeint => exact permute_answers hw rfl hr rfl
  case vnop => exact issue_answers rfl hr hw rfl rfl rfl fun t ht hl => ⟨ht, hl⟩

end Sys2Proof.Machine
end

section
/-! How a vector instruction ends: it commits, or is discarded and waits for its restart, which commits or contains it; and
the statement on faults and restarts. -/

namespace Sys2Proof.Machine

/-! ### Every instruction -/

theorem execVrand_ends (pe : Nat) (o : LvuOp) (s : State) : ∃ (n : Nat) (rand : List Nat),
    execVrand pe o s = .next (if s.lvuReady pe 0x07 o [o.vd] (o.aux ≤ 1) then
      ({ s with free := n } : State).lvuEnd pe 0x07 o rand
        ⟨(lvuDo 0x07 rand o (s.lvu pe)).after, lvuFaults 0x07 o (s.lvu pe)⟩ none else s) :=
  ⟨s.free + lopN o, (s.drawWords (lopN o)).1, by
    rw [execVrand_eq]
    dsimp only
    rw [s.drawWords_state]
    rfl⟩

/-- Every instruction of the table that can be issued ends with the faults it meets; VRAND alone draws free values first. -/
theorem exec_lvuRow : ∀ row ∈ lvuRows, ∀ (pe : Nat) (o : LvuOp) (s : State), ∃ (n : Nat) (rand : List Nat),
    exec (row.2.1 pe o) s = .next (if s.lvuReady pe row.1 o (row.2.2.1 o) (row.2.2.2 o) then
      ({ s with free := n } : State).lvuEnd pe row.1 o rand
        ⟨(lvuDo row.1 rand o (s.lvu pe)).after, lvuFaults row.1 o (s.lvu pe)⟩ none else s) := by
  simp only [lvuRows, List.cons_append, List.nil_append, List.forall_mem_cons, List.not_mem_nil, false_imp_iff,
    implies_true, and_true]
  and_intros
  on_goal 8 => exact execVrand_ends
  all_goals exact fun pe o s => ⟨s.free, [], rfl⟩

/-! ### The first fault and its record (R366, R368) -/

theorem firstFault_eq_none : ∀ {fs : List (Nat × Nat × Nat)}, firstFault fs = none → fs = []
  | [], _ => rfl
  | f :: fs, h => by
    rw [firstFault] at h
    split at h <;> contradiction

/-- A record that is held stays, and otherwise the new one is latched. -/
theorem State.latchLvu_state (s : State) (pe lop uaddr : Nat) (f : Nat × Nat × Nat) (multi : Bool) :
    (s.latchLvu pe lop uaddr f multi).2 = { s with
      mc := { s.mc with flt := some (s.mc.flt.getD ⟨f.1, pe, false, multi, f.2.1, uaddr, lop, f.2.2⟩) } } := by
  unfold State.latchLvu
  cases h : s.mc.flt with
  | none => rfl
  | some x =>
    show s = _
    rw [Option.getD_some, ← h]

/-- A first fault discards the instruction whole: its unit waits for the restart, and the record is latched (R366, R368). -/
theorem State.lvuEnd_discards (s : State) (pe lop : Nat) (o : LvuOp) (rand : List Nat) (e : LvuEffect)
    {f : Nat × Nat × Nat} (h : firstFault e.faults = some f) : ∃ r : LvuRestart,
      r.lop = lop ∧ r.op = o ∧ r.element = f.2.1 ∧ s.lvuEnd pe lop o rand e none =
        (s.latchLvu pe lop o.uaddr f (e.faults.any fun g => g.2.1 != f.2.1)).2.setLvu pe
          { s.lvu pe with restart := some r } := by
  refine ⟨⟨lop, o, rand, (s.latchLvu pe lop o.uaddr f (e.faults.any fun g => g.2.1 != f.2.1)).1, f.2.1⟩, rfl, rfl, rfl, ?_⟩
  simp only [State.lvuEnd, h, State.latchLvu_state]
  rfl

/-! ### The restart (R367, R593) -/

theorem execLvuRestart_eq {s : State} {pe : Nat} {a : LvuRestart} (hw : List (Nat × Nat))
    (h : (s.lvu pe).restart = some a) : execLvuRestart pe hw s =
      let e := lvuDo a.lop a.rand { a.op with hw := hw } (s.lvu pe)
      .next (s.lvuEnd pe a.lop { a.op with hw := hw } a.rand
        ⟨e.after, if e.faults = [] then hwFaults hw (fun _ => 0) else e.faults⟩ (some a)) := by
  simp only [execLvuRestart, h]

@[simp] theorem State.lvu_markRetried (s : State) (pe p : Nat) : (s.markRetried pe).lvu p = s.lvu p := by
  unfold State.markRetried
  split
  · rw [State.lvu, State.onJob_lvus, State.lvu]
  · rfl

theorem State.cnt_markRetried (s : State) (pe off idx : Nat) : (s.markRetried pe).cnt off idx = s.cnt off idx := by
  unfold State.markRetried
  split
  · rw [State.cnt, State.onJob_cnts, State.cnt]
  · rfl

theorem State.job_markRetried {s : State} {pe j : Nat} {b : Job} (hj : (s.eng (engKey 1 pe)).busy = some j)
    (hb : s.job j = some b) : (s.markRetried pe).job j = some { b with retried := true } := by
  rw [State.markRetried, hj]
  exact s.job_onJob_same _ hb

/-- The state in which a restart that met no fault has its corrected fault raised. -/
def State.recommitted (s : State) (pe : Nat) (l : Lvu) : State :=
  ((s.setLvu pe { l with restart := none }).markRetried pe).bump aMC_LVU_RESTARTS 0

theorem State.lvuEnd_recommits (s : State) (pe lop : Nat) (o : LvuOp) (rand : List Nat) {e : LvuEffect} (a : LvuRestart)
    (h : e.faults = []) :
    s.lvuEnd pe lop o rand e (some a) = (s.recommitted pe e.after).raiseEng 1 pe 0x12 a.element := by
  simp only [State.lvuEnd, h, firstFault]
  rfl

theorem State.lvu_recommitted_same (s : State) (pe : Nat) (l : Lvu) :
    (s.recommitted pe l).lvu pe = { l with restart := none } :=
  (State.lvu_markRetried _ _ _).trans (State.lvu_setLvu_same _ _ _)

theorem State.lvu_recommitted_other (s : State) {pe p : Nat} (l : Lvu) (h : p ≠ pe) :
    (s.recommitted pe l).lvu p = s.lvu p :=
  (State.lvu_markRetried _ _ _).trans ((onlyLvuChanged_setLvu s pe _).2 p h)

/-- A restart that meets a fault gives the instruction up, and its fault is raised as contained. -/
theorem State.lvuEnd_contains (s : State) (pe lop : Nat) (o : LvuOp) (rand : List Nat) {e : LvuEffect} (a : LvuRestart)
    {f : Nat × Nat × Nat} (h : firstFault e.faults = some f) : ∃ mc : Microcode, s.lvuEnd pe lop o rand e (some a) =
      ((({ s with mc := mc } : State).setLvu pe { s.lvu pe with restart := none }).bump aMC_LVU_CONTAINED 0).raiseEng
        1 pe 0x13 f.2.1 := by
  refine ⟨if a.latched then { s.mc with
    flt := s.mc.flt.map fun x => if x.engine = pe then { x with rep := true } else x } else s.mc, ?_⟩
  simp only [State.lvuEnd, h]
  split <;> rfl

/-! ### The statement on faults and restarts -/

theorem lvuRow_faults {row} (hrow : row ∈ lvuRows) {s : State} {pe : Nat} {o : LvuOp} {f : Nat × Nat × Nat}
    (hr : s.lvuReady pe row.1 o (row.2.2.1 o) (row.2.2.2 o) = true)
    (hf : firstFault (lvuFaults row.1 o (s.lvu pe)) = some f) :
    answers (row.2.1 pe o) s fun t =>
      t = { s with lvus := t.lvus, mc := { s.mc with flt := t.mc.flt }, free := t.free } ∧
      (∀ p, p ≠ pe → t.lvu p = s.lvu p) ∧
      (∃ r, t.lvu pe = { s.lvu pe with restart := some r } ∧ r.lop = row.1 ∧ r.op = o ∧ r.element = f.2.1) ∧
      (s.mc.flt = none → t.mc.flt = some ⟨f.1, pe, false,
        (lvuFaults row.1 o (s.lvu pe)).any (fun g => g.2.1 != f.2.1), f.2.1, o.uaddr, row.1, f.2.2⟩) ∧
      (s.mc.flt ≠ none → t.mc.flt = s.mc.flt) := by
  obtain ⟨n, rand, hx⟩ := exec_lvuRow row hrow pe o s
  rw [if_pos hr] at hx
  obtain ⟨r, hlop, hop, helement, hend⟩ := State.lvuEnd_discards { s with free := n } pe row.1 o rand
    ⟨(lvuDo row.1 rand o (s.lvu pe)).after, lvuFaults row.1 o (s.lvu pe)⟩ hf
  rw [hend, State.latchLvu_state] at hx
  refine ⟨_, hx, rfl, (onlyLvuChanged_setLvu _ _ _).2, ⟨r, State.lvu_setLvu_same _ _ _, hlop, hop, helement⟩,
    fun hnone => ?_, fun hsome => ?_⟩
  · show some (s.mc.flt.getD _) = _
    rw [hnone]
    rfl
  · obtain ⟨x, hx⟩ := Option.ne_none_iff_exists'.mp hsome
    show some (s.mc.flt.getD _) = _
    rw [hx]
    rfl

section
variable {s : State} {pe : Nat} {a : LvuRestart} (ha : (s.lvu pe).restart = some a)
include ha

theorem lvuRestart_recommits (hf : (lvuDo a.lop a.rand { a.op with hw := [] } (s.lvu pe)).faults = []) :
    exec (.lvuRestart pe []) s = .next ((s.recommitted pe
      (lvuDo a.lop a.rand { a.op with hw := [] } (s.lvu pe)).after).raiseEng 1 pe 0x12 a.element) := by
  show execLvuRestart pe [] s = _
  rw [execLvuRestart_eq [] ha]
  exact congrArg _ (State.lvuEnd_recommits s pe a.lop _ a.rand a (if_pos hf))

theorem lvuRestart_contained (hw : List (Nat × Nat)) {f : Nat × Nat × Nat}
    (hf : firstFault (if (lvuDo a.lop a.rand { a.op with hw := hw } (s.lvu pe)).faults = []
      then hwFaults hw (fun _ => 0) else (lvuDo a.lop a.rand { a.op with hw := hw } (s.lvu pe)).faults) = some f) :
    answers (.lvuRestart pe hw) s fun t => ∃ m : State, t = m.raiseEng 1 pe 0x13 f.2.1 ∧
      m.lvu pe = { s.lvu pe with restart := none } ∧ (∀ p, p ≠ pe → m.lvu p = s.lvu p) ∧ m.jobs = s.jobs ∧
      m.cnt aMC_LVU_CONTAINED 0 = (s.cnt aMC_LVU_CONTAINED 0 + 1) % 2 ^ 32 := by
  obtain ⟨mc, hend⟩ := s.lvuEnd_contains pe a.lop { a.op with hw := hw } a.rand a
    (e := ⟨(lvuDo a.lop a.rand { a.op with hw := hw } (s.lvu pe)).after, _⟩) hf
  exact ⟨_, (execLvuRestart_eq hw ha).trans (congrArg _ hend), _, rfl, State.lvu_setLvu_same _ _ _,
    (onlyLvuChanged_setLvu _ _ _).2, rfl, State.cnt_bumpBy_same _ _ _ _⟩

end

/-- Settles O43: a fault is the lemma on the instructions of the table, and the restart commits or is contained by its own. -/
theorem lvuFaultsAndRestarts : Obligations.LvuFaultsAndRestarts := by
  unfold Obligations.LvuFaultsAndRestarts
  refine ⟨fun row hrow s pe o f => lvuRow_faults hrow,
    fun s pe hw a ha => ⟨fun hnil hf => ?_, fun f => lvuRestart_contained ha hw⟩⟩
  subst hnil
  refine ⟨_, lvuRestart_recommits ha hf, _, rfl, s.lvu_recommitted_same _ _, fun p hp => s.lvu_recommitted_other _ hp,
    fun j b hj hb => State.job_markRetried hj hb, ?_⟩
  exact (State.cnt_bumpBy_same _ _ _ _).trans (by rw [State.cnt_markRetried]; rfl)

end Sys2Proof.Machine
end

section
/-! Which bytes of operand memory a vector instruction may change, and the statement that they lie in the write windows. -/

namespace Sys2Proof.Machine

/-! ### Which instructions store, and where (R364) -/

/-- A byte outside every window lies outside an element that a window holds. -/
theorem outside_of_inWindow {w : List (Nat × Nat)} {addr n a : Nat} (hin : inWindow w addr n = true)
    (ha : inWindow w a 1 = false) : a < addr ∨ addr + n ≤ a := by
  simp only [inWindow, List.any_eq_true, Bool.and_eq_true, decide_eq_true_eq] at hin
  obtain ⟨x, hx, hlow, hhigh⟩ := hin
  have := List.any_eq_false.mp ha x hx
  simp only [Bool.and_eq_true, decide_eq_true_eq] at this
  omega

/-- A run of stores that no window faults leaves the bytes outside the windows. -/
theorem Lvu.memGet_storeRun_outside (l : Lvu) (o : LvuOp) {addr : Nat → Nat} {k n a : Nat} {fs : List (Nat × Nat × Nat)}
    (hf : fs ++ windowFaults l.winW (lopBytes o) addr (List.range n) = []) (hk : k ≤ n)
    (ha : inWindow l.winW a 1 = false) : memGet (l.storeRun o addr k).mem a = memGet l.mem a := by
  have hin := windowFaults_eq_nil.mp (List.append_eq_nil_iff.mp hf).2
  refine l.memGet_storeRun o addr k a fun i hi => outside_of_inWindow (hin i ?_) ha
  exact List.mem_range.mpr ((List.mem_range.mp hi).trans_le hk)

theorem Lvu.map1_mem (l : Lvu) (o : LvuOp) (f : Nat → Nat) : (l.map1 o f).after.mem = l.mem := l.write_mem _ _ _

theorem Lvu.map2_mem (l : Lvu) (o : LvuOp) (f : Nat → Nat → Nat) : (l.map2 o f).after.mem = l.mem := l.write_mem _ _ _

theorem Lvu.mapPair_mem (l : Lvu) (o : LvuOp) (f : Nat → Nat × Nat) : (l.mapPair o f).after.mem = l.mem :=
  (Lvu.write_mem _ _ _ _).trans (l.write_mem _ _ _)

theorem Lvu.setP_mem (l : Lvu) (r : Nat) (v : BitVec 2048) : (l.setP r v).mem = l.mem := by rw [l.setP_p]

/-- Only VST and VSCATTER write operand memory. -/
theorem lvuDo_keeps_mem {lop : Nat} (rand : List Nat) (o : LvuOp) (l : Lvu) (h2 : lop ≠ 2) (h4 : lop ≠ 4) :
    (lvuDo lop rand o l).after.mem = l.mem := by
  unfold lvuDo
  split
  case h_2 => exact absurd rfl h2
  case h_4 => exact absurd rfl h4
  all_goals simp only [lvuVld, lvuVgather, lvuVrand, lvuVsetq, lvuModAdd, lvuVmmul, lvuVreduce, lvuAddSub, lvuVmulhr,
    lvuVshrr, lvuVshl, lvuLogic, lvuVcompress, lvuVdecompress, lvuVp2r, lvuVcmp, lvuVsel, Lvu.map1_mem, Lvu.map2_mem,
    Lvu.mapPair_mem, Lvu.write_mem, Lvu.putElems_mem, Lvu.setP_mem]

theorem lvuDo_mem_outside (lop : Nat) (rand : List Nat) (o : LvuOp) (l : Lvu) {a : Nat}
    (hf : (lvuDo lop rand o l).faults = []) (ha : inWindow l.winW a 1 = false) :
    memGet (lvuDo lop rand o l).after.mem a = memGet l.mem a := by
  by_cases h2 : lop = 2
  · subst h2
    exact (congrArg (fun l : Lvu => memGet l.mem a) (lvuVst_after o l)).trans (l.memGet_storeRun_outside o hf le_rfl ha)
  · by_cases h4 : lop = 4
    · subst h4
      exact (congrArg (fun l : Lvu => memGet l.mem a) (lvuVscatter_after o l)).trans
        (l.memGet_storeRun_outside o hf (Nat.min_le_left _ _) ha)
    · rw [lvuDo_keeps_mem rand o l h2 h4]

/-! ### Instructions and restarts leave the bytes outside (R366, R367) -/

/-- An instruction that ends either commits its memory, having met no fault, or keeps the one its unit had (R366). -/
theorem State.lvuEnd_cases (s : State) (pe lop : Nat) (o : LvuOp) (rand : List Nat) (e : LvuEffect) :
    ∃ (mc : Microcode) (l : Lvu), s.lvuEnd pe lop o rand e none = ({ s with mc := mc } : State).setLvu pe l ∧
      (e.faults = [] ∧ l.mem = e.after.mem ∨ l.mem = (s.lvu pe).mem) := by
  cases hf : firstFault e.faults with
  | none =>
    have hnil := firstFault_eq_none hf
    exact ⟨s.mc, _, s.lvuEnd_commits pe lop o rand e hnil, .inl ⟨hnil, rfl⟩⟩
  | some f =>
    obtain ⟨r, -, -, -, hend⟩ := s.lvuEnd_discards pe lop o rand e hf
    rw [State.latchLvu_state] at hend
    exact ⟨_, _, hend, .inr rfl⟩

theorem State.memGet_lvuEnd {s : State} {pe p lop a : Nat} {o : LvuOp} {rand : List Nat} {e : LvuEffect}
    (h : p = pe → e.faults = [] → memGet e.after.mem a = memGet (s.lvu p).mem a) :
    memGet ((s.lvuEnd pe lop o rand e none).lvu p).mem a = memGet (s.lvu p).mem a := by
  obtain ⟨mc, l, hend, hl⟩ := s.lvuEnd_cases pe lop o rand e
  rw [hend]
  by_cases hp : p = pe
  · subst hp
    rw [State.lvu_setLvu_same]
    rcases hl with ⟨hnil, hl⟩ | hl
    · rw [hl, h rfl hnil]
    · rw [hl]
  · rw [(onlyLvuChanged_setLvu _ _ _).2 p hp]
    rfl

/-- The faults of an instruction do not depend on the words that VRAND drew. -/
theorem lvuDo_faults_rand (lop : Nat) (rand : List Nat) (o : LvuOp) (l : Lvu) :
    (lvuDo lop rand o l).faults = (lvuDo lop [] o l).faults := by
  unfold lvuDo
  split <;> rfl

theorem lvuDo_faults_eq_nil {lop : Nat} (rand : List Nat) {o : LvuOp} {l : Lvu} (h : lvuFaults lop o l = []) :
    (lvuDo lop rand o l).faults = [] := by
  rw [lvuDo_faults_rand]
  by_contra hne
  exact hne ((if_neg hne).symm.trans h)

theorem lvuRow_mem_outside {row} (hrow : row ∈ lvuRows) {s t : State} {pe p a : Nat} {o : LvuOp}
    (ha : inWindow (s.lvu p).winW a 1 = false) (ht : exec (row.2.1 pe o) s = .next t) :
    memGet (t.lvu p).mem a = memGet (s.lvu p).mem a := by
  obtain ⟨n, rand, hx⟩ := exec_lvuRow row hrow pe o s
  cases hx.symm.trans ht
  split
  · refine State.memGet_lvuEnd (s := { s with free := n }) fun hp hf => ?_
    subst hp
    exact lvuDo_mem_outside _ _ _ _ (lvuDo_faults_eq_nil rand hf) ha
  · rfl

theorem State.memGet_recommitted {s : State} {pe p a : Nat} {l : Lvu}
    (h : p = pe → memGet l.mem a = memGet (s.lvu p).mem a) :
    memGet ((s.recommitted pe l).lvu p).mem a = memGet (s.lvu p).mem a := by
  by_cases hp : p = pe
  · subst hp
    rw [State.lvu_recommitted_same]
    exact h rfl
  · rw [State.lvu_recommitted_other _ _ hp]

/-- Settles O44: a store that commits met no window fault, so every byte it wrote lies in a window. -/
theorem lvuStoresStayInWindow : Obligations.LvuStoresStayInWindow := by
  unfold Obligations.LvuStoresStayInWindow
  intro s t pe p a ha
  refine ⟨fun row hrow o => lvuRow_mem_outside hrow ha, fun r hr hf ht => ?_⟩
  cases (lvuRestart_recommits hr hf).symm.trans ht
  refine ⟨_, rfl, State.memGet_recommitted fun hp => ?_⟩
  subst hp
  exact lvuDo_mem_outside _ _ _ _ hf ha

end Sys2Proof.Machine
end

section
/-! AES as FIPS 197 builds it: each layer of a round has an inverse, and the round keys of a 16- or 32-byte key fit the
block, so that decryption undoes encryption. -/

namespace Sys2Proof.Machine

/-! ### Byte strings (R14) -/

theorem leBytes_length : ∀ v n : Nat, (leBytes v n).length = n
  | _, 0 => rfl
  | v, n + 1 => congrArg (· + 1) (leBytes_length (v / 256) n)

theorem beBytes_length (v n : Nat) : (beBytes v n).length = n :=
  List.length_reverse.trans (leBytes_length v n)

theorem slice_length {b : Bytes} {off n : Nat} (h : off + n ≤ b.length) : (slice b off n).length = n := by
  rw [slice, List.length_take, List.length_drop]
  omega

/-- Cutting bytes into equal slices and joining them gives the bytes back. -/
theorem flatten_slices (n : Nat) : ∀ (k : Nat) (b : Bytes), b.length = n * k →
    ((List.range k).map fun i => slice b (n * i) n).flatten = b
  | 0, b, h => (List.eq_nil_of_length_eq_zero h).symm
  | k + 1, b, h => by
    have hrest := flatten_slices n k (b.drop n) (by rw [List.length_drop, h, Nat.mul_succ, Nat.add_sub_cancel])
    have htail : ∀ i, slice b (n * (i + 1)) n = slice (b.drop n) (n * i) n := fun i => by
      rw [slice, slice, List.drop_drop, Nat.mul_succ, Nat.add_comm]
    rw [List.range_succ_eq_map, List.map_cons, List.map_map, List.flatten_cons]
    simp only [Function.comp_def, htail, hrest]
    exact List.take_append_drop n b

/-- A slice of equal pieces joined together is the piece at its place. -/
theorem slice_flatten (n : Nat) : ∀ (ls : List Bytes) (i : Nat), (∀ l ∈ ls, l.length = n) → i < ls.length →
    slice ls.flatten (n * i) n = ls.getD i []
  | l :: ls, 0, h, _ => by
    have hl := h l List.mem_cons_self
    rw [slice, Nat.mul_zero, List.drop_zero, List.flatten_cons, List.take_left' hl]
    rfl
  | l :: ls, i + 1, h, hi => by
    have hl := h l List.mem_cons_self
    rw [List.getD_cons_succ, ← slice_flatten n ls i (fun x hx => h x (List.mem_cons_of_mem _ hx)) (Nat.lt_of_succ_lt_succ hi),
      slice, slice, List.flatten_cons, Nat.mul_succ, Nat.add_comm, ← List.drop_drop, List.drop_left' hl]

@[simp] theorem xorBytes_length (a b : Bytes) : (xorBytes a b).length = min a.length b.length := List.length_zipWith

/-- A key at least as long as the text cancels when it is applied twice. -/
theorem xorBytes_xorBytes : ∀ {a k : Bytes}, a.length ≤ k.length → xorBytes (xorBytes a k) k = a
  | [], _, _ => rfl
  | x :: a, y :: k, h => by
    have ih : xorBytes (xorBytes a k) k = a := xorBytes_xorBytes (Nat.le_of_succ_le_succ h)
    exact congrArg₂ List.cons ((BitVec.xor_assoc x y y).trans (by rw [BitVec.xor_self, BitVec.xor_zero])) ih

/-! ### SubBytes and ShiftRows -/

/-- The inverse in GF(2^8) is its own inverse: the 254th power of the 254th power. -/
theorem ginv_ginv : ∀ a : Byte, ginv (ginv a) = a := by decide +kernel

/-- The linear map of the inverse S-box undoes the affine map of the S-box. -/
theorem invAffine_affine : ∀ b : Byte,
    let a := b ^^^ b.rotateLeft 1 ^^^ b.rotateLeft 2 ^^^ b.rotateLeft 3 ^^^ b.rotateLeft 4 ^^^ 0x63
    a.rotateLeft 1 ^^^ a.rotateLeft 3 ^^^ a.rotateLeft 6 ^^^ 0x05 = b := by decide +kernel

theorem invSbox_sbox (a : Byte) : invSbox (sbox a) = a :=
  (congrArg ginv (invAffine_affine (ginv a))).trans (ginv_ginv a)

@[simp] theorem permute16_length (f : Nat → Nat) (b : Bytes) : (permute16 f b).length = 16 := by simp [permute16]

/-- Picking by `f` and then by `g` picks by the composition. -/
theorem permute16_permute16 {f g : Nat → Nat} (hg : ∀ i < 16, g i < 16) (b : Bytes) :
    permute16 g (permute16 f b) = permute16 (f ∘ g) b :=
  List.map_congr_left fun i hi => by
    have hgi := hg i (List.mem_range.mp hi)
    rw [permute16, List.getD_eq_getElem _ _ (by simpa using hgi)]
    simp

theorem permute16_id {f : Nat → Nat} (hf : ∀ i < 16, f i = i) {b : Bytes} (hb : b.length = 16) : permute16 f b = b := by
  refine List.ext_getElem (by simp [hb]) fun i hi hi' => ?_
  have h16 : i < 16 := hb ▸ hi'
  simp [permute16, hf i h16, hi']

/-- SubBytes and ShiftRows, which a round of encryption does first. -/
def subShift (b : Bytes) : Bytes := permute16 (fun i => 5 * i % 16) (b.map sbox)

/-- Their inverses, which a round of decryption does first. -/
def unSubShift (b : Bytes) : Bytes := (permute16 (fun i => 13 * i % 16) b).map invSbox

@[simp] theorem subShift_length (b : Bytes) : (subShift b).length = 16 := permute16_length _ _

@[simp] theorem unSubShift_length (b : Bytes) : (unSubShift b).length = 16 := by simp [unSubShift]

theorem unSubShift_subShift {b : Bytes} (hb : b.length = 16) : unSubShift (subShift b) = b := by
  unfold unSubShift subShift
  rw [permute16_permute16 (fun i _ => Nat.mod_lt _ (by decide)), permute16_id (by decide) (by simpa using hb),
    List.map_map]
  exact (List.map_congr_left fun a _ => invSbox_sbox a).trans (List.map_id b)

/-! ### MixColumns -/

/-- A map of bytes that respects exclusive or. -/
def XorLinear (f : Byte → Byte) : Prop := ∀ a b, f (a ^^^ b) = f a ^^^ f b

theorem XorLinear.comp {f g : Byte → Byte} (hf : XorLinear f) (hg : XorLinear g) : XorLinear fun a => f (g a) :=
  fun a b => (congrArg f (hg a b)).trans (hf _ _)

theorem XorLinear.xor {f g : Byte → Byte} (hf : XorLinear f) (hg : XorLinear g) : XorLinear fun a => f a ^^^ g a :=
  fun a b => by
    dsimp only
    rw [hf, hg]
    ac_rfl

theorem XorLinear.zero {f : Byte → Byte} (hf : XorLinear f) : f 0 = 0 := by
  have h := hf 0 0
  rwa [BitVec.xor_self, BitVec.xor_self] at h

/-- The exclusive or of those bits of a byte that a list names. -/
def xorBits (a : Byte) : List Nat → Byte
  | [] => 0
  | i :: l => (if a.getLsbD i then BitVec.twoPow 8 i else 0) ^^^ xorBits a l

theorem xorBits_range : ∀ a : Byte, xorBits a (List.range 8) = a := by decide +kernel

section
variable {f g : Byte → Byte} (hf : XorLinear f) (hg : XorLinear g)
  (h : ∀ i < 8, f (BitVec.twoPow 8 i) = g (BitVec.twoPow 8 i))
include hf hg h

theorem XorLinear.xorBits_congr (a : Byte) : ∀ l : List Nat, (∀ i ∈ l, i < 8) → f (xorBits a l) = g (xorBits a l)
  | [], _ => hf.zero.trans hg.zero.symm
  | i :: l, hl => by
    obtain ⟨hi, hl⟩ := List.forall_mem_cons.mp hl
    rw [xorBits, hf, hg, XorLinear.xorBits_congr a l hl]
    split
    · rw [h i hi]
    · rw [hf.zero, hg.zero]

/-- A linear map is known by what it does to the eight bits. -/
theorem XorLinear.ext (a : Byte) : f a = g a := by
  rw [← xorBits_range a]
  exact hf.xorBits_congr hg h a _ fun i => List.mem_range.mp

end

/-- One step of `gmul`: a bit of the second factor, if set, adds its multiple, and the multiple doubles. -/
def gmulStep (b : Byte) (p : Byte × Byte) (i : Nat) : Byte × Byte :=
  (if b.getLsbD i then p.1 ^^^ p.2 else p.1, xtime p.2)

theorem gmulStep_xor (a b p q x : Byte) (i : Nat) :
    (gmulStep (a ^^^ b) (p ^^^ q, x) i).1 = (gmulStep a (p, x) i).1 ^^^ (gmulStep b (q, x) i).1 := by
  have cancel : p ^^^ q = p ^^^ x ^^^ (q ^^^ x) := by
    rw [BitVec.xor_comm q x, BitVec.xor_assoc, ← BitVec.xor_assoc x x q, BitVec.xor_self, BitVec.zero_xor]
  simp only [gmulStep, BitVec.getLsbD_xor]
  cases a.getLsbD i <;> cases b.getLsbD i
  · rfl
  · exact BitVec.xor_assoc p q x
  · exact (BitVec.xor_assoc p q x).trans ((congrArg (p ^^^ ·) (BitVec.xor_comm q x)).trans (BitVec.xor_assoc p x q).symm)
  · exact cancel

theorem gmulSteps_xor (a b : Byte) : ∀ (l : List Nat) (p q x : Byte),
    (l.foldl (gmulStep (a ^^^ b)) (p ^^^ q, x)).1 =
      (l.foldl (gmulStep a) (p, x)).1 ^^^ (l.foldl (gmulStep b) (q, x)).1
  | [], _, _, _ => rfl
  | i :: l, p, q, x => by
    have hstep : gmulStep (a ^^^ b) (p ^^^ q, x) i =
        ((gmulStep a (p, x) i).1 ^^^ (gmulStep b (q, x) i).1, xtime x) := Prod.ext (gmulStep_xor a b p q x i) rfl
    rw [List.foldl_cons, hstep]
    exact gmulSteps_xor a b l _ _ _

/-- Multiplication by a fixed byte is linear: each bit of the second factor adds its own multiple. -/
theorem gmul_linear (m : Byte) : XorLinear (gmul m) := fun a b => gmulSteps_xor a b (List.range 8) 0 0 m

/-- The sum of four bytes, as `mixColumn` adds them. -/
def xor4 (f : Nat → Byte) : Byte := (List.range 4).foldl (fun s k => s ^^^ f k) 0

theorem xor4_eq (f : Nat → Byte) : xor4 f = f 0 ^^^ f 1 ^^^ f 2 ^^^ f 3 :=
  congrArg (· ^^^ f 1 ^^^ f 2 ^^^ f 3) BitVec.zero_xor

theorem XorLinear.xor4 {g : Byte → Byte} (hg : XorLinear g) (f : Nat → Byte) : g (xor4 f) = Machine.xor4 fun k => g (f k) := by
  rw [xor4_eq, xor4_eq, hg, hg, hg]

theorem xor4_comm (f : Nat → Nat → Byte) : (xor4 fun k => xor4 (f k)) = xor4 fun l => xor4 fun k => f k l := by
  simp only [xor4_eq]
  ac_rfl

theorem xor4_congr {f g : Nat → Byte} (h : ∀ k < 4, f k = g k) : xor4 f = xor4 g := by
  rw [xor4_eq, xor4_eq, h 0 (by decide), h 1 (by decide), h 2 (by decide), h 3 (by decide)]

theorem xor4_single (c : Nat → Byte) {i : Nat} (hi : i < 4) : (xor4 fun l => if i = l then c l else 0) = c i := by
  rw [xor4_eq]
  interval_cases i <;> simp

/-- The coefficient in row `i` and column `k` of the circulant matrix whose first row is `m`. -/
def circulant (m : List Byte) (i k : Nat) : Byte := m.getD ((k + 4 - i) % 4) 0

theorem mixColumn_length (m : List Byte) (c : Bytes) : (mixColumn m c).length = 4 := by simp [mixColumn]

theorem mixColumn_getD (m : List Byte) (c : Bytes) {i : Nat} (hi : i < 4) :
    (mixColumn m c).getD i 0 = xor4 fun k => gmul (circulant m i k) (c.getD k 0) := by
  rw [List.getD_eq_getElem _ _ (by rwa [mixColumn_length])]
  simp only [mixColumn, List.getElem_map, List.getElem_range]
  rfl

/-- The matrix of decryption times that of encryption is the identity: on the eight bits, hence on every byte. -/
theorem invMix_mix {i l : Nat} (hi : i < 4) (hl : l < 4) (a : Byte) :
    (xor4 fun k => gmul (circulant [14, 11, 13, 9] i k) (gmul (circulant [2, 3, 1, 1] k l) a)) =
      if i = l then a else 0 := by
  have bits : ∀ i < 4, ∀ l < 4, ∀ n < 8,
      (xor4 fun k => gmul (circulant [14, 11, 13, 9] i k) (gmul (circulant [2, 3, 1, 1] k l) (BitVec.twoPow 8 n))) =
        if i = l then BitVec.twoPow 8 n else 0 := by decide +kernel
  have entry := fun k => (gmul_linear (circulant [14, 11, 13, 9] i k)).comp (gmul_linear (circulant [2, 3, 1, 1] k l))
  have sum : XorLinear fun a => xor4 fun k =>
      gmul (circulant [14, 11, 13, 9] i k) (gmul (circulant [2, 3, 1, 1] k l) a) := by
    simp only [xor4_eq]
    exact (((entry 0).xor (entry 1)).xor (entry 2)).xor (entry 3)
  have single : XorLinear fun a => if i = l then a else 0 := fun a b => by split <;> simp
  exact sum.ext single (bits i hi l hl) a

theorem mixColumn_mixColumn {c : Bytes} (hc : c.length = 4) :
    mixColumn [14, 11, 13, 9] (mixColumn [2, 3, 1, 1] c) = c := by
  refine List.ext_getElem (by rw [mixColumn_length, hc]) fun i hi hi' => ?_
  have h4 : i < 4 := hc ▸ hi'
  rw [← List.getD_eq_getElem _ 0 hi, ← List.getD_eq_getElem _ 0 hi', mixColumn_getD _ _ h4]
  calc (xor4 fun k => gmul (circulant [14, 11, 13, 9] i k) ((mixColumn [2, 3, 1, 1] c).getD k 0))
      = xor4 fun k => xor4 fun l =>
          gmul (circulant [14, 11, 13, 9] i k) (gmul (circulant [2, 3, 1, 1] k l) (c.getD l 0)) :=
        xor4_congr fun k hk => by rw [mixColumn_getD _ _ hk, (gmul_linear _).xor4]
    _ = xor4 fun l => xor4 fun k =>
          gmul (circulant [14, 11, 13, 9] i k) (gmul (circulant [2, 3, 1, 1] k l) (c.getD l 0)) := xor4_comm _
    _ = xor4 fun l => if i = l then c.getD l 0 else 0 := xor4_congr fun l hl => invMix_mix h4 hl _
    _ = c.getD i 0 := xor4_single _ h4

@[simp] theorem mixColumns_length (m : List Byte) (b : Bytes) : (mixColumns m b).length = 16 := by
  simp [mixColumns, mixColumn_length, Function.comp_def]

theorem slice_mixColumns (m : List Byte) (b : Bytes) {i : Nat} (hi : i < 4) :
    slice (mixColumns m b) (4 * i) 4 = mixColumn m (slice b (4 * i) 4) := by
  have columns : ∀ l ∈ (List.range 4).map fun i => mixColumn m (slice b (4 * i) 4), l.length = 4 := fun l hl => by
    obtain ⟨k, -, rfl⟩ := List.mem_map.mp hl
    exact mixColumn_length _ _
  rw [mixColumns, slice_flatten 4 _ i columns (by simpa using hi), List.getD_eq_getElem _ _ (by simpa using hi)]
  simp

theorem mixColumns_mixColumns {b : Bytes} (hb : b.length = 16) :
    mixColumns [14, 11, 13, 9] (mixColumns [2, 3, 1, 1] b) = b := by
  have column : ∀ i ∈ List.range 4, mixColumn [14, 11, 13, 9] (slice (mixColumns [2, 3, 1, 1] b) (4 * i) 4) =
      slice b (4 * i) 4 := fun i hi => by
    have hi := List.mem_range.mp hi
    rw [slice_mixColumns _ _ hi, mixColumn_mixColumn (slice_length (by omega))]
  rw [mixColumns, List.map_congr_left column]
  exact flatten_slices 4 4 b hb

/-! ### Round keys -/

theorem nextKeyWord_length {nk i : Nat} {rcon : Byte} {ws : List Bytes} (hnk : 0 < nk) (hws : nk ≤ ws.length)
    (h4 : ∀ w ∈ ws, w.length = 4) : (nextKeyWord nk i rcon ws).length = 4 := by
  have hold : (ws.getD (nk - 1) []).length = 4 := by
    have hn : nk - 1 < ws.length := by omega
    rw [List.getD_eq_getElem _ _ hn]
    exact h4 _ (List.getElem_mem hn)
  have hlast : (ws.headD []).length = 4 := by
    obtain _ | ⟨w, ws⟩ := ws
    · exact absurd hws hnk.not_ge
    · exact h4 w List.mem_cons_self
  unfold nextKeyWord
  generalize ws.headD [] = t at hlast ⊢
  rw [xorBytes_length, hold]
  split
  · simp [hlast]
  · split <;> simp [hlast]

/-- The key schedule grows by as many words of four bytes as it is asked for. -/
theorem extendKey_words {nk : Nat} (hnk : 0 < nk) : ∀ (f i : Nat) (rcon : Byte) (ws : List Bytes), nk ≤ ws.length →
    (∀ w ∈ ws, w.length = 4) →
    (extendKey nk f i rcon ws).length = ws.length + f ∧ ∀ w ∈ extendKey nk f i rcon ws, w.length = 4
  | 0, _, _, _, _, h4 => ⟨rfl, h4⟩
  | f + 1, i, rcon, ws, hws, h4 => by
    obtain ⟨hlen, hall⟩ := extendKey_words hnk f (i + 1) (if i % nk = 0 then xtime rcon else rcon)
      (nextKeyWord nk i rcon ws :: ws) (Nat.le_succ_of_le hws)
      (List.forall_mem_cons.mpr ⟨nextKeyWord_length hnk hws h4, h4⟩)
    exact ⟨hlen.trans (by rw [List.length_cons]; omega), hall⟩

theorem flatten_length {n : Nat} {ls : List Bytes} (h : ∀ l ∈ ls, l.length = n) : ls.flatten.length = n * ls.length := by
  rw [List.length_flatten, List.map_congr_left h, List.map_const', List.sum_replicate, smul_eq_mul, Nat.mul_comm]

/-- Every round key is as long as a block. -/
theorem roundKeys_blocks {key : Bytes} (h : 4 ≤ key.length) : ∀ k ∈ roundKeys key, k.length = 16 := by
  have hnk : 0 < key.length / 4 := Nat.div_pos h (by decide)
  have given : ∀ w ∈ ((List.range (key.length / 4)).map fun i => slice key (4 * i) 4).reverse, w.length = 4 := fun w hw => by
    obtain ⟨i, hi, rfl⟩ := List.mem_map.mp (List.mem_reverse.mp hw)
    have := List.mem_range.mp hi
    exact slice_length (by omega)
  obtain ⟨hlen, hwords⟩ := extendKey_words hnk (4 * (key.length / 4 + 7) - key.length / 4) (key.length / 4) 1 _
    (by simp) given
  intro k hk
  obtain ⟨r, hr, rfl⟩ := List.mem_map.mp hk
  have hr := List.mem_range.mp hr
  refine slice_length ?_
  rw [flatten_length (n := 4) fun w hw => hwords w (List.mem_reverse.mp hw), List.length_reverse, hlen]
  simp only [List.length_reverse, List.length_map, List.length_range]
  omega

/-- A key schedule has a first and a last round key and others between. -/
theorem roundKeys_cases (key : Bytes) : ∃ k0 mid kn, roundKeys key = k0 :: (mid ++ [kn]) := by
  have hlen : (roundKeys key).length = key.length / 4 + 7 := by simp [roundKeys]
  generalize roundKeys key = ks at hlen
  obtain _ | ⟨k0, ks⟩ := ks
  · simp at hlen
  · obtain rfl | ⟨mid, kn, rfl⟩ := ks.eq_nil_or_concat
    · simp at hlen
    · exact ⟨k0, mid, kn, by rw [List.concat_eq_append]⟩

/-! ### Rounds -/

/-- A middle round of encryption. -/
def encRound (b k : Bytes) : Bytes := xorBytes (mixColumns [2, 3, 1, 1] (subShift b)) k

/-- A middle round of decryption. -/
def decRound (b k : Bytes) : Bytes := mixColumns [14, 11, 13, 9] (xorBytes (unSubShift b) k)

section
variable {key k0 kn : Bytes} {mid : List Bytes} (hk : roundKeys key = k0 :: (mid ++ [kn]))
include hk

theorem aesEncrypt_rounds (x : Bytes) :
    aesEncrypt key x = xorBytes (subShift (mid.foldl encRound (xorBytes x k0))) kn := by
  unfold aesEncrypt
  rw [hk]
  dsimp only
  rw [List.dropLast_concat, List.getLastD_concat]
  rfl

theorem aesDecrypt_rounds (x : Bytes) :
    aesDecrypt key x = xorBytes (unSubShift (mid.reverse.foldl decRound (xorBytes x kn))) k0 := by
  unfold aesDecrypt
  rw [hk, List.reverse_cons, List.reverse_append, List.reverse_singleton, List.singleton_append, List.cons_append]
  dsimp only
  rw [List.dropLast_concat, List.getLastD_concat]
  rfl

end

/-- The middle rounds, undone under the keys in reverse, leave what the first of them substituted. -/
theorem decRounds_encRounds : ∀ (ks : List Bytes) {x : Bytes}, x.length = 16 → (∀ k ∈ ks, k.length = 16) →
    ks.reverse.foldl decRound (subShift (ks.foldl encRound x)) = subShift x ∧ (ks.foldl encRound x).length = 16
  | [], _, hx, _ => ⟨rfl, hx⟩
  | k :: ks, x, _, hks => by
    obtain ⟨hk, hks⟩ := List.forall_mem_cons.mp hks
    have hround : (encRound x k).length = 16 := by simp [encRound, hk]
    obtain ⟨hinv, hlen⟩ := decRounds_encRounds ks hround hks
    refine ⟨?_, hlen⟩
    rw [List.reverse_cons, List.foldl_append]
    show decRound (ks.reverse.foldl decRound (subShift (ks.foldl encRound (encRound x k)))) k = subShift x
    rw [hinv, decRound, unSubShift_subShift hround, encRound, xorBytes_xorBytes (by simp [hk]),
      mixColumns_mixColumns (subShift_length x)]

theorem aesEncrypt_length {key x : Bytes} (h : 4 ≤ key.length) : (aesEncrypt key x).length = 16 := by
  obtain ⟨k0, mid, kn, hk⟩ := roundKeys_cases key
  have hkn : kn.length = 16 := roundKeys_blocks h kn (by simp [hk])
  rw [aesEncrypt_rounds hk, xorBytes_length, subShift_length, hkn, Nat.min_self]

/-- Decryption undoes encryption round by round. -/
theorem aesDecrypt_aesEncrypt {key x : Bytes} (h : 4 ≤ key.length) (hx : x.length = 16) :
    aesDecrypt key (aesEncrypt key x) = x := by
  obtain ⟨k0, mid, kn, hk⟩ := roundKeys_cases key
  have keys := roundKeys_blocks h
  rw [hk] at keys
  obtain ⟨hk0, hrest⟩ := List.forall_mem_cons.mp keys
  obtain ⟨hmid, hkn⟩ := List.forall_mem_append.mp hrest
  have hkn := hkn kn List.mem_cons_self
  have hfirst : (xorBytes x k0).length = 16 := by simp [hx, hk0]
  rw [aesDecrypt_rounds hk, aesEncrypt_rounds hk, xorBytes_xorBytes (by simp [hkn]), (decRounds_encRounds mid hfirst hmid).1,
    unSubShift_subShift hfirst, xorBytes_xorBytes (by rw [hx, hk0])]

end Sys2Proof.Machine
end

section
/-! The modes of AES that a second run undoes (R416, R417). -/

namespace Sys2Proof.Machine

/-! ### Blocks -/

theorem blocks16_nil (f : Nat) : blocks16 f [] = [] := by cases f <;> rfl

/-- A whole block in front is the first block. -/
theorem blocks16_append {c : Bytes} (hc : c.length = 16) (f : Nat) (r : Bytes) :
    blocks16 (f + 1) (c ++ r) = c :: blocks16 f r := by
  rw [blocks16, if_neg (by simp [← List.length_eq_zero_iff, hc]), List.take_left' hc, List.drop_left' hc]

theorem blocks16_short {c : Bytes} (hne : c ≠ []) (hc : c.length ≤ 16) (f : Nat) : blocks16 (f + 1) c = [c] := by
  rw [blocks16, if_neg (by simpa using hne), List.take_of_length_le hc, List.drop_eq_nil_of_le hc, blocks16_nil]

/-! ### Counter mode (R417) -/

/-- Each block under the pad of its number. -/
def xorPads (pad : Nat → Bytes) (n : Nat) (bs : List Bytes) : Bytes :=
  ((bs.zipIdx n).map fun e => xorBytes e.1 (pad e.2)).flatten

theorem xorPads_cons (pad : Nat → Bytes) (n : Nat) (b : Bytes) (bs : List Bytes) :
    xorPads pad n (b :: bs) = xorBytes b (pad n) ++ xorPads pad (n + 1) bs := rfl

theorem aesCtrMode_eq_xorPads (key : Bytes) (bits : Nat) (iv m : Bytes) :
    aesCtrMode key bits iv m = xorPads (fun i => aesEncrypt key (ctrAdd bits i iv)) 0 (blocksOf16 m) := rfl

/-- Whole pads leave the length as it is, and a second time they cancel. -/
theorem xorPads_xorPads {pad : Nat → Bytes} (hpad : ∀ i, (pad i).length = 16) : ∀ (f n : Nat) (m : Bytes),
    m.length < 16 * f → (xorPads pad n (blocks16 f m)).length = m.length ∧
      xorPads pad n (blocks16 f (xorPads pad n (blocks16 f m))) = m
  | f + 1, n, m, h => by
    by_cases hnil : m = []
    · subst hnil
      exact ⟨rfl, rfl⟩
    by_cases hshort : m.length ≤ 16
    · have single : xorPads pad n (blocks16 (f + 1) m) = xorBytes m (pad n) := by
        rw [blocks16_short hnil hshort]
        exact List.append_nil _
      have hlen : (xorBytes m (pad n)).length = m.length := by rw [xorBytes_length, hpad, Nat.min_eq_left hshort]
      have hne : xorBytes m (pad n) ≠ [] := by rwa [ne_eq, ← List.length_eq_zero_iff, hlen, List.length_eq_zero_iff]
      refine ⟨by rw [single, hlen], ?_⟩
      rw [single, blocks16_short hne (by omega)]
      exact (List.append_nil _).trans (xorBytes_xorBytes (by rw [hpad]; exact hshort))
    · obtain ⟨c, r, rfl, hc⟩ : ∃ c r : Bytes, m = c ++ r ∧ c.length = 16 :=
        ⟨m.take 16, m.drop 16, (List.take_append_drop 16 m).symm, by rw [List.length_take]; omega⟩
      rw [List.length_append] at h
      obtain ⟨hlen, hinv⟩ := xorPads_xorPads hpad f (n + 1) r (by omega)
      have hfirst : (xorBytes c (pad n)).length = 16 := by rw [xorBytes_length, hc, hpad, Nat.min_self]
      rw [blocks16_append hc, xorPads_cons, blocks16_append hfirst, xorPads_cons, hinv,
        xorBytes_xorBytes (by rw [hc, hpad]), List.length_append, List.length_append, hlen, hfirst, hc]
      exact ⟨rfl, rfl⟩

theorem aesCtrMode_aesCtrMode {key : Bytes} (h : 4 ≤ key.length) (bits : Nat) (iv m : Bytes) :
    aesCtrMode key bits iv (aesCtrMode key bits iv m) = m := by
  obtain ⟨hlen, hinv⟩ := xorPads_xorPads (pad := fun i => aesEncrypt key (ctrAdd bits i iv))
    (fun i => aesEncrypt_length h) (m.length / 16 + 1) 0 m (by omega)
  rw [aesCtrMode_eq_xorPads, aesCtrMode_eq_xorPads, blocksOf16, blocksOf16, hlen]
  exact hinv

/-! ### Cipher block chaining (R416) -/

/-- Each block of CBC is chained by the ciphertext of the block before, which decryption reads again. -/
theorem aesCbcDecMode_aesCbcEncMode {key : Bytes} (h : 4 ≤ key.length) : ∀ (k f : Nat) {iv data : Bytes}, k ≤ f →
    iv.length = 16 → data.length = 16 * k →
    (aesCbcEncMode key iv (blocks16 f data)).length = data.length ∧
      aesCbcDecMode key iv (blocks16 f (aesCbcEncMode key iv (blocks16 f data))) = data
  | 0, f, iv, data, _, _, hd => by
    obtain rfl := List.eq_nil_of_length_eq_zero hd
    rw [blocks16_nil, aesCbcEncMode, blocks16_nil]
    exact ⟨rfl, rfl⟩
  | k + 1, f + 1, iv, data, hf, hiv, hd => by
    obtain ⟨x, r, rfl, hx⟩ : ∃ x r : Bytes, data = x ++ r ∧ x.length = 16 :=
      ⟨data.take 16, data.drop 16, (List.take_append_drop 16 data).symm, by rw [List.length_take]; omega⟩
    rw [List.length_append] at hd
    have hc : (aesEncrypt key (xorBytes x iv)).length = 16 := aesEncrypt_length h
    obtain ⟨hlen, hinv⟩ := aesCbcDecMode_aesCbcEncMode h k f (Nat.le_of_succ_le_succ hf) (data := r) hc (by omega)
    rw [blocks16_append hx, aesCbcEncMode, blocks16_append hc, aesCbcDecMode, hinv,
      aesDecrypt_aesEncrypt h (by rw [xorBytes_length, hx, hiv, Nat.min_self]), xorBytes_xorBytes (by rw [hx, hiv]),
      List.length_append, List.length_append, hlen, hc, hx]
    exact ⟨rfl, rfl⟩

/-- Settles O20: the cipher by its rounds, each layer of which has an inverse, and the modes by induction over the blocks. -/
theorem blockModesInvert : Obligations.BlockModesInvert := by
  unfold Obligations.BlockModesInvert
  intro key hkey
  have h : 4 ≤ key.length := by omega
  refine ⟨fun x hx => ⟨aesEncrypt_length h, aesDecrypt_aesEncrypt h hx⟩,
    fun iv data bits => aesCtrMode_aesCtrMode h bits iv data, fun iv data hiv hdata => ?_⟩
  obtain ⟨hlen, hinv⟩ := aesCbcDecMode_aesCbcEncMode h (data.length / 16) (data.length / 16 + 1) (Nat.le_succ _) hiv
    (data := data) (by omega)
  rw [blocksOf16, blocksOf16, hlen]
  exact hinv

end Sys2Proof.Machine
end

section
/-! A cipher job counts its bytes under its engine's number (R431), which the model's jobs do not bound: the number may be
one at which the byte counter has the key of the count of tag failures. -/

namespace Sys2Proof.Machine

theorem gcmTag_length {key : Bytes} (h : 4 ≤ key.length) (iv aad c : Bytes) : (gcmTag key iv aad c).length = 16 := by
  rw [gcmTag, xorBytes_length, beBytes_length, aesEncrypt_length h, Nat.min_self]

/-- A cipher opcode counts the bytes of its engine and then ends its job with the outcome of its meaning (R431). -/
theorem seJob_ends {s : State} {j code : Nat} {b : Job} (f : State → Job → State × Ending) (h : runsOp s j b code) :
    seJob s j code f = .next ((f (s.bump64 aSE_BYTES_LO b.engineNo b.dataLen) b).1.endJob j
      (f (s.bump64 aSE_BYTES_LO b.engineNo b.dataLen) b).2) :=
  runJob_ends (fun s b => f (s.bump64 aSE_BYTES_LO b.engineNo b.dataLen) b) h

/-- A GCM decryption that refuses its tag counts the bytes of its engine first and the failure after them (R420, R431). -/
theorem aesGcmDec_wrongTag {s : State} {j : Nat} {b : Job} {data : Bytes} (h : runsOp s j b opAES_GCM_DEC)
    (hbad : (gcmTag b.key (b.val 0x0098) (data.take b.aadLen) (data.drop b.aadLen)).take b.tagLen ≠ b.val 0x009C) :
    ∃ t, exec (.aesGcmDec j data) s = .next t ∧
      t.cnts = ((s.bump64 aSE_BYTES_LO b.engineNo b.dataLen).bump aSE_TAG_FAIL 0).cnts := by
  refine ⟨_, (seJob_ends _ h : execAesGcmDec j data s = _), ?_⟩
  rw [State.endJob_cnts]
  exact congrArg State.cnts (if_neg fun heq => hbad (eq_of_beq heq))

/-- A running AES_GCM_DEC of 16 bytes under the zero key, without a TAG, on an engine whose number is 0x140000. -/
def farEngineJob : Job :=
  { src := .console, inst := 0, opcode := opAES_GCM_DEC, tag := 0, major := 2, minor := 2, flags := 0, handle := 0,
    deadline := 0, params := [], paramLen := 0, resultCap := 0, resultAddr := 0, dataLen := 16, frags := [], order := 0,
    seqInQueue := 0, phase := .running, engine := some (3, 0x140000), work := [zeros 32] }

/-- The reset state with that job alone. -/
def farEngineState : State := { State.reset with jobs := [(0, farEngineJob)] }

theorem farEngineJob_runs : runsOp farEngineState 0 farEngineJob opAES_GCM_DEC := ⟨rfl, rfl, rfl, rfl, rfl⟩

/-- A tag has 16 bytes, and the TAG that the job does not carry has none. -/
theorem farEngineJob_wrongTag (iv aad text : Bytes) :
    (gcmTag farEngineJob.key iv aad text).take farEngineJob.tagLen ≠ farEngineJob.val 0x009C := by
  intro h
  have hlen := congrArg List.length h
  rw [List.length_take, gcmTag_length (by decide)] at hlen
  exact absurd hlen (by decide)

/-- The engine's bytes are counted where the tag failures are, so 16 bytes and one failure count 17. -/
theorem farEngineState_counts :
    ((farEngineState.bump64 aSE_BYTES_LO farEngineJob.engineNo farEngineJob.dataLen).bump aSE_TAG_FAIL 0).cnt
      aSE_TAG_FAIL 0 = 17 := by decide +kernel

/-- Refutes O19: AES_GCM_DEC with a wrong tag on the engine numbered 0x140000 adds its 16 bytes to the count of tag
failures before it counts the failure, and the statement has the count rise by one. -/
theorem not_cipherOperations : ¬ Obligations.CipherOperations := by
  unfold Obligations.CipherOperations
  intro h
  obtain ⟨-, hdec, -⟩ := h farEngineState 0 farEngineJob (zeros 16)
  obtain ⟨t, ht, hend⟩ := hdec farEngineJob_runs
  rw [if_neg (farEngineJob_wrongTag _ _ _)] at hend
  obtain ⟨-, hcount⟩ := hend
  obtain ⟨u, hu, hcnts⟩ := aesGcmDec_wrongTag farEngineJob_runs (farEngineJob_wrongTag _ _ _)
  cases hu.symm.trans ht
  have hreads : t.cnt aSE_TAG_FAIL 0 = 17 := by
    unfold State.cnt
    rw [hcnts]
    exact farEngineState_counts
  rw [hreads] at hcount
  exact absurd hcount (by decide +kernel)

end Sys2Proof.Machine
end

section
/-! The digest opcodes: each absorbs, finishes, compares or moves a context in its outcome, and of the state it changes
counters, free values and, for a keyed save, the count of wrapped contexts. -/

namespace Sys2Proof.Machine

section
variable {s : State} {j : Nat} {b : Job} {data : Bytes}

/-! ### Absorbing and releasing (R401, R402) -/

theorem digestUpdate_answers (h : runsOp s j b opDIGEST_UPDATE) (hr : b.releases = false) :
    answers (.digestUpdate j data) s fun t =>
      match b.alg with
      | some a => match algInfo a with
        | some i => endsQuietly s t j { done [] with
            ctx := .store (absorbCtx (startCtx (b.newCtx a i) i b.key) i data) }
        | none => endsQuietly s t j (failed stMALFORMED)
      | none => match s.ctxOf b with
        | some c => match algInfo c.alg with
          | some i => endsQuietly s t j { done [] with ctx := .store (absorbCtx c i data) }
          | none => endsQuietly s t j (failed stMALFORMED)
        | none => endsQuietly s t j (failed stMALFORMED) := by
  show ∃ t, execDigestUpdate j data s = .next t ∧ _
  unfold execDigestUpdate
  simp only [h.1, hr, Bool.false_eq_true, if_false]
  refine (runJob_unseen _ h ?_).imp fun t ⟨hx, ht⟩ => ⟨hx, ?_⟩
  · repeat' split
    · exact unseen_deBlocks s b _ _
    · exact Unseen.refl s
    · exact unseen_deBlocks s b _ _
    · exact Unseen.refl s
    · exact Unseen.refl s
  · cases ha : b.alg with
    | some a => cases hi : algInfo a <;> simpa only [ha, hi] using ht
    | none => cases hc : s.ctxOf b with
      | none => simpa only [ha, hc] using ht
      | some c => cases hi : algInfo c.alg <;> simpa only [ha, hc, hi] using ht

theorem digestRelease_answers (h : runsOp s j b opDIGEST_UPDATE) (hr : b.releases = true) :
    answers (.digestRelease j) s fun t => endsQuietly s t j { done [] with ctx := .release } := by
  show ∃ t, execDigestRelease j s = .next t ∧ _
  unfold execDigestRelease
  simp only [h.1, hr, if_true]
  exact runJob_unseen _ h (Unseen.refl s)

/-! ### Finishing and comparing (R405, R410) -/

/-- What follows a finished message ends the job, where the context and its algorithm exist. -/
theorem finishJob_answers {code : Nat} {f : Job → State → Bytes → CtxEffect → State × Ending}
    {e : Bytes → CtxEffect → Ending} (h : runsOp s j b code)
    (hf : ∀ u d x, Unseen u (f b u d x).1 ∧ (f b u d x).2 = e d x) :
    ∃ t, runJob s j code (fun s b => finishJob s b data (f b)) = .next t ∧ match s.ctxOf b with
      | none => endsQuietly s t j (failed stMALFORMED)
      | some c => match algInfo c.alg with
        | none => endsQuietly s t j (failed stMALFORMED)
        | some i => endsQuietly s t j
            (e (finishCtx (absorbCtx c i data) i b.key) (.store (startCtx c i b.key))) := by
  refine (runJob_unseen _ h ?_).imp fun t ⟨hx, ht⟩ => ⟨hx, ?_⟩
  · unfold finishJob
    repeat' split
    · exact (unseen_deBlocks s b _ _).trans (hf _ _ _).1
    · exact Unseen.refl s
    · exact Unseen.refl s
  · unfold finishJob at ht
    cases hc : s.ctxOf b with
    | none => simpa only [hc] using ht
    | some c => cases hi : algInfo c.alg <;> simpa only [hc, hi, (hf _ _ _).2] using ht

/-- A comparison counts a mismatch and answers the doubled verdict. -/
theorem compareEnd_outcome (u : State) (b : Job) (d : Bytes) (x : CtxEffect) :
    Unseen u (compareEnd u b d x).1 ∧
      (compareEnd u b d x).2 = { verdictEnd (d.take (b.val 0x0096).length == b.val 0x0096) with ctx := x } :=
  ⟨unseen_ite _ (Unseen.refl u) (unseen_bump u _ _), rfl⟩

theorem digestOneshot_answers (h : runsOp s j b opDIGEST_ONESHOT) : answers (.digestOneshot j data) s fun t =>
    match b.alg.bind algInfo with
    | none => endsQuietly s t j (failed stMALFORMED)
    | some i =>
      let d := finishCtx (absorbCtx (startCtx (b.newCtx (b.alg.getD 0) i) i b.key) i data) i b.key
      if b.has 0x0096 then
        endsQuietly s t j { verdictEnd (d.take (b.val 0x0096).length == b.val 0x0096) with ctx := .keep }
      else endsQuietly s t j (done [⟨0x0095, d⟩]) := by
  refine (runJob_unseen _ h ?_ : ∃ t, execDigestOneshot j data s = .next t ∧ _).imp fun t ⟨hx, ht⟩ => ⟨hx, ?_⟩
  · dsimp only
    repeat' split
    · exact Unseen.refl s
    · exact (unseen_deBlocks s b _ _).trans (compareEnd_outcome _ b _ _).1
    · exact unseen_deBlocks s b _ _
  · dsimp only at ht
    cases hi : b.alg.bind algInfo with
    | none => simpa only [hi] using ht
    | some i =>
      simp only [hi] at ht ⊢
      split
      · rename_i hx
        rw [if_pos hx] at ht
        exact ht
      · rename_i hx
        rwa [if_neg hx] at ht

/-! ### Saving and restoring (R407, R408, R409) -/

theorem digestSave_answers (h : runsOp s j b opDIGEST_SAVE) : answers (.digestSave j) s fun t => otherJobsKept s t j ∧
    match s.ctxOf b with
    | none => endsQuietly s t j (failed stMALFORMED)
    | some c =>
      let st := fitBytes c.chain 200
      let n := (s.inst b.inst).wrapCount
      let r := gcmEnc (s.inst b.inst).wrapKey (leBytes n 12) (blobHead b c) st
      if c.handle = 0 then endsQuietly s t j (done [⟨0x0097, blobHead b c ++ zeros 16 ++ st ++ zeros 24⟩])
      else endedWith t j (done [⟨0x0097, blobHead b c ++ leBytes n 12 ++ zeros 4 ++ r.1 ++ r.2 ++ zeros 8⟩]) ∧
        t.insts = tset s.insts b.inst { s.inst b.inst with wrapCount := n + 1 } := by
  have hrun : execDigestSave j s = _ := runJob_ends _ h
  dsimp only at hrun
  cases hc : s.ctxOf b with
  | none =>
    rw [hc] at hrun
    exact ⟨_, hrun, otherJobsKept_endJob _ _ _, endJob_unseen _ h.1 (Unseen.refl s)⟩
  | some c =>
    rw [hc] at hrun
    dsimp only at hrun ⊢
    split
    · rename_i hh
      rw [if_pos hh] at hrun
      exact ⟨_, hrun, otherJobsKept_endJob _ _ _, endJob_unseen _ h.1 (Unseen.refl s)⟩
    · rename_i hh
      rw [if_neg hh] at hrun
      exact ⟨_, hrun, fun i hi => State.job_endJob_other _ _ hi, endedWith_endJob (b := b) _ h.1, State.endJob_insts _ _ _⟩

theorem digestRestore_answers (h : runsOp s j b opDIGEST_RESTORE) :
    let v := b.val 0x0097
    let keyed := bitAt (leAt v 7 1) 0
    let key := (s.inst b.inst).wrapKey
    let sealOk := !keyed || gcmTag key (slice v 32 12) (v.take 32) (slice v 48 200) == slice v 248 16
    answers (.digestRestore j) s fun t =>
      if (leAt v 16 2 ≠ b.inst ∧ keyed = true) ∨ sealOk = false then
        endsQuietly s t j (failed stINPUT_ENCODING) ∧
          t.cnt aDE_RESTORE_REJECT 0 = (s.cnt aDE_RESTORE_REJECT 0 + 1) % 2 ^ 32
      else ∃ c : DigestCtx, endsQuietly s t j { done [] with ctx := .store c } ∧ c.alg = leAt v 6 1 ∧
        c.outLen = leAt v 18 4 ∧ c.handle = leAt v 24 8 ∧ c.blocks = leAt v 8 8 ∧
        ∃ n, c.chain = (if keyed then gcmDec key (slice v 32 12) (slice v 48 200) else slice v 48 200).take n := by
  intro v keyed key sealOk
  by_cases hbad : (leAt v 16 2 ≠ b.inst ∧ keyed = true) ∨ sealOk = false
  · have hrun : execDigestRestore j s = _ := (runJob_ends _ h).trans
      (congrArg (fun r : State × Ending => Host.Outcome.next (r.1.endJob j r.2))
        (if_pos (hbad.imp_right (Bool.not_eq_true' _).mpr)))
    refine ⟨_, hrun, ?_⟩
    dsimp only
    rw [if_pos hbad]
    refine ⟨endJob_unseen _ h.1 (unseen_bump s _ _), ?_⟩
    unfold State.cnt
    rw [State.endJob_cnts]
    exact s.cnt_bumpBy_same _ _ _
  · have hrun : execDigestRestore j s = _ := (runJob_ends _ h).trans
      (congrArg (fun r : State × Ending => Host.Outcome.next (r.1.endJob j r.2))
        (if_neg fun hx => hbad (hx.imp_right (Bool.not_eq_true' _).mp)))
    refine ⟨_, hrun, ?_⟩
    dsimp only
    rw [if_neg hbad]
    exact ⟨_, endJob_unseen _ h.1 (unseen_drawBytes s _), rfl, rfl, rfl, rfl, _, rfl⟩

end

/-- Settles O21: each opcode is the lemma on it; FINAL and MAC_VERIFY differ in what they do with the finished output. -/
theorem digestOperations : Obligations.DigestOperations := by
  unfold Obligations.DigestOperations
  intro s j b data
  refine ⟨digestUpdate_answers, digestRelease_answers, fun h => ?_, fun h => ?_, digestSave_answers,
    digestRestore_answers, digestOneshot_answers⟩
  · exact finishJob_answers (f := fun _ u d x => (u, { done [⟨0x0095, d⟩] with ctx := x })) h
      fun u d x => ⟨Unseen.refl u, rfl⟩
  · exact finishJob_answers (f := fun b u d x => compareEnd u b d x) h fun u d x => compareEnd_outcome u b d x

end Sys2Proof.Machine
end

section
/-! What the resets and the supply keep (R620, R632, R633): each of them starts from the module with nothing but its NV
store, and adds what its kind of reset keeps besides. -/

namespace Sys2Proof.Machine

/-! ### The NV store and the rest (R633) -/

/-- What stands in NV memory and boot flash, and what has left the module, is the same. -/
def nvStoreKept (s t : State) : Prop :=
  t.ks.nodes = s.ks.nodes ∧ t.ks.trust = s.ks.trust ∧ t.ks.certs = s.ks.certs ∧ t.ks.updCounter = s.ks.updCounter ∧
    t.hbs.journal = s.tornJournal ∧ (s.hbs.unread = [] → t.hbs.journal = s.hbs.journal) ∧ t.hbs.parity = s.hbs.parity ∧
    t.mc.floors = s.mc.floors ∧ t.mc.flash = s.mc.flash ∧ t.n6 = s.n6 ∧ t.outbox = s.outbox

/-- Jobs, keys, sessions, streams, instances, manifests, vector units and the pairing's keys are gone. -/
def restLost (s t : State) : Prop :=
  t.jobs = [] ∧ t.pairs = [] ∧ t.ks.slots = [] ∧ t.ks.kchk = [] ∧ t.ks.rkId = [] ∧ t.ks.rkSeal = [] ∧
    t.ks.roots = (if s.al.perm then .erased else .pending) ∧ t.mp.sessions = [] ∧ t.mp.state = .boot ∧
    t.tr.streams = [] ∧ t.insts = [] ∧ t.xs.active = none ∧ t.xs.loaded = none ∧ t.lvus = [] ∧ t.cfg = {} ∧
    t.tw.role = 0 ∧ t.tw.sendKey = [] ∧ t.tw.recvKey = [] ∧
    t.fc.mstate = (if s.fc.latchHeld then .latched else .service)

/-- A journal whose last record was read back stands whole (R276). -/
theorem State.tornJournal_of_read {s : State} (h : s.hbs.unread = []) : s.tornJournal = s.hbs.journal := by
  unfold State.tornJournal
  rw [h]
  rfl

theorem State.nvKept_nvStoreKept (s : State) : nvStoreKept s s.nvKept :=
  ⟨rfl, rfl, rfl, rfl, rfl, State.tornJournal_of_read, rfl, rfl, rfl, rfl, rfl⟩

theorem State.nvKept_restLost (s : State) : restLost s s.nvKept :=
  ⟨rfl, rfl, rfl, rfl, rfl, rfl, rfl, rfl, rfl, rfl, rfl, rfl, rfl, rfl, rfl, rfl, rfl, rfl, rfl⟩

/-- A power-on sets the power of the module alone besides. -/
theorem State.powerOn_keeps (s : State) (feedA feedB : Bool) :
    nvStoreKept s (s.powerOn feedA feedB) ∧ restLost s (s.powerOn feedA feedB) :=
  ⟨s.nvKept_nvStoreKept, s.nvKept_restLost⟩

/-- What a module reset keeps besides is none of what the rest lists. -/
theorem State.moduleReset_keeps (s : State) (cause : Nat) :
    nvStoreKept s (s.moduleReset cause) ∧ restLost s (s.moduleReset cause) :=
  ⟨s.nvKept_nvStoreKept, s.nvKept_restLost⟩

/-! ### Domains (R627) -/

/-- Of domains that are listed as on, exactly the listed ones are on. -/
theorem tgetD_on_iff (d : Nat) : ∀ l : List Nat,
    tgetD (l.map fun d => (d, DomainState.on)) d .off = .on ↔ d ∈ l
  | [] => by simp [tgetD]
  | x :: l => by
    by_cases h : x = d
    · simp [tgetD, tget, h]
    · have ih := tgetD_on_iff d l
      simp only [tgetD] at ih
      simp [tgetD, tget, h, ih, Ne.symm h]

theorem State.domain_bootPower (s : State) (cause boots d : Nat) :
    (s.bootPower cause boots).domain d = .on ↔ d ∈ fixedDomains := tgetD_on_iff d fixedDomains

/-! ### The commands (R620, R632, R635) -/

section
variable {s : State}

theorem powerOnReset_answers (h : s.pw.rails = false) : answers .powerOnReset s fun t =>
    nvStoreKept s t ∧ restLost s t ∧ t.pw.rails = true ∧ t.pw.ready = 1 ∧ t.pw.boots = 1 ∧ t.pw.resetCause = 0 ∧
      t.tb.state = .free ∧ t.tb.stamp = ⟨0, 0⟩ ∧ ∀ d, t.domain d = .on ↔ d ∈ fixedDomains := by
  have hrun : execPowerOnReset s = _ := if_neg (by rw [h]; decide)
  obtain ⟨hkept, hlost⟩ := s.powerOn_keeps (s.pw.feedA || (!s.pw.feedA && !s.pw.feedB))
    (s.pw.feedB || (!s.pw.feedA && !s.pw.feedB))
  exact ⟨_, hrun, hkept, hlost, rfl, rfl, rfl, rfl, rfl, rfl, State.domain_bootPower _ _ _⟩

theorem powerOnReset_powered (h : s.pw.rails = true) : answers .powerOnReset s fun t => t = s :=
  ⟨s, (if_pos h : execPowerOnReset s = _), rfl⟩

theorem pwrReset_answers : answers (.pwrReset 0x52535421) s fun t =>
    nvStoreKept s t ∧ restLost s t ∧ t.pw.ready = 1 ∧ t.pw.boots = s.pw.boots + 1 ∧ t.pw.resetCause = 1 ∧
      t.tb.stamp = s.tb.stamp ∧ t.tb.ns = s.tb.ns ∧ t.tb.rate = s.tb.rate ∧
      (t.tb.state = if s.tb.state = .locked then .holdover else s.tb.state) ∧ t.fc.captures = s.fc.captures ∧
      t.fc.exits = s.fc.exits ∧ t.al = s.al := by
  obtain ⟨hkept, hlost⟩ := s.moduleReset_keeps 1
  exact ⟨_, (if_pos rfl : execPwrReset 0x52535421 s = _), hkept, hlost, rfl, rfl, rfl, rfl, rfl, rfl, rfl, rfl, rfl, rfl⟩

theorem pwrReset_ignored {v : Reg} (h : v ≠ 0x52535421) : answers (.pwrReset v) s fun t => t = s :=
  ⟨s, (if_neg h : execPwrReset v s = _), rfl⟩

/-- Without a feed the rails fall: PD0 and PD3 stay on, and the key store, the alarms and the state of the fault
collector with them. -/
theorem railsFall_answers (hA : s.pw.feedA = false) (hB : s.pw.feedB = false) (hr : s.pw.rails = true) :
    answers .railsFall s fun t => t.ks = s.ks ∧ t.al = s.al ∧ t.fc.mstate = s.fc.mstate ∧ t.jobs = [] ∧
      t.pw.rails = false ∧ t.pw.ready = s.pw.ready &&& 0x800005 ∧ ∀ d, t.domain d = .on ↔ d = 0 ∨ d = 3 := by
  have hrun : execRailsFall s = _ := if_neg (by rw [hA, hB, hr]; decide)
  exact ⟨_, hrun, rfl, rfl, rfl, rfl, rfl, rfl, fun d => (tgetD_on_iff d [0, 3]).trans (by simp)⟩

theorem supercapExhausted_answers (hA : s.pw.feedA = false) (hB : s.pw.feedB = false) (hr : s.pw.rails = false) :
    answers .supercapExhausted s fun t => nvStoreKept s t ∧ restLost s t ∧
      t.al = { record := s.al.record, perm := s.al.perm } ∧ t.pw.rails = false ∧ t.pw.ready = 0 ∧
      ∀ d, t.domain d = .off := by
  have hrun : execSupercapExhausted s = _ := if_neg (by rw [hA, hB, hr]; decide)
  exact ⟨_, hrun, s.nvKept_nvStoreKept, s.nvKept_restLost, rfl, rfl, rfl, fun d => rfl⟩

theorem supercapReady_answers (charge : Nat) (h : s.domain 0 = .on) : answers (.supercapReady charge) s fun t =>
    t = { s with al := { s.al with capReady := true, charge := min 100 charge } } :=
  ⟨_, (if_pos h : execSupercapReady charge s = _), rfl⟩

end

/-- Settles O58: each command is the lemma on it; every loss of power or reset starts from what the NV store keeps. -/
theorem resetsAndSupply : Obligations.ResetsAndSupply := by
  unfold Obligations.ResetsAndSupply
  exact fun s => ⟨powerOnReset_answers, powerOnReset_powered, pwrReset_answers, fun v => pwrReset_ignored,
    railsFall_answers, supercapExhausted_answers, supercapReady_answers⟩

end Sys2Proof.Machine
end

section
/-! SUPPORT. What the wipe of a tenant leaves of it (R558), and O30: its slots freed one by one, its sealed copies and
digest contexts filtered out, its wrapping key drawn anew; the resets that wipe (R557) change none of it afterwards. -/

namespace Sys2Proof.Machine

theorem QueueTraffic.ks {s t : State} (h : QueueTraffic s t) : t.ks = s.ks := by rw [h]

variable (s : State)

/-! ### Freed slots (R445, R465) -/

@[simp] theorem State.slot_freeSlot_same (k : Nat) : (s.freeSlot k).slot k =
    { state := if (s.slot k).gen ≥ 65535 then .retired else .free, gen := (s.slot k).gen } := s.slot_setSlot_same _ _

theorem State.slot_freeSlot_other {k i : Nat} (h : i ≠ k) : (s.freeSlot k).slot i = s.slot i :=
  s.slot_setSlot_other _ h

/-- A slot that is freed counts for no tenant. -/
theorem State.counts_freeSlot (k : Nat) : ((s.freeSlot k).slot k).counts = false := by
  rw [s.slot_freeSlot_same]
  unfold Slot.counts
  dsimp only
  split <;> rfl

/-- Of slots freed one by one each counts no more, and every other is as it was. -/
theorem slot_foldl_freeSlot (i : Nat) : ∀ (ks : List Nat) (s : State),
    (i ∉ ks ∧ (ks.foldl State.freeSlot s).slot i = s.slot i) ∨ ((ks.foldl State.freeSlot s).slot i).counts = false
  | [], s => .inl ⟨List.not_mem_nil, rfl⟩
  | k :: ks, s => by
    rcases slot_foldl_freeSlot i ks (s.freeSlot k) with ⟨hi, he⟩ | hc
    · by_cases h : i = k
      · subst h
        exact .inr (by rw [List.foldl_cons, he]; exact s.counts_freeSlot i)
      · exact .inl ⟨by simp [h, hi], he.trans (s.slot_freeSlot_other h)⟩
    · exact .inr hc

/-- A slot that counts stands in the table. -/
theorem State.mem_slots_of_counts {i : Nat} (h : (s.slot i).counts = true) : (i, s.slot i) ∈ s.ks.slots := by
  unfold State.slot tgetD at h ⊢
  cases hg : tget s.ks.slots i with
  | none => rw [hg] at h; cases h
  | some x => exact mem_of_tget hg

/-- The tenant whose slots are freed is left with none that counts. -/
theorem State.freeSlotsOf_counts {n : Nat} (i : Nat) (hi : ((s.freeSlotsOf n).slot i).inst = n) :
    ((s.freeSlotsOf n).slot i).counts = false := by
  rcases slot_foldl_freeSlot i _ s with ⟨hk, he⟩ | hc
  · have he : (s.freeSlotsOf n).slot i = s.slot i := he
    rw [he] at hi ⊢
    by_contra hc
    have hc := (Bool.not_eq_false _).mp hc
    refine hk (List.mem_map.2 ⟨_, List.mem_filter.2 ⟨s.mem_slots_of_counts hc, ?_⟩, rfl⟩)
    unfold Slot.counts at hc
    cases hs : (s.slot i).state <;> simp_all
  · exact hc

/-! ### The wipe (R558) -/

theorem State.dropEntries_ks (k : Nat) (gone : CacheEntry → Bool) : (s.dropEntries k gone).ks = s.ks := by
  obtain ⟨-, -, -, -, -, -, h, -⟩ := unseen_dropEntries s k gone
  exact h

theorem State.dropAllEntries_ks (gone : Engine → CacheEntry → Bool) : (s.dropAllEntries gone).ks = s.ks := by
  obtain ⟨-, -, -, -, -, -, h, -⟩ := unseen_foldl _ (fun s (e : Nat × Engine) => unseen_dropEntries s e.1 (gone e.2)) s.engines s
  exact h

theorem State.retireEntries_ks (holds : Engine → Bool) (hit : CacheEntry → Bool) :
    (s.retireEntries holds hit).ks = s.ks := s.dropAllEntries_ks _

theorem State.checkLows_ks : s.checkLows.ks = s.ks := (lowChecked_checkLows s).traffic.ks

/-- Nothing of tenant `n` is left: no slot that counts, no sealed copy, no digest context, and a wrapping key drawn
anew that has saved no context. -/
def State.wiped (n : Nat) (t : State) : Prop :=
  (∀ k, (t.slot k).inst = n → (t.slot k).counts = false) ∧ (∀ c ∈ t.parts.sealed, c.inst ≠ n) ∧
    (∀ e ∈ t.digests, e.1 / 16384 ≠ n) ∧ (t.inst n).wrapCount = 0 ∧
    ∃ k, (t.inst n).wrapKey = (List.range 32).map fun i => Config.freeByte (k + i)

/-- What keeps the key store, the partitions, the contexts and the wrapping key keeps a tenant wiped. -/
theorem State.wiped.of_kept {n : Nat} {s t : State} (h : s.wiped n) (hks : t.ks = s.ks) (hparts : t.parts = s.parts)
    (hdigests : t.digests = s.digests) (hcount : (t.inst n).wrapCount = (s.inst n).wrapCount)
    (hkey : (t.inst n).wrapKey = (s.inst n).wrapKey) : t.wiped n := by
  unfold State.wiped State.slot at h ⊢
  rwa [hks, hparts, hdigests, hcount, hkey]

theorem State.wipeInstance_ks (n : Nat) : (s.wipeInstance n).ks = (s.freeSlotsOf n).ks := by
  unfold State.wipeInstance
  extract_lets s1 s2 s3 s4
  rw [State.setInst_ks]
  exact (State.checkLows_ks _).trans (State.retireEntries_ks s1 _ _)

theorem State.wipeInstance_wiped (n : Nat) : (s.wipeInstance n).wiped n := by
  have hslot : ∀ k, (s.wipeInstance n).slot k = (s.freeSlotsOf n).slot k := fun k => by
    unfold State.slot; rw [s.wipeInstance_ks]
  refine ⟨fun k => ?_, fun c hc => ?_, fun e he => ?_, ?_⟩
  · rw [hslot]
    exact s.freeSlotsOf_counts k
  · exact bne_iff_ne.1 (List.mem_filter.1 hc).2
  · exact bne_iff_ne.1 (List.mem_filter.1 he).2
  · unfold State.wipeInstance
    extract_lets
    rw [State.inst_setInst_same]
    exact ⟨rfl, _, rfl⟩

/-! ### The resets that wipe (R557, R559) -/

theorem State.resetInstance_wiped (n : Nat) (after : InstState) (tell : Bool) :
    (s.resetInstance n after tell).wiped n := by
  have h := (s.resetQueues n).wipeInstance_wiped n
  unfold State.resetInstance
  generalize (s.resetQueues n).wipeInstance n = u at h ⊢
  exact h.of_kept rfl rfl rfl ((congrArg Instance.wrapCount (u.inst_setInst_same n _)).trans rfl)
    ((congrArg Instance.wrapKey (u.inst_setInst_same n _)).trans rfl)

theorem State.functionReset_wiped {n : Nat} (hs : (s.inst n).state ≠ .absent) :
    (s.functionReset n).wiped n := by
  unfold State.functionReset
  dsimp only
  split
  · contradiction
  all_goals exact State.resetInstance_wiped _ _ _ _

variable {s}

theorem functionLevelReset_wipes {n : Nat} (h1 : 1 ≤ n) (h2 : n ≤ 128) (hs : (s.inst n).state ≠ .absent) :
    answers (.functionLevelReset n) s (State.wiped n) :=
  ⟨_, (if_neg (by omega) : execFunctionLevelReset n s = _), s.functionReset_wiped hs⟩

theorem instanceReset_wipes {n j : Nat} {b : Job} (h1 : 1 ≤ n) (h2 : n ≤ 128) (hs : (s.inst n).state ≠ .absent)
    (h : runsMp s j b opINSTANCE_RESET) (hn : b.target = n) (hf : tlvNat b.params 0x0136 0 ≤ 1)
    (hr : b.noRoom (tlvLen 4) = false) (hm : b.mayReset (s.inst n) = true) :
    answers (.instanceReset j) s (State.wiped n) := by
  subst hn
  have hrun : execInstanceReset j s = _ := runMp_runs _ h
  dsimp only at hrun
  rw [if_neg (by simp [hr]), if_neg (by omega), if_neg hs, if_neg (by simp [hm])] at hrun
  refine ⟨_, hrun, ?_⟩
  have hinst : ∀ (u : State) (e : Ending), (u.endJob j e).inst b.target = u.inst b.target := fun u e => by
    unfold State.inst; rw [u.endJob_insts]
  generalize ((s.endQuiesce b.target false (failed stABORTED)).endQuiesce b.target true (failed stABORTED)) = u
  have h := u.resetInstance_wiped b.target .active false
  generalize u.resetInstance b.target .active false = w at h ⊢
  exact (h.of_kept (t := w.bump aIN_RESET_CNT b.target) rfl rfl rfl rfl rfl).of_kept (State.endJob_ks _ _ _) (State.endJob_parts _ _ _)
    (State.endJob_digests _ _ _) (congrArg Instance.wrapCount (hinst _ _)) (congrArg Instance.wrapKey (hinst _ _))

/-- Settles O30: both resets wipe the tenant, and change nothing of what the wipe leaves. -/
theorem instanceWipeLeavesNothing : Obligations.InstanceWipeLeavesNothing := by
  unfold Obligations.InstanceWipeLeavesNothing
  intro s n wiped h1 h2 hs
  exact ⟨functionLevelReset_wipes h1 h2 hs, fun j b h hn hf hr hm => instanceReset_wipes h1 h2 hs h hn hf hr hm⟩

end Sys2Proof.Machine
end

section
/-! SUPPORT. What the key commands read and how they run: the reads of the key store, the approval of a command's own
keys, the records sent to the partner, and the making of a slot (R446, R451, R573). -/

namespace Sys2Proof.Machine

variable {s t u : State}

/-! ### Reads of the key store -/

theorem State.slot_of_ks (h : t.ks = s.ks) (n : Nat) : t.slot n = s.slot n := by unfold State.slot; rw [h]

theorem State.handleOf_of_ks (h : t.ks = s.ks) (n : Nat) : t.handleOf n = s.handleOf n := by
  unfold State.handleOf State.slot; rw [h]

theorem State.nodeValue_of_ks (h : t.ks = s.ks) : ∀ f node, t.nodeValue f node = s.nodeValue f node
  | 0, _ => rfl
  | f + 1, node => by
    unfold State.nodeValue
    rw [h]
    simp only [State.nodeValue_of_ks h f]

/-! ### States that a creation cannot tell apart -/

/-- Two states with one key store, one set of registers and one state of the pair. -/
structure KeysAlike (s t : State) : Prop where
  ks : t.ks = s.ks
  regs : t.regs = s.regs
  tw : t.tw = s.tw

theorem KeysAlike.trans (h : KeysAlike s t) (g : KeysAlike t u) : KeysAlike s u :=
  ⟨g.ks.trans h.ks, g.regs.trans h.regs, g.tw.trans h.tw⟩

theorem keysAlike_onJob (s : State) (j : Nat) (f : Job → Job) : KeysAlike s (s.onJob j f) := by
  obtain ⟨jobs, h⟩ := s.onJob_eq j f
  rw [h]
  exact ⟨rfl, rfl, rfl⟩

theorem KeysAlike.mirrorFor (h : KeysAlike s t) (b : Job) : t.mirrorFor b = s.mirrorFor b := by
  unfold State.mirrorFor State.mirrorMode
  rw [h.tw]

theorem KeysAlike.keyRoom {b : Job} (h : KeysAlike s t) (hs : keyRoom s b) : keyRoom t b := by
  unfold Machine.keyRoom State.slotsUsed State.slotQuota State.tenantSum State.fld State.reg State.slot at hs ⊢
  rwa [h.ks, h.regs]

theorem KeysAlike.keyMade {j : Nat} {b : Job} {x : Slot} (h : KeysAlike s t) (ht : keyMade t u j b x) : keyMade s u j b x := by
  unfold Machine.keyMade at ht ⊢
  simpa only [State.slot_of_ks h.ks, h.mirrorFor] using ht

/-! ### The run of a command on its keys -/

theorem State.mayCreate_runs {b : Job} (h : ∀ st, s.mirrorFor b ≠ .refuse st) (j : Nat) (f : State → State) :
    s.mayCreate j b f = f s := by
  unfold State.mayCreate
  split
  · rename_i st hst
    exact absurd hst (h st)
  · rfl

/-- A command whose keys were approved, with the slots it holds. -/
def State.holding (s : State) (j : Nat) (ns : List KeyNeed) : State :=
  s.onJob j fun b => { b with approved := ns.map fun n => hSlot n.handle }

theorem State.withKeys_runs {s' : State} {inst : Nat} {ns : List KeyNeed} (h : s.approve inst ns = .ok s') (j : Nat)
    (f : State → State) : s.withKeys j inst ns f = f (s'.holding j ns) := by
  unfold State.withKeys
  rw [h]
  rfl

theorem State.job_holding {s' : State} {inst j : Nat} {ns : List KeyNeed} {b : Job} (h : s.approve inst ns = .ok s')
    (hj : s.job j = some b) : ∃ b', (s'.holding j ns).job j = some b' := by
  obtain ⟨-, rfl⟩ := State.approve_ok h
  exact ⟨_, State.job_onJob_same (s := _) _ (b := b) hj⟩

/-- A command that needs no engine starts. -/
theorem State.job_startDirect {j : Nat} {b : Job} (h : s.job j = some b) : ∃ b', (s.startDirect j).job j = some b' :=
  ⟨_, s.job_onJob_same _ h⟩

/-! ### Records for the partner (R572) -/

theorem PairingTraffic.ks (h : PairingTraffic s t) : t.ks = s.ks := by rw [h]

theorem State.sendRecord_jobs (s : State) (kind : Nat) (body : Bytes) (job : Option Nat) :
    (s.sendRecord kind body job).jobs = s.jobs := by
  have hpaths : ∀ (l : List TwinPath) (n : Nat) (u : State), (l.foldl (fun s p => s.sendFrame p kind n body) u).jobs = u.jobs := by
    intro l n
    induction l with
    | nil => exact fun _ => rfl
    | cons p l ih => exact fun u => ih _
  unfold State.sendRecord
  extract_lets n go r tw u
  split
  · exact hpaths _ n u
  · rfl

/-! ### The slot a creation makes (R451, R573) -/

/-- Where the tenant has room, a creation takes a free slot of its range. -/
theorem State.createSlot_takes {inst lo hi : Nat} (x : Slot) (hq : s.slotsUsed inst < s.slotQuota inst)
    (hr : ∃ n, lo ≤ n ∧ n < hi ∧ (s.slot n).state = .free) :
    ∃ n m, lo ≤ n ∧ n < hi ∧ (s.slot n).state = .free ∧
      s.createSlot inst lo hi x = .ok (n, ({ s with free := m } : State).takeSlot n { x with inst := inst }) := by
  obtain ⟨k, hlo, hhi, hk⟩ := hr
  unfold State.createSlot State.pickSlot
  rw [if_neg (by omega)]
  have hwant : lo + (s.drawNat (hi - lo)).1 < hi := by
    have := Nat.mod_lt (Config.freeNat s.free) (show hi - lo > 0 by omega)
    show lo + Config.freeNat s.free % (hi - lo) < hi
    omega
  dsimp only
  by_cases hf : (s.slot (lo + (s.drawNat (hi - lo)).1)).state = .free
  · rw [if_pos hf]
    exact ⟨_, _, Nat.le_add_right _ _, hwant, hf, rfl⟩
  · rw [if_neg hf]
    cases hs : (List.range (hi - lo)).findSome? fun i => if (s.slot (lo + i)).state = .free then some (lo + i) else none with
    | none =>
      have hnone := List.findSome?_eq_none_iff.1 hs (k - lo) (List.mem_range.2 (by omega))
      rw [Nat.add_sub_cancel' hlo, if_pos hk] at hnone
      cases hnone
    | some n =>
      obtain ⟨i, hi', hn⟩ := List.exists_of_findSome?_eq_some hs
      split at hn
      · rename_i hfree
        obtain rfl := Option.some.inj hn
        exact ⟨_, _, Nat.le_add_right _ _, by have := List.mem_range.1 hi'; omega, hfree, rfl⟩
      · cases hn

/-- A creation with room makes its slot, and its job is over or waits for the partner. -/
theorem State.createKey_makes {j : Nat} {b c : Job} (hj : s.job j = some c) (hr : Machine.keyRoom s b) (x : Slot) :
    Machine.keyMade s (s.createKey j b x) j b x := by
  obtain ⟨hq, k, hk, hfree⟩ := hr
  obtain ⟨n, m, hlo, hhi, hn, hc⟩ := s.createSlot_takes (lo := if b.mirrors then 0xF000 else 0)
    (hi := if b.mirrors then 0x10000 else 0xF000) x hq ⟨k, by split at hk <;> simp_all, by split at hk <;> simp_all, hfree⟩
  have hrange : if b.mirrors then 0xF000 ≤ n ∧ n < 0x10000 else n < 0xF000 := by split <;> simp_all
  unfold State.createKey
  rw [hc]
  dsimp only
  have huj : (({ s with free := m } : State).takeSlot n { x with inst := b.inst }).job j = some c := hj
  have hslot : (({ s with free := m } : State).takeSlot n { x with inst := b.inst }).slot n = { x with
      inst := b.inst, gen := nextGen (s.slot n).gen, filledGen := nextGen (s.slot n).gen } := State.slot_setSlot_same _ _ _
  have hmirror : (({ s with free := m } : State).takeSlot n { x with inst := b.inst }).mirrorFor b = s.mirrorFor b := rfl
  generalize ({ s with free := m } : State).takeSlot n { x with inst := b.inst } = u at huj hslot hmirror ⊢
  rw [hmirror]
  by_cases hsend : s.mirrorFor b = .send
  · rw [hsend]
    dsimp only
    generalize hv : u.onJob j _ = v
    have hvks : v.ks = u.ks := by rw [← hv]; exact (keysAlike_onJob u j _).ks
    have hw : ((v.sendRecord 0x50 (v.slotFill n) (some j)).awaitAck j).ks = u.ks :=
      (keysAlike_onJob _ j _).ks.trans ((pairingTraffic_sendRecord v _ _ _).ks.trans hvks)
    refine ⟨n, hrange, hn, (State.slot_of_ks hw n).trans hslot, ?_⟩
    have hvj : (v.sendRecord 0x50 (v.slotFill n) (some j)).job j = some { c with
        phase := .running, after := some (done [⟨0x00B8, leBytes (u.handleOf n) 8⟩]) } := by
      rw [job_of_jobs (v.sendRecord_jobs _ _ _), ← hv]
      exact u.job_onJob_same _ huj
    rw [if_pos hsend, State.handleOf_of_ks hw]
    exact ⟨_, _, State.job_onJob_same _ _ hvj, rfl, rfl⟩
  · have hks : (u.endJob j (done [⟨0x00B8, leBytes (u.handleOf n) 8⟩])).ks = u.ks := u.endJob_ks _ _
    have hkeep : Machine.keyMade s (u.endJob j (done [⟨0x00B8, leBytes (u.handleOf n) 8⟩])) j b x := by
      refine ⟨n, hrange, hn, (State.slot_of_ks hks n).trans hslot, ?_⟩
      rw [if_neg hsend, State.handleOf_of_ks hks]
      exact endedWith_endJob _ huj
    cases hm : s.mirrorFor b with
    | send => exact absurd hm hsend
    | here => exact hkeep
    | refuse _ => exact hkeep

/-- A meaning that begins when its command starts, and leaves the jobs and the surface, ends its job quietly. -/
theorem endsQuietly_startDirect {j : Nat} {b : Job} (e : Ending) (h : s.job j = some b) (ht : Unseen (s.startDirect j) t) :
    endsQuietly s (t.endJob j e) j e := by
  obtain ⟨hjobs, hsurface⟩ := ht
  obtain ⟨b', hb'⟩ := State.job_startDirect h
  refine ⟨endedWith_endJob e ((job_of_jobs hjobs j).trans hb'), fun i hi => ?_, ?_⟩
  · rw [State.job_endJob_other _ _ hi, job_of_jobs hjobs]
    exact State.job_onJob_other (s := s) _ hi
  · have hfirst : surfaceKept s t := by
      obtain ⟨jobs, hs⟩ := s.onJob_eq j fun b => { b with started := true, start := s.tb.stamp, startUp := s.now }
      unfold State.startDirect at hsurface
      rwa [hs] at hsurface
    simpa only [surfaceKept, State.endJob_regs, State.endJob_shadow, State.endJob_cfg, State.endJob_tb,
      State.endJob_pairs, State.endJob_ks, State.endJob_insts, State.endJob_outbox, State.endJob_pending] using hfirst

/-! ### KEY_DERIVE (R448 to R450) -/

/-- A child of an approved parent (R448). -/
theorem keyDerive_makes {j : Nat} {b : Job} {s' : State} (h : runsDirect s j b opKEY_DERIVE) (hact : b.action = 0)
    (hcap : tlvLen 8 ≤ b.resultCap) (htlvs : b.deriveTlvs [0x00B2, 0x00B4, 0x00B5, 0x00B6] [0x00B3, 0x00B7, 0x00C6] = true)
    (hnew : b.newBad = false) (hlabel : 1 ≤ (b.val 0x00B2).length) (hlabel' : (b.val 0x00B2).length ≤ 64)
    (hctx : (b.val 0x00B3).length ≤ 72) (hlevel : (s.slot (hSlot b.handle)).level < 8)
    (hpair : ∀ st, s.mirrorFor b ≠ .refuse st)
    (happ : (s.startDirect j).approve b.inst [b.keyNeed [0x01] [0, 23] none] = .ok s') (hroom : Machine.keyRoom s' b) :
    answers (.keyDerive j) s fun t =>
      Machine.keyMade s' t j b { b.newSlot (kdf (s'.slot (hSlot b.handle)).val (b.val 0x00B3) (b.val 0x00B2)
        (tlvNat b.params 0x00B5 0)) ((s'.slot (hSlot b.handle)).level + 1) 2 with
          parent := some (hSlot b.handle, (s'.slot (hSlot b.handle)).gen) } := by
  refine ⟨_, (runDirect_runs _ h : execKeyDerive j s = .next _), ?_⟩
  obtain ⟨b₁, hb₁⟩ := State.job_startDirect h.1
  obtain ⟨b₂, hb₂⟩ := State.job_holding happ hb₁
  have hstart : KeysAlike s (s.startDirect j) := keysAlike_onJob s j _
  have hheld : KeysAlike s' (s'.holding j [b.keyNeed [0x01] [0, 23] none]) := keysAlike_onJob s' j _
  have hwf : ¬((!b.deriveTlvs [0x00B2, 0x00B4, 0x00B5, 0x00B6] [0x00B3, 0x00B7, 0x00C6]) = true ∨ b.newBad = true
      ∨ (b.val 0x00B2).length = 0 ∨ (b.val 0x00B2).length > 64 ∨ (b.val 0x00B3).length > 72) := by
    rw [htlvs, hnew]
    simp only [Bool.not_true, Bool.false_eq_true, false_or]
    omega
  dsimp only
  rw [if_pos hact]
  unfold deriveChild
  dsimp only
  rw [if_neg (by omega), if_neg hwf, if_neg (fun hc => by rw [State.slot_of_ks hstart.ks] at hc; omega),
    State.mayCreate_runs (fun st => by rw [hstart.mirrorFor]; exact hpair st), State.withKeys_runs happ]
  rw [State.slot_of_ks hheld.ks]
  exact hheld.keyMade (State.createKey_makes hb₂ (hheld.keyRoom hroom) _)

/-- INSTANTIATE passes its checks (R449). -/
theorem keyInstantiate_runs {j node : Nat} {b : Job} {d : Node} (h : runsDirect s j b opKEY_DERIVE) (hact : b.action = 1)
    (hcap : tlvLen 8 ≤ b.resultCap) (htlvs : b.deriveTlvs [0x00B1] [] = true) (hhandle : b.handle = 0)
    (hnode : node = tlvNat b.params 0x00B1 0) (hd : tget s.ks.nodes node = some d)
    (howner : d.owner = b.inst ∨ d.owner = 0xFF) :
    execKeyInstantiate j s = .next (match s.instantiated b.inst node with
      | some n => (s.startDirect j).endJob j (done [⟨0x00B8, leBytes (s.handleOf n) 8⟩])
      | none => (s.startDirect j).createKey j b
          { state := .loaded, type := d.type, pset := d.pset, val := s.nodeValue 9 node, policy := d.policy,
            uses := if d.useLimit = 0 then none else some d.useLimit, level := d.level,
            origin := if d.kind = 2 then 6 else 5, node := some node }) := by
  have hstart : KeysAlike s (s.startDirect j) := keysAlike_onJob s j _
  have hwf : ¬((!b.deriveTlvs [0x00B1] []) = true ∨ b.handle ≠ 0) := by
    rw [htlvs]
    simp [hhandle]
  have hown : ¬(d.owner ≠ b.inst ∧ d.owner ≠ 0xFF) := by tauto
  have hfind : (s.startDirect j).instantiated b.inst node = s.instantiated b.inst node := by
    unfold State.instantiated
    rw [hstart.ks]
  refine (runDirect_runs _ h).trans ?_
  rw [if_pos hact]
  unfold instantiate
  rw [if_neg (by omega), if_neg hwf, ← hnode, hstart.ks, hd]
  dsimp only
  rw [if_neg hown, hfind, State.nodeValue_of_ks hstart.ks]
  cases s.instantiated b.inst node with
  | none => rfl
  | some n => dsimp only; rw [State.handleOf_of_ks hstart.ks]

/-- A reserved slot (R450). -/
theorem keyReserve_makes {j type : Nat} {b : Job} (h : runsDirect s j b opKEY_DERIVE) (hact : b.action = 2)
    (hcap : tlvLen 8 ≤ b.resultCap) (htlvs : b.deriveTlvs [0x00B4] [] = true) (hhandle : b.handle = 0)
    (htype : type = tlvNat b.params 0x00B4 0) (hkind : type = 0x01 ∨ type = 0x1A) (hroom : Machine.keyRoom s b) :
    answers (.keyReserve j) s fun t => Machine.keyMade s t j b { state := .empty, type := type } := by
  refine ⟨_, (runDirect_runs _ h : execKeyReserve j s = .next _), ?_⟩
  obtain ⟨b₁, hb₁⟩ := State.job_startDirect h.1
  have hstart : KeysAlike s (s.startDirect j) := keysAlike_onJob s j _
  have hwf : ¬((!b.deriveTlvs [0x00B4] []) = true ∨ b.handle ≠ 0 ∨ (type ≠ 0x01 ∧ type ≠ 0x1A)) := by
    rw [htlvs]
    simp only [Bool.not_true, Bool.false_eq_true, false_or]
    omega
  rw [if_pos hact]
  unfold reserveSlot
  rw [if_neg (by omega), ← htype, if_neg hwf]
  exact hstart.keyMade (State.createKey_makes hb₁ (hstart.keyRoom hroom) _)

/-! ### KEY_GENERATE and KEY_IMPORT_WRAPPED (R451) -/

/-- A generated key: as many fresh random bytes as asked. -/
theorem keyGenerate_makes {j : Nat} {b : Job} (h : runsMp s j b opKEY_GENERATE) (hcap : b.noRoom (tlvLen 8) = false)
    (hnew : b.newBad = false) (hpair : ∀ st, s.mirrorFor b ≠ .refuse st) (hcover : s.drbgCover 1 ≠ 0)
    (hroom : Machine.keyRoom s b) : answers (.keyGenerate j) s fun t =>
      ∃ v : Bytes, v.length = tlvNat b.params 0x00B5 0 ∧ Machine.keyMade s t j b (b.newSlot v 1 1) := by
  refine ⟨_, (runMp_runs _ h : execKeyGenerate j s = .next _), ?_⟩
  dsimp only
  rw [if_neg (by rw [hcap]; decide), if_neg (by rw [hnew]; decide), State.mayCreate_runs hpair, if_neg hcover]
  refine ⟨_, State.drawBytes_length (s.generate 1 1).2 _, ?_⟩
  obtain ⟨rng, cnts, hg⟩ := State.generate_eq s 1 1
  have hdrawn : KeysAlike s ((s.generate 1 1).2.drawBytes (tlvNat b.params 0x00B5 0)).2 := by
    rw [hg]
    exact ⟨rfl, rfl, rfl⟩
  have hj : ((s.generate 1 1).2.drawBytes (tlvNat b.params 0x00B5 0)).2.job j = some b := by
    rw [hg]
    exact h.1
  have hall := hdrawn.trans (keysAlike_onJob _ j fun c => { c with drbgOnly := c.drbgOnly || (s.generate 1 1).1, wait := .no })
  exact hall.keyMade (State.createKey_makes (State.job_onJob_same _ _ hj) (hall.keyRoom hroom) _)

/-- An imported key: what its wrapping holds. -/
theorem keyImportWrapped_answers {j : Nat} {b : Job} {s' : State} (h : runsMp s j b opKEY_IMPORT_WRAPPED)
    (hcap : b.noRoom (tlvLen 8) = false) (hnew : b.newBad = false) (hlen : 24 ≤ (b.val 0x00B9).length)
    (hlen' : (b.val 0x00B9).length ≤ 72) (halg : tlvNat b.params 0x00BA 0 = 1 ∨ tlvNat b.params 0x00BA 0 = 2)
    (hpair : ∀ st, s.mirrorFor b ≠ .refuse st) (happ : s.approve b.inst [b.keyNeed [0x06] [8] none] = .ok s')
    (hroom : Machine.keyRoom s' b) : answers (.keyImportWrapped j) s fun t =>
      match (if tlvNat b.params 0x00BA 0 = 1 then
          (if (b.val 0x00B9).length % 8 = 0 then aesUnwrap (s'.slot (hSlot b.handle)).val (b.val 0x00B9) else none)
          else aesUnwrapPad (s'.slot (hSlot b.handle)).val (b.val 0x00B9)) with
      | none => endedWith t j (failed stINPUT_ENCODING)
      | some v =>
        if v.length ≠ tlvNat b.params 0x00B5 0 then endedWith t j (failed stINPUT_ENCODING)
        else if tlvNat b.params 0x00B4 0 = 0x20 ∧ scalarBad v = true then endedWith t j (failed stINPUT_RANGE)
        else Machine.keyMade s' t j b (b.newSlot v 1 4) := by
  obtain ⟨b₁, hb₁⟩ := State.job_holding happ h.1
  have hheld : KeysAlike s' (s'.holding j [b.keyNeed [0x06] [8] none]) := keysAlike_onJob s' j _
  have hwf : ¬(b.newBad = true ∨ (b.val 0x00B9).length < 24 ∨ (b.val 0x00B9).length > 72 ∨ tlvNat b.params 0x00BA 0 = 0
      ∨ tlvNat b.params 0x00BA 0 > 2) := by
    rw [hnew]
    simp only [Bool.false_eq_true, false_or]
    omega
  refine ⟨_, (runMp_runs _ h : execKeyImportWrapped j s = .next _), ?_⟩
  dsimp only
  rw [if_neg (show ¬b.noRoom (tlvLen 8) = true by rw [hcap]; decide), if_neg hwf, State.mayCreate_runs hpair, State.withKeys_runs happ,
    State.slot_of_ks hheld.ks]
  generalize (if tlvNat b.params 0x00BA 0 = 1 then _ else _ : Option Bytes) = unwrapped
  cases unwrapped with
  | none => exact endedWith_endJob _ hb₁
  | some v =>
    dsimp only
    split
    · exact endedWith_endJob _ hb₁
    · split
      · exact endedWith_endJob _ hb₁
      · exact hheld.keyMade (State.createKey_makes hb₁ (hheld.keyRoom hroom) _)

/-- Settles O22: each command passes its checks, and what it creates is made by `State.createKey_makes`. -/
theorem keyCreation : Obligations.KeyCreation := by
  unfold Obligations.KeyCreation
  intro s j b
  refine ⟨fun s' => keyDerive_makes, fun node d h hact hcap htlvs hhandle hnode hd howner => ?_, fun type => keyReserve_makes,
    keyGenerate_makes, fun s' => keyImportWrapped_answers⟩
  have hrun := keyInstantiate_runs h hact hcap htlvs hhandle hnode hd howner
  have hstart : KeysAlike s (s.startDirect j) := keysAlike_onJob s j _
  refine ⟨fun n hn => ⟨_, hrun, ?_⟩, fun hnone hroom => ⟨_, hrun, ?_⟩⟩
  · rw [hn]
    exact endsQuietly_startDirect _ h.1 (Unseen.refl _)
  · obtain ⟨b₁, hb₁⟩ := State.job_startDirect h.1
    rw [hnone]
    exact hstart.keyMade (State.createKey_makes hb₁ (hstart.keyRoom hroom) _)

end Sys2Proof.Machine
end

section
/-! SUPPORT. The invalidation of keys (R464, R465): what it leaves of a key and of its descendants, how a command waits
for the scan, and what the scan's end does with the slots and the jobs that waited. -/

namespace Sys2Proof.Machine

variable {s t : State}

/-! ### Jobs that stand -/

/-- Every job of `s` still stands in `t`, though it may have changed. -/
def jobsStand (s t : State) : Prop := ∀ j b, s.job j = some b → ∃ b', t.job j = some b'

theorem jobsStand.trans {u : State} (h : jobsStand s t) (g : jobsStand t u) : jobsStand s u := fun j b hj => by
  obtain ⟨b', hb'⟩ := h j b hj
  exact g j b' hb'

theorem jobsStand_of_jobs (h : t.jobs = s.jobs) : jobsStand s t := fun j b hj => ⟨b, (job_of_jobs h j).trans hj⟩

theorem jobsStand_foldl {α : Type} (f : State → α → State) (hf : ∀ s a, jobsStand s (f s a)) :
    ∀ (l : List α) (s : State), jobsStand s (l.foldl f s)
  | [], _ => jobsStand_of_jobs rfl
  | a :: l, s => (hf s a).trans (jobsStand_foldl f hf l _)

/-! ### The invalidation of one key (R464, R467) -/

theorem State.staleSlot_ks (h : t.ks = s.ks) (n : Nat) : (t.staleSlot n).ks = (s.staleSlot n).ks := by
  unfold State.staleSlot State.setSlot State.slot
  rw [h]

/-- A slot made STALE: no state but STALE, no value but zeros, and a new generation. -/
theorem State.slot_staleSlot_same (s : State) (n : Nat) : (s.staleSlot n).slot n = { s.slot n with
    state := .stale, val := (s.slot n).val.map fun _ => 0, gen := nextGen (s.slot n).gen } := s.slot_setSlot_same _ _

theorem State.slot_staleSlot_other {k n : Nat} (h : k ≠ n) : (s.staleSlot n).slot k = s.slot k :=
  s.slot_setSlot_other _ h

theorem State.revokeUsers_ks (s : State) (n : Nat) : (s.revokeUsers n).ks = s.ks :=
  State.retireEntries_ks (s.onJobs _) _ _

theorem State.revokeUsers_jobs (s : State) (n : Nat) : ∃ f, (s.revokeUsers n).jobs = (s.onJobs f).jobs :=
  ⟨_, (unseen_foldl _ (fun s (e : Nat × Engine) => unseen_dropEntries s e.1 _) _ _).1⟩

theorem State.revokeUsers_stand (s : State) (n : Nat) : jobsStand s (s.revokeUsers n) := fun j b hj => by
  obtain ⟨f, hf⟩ := s.revokeUsers_jobs n
  exact ⟨f b, by rw [job_of_jobs hf, State.job_onJobs, hj]; rfl⟩

/-- The sealed copies and peer entries of slots lie in the partitions. -/
theorem State.dropCopies_eq (s : State) (ns : List Nat) : ∃ parts, s.dropCopies ns = { s with parts := parts } := by
  have hpeers : ∀ (l : List Nat) (u : State), ∃ parts, l.foldl State.freePeerOf u = { u with parts := parts } := by
    intro l
    induction l with
    | nil => exact fun u => ⟨u.parts, rfl⟩
    | cons n l ih => exact fun u => ih (u.freePeerOf n)
  exact hpeers ns _

theorem State.dropCopies_ks (s : State) (ns : List Nat) : (s.dropCopies ns).ks = s.ks := by
  obtain ⟨parts, h⟩ := s.dropCopies_eq ns
  rw [h]

theorem State.dropCopies_jobs (s : State) (ns : List Nat) : (s.dropCopies ns).jobs = s.jobs := by
  obtain ⟨parts, h⟩ := s.dropCopies_eq ns
  rw [h]

/-- What an invalidation leaves of the key store: the slot is STALE and the roots of the next scan hold it. -/
theorem State.invalidateKey_ks (s : State) (n : Nat) :
    (s.invalidateKey n).ks = { (s.staleSlot n).ks with scanOf := s.ks.scanOf ++ [n] } := by
  have h := s.revokeUsers_ks n
  refine (State.dropCopies_ks _ _).trans ?_
  unfold State.invalidate
  rw [← h, ← State.staleSlot_ks h]
  rfl

theorem State.invalidateKey_stand (s : State) (n : Nat) : jobsStand s (s.invalidateKey n) :=
  (s.revokeUsers_stand n).trans (jobsStand_of_jobs (State.dropCopies_jobs _ _))

/-- An invalidated key is STALE, its value is zeroed, and its descendants are due for the scan. -/
theorem State.invalidateKey_stale (s : State) (n : Nat) : ((s.invalidateKey n).slot n).state = .stale ∧
    (∀ v ∈ ((s.invalidateKey n).slot n).val, v = 0) ∧ n ∈ (s.invalidateKey n).ks.scanOf := by
  have hslot : (s.invalidateKey n).slot n = (s.staleSlot n).slot n := by
    unfold State.slot
    rw [s.invalidateKey_ks]
  rw [hslot, s.slot_staleSlot_same, s.invalidateKey_ks]
  refine ⟨rfl, fun v hv => ?_, List.mem_append_right _ (List.mem_singleton.2 rfl)⟩
  obtain ⟨_, -, rfl⟩ := List.mem_map.1 hv
  rfl

/-! ### The partner, and the wait for the scan (R464, R572) -/

theorem State.sendRecord_ks (s : State) (kind : Nat) (body : Bytes) (job : Option Nat) :
    (s.sendRecord kind body job).ks = s.ks := (pairingTraffic_sendRecord s kind body job).ks

theorem State.sendInvalidate_ks (s : State) (h scope : Nat) (job : Option Nat) :
    (s.sendInvalidate h scope job).ks = s.ks := by
  unfold State.sendInvalidate
  split
  · exact s.sendRecord_ks _ _ _
  · rfl

theorem State.sendInvalidate_jobs (s : State) (h scope : Nat) (job : Option Nat) :
    (s.sendInvalidate h scope job).jobs = s.jobs := by
  unfold State.sendInvalidate
  split
  · exact s.sendRecord_jobs _ _ _
  · rfl

/-- Where no record goes to a partner, sending does nothing. -/
theorem State.sendInvalidate_alone (hm : s.mirrorsSlots = false) (h scope : Nat) (job : Option Nat) :
    s.sendInvalidate h scope job = s := by
  unfold State.sendInvalidate
  rw [hm]
  exact if_neg (by simp)

/-- Slot `n` was made STALE and zeroed, its descendants are due for the scan, and job `j` waits for that. -/
def awaitsScan (t : State) (n j : Nat) : Prop :=
  (t.slot n).state = .stale ∧ (∀ v ∈ (t.slot n).val, v = 0) ∧ n ∈ t.ks.scanOf ∧
    ∃ b', t.job j = some b' ∧ b'.wait = .scan ∧ b'.after = some (done [])

/-- A command that has invalidated its key waits for the scan. -/
theorem State.invalidateKey_awaitsScan {j : Nat} {b : Job} (hj : s.job j = some b) (n h scope : Nat) :
    awaitsScan (((s.invalidateKey n).sendInvalidate h scope (some j)).awaitScan j) n j := by
  obtain ⟨hstale, hzero, hscan⟩ := s.invalidateKey_stale n
  obtain ⟨b', hb'⟩ := s.invalidateKey_stand n j b hj
  generalize s.invalidateKey n = u at hstale hzero hscan hb' ⊢
  have hks : ((u.sendInvalidate h scope (some j)).awaitScan j).ks = u.ks :=
    (State.onJob_ks _ j _).trans (u.sendInvalidate_ks _ _ _)
  have hb'' : (u.sendInvalidate h scope (some j)).job j = some b' := (job_of_jobs (u.sendInvalidate_jobs _ _ _) j).trans hb'
  unfold awaitsScan
  rw [State.slot_of_ks hks, hks]
  exact ⟨hstale, hzero, hscan, _, State.job_onJob_same _ _ hb'', rfl, rfl⟩

/-! ### KEY_INVALIDATE and KEY_RELEASE (R464 to R466) -/

theorem KeysAlike.ownedBy (h : KeysAlike s t) (inst hd : Nat) : t.ownedBy inst hd = s.ownedBy inst hd := by
  unfold State.ownedBy State.checkOk
  rw [State.slot_of_ks h.ks, h.ks]

theorem KeysAlike.handleStale (h : KeysAlike s t) (hd : Nat) : t.handleStale hd = s.handleStale hd := by
  unfold State.handleStale
  rw [State.slot_of_ks h.ks]
  simp only [State.ancestorsOk_ks h.ks]

theorem KeysAlike.mirrorOf (h : KeysAlike s t) (hd : Nat) : t.mirrorOf hd = s.mirrorOf hd := by
  unfold State.mirrorOf State.mirrorMode
  rw [h.tw]

theorem KeysAlike.mirrorsSlots (h : KeysAlike s t) : t.mirrorsSlots = s.mirrorsSlots := by
  unfold State.mirrorsSlots
  rw [h.tw]

/-- A key that the issuer may remove, where no partner refuses it, passes the checks. -/
theorem State.invalidateGuard_runs {b : Job} (hscope : b.scope ≤ 1) (hinst : b.has 0x0004 = true → b.inst = 0)
    (hown : s.ownedBy b.targetInst b.handle = true) (hpair : ∀ st, s.mirrorOf b.handle ≠ .refuse st) (j : Nat)
    (f : State → State) : s.invalidateGuard j b f = f s := by
  unfold State.invalidateGuard
  rw [if_neg (by omega), if_neg (fun h => h.2 (hinst h.1)), if_neg (by rw [hown]; decide)]
  split
  · rename_i st hst
    exact absurd hst (hpair st)
  · rfl

/-- What a KEY_INVALIDATE that passes its checks runs on: its job has started, and it is counted. -/
def State.invalidating (s : State) (j : Nat) : State := ((s.startDirect j).bump aKS_INVAL_CNT 0).bump aKS_APPROVALS 0

theorem keysAlike_invalidating (s : State) (j : Nat) : KeysAlike s (s.invalidating j) := by
  unfold State.invalidating State.startDirect
  obtain ⟨jobs, h⟩ := s.onJob_eq j fun b => { b with started := true, start := s.tb.stamp, startUp := s.now }
  rw [h]
  exact ⟨rfl, rfl, rfl⟩

/-- The job of an invalidation has started. -/
def Job.startedAt (b : Job) (s : State) : Job := { b with started := true, start := s.tb.stamp, startUp := s.now }

theorem State.job_invalidating {j : Nat} {b : Job} (h : s.job j = some b) : (s.invalidating j).job j = some (b.startedAt s) :=
  s.job_onJob_same _ h

/-- A job that tells the partner and then waits for the scan. -/
theorem State.job_sentAndWaits {j : Nat} {b : Job} (hj : s.job j = some b) (h scope : Nat) :
    ((s.sendInvalidate h scope (some j)).awaitScan j).job j =
      some { b with phase := .running, wait := .scan, after := some (done []) } :=
  State.job_onJob_same _ _ ((job_of_jobs (s.sendInvalidate_jobs _ _ _) j).trans hj)

theorem State.sentAndWaits_ks (s : State) (j h scope : Nat) :
    ((s.sendInvalidate h scope (some j)).awaitScan j).ks = s.ks :=
  (State.onJob_ks _ j _).trans (s.sendInvalidate_ks _ _ _)

/-- The slot of a release whose scan has ended is freed. -/
def State.releaseSlot (s : State) (b : Job) : State :=
  if b.scope = 1 ∧ (s.slot (hSlot b.handle)).state = .stale ∧ (s.slot (hSlot b.handle)).inst = b.targetInst then
    s.freeSlot (hSlot b.handle) else s

theorem State.releaseSlot_cases (s : State) (b : Job) :
    s.releaseSlot b = s ∨ s.releaseSlot b = s.freeSlot (hSlot b.handle) := by
  unfold State.releaseSlot
  split
  · exact .inr rfl
  · exact .inl rfl

theorem State.releaseSlot_alike (s : State) (b : Job) : (s.releaseSlot b).jobs = s.jobs ∧ (s.releaseSlot b).tw = s.tw ∧
    (s.releaseSlot b).ks.scanOf = s.ks.scanOf := by
  rcases s.releaseSlot_cases b with h | h
  · rw [h]
    exact ⟨rfl, rfl, rfl⟩
  · rw [h]
    exact ⟨rfl, rfl, rfl⟩

/-- The end of a job's wait for the scan: its release, and its end or its wait for the partner. -/
theorem State.scanned_eq {j : Nat} {b : Job} (hj : s.job j = some b) :
    s.scanned j = if (s.tw.queue.any fun r => r.job == some j) = true then (s.releaseSlot b).awaitAck j
      else (s.releaseSlot b).endJob j (done []) := by
  obtain ⟨-, htw, -⟩ := s.releaseSlot_alike b
  rw [← htw]
  unfold State.scanned
  rw [hj]
  rfl

theorem State.scanned_onJob {j : Nat} {b : Job} (hj : s.job j = some b) :
    ∃ g : Job → Job, (∀ c, (g c).wait ≠ .scan) ∧ s.scanned j = (s.releaseSlot b).onJob j g := by
  rw [State.scanned_eq hj]
  split
  · exact ⟨_, fun c => by simp, rfl⟩
  · exact ⟨_, fun c => by simp, rfl⟩

/-- A release whose scan has ended frees its slot. -/
theorem State.scanned_frees {j n : Nat} {b : Job} (hj : s.job j = some b) (hn : hSlot b.handle = n) (hscope : b.scope = 1)
    (hstale : (s.slot n).state = .stale) (hinst : (s.slot n).inst = b.targetInst) :
    ((s.scanned j).slot n).state = .free ∨ ((s.scanned j).slot n).state = .retired := by
  subst hn
  obtain ⟨g, -, he⟩ := State.scanned_onJob hj
  rw [he, State.slot_of_ks (State.onJob_ks _ j g)]
  unfold State.releaseSlot
  rw [if_pos ⟨hscope, hstale, hinst⟩, s.slot_freeSlot_same]
  dsimp only
  split <;> simp

/-- A job of which no record waits for the partner ends when its scan has ended. -/
theorem State.scanned_ends {j : Nat} {b : Job} (hj : s.job j = some b) (hq : ∀ r ∈ s.tw.queue, r.job ≠ some j) :
    endedWith (s.scanned j) j (done []) := by
  obtain ⟨hjobs, -, -⟩ := s.releaseSlot_alike b
  have hnone : ¬(s.tw.queue.any fun r => r.job == some j) = true := by
    rw [List.any_eq_true]
    rintro ⟨r, hr, hrj⟩
    exact hq r hr (beq_iff_eq.1 hrj)
  rw [State.scanned_eq hj, if_neg hnone]
  exact endedWith_endJob _ ((job_of_jobs hjobs j).trans hj)

/-- KEY_INVALIDATE, SCOPE 0. -/
theorem keyInvalidate_answers {j : Nat} {b : Job} (h : runsDirect s j b opKEY_INVALIDATE) (hscope : b.scope = 0)
    (hinst : b.has 0x0004 = true → b.inst = 0) (hown : s.ownedBy b.targetInst b.handle = true)
    (hpair : ∀ st, s.mirrorOf b.handle ≠ .refuse st) : answers (.keyInvalidate j) s fun t =>
      if s.handleStale b.handle then endedWith t j (done []) else awaitsScan t (hSlot b.handle) j := by
  have hstart : KeysAlike s (s.startDirect j) := keysAlike_onJob s j _
  have hj := State.job_invalidating h.1
  have hstale := (keysAlike_invalidating s j).handleStale b.handle
  refine ⟨_, (runDirect_runs _ h : execKeyInvalidate j s = .next _), ?_⟩
  rw [if_neg (by omega), State.invalidateGuard_runs (by omega) hinst (by rw [hstart.ownedBy]; exact hown)
    (fun st => by rw [hstart.mirrorOf]; exact hpair st)]
  unfold State.invalidating at hj hstale
  dsimp only
  rw [hstale]
  split
  · exact endedWith_endJob _ hj
  · exact State.invalidateKey_awaitsScan hj _ _ _

/-- KEY_INVALIDATE, SCOPE 1: a stale key of which no scan is due goes at once. -/
theorem keyRelease_answers {j : Nat} {b : Job} (h : runsDirect s j b opKEY_INVALIDATE) (hscope : b.scope = 1)
    (hinst : b.has 0x0004 = true → b.inst = 0) (hown : s.ownedBy b.targetInst b.handle = true)
    (hpair : ∀ st, s.mirrorOf b.handle ≠ .refuse st) (hfilled : (s.slot (hSlot b.handle)).filledGen ≤ hGen b.handle)
    (hgen : hGen b.handle ≤ (s.slot (hSlot b.handle)).gen) : answers (.keyRelease j) s fun t =>
      if (s.slot (hSlot b.handle)).state ≠ .stale then awaitsScan t (hSlot b.handle) j
      else if hSlot b.handle ∈ s.ks.scanOf then
        (t.slot (hSlot b.handle)).state = .stale ∧ ∃ b', t.job j = some b' ∧ b'.wait = .scan
      else ((t.slot (hSlot b.handle)).state = .free ∨ (t.slot (hSlot b.handle)).state = .retired) ∧
        (s.mirrorsSlots = false → (∀ r ∈ s.tw.queue, r.job ≠ some j) → endedWith t j (done [])) := by
  have hstart : KeysAlike s (s.startDirect j) := keysAlike_onJob s j _
  have hj := State.job_invalidating h.1
  have halike := keysAlike_invalidating s j
  have hslot : (s.invalidating j).slot (hSlot b.handle) = s.slot (hSlot b.handle) := State.slot_of_ks halike.ks _
  refine ⟨_, (runDirect_runs _ h : execKeyRelease j s = .next _), ?_⟩
  rw [if_neg (by omega), State.invalidateGuard_runs (by omega) hinst (by rw [hstart.ownedBy]; exact hown)
    (fun st => by rw [hstart.mirrorOf]; exact hpair st)]
  dsimp only
  rw [State.slot_of_ks hstart.ks, if_neg (show ¬(hGen b.handle < (s.slot (hSlot b.handle)).filledGen ∨
    (s.slot (hSlot b.handle)).gen < hGen b.handle) by omega)]
  unfold State.invalidating at hj halike hslot
  generalize ((s.startDirect j).bump aKS_INVAL_CNT 0).bump aKS_APPROVALS 0 = u at hj halike hslot ⊢
  have hin : (u.ks.scanOf.contains (hSlot b.handle) = true) ↔ hSlot b.handle ∈ s.ks.scanOf := by
    rw [halike.ks, List.contains_iff_mem]
  by_cases hstale : (s.slot (hSlot b.handle)).state = .stale
  · have hw := State.job_sentAndWaits hj b.handle 1
    have hks := u.sentAndWaits_ks j b.handle 1
    rw [if_neg (not_not.2 hstale), if_pos hstale]
    by_cases hscan : hSlot b.handle ∈ s.ks.scanOf
    · rw [if_pos hscan, if_neg (by rw [hin.2 hscan, Bool.not_true, Bool.and_false]; decide),
        State.slot_of_ks hks, hslot]
      exact ⟨hstale, _, hw, rfl⟩
    · rw [if_neg hscan, if_pos (by rw [Bool.eq_false_iff.2 (mt hin.1 hscan), hstale]; rfl)]
      have hinst' : (s.slot (hSlot b.handle)).inst = b.targetInst := by
        unfold State.ownedBy at hown
        simp only [Bool.and_eq_true, beq_iff_eq] at hown
        exact hown.1.1.2
      refine ⟨State.scanned_frees hw rfl hscope ?_ ?_, fun hm hq => State.scanned_ends hw ?_⟩
      · exact (congrArg Slot.state ((State.slot_of_ks hks _).trans hslot)).trans hstale
      · exact (congrArg Slot.inst ((State.slot_of_ks hks _).trans hslot)).trans hinst'
      · rw [State.sendInvalidate_alone (halike.mirrorsSlots.trans hm)]
        exact fun r hr => hq r (by rw [← halike.tw, ← (keysAlike_onJob u j _).tw]; exact hr)
  · rw [if_pos hstale, if_neg hstale, if_neg (by simp [hstale])]
    exact State.invalidateKey_awaitsScan hj _ _ _

/-! ### The scan's end (R464) -/

/-- Slots made STALE one by one are STALE, and every other is as it was. -/
theorem foldl_staleSlot_stale (k : Nat) : ∀ (l : List Nat) (s : State), k ∈ l ∨ (s.slot k).state = .stale →
    ((l.foldl State.staleSlot s).slot k).state = .stale
  | [], s, h => h.resolve_left List.not_mem_nil
  | n :: l, s, h => by
    refine foldl_staleSlot_stale k l (s.staleSlot n) ?_
    by_cases hk : k = n
    · rw [hk, s.slot_staleSlot_same]
      exact .inr rfl
    · rw [State.slot_staleSlot_other hk]
      exact h.imp_left fun hm => (List.mem_cons.1 hm).resolve_left hk

theorem foldl_staleSlot_jobs : ∀ (l : List Nat) (s : State), (l.foldl State.staleSlot s).jobs = s.jobs
  | [], _ => rfl
  | _ :: l, _ => foldl_staleSlot_jobs l _

theorem foldl_sendInvalidate (scope : Nat) (job : Option Nat) : ∀ (l : List Nat) (s : State),
    (l.foldl (fun s h => s.sendInvalidate h scope job) s).ks = s.ks ∧
      (l.foldl (fun s h => s.sendInvalidate h scope job) s).jobs = s.jobs
  | [], _ => ⟨rfl, rfl⟩
  | h :: l, s => by
    obtain ⟨hks, hjobs⟩ := foldl_sendInvalidate scope job l (s.sendInvalidate h scope job)
    exact ⟨hks.trans (s.sendInvalidate_ks _ _ _), hjobs.trans (s.sendInvalidate_jobs _ _ _)⟩

/-- A slot that a scan has hit is STALE, or has been freed. -/
def scannedSlot (x : Slot) : Prop := x.state = .stale ∨ x.state = .free ∨ x.state = .retired

theorem State.freeSlot_scannedSlot {k : Nat} (n : Nat) (h : scannedSlot (s.slot k)) : scannedSlot ((s.freeSlot n).slot k) := by
  by_cases hk : k = n
  · subst hk
    rw [s.slot_freeSlot_same]
    exact .inr (by dsimp only; split <;> simp)
  · rwa [s.slot_freeSlot_other hk]

/-- The end of one wait: the scan's roots and the slots it hit stay so, and of the jobs this one alone changed. -/
theorem State.scanned_keeps (s : State) (j : Nat) : (s.scanned j).ks.scanOf = s.ks.scanOf ∧
    (∀ k, scannedSlot (s.slot k) → scannedSlot ((s.scanned j).slot k)) ∧
    (∀ i, i ≠ j → (s.scanned j).job i = s.job i) ∧ ∀ b, (s.scanned j).job j = some b → b.wait ≠ .scan := by
  cases hj : s.job j with
  | none =>
    have he : s.scanned j = s := by
      unfold State.scanned
      rw [hj]
    rw [he, hj]
    exact ⟨rfl, fun k h => h, fun i _ => rfl, fun b h => nomatch h⟩
  | some b =>
    obtain ⟨g, hg, he⟩ := State.scanned_onJob hj
    obtain ⟨hjobs, -, hscan⟩ := s.releaseSlot_alike b
    have hks : ((s.releaseSlot b).onJob j g).ks = (s.releaseSlot b).ks := State.onJob_ks _ j g
    have hslot : ∀ k, scannedSlot (s.slot k) → scannedSlot ((s.releaseSlot b).slot k) := fun k h => by
      rcases s.releaseSlot_cases b with hu | hu
      · rwa [hu]
      · rw [hu]
        exact State.freeSlot_scannedSlot _ h
    rw [he, hks]
    refine ⟨hscan, fun k h => ?_, fun i hi => (State.job_onJob_other _ g hi).trans (job_of_jobs hjobs i), fun b' hb' => ?_⟩
    · rw [State.slot_of_ks hks]
      exact hslot k h
    · rw [State.job_onJob_same _ g ((job_of_jobs hjobs j).trans hj)] at hb'
      cases hb'
      exact hg b

/-- Once each of the jobs that waited is scanned, no job waits for the scan. -/
theorem foldl_scanned : ∀ (l : List Nat) (s : State), (∀ i b, s.job i = some b → b.wait = .scan → i ∈ l) →
    (l.foldl State.scanned s).ks.scanOf = s.ks.scanOf ∧
    (∀ i b, (l.foldl State.scanned s).job i = some b → b.wait ≠ .scan) ∧
    ∀ k, scannedSlot (s.slot k) → scannedSlot ((l.foldl State.scanned s).slot k)
  | [], s, h => ⟨rfl, fun i b hi hb => List.not_mem_nil (h i b hi hb), fun k hk => hk⟩
  | j :: l, s, h => by
    obtain ⟨hscan, hslot, hother, hsame⟩ := s.scanned_keeps j
    obtain ⟨ihscan, ihjob, ihslot⟩ := foldl_scanned l (s.scanned j) fun i b hi hb => by
      by_cases hij : i = j
      · exact absurd hb (hsame b (hij ▸ hi))
      · exact (List.mem_cons.1 (h i b ((hother i hij).symm.trans hi) hb)).resolve_left hij
    exact ⟨ihscan.trans hscan, ihjob, fun k hk => ihslot k (hslot k hk)⟩

/-- INVALIDATION_SCAN_END with something to do. -/
theorem invalidationScanEnd_answers (h : s.ks.scanOf ≠ [] ∨ ∃ e ∈ s.jobs, e.2.wait = .scan) :
    answers .invalidationScanEnd s fun t => t.ks.scanOf = [] ∧ (∀ j b, t.job j = some b → b.wait ≠ .scan) ∧
      ∀ k ∈ s.scanHits, scannedSlot (t.slot k) := by
  have hwaits : ∀ i b, s.job i = some b → b.wait = .scan → i ∈ s.jobsWhere fun b => b.wait == .scan := fun i b hi hb =>
    List.mem_map.2 ⟨(i, b), List.mem_filter.2 ⟨mem_of_tget hi, beq_iff_eq.2 hb⟩, rfl⟩
  have hdue : ¬(s.ks.scanOf = [] ∧ (s.jobsWhere fun b => b.wait == .scan) = []) := by
    rintro ⟨hroots, hnone⟩
    obtain ⟨e, he, hw⟩ := h.resolve_left (not_not.2 hroots)
    have hmem : e.1 ∈ s.jobsWhere fun b => b.wait == .scan :=
      List.mem_map.2 ⟨e, List.mem_filter.2 ⟨he, beq_iff_eq.2 hw⟩, rfl⟩
    rw [hnone] at hmem
    exact List.not_mem_nil hmem
  refine ⟨_, (if_neg hdue : execInvalidationScanEnd s = _), ?_⟩
  obtain ⟨hks, hjobs⟩ := foldl_sendInvalidate 0 none (s.scanHits.map s.handleOf) (s.scanAll.dropCopies s.scanHits)
  generalize (s.scanHits.map s.handleOf).foldl (fun s h => s.sendInvalidate h 0 none) (s.scanAll.dropCopies s.scanHits) = u
    at hks hjobs ⊢
  have hks : u.ks = s.scanAll.ks := hks.trans (State.dropCopies_ks _ _)
  have hjobs : u.jobs = s.jobs := hjobs.trans ((State.dropCopies_jobs _ _).trans (foldl_staleSlot_jobs s.scanHits s))
  obtain ⟨hscan, hjob, hslot⟩ := foldl_scanned (s.jobsWhere fun b => b.wait == .scan) u fun i b hi =>
    hwaits i b ((job_of_jobs hjobs i).symm.trans hi)
  refine ⟨hscan.trans (by rw [hks]; rfl), hjob, fun k hk => hslot k (.inl ?_)⟩
  rw [State.slot_of_ks hks]
  exact foldl_staleSlot_stale k s.scanHits s (.inl hk)

end Sys2Proof.Machine
end

section
/-! SUPPORT. What KEY_INFO, KEY_ATTEST, KEY_EXPORT_PUBLIC and CHALLENGE_RESPOND answer (R461, R462, R463, R470). -/

namespace Sys2Proof.Machine

variable {s t : State}

/-! ### KEY_INFO (R466, R470) -/

/-- The attributes of a slot depend on the key store alone. -/
theorem State.keyAttr_of_ks (h : t.ks = s.ks) (n : Nat) (stale : Bool) : t.keyAttr n stale = s.keyAttr n stale := by
  have hparent : ∀ x, t.parentHandle x = s.parentHandle x := fun x => by
    unfold State.parentHandle
    cases x.parent with
    | none => rfl
    | some p => dsimp only; rw [State.slot_of_ks h, h]
  unfold State.keyAttr
  simp only [State.slot_of_ks h, hparent]

/-- A node's descriptor. -/
theorem keyInfo_node {j : Nat} {b : Job} {d : Node} (h : runsDirect s j b opKEY_INFO) (hnode : b.has 0x00B1 = true)
    (hhandle : b.handle = 0) (hcap : tlvLen 164 + tlvLen 8 ≤ b.resultCap) (hinst : b.has 0x0004 = true → b.inst = 0)
    (hd : tget s.ks.nodes (tlvNat b.params 0x00B1 0) = some d) (howner : b.inst = 0 ∨ d.owner = b.inst ∨ d.owner = 0xFF) :
    answers (.keyInfo j) s fun t => endsQuietly s t j
      (done [⟨0x00C5, nodeDesc (tlvNat b.params 0x00B1 0) d⟩, ⟨0x00C0, leBytes s.ks.updCounter 8⟩]) := by
  have hstart : KeysAlike s (s.startDirect j) := keysAlike_onJob s j _
  refine ⟨_, (runDirect_runs _ h : execKeyInfo j s = .next _), ?_⟩
  dsimp only
  rw [if_pos hhandle, if_neg (by omega), if_neg (by rw [hnode, hhandle]; decide), if_neg (fun hc => hc.2 (hinst hc.1)),
    if_pos hhandle]
  unfold nodeInfo
  dsimp only
  rw [hstart.ks, hd]
  dsimp only
  rw [if_neg (by tauto)]
  exact endsQuietly_startDirect _ h.1 (Unseen.refl _)

/-- A slot's attributes. -/
theorem keyInfo_slot {j : Nat} {b : Job} (h : runsDirect s j b opKEY_INFO) (hnode : b.has 0x00B1 = false)
    (hhandle : b.handle ≠ 0) (hcap : tlvLen 32 ≤ b.resultCap) (hinst : b.has 0x0004 = true → b.inst = 0)
    (hown : s.ownedBy b.targetInst b.handle = true) : answers (.keyInfo j) s fun t => endsQuietly s t j
      (done [⟨0x00BB, s.keyAttr (hSlot b.handle) (s.handleStale b.handle)⟩]) := by
  have hstart : KeysAlike s (s.startDirect j) := keysAlike_onJob s j _
  refine ⟨_, (runDirect_runs _ h : execKeyInfo j s = .next _), ?_⟩
  dsimp only
  rw [if_neg hhandle, if_neg (by omega), if_neg (by rw [hnode, beq_false_of_ne hhandle]; decide),
    if_neg (fun hc => hc.2 (hinst hc.1)), if_neg hhandle, if_neg (by rw [hstart.ownedBy, hown]; decide),
    hstart.handleStale, State.keyAttr_of_ks hstart.ks]
  exact endsQuietly_startDirect _ h.1 (unseen_bump _ _ _)

/-! ### Approved keys -/

/-- A key that is approved is not refused. -/
theorem State.refusal_of_approve {s' : State} {inst : Nat} {n : KeyNeed} (h : s.approve inst [n] = .ok s') :
    s.refusal inst n = none := by
  obtain ⟨hnone, -⟩ := State.approve_ok h
  exact List.findSome?_eq_none_iff.1 hnone n (List.mem_singleton.2 rfl)

/-- What a statement attests, what a slot's public key is, and the module's identity do not depend on the jobs. -/
theorem State.holding_eq (s : State) (j : Nat) (ns : List KeyNeed) : ∃ jobs, s.holding j ns = { s with jobs := jobs } :=
  s.onJob_eq j _

/-! ### KEY_ATTEST (R462) -/

theorem keyAttest_ends {j : Nat} {b : Job} {s' : State} (h : runsMp s j b opKEY_ATTEST)
    (hcap : b.noRoom (tlvLen 4883) = false) (hctl : s.fld aKS_CTL 0 0 = 1)
    (happ : s.approve b.inst [b.keyNeed attestable [] none] = .ok s') (hover : engineOver s b 1) :
    answers (.keyAttest j) s fun t => ∃ sig : Bytes,
      endedWith t j (done [⟨0x00BD, s'.attestBody b.handle (b.val 0x00BC) ++ sig⟩]) := by
  refine ⟨_, (runMp_runs _ h : execKeyAttest j s = .next _), ?_⟩
  dsimp only
  rw [if_neg (by rw [hcap]; decide), if_neg (by omega), State.refusal_of_approve happ, if_neg (by decide),
    State.withEngine_over hover, State.withKeys_runs happ]
  obtain ⟨c, hc⟩ := State.job_holding happ h.1
  obtain ⟨jobs, he⟩ := s'.holding_eq j [b.keyNeed attestable [] none]
  rw [he] at hc ⊢
  exact ⟨_, endedWith_endJob _ hc⟩

theorem keyAttest_asks {j : Nat} {b : Job} {s' : State} (h : runsMp s j b opKEY_ATTEST)
    (hcap : b.noRoom (tlvLen 4883) = false) (hctl : s.fld aKS_CTL 0 0 = 1)
    (happ : s.approve b.inst [b.keyNeed attestable [] none] = .ok s') (hnone : b.engineStatus = none)
    (hup : s.classUp 1 = true) : answers (.keyAttest j) s fun t => asksEngine s t j 1 opCOMPOSITE_SIGN := by
  refine ⟨_, (runMp_runs _ h : execKeyAttest j s = .next _), ?_⟩
  dsimp only
  rw [if_neg (by rw [hcap]; decide), if_neg (by omega), State.refusal_of_approve happ, if_neg (by decide)]
  unfold State.withEngine
  rw [hnone]
  dsimp only
  rw [if_pos hup]
  exact State.addTask_asks h.1 _ _ _ _

/-! ### KEY_EXPORT_PUBLIC (R461) -/

theorem keyExportPublic_slot {j : Nat} {b : Job} {s' : State} (h : runsMp s j b opKEY_EXPORT_PUBLIC)
    (hwhich : tlvNat b.params 0x00C3 0 = 0) (hhandle : b.handle ≠ 0)
    (happ : s.approve b.inst [b.keyNeed [0x10, 0x11, 0x12, 0x13, 0x14, 0x18, 0x19, 0x20, 0x21, 0x22, 0x23]
      [7, keygenEngine (hType b.handle)] none] = .ok s') (hover : engineOver s b (keygenEngine (hType b.handle) - 15)) :
    answers (.keyExportPublic j) s fun t =>
      match s'.publicOf (s'.slot (hSlot b.handle)) with
      | some pk => endedWith t j (b.doneFit [⟨0x0051, pk⟩])
      | none => endedWith t j (failed stKEY_POLICY) := by
  refine ⟨_, (runMp_runs _ h : execKeyExportPublic j s = .next _), ?_⟩
  dsimp only
  rw [if_neg (by simp [hwhich, hhandle]), if_neg (by omega), if_neg (by omega), State.refusal_of_approve happ,
    if_neg (by decide), State.withEngine_over hover, State.withKeys_runs happ]
  obtain ⟨c, hc⟩ := State.job_holding happ h.1
  obtain ⟨jobs, he⟩ := s'.holding_eq j [b.keyNeed [0x10, 0x11, 0x12, 0x13, 0x14, 0x18, 0x19, 0x20, 0x21, 0x22, 0x23]
    [7, keygenEngine (hType b.handle)] none]
  have hpublic : ∀ x, ({ s' with jobs := jobs } : State).publicOf x = s'.publicOf x := fun x => rfl
  have hslot : ∀ n, ({ s' with jobs := jobs } : State).slot n = s'.slot n := fun n => rfl
  rw [he] at hc ⊢
  rw [hslot, hpublic]
  cases s'.publicOf (s'.slot (hSlot b.handle)) with
  | none => exact endedWith_endJob _ hc
  | some pk => exact endedWith_endJob _ hc

/-- Without a handle the module's own keys are exported. -/
theorem keyExportPublic_module {j : Nat} {b : Job} (h : runsMp s j b opKEY_EXPORT_PUBLIC) (hhandle : b.handle = 0) :
    answers (.keyExportPublic j) s fun t =>
      match tlvNat b.params 0x00C3 0 with
      | 1 => endsQuietly s t j (b.doneFit [⟨0x0051, s.identityPublic⟩, ⟨0x00C4, (s.ks.certs.headD []).take 8192⟩])
      | 2 => endsQuietly s t j (b.doneFit [⟨0x0051, s.transportPublic⟩])
      | _ => endsQuietly s t j (failed stMALFORMED) := by
  refine ⟨_, (runMp_runs _ h : execKeyExportPublic j s = .next _), ?_⟩
  have hends : ∀ e, endsQuietly s (s.endJob j e) j e := fun e => endsQuietly_endJob e h.1 rfl (surfaceKept_refl s)
  dsimp only
  generalize tlvNat b.params 0x00C3 0 = which
  split
  · rw [if_neg (by simp [hhandle]), if_pos rfl]
    exact hends _
  · rw [if_neg (by simp [hhandle]), if_neg (by decide), if_pos rfl]
    exact hends _
  · rename_i h1 h2
    have hbad : which > 2 ∨ (which = 0) ≠ (b.handle ≠ 0) := by
      by_cases hw : which = 0
      · exact .inr (by simp [hw, hhandle])
      · exact .inl (Nat.lt_of_le_of_ne ((Nat.two_le_iff _).2 ⟨hw, h1⟩) (Ne.symm h2))
    rw [if_pos hbad]
    exact hends _

/-! ### CHALLENGE_RESPOND (R463) -/

theorem challengeRespond_ends {j : Nat} {b : Job} {s' : State} (h : runsMp s j b opCHALLENGE_RESPOND)
    (hcap : b.noRoom (tlvLen 32) = false) (happ : s.approve b.inst [b.keyNeed [0x30, 0x31] [10] none] = .ok s') :
    answers (.challengeRespond j) s fun t => endedWith t j
      (done [⟨0x00BE, kmac256 (s'.slot (hSlot b.handle)).val (s'.mid ++ b.val 0x00BC) 32 "KRYTORATI-CHAL-1"⟩]) := by
  refine ⟨_, (runMp_runs _ h : execChallengeRespond j s = .next _), ?_⟩
  dsimp only
  rw [if_neg (by rw [hcap]; decide), State.withKeys_runs happ]
  obtain ⟨c, hc⟩ := State.job_holding happ h.1
  obtain ⟨jobs, he⟩ := s'.holding_eq j [b.keyNeed [0x30, 0x31] [10] none]
  rw [he] at hc ⊢
  exact endedWith_endJob _ hc

end Sys2Proof.Machine
end

section
/-! SUPPORT. What KEY_UPDATE_APPLY leaves on an unpaired module (R454 to R460), and O23. -/

namespace Sys2Proof.Machine

variable {s t : State}

/-! ### A stateful key that goes (R459) -/

theorem State.addJob_ks (s : State) (b : Job) : (s.addJob b).2.ks = s.ks := by
  unfold State.addJob
  dsimp only
  split <;> rfl

/-- The jobs that stood stand when another joins them. -/
theorem State.addJob_stand (s : State) (b : Job) : jobsStand s (s.addJob b).2 := fun j c hj => by
  have hjobs : (s.addJob b).2.jobs = tset s.jobs s.nextJob b := by
    unfold State.addJob
    dsimp only
    split <;> rfl
  unfold State.job
  rw [hjobs]
  by_cases h : j = s.nextJob
  · exact ⟨b, by rw [h]; exact tget_tset_same _ _ _⟩
  · exact ⟨c, (tget_tset_other _ _ h).trans hj⟩

/-- The key store stands, and so does every job. -/
def keysAndJobsStand (s t : State) : Prop := t.ks = s.ks ∧ jobsStand s t

theorem keysAndJobsStand.trans {u : State} (h : keysAndJobsStand s t) (g : keysAndJobsStand t u) : keysAndJobsStand s u :=
  ⟨g.1.trans h.1, h.2.trans g.2⟩

theorem keysAndJobsStand_foldl {α : Type} (f : State → α → State) (hf : ∀ s a, keysAndJobsStand s (f s a)) :
    ∀ (l : List α) (s : State), keysAndJobsStand s (l.foldl f s)
  | [], _ => ⟨rfl, jobsStand_of_jobs rfl⟩
  | a :: l, s => (hf s a).trans (keysAndJobsStand_foldl f hf l _)

theorem State.launchRebuild_stand (s : State) : keysAndJobsStand s s.launchRebuild := by
  unfold State.launchRebuild
  split
  · exact ⟨rfl, jobsStand_of_jobs rfl⟩
  · rename_i n k _
    split
    · exact ⟨rfl, jobsStand_of_jobs rfl⟩
    · have hmarked : ∀ x, keysAndJobsStand s (s.setHbs n x) := fun x => ⟨rfl, jobsStand_of_jobs rfl⟩
      exact (hmarked _).trans (keysAndJobsStand_foldl _ (fun s _ => ⟨s.addJob_ks _, s.addJob_stand _⟩) _ _)

theorem State.retireHbs_stand (s : State) (node : Nat) : keysAndJobsStand s (s.retireHbs node) := by
  unfold State.retireHbs
  split
  · exact ⟨rfl, jobsStand_of_jobs rfl⟩
  · rename_i k _
    obtain ⟨hbs, _, he, -, -⟩ := s.appendJournal_eq node 6 k.nextEven k.nextOdd
    dsimp only
    rw [he]
    have hgone : ∀ h, keysAndJobsStand s { s with hbs := h } := fun h => ⟨rfl, jobsStand_of_jobs rfl⟩
    exact (hgone _).trans (State.launchRebuild_stand _)

/-! ### The update that is stored (R457 to R459) -/

/-- The nodes, the trust anchors and the counter of the last update. -/
def sameUpdate (s t : State) : Prop :=
  t.ks.nodes = s.ks.nodes ∧ t.ks.trust = s.ks.trust ∧ t.ks.updCounter = s.ks.updCounter

theorem foldl_invalidateKey_update : ∀ (l : List Nat) (s : State),
    sameUpdate s (l.foldl State.invalidateKey s) ∧ jobsStand s (l.foldl State.invalidateKey s)
  | [], _ => ⟨⟨rfl, rfl, rfl⟩, jobsStand_of_jobs rfl⟩
  | n :: l, s => by
    obtain ⟨⟨hnodes, htrust, hcounter⟩, hstand⟩ := foldl_invalidateKey_update l (s.invalidateKey n)
    have hks := s.invalidateKey_ks n
    exact ⟨⟨hnodes.trans (by rw [hks]; rfl), htrust.trans (by rw [hks]; rfl), hcounter.trans (by rw [hks]; rfl)⟩,
      (s.invalidateKey_stand n).trans hstand⟩

theorem State.storeNodes_stores (s : State) (nodes : Tab Node) (trust : List Trust) :
    (s.storeNodes nodes trust).ks.nodes = nodes ∧ (s.storeNodes nodes trust).ks.trust = trust ∧
      (s.storeNodes nodes trust).jobs = s.jobs := by
  unfold State.storeNodes
  dsimp only
  refine ⟨?_, ?_, rfl⟩ <;> split_ifs <;> simp_all

/-- A stored update leaves its nodes, its trust anchors and its counter, and every job. -/
theorem State.storeUpdate_stores (s : State) (u : UpdResult) (counter : Nat) :
    (s.storeUpdate u counter).ks.nodes = u.nodes ∧ (s.storeUpdate u counter).ks.trust = u.trust ∧
      (s.storeUpdate u counter).ks.updCounter = counter ∧ jobsStand s (s.storeUpdate u counter) := by
  unfold State.storeUpdate
  extract_lets gone s₁ k s₂ hit s₃
  obtain ⟨hnodes, htrust, hjobs⟩ := s.storeNodes_stores u.nodes u.trust
  obtain ⟨⟨hnodes', htrust', hcounter'⟩, hstand'⟩ := foldl_invalidateKey_update hit s₂
  obtain ⟨hks, hstand⟩ := keysAndJobsStand_foldl State.retireHbs State.retireHbs_stand gone s₃
  rw [hks]
  have hstored : jobsStand s s₂ := jobsStand_of_jobs hjobs
  exact ⟨hnodes'.trans hnodes, htrust'.trans htrust, hcounter', hstored.trans (hstand'.trans hstand)⟩

/-! ### The set an update asks for (R105) -/

/-- A command whose set was asked for waits for its guard, or until the set can be staged; the key store stands. -/
theorem State.requestSet_waits {j : Nat} {c : Job} (hj : s.job j = some c) (groups : BitVec 16) (writes : List (Nat × Nat))
    (e : Ending) : (s.requestSet { groups := groups, writes := writes, job := some (j, e) }).ks = s.ks ∧
      ∃ b', (s.requestSet { groups := groups, writes := writes, job := some (j, e) }).job j = some b' ∧
        (b'.wait = .applied groups ∧ b'.after = some e ∨ b'.wait = .staging) := by
  have hstaged : ∀ (l : List (Nat × Nat)) (u : State),
      (l.foldl (fun s w => s.setShadow w.1 w.2) u).ks = u.ks ∧ (l.foldl (fun s w => s.setShadow w.1 w.2) u).jobs = u.jobs := by
    intro l
    induction l with
    | nil => exact fun u => ⟨rfl, rfl⟩
    | cons w l ih => exact fun u => ih (u.setShadow w.1 w.2)
  unfold State.requestSet
  split
  · refine ⟨State.onJob_ks _ j _, _, State.job_onJob_same _ _ hj, .inr rfl⟩
  · obtain ⟨hks, hjobs⟩ := hstaged writes s
    unfold State.stageMp
    dsimp only
    generalize writes.foldl (fun s w => s.setShadow w.1 w.2) s = u at hks hjobs ⊢
    have hu : u.job j = some c := (job_of_jobs hjobs j).trans hj
    exact ⟨(State.onJob_ks _ j _).trans hks, _, State.job_onJob_same _ _ hu, .inl ⟨rfl, rfl⟩⟩

/-- An update that passed is stored, and its command ends DONE, or waits for the KS_CTL it changes. -/
theorem State.commitUpdate_answers {j : Nat} {c : Job} (hj : s.job j = some c) (u : UpdResult) (counter : Nat) :
    (s.commitUpdate u counter (some j)).ks.nodes = u.nodes ∧ (s.commitUpdate u counter (some j)).ks.trust = u.trust ∧
      (s.commitUpdate u counter (some j)).ks.updCounter = max s.ks.updCounter counter ∧
      ∃ e, e.status = stDONE ∧ e.verdict = vPass ∧ if u.ctl = none then endedWith (s.commitUpdate u counter (some j)) j e
        else ∃ b', (s.commitUpdate u counter (some j)).job j = some b' ∧
          (b'.wait = .applied 0x1000 ∧ b'.after = some e ∨ b'.wait = .staging) := by
  obtain ⟨hnodes, htrust, hcounter, hstand⟩ := s.storeUpdate_stores u (max s.ks.updCounter counter)
  obtain ⟨c', hc'⟩ := hstand j c hj
  unfold State.commitUpdate
  dsimp only
  generalize s.storeUpdate u (max s.ks.updCounter counter) = v at hnodes htrust hcounter hc' ⊢
  have hc'' : (v.bump aKS_UPD_OK 0).job j = some c' := hc'
  cases hctl : u.ctl with
  | none =>
    have hks : ((v.bump aKS_UPD_OK 0).endJob j (v.bump aKS_UPD_OK 0).updateDone).ks = v.ks := State.onJob_ks _ j _
    refine ⟨by rw [hks]; exact hnodes, by rw [hks]; exact htrust, by rw [hks]; exact hcounter,
      (v.bump aKS_UPD_OK 0).updateDone, rfl, rfl, ?_⟩
    rw [if_pos rfl]
    exact endedWith_endJob _ hc''
  | some ctl =>
    obtain ⟨hks, hwaits⟩ := State.requestSet_waits hc'' 0x1000 [(aKS_CTL, ctl)] (v.bump aKS_UPD_OK 0).updateDone
    refine ⟨(congrArg _ hks).trans hnodes, (congrArg _ hks).trans htrust, (congrArg _ hks).trans hcounter,
      (v.bump aKS_UPD_OK 0).updateDone, rfl, rfl, ?_⟩
    rw [if_neg (by simp)]
    exact hwaits

/-! ### KEY_UPDATE_APPLY (R454 to R457) -/

/-- An unpaired module that may take updates runs every check of R457 and then refuses the message or stores it. -/
theorem updateApply_unpaired {j : Nat} {b : Job} (hcleared : b.cleared = false) (hcap : b.noRoom (tlvLen 8) = false)
    (hpair : s.tw.state = .unpaired) (hctl : s.fld aKS_CTL 1 1 = 0) (hcastle : s.tw.castle = none)
    (hover : engineOver s b 1) : updateApply s j b = match s.checkUpdate (b.val 0x00BF) (b.inst == 0) with
      | .error f => (s.rejectUpdate f).endJob j f.ending
      | .ok u => s.commitUpdate u (leAt (b.val 0x00BF) 48 8) (some j) := by
  have halone : s.isPaired = false := by
    unfold State.isPaired
    rw [hpair]
    rfl
  have hmirrored : s.updateUnmirrored = false := by
    unfold State.updateUnmirrored
    rw [hpair]
  unfold updateApply
  dsimp only
  rw [if_neg (by rw [hcleared]; decide), if_neg (by rw [hcap]; decide), if_neg (by rw [halone]; simp),
    if_neg (by rw [hctl]; simp), if_neg (by rw [hcastle]; decide)]
  cases s.checkUpdate (b.val 0x00BF) (b.inst == 0) with
  | error f =>
    dsimp only
    rw [State.withEngine_over hover, ite_self]
  | ok u =>
    dsimp only
    rw [State.withEngine_over hover, if_neg (by rw [hmirrored]; decide), if_neg (by rw [hpair]; decide)]

theorem keyUpdateApply_answers {j : Nat} {b : Job} (h : runsMp s j b opKEY_UPDATE_APPLY) (hcleared : b.cleared = false)
    (hcap : b.noRoom (tlvLen 8) = false) (hpair : s.tw.state = .unpaired) (hctl : s.fld aKS_CTL 1 1 = 0)
    (hcastle : s.tw.castle = none) (hover : engineOver s b 1) : answers (.keyUpdateApply j) s fun t =>
      match s.checkUpdate (b.val 0x00BF) (b.inst == 0) with
      | .error f => endsQuietly { s with ks := t.ks } t j f.ending ∧ t.ks.nodes = s.ks.nodes ∧ t.ks.trust = s.ks.trust ∧
          t.ks.slots = s.ks.slots ∧ t.ks.updCounter = s.ks.updCounter ∧ t.ks.lastFail = f.code
      | .ok u => t.ks.nodes = u.nodes ∧ t.ks.trust = u.trust ∧
          t.ks.updCounter = max s.ks.updCounter (leAt (b.val 0x00BF) 48 8) ∧
          ∃ e, e.status = stDONE ∧ e.verdict = vPass ∧ if u.ctl = none then endedWith t j e else ∃ b', t.job j = some b' ∧
            (b'.wait = .applied 0x1000 ∧ b'.after = some e ∨ b'.wait = .staging) := by
  refine ⟨_, (runMp_runs _ h : execKeyUpdateApply j s = .next _), ?_⟩
  dsimp only
  rw [updateApply_unpaired hcleared hcap hpair hctl hcastle hover]
  cases s.checkUpdate (b.val 0x00BF) (b.inst == 0) with
  | error f =>
    dsimp only
    have hks : ((s.rejectUpdate f).endJob j f.ending).ks = (s.rejectUpdate f).ks := State.endJob_ks _ _ _
    rw [hks]
    refine ⟨endsQuietly_endJob f.ending (b := b) h.1 rfl ?_, rfl, rfl, rfl, rfl, rfl⟩
    exact surfaceKept_refl { s with ks := (s.rejectUpdate f).ks }
  | ok u => exact State.commitUpdate_answers h.1 u _

/-- Settles O23: invalidation by the slots it makes STALE and the scan, the reports by the key store they read, and
updates by what `State.commitUpdate` stores. -/
theorem keyUseAndRemoval : Obligations.KeyUseAndRemoval := by
  unfold Obligations.KeyUseAndRemoval
  refine ⟨fun s j b => ⟨?_, ?_, ?_, ?_, ?_, ?_, keyExportPublic_module, ?_, ?_⟩, fun s => invalidationScanEnd_answers⟩
  · rintro h hscope ⟨hinst, hown, hpair⟩
    exact keyInvalidate_answers h hscope hinst hown hpair
  · rintro h hscope ⟨hinst, hown, hpair⟩ hfilled hgen
    exact keyRelease_answers h hscope hinst hown hpair hfilled hgen
  · exact fun h hnode hhandle hcap hinst d => keyInfo_node h hnode hhandle hcap hinst
  · exact keyInfo_slot
  · exact fun s' h hcap hctl happ => ⟨keyAttest_ends h hcap hctl happ, keyAttest_asks h hcap hctl happ⟩
  · exact fun s' => keyExportPublic_slot
  · exact fun s' => challengeRespond_ends
  · exact keyUpdateApply_answers

end Sys2Proof.Machine
end

section
/-! SUPPORT. Ready bits that follow the start-up (R636 to R639): what brings a bit up takes none down, and leaves the
running image, the state of the module and the roots. -/

namespace Sys2Proof.Machine

variable {s t u : State}

theorem QueueTraffic.mp (h : QueueTraffic s t) : t.mp = s.mp := by rw [h]

/-! ### Bits that only rise -/

/-- Between `s` and `t` ready bits rose and none fell: the MP, the rest of the power state, the state of the module and
the roots stand, and so does the check key once KEYSTORE is set. -/
structure Risen (s t : State) : Prop where
  held : ∀ i, s.ready i = true → t.ready i = true
  mp : t.mp = s.mp
  pw : t.pw = { s.pw with ready := t.pw.ready, lostBits := t.pw.lostBits, readyUs := t.pw.readyUs }
  mstate : t.fc.mstate = s.fc.mstate
  roots : t.ks.roots = s.ks.roots
  kchk : s.ready 2 = true → t.ks.kchk = s.ks.kchk

theorem Risen.trans (h : Risen s t) (g : Risen t u) : Risen s u where
  held i hi := g.held i (h.held i hi)
  mp := g.mp.trans h.mp
  pw := by
    rw [g.pw, h.pw]
  mstate := g.mstate.trans h.mstate
  roots := g.roots.trans h.roots
  kchk h2 := (g.kchk (h.held 2 h2)).trans (h.kchk h2)

/-- What keeps the parts that a start-up looks at raises no bit. -/
theorem risen_of_kept (hmp : t.mp = s.mp) (hpw : t.pw = s.pw) (hfc : t.fc.mstate = s.fc.mstate)
    (hroots : t.ks.roots = s.ks.roots) (hkchk : s.ready 2 = true → t.ks.kchk = s.ks.kchk) : Risen s t where
  held i hi := by
    unfold State.ready at hi ⊢
    rwa [hpw]
  mp := hmp
  pw := by rw [hpw]
  mstate := hfc
  roots := hroots
  kchk := hkchk

theorem Risen.refl (s : State) : Risen s s := risen_of_kept rfl rfl rfl rfl fun _ => rfl

theorem QueueTraffic.risen (h : QueueTraffic s t) : Risen s t :=
  risen_of_kept h.mp h.pw (by rw [h.fc]) (by rw [h.ks]) fun _ => by rw [h.ks]

theorem risen_foldl {α : Type} (f : State → α → State) (hf : ∀ s a, Risen s (f s a)) :
    ∀ (l : List α) (s : State), Risen s (l.foldl f s)
  | [], s => Risen.refl s
  | a :: l, s => (hf s a).trans (risen_foldl f hf l _)

/-- A bit that is set rises. -/
theorem risen_setReady (s : State) {i : Nat} (hi : i < 24) : Risen s (s.setReady i true) where
  held k hk := by
    rw [s.ready_setReady hi]
    split
    · rfl
    · exact hk
  mp := by
    obtain ⟨_, _, h⟩ := s.setReady_traffic i true
    exact h.mp
  pw := by
    obtain ⟨_, _, h⟩ := s.setReady_traffic i true
    rw [h.pw]
  mstate := by
    obtain ⟨_, _, h⟩ := s.setReady_traffic i true
    rw [h.fc]
  roots := by
    obtain ⟨_, _, h⟩ := s.setReady_traffic i true
    rw [h.ks]
  kchk _ := by
    obtain ⟨_, _, h⟩ := s.setReady_traffic i true
    rw [h.ks]

theorem State.ready_setReady_same (s : State) {i : Nat} (hi : i < 24) : (s.setReady i true).ready i = true := by
  rw [s.ready_setReady hi, if_pos rfl]

/-! ### KEYSTORE (R453, R637) -/

theorem State.storeNodes_keys (s : State) (nodes : Tab Node) (trust : List Trust) :
    (s.storeNodes nodes trust).ks.roots = s.ks.roots ∧ (s.storeNodes nodes trust).ks.kchk = s.ks.kchk := by
  unfold State.storeNodes
  dsimp only
  constructor <;> split_ifs <;> rfl

/-- The scan of the nodes raises faults that end nothing, and stores the nodes that are left. -/
theorem risen_scanNodes (s : State) : Risen s s.scanNodes := by
  unfold State.scanNodes
  extract_lets bad s₁ s₂
  have hfaults : Risen s s₁ := by
    refine risen_foldl _ (fun u e => ?_) bad s
    obtain ⟨fc, h, hm⟩ := (u.bump aKS_N4_FAIL 0).raise_told
      (m := { source := 0x610, access := 0, kind := 0x06, master := 0,
              address := 0x40000 + 2 ^ 20 * u.ks.n4Copy + 256 * e.1, fatal := false }) rfl
      (fun t => show t.countDcm 0x06 = t from if_neg (by decide)) (show engOfSource 0x610 = none by decide)
    have hcounted : Risen u { u.bump aKS_N4_FAIL 0 with fc := fc } := risen_of_kept rfl rfl hm rfl fun _ => rfl
    exact hcounted.trans h.risen
  obtain ⟨hroots, hkchk⟩ := s₁.storeNodes_keys
    (s₁.ks.nodes.filter fun e => !s₁.ks.badNodes.contains e.1 && !bitAt e.2.flags 0) s₁.ks.trust
  exact hfaults.trans (risen_of_kept rfl rfl rfl hroots fun _ => hkchk)

/-- What KEYSTORE comes up with: the scan's result, a check key and a boot nonce drawn anew, and the partition keys. -/
def State.keyed (s : State) : State :=
  let s := s.scanNodes
  let a := s.drawBytes 32
  let b := a.2.drawBytes 32
  let s := { b.2 with ks := { b.2.ks with kchk := a.1, bootNonce := b.1 } }
  { s with ks := { s.ks with partKeys := (List.range 8).map s.partitionKey } }

theorem State.keyed_kchk (s : State) : s.keyed.ks.kchk.length = 32 := s.scanNodes.drawBytes_length 32

theorem State.keystoreUp_eq (s : State) : s.keystoreUp =
    if s.ks.roots ≠ .ready ∨ !s.ready 3 ∨ !s.ready 23 ∨ s.ready 2 ∨ s.fc.mstate = .fault then s
    else s.keyed.setReady 2 true := rfl

/-- Beyond the scan only keys and free bytes are drawn. -/
theorem State.keyed_eq (s : State) : ∃ ks free, s.keyed = { s.scanNodes with ks := ks, free := free } ∧
    ks.roots = s.scanNodes.ks.roots := by
  unfold State.keyed
  generalize s.scanNodes = u
  exact ⟨_, _, rfl, rfl⟩

theorem risen_keyed (h : s.ready 2 = false) : Risen s s.keyed := by
  obtain ⟨ks, free, he, hroots⟩ := s.keyed_eq
  obtain ⟨hheld, hmp, hpw, hmstate, hroots', -⟩ := risen_scanNodes s
  rw [he]
  generalize s.scanNodes = u at hheld hmp hpw hmstate hroots hroots' ⊢
  exact ⟨hheld, hmp, hpw, hmstate, hroots.trans hroots', fun h2 => by rw [h] at h2; cases h2⟩

/-- KEYSTORE comes up with the last of roots, RNG and NVSTORE, and its check key with it. -/
theorem State.keystoreUp_sets (hroots : s.ks.roots = .ready) (hrng : s.ready 3 = true) (hnv : s.ready 23 = true)
    (hdown : s.ready 2 = false) (hm : s.fc.mstate ≠ .fault) :
    s.keystoreUp.ready 2 = true ∧ s.keystoreUp.ks.kchk.length = 32 := by
  rw [s.keystoreUp_eq, if_neg (by simp [hroots, hrng, hnv, hdown, hm])]
  refine ⟨State.ready_setReady_same _ (by decide), ?_⟩
  obtain ⟨_, _, h⟩ := s.keyed.setReady_traffic 2 true
  rw [h.ks]
  exact s.keyed_kchk

theorem risen_keystoreUp (s : State) : Risen s s.keystoreUp := by
  rw [s.keystoreUp_eq]
  split
  · exact Risen.refl s
  · rename_i hup
    have hdown : s.ready 2 = false := Bool.eq_false_iff.2 fun h => hup (.inr (.inr (.inr (.inl h))))
    exact (risen_keyed hdown).trans (risen_setReady _ (by decide))

/-! ### DDR (R638) -/

theorem State.launchRebuild_eq (s : State) :
    ∃ hbs jobs n, s.launchRebuild = { s with hbs := hbs, jobs := jobs, nextJob := n } := by
  have hjobs : ∀ (l : List Nat) (f : State → Job) (u : State), (∀ u, (f u).src = .mp) →
      ∃ jobs n, l.foldl (fun s _ => (s.addJob (f s)).2) u = { u with jobs := jobs, nextJob := n } := by
    intro l f
    induction l with
    | nil => exact fun u _ => ⟨u.jobs, u.nextJob, rfl⟩
    | cons a l ih =>
      intro u hf
      have hadd : (u.addJob (f u)).2 = { u with jobs := tset u.jobs u.nextJob (f u), nextJob := u.nextJob + 1 } := by
        unfold State.addJob
        rw [hf u]
      obtain ⟨jobs, n, h⟩ := ih (u.addJob (f u)).2 hf
      refine ⟨jobs, n, h.trans ?_⟩
      rw [hadd]
  unfold State.launchRebuild
  split
  · exact ⟨s.hbs, s.jobs, s.nextJob, rfl⟩
  · rename_i n k _
    split
    · exact ⟨s.hbs, s.jobs, s.nextJob, rfl⟩
    · obtain ⟨jobs, m, h⟩ := hjobs (List.range (max 1 s.buildMes)) (fun u => taskJob k.inst u.nextJob
        (if k.xmss then opXMSS_KEYGEN else opLMS_KEYGEN) [] { cls := 2, parent := 0, node := some n })
        (s.setHbs n { k with parts := max 1 s.buildMes, progress := 0 }) (fun _ => rfl)
      exact ⟨_, jobs, m, h⟩

theorem risen_startRebuilds (s : State) : Risen s s.startRebuilds := by
  unfold State.startRebuilds
  split
  · exact Risen.refl s
  · obtain ⟨hbs, jobs, n, h⟩ :=
      State.launchRebuild_eq { s with hbs := { s.hbs with keys := fitTrees (s.partBytes 4) 0 s.hbs.keys } }
    rw [h]
    exact risen_of_kept rfl rfl rfl rfl fun _ => rfl

/-- DDR, with the DE bit where its domain is on, and then the rebuilds. -/
theorem risen_ddrBits (s : State) : Risen (s.setReady 4 true)
    ((if (s.setReady 4 true).domain 13 = .on ∧ (s.setReady 4 true).fc.mstate = .service then
      (s.setReady 4 true).setReady 16 true else s.setReady 4 true).startRebuilds) := by
  refine Risen.trans ?_ (risen_startRebuilds _)
  split
  · exact risen_setReady _ (by decide)
  · exact Risen.refl _

theorem risen_ddrUp (s : State) : Risen s s.ddrUp := by
  unfold State.ddrUp
  split
  · exact Risen.refl s
  · exact (risen_setReady s (by decide)).trans (risen_ddrBits s)

/-- DDR comes up once the memory is trained and KEYSTORE is set. -/
theorem State.ddrUp_sets (htrained : s.pw.ddrTrained = true) (hks : s.ready 2 = true) (hm : s.fc.mstate ≠ .fault) :
    s.ddrUp.ready 4 = true := by
  by_cases h4 : s.ready 4 = true
  · exact (risen_ddrUp s).held 4 h4
  · unfold State.ddrUp
    rw [if_neg (by simp [htrained, hks, hm, h4])]
    exact (risen_ddrBits s).held 4 (State.ready_setReady_same _ (by decide))

/-! ### STREAM (R639) -/

theorem State.createSlot_eq {inst lo hi n : Nat} {x : Slot} (h : s.createSlot inst lo hi x = .ok (n, t)) :
    ∃ slots free, t = { s with ks := { s.ks with slots := slots }, free := free } := by
  have hpick : ∃ free, (s.pickSlot lo hi).2 = { s with free := free } := by
    unfold State.pickSlot
    dsimp only
    split <;> exact ⟨_, rfl⟩
  obtain ⟨free, hf⟩ := hpick
  unfold State.createSlot at h
  split at h
  · exact nomatch h
  · split at h
    · rename_i m v hp
      obtain ⟨rfl, rfl⟩ := Prod.mk.inj (Except.ok.inj h)
      have hv : v = { s with free := free } := (congrArg Prod.snd hp).symm.trans hf
      rw [hv]
      exact ⟨_, free, rfl⟩
    · exact nomatch h

theorem risen_instantiateNode (s : State) (n : Nat) : Risen s (s.instantiateNode n).2 := by
  unfold State.instantiateNode
  split
  · exact Risen.refl s
  · split
    · exact Risen.refl s
    · split
      · rename_i h
        obtain ⟨slots, free, he⟩ := State.createSlot_eq h
        rw [he]
        exact risen_of_kept rfl rfl rfl rfl fun _ => rfl
      · exact Risen.refl s

theorem risen_restorePolicy (s : State) (p : Nat) (pol : EventPolicy) (node second : Option Nat) :
    Risen s (s.restorePolicy p pol node second) := by
  unfold State.restorePolicy
  extract_lets take a b tr
  have htake : ∀ (u : State) (n : Option Nat), Risen u (take u n).2 := fun u n => by
    cases n with
    | none => exact Risen.refl u
    | some n => exact risen_instantiateNode u n
  exact ((htake s node).trans (htake a.2 second)).trans (risen_of_kept rfl rfl rfl rfl fun _ => rfl)

theorem risen_streamsUp (s : State) : Risen s s.streamsUp := by
  unfold State.streamsUp
  split
  · exact Risen.refl s
  · exact (risen_foldl _ (fun u e => risen_restorePolicy u e.1 e.2.1 e.2.2.1 e.2.2.2) s.n6.policies s).trans
      (risen_setReady _ (by decide))

/-! ### All of them -/

theorem risen_readyUp (s : State) : Risen s s.readyUp :=
  ((risen_keystoreUp s).trans (risen_ddrUp _)).trans (risen_streamsUp _)

theorem State.readyUp_sets_keystore (hroots : s.ks.roots = .ready) (hrng : s.ready 3 = true) (hnv : s.ready 23 = true)
    (hdown : s.ready 2 = false) (hm : s.fc.mstate ≠ .fault) :
    s.readyUp.ready 2 = true ∧ s.readyUp.ks.kchk.length = 32 := by
  obtain ⟨h2, hlen⟩ := State.keystoreUp_sets hroots hrng hnv hdown hm
  have hlater : Risen s.keystoreUp s.readyUp := (risen_ddrUp _).trans (risen_streamsUp _)
  exact ⟨hlater.held 2 h2, by rw [hlater.kchk h2]; exact hlen⟩

theorem State.readyUp_sets_ddr (htrained : s.pw.ddrTrained = true) (hks : s.ready 2 = true) (hm : s.fc.mstate ≠ .fault) :
    s.readyUp.ready 4 = true := by
  have hfirst := risen_keystoreUp s
  refine (risen_streamsUp _).held 4 (State.ddrUp_sets ?_ (hfirst.held 2 hks) ?_)
  · rw [hfirst.pw]
    exact htrained
  · rw [hfirst.mstate]
    exact hm

end Sys2Proof.Machine
end

section
/-! SUPPORT. The events of a start-up: the verified image, the roots, the NV scan and the trained memory (R434, R435,
R627 to R630). -/

namespace Sys2Proof.Machine

variable {s t : State}

/-! ### The image that runs (R627, R629) -/

/-- The image that is run: A (`true`) or B, or none. -/
def firmwareChoice (okA okB first : Bool) : Option Bool :=
  if first then (if okA then some true else if okB then some false else none)
  else if okB then some false else if okA then some true else none

/-- What a verification leaves in an image's field: 3 for the image that runs, 1 or 2 for one that was tested. -/
def imageCode (ok runs tested : Bool) (was : Nat) : Nat := if !tested then was else if runs then 3 else if ok then 1 else 2

theorem firmwareChoice_none (first : Bool) : firmwareChoice false false first = none := by
  cases first <;> rfl

/-- Of two images the preferred one runs if it passed, and else the other. -/
theorem firmwareChoice_some : ∀ {okA okB : Bool}, (okA || okB) = true → ∀ first : Bool,
    firmwareChoice okA okB first = some (first && okA || !okB) := by decide

/-- Both images' fields after the verification. -/
def State.imagesTested (s : State) (okA okB : Bool) : State :=
  { s with pw := { s.pw with
      imgA := imageCode okA (firmwareChoice okA okB (s.pw.preferred == 0) == some true) (s.pw.preferred == 0 || !okB) s.pw.imgA
      imgB := imageCode okB (firmwareChoice okA okB (s.pw.preferred == 0) == some false) (!(s.pw.preferred == 0) || !okA)
        s.pw.imgB } }

/-- The MP runs an image of version `v`. -/
def State.runsImage (s : State) (v : Nat) : State :=
  { s with mp := { s.mp with
      state := .run, pair0Ok := true, pair1Ok := true, fw := (v % 256, v / 256 % 256, v / 65536 % 65536) } }

theorem firmwareVerify_runs (sigA sigB : Bool) (hboot : s.mp.state = .boot) (hon : s.domain 1 = .on)
    (himg : s.pw.imgA ≠ 2 ∨ s.pw.imgB ≠ 2) : execFirmwareVerify sigA sigB s =
      let okA := sigA && s.pw.floor ≤ s.pw.imgAVersion
      let okB := sigB && s.pw.floor ≤ s.pw.imgBVersion
      match firmwareChoice okA okB (s.pw.preferred == 0) with
      | none => .next (s.imagesTested okA okB)
      | some a =>
        let u := (s.imagesTested okA okB).runsImage (if a then s.pw.imgAVersion else s.pw.imgBVersion)
        .next (if u.fc.mstate = .fault then u else (u.setReady 1 true).readyUp) := by
  unfold execFirmwareVerify
  rw [if_neg (by tauto)]
  rfl

/-- The state with an image running, and FIRMWARE set outside FAULT. -/
theorem risen_firmware (u : State) : Risen u (if u.fc.mstate = .fault then u else (u.setReady 1 true).readyUp) := by
  split
  · exact Risen.refl u
  · exact (risen_setReady u (by decide)).trans (risen_readyUp _)

/-- Where neither image passed both are failed. -/
theorem State.imagesTested_none (s : State) : (s.imagesTested false false).pw.imgA = 2 ∧ (s.imagesTested false false).pw.imgB = 2 := by
  unfold State.imagesTested
  dsimp only
  rw [firmwareChoice_none]
  cases s.pw.preferred == 0 <;> exact ⟨rfl, rfl⟩

/-- The image that is chosen is marked as running. -/
theorem imageCode_chosen : ∀ {okA okB : Bool} (first : Bool), (okA || okB) = true → ∀ wasA wasB,
    ((first && okA || !okB) = true → imageCode okA (firmwareChoice okA okB first == some true) (first || !okB) wasA = 3) ∧
    ((first && okA || !okB) = false → imageCode okB (firmwareChoice okA okB first == some false) (!first || !okA) wasB = 3)
  | true, true, true, _, _, _ => ⟨fun _ => rfl, fun h => nomatch h⟩
  | true, false, true, _, _, _ => ⟨fun _ => rfl, fun h => nomatch h⟩
  | true, false, false, _, _, _ => ⟨fun _ => rfl, fun h => nomatch h⟩
  | true, true, false, _, _, _ => ⟨fun h => (nomatch h), fun _ => rfl⟩
  | false, true, true, _, _, _ => ⟨fun h => (nomatch h), fun _ => rfl⟩
  | false, true, false, _, _, _ => ⟨fun h => (nomatch h), fun _ => rfl⟩

/-- Once an image runs the MP is in RUN with its version, the image is marked, and FIRMWARE is set outside FAULT. -/
theorem State.imagesTested_some (s : State) {okA okB a : Bool} (hany : (okA || okB) = true)
    (ha : (s.pw.preferred == 0 && okA || !okB) = a) (v : Nat) {u t : State} (hu : u = (s.imagesTested okA okB).runsImage v)
    (ht : t = if u.fc.mstate = .fault then u else (u.setReady 1 true).readyUp) :
    (∀ i, s.ready i = true → t.ready i = true) ∧ t.mp.state = .run ∧ (s.fc.mstate ≠ .fault → t.ready 1 = true) ∧
      t.mp.fw = (v % 256, v / 256 % 256, v / 65536 % 65536) ∧ (a = true → t.pw.imgA = 3) ∧ (a = false → t.pw.imgB = 3) := by
  have hrisen : Risen u t := ht ▸ risen_firmware u
  obtain ⟨hA, hB⟩ := imageCode_chosen (s.pw.preferred == 0) hany s.pw.imgA s.pw.imgB
  rw [ha] at hA hB
  refine ⟨fun i hi => hrisen.held i (by rw [hu]; exact hi), ?_, fun hm => ?_, ?_, fun h => ?_, fun h => ?_⟩
  · rw [hrisen.mp, hu]
    rfl
  · rw [ht, if_neg (by rw [hu]; exact hm)]
    exact (risen_readyUp _).held 1 (State.ready_setReady_same _ (by decide))
  · rw [hrisen.mp, hu]
    rfl
  · rw [hrisen.pw, hu]
    exact hA h
  · rw [hrisen.pw, hu]
    exact hB h

/-- FIRMWARE_VERIFY in BOOT. -/
theorem firmwareVerify_answers (sigA sigB : Bool) (hboot : s.mp.state = .boot) (hon : s.domain 1 = .on)
    (himg : s.pw.imgA ≠ 2 ∨ s.pw.imgB ≠ 2) : answers (.firmwareVerify sigA sigB) s fun t =>
      let okA := sigA = true ∧ s.pw.floor ≤ s.pw.imgAVersion
      let okB := sigB = true ∧ s.pw.floor ≤ s.pw.imgBVersion
      (∀ i, s.ready i = true → t.ready i = true) ∧
      (¬okA → ¬okB → t.mp.state = .boot ∧ t.pw.imgA = 2 ∧ t.pw.imgB = 2 ∧ t.pw.ready = s.pw.ready) ∧
      (okA ∨ okB → t.mp.state = .run ∧ (s.fc.mstate ≠ .fault → t.ready 1 = true) ∧
        let a := s.pw.preferred = 0 ∧ okA ∨ ¬okB
        let v := if a then s.pw.imgAVersion else s.pw.imgBVersion
        t.mp.fw = (v % 256, v / 256 % 256, v / 65536 % 65536) ∧ (a → t.pw.imgA = 3) ∧ (¬a → t.pw.imgB = 3)) := by
  have hrun := firmwareVerify_runs sigA sigB hboot hon himg
  have hA : (sigA = true ∧ s.pw.floor ≤ s.pw.imgAVersion) ↔ (sigA && decide (s.pw.floor ≤ s.pw.imgAVersion)) = true := by
    rw [Bool.and_eq_true, decide_eq_true_eq]
  have hB : (sigB = true ∧ s.pw.floor ≤ s.pw.imgBVersion) ↔ (sigB && decide (s.pw.floor ≤ s.pw.imgBVersion)) = true := by
    rw [Bool.and_eq_true, decide_eq_true_eq]
  dsimp only at hrun ⊢
  simp only [hA, hB]
  generalize (sigA && decide (s.pw.floor ≤ s.pw.imgAVersion)) = okA at hrun ⊢
  generalize (sigB && decide (s.pw.floor ≤ s.pw.imgBVersion)) = okB at hrun ⊢
  cases hany : okA || okB with
  | false =>
    obtain ⟨rfl, rfl⟩ := Bool.or_eq_false_iff.1 hany
    rw [firmwareChoice_none] at hrun
    obtain ⟨himgA, himgB⟩ := s.imagesTested_none
    exact ⟨_, hrun, fun i hi => hi, fun _ _ => ⟨hboot, himgA, himgB, rfl⟩, fun h => by simp at h⟩
  | true =>
    rw [firmwareChoice_some hany] at hrun
    have ha : (s.pw.preferred = 0 ∧ okA = true ∨ ¬okB = true) ↔ (s.pw.preferred == 0 && okA || !okB) = true := by simp
    simp only [ha]
    simp only [Bool.not_eq_true]
    obtain ⟨hheld, hstate, hready, hfw, himgA, himgB⟩ := s.imagesTested_some hany rfl _ rfl rfl
    refine ⟨_, hrun, hheld, fun hnA hnB => ?_, fun _ => ⟨hstate, hready, hfw, himgA, himgB⟩⟩
    rw [hnA, hnB] at hany
    cases hany

/-! ### The roots, the NV scan and the memory (R434, R435, R630) -/

/-- At most three failed attempts make the roots ready. -/
theorem pufReconstruction_ready {n : Nat} (hn : n < 4) (hon : s.domain 3 = .on) (hcap : s.al.capReady = true)
    (hroots : s.ks.roots = .pending) (hm : s.fc.mstate ≠ .fault) :
    ∃ ks, ks.roots = .ready ∧ execPufReconstruction n s = .next ({ s with ks := ks } : State).readyUp := by
  unfold execPufReconstruction
  rw [if_neg (by simp [hon, hcap, hroots, hm]), if_neg (by omega)]
  exact ⟨_, rfl, rfl⟩

/-- Entering FAULT leaves the key store. -/
theorem State.enterFault_ks (s : State) (kind : Nat) (byAlarm : Bool) : (s.enterFault kind byAlarm).ks = s.ks := by
  unfold State.enterFault
  extract_lets fc s1 s2 fc' tr tw mp s3 s4
  have h2 : QueueTraffic s1 s2 := (QueueTraffic.refl s1).postEvent _ _ _ _ _
  obtain ⟨lost, us, h4⟩ := s4.setReadyBits_traffic (s4.pw.ready &&& faultBits)
  split
  · rfl
  · exact h4.ks.trans h2.ks

/-- The fault of a fourth failed attempt. -/
def pufFault : FaultMsg := { source := 0x420, access := 0, kind := 0x32, master := 5, address := 4, fatal := true }

/-- A fourth failed attempt makes the roots FAILED and SERVICE FAULT. -/
theorem pufReconstruction_fails {n : Nat} (hn : 4 ≤ n) (hon : s.domain 3 = .on) (hcap : s.al.capReady = true)
    (hroots : s.ks.roots = .pending) (hm : s.fc.mstate ≠ .fault) :
    ∃ t, execPufReconstruction n s = .next t ∧ t.ks.roots = .failed ∧
      (s.fc.mstate = .service → t.fc.mstate = .fault ∧ t.fc.cause = 0x32) := by
  have hrun : execPufReconstruction n s = .next (({ s with ks := { s.ks with roots := .failed } } : State).raise pufFault) := by
    unfold execPufReconstruction
    rw [if_neg (by simp [hon, hcap, hroots, hm]), if_pos hn]
    rfl
  refine ⟨_, hrun, ?_⟩
  rw [State.raise_fatal_eq (m := pufFault) rfl fun t => show t.countDcm 0x32 = t from if_neg (by decide)]
  obtain ⟨fc, he, hfc⟩ := State.collect_eq { s with ks := { s.ks with roots := .failed } } pufFault 2
  generalize State.collect _ pufFault 2 = u at he ⊢
  have hks : u.ks.roots = .failed := by rw [he]; rfl
  have hmstate : u.fc.mstate = s.fc.mstate := by rw [he]; exact hfc
  refine ⟨by rw [u.enterFault_ks]; exact hks, fun hs => ?_⟩
  have hf := State.enterFault_entered (hmstate.trans hs) pufFault.kind false
  exact ⟨hf.mstate, hf.cause⟩

theorem pufReconstruction_answers (n : Nat) (hon : s.domain 3 = .on) (hcap : s.al.capReady = true)
    (hroots : s.ks.roots = .pending) (hm : s.fc.mstate ≠ .fault) : answers (.pufReconstruction n) s fun t =>
      (n < 4 → t.ks.roots = .ready ∧ ∀ i, s.ready i = true → t.ready i = true) ∧
      (4 ≤ n → t.ks.roots = .failed ∧ (s.fc.mstate = .service → t.fc.mstate = .fault ∧ t.fc.cause = 0x32)) ∧
      (n < 4 → s.ready 3 = true → s.ready 23 = true → s.ready 2 = false → t.ready 2 = true ∧ t.ks.kchk.length = 32) := by
  rcases Nat.lt_or_ge n 4 with hn | hn
  · obtain ⟨ks, hks, hrun⟩ := pufReconstruction_ready hn hon hcap hroots hm
    have hrisen := risen_readyUp { s with ks := ks }
    refine ⟨_, hrun, fun _ => ⟨hrisen.roots.trans hks, hrisen.held⟩, fun h => absurd hn (Nat.not_lt.2 h), fun _ h3 h23 h2 => ?_⟩
    exact State.readyUp_sets_keystore (s := { s with ks := ks }) hks h3 h23 h2 hm
  · obtain ⟨t, hrun, hfailed, hfault⟩ := pufReconstruction_fails hn hon hcap hroots hm
    exact ⟨t, hrun, fun h => absurd h (Nat.not_lt.2 hn), fun _ => ⟨hfailed, hfault⟩, fun h => absurd h (Nat.not_lt.2 hn)⟩

theorem nvStartupScan_answers (hon : s.domain 3 = .on) (hm : s.fc.mstate ≠ .fault) : answers .nvStartupScan s fun t =>
    t.ready 23 = true ∧ (∀ i, s.ready i = true → t.ready i = true) ∧
      (s.ks.roots = .ready → s.ready 3 = true → t.ready 2 = true) := by
  have hrun : execNvStartupScan s = .next (s.setReady 23 true).readyUp := if_neg (by simp [hon, hm])
  have hset : Risen s (s.setReady 23 true) := risen_setReady s (by decide)
  have hup := risen_readyUp (s.setReady 23 true)
  have h23 : (s.setReady 23 true).ready 23 = true := s.ready_setReady_same (by decide)
  refine ⟨_, hrun, hup.held 23 h23, (hset.trans hup).held, fun hroots h3 => ?_⟩
  cases h2 : (s.setReady 23 true).ready 2 with
  | true => exact hup.held 2 h2
  | false =>
    exact (State.readyUp_sets_keystore (hset.roots.trans hroots) (hset.held 3 h3) h23 h2 (by rw [hset.mstate]; exact hm)).1

theorem ddrTrainingDone_answers (hon : s.domain 19 = .on) : answers .ddrTrainingDone s fun t =>
    t.pw.ddrTrained = true ∧ (∀ i, s.ready i = true → t.ready i = true) ∧
      (s.ready 2 = true → s.fc.mstate ≠ .fault → t.ready 4 = true) := by
  have hrun : execDdrTrainingDone s = .next ({ s with pw := { s.pw with ddrTrained := true } } : State).readyUp :=
    if_neg (not_not.2 hon)
  have hup := risen_readyUp { s with pw := { s.pw with ddrTrained := true } }
  refine ⟨_, hrun, ?_, hup.held, fun h2 hm => ?_⟩
  · rw [hup.pw]
  · exact State.readyUp_sets_ddr (s := { s with pw := { s.pw with ddrTrained := true } }) rfl h2 hm

end Sys2Proof.Machine
end

section
/-! SUPPORT. The restoration of the configuration (R636): the groups that it asks for, and the alarm that it files. -/

namespace Sys2Proof.Machine

variable {s t : State}

/-! ### Registers that are staged -/

/-- Shadows written one after the other. -/
def writeShadows (sh : Tab Reg) (ws : List (Nat × Nat)) : Tab Reg :=
  ws.foldl (fun sh w => tset sh w.1 (BitVec.ofNat 32 w.2)) sh

theorem foldl_setShadow_writes (ws : List (Nat × Nat)) : ∀ s : State,
    ws.foldl (fun (s : State) w => s.setShadow w.1 w.2) s = { s with shadow := writeShadows s.shadow ws } := by
  induction ws with
  | nil => exact fun s => rfl
  | cons w ws ih => exact fun s => ih (s.setShadow w.1 w.2)

/-- A register that no write names keeps its shadow. -/
theorem tget_writeShadows_other {o : Nat} : ∀ (ws : List (Nat × Nat)) (sh : Tab Reg), (∀ w ∈ ws, w.1 ≠ o) →
    tget (writeShadows sh ws) o = tget sh o
  | [], _, _ => rfl
  | w :: ws, sh, h => by
    obtain ⟨hw, hws⟩ := List.forall_mem_cons.1 h
    exact (tget_writeShadows_other ws _ hws).trans (tget_tset_other _ _ hw.symm)

/-- A register that the writes name with one value has that value staged. -/
theorem tget_writeShadows_same {o v : Nat} : ∀ (ws : List (Nat × Nat)) (sh : Tab Reg), (∀ w ∈ ws, w.1 = o → w.2 = v) →
    (∃ w ∈ ws, w.1 = o) ∨ tget sh o = some (BitVec.ofNat 32 v) → tget (writeShadows sh ws) o = some (BitVec.ofNat 32 v)
  | [], _, _, h => h.resolve_left (by rintro ⟨w, hw, -⟩; exact List.not_mem_nil hw)
  | w :: ws, sh, hall, h => by
    obtain ⟨hw, hws⟩ := List.forall_mem_cons.1 hall
    refine tget_writeShadows_same ws _ hws ?_
    by_cases ho : w.1 = o
    · rw [← ho, ← hw ho]
      exact .inr (tget_tset_same _ _ _)
    · refine h.imp ?_ fun hs => (tget_tset_other _ _ (Ne.symm ho)).trans hs
      rintro ⟨x, hx, hxo⟩
      rcases List.mem_cons.1 hx with rfl | hx
      · exact absurd hxo ho
      · exact ⟨x, hx, hxo⟩

/-! ### The groups that are asked for (R105) -/

/-- The recorded registers of a group. -/
def restoredWrites (regs : Tab Reg) (g : Nat) : List (Nat × Nat) :=
  (regs.filter fun e => groupOf e.1 == some g).map fun e => (e.1, e.2.toNat)

/-- The set that restores a group. -/
def restoredSet (regs : Tab Reg) (g : Nat × Option Nat) : MpSet :=
  { groups := BitVec.ofNat 16 (2 ^ g.1), need := g.2, writes := restoredWrites regs g.1 }

theorem mem_restoredWrites {regs : Tab Reg} {g : Nat} {w : Nat × Nat} :
    w ∈ restoredWrites regs g ↔ ∃ v, (w.1, v) ∈ regs ∧ groupOf w.1 = some g ∧ w.2 = v.toNat := by
  unfold restoredWrites
  rw [List.mem_map]
  constructor
  · rintro ⟨e, he, rfl⟩
    obtain ⟨hmem, hg⟩ := List.mem_filter.1 he
    exact ⟨e.2, hmem, beq_iff_eq.1 hg, rfl⟩
  · rintro ⟨v, hmem, hg, hv⟩
    exact ⟨(w.1, v), List.mem_filter.2 ⟨hmem, beq_iff_eq.2 hg⟩, Prod.ext rfl hv.symm⟩

/-- The set of a group that is asked for changes shadows, what is pending and what waits, and nothing else. -/
theorem State.requestSet_restored (s : State) (regs : Tab Reg) (g : Nat × Option Nat) : ∃ sh cfg sets,
    s.requestSet (restoredSet regs g) = { s with shadow := sh, cfg := cfg, mpSets := sets } := by
  unfold State.requestSet
  split
  · exact ⟨s.shadow, s.cfg, _, rfl⟩
  · unfold State.stageMp restoredSet
    dsimp only
    rw [foldl_setShadow_writes]
    exact ⟨_, _, s.mpSets, rfl⟩

/-- The MP asks for a recorded group. -/
def State.askRestored (s : State) (g : Nat × Option Nat) : State := s.requestSet (restoredSet s.n6.regs g)

theorem foldl_askRestored : ∀ (gs : List (Nat × Option Nat)) (s : State), ∃ sh cfg sets,
    gs.foldl State.askRestored s = { s with shadow := sh, cfg := cfg, mpSets := sets }
  | [], s => ⟨s.shadow, s.cfg, s.mpSets, rfl⟩
  | g :: gs, s => by
    obtain ⟨sh, cfg, sets, h⟩ := s.requestSet_restored s.n6.regs g
    obtain ⟨sh', cfg', sets', h'⟩ := foldl_askRestored gs (s.askRestored g)
    have hg : s.askRestored g = { s with shadow := sh, cfg := cfg, mpSets := sets } := h
    exact ⟨sh', cfg', sets', h'.trans (by rw [hg])⟩

/-- Writes that are staged, with the groups that are pending then. -/
def State.staged (s : State) (ws : List (Nat × Nat)) (pending byMp : BitVec 16) : State :=
  { s with shadow := writeShadows s.shadow ws, cfg := { s.cfg with pending := pending, byMp := byMp } }

theorem State.staged_staged (s : State) (ws ws' : List (Nat × Nat)) (p m p' m' : BitVec 16) :
    (s.staged ws p m).staged ws' p' m' = s.staged (ws ++ ws') p' m' := by
  unfold State.staged writeShadows
  rw [List.foldl_append]

/-- A group that is free, and whose ready bit is set, is staged at once. -/
theorem State.askRestored_stages {g : Nat × Option Nat} (hrun : s.mp.state = .run) (hsets : s.mpSets = [])
    (hready : ∀ b ∈ g.2, s.ready b = true) (hfree : s.cfg.pending &&& BitVec.ofNat 16 (2 ^ g.1) = 0) : ∃ byMp,
    s.askRestored g = s.staged (restoredWrites s.n6.regs g.1) (s.cfg.pending ||| BitVec.ofNat 16 (2 ^ g.1)) byMp := by
  have hstage : ¬(s.setWaits (restoredSet s.n6.regs g) = true ∨
      (s.mpSets.any fun y => s.groupsOf y &&& s.groupsOf (restoredSet s.n6.regs g) != 0) = true) := by
    have hneed : (g.2.any fun b => !s.ready b) = false := by
      cases hg : g.2 with
      | none => rfl
      | some b => simp [hready b (by rw [hg]; rfl)]
    have hbusy : s.groupsBusy (BitVec.ofNat 16 (2 ^ g.1)) = false := by
      unfold State.groupsBusy
      rw [hfree]
      rfl
    have hwaits : s.setWaits (restoredSet s.n6.regs g) = false := by
      unfold State.setWaits
      rw [show s.groupsOf (restoredSet s.n6.regs g) = BitVec.ofNat 16 (2 ^ g.1) from rfl,
        show (restoredSet s.n6.regs g).need = g.2 from rfl, hbusy, hneed, hrun]
      rfl
    rw [hwaits, hsets]
    simp
  unfold State.askRestored State.requestSet
  rw [if_neg hstage]
  unfold State.stageMp restoredSet
  dsimp only
  rw [foldl_setShadow_writes]
  exact ⟨_, rfl⟩

theorem or_and_right_bits {w : Nat} (a b c : BitVec w) : (a ||| b) &&& c = (a &&& c) ||| (b &&& c) := by
  ext i
  simp [Bool.and_or_distrib_right]

/-- Groups of which none is pending are all staged. -/
theorem foldl_askRestored_stages : ∀ (gs : List (Nat × Option Nat)) (s : State), s.mp.state = .run →
    s.mpSets = [] → (∀ g ∈ gs, ∀ b ∈ g.2, s.ready b = true) →
    (∀ g ∈ gs, s.cfg.pending &&& BitVec.ofNat 16 (2 ^ g.1) = 0) →
    gs.Pairwise (fun g h => BitVec.ofNat 16 (2 ^ g.1) &&& BitVec.ofNat 16 (2 ^ h.1) = 0) → ∃ byMp,
    gs.foldl State.askRestored s = s.staged (gs.flatMap fun g => restoredWrites s.n6.regs g.1)
      (gs.foldl (fun p g => p ||| BitVec.ofNat 16 (2 ^ g.1)) s.cfg.pending) byMp
  | [], s, _, _, _, _, _ => ⟨s.cfg.byMp, rfl⟩
  | g :: gs, s, hrun, hsets, hready, hfree, hapart => by
    obtain ⟨hg, hgs⟩ := List.forall_mem_cons.1 hready
    obtain ⟨hfg, hfgs⟩ := List.forall_mem_cons.1 hfree
    obtain ⟨hag, hags⟩ := List.pairwise_cons.1 hapart
    obtain ⟨byMp, h⟩ := State.askRestored_stages hrun hsets hg hfg
    have hstill : ∀ x ∈ gs, (s.cfg.pending ||| BitVec.ofNat 16 (2 ^ g.1)) &&& BitVec.ofNat 16 (2 ^ x.1) = 0 := fun x hx => by
      rw [or_and_right_bits, hfgs x hx, hag x hx]
      rfl
    obtain ⟨byMp', h'⟩ := foldl_askRestored_stages gs
      (s.staged (restoredWrites s.n6.regs g.1) (s.cfg.pending ||| BitVec.ofNat 16 (2 ^ g.1)) byMp) hrun hsets hgs hstill hags
    exact ⟨byMp', by rw [List.foldl_cons, h, h', State.staged_staged]; rfl⟩

/-! ### CONFIG_RESTORE (R636) -/

/-- A record that is kept is in the history, at its end where it is new. -/
theorem State.keepRecord_history (s : State) (r : LogRecord) : r ∈ (s.keepRecord r).fc.history ∧
    (r ∉ s.fc.history → (s.keepRecord r).fc.history.getLast? = some r) := by
  unfold State.keepRecord
  by_cases hr : r ∈ s.fc.history
  · rw [if_pos (by rw [List.contains_iff_mem]; exact hr)]
    exact ⟨hr, fun h => absurd hr h⟩
  · rw [if_neg (by rw [List.contains_iff_mem]; exact hr)]
    dsimp only
    rw [List.drop_append_of_le_length (by omega)]
    exact ⟨by simp, fun _ => by simp⟩

/-- The state from which the groups are asked for: the alarm is filed, and the groups are under restoration. -/
def State.restoring (s : State) : State :=
  let s := s.al.record.toList.foldl State.keepRecord s
  { s with pw := { s.pw with restoring := 0x83C0 }, al := { s.al with record := none } }

theorem State.restoring_eq (s : State) : ∃ fc, s.restoring = { s with
    fc := fc, pw := { s.pw with restoring := 0x83C0 }, al := { s.al with record := none } } ∧
    ∀ r, s.al.record = some r → r ∈ fc.history ∧ (r ∉ s.fc.history → fc.history.getLast? = some r) := by
  have hfiled : ∃ fc, s.al.record.toList.foldl State.keepRecord s = { s with fc := fc } ∧
      ∀ r, s.al.record = some r → r ∈ fc.history ∧ (r ∉ s.fc.history → fc.history.getLast? = some r) := by
    cases hr : s.al.record with
    | none => exact ⟨s.fc, rfl, fun r h => nomatch h⟩
    | some r =>
      have hkept : ∃ fc, s.keepRecord r = { s with fc := fc } := by
        unfold State.keepRecord
        split
        · exact ⟨s.fc, rfl⟩
        · exact ⟨_, rfl⟩
      obtain ⟨fc, h⟩ := hkept
      have hhist := s.keepRecord_history r
      rw [h] at hhist
      exact ⟨fc, h, fun r' h' => Option.some.inj h' ▸ hhist⟩
  obtain ⟨fc, h, hhist⟩ := hfiled
  refine ⟨fc, ?_, hhist⟩
  unfold State.restoring
  rw [h]

theorem configRestore_runs (hrun : s.mp.state = .run) (hrestored : s.pw.restored = false) (hrestoring : s.pw.restoring = 0) :
    execConfigRestore s = .next (restoreGroups.foldl State.askRestored s.restoring) :=
  if_neg (by simp [hrun, hrestored, hrestoring])

/-- No two of the five groups share a bit. -/
theorem restoreGroups_apart : restoreGroups.Pairwise
    (fun g h => BitVec.ofNat 16 (2 ^ g.1) &&& BitVec.ofNat 16 (2 ^ h.1) = 0) := by decide

theorem restoreGroups_within : ∀ g ∈ restoreGroups, (0x83C0 : BitVec 16) &&& BitVec.ofNat 16 (2 ^ g.1) = BitVec.ofNat 16 (2 ^ g.1) := by
  decide

/-- With the five groups free and the ready bits set every recorded register of them is staged. -/
theorem configRestore_stages (hrun : s.mp.state = .run) (hfree : s.cfg.pending &&& 0x83C0 = 0) (hsets : s.mpSets = [])
    (h2 : s.ready 2 = true) (h22 : s.ready 22 = true) (hrising : Tab.rising s.n6.regs = true) :
    (restoreGroups.foldl State.askRestored s.restoring).cfg.pending = s.cfg.pending ||| 0x83C0 ∧
      (∀ o v g, (o, v) ∈ s.n6.regs → groupOf o = some g → g ∈ [6, 7, 8, 9, 15] →
        tget (restoreGroups.foldl State.askRestored s.restoring).shadow o = some v) ∧
      (∀ o, (∀ e ∈ s.n6.regs, e.1 ≠ o) →
        tget (restoreGroups.foldl State.askRestored s.restoring).shadow o = tget s.shadow o) := by
  obtain ⟨fc, hstart, -⟩ := s.restoring_eq
  rw [hstart]
  have hbits : ∀ g ∈ restoreGroups, ∀ b ∈ g.2, s.ready b = true := by
    intro g hg b hb
    have hneed : b = 2 ∨ b = 22 := by
      revert b
      revert g
      decide
    rcases hneed with rfl | rfl
    · exact h2
    · exact h22
  have hgroups : ∀ g ∈ restoreGroups, s.cfg.pending &&& BitVec.ofNat 16 (2 ^ g.1) = 0 := fun g hg => by
    rw [← restoreGroups_within g hg, ← BitVec.and_assoc, hfree]
    exact BitVec.zero_and
  obtain ⟨byMp, h⟩ := foldl_askRestored_stages restoreGroups { s with
    fc := fc, pw := { s.pw with restoring := 0x83C0 }, al := { s.al with record := none } } hrun hsets hbits hgroups
    restoreGroups_apart
  rw [h]
  dsimp only
  refine ⟨?_, fun o v g hmem hg hin => ?_, fun o ho => ?_⟩
  · unfold restoreGroups
    simp only [List.foldl_cons, List.foldl_nil, BitVec.or_assoc]
    rfl
  · have hv : some v = some (BitVec.ofNat 32 v.toNat) := by rw [BitVec.ofNat_toNat, BitVec.setWidth_eq]
    rw [hv]
    refine tget_writeShadows_same _ _ (fun w hw hwo => ?_) (.inl ⟨(o, v.toNat), ?_, rfl⟩)
    · obtain ⟨x, -, hx⟩ := List.mem_flatMap.1 hw
      obtain ⟨u, hu, -, hwu⟩ := mem_restoredWrites.1 hx
      rw [hwo] at hu
      have huv : u = v := Option.some.inj ((tget_of_mem hrising hu).symm.trans (tget_of_mem hrising hmem))
      rw [hwu, huv]
    · have hall : ∀ g ∈ [6, 7, 8, 9, 15], ∃ x ∈ restoreGroups, x.1 = g := by decide
      obtain ⟨x, hx, rfl⟩ := hall g hin
      exact List.mem_flatMap.2 ⟨x, hx, mem_restoredWrites.2 ⟨v, hmem, hg, rfl⟩⟩
  · refine tget_writeShadows_other _ _ fun w hw => ?_
    obtain ⟨x, -, hx⟩ := List.mem_flatMap.1 hw
    obtain ⟨u, hu, -, -⟩ := mem_restoredWrites.1 hx
    exact ho _ hu

theorem configRestore_answers (hrun : s.mp.state = .run) (hrestored : s.pw.restored = false) (hrestoring : s.pw.restoring = 0)
    (hrising : Tab.rising s.n6.regs = true) : answers .configRestore s fun t =>
      t.pw.restoring = 0x83C0 ∧ t.pw.restored = false ∧ t.al.record = none ∧
        t.regs = s.regs ∧ t.insts = s.insts ∧ t.pw.domains = s.pw.domains ∧
        (s.cfg.pending &&& 0x83C0 = 0 → s.mpSets = [] → s.ready 2 = true → s.ready 22 = true →
          t.cfg.pending = s.cfg.pending ||| 0x83C0 ∧
          (∀ o v g, (o, v) ∈ s.n6.regs → groupOf o = some g → g ∈ [6, 7, 8, 9, 15] → tget t.shadow o = some v) ∧
          (∀ o, (∀ e ∈ s.n6.regs, e.1 ≠ o) → tget t.shadow o = tget s.shadow o)) ∧
        (∀ r, s.al.record = some r → r ∈ t.fc.history ∧ (r ∉ s.fc.history → t.fc.history.getLast? = some r)) := by
  have hstaged := fun hfree hsets h2 h22 => configRestore_stages hrun hfree hsets h2 h22 hrising
  refine ⟨_, configRestore_runs hrun hrestored hrestoring, ?_⟩
  obtain ⟨fc, hstart, hhist⟩ := s.restoring_eq
  obtain ⟨sh, cfg, sets, h⟩ := foldl_askRestored restoreGroups s.restoring
  generalize restoreGroups.foldl State.askRestored s.restoring = t at h hstaged ⊢
  rw [hstart] at h
  rw [h] at hstaged ⊢
  exact ⟨rfl, hrestored, rfl, rfl, rfl, rfl, hstaged, hhist⟩

end Sys2Proof.Machine
end

section
/-! SUPPORT. Domains that come on and go off (R435, R438, R639), and the instances that are restored (R636). -/

namespace Sys2Proof.Machine

variable {s t u : State}

/-! ### Completions leave the power state (R128, R165) -/

theorem State.queueCompletion_traffic (s : State) (q : Nat) (b : Job) (e : Ending) :
    QueueTraffic s (s.queueCompletion q b e) := by
  unfold State.queueCompletion
  extract_lets rs s₁ s₂ body s₃
  have h₁ : QueueTraffic s s₁ := by
    dsimp only [s₁]
    split
    · exact QueueTraffic.refl s
    · exact (QueueTraffic.refl s).emit _
  have h₂ : QueueTraffic s s₂ := by
    dsimp only [s₂]
    split
    · exact h₁
    · exact h₁.emit _
  have h₃ : QueueTraffic s s₃ := by
    dsimp only [s₃]
    split
    · exact h₂.onPair q _
    · exact h₂
  exact ((((h₃.placeCompletion q body).mirror q).moderate q).checkStall q).checkIdle q

theorem State.sendReply_pw (s : State) (b : Job) (e : Ending) (p : Bytes) : (s.sendReply b e p).pw = s.pw := by
  unfold State.sendReply
  extract_lets s₁
  have h₁ : s₁.pw = s.pw := by
    dsimp only [s₁]
    split <;> rfl
  split
  · obtain ⟨mp, versions, hv⟩ := s₁.setVersion_eq b.src b.inst _
    rw [hv]
    exact h₁
  · exact h₁

theorem State.addJob_pw (s : State) (b : Job) : (s.addJob b).2.pw = s.pw := by
  unfold State.addJob
  dsimp only
  split <;> rfl

theorem State.taskLeft_pw (s : State) (b : Job) (e : Ending) : (s.taskLeft b e).pw = s.pw := by
  unfold State.taskLeft
  split
  · rfl
  · rename_i t _
    split
    · rename_i n _
      unfold State.subtreeLeft
      extract_lets s₁ left
      have h₁ : s₁.pw = s.pw := by
        dsimp only [s₁]
        split
        · exact s.addJob_pw _
        · rfl
      split
      · exact h₁
      · exact h₁
    · exact State.onJob_pw _ _ _

theorem State.writeCompletion_pw (s : State) (j : Nat) : (s.writeCompletion j).pw = s.pw := by
  unfold State.writeCompletion
  split
  · rfl
  · split
    · rfl
    · rename_i b _ e _
      extract_lets b' s₀
      have h₀ : s₀.pw = s.pw := rfl
      have hdetail : (s₀.withDetail b' e).2.pw = s.pw := by
        obtain ⟨n, hn⟩ := s₀.withDetail_eq b' e
        rw [hn]
        exact h₀
      split
      · split
        · exact ((QueueTraffic.refl s₀).checkIdle _).pw
        · rfl
      · split
        · split
          · exact (((QueueTraffic.refl s₀).placeCompletion _ _).checkIdle _).pw
          · exact (State.queueCompletion_traffic _ _ _ _).pw.trans hdetail
        · exact s₀.taskLeft_pw _ _
        · rfl
        · exact (State.sendReply_pw _ _ _ _).trans hdetail

theorem State.finish_pw (s : State) (j : Nat) : (s.finish j).pw = s.pw := by
  unfold State.finish
  dsimp only
  split
  · exact s.writeCompletion_pw j
  · exact s.writeCompletion_pw j

/-! ### What keeps the domains -/

theorem State.domain_of_pw (h : t.pw = s.pw) (d : Nat) : t.domain d = s.domain d := by
  unfold State.domain
  rw [h]

theorem State.domain_setDomain_same (s : State) (d : Nat) (x : DomainState) : (s.setDomain d x).domain d = x :=
  tgetD_tput_same _ _ _ _

theorem State.domain_setDomain_other (s : State) {e d : Nat} (x : DomainState) (h : e ≠ d) :
    (s.setDomain d x).domain e = s.domain e := tgetD_tput_other _ _ _ _ h

theorem State.domain_setReady (s : State) (i : Nat) (b : Bool) (d : Nat) : (s.setReady i b).domain d = s.domain d := by
  obtain ⟨_, _, h⟩ := s.setReady_traffic i b
  unfold State.domain
  rw [h.pw]

theorem domain_foldl {α : Type} (d : Nat) (f : State → α → State) (hf : ∀ s a, (f s a).domain d = s.domain d) :
    ∀ (l : List α) (s : State), (l.foldl f s).domain d = s.domain d
  | [], _ => rfl
  | a :: l, s => (domain_foldl d f hf l _).trans (hf s a)

theorem State.domain_failWaiting (s : State) (cls d : Nat) : (s.failWaiting cls).domain d = s.domain d := by
  unfold State.failWaiting
  split
  · rfl
  · refine domain_foldl d _ (fun u j => ?_) _ s
    exact State.domain_of_pw ((State.finish_pw _ j).trans (State.onJob_pw _ j _)) d

/-- The shutdown of one domain leaves the others. -/
theorem State.domain_domainOff (s : State) {e d : Nat} (h : d ≠ e) : (s.domainOff e).domain d = s.domain d := by
  unfold State.domainOff
  extract_lets s₁ classes s₂ tr s₃
  have h₁ : s₁.domain d = s.domain d := domain_foldl d _ (fun u b => u.domain_setReady b false d) _ s
  split
  · exact (domain_foldl d _ (fun u c => u.domain_failWaiting c d) classes _).trans
      ((s₁.domain_setDomain_other _ h).trans h₁)
  · have h₂ : s₂.domain d = s₁.domain d := domain_foldl d (fun (u : State) (x : Nat × Nat) => u.dropFrames x.2) (fun _ _ => rfl) _ s₁
    have h₃ : s₃.domain d = s₂.domain d := by
      dsimp only [s₃]
      split <;> rfl
    refine (State.domain_setDomain_other _ _ h).trans ?_
    exact h₃.trans (h₂.trans h₁)

/-- The ready bits that are due in a domain are set. -/
def State.setDueBits (s : State) (bits : List Nat) : State :=
  bits.foldl (fun s b => if s.bitDue b then s.setReady b true else s) s

theorem State.domain_setDueBits (s : State) (bits : List Nat) (d : Nat) : (s.setDueBits bits).domain d = s.domain d := by
  refine domain_foldl d _ (fun u b => ?_) bits s
  split
  · exact u.domain_setReady b true d
  · rfl

theorem State.domain_domainOn_other (s : State) {e d : Nat} (h : d ≠ e) : (s.domainOn e).domain d = s.domain d := by
  unfold State.domainOn
  split
  · exact s.domain_setDomain_other _ h
  · exact (State.domain_setDueBits _ _ d).trans (s.domain_setDomain_other _ h)
  · rfl

/-! ### The guard that applies POWER (R438) -/

/-- What a guard does with one domain. -/
def State.applyDomain (s : State) (was now : Nat) (d : Nat) : State :=
  if bitAt was d ∧ !bitAt now d then s.domainOff d
  else if bitAt now d ∧ (!bitAt was d ∨ s.domain d = .off) then s.domainOn d else s

theorem State.domain_applyDomain_other (s : State) (was now : Nat) {e d : Nat} (h : d ≠ e) :
    (s.applyDomain was now e).domain d = s.domain d := by
  unfold State.applyDomain
  split
  · exact s.domain_domainOff h
  · split
    · exact s.domain_domainOn_other h
    · rfl

theorem State.domain_applyDomain_off (s : State) (was : Nat) {now d : Nat} (hoff : s.domain d = .off) (hen : bitAt now d = true) :
    (s.applyDomain was now d).domain d = .powering := by
  unfold State.applyDomain
  rw [if_neg (by simp [hen]), if_pos ⟨hen, .inr hoff⟩]
  unfold State.domainOn
  rw [hoff]
  exact s.domain_setDomain_same d _

/-- Of the domains of a list one that is off and enabled begins to power. -/
theorem foldl_applyDomain (was now d : Nat) (hen : bitAt now d = true) : ∀ (l : List Nat) (s : State), l.Nodup →
    (d ∉ l → (l.foldl (fun s e => s.applyDomain was now e) s).domain d = s.domain d) ∧
    (d ∈ l → s.domain d = .off → (l.foldl (fun s e => s.applyDomain was now e) s).domain d = .powering)
  | [], _, _ => ⟨fun _ => rfl, fun h => absurd h List.not_mem_nil⟩
  | e :: l, s, hl => by
    obtain ⟨he, hl⟩ := List.nodup_cons.1 hl
    obtain ⟨hout, hin⟩ := foldl_applyDomain was now d hen l (s.applyDomain was now e) hl
    refine ⟨fun hd => ?_, fun hd hoff => ?_⟩
    · obtain ⟨hde, hdl⟩ := not_or.1 (mt List.mem_cons.2 hd)
      exact (hout hdl).trans (s.domain_applyDomain_other was now hde)
    · by_cases hde : d = e
      · subst hde
        exact (hout he).trans (s.domain_applyDomain_off was hoff hen)
      · exact hin ((List.mem_cons.1 hd).resolve_left hde) ((s.domain_applyDomain_other was now hde).trans hoff)

theorem State.applyPower_domain (s : State) (w : Nat → Nat) {d : Nat} (hd : d < 24) (hoff : s.domain d = .off)
    (hen : bitAt (w aPWR_CTL) d = true) : (s.applyPower w).domain d = .powering := by
  obtain ⟨-, hin⟩ := foldl_applyDomain (s.reg aPWR_CTL) (w aPWR_CTL) d hen (List.range 24) s List.nodup_range
  unfold State.applyPower
  extract_lets was s₁
  have h₁ : s₁.domain d = .powering := hin (List.mem_range.2 hd) hoff
  refine (domain_foldl d _ (fun u c => ?_) _ s₁).trans h₁
  split <;> rfl

/-! ### The instances that are restored (R636) -/

/-- A tenant as a restoration makes it: ACTIVE, with generation 1 and a wrapping key of 32 bytes. -/
def restoredInst (x : Instance) : Prop := x.state = .active ∧ x.gen = 1 ∧ x.wrapKey.length = 32

theorem State.applyMap_insts (s : State) (w : Nat → Nat) (n : Nat) : (s.applyMap w n).insts = s.insts := by
  have hfold : ∀ (f : State → Nat × Nat → State), (∀ u e, (f u e).insts = u.insts) →
      ∀ (l : List (Nat × Nat)) (u : State), (l.foldl f u).insts = u.insts := by
    intro f hf l
    induction l with
    | nil => exact fun _ => rfl
    | cons e l ih => exact fun u => (ih _).trans (hf u e)
  unfold State.applyMap
  extract_lets old new gone s₁
  have h₁ : s₁.insts = s.insts := hfold (fun s e => (s.resetPair e.2).setPair e.2 {}) (fun _ _ => rfl) gone s
  refine (hfold _ (fun u e => ?_) new s₁).trans h₁
  split <;> rfl

theorem State.inst_setInst_other (s : State) {m n : Nat} (x : Instance) (h : m ≠ n) : (s.setInst n x).inst m = s.inst m :=
  tgetD_tput_other _ _ _ _ h

theorem State.inst_restoreInstance_same (s : State) (w : Nat → Nat) (n : Nat) : restoredInst ((s.restoreInstance w n).inst n) := by
  have h : (s.restoreInstance w n).inst n = { state := .active, gen := 1, wrapKey := (s.drawBytes 32).1 } := by
    unfold State.restoreInstance State.inst
    rw [State.applyMap_insts]
    exact State.inst_setInst_same _ _ _
  rw [h]
  exact ⟨rfl, rfl, s.drawBytes_length 32⟩

theorem State.inst_restoreInstance_other (s : State) (w : Nat → Nat) {m n : Nat} (h : m ≠ n) :
    (s.restoreInstance w n).inst m = s.inst m := by
  unfold State.restoreInstance State.inst
  rw [State.applyMap_insts]
  exact State.inst_setInst_other _ _ h

theorem foldl_restoreInstance (w : Nat → Nat) (n : Nat) : ∀ (l : List Nat) (s : State), n ∈ l ∨ restoredInst (s.inst n) →
    restoredInst ((l.foldl (fun s n => s.restoreInstance w n) s).inst n)
  | [], _, h => h.resolve_left List.not_mem_nil
  | m :: l, s, h => by
    refine foldl_restoreInstance w n l (s.restoreInstance w m) ?_
    by_cases hm : n = m
    · exact .inr (hm ▸ s.inst_restoreInstance_same w n)
    · rw [s.inst_restoreInstance_other w hm]
      exact h.imp_left fun hn => (List.mem_cons.1 hn).resolve_left hm

theorem State.applyInstances_restores (s : State) (set : BitVec 16) (w : Nat → Nat) {n : Nat}
    (hrestoring : s.pw.restoring.getLsbD 8 = true) (hn : n ∈ s.n6.insts) : restoredInst ((s.applyGroup set w 8).inst n) := by
  show restoredInst ((s.restoreInstances w).inst n)
  unfold State.restoreInstances
  rw [if_pos hrestoring]
  exact foldl_restoreInstance w n s.n6.insts s (.inl hn)

/-! ### Domains that come on and go off (R435, R639) -/

/-- What is filtered out of a table by its key is read no more. -/
theorem tget_filter_gone {α : Type} {ks : List Nat} {k : Nat} (hk : k ∈ ks) (t : Tab α) :
    tget (t.filter fun e => !ks.contains e.1) k = none := by
  rw [tget_filter_key (fun i => !ks.contains i), List.contains_iff_mem.2 hk]
  rfl

/-- A cleared domain's engines hold no job, no context and no cached key. -/
theorem State.eng_clearDomain (s : State) {d : Nat} {e : Nat × Nat} (he : e ∈ domainEngines d) :
    (s.clearDomain d).eng (engKey e.1 e.2) = {} := by
  have hmem : engKey e.1 e.2 ∈ (domainEngines d).map fun e => engKey e.1 e.2 := List.mem_map.2 ⟨e, he, rfl⟩
  unfold State.clearDomain State.eng tgetD
  dsimp only
  rw [tget_filter_gone hmem]
  rfl

/-! ### The ready bits that are due (R639) -/

theorem lt_of_mem_domainBits {d b : Nat} (h : b ∈ domainBits d) : b < 24 := by
  unfold domainBits at h
  split_ifs at h <;> simp at h <;> omega

/-- A bit that is due stays due while bits rise and the microcode stands. -/
theorem State.bitDue_of_risen (h : Risen s t) (hmc : t.mc = s.mc) {b : Nat} (hb : s.bitDue b = true) : t.bitDue b = true := by
  unfold State.bitDue State.cluster at hb ⊢
  rw [hmc]
  split
  · rename_i hc
    rwa [if_pos hc] at hb
  · rename_i hc
    rw [if_neg hc] at hb
    split
    · rename_i h16
      rw [if_pos h16] at hb
      exact h.held 4 hb
    · rfl

/-- A bit is set if it is due. -/
def State.setDueBit (s : State) (b : Nat) : State := if s.bitDue b then s.setReady b true else s

theorem State.setDueBit_rises (s : State) {b : Nat} (hb : b < 24) : Risen s (s.setDueBit b) ∧ (s.setDueBit b).mc = s.mc := by
  unfold State.setDueBit
  split
  · exact ⟨risen_setReady s hb, s.setReady_mc b true⟩
  · exact ⟨Risen.refl s, rfl⟩

theorem risen_setDueBits : ∀ (bits : List Nat) (s : State), (∀ b ∈ bits, b < 24) → Risen s (s.setDueBits bits)
  | [], s, _ => Risen.refl s
  | b :: bits, s, h => by
    obtain ⟨hb, hbits⟩ := List.forall_mem_cons.1 h
    exact (s.setDueBit_rises hb).1.trans (risen_setDueBits bits (s.setDueBit b) hbits)

theorem State.setDueBits_sets (bits : List Nat) : ∀ s : State, (∀ b ∈ bits, b < 24) →
    ∀ b ∈ bits, s.bitDue b = true → (s.setDueBits bits).ready b = true := by
  induction bits with
  | nil => exact fun _ _ b hb => absurd hb List.not_mem_nil
  | cons c bits ih =>
    intro s h b hb hdue
    obtain ⟨hc, hbits⟩ := List.forall_mem_cons.1 h
    obtain ⟨hrisen, hmc⟩ := s.setDueBit_rises hc
    have hstep : s.setDueBits (c :: bits) = (s.setDueBit c).setDueBits bits := rfl
    rw [hstep]
    rcases List.mem_cons.1 hb with rfl | hb
    · have hset : (s.setDueBit b).ready b = true := by
        unfold State.setDueBit
        rw [if_pos hdue]
        exact s.ready_setReady_same hc
      exact (risen_setDueBits bits _ hbits).held b hset
    · exact ih (s.setDueBit c) hbits b hb (State.bitDue_of_risen hrisen hmc hdue)

theorem State.setReady_engines (s : State) (i : Nat) (b : Bool) : (s.setReady i b).engines = s.engines := by
  obtain ⟨_, _, h⟩ := s.setReady_traffic i b
  rw [h]

theorem State.setDueBits_engines : ∀ (bits : List Nat) (s : State), (s.setDueBits bits).engines = s.engines
  | [], _ => rfl
  | b :: bits, s => by
    refine (State.setDueBits_engines bits (s.setDueBit b)).trans ?_
    unfold State.setDueBit
    split
    · exact s.setReady_engines b true
    · rfl

/-! ### DOMAIN_POWER_ON and DOMAIN_POWER_OFF (R435, R438) -/

/-- The cleared domain `d` in the state `x`. -/
def State.cleared (s : State) (d : Nat) (x : DomainState) : State := (s.clearDomain d).setDomain d x

theorem State.cleared_empty (s : State) (d : Nat) (x : DomainState) (e : Nat × Nat) (he : e ∈ domainEngines d) :
    (s.cleared d x).eng (engKey e.1 e.2) = {} := s.eng_clearDomain he

theorem State.cleared_other (s : State) {d e : Nat} (x : DomainState) (h : e ≠ d) : (s.cleared d x).domain e = s.domain e :=
  State.domain_setDomain_other _ _ h

/-- The cages of a domain that comes on are powered. -/
def State.powerCages (s : State) (cages : List Nat) : State := cages.foldl (fun s c => s.setCage c { powered := true }) s

theorem State.powerCages_eq : ∀ (cages : List Nat) (s : State), ∃ tr, s.powerCages cages = { s with tr := tr }
  | [], s => ⟨s.tr, rfl⟩
  | c :: cages, s => State.powerCages_eq cages (s.setCage c { powered := true })

theorem domainPowerOn_runs (d : Nat) (hpow : s.domain d = .powering) (hrails : s.pw.rails = true) : ∃ cages,
    execDomainPowerOn d s = .next (if ((s.cleared d .on).powerCages cages).fc.mstate = .service then
      ((s.cleared d .on).powerCages cages).setDueBits (domainBits d) else (s.cleared d .on).powerCages cages) := by
  unfold execDomainPowerOn
  rw [if_neg (by simp [hpow, hrails])]
  extract_lets s₁ cages s₂
  refine ⟨cages, ?_⟩
  show (if s₂.fc.mstate = .service then (.next _ : Result) else .next _) = .next (if s₂.fc.mstate = .service then _ else _)
  split <;> rfl

theorem domainPowerOn_answers (d : Nat) (hpow : s.domain d = .powering) (hrails : s.pw.rails = true) :
    answers (.domainPowerOn d) s fun t =>
      t.domain d = .on ∧ (∀ e ∈ domainEngines d, t.eng (engKey e.1 e.2) = {}) ∧
        (s.fc.mstate = .service → ∀ b ∈ domainBits d, s.bitDue b = true → t.ready b = true) ∧
        (s.fc.mstate ≠ .service → t.pw.ready = s.pw.ready) ∧ ∀ e, e ≠ d → t.domain e = s.domain e := by
  obtain ⟨cages, hrun⟩ := domainPowerOn_runs d hpow hrails
  refine ⟨_, hrun, ?_⟩
  obtain ⟨tr, hcages⟩ := State.powerCages_eq cages (s.cleared d .on)
  have hon : ((s.cleared d .on).powerCages cages).domain d = .on := by
    rw [hcages]
    exact State.domain_setDomain_same _ _ _
  have hempty : ∀ e ∈ domainEngines d, ((s.cleared d .on).powerCages cages).eng (engKey e.1 e.2) = {} := fun e he => by
    rw [hcages]
    exact s.cleared_empty d .on e he
  have hother : ∀ e, e ≠ d → ((s.cleared d .on).powerCages cages).domain e = s.domain e := fun e he => by
    rw [hcages]
    exact s.cleared_other .on he
  have hmstate : ((s.cleared d .on).powerCages cages).fc.mstate = s.fc.mstate := by
    rw [hcages]
    rfl
  have hready : ((s.cleared d .on).powerCages cages).pw.ready = s.pw.ready := by
    rw [hcages]
    rfl
  have hdue : ∀ b, s.bitDue b = true → ((s.cleared d .on).powerCages cages).bitDue b = true := fun b hb => by
    rw [hcages]
    exact hb
  generalize (s.cleared d .on).powerCages cages = u at hon hempty hother hmstate hready hdue ⊢
  rw [hmstate]
  by_cases hs : s.fc.mstate = .service
  · rw [if_pos hs]
    refine ⟨(u.domain_setDueBits _ d).trans hon, fun e he => ?_, fun _ b hb hd => ?_, fun h => absurd hs h,
      fun e he => (u.domain_setDueBits _ e).trans (hother e he)⟩
    · unfold State.eng
      rw [State.setDueBits_engines]
      exact hempty e he
    · exact State.setDueBits_sets (domainBits d) u (fun b => lt_of_mem_domainBits) b hb (hdue b hd)
  · rw [if_neg hs]
    exact ⟨hon, hempty, fun h => absurd h hs, fun _ => hready, hother⟩

theorem domainPowerOff_empties (d : Nat) (hdrain : s.domain d = .draining)
    (hidle : ∀ e ∈ domainEngines d, (s.eng (engKey e.1 e.2)).busy = none ∧ (s.eng (engKey e.1 e.2)).saved = []) :
    answers (.domainPowerOff d) s fun t => t.domain d = .off ∧ (∀ e ∈ domainEngines d, t.eng (engKey e.1 e.2) = {}) ∧
      t.pw.ready = s.pw.ready ∧ ∀ e, e ≠ d → t.domain e = s.domain e := by
  have hstill : ¬(s.domain d ≠ .draining ∨ ((domainEngines d).any fun e =>
      (s.eng (engKey e.1 e.2)).busy.isSome || (s.eng (engKey e.1 e.2)).saved != []) = true) := by
    rw [List.any_eq_true]
    rintro (h | ⟨e, he, hbusy⟩)
    · exact h hdrain
    · obtain ⟨hb, hsaved⟩ := hidle e he
      rw [hb, hsaved] at hbusy
      cases hbusy
  exact ⟨s.cleared d .off, if_neg hstill, State.domain_setDomain_same _ _ _, s.cleared_empty d .off, rfl,
    fun e he => s.cleared_other .off he⟩

theorem domainPowerOff_waits (d : Nat) (hbusy : ∃ e ∈ domainEngines d, (s.eng (engKey e.1 e.2)).busy ≠ none) :
    answers (.domainPowerOff d) s fun t => t = s := by
  have hstill : s.domain d ≠ .draining ∨ ((domainEngines d).any fun e =>
      (s.eng (engKey e.1 e.2)).busy.isSome || (s.eng (engKey e.1 e.2)).saved != []) = true := by
    obtain ⟨e, he, hb⟩ := hbusy
    refine .inr (List.any_eq_true.2 ⟨e, he, ?_⟩)
    rw [Option.isSome_iff_ne_none.2 hb]
    rfl
  exact ⟨s, if_pos hstill, rfl⟩

/-- Settles O59: start-up events by the ready bits they raise, the restoration by the sets it asks for, and domains by
what a cleared one holds. -/
theorem startUpAndDomains : Obligations.StartUpAndDomains := by
  unfold Obligations.StartUpAndDomains
  refine ⟨fun s => ⟨?_, ?_, ?_, ?_⟩, fun s => ⟨?_, ?_, ?_, ?_, ?_⟩⟩
  · exact firmwareVerify_answers
  · exact pufReconstruction_answers
  · exact nvStartupScan_answers
  · exact ddrTrainingDone_answers
  · exact configRestore_answers
  · exact fun set w n hrestoring hn => s.applyInstances_restores set w hrestoring hn
  · exact fun set w d hd hoff hen => s.applyPower_domain w hd hoff hen
  · exact domainPowerOn_answers
  · exact fun d hdrain => ⟨domainPowerOff_empties d hdrain, domainPowerOff_waits d⟩

end Sys2Proof.Machine
end

section
/-! SUPPORT. The step as the rule of the queue: what it runs, that it always answers, and what it takes and leaves. -/

namespace Sys2Proof.Machine

/-- Settles O1: a step is the match on the queue, and the decoder has no row to decode by. -/
theorem stepRunsTheFrontCommand : Obligations.StepRunsTheFrontCommand := by
  unfold Obligations.StepRunsTheFrontCommand
  refine ⟨fun _ _ _ => rfl, fun s hs => ?_, fun _ _ => rfl, fun _ _ _ => rfl⟩
  unfold step
  rw [hs]

/-- Every command answers a next state. -/
theorem exec_answers (c : Instr) (s : State) : ∃ t, exec c s = .next t := by
  obtain ⟨t, ht, -⟩ := exec_kept (Kept.now_of s) c
  exact ⟨t, ht⟩

/-- A step is safe in every state: it idles, or it runs a command, which answers. -/
theorem stepSafe_all (s : State) : stepSafe s := by
  unfold stepSafe step
  split
  · exact ⟨s, rfl⟩
  · exact exec_answers _ _

/-- Settles O2: every command answers, so every step of a run does. -/
theorem everyRunIsSafe : Obligations.EveryRunIsSafe := by
  unfold Obligations.EveryRunIsSafe
  refine ⟨fun c s => ?_, stepSafe_all, fun _ t _ => stepSafe_all t⟩
  obtain ⟨t, ht⟩ := exec_answers c s
  exact ⟨t, ht, trivial⟩

/-- Settles O3: the queue and the outbox are among what every step keeps. -/
theorem queueAndOutboxDiscipline : Obligations.QueueAndOutboxDiscipline := by
  unfold Obligations.QueueAndOutboxDiscipline
  intro s t ht
  obtain ⟨hpending, -, -, hout, -⟩ := step_kept ht
  exact ⟨hpending, hout⟩

end Sys2Proof.Machine
end

section
/-! SUPPORT. The random subsystem: what its operations leave of the rest of the module, what RNG_GET, RNG_STATUS and the
word port answer (R489, R495 to R497), and O24. -/

namespace Sys2Proof.Machine

variable {s t : State} {j : Nat} {b : Job}

/-! ### Ending a job that its command has touched -/

theorem surfaceKept_trans {u : State} (h : surfaceKept s t) (g : surfaceKept t u) : surfaceKept s u := by
  obtain ⟨h1, h2, h3, h4, h5, h6, h7, h8, h9⟩ := h
  obtain ⟨g1, g2, g3, g4, g5, g6, g7, g8, g9⟩ := g
  exact ⟨g1.trans h1, g2.trans h2, g3.trans h3, g4.trans h4, g5.trans h5, g6.trans h6, g7.trans h7, g8.trans h8,
    g9.trans h9⟩

/-- Where a command has changed its own job alone, and nothing of the surface, ending that job is quiet. -/
theorem endsQuietly_own (e : Ending) (hj : t.job j = some b) (ho : otherJobsKept s t j) (hs : surfaceKept s t) :
    endsQuietly s (t.endJob j e) j e := by
  refine ⟨endedWith_endJob e hj, fun i hi => ?_, ?_⟩
  · rw [State.job_endJob_other _ _ hi]
    exact ho i hi
  · simpa only [surfaceKept, State.endJob_regs, State.endJob_shadow, State.endJob_cfg, State.endJob_tb,
      State.endJob_pairs, State.endJob_ks, State.endJob_insts, State.endJob_outbox, State.endJob_pending] using hs

/-- A change of job `j` changes no other and nothing of the surface. -/
theorem onJob_own (s : State) (j : Nat) (f : Job → Job) : otherJobsKept s (s.onJob j f) j ∧ surfaceKept s (s.onJob j f) := by
  obtain ⟨jobs, h⟩ := s.onJob_eq j f
  refine ⟨fun i hi => s.job_onJob_other f hi, ?_⟩
  rw [h]
  exact surfaceKept_refl s

/-! ### What the DRBGs' work leaves (R483, R488) -/

/-- Between `s` and `t` only DRBGs and counters changed. -/
def DrbgWork (s t : State) : Prop := t = { s with cnts := t.cnts, rng := { s.rng with drbgs := t.rng.drbgs } }

theorem DrbgWork.refl (s : State) : DrbgWork s s := rfl

theorem DrbgWork.trans {u : State} (h : DrbgWork s t) (g : DrbgWork t u) : DrbgWork s u := by
  unfold DrbgWork at h g ⊢
  rw [h] at g
  exact g

theorem DrbgWork.unseen (h : DrbgWork s t) : Unseen s t := by
  rw [h]
  exact ⟨rfl, surfaceKept_refl s⟩

theorem drbgWork_setDrbg (s : State) (d : Nat) (x : Drbg) : DrbgWork s (s.setDrbg d x) := rfl

theorem drbgWork_reseed (s : State) (d e : Nat) : DrbgWork s (s.reseed d e) := rfl

theorem drbgWork_atLimit (s : State) (d : Nat) : DrbgWork s (s.atLimit d) := by
  unfold State.atLimit
  dsimp only
  repeat' split
  · exact DrbgWork.refl s
  · exact (drbgWork_setDrbg s d _).trans (drbgWork_reseed _ d _)
  · rfl

theorem drbgWork_generate (s : State) (d n : Nat) : DrbgWork s (s.generate d n).2 := by
  unfold State.generate
  dsimp only
  split
  · exact (drbgWork_setDrbg s d _).trans (drbgWork_atLimit _ d)
  · exact (((drbgWork_setDrbg s d _).trans (drbgWork_atLimit _ d)).trans (drbgWork_setDrbg _ d _)).trans
      (drbgWork_atLimit _ d)

theorem DrbgWork.rngWords (h : DrbgWork s t) (fn : Nat) : t.rngWords fn = s.rngWords fn := by
  rw [h]
  rfl

/-! ### RNG_GET and RNG_STATUS (R489, R496, R497) -/

theorem rngUnavailable_ends (hj : s.job j = some b) :
    endsQuietly s (s.rngUnavailable j) j (failed stRNG_UNAVAILABLE) ∧
      (s.rngUnavailable j).cnt aRNG_UNAVAIL_CNT 0 = (s.cnt aRNG_UNAVAIL_CNT 0 + 1) % 2 ^ 32 := by
  refine ⟨endsQuietly_trans (endsQuietly_endJob _ hj rfl (surfaceKept_refl s)) (unseen_bump _ _ _), ?_⟩
  unfold State.rngUnavailable State.bump
  rw [State.cnt_bumpBy_same]
  unfold State.cnt
  rw [show (s.failJob j stRNG_UNAVAILABLE).cnts = s.cnts from s.endJob_cnts _ _]

theorem startDirect_own (s : State) (j : Nat) :
    otherJobsKept s (s.startDirect j) j ∧ surfaceKept s (s.startDirect j) := onJob_own s j _

/-- RNG_GET of a length that its output holds: the requests of D0 are made, or its wait begins. -/
theorem rngGet_runs (h : runsDirect s j b opRNG_GET) (hlo : 1 ≤ tlvNat b.params 0x00D0 0)
    (hhi : tlvNat b.params 0x00D0 0 ≤ 1048576) (hout : tlvNat b.params 0x00D0 0 ≤ outputLen b.frags) :
    execRngGet j s = .next (
      if s.drbgCover 0 < ceilDiv (tlvNat b.params 0x00D0 0) 4096 then s.lacksRandom j
      else
        let g := (s.startDirect j).generate 0 (ceilDiv (tlvNat b.params 0x00D0 0) 4096)
        let d := g.2.drawBytes (tlvNat b.params 0x00D0 0)
        (d.2.onJob j fun b => { b with drbgOnly := g.1 }).endJob j { status := stDONE, out := d.1 }) := by
  refine (runDirect_runs _ h).trans ?_
  dsimp only
  rw [if_neg (by omega), if_neg (by omega), if_neg (by omega)]

theorem rngGet_draws (h : runsDirect s j b opRNG_GET) (hlo : 1 ≤ tlvNat b.params 0x00D0 0)
    (hhi : tlvNat b.params 0x00D0 0 ≤ 1048576) (hout : tlvNat b.params 0x00D0 0 ≤ outputLen b.frags)
    (hcover : ceilDiv (tlvNat b.params 0x00D0 0) 4096 ≤ s.drbgCover 0) : answers (.rngGet j) s fun t =>
      ∃ d : Bytes, d.length = tlvNat b.params 0x00D0 0 ∧ endsQuietly s t j { status := stDONE, out := d } := by
  refine ⟨_, rngGet_runs h hlo hhi hout, ?_⟩
  rw [if_neg (by omega)]
  extract_lets g d
  refine ⟨d.1, State.drawBytes_length _ _, ?_⟩
  obtain ⟨hjob, -⟩ := h
  obtain ⟨hother, hsurface⟩ := startDirect_own s j
  have hu : Unseen (s.startDirect j) d.2 := (drbgWork_generate _ 0 _).unseen.trans (unseen_drawBytes _ _)
  obtain ⟨hother', hsurface'⟩ := onJob_own d.2 j fun b => { b with drbgOnly := g.1 }
  have hd : d.2.job j = some { b with started := true, start := s.tb.stamp, startUp := s.now } :=
    (job_of_jobs hu.1 j).trans (s.job_onJob_same _ hjob)
  refine endsQuietly_own _ (d.2.job_onJob_same _ hd) (fun i hi => ?_) ?_
  · exact ((hother' i hi).trans (job_of_jobs hu.1 i)).trans (hother i hi)
  · exact surfaceKept_trans hsurface (surfaceKept_trans hu.2 hsurface')

theorem rngGet_lacks (h : runsDirect s j b opRNG_GET) (hlo : 1 ≤ tlvNat b.params 0x00D0 0)
    (hhi : tlvNat b.params 0x00D0 0 ≤ 1048576) (hout : tlvNat b.params 0x00D0 0 ≤ outputLen b.frags)
    (hcover : s.drbgCover 0 < ceilDiv (tlvNat b.params 0x00D0 0) 4096) : answers (.rngGet j) s fun t =>
      if s.rng.failed then endsQuietly s t j (failed stRNG_UNAVAILABLE) ∧
        t.cnt aRNG_UNAVAIL_CNT 0 = (s.cnt aRNG_UNAVAIL_CNT 0 + 1) % 2 ^ 32
      else t = s.setJob j { b with lackUp := some (b.lackUp.getD s.now) } := by
  refine ⟨_, rngGet_runs h hlo hhi hout, ?_⟩
  rw [if_pos hcover]
  obtain ⟨hjob, -⟩ := h
  unfold State.lacksRandom
  split
  · exact rngUnavailable_ends hjob
  · unfold State.onJob
    rw [hjob]

theorem rngStatus_answers (h : runsDirect s j b opRNG_STATUS) (hcap : tlvLen 16 ≤ b.resultCap) :
    answers (.rngStatus j) s fun t => endsQuietly s t j (done [⟨0x00D1, s.rngInfo⟩]) := by
  refine ⟨_, (runDirect_runs _ h : execRngStatus j s = _), ?_⟩
  dsimp only
  rw [if_neg (by omega)]
  exact endsQuietly_startDirect _ h.1 (Unseen.refl _)

theorem rngWaitExpiry_answers (hj : s.job j = some b) (he : b.ending = none) (hw : b.phase = .fifo ∨ b.wait = .random)
    (hl : (b.lackUp.any fun u => s.passed u (s.crossingsNs 2)) = true) : answers (.rngWaitExpiry j) s fun t =>
      endsQuietly s t j (failed stRNG_UNAVAILABLE) ∧
        t.cnt aRNG_UNAVAIL_CNT 0 = (s.cnt aRNG_UNAVAIL_CNT 0 + 1) % 2 ^ 32 := by
  refine ⟨s.rngUnavailable j, ?_, rngUnavailable_ends hj⟩
  show execRngWaitExpiry j s = _
  unfold execRngWaitExpiry
  rw [hj]
  exact if_pos ⟨he, hw, hl⟩

/-! ### The word port (R495) -/

theorem State.rngWords_setRngWords (s : State) (fn : Nat) (w : List Nat) : (s.setRngWords fn w).rngWords fn = w :=
  tgetD_tput_same _ _ _ _

theorem rngData_pops {fn w : Nat} {r : List Nat} (hw : s.rngWords fn = w :: r) (hp : s.rngPort fn = true) :
    answers (.rngData fn) s fun t => t.rngWords fn = r ∧
      t.outbox = s.outbox ++ [.readData fn aRNG_DATA (BitVec.ofNat 32 (2 ^ 31 + w % 65536))] := by
  refine ⟨(s.setRngWords fn r).emit _, ?_, s.rngWords_setRngWords fn r, rfl⟩
  show execRngData fn s = _
  unfold execRngData
  rw [hw, hp]

theorem rngData_empty {fn : Nat} (h : s.rngWords fn = [] ∨ s.rngPort fn = false) : answers (.rngData fn) s fun t =>
    t.rngWords fn = s.rngWords fn ∧ fn ∈ t.rng.err ∧ t.outbox = s.outbox ++ [.readData fn aRNG_DATA 0] ∧
      t.cnt aRNG_EMPTY_READS 0 = (s.cnt aRNG_EMPTY_READS 0 + 1) % 2 ^ 32 := by
  have hrun : exec (.rngData fn) s = .next ((({ s with rng := { s.rng with
      err := if s.rng.err.contains fn then s.rng.err else s.rng.err ++ [fn] } } : State).bump aRNG_EMPTY_READS 0).emit
        (.readData fn aRNG_DATA 0)) := by
    show execRngData fn s = _
    unfold execRngData
    split
    · rename_i hw hp
      rw [hw, hp] at h
      simp at h
    · rfl
  refine ⟨_, hrun, rfl, ?_, rfl, State.cnt_bumpBy_same _ _ _ _⟩
  show fn ∈ if s.rng.err.contains fn then s.rng.err else s.rng.err ++ [fn]
  split
  · rename_i hc
    simpa using hc
  · exact List.mem_append_right _ List.mem_cons_self

theorem leAt_lt (bs : Bytes) (off len : Nat) : leAt bs off len < 2 ^ (8 * len) := by
  refine (leNat_lt _).trans_le (Nat.pow_le_pow_right (by decide) (Nat.mul_le_mul_left 8 ?_))
  exact List.length_take_le _ _

theorem rngBufferRefill_answers {fn : Nat} (hready : s.ready 3 = true) (hport : s.rngPort fn = true)
    (hroom : (s.rngWords fn).length ≤ 32) (hcover : 1 ≤ s.drbgCover 0) : answers (.rngBufferRefill fn) s fun t =>
      ∃ ws : List Nat, ws.length = 32 ∧ (∀ w ∈ ws, w < 65536) ∧ t.rngWords fn = s.rngWords fn ++ ws := by
  refine ⟨_, (if_pos ⟨hready, hport, hroom, hcover⟩ : execRngBufferRefill fn s = _), ?_⟩
  refine ⟨(List.range 32).map fun i => leAt (((s.generate 0 1).2.drawBytes 64).1) (2 * i) 2, by simp, ?_, ?_⟩
  · intro w hw
    obtain ⟨i, -, rfl⟩ := List.mem_map.1 hw
    exact leAt_lt _ _ 2
  · rw [State.rngWords_setRngWords, (drbgWork_generate s 0 1).rngWords fn]

/-- Settles O24: each command by its lemma, whose idea is that generate requests change DRBGs and counters alone. -/
theorem randomOperations : Obligations.RandomOperations := by
  unfold Obligations.RandomOperations
  intro s j b
  exact ⟨rngGet_draws, rngGet_lacks, rngStatus_answers, rngWaitExpiry_answers, fun _ _ _ => rngData_pops,
    fun _ => rngData_empty, fun _ => rngBufferRefill_answers⟩

end Sys2Proof.Machine
end

section
/-! SUPPORT. The noise sources, the conditioner, the DRBGs and the expanders (R476 to R494): what each event leaves of them,
and O25. -/

namespace Sys2Proof.Machine

variable {s t : State}

/-! ### Reading sources and DRBGs -/

theorem source_of_rng (h : t.rng = s.rng) (i : Nat) : t.source i = s.source i := by
  unfold State.source
  rw [h]

theorem drbg_of_rng (h : t.rng = s.rng) (d : Nat) : t.drbg d = s.drbg d := by
  unfold State.drbg
  rw [h]

theorem QueueTraffic.rng (h : QueueTraffic s t) : t.rng = s.rng := by rw [h]

@[simp] theorem State.source_setSource_same (s : State) (i : Nat) (x : NoiseSource) : (s.setSource i x).source i = x :=
  tgetD_tput_same _ _ _ _

theorem State.source_setSource_other (s : State) {i k : Nat} (x : NoiseSource) (h : i ≠ k) :
    (s.setSource k x).source i = s.source i := tgetD_tput_other _ _ _ _ h

@[simp] theorem State.drbg_setDrbg_same (s : State) (d : Nat) (x : Drbg) : (s.setDrbg d x).drbg d = x :=
  tgetD_tput_same _ _ _ _

/-! ### A new epoch, and the loss of the last source (R485, R490, R492) -/

/-- With a new epoch no staged seed is left (R485). -/
theorem State.nextEpoch_staged (s : State) (k : Nat) : (s.nextEpoch.drbg k).staged = none := by
  have h := tget_map (fun x : Drbg => { x with staged := none }) k s.rng.drbgs
  show ((tget (s.rng.drbgs.map fun e : Nat × Drbg => (e.1, { e.2 with staged := none })) k).getD {}).staged = none
  rw [h]
  cases tget s.rng.drbgs k <;> rfl

/-- What a retirement leaves of source `i` and of the seeds, whatever follows it. -/
structure Retired (s t : State) (i : Nat) : Prop where
  source : (t.source i).state = .retired ∧ (t.source i).retiredAt = s.now
  epoch : t.rng.epoch = s.rng.epoch + 1
  staged : ∀ k, (t.drbg k).staged = none

theorem Retired.of_rng {u : State} {i : Nat} (h : Retired s t i) (hr : u.rng = t.rng) : Retired s u i where
  source := by rw [source_of_rng hr]; exact h.source
  epoch := by rw [hr]; exact h.epoch
  staged k := by rw [drbg_of_rng hr]; exact h.staged k

theorem Retired.nextEpoch {i : Nat} (hs : (t.source i).state = .retired ∧ (t.source i).retiredAt = s.now)
    (he : t.rng.epoch = s.rng.epoch) : Retired s t.nextEpoch i where
  source := hs
  epoch := congrArg (· + 1) he
  staged := t.nextEpoch_staged

/-- The source that is called is a STANDBY one, not one that is retired. -/
theorem Retired.callStandby {i : Nat} (h : Retired s t i) : Retired s t.callStandby i := by
  unfold State.callStandby
  split
  · rename_i k _ hk
    have hstate : (t.source k).state = .standby := by
      have hmem : k ∈ t.sourcesIn .standby := hk ▸ List.mem_cons_self
      simpa using (List.mem_filter.1 hmem).2
    have hne : i ≠ k := by
      rintro rfl
      rw [h.source.1] at hstate
      cases hstate
    exact ⟨by rw [t.source_setSource_other _ hne]; exact h.source, h.epoch, h.staged⟩
  · exact h

theorem Retired.switchSource {i : Nat} (hs : (t.source i).state = .retired ∧ (t.source i).retiredAt = s.now)
    (he : t.rng.epoch = s.rng.epoch) (cause : Nat) : Retired s (t.switchSource i cause) i :=
  ((Retired.nextEpoch hs he).of_rng ((QueueTraffic.refl _).postEvent _ _ _ _ _).rng).callStandby

/-- No source runs, starts or is still to start. -/
def State.sourcesLost (s : State) : Prop :=
  s.sourcesIn .off = [] ∧ s.sourcesIn .active = [] ∧ s.sourcesIn .startup = [] ∧ s.sourcesIn .standby = []

/-- The loss of the last source fails the RNG, and is told (R492); else nothing changes. -/
theorem State.checkLost_rng (s : State) : ∃ f, s.checkLost.rng = { s.rng with failed := f } ∧
    (s.rng.failed = true ∨ s.sourcesLost → f = true) := by
  unfold State.checkLost
  split
  · rename_i h
    obtain ⟨fc, hr, -⟩ := State.raise_told { s with rng := { s.rng with failed := true } }
      (m := { source := 0x434, access := 0, kind := 0x31, master := 0, address := 0, fatal := false }) rfl (fun t => show t.countDcm 0x31 = t from if_neg (by decide)) (show engOfSource 0x434 = none by decide)
    exact ⟨true, (hr.postEvent 0 0x0231 none 0 0).rng, fun _ => rfl⟩
  · rename_i h
    refine ⟨s.rng.failed, rfl, fun hf => ?_⟩
    by_contra hn
    exact h ⟨by simpa using hn, hf.resolve_left hn⟩

theorem Retired.checkLost {i : Nat} (h : Retired s t i) : Retired s t.checkLost i := by
  obtain ⟨hs, he, hd⟩ := h
  obtain ⟨f, hr, -⟩ := t.checkLost_rng
  unfold State.source at hs
  unfold State.drbg at hd
  refine ⟨?_, by rw [hr]; exact he, fun k => ?_⟩
  · unfold State.source
    rw [hr]
    exact hs
  · unfold State.drbg
    rw [hr]
    exact hd k

/-! ### Tests of the sources (R476 to R478, R490, R494) -/

/-- A CORRECTED message that no alarm input counts is counted and recorded, and nothing more (R593). -/
theorem State.raise_corrected (s : State) {m : FaultMsg} (hc : kindClass m.kind m.fatal = some 0)
    (hd : ∀ t : State, t.countDcm m.kind = t) :
    ∃ fc, s.raise m = { s.bump aFC_CNT_CORR 0 with fc := fc } ∧ fc.mstate = s.fc.mstate := by
  obtain ⟨fc, h, hm⟩ := s.collect_eq m 0
  refine ⟨fc, ?_, hm⟩
  unfold State.raise
  rw [hc]
  dsimp only
  rw [hd, if_pos rfl]
  exact h

theorem noiseSourceSettled_answers {i : Nat} (hi : i < 4) (hd : s.domain 4 = .on) (hx : (s.source i).state = .off) :
    answers (.noiseSourceSettled i) s fun t =>
      (t.source i).state = if bitAt (s.fld aRNG_CTL 3 0) i then .startup else .disabled :=
  ⟨_, if_pos ⟨hi, hd, hx⟩, congrArg NoiseSource.state (State.source_setSource_same _ _ _)⟩

theorem noiseSourceFail_answers {i test : Nat} (hi : i < 4)
    (hx : ((s.source i).state = .active ∨ (s.source i).state = .standby) ∧ (test = 1 ∨ test = 2) ∨
      (s.source i).state = .startup ∧ test = 3) : answers (.noiseSourceFail i test) s fun t =>
      (t.source i).state = .retired ∧ (t.source i).retiredAt = s.now ∧ t.rng.epoch = s.rng.epoch + 1 ∧
        ∀ k, (t.drbg k).staged = none := by
  have hrun : ∃ t, execNoiseSourceFail i test s = .next t ∧ Retired s t i := by
    unfold execNoiseSourceFail
    extract_lets x running s1 s2 s3 s4 s5 s6
    refine ⟨_, if_pos ⟨hi, hx⟩, ?_⟩
    have h1 : s1.rng = s.rng ∧ s1.tb = s.tb := by
      dsimp only [s1]
      split_ifs <;> exact ⟨rfl, rfl⟩
    have h3 : (s3.source i).state = .retired ∧ (s3.source i).retiredAt = s.now := by
      dsimp only [s3]
      rw [State.source_setSource_same]
      exact ⟨rfl, by unfold State.now; rw [show s2.tb = s.tb from h1.2]⟩
    obtain ⟨fc, hr, -⟩ := s3.raise_corrected
      (m := { source := 0x430 + i, access := 0, kind := 0x30, master := 0, address := test, fatal := false }) rfl
      (fun t => show t.countDcm 0x30 = t from if_neg (by decide))
    have h5 : s5.rng = s3.rng := by
      have h4 : s4.rng = s3.rng := (congrArg State.rng hr : _)
      dsimp only [s5]
      split_ifs
      · exact h4
      · exact h4
    have hs : (s5.source i).state = .retired ∧ (s5.source i).retiredAt = s.now := by
      rw [source_of_rng h5]
      exact h3
    have he : s5.rng.epoch = s.rng.epoch := by
      rw [h5]
      exact (congrArg Rng.epoch h1.1 : s1.rng.epoch = s.rng.epoch)
    have h6 : Retired s s6 i := by
      dsimp only [s6]
      split_ifs
      · exact Retired.switchSource hs he test
      · exact Retired.nextEpoch hs he
    exact h6.checkLost
  obtain ⟨t, ht, ⟨hs, ha⟩, he, hk⟩ := hrun
  exact ⟨t, ht, hs, ha, he, hk⟩

theorem startupTestPass_answers {i : Nat} (hi : i < 4) (hx : (s.source i).state = .startup) :
    answers (.startupTestPass i) s fun t => t.rng.failed = false ∧
      (t.source i).state = (if (s.sourcesIn .active).length = 0 ∨
        ((s.sourcesIn .active).length < 2 ∧ ((s.source i).joining = true ∨ s.rng.ready = false)) then .active else .standby) := by
  refine ⟨_, (if_pos ⟨hi, hx⟩ : execStartupTestPass i s = _), rfl, ?_⟩
  refine (congrArg NoiseSource.state (State.source_setSource_same s i _)).trans ?_
  simp only [Bool.not_eq_true']

theorem autoRetest_answers {i : Nat} (hi : i < 4) (hx : (s.source i).state = .retired) (hctl : s.fld aRNG_CTL 8 8 = 1)
    (hp : s.passed (s.source i).retiredAt (10 ^ 9) = true) : answers (.autoRetest i) s fun t =>
      (t.source i).state = if (s.source i).retestPassed.any (fun p => (s.source i).retiredAt < p + 86400 * 10 ^ 9) then
        .retired else .startup := by
  show ∃ t, execAutoRetest i s = .next t ∧ _
  unfold execAutoRetest
  extract_lets x barred
  by_cases hb : barred = true
  · refine ⟨s, if_neg (by simp [hb]), ?_⟩
    rw [if_pos hb]
    exact hx
  · refine ⟨_, if_pos ⟨hi, hx, hctl, by simpa using hb, hp⟩, ?_⟩
    rw [if_neg hb, State.source_setSource_same]

/-- What a request for retests leaves of source `i` (R478). -/
def retested (v : Reg) (i : Nat) (x : NoiseSource) : NoiseSource :=
  if bitAt v.toNat i ∧ x.state = .retired then { x with state := .startup, auto := false } else x

/-- One source's retest, as RNG_RETEST asks for it. -/
def State.retest (v : Reg) (s : State) (i : Nat) : State :=
  if bitAt v.toNat i ∧ (s.source i).state = .retired then
    s.setSource i { s.source i with state := .startup, auto := false } else s

theorem State.source_retest (v : Reg) (s : State) (i k : Nat) :
    (s.retest v k).source i = if i = k then retested v i (s.source i) else s.source i := by
  unfold State.retest retested
  by_cases hik : i = k
  · subst hik
    rw [if_pos rfl]
    split
    · exact State.source_setSource_same _ _ _
    · rfl
  · rw [if_neg hik]
    split
    · exact State.source_setSource_other _ _ hik
    · rfl

theorem retested_retested (v : Reg) (i : Nat) (x : NoiseSource) : retested v i (retested v i x) = retested v i x := by
  unfold retested
  split_ifs <;> simp_all

theorem foldl_retest_source (v : Reg) (i : Nat) : ∀ (l : List Nat) (s : State),
    (l.foldl (State.retest v) s).source i = if i ∈ l then retested v i (s.source i) else s.source i
  | [], _ => rfl
  | k :: l, s => by
    rw [List.foldl_cons, foldl_retest_source v i l, State.source_retest]
    by_cases hk : i = k <;> by_cases hl : i ∈ l <;> simp [hk, hl, retested_retested]

theorem rngRetest_answers {i : Nat} (v : Reg) (hi : i < 4) : answers (.rngRetest v) s fun t =>
    (t.source i).state = if bitAt v.toNat i = true ∧ (s.source i).state = .retired then .startup else (s.source i).state := by
  refine ⟨(List.range 4).foldl (State.retest v) s, rfl, ?_⟩
  show ((List.foldl (State.retest v) s (List.range 4)).source i).state = _
  rw [foldl_retest_source, if_pos (List.mem_range.2 hi)]
  unfold retested
  split <;> rfl

/-! ### The conditioner, the DRBGs and the expanders (R479, R483, R484, R486) -/

/-- A block goes to the first DRBG in need, in the order of R484. -/
theorem conditionerBlock_answers (ha : s.sourcesIn .active ≠ []) : answers .conditionerBlock s fun t =>
    (∀ k, seedOrder.find? (fun k => (s.drbg k).stopped) = some k →
      (t.drbg k).stopped = false ∧ (t.drbg k).left = reseedInterval ∧ (t.drbg k).epoch = s.rng.epoch) ∧
    (seedOrder.find? (fun k => (s.drbg k).stopped) = none →
      (∀ k, seedOrder.find? (fun k => !(s.drbg k).inst) = some k →
        t.drbg k = { inst := true, left := reseedInterval, epoch := s.rng.epoch }) ∧
      (seedOrder.find? (fun k => !(s.drbg k).inst) = none →
        ∀ k, seedOrder.find? (fun k => (s.drbg k).staged.isNone) = some k → (t.drbg k).staged = some s.rng.epoch)) := by
  show ∃ t, execConditionerBlock s = .next t ∧ _
  unfold execConditionerBlock
  rw [if_neg ha]
  extract_lets u e
  have hd : ∀ d, u.drbg d = s.drbg d := fun _ => rfl
  simp only [hd]
  cases hstop : seedOrder.find? (fun k => (s.drbg k).stopped) with
  | some d =>
    refine ⟨u.reseed d e, rfl, fun k hk => ?_, nofun⟩
    obtain rfl := Option.some.inj hk
    rw [show (u.reseed d e).drbg d = _ from State.drbg_setDrbg_same _ _ _]
    exact ⟨rfl, rfl, rfl⟩
  | none =>
    cases hinst : seedOrder.find? (fun k => !(s.drbg k).inst) with
    | some d =>
      refine ⟨_, rfl, nofun, fun _ => ⟨fun k hk => ?_, nofun⟩⟩
      obtain rfl := Option.some.inj hk
      exact State.drbg_setDrbg_same _ _ _
    | none =>
      cases hstaged : seedOrder.find? (fun k => (s.drbg k).staged.isNone) with
      | some d =>
        refine ⟨_, rfl, nofun, fun _ => ⟨nofun, fun _ k hk => ?_⟩⟩
        obtain rfl := Option.some.inj hk
        exact congrArg Drbg.staged (State.drbg_setDrbg_same _ _ _)
      | none => exact ⟨_, rfl, nofun, fun _ => ⟨nofun, fun _ => nofun⟩⟩

theorem drbgReseed_answers {d : Nat} (hd : d ≤ 8) (hi : (s.drbg d).inst = true) (hl : (s.drbg d).left = 0)
    (hs : (s.drbg d).stopped = false) : answers (.drbgReseed d) s fun t => match (s.drbg d).staged with
      | some e => t.drbg d = { s.drbg d with staged := none, left := reseedInterval, epoch := e, stopped := false }
      | none => t.drbg d = { s.drbg d with stopped := true } := by
  refine ⟨_, if_pos hd, ?_⟩
  unfold State.atLimit
  rw [if_neg (by simp [hi, hl, hs])]
  cases hst : (s.drbg d).staged with
  | none =>
    refine (State.drbg_setDrbg_same s d _).trans ?_
    dsimp only
    rw [hst]
  | some e =>
    show (State.reseed (s.setDrbg d { s.drbg d with staged := none }) d e).drbg d = _
    refine (State.drbg_setDrbg_same _ d _).trans ?_
    rw [State.drbg_setDrbg_same]

theorem expanderSeed_answers {cls : EngClass} {eng : Nat} (hlo : 1 ≤ classCode cls) (hhi : classCode cls ≤ 4)
    (he : eng < classSize (classCode cls)) (hleft : (s.expander (engKey (classCode cls) eng)).left ≤ 65536)
    (hready : s.ready 3 = true) (hcover : 1 ≤ s.drbgCover (classDrbg (classCode cls))) :
    answers (.expanderSeed cls eng) s fun t => (t.expander (engKey (classCode cls) eng)).left = 1048576 := by
  refine ⟨_, (if_pos ⟨hlo, hhi, he, hleft, hready, hcover⟩ : execExpanderSeed cls eng s = _), ?_⟩
  dsimp only
  unfold State.expander State.setExpander
  rw [tgetD_tput_same]

/-! ### The RNG fails, and becomes ready (R492, R493) -/

theorem rngFailed_answers (hd : s.domain 4 = .on)
    (hlost : ∀ k, k < 4 → (s.source k).state = .retired ∨ (s.source k).state = .disabled) :
    answers .rngFailed s fun t => t.rng.failed = true := by
  refine ⟨_, if_pos hd, ?_⟩
  have hnone : ∀ x : SourceState, x ≠ .retired → x ≠ .disabled → s.sourcesIn x = [] := fun x hr hx =>
    List.filter_eq_nil_iff.2 fun k hk he => by
      have hstate : (s.source k).state = x := by simpa using he
      rcases hlost k (List.mem_range.1 hk) with h | h
      · exact hr (hstate.symm.trans h)
      · exact hx (hstate.symm.trans h)
  obtain ⟨f, hr, hf⟩ := s.checkLost_rng
  show s.checkLost.rng.failed = true
  rw [hr]
  exact hf (.inr ⟨hnone _ nofun nofun, hnone _ nofun nofun, hnone _ nofun nofun, hnone _ nofun nofun⟩)

theorem rng_foldl {α : Type} (f : State → α → State) (hf : ∀ s a, (f s a).rng = s.rng) :
    ∀ (l : List α) (s : State), (l.foldl f s).rng = s.rng
  | [], _ => rfl
  | a :: l, s => (rng_foldl f hf l _).trans (hf s a)

theorem State.setReady_rng (s : State) (i : Nat) (b : Bool) : (s.setReady i b).rng = s.rng := by
  obtain ⟨_, _, h⟩ := s.setReady_traffic i b
  exact h.rng

theorem State.scanNodes_rng (s : State) : s.scanNodes.rng = s.rng := by
  unfold State.scanNodes
  extract_lets bad s₁ s₂
  exact rng_foldl _ (fun u e => by
    obtain ⟨fc, h, -⟩ := (u.bump aKS_N4_FAIL 0).raise_told
      (m := { source := 0x610, access := 0, kind := 0x06, master := 0,
              address := 0x40000 + 2 ^ 20 * u.ks.n4Copy + 256 * e.1, fatal := false }) rfl
      (fun t => show t.countDcm 0x06 = t from if_neg (by decide)) (show engOfSource 0x610 = none by decide)
    exact h.rng) bad s

theorem State.keystoreUp_rng (s : State) : s.keystoreUp.rng = s.rng := by
  rw [s.keystoreUp_eq]
  split
  · rfl
  · obtain ⟨ks, free, he, -⟩ := s.keyed_eq
    rw [State.setReady_rng, he]
    exact s.scanNodes_rng

theorem State.startRebuilds_rng (s : State) : s.startRebuilds.rng = s.rng := by
  unfold State.startRebuilds
  split
  · rfl
  · obtain ⟨hbs, jobs, n, h⟩ :=
      State.launchRebuild_eq { s with hbs := { s.hbs with keys := fitTrees (s.partBytes 4) 0 s.hbs.keys } }
    rw [h]

theorem State.ddrUp_rng (s : State) : s.ddrUp.rng = s.rng := by
  unfold State.ddrUp
  split
  · rfl
  · extract_lets s₁ s₂
    rw [State.startRebuilds_rng]
    dsimp only [s₂]
    split
    · exact (State.setReady_rng _ _ _).trans (State.setReady_rng _ _ _)
    · exact State.setReady_rng _ _ _

theorem State.restorePolicy_rng (s : State) (p : Nat) (pol : EventPolicy) (node second : Option Nat) :
    (s.restorePolicy p pol node second).rng = s.rng := by
  have hnode : ∀ (u : State) (n : Nat), (u.instantiateNode n).2.rng = u.rng := fun u n => by
    unfold State.instantiateNode
    split
    · rfl
    · split
      · rfl
      · split
        · rename_i h
          obtain ⟨slots, free, he⟩ := State.createSlot_eq h
          rw [he]
        · rfl
  unfold State.restorePolicy
  extract_lets take a b tr
  have htake : ∀ (u : State) (n : Option Nat), (take u n).2.rng = u.rng := fun u n => by
    cases n with
    | none => rfl
    | some n => exact hnode u n
  exact (htake a.2 second).trans (htake s node)

theorem State.streamsUp_rng (s : State) : s.streamsUp.rng = s.rng := by
  unfold State.streamsUp
  split
  · rfl
  · rw [State.setReady_rng]
    exact rng_foldl _ (fun u e => u.restorePolicy_rng _ _ _ _) _ _

/-- The ready bits that become due with RNG leave the random subsystem as it is. -/
theorem State.readyUp_rng (s : State) : s.readyUp.rng = s.rng :=
  (State.streamsUp_rng _).trans ((State.ddrUp_rng _).trans s.keystoreUp_rng)

theorem rngReady_answers (hr : s.rng.ready = false) (hall : ∀ k, k < 9 → (s.drbg k).inst = true ∧ (s.drbg k).staged.isSome)
    (hd : s.domain 4 = .on) (hm : s.fc.mstate ≠ .fault) :
    answers .rngReady s fun t => t.rng.ready = true ∧ t.ready 3 = true := by
  have hevery : ((List.range 9).all fun d => (s.drbg d).inst && (s.drbg d).staged.isSome) = true :=
    List.all_eq_true.2 fun d hd => by
      obtain ⟨hi, hst⟩ := hall d (List.mem_range.1 hd)
      rw [hi, hst]
      rfl
  refine ⟨_, (if_pos ⟨by rw [hr]; rfl, hevery, hd, hm⟩ : execRngReady s = _), ?_, ?_⟩
  · rw [State.readyUp_rng, State.setReady_rng]
  · exact (risen_readyUp _).held 3 (State.ready_setReady_same _ (by decide))

/-- Settles O25: each event is the lemma on it. -/
theorem noiseSourcesAndSeeds : Obligations.NoiseSourcesAndSeeds := by
  unfold Obligations.NoiseSourcesAndSeeds
  intro s i d
  exact ⟨noiseSourceSettled_answers, fun _ => noiseSourceFail_answers, startupTestPass_answers, autoRetest_answers,
    rngRetest_answers, conditionerBlock_answers, drbgReseed_answers, fun _ _ => expanderSeed_answers,
    fun hd _ => rngFailed_answers hd, rngReady_answers⟩

end Sys2Proof.Machine
end

section
/-! SUPPORT. The stream commands of the management processor (R513 to R515, R520, R535 to R538): each ends with its check's
status, or stages and stores what it says; and O26. -/

namespace Sys2Proof.Machine

variable {s t s' : State} {j : Nat} {b : Job}

/-! ### Stream contexts (R513 to R515, R525, R537) -/

/-- A stream command refused with a status, counted where the key store refused it. -/
def streamRefused (s : State) (j : Nat) (f : Nat × Bool) (t : State) : Prop :=
  endsQuietly s t j (failed f.1) ∧ t.tr = s.tr ∧ (f.2 = true → t.cnt aKS_REFUSALS 0 = (s.cnt aKS_REFUSALS 0 + 1) % 2 ^ 32)

/-- A stream command that is over, with one change of a context staged behind the others. -/
def streamStaged (s : State) (j id : Nat) (c : StreamChange) (t : State) : Prop :=
  endsQuietly s t j (done []) ∧ t.tr = { s.tr with staged := s.tr.staged ++ [(id, c)] }

theorem endsQuietly_failJob (hj : s.job j = some b) (st : Nat) : endsQuietly s (s.failJob j st) j (failed st) :=
  endsQuietly_endJob _ hj rfl (surfaceKept_refl s)

theorem State.failJob_tr (s : State) (j st : Nat) : (s.failJob j st).tr = s.tr := s.endJob_tr _ _

theorem failJob_refuses (hj : s.job j = some b) (st : Nat) : streamRefused s j (st, false) (s.failJob j st) :=
  ⟨endsQuietly_failJob hj st, s.failJob_tr j st, nofun⟩

theorem refuseStream_refuses (hj : s.job j = some b) (f : Nat × Bool) : streamRefused s j f (s.refuseStream j f) := by
  obtain ⟨st, counted⟩ := f
  cases counted with
  | false => exact failJob_refuses hj st
  | true =>
    refine ⟨endsQuietly_trans (endsQuietly_failJob hj st) (unseen_bump _ _ _), s.failJob_tr j st, fun _ => ?_⟩
    refine (State.cnt_bumpBy_same _ _ _ _).trans ?_
    unfold State.cnt State.failJob
    rw [State.endJob_cnts]

theorem stageStream_stages (hj : s.job j = some b) (id : Nat) (c : StreamChange) :
    streamStaged s j id c ((s.stageStream id c).endJob j (done [])) :=
  ⟨endsQuietly_endJob (t := s.stageStream id c) _ hj rfl (surfaceKept_refl s), State.endJob_tr _ _ _⟩

theorem streamCreate_stages (h : runsMp s j b opSTREAM_CREATE) (hr : s.createRefused b = none) :
    answers (.streamCreate j) s (streamStaged s j (tlvNat b.params 0x00E0 0)
      (.create (b.newStream (s.cls (tlvNat b.params 0x00E1 0) 30 28)))) := by
  refine ⟨_, (runMp_runs _ h : execStreamCreate j s = _), ?_⟩
  unfold streamCreate
  rw [hr]
  exact stageStream_stages h.1 _ _

theorem streamCreate_refuses {f : Nat × Bool} (h : runsMp s j b opSTREAM_CREATE) (hr : s.createRefused b = some f) :
    answers (.streamCreate j) s (streamRefused s j f) := by
  refine ⟨_, (runMp_runs _ h : execStreamCreate j s = _), ?_⟩
  unfold streamCreate
  rw [hr]
  exact refuseStream_refuses h.1 f

theorem streamModify_stages {x : Stream} (h : runsMp s j b opSTREAM_MODIFY)
    (hx : tget s.streamsNext (tlvNat b.params 0x00E0 0) = some x) (hr : s.modifyRefused b x = none) :
    answers (.streamModify j) s (streamStaged s j (tlvNat b.params 0x00E0 0)
      (.modify (b.modified x (tlvNat b.params 0x00EB 0 == 1)) (tlvNat b.params 0x00EB 0 == 1)
        (tlvNat b.params 0x00EC 0 == 1))) := by
  refine ⟨_, (runMp_runs _ h : execStreamModify j s = _), ?_⟩
  unfold streamModify
  dsimp only
  rw [hx]
  dsimp only
  rw [hr]
  exact stageStream_stages h.1 _ _

theorem streamModify_refuses {x : Stream} {f : Nat × Bool} (h : runsMp s j b opSTREAM_MODIFY)
    (hx : tget s.streamsNext (tlvNat b.params 0x00E0 0) = some x) (hr : s.modifyRefused b x = some f) :
    answers (.streamModify j) s (streamRefused s j f) := by
  refine ⟨_, (runMp_runs _ h : execStreamModify j s = _), ?_⟩
  unfold streamModify
  dsimp only
  rw [hx]
  dsimp only
  rw [hr]
  exact refuseStream_refuses h.1 f

theorem streamDelete_stages (h : runsMp s j b opSTREAM_DELETE) (hid : tlvNat b.params 0x00E0 0 < 1048576)
    (hx : (tget s.streamsNext (tlvNat b.params 0x00E0 0)).isSome) :
    answers (.streamDelete j) s (streamStaged s j (tlvNat b.params 0x00E0 0) .delete) := by
  refine ⟨_, (runMp_runs _ h : execStreamDelete j s = _), ?_⟩
  dsimp only
  rw [if_neg (by omega), if_neg (by simpa [Option.isNone_iff_eq_none] using Option.isSome_iff_ne_none.1 hx)]
  exact stageStream_stages h.1 _ _

theorem streamDelete_refuses (h : runsMp s j b opSTREAM_DELETE) (hid : tlvNat b.params 0x00E0 0 < 1048576)
    (hx : tget s.streamsNext (tlvNat b.params 0x00E0 0) = none) :
    answers (.streamDelete j) s (streamRefused s j (stCONFIG_INCONSISTENT, false)) := by
  refine ⟨_, (runMp_runs _ h : execStreamDelete j s = _), ?_⟩
  dsimp only
  rw [if_neg (by omega), if_pos (by rw [hx]; rfl)]
  exact failJob_refuses h.1 _

theorem streamStats_answers {x : Stream} (h : runsMp s j b opSTREAM_STATS) (hid : tlvNat b.params 0x00E0 0 < 1048576)
    (hfit : (b.doneFit [⟨0x00ED, zeros 64⟩]).status = stDONE) (hx : s.stream (tlvNat b.params 0x00E0 0) = some x) :
    answers (.streamStats j) s fun t => endsQuietly s t j
      (done [⟨0x00ED, ((List.range 16).map fun k => leBytes (tgetD x.stats k 0) 4).flatten⟩]) := by
  refine ⟨_, (runMp_runs _ h : execStreamStats j s = _), ?_⟩
  dsimp only
  rw [if_neg (not_not.2 hfit), if_neg (by omega), hx]
  exact endsQuietly_endJob _ h.1 rfl (surfaceKept_refl s)

theorem streamStats_refuses (h : runsMp s j b opSTREAM_STATS) (hid : tlvNat b.params 0x00E0 0 < 1048576)
    (hfit : (b.doneFit [⟨0x00ED, zeros 64⟩]).status = stDONE) (hx : s.stream (tlvNat b.params 0x00E0 0) = none) :
    answers (.streamStats j) s (streamRefused s j (stCONFIG_INCONSISTENT, false)) := by
  refine ⟨_, (runMp_runs _ h : execStreamStats j s = _), ?_⟩
  dsimp only
  rw [if_neg (not_not.2 hfit), if_neg (by omega), hx]
  exact failJob_refuses h.1 _

/-! ### Ports (R536) -/

/-- A set that a command stages: the shadows are written, the groups requested, and the command waits for them. -/
theorem State.stageSet_stages (hj : s.job j = some b) (groups : BitVec 16) (ws : List (Nat × Nat)) (after : Ending) :
    s.stageSet j groups ws after = { s with
      shadow := writeShadows s.shadow ws
      cfg := { s.cfg with pending := s.cfg.pending ||| groups, byMp := s.cfg.byMp ||| groups }
      jobs := tset s.jobs j { b with wait := .applied groups, after := some after } } := by
  unfold State.stageSet
  rw [foldl_setShadow_writes]
  extract_lets s1 cfg s2
  have h2 : s2.job j = some b := hj
  unfold State.onJob
  rw [h2]
  rfl

/-- The shadow that a list of writes leaves of the register its last write names. -/
theorem tget_writeShadows_last (sh : Tab Reg) (ws : List (Nat × Nat)) (w : Nat × Nat) :
    tget (writeShadows sh (ws ++ [w])) w.1 = some (BitVec.ofNat 32 w.2) := by
  unfold writeShadows
  rw [List.foldl_append]
  exact tget_tset_same _ _ _

/-- The two writes that a lane's entry of PORT_CONFIG asks for. -/
def laneWrites (v : Bytes) : List (Nat × Nat) :=
  [(aPT_LANE + 4 * leAt v 0 2, writable (aPT_LANE + 4 * leAt v 0 2) (leAt v 2 4)),
   (aPT_PEER + 4 * leAt v 0 2, writable (aPT_PEER + 4 * leAt v 0 2) (leAt v 6 4))]

/-- What PORT_CONFIG leaves of the shadows of the lane that its last entry names. -/
theorem laneWrites_last (sh : Tab Reg) (ws : List Bytes) (v : Bytes) :
    tget (writeShadows sh ((ws ++ [v]).flatMap laneWrites)) (aPT_LANE + 4 * leAt v 0 2) =
        some (BitVec.ofNat 32 (writable (aPT_LANE + 4 * leAt v 0 2) (leAt v 2 4))) ∧
      tget (writeShadows sh ((ws ++ [v]).flatMap laneWrites)) (aPT_PEER + 4 * leAt v 0 2) =
        some (BitVec.ofNat 32 (writable (aPT_PEER + 4 * leAt v 0 2) (leAt v 6 4))) := by
  have hsplit : (ws ++ [v]).flatMap laneWrites = (ws.flatMap laneWrites ++
      [(aPT_LANE + 4 * leAt v 0 2, writable (aPT_LANE + 4 * leAt v 0 2) (leAt v 2 4))]) ++
      [(aPT_PEER + 4 * leAt v 0 2, writable (aPT_PEER + 4 * leAt v 0 2) (leAt v 6 4))] := by
    rw [List.flatMap_append, List.flatMap_singleton, List.append_assoc]
    rfl
  rw [hsplit]
  refine ⟨?_, tget_writeShadows_last _ _ _⟩
  unfold writeShadows
  rw [List.foldl_append, List.foldl_cons, List.foldl_nil,
    tget_tset_other _ _ (show aPT_LANE + 4 * leAt v 0 2 ≠ aPT_PEER + 4 * leAt v 0 2 by simp [aPT_LANE, aPT_PEER])]
  exact tget_writeShadows_last _ _ _

theorem shadowReg_of_tget {o v : Nat} (h : tget s.shadow o = some (BitVec.ofNat 32 v)) : s.shadowReg o = v % 2 ^ 32 := by
  unfold State.shadowReg
  rw [h]
  exact BitVec.toNat_ofNat _ _

theorem portConfig_answers (h : runsMp s j b opPORT_CONFIG) (hlen : (tlvAll b.params 0x00FC).length ≤ 512)
    (hform : ∀ v ∈ tlvAll b.params 0x00FC, leAt v 0 2 ≤ 511 ∧ allZero (v.drop 10) = true)
    (hfree : s.groupsBusy 0x0040 = false) : answers (.portConfig j) s fun t =>
      otherJobsKept s t j ∧ t.regs = s.regs ∧ t.cfg.pending = s.cfg.pending ||| 0x0040 ∧
        t.cfg.byMp = s.cfg.byMp ||| 0x0040 ∧ t.job j = some { b with wait := .applied 0x0040, after := some (done []) } ∧
        ∀ v ws, tlvAll b.params 0x00FC = ws ++ [v] →
          t.shadowReg (aPT_LANE + 4 * leAt v 0 2) = writable (aPT_LANE + 4 * leAt v 0 2) (leAt v 2 4) % 2 ^ 32 ∧
          t.shadowReg (aPT_PEER + 4 * leAt v 0 2) = writable (aPT_PEER + 4 * leAt v 0 2) (leAt v 6 4) % 2 ^ 32 := by
  have hgood : ¬((tlvAll b.params 0x00FC).length > 512 ∨
      (tlvAll b.params 0x00FC).any fun v => leAt v 0 2 > 511 || !allZero (v.drop 10)) := by
    rintro (hl | hany)
    · omega
    · obtain ⟨v, hv, hbad⟩ := List.any_eq_true.1 hany
      obtain ⟨hlane, hzero⟩ := hform v hv
      rw [hzero] at hbad
      simp only [gt_iff_lt, Bool.not_true, Bool.or_false, decide_eq_true_eq] at hbad
      omega
  have hrun : execPortConfig j s = .next (s.stageSet j 0x0040 ((tlvAll b.params 0x00FC).flatMap laneWrites) (done [])) := by
    refine (runMp_runs _ h).trans ?_
    dsimp only
    rw [if_neg hgood, if_neg (by rw [hfree]; decide)]
    rfl
  refine ⟨_, hrun, ?_⟩
  rw [State.stageSet_stages h.1]
  refine ⟨fun i hi => tget_tset_other _ _ hi, rfl, rfl, rfl, tget_tset_same _ _ _, fun v ws hv => ?_⟩
  obtain ⟨hlane, hpeer⟩ := laneWrites_last s.shadow ws v
  rw [← hv] at hlane hpeer
  exact ⟨shadowReg_of_tget hlane, shadowReg_of_tget hpeer⟩

/-! ### MACsec (R505, R506) -/

/-- An approved command leaves the streams, the ports and the policies. -/
theorem State.holding_tr {inst : Nat} {ns : List KeyNeed} (h : s.approve inst ns = .ok s') (j : Nat) :
    (s'.holding j ns).tr = s.tr := by
  obtain ⟨jobs, hjobs⟩ := s'.onJob_eq j fun b => { b with approved := ns.map fun n => hSlot n.handle }
  obtain ⟨-, rfl⟩ := State.approve_ok h
  unfold State.holding
  rw [hjobs]
  rfl

theorem macsecOf_of_tr (h : t.tr = s.tr) (p : Nat) : t.macsecOf p = s.macsecOf p := by
  unfold State.macsecOf
  rw [h]

/-- The need for the key of an association (R506). -/
def saNeed (b : Job) : KeyNeed :=
  { handle := b.handle, types := [0x02], lens := [32], policy := [if tlvNat b.params 0x00F6 0 = 1 then 1 else 2, 9, 22],
    counted := false }

/-- The association a MACSEC_SA_INSTALL asks for (R525), its key read in state `u`. -/
def saAsked (u : State) (b : Job) : MacsecSa where
  slot := hSlot b.handle
  key := (u.slot (hSlot b.handle)).val
  xpn := tlvNat b.params 0x00F7 0 == 1
  ssci := tlvNat b.params 0x00F9 0
  salt := b.val 0x00FA
  replay := tlvNat b.params 0x00FB 0
  pn := tlvNat b.params 0x00F8 0

theorem macsecSaInstall_answers (h : runsMp s j b opMACSEC_SA_INSTALL) (hport : b.portBad 0x00E3 = false)
    (han : tlvNat b.params 0x00F5 0 ≤ 3) (hdir : tlvNat b.params 0x00F6 0 ≤ 1) (hxpn : tlvNat b.params 0x00F7 0 ≤ 1)
    (hssci : b.has 0x00F9 = (tlvNat b.params 0x00F7 0 == 1)) (hsalt : b.has 0x00FA = (tlvNat b.params 0x00F7 0 == 1))
    (hreplay : tlvNat b.params 0x00FB 0 ≤ 2 ^ 30) (hok : s.portOk (tlvNat b.params 0x00E3 0) = true)
    (hon : s.macsecOn (tlvNat b.params 0x00E3 0) = true)
    (hkey : s.approve 0 [saNeed b] = .ok s') :
    answers (.macsecSaInstall j) s fun t => ∃ a : MacsecSa, a.slot = hSlot b.handle ∧
      a.key = (s'.slot (hSlot b.handle)).val ∧ a.xpn = (tlvNat b.params 0x00F7 0 == 1) ∧
      a.ssci = tlvNat b.params 0x00F9 0 ∧ a.salt = b.val 0x00FA ∧ a.replay = tlvNat b.params 0x00FB 0 ∧
      a.pn = tlvNat b.params 0x00F8 0 ∧
      match (s.macsecOf (tlvNat b.params 0x00E3 0)).install (tlvNat b.params 0x00F4 0) (tlvNat b.params 0x00F5 0)
          (tlvNat b.params 0x00F6 0 == 1) a with
      | none => endedWith t j (failed stLIMIT_EXCEEDED) ∧
          t.macsecOf (tlvNat b.params 0x00E3 0) = s.macsecOf (tlvNat b.params 0x00E3 0)
      | some m => endedWith t j (done []) ∧ t.macsecOf (tlvNat b.params 0x00E3 0) = m := by
  refine ⟨_, (runMp_runs _ h : execMacsecSaInstall j s = _), ?_⟩
  dsimp only
  rw [if_neg (by rw [hport, hssci, hsalt]; simp; omega), if_neg (by rw [hok, hon]; decide)]
  obtain ⟨b', hb'⟩ := State.job_holding hkey h.1
  have htr := State.holding_tr hkey j
  have hslot : (s'.holding j [saNeed b]).slot (hSlot b.handle) = s'.slot (hSlot b.handle) :=
    State.slot_of_ks (keysAlike_onJob s' j _).ks _
  have hrun := State.withKeys_runs (ns := [saNeed b]) hkey j
  generalize s'.holding j [saNeed b] = u at hb' htr hslot hrun
  simp only [saNeed] at hrun
  rw [hrun]
  refine ⟨saAsked u b, rfl, by rw [saAsked, hslot], rfl, rfl, rfl, rfl, rfl, ?_⟩
  rw [macsecOf_of_tr htr]
  dsimp only [saAsked]
  generalize Macsec.install _ _ _ _ _ = installed
  cases installed with
  | none => exact ⟨endedWith_endJob _ hb', macsecOf_of_tr ((State.endJob_tr _ _ _).trans htr) _⟩
  | some m =>
    exact ⟨endedWith_endJob (s := u.setMacsec _ _) _ hb',
      (macsecOf_of_tr (State.endJob_tr _ _ _) _).trans (tgetD_tput_same _ _ _ _)⟩

/-! ### Event-signing policies (R520) -/

theorem State.pinBerth_stands (s : State) (w : Berth) : Unseen s (s.pinBerth w) ∧ (s.pinBerth w).tr = s.tr := by
  have hpes : ∀ (ent : CacheEntry) (pes : List Nat) (u : State),
      Unseen u (pes.foldl (fun s i => (s.dropEntries (engKey 1 i) fun c => c.slot == ent.slot && c.gen == ent.gen).placeEntry
        (engKey 1 i) ent) u) ∧
      (pes.foldl (fun s i => (s.dropEntries (engKey 1 i) fun c => c.slot == ent.slot && c.gen == ent.gen).placeEntry
        (engKey 1 i) ent) u).tr = u.tr := by
    intro ent pes
    induction pes with
    | nil => exact fun u => ⟨Unseen.refl u, rfl⟩
    | cons i pes ih =>
      intro u
      obtain ⟨hu, htr⟩ := ih ((u.dropEntries (engKey 1 i) fun c => c.slot == ent.slot && c.gen == ent.gen).placeEntry
        (engKey 1 i) ent)
      exact ⟨((unseen_dropEntries u _ _).trans (unseen_placeEntry _ _ _)).trans hu,
        htr.trans ((State.placeEntry_tr _ _ _).trans (State.dropEntries_tr _ _ _))⟩
  unfold State.pinBerth
  split
  · exact ⟨Unseen.refl s, rfl⟩
  · dsimp only
    split
    · exact ⟨Unseen.refl s, rfl⟩
    · exact hpes _ _ s

/-- Pinning a policy's key leaves jobs, surface and policies. -/
theorem foldl_pinBerth_stands : ∀ (ws : List Berth) (s : State),
    Unseen s (ws.foldl State.pinBerth s) ∧ (ws.foldl State.pinBerth s).tr = s.tr
  | [], s => ⟨Unseen.refl s, rfl⟩
  | w :: ws, s => by
    obtain ⟨hw, htr⟩ := s.pinBerth_stands w
    obtain ⟨hws, htrs⟩ := foldl_pinBerth_stands ws (s.pinBerth w)
    exact ⟨hw.trans hws, htrs.trans htr⟩

theorem eventSignPolicy_stores (h : runsMp s j b opEVENT_SIGN_POLICY) (hform : policyBad b = false)
    (hset : tlvNat b.params 0x00F3 0 ≠ 1) (hsources : b.sources.any s.sourceBad = false)
    (hinst : tlvNat b.params 0x0004 0 ≤ 128) (hexists : s.instExists (tlvNat b.params 0x0004 0) = true)
    (hkeys : s.approve 0 (policyNeeds b) = .ok s') : answers (.eventSignPolicy j) s fun t => endedWith t j (done []) ∧
      ∃ x, tget t.tr.policies (tlvNat b.params 0x00EE 0) = some x ∧ x.key = b.handle ∧ x.pset = b.pset ∧
        x.combo = b.combo ∧ x.sources = b.sources ∧ x.inst = tlvNat b.params 0x0004 0 ∧
        x.seq = ((tget s.tr.policies (tlvNat b.params 0x00EE 0)).map (·.seq)).getD 0 := by
  refine ⟨_, (runMp_runs _ h : execEventSignPolicy j s = _), ?_⟩
  dsimp -zeta only
  extract_lets p inst had
  rw [if_neg (by rw [hform]; decide), if_neg hset, if_neg (by rw [hsources, hexists]; simp; omega),
    State.withKeys_runs hkeys]
  obtain ⟨b', hb'⟩ := State.job_holding hkeys h.1
  have htr := State.holding_tr hkeys j
  generalize s'.holding j _ = u at hb' htr ⊢
  extract_lets tr u1 ws
  have hu1 : u1.job j = some b' := hb'
  have hpol : tget u1.tr.policies (tlvNat b.params 0x00EE 0) = some _ := tget_tset_same _ _ _
  obtain ⟨hpin, hpintr⟩ := foldl_pinBerth_stands ws u1
  refine ⟨endedWith_endJob _ ((job_of_jobs hpin.1 j).trans hu1), _,
    (congrArg (fun tr => tget tr.policies _) ((State.endJob_tr _ _ _).trans hpintr)).trans hpol, rfl, rfl, rfl, rfl, rfl, rfl⟩

theorem eventSignPolicy_removes (h : runsMp s j b opEVENT_SIGN_POLICY) (hform : policyBad b = false)
    (hremove : tlvNat b.params 0x00F3 0 = 1) (hhad : (tget s.tr.policies (tlvNat b.params 0x00EE 0)).isSome) :
    answers (.eventSignPolicy j) s fun t =>
      endsQuietly s t j (done []) ∧ tget t.tr.policies (tlvNat b.params 0x00EE 0) = none := by
  refine ⟨_, (runMp_runs _ h : execEventSignPolicy j s = _), ?_⟩
  dsimp only
  rw [if_neg (by rw [hform]; decide), if_pos hremove, if_neg (by simpa [Option.isNone_iff_eq_none] using Option.isSome_iff_ne_none.1 hhad)]
  refine ⟨endsQuietly_endJob (t := State.recordPolicies _) _ h.1 rfl (surfaceKept_refl s), ?_⟩
  rw [State.endJob_tr]
  exact tget_tdel_same _ _

/-- Settles O26: each command is the lemma on its outcome. -/
theorem streamCommands : Obligations.StreamCommands := by
  unfold Obligations.StreamCommands
  intro s j b
  exact ⟨streamCreate_stages, fun _ => streamCreate_refuses, fun _ => streamModify_stages, fun _ _ => streamModify_refuses,
    fun h hid => ⟨streamDelete_stages h hid, streamDelete_refuses h hid⟩,
    fun h hid hfit => ⟨fun _ => streamStats_answers h hid hfit, streamStats_refuses h hid hfit⟩, portConfig_answers,
    fun _ => macsecSaInstall_answers, fun _ => eventSignPolicy_stores, eventSignPolicy_removes⟩

end Sys2Proof.Machine
end

section
/-! SUPPORT. Frames through the module: what sending one leaves alone, the flight a frame becomes, and what each stream
command answers. -/

namespace Sys2Proof.Machine

variable {r s t : State}

/-! ### Sending leaves jobs and flights -/

/-- Jobs, flights and the next flight's number stand. -/
structure FlightsStand (s t : State) : Prop where
  jobs : t.jobs = s.jobs
  flights : t.tr.flights = s.tr.flights
  next : t.tr.nextFlight = s.tr.nextFlight

theorem FlightsStand.refl (s : State) : FlightsStand s s := ⟨rfl, rfl, rfl⟩

theorem FlightsStand.trans (h : FlightsStand r s) (g : FlightsStand s t) : FlightsStand r t :=
  ⟨g.jobs.trans h.jobs, g.flights.trans h.flights, g.next.trans h.next⟩

theorem FlightsStand.flight (h : FlightsStand s t) (ev : Nat) : t.flight ev = s.flight ev :=
  congrArg (fun m => tget m ev) h.flights

theorem QueueTraffic.tr (h : QueueTraffic s t) : t.tr = s.tr := by rw [h]

theorem QueueTraffic.flightsStand (h : QueueTraffic s t) : FlightsStand s t :=
  ⟨h.jobs, congrArg (·.flights) h.tr, congrArg (·.nextFlight) h.tr⟩

theorem FlightsStand.countStream (h : FlightsStand r s) (id k : Nat) : FlightsStand r (s.countStream id k) := by
  unfold State.countStream
  split
  · exact h
  · exact ⟨h.jobs, h.flights, h.next⟩

theorem FlightsStand.bump (h : FlightsStand r s) (off i : Nat) : FlightsStand r (s.bump off i) := ⟨h.jobs, h.flights, h.next⟩

theorem flightsStand_protect {l : Nat} {bytes out : Bytes} (h : s.protect l bytes = some (out, t)) : FlightsStand s t := by
  unfold State.protect at h
  dsimp only at h
  repeat' split at h
  · cases h
  · cases h
  · cases h
  · cases h
    exact FlightsStand.trans (s := State.setMacsec s l _) ⟨rfl, rfl, rfl⟩ ((QueueTraffic.refl _).postEvent _ _ _ _ _).flightsStand
  · cases h
    exact ⟨rfl, rfl, rfl⟩

theorem FlightsStand.sendLane (h : FlightsStand r s) (l : Nat) (vid : Option Nat) (bytes : Bytes) :
    FlightsStand r (s.sendLane l vid bytes) := by
  unfold State.sendLane
  split
  · exact h
  · split
    · split
      next hp =>
        obtain ⟨hj, hf, hn⟩ := flightsStand_protect hp
        exact h.trans ⟨hj, hf, hn⟩
      · exact h.bump _ _
    · exact ⟨h.jobs, h.flights, h.next⟩

theorem FlightsStand.sendPort (h : FlightsStand r s) (p src : Nat) (both : Bool) (vid : Option Nat) (bytes : Bytes) :
    FlightsStand r (s.sendPort p src both vid bytes) := by
  unfold State.sendPort
  split
  · split
    · extract_lets n tr u
      have hu : FlightsStand r u := ⟨h.jobs, h.flights, h.next⟩
      exact (hu.sendLane _ _ _).sendLane _ _ _
    · exact h.sendLane _ _ _
  · exact h.sendLane _ _ _

theorem FlightsStand.sendFlight (h : FlightsStand r s) (f : Flight) (bytes : Bytes) : FlightsStand r (s.sendFlight f bytes) :=
  (h.sendPort _ _ _ _ _).countStream _ _

theorem flightsStand_postCopy (s : State) (inst stream lane : Nat) (frame : Bytes) :
    FlightsStand s (s.postCopy inst stream lane frame) := by
  have hq := QueueTraffic.refl s
  unfold State.postCopy
  split
  · exact .refl s
  next q _ =>
    extract_lets p c u
    have hu : QueueTraffic s u := hq.setPair q _
    split
    · exact ((((hu.emit _).writeCq q _).mirror q).moderate q).flightsStand
    · split
      · exact (hu.onPair q _).flightsStand
      · exact ((hu.onPair q _).mirror q).flightsStand

theorem State.flight_dropFlight (s : State) (ev : Nat) : (s.dropFlight ev).flight ev = none := tget_tdel_same _ _

/-! ### What leaves on a plain lane -/

/-- The lane is up, with neither MACsec nor redundancy. -/
def State.plain (s : State) (l : Nat) : Prop := s.laneUp l = true ∧ s.macsecOn l = false ∧ s.redPeer l = none

theorem State.sendLane_plain {l : Nat} (h : s.plain l) (vid : Option Nat) (bytes : Bytes) :
    s.sendLane l vid bytes = (s.emit (.frame l vid bytes)).bump aPT_TX_FRAMES l := by
  obtain ⟨hup, hmac, -⟩ := h
  unfold State.sendLane
  rw [hup, hmac]
  rfl

@[simp] theorem State.countStream_outbox (s : State) (id k : Nat) : (s.countStream id k).outbox = s.outbox := by
  unfold State.countStream
  split <;> rfl

theorem State.sendPort_alone {p : Nat} (h : s.redPeer p = none) (src : Nat) (both : Bool) (vid : Option Nat) (bytes : Bytes) :
    s.sendPort p src both vid bytes = s.sendLane p vid bytes := by
  unfold State.sendPort
  rw [h]

theorem State.sendFlight_plain {f : Flight} (h : s.plain f.ctx.outPort) (bytes : Bytes) :
    (s.sendFlight f bytes).outbox =
      s.outbox ++ [.frame f.ctx.outPort (if f.flagged then some f.ctx.flagVid else none) bytes] := by
  unfold State.sendFlight
  dsimp only
  rw [State.countStream_outbox, State.sendPort_alone h.2.2, State.sendLane_plain h]
  rfl

/-! ### The flight a frame becomes -/

/-- The flight `ev` carries the frame with its stream and context; `n` is the next one's number. -/
def Carries (ev n : Nat) (f : Frame) (id : Nat) (x : Stream) (t : State) : Prop :=
  ∃ fl : Flight, t.flight ev = some fl ∧ fl.frame = f ∧ fl.stream = id ∧ fl.ctx = x ∧ t.tr.nextFlight = n

section
variable {ev n id : Nat} {f : Frame} {x : Stream}

theorem Carries.of_stand (h : Carries ev n f id x s) (g : FlightsStand s t) : Carries ev n f id x t := by
  obtain ⟨fl, hfl, hf, hid, hx, hn⟩ := h
  exact ⟨fl, (g.flight ev).trans hfl, hf, hid, hx, g.next.trans hn⟩

theorem carries_setFlight {fl : Flight} (hn : s.tr.nextFlight = n) (hf : fl.frame = f) (hid : fl.stream = id)
    (hx : fl.ctx = x) : Carries ev n f id x (s.setFlight ev fl) :=
  ⟨fl, tget_tset_same _ _ _, hf, hid, hx, hn⟩

theorem FlightsStand.countCause (h : FlightsStand r s) (id : Nat) (c : Cause) : FlightsStand r (s.countCause id c) := by
  cases c with
  | oversize => exact h.countStream _ _
  | keyStale => exact (h.countStream _ _).bump _ _
  | noKey => exact (h.countStream _ _).bump _ _
  | authFail => exact (h.countStream _ _).bump _ _
  | replay => exact (h.countStream _ _).bump _ _

theorem Carries.frameFail (h : Carries ev n f id x s) (c : Cause) : Carries ev n f id x (s.frameFail ev c) := by
  obtain ⟨fl, hfl, hf, hid, hx, hn⟩ := h
  have hc := (FlightsStand.refl s).countCause fl.stream c
  unfold State.frameFail
  rw [hfl]
  dsimp only
  split
  · exact carries_setFlight ((hc.countStream _ _).next.trans hn) hf hid hx
  · split
    · exact carries_setFlight (((hc.countStream _ _).bump _ _).next.trans hn) hf hid hx
    · exact carries_setFlight (hc.next.trans hn) hf hid hx

theorem State.addJob_tr (s : State) (b : Job) : (s.addJob b).2.tr = s.tr := by
  unfold State.addJob
  dsimp only
  split <;> rfl

theorem carries_startEvent {fl : Flight} (hn : s.tr.nextFlight = n) (hf : fl.frame = f) (hid : fl.stream = id)
    (hx : fl.ctx = x) (p : Nat) (pol : EventPolicy) : Carries ev n f id x (s.startEvent ev fl p pol) :=
  carries_setFlight ((congrArg (·.nextFlight) (s.addJob_tr _)).trans hn) hf hid hx

theorem State.setStream_nextFlight (s : State) (id : Nat) (x : Stream) :
    (s.setStream id x).tr.nextFlight = s.tr.nextFlight := rfl

theorem Carries.frameAccept (h : Carries ev n f id x s) (auth : Bytes) : Carries ev n f id x (s.frameAccept ev auth) := by
  obtain ⟨fl, hfl, hf, hid, hx, hn⟩ := h
  unfold State.frameAccept
  rw [hfl]
  dsimp -zeta only
  extract_lets y goose j
  split
  · exact Carries.frameFail ⟨fl, hfl, hf, hid, hx, hn⟩ _
  next w y₁ y₂ fl' u v _ =>
    have hf' : fl'.frame = f := hf
    have hid' : fl'.stream = id := hid
    have hx' : fl'.ctx = x := hx
    clear_value fl' y₂
    have hu : u.tr.nextFlight = n := by
      unfold u
      split
      · exact (State.setStream_nextFlight _ _ _).trans hn
      · exact hn
    clear_value u
    split
    · exact carries_startEvent (s := v) hu hf' hid' hx' _ _
    · exact carries_setFlight hu hf' hid' hx'

theorem carries_frameRsa {fl : Flight} (hn : s.tr.nextFlight = n) (hf : fl.frame = f) (hid : fl.stream = id)
    (hx : fl.ctx = x) (y : Stream) (handle : Nat) : Carries ev n f id x (s.frameRsa ev fl y handle) := by
  refine carries_setFlight ?_ hf hid hx
  split <;> exact (congrArg (·.nextFlight) (s.addJob_tr _)).trans hn

theorem FlightsStand.loadSe (h : FlightsStand r s) (fl : Flight) (k : Nat) : FlightsStand r (s.loadSe fl k) := by
  unfold State.loadSe
  dsimp only
  split
  · exact h
  · unfold State.askKeys
    split <;> exact ⟨h.jobs, h.flights, h.next⟩

/-- The checks of R516 hold the frame in its flight. -/
theorem carries_frameChecks {fl : Flight} (h : s.flight ev = some fl) (hn : s.tr.nextFlight = n) (y : Stream) :
    Carries ev n fl.frame fl.stream fl.ctx (s.frameChecks ev fl y) := by
  have hs : Carries ev n fl.frame fl.stream fl.ctx s := ⟨fl, h, rfl, rfl, rfl, hn⟩
  unfold State.frameChecks
  extract_lets fr id mode
  split
  · exact carries_setFlight ((((FlightsStand.refl s).countStream _ _).bump _ _).next.trans hn) rfl rfl rfl
  split
  · exact hs.frameFail _
  split
  · exact carries_setFlight ((((FlightsStand.refl s).countStream _ _).bump _ _).next.trans hn) rfl rfl rfl
  split
  · exact hs.frameAccept _
  split
  · exact carries_frameRsa hn rfl rfl rfl _ _
  split
  · exact hs.frameFail _
  next k _ =>
    split
    · exact hs.frameFail _
    · split
      · exact carries_frameRsa hn rfl rfl rfl _ _
      · extract_lets u tag
        have hu : Carries ev n fl.frame fl.stream fl.ctx u := hs.of_stand ((FlightsStand.refl s).loadSe fl k)
        split
        · exact hu.frameAccept _
        · split
          · exact hu.frameAccept _
          · exact hu.frameFail _

theorem State.frameChecks_badLength {fl : Flight} (h : fl.frame.declaredLen ≠ fl.frame.receivedLen) (y : Stream) :
    (s.frameChecks ev fl y).flight ev = some { fl with drop := true } := by
  unfold State.frameChecks
  dsimp only
  rw [if_pos h]
  exact tget_tset_same _ _ _

end

/-! ### Taking a frame -/

/-- Only stream contexts, their cache and counters changed. -/
def ContextsTouched (s t : State) : Prop :=
  ∃ cnts streams cache, t = { s with cnts := cnts, tr := { s.tr with streams := streams, cache := cache } }

theorem contextsTouched_bump (s : State) (off i : Nat) : ContextsTouched s (s.bump off i) := ⟨_, _, _, rfl⟩

theorem ContextsTouched.trans (h : ContextsTouched r s) (g : ContextsTouched s t) : ContextsTouched r t := by
  obtain ⟨_, _, _, rfl⟩ := h
  obtain ⟨_, _, _, rfl⟩ := g
  exact ⟨_, _, _, rfl⟩

theorem contextsTouched_countStream (s : State) (id k : Nat) : ContextsTouched s (s.countStream id k) := by
  unfold State.countStream
  split <;> exact ⟨_, _, _, rfl⟩

theorem contextsTouched_touchContext (s : State) (id : Nat) (x : Stream) : ContextsTouched s (s.touchContext id x) := by
  unfold State.touchContext
  split
  · exact ⟨_, _, _, rfl⟩
  · extract_lets hit all tr u
    have hu : ContextsTouched s u := ⟨_, _, _, rfl⟩
    split
    · exact hu
    · exact (hu.trans (contextsTouched_bump u _ _)).trans (contextsTouched_countStream _ _ _)

theorem ContextsTouched.takeSe (h : ContextsTouched s t) (cluster c items : Nat) :
    t.takeSe cluster c items = s.takeSe cluster c items := by
  obtain ⟨_, _, _, rfl⟩ := h
  rfl

theorem ContextsTouched.next (h : ContextsTouched s t) : t.tr.nextFlight = s.tr.nextFlight := by
  obtain ⟨_, _, _, rfl⟩ := h
  rfl

theorem State.countFrame_tr (s : State) (c se : Nat) : (s.countFrame c se).tr = s.tr := by
  unfold State.countFrame
  split
  · rfl
  · split <;> rfl

theorem State.takeFrame_holds {p id : Nat} {f : Frame} {x : Stream} (h : s.classify p f = some (id, x))
    (hroom : (s.takeSe (f.lane / 128) x.cls (ceilDiv f.wireLen 64)).isSome) :
    Carries s.tr.nextFlight (s.tr.nextFlight + 1) f id x (s.takeFrame p f) ∧
      (f.declaredLen ≠ f.receivedLen →
        ((s.takeFrame p f).flight s.tr.nextFlight).map (·.drop) = some true) := by
  unfold State.takeFrame
  rw [h]
  dsimp -zeta only
  extract_lets u items
  have hu : ContextsTouched s u := (contextsTouched_countStream s id 0).trans (contextsTouched_touchContext _ id x)
  obtain ⟨se, hse⟩ := Option.isSome_iff_exists.mp hroom
  rw [show u.takeSe (f.lane / 128) x.cls items = some se from (hu.takeSe _ _ _).trans hse]
  dsimp -zeta only
  extract_lets fl v tr w
  have hw : w.flight u.tr.nextFlight = some fl := tget_tset_same _ _ _
  have hnext : w.tr.nextFlight = u.tr.nextFlight + 1 := rfl
  rw [← hu.next]
  refine ⟨carries_frameChecks hw hnext x, fun hlen => ?_⟩
  rw [State.frameChecks_badLength (fl := fl) hlen]
  rfl

/-! ### The commands -/

theorem State.lane_of_laneUp {l : Nat} (h : s.laneUp l = true) : l < 512 := by
  unfold State.laneUp State.laneLit at h
  simp only [Bool.and_eq_true, decide_eq_true_eq] at h
  exact h.1.1.1

theorem streamFrame_badLength (f : Frame) (hup : s.laneUp f.lane = true)
    (hlen : f.wireLen < 64 ∨ s.maxFrame (s.portOf f.lane) < f.wireLen) :
    answers (.streamFrame f) s fun t => t = { s with cnts := t.cnts } ∧
      t.cnt aPT_RX_ERR f.lane = (s.cnt aPT_RX_ERR f.lane + 1) % 2 ^ 32 := by
  have hl := State.lane_of_laneUp hup
  have hexec : execStreamFrame f s = .next ((s.bump aPT_RX_FRAMES f.lane).bump aPT_RX_ERR f.lane) := by
    unfold execStreamFrame
    dsimp only
    rw [hup]
    exact if_pos hlen
  refine ⟨_, hexec, rfl, (State.cnt_bumpBy_same _ _ _ _).trans ?_⟩
  rw [show (s.bump aPT_RX_FRAMES f.lane).cnt aPT_RX_ERR f.lane = s.cnt aPT_RX_ERR f.lane from
    State.cnt_bumpBy_other _ _ (by decide) (by omega) (by omega)]

theorem exec_streamFrame_plain {f : Frame} (hup : s.laneUp f.lane = true) (hmin : 64 ≤ f.wireLen)
    (hmax : f.wireLen ≤ s.maxFrame (s.portOf f.lane)) (hmac : s.macsecOn (s.portOf f.lane) = false)
    (hred : s.redPeer f.lane = none) :
    exec (.streamFrame f) s = .next ((s.bump aPT_RX_FRAMES f.lane).takeFrame (s.portOf f.lane) f) := by
  have hscreen : (s.bump aPT_RX_FRAMES f.lane).screenFrame (s.portOf f.lane) f = some (s.bump aPT_RX_FRAMES f.lane) :=
    if_pos (.inl (by rw [show (s.bump aPT_RX_FRAMES f.lane).macsecOn (s.portOf f.lane) = false from hmac]; rfl))
  have hexec : execStreamFrame f s = .next ((s.bump aPT_RX_FRAMES f.lane).takeFrame (s.portOf f.lane) f) := by
    unfold execStreamFrame
    dsimp only
    rw [hup, if_neg (by decide), if_neg (by rw [show (s.bump aPT_RX_FRAMES f.lane).maxFrame (s.portOf f.lane) =
      s.maxFrame (s.portOf f.lane) from rfl]; omega), hscreen]
    dsimp only
    rw [if_neg (by rw [show (s.bump aPT_RX_FRAMES f.lane).macsecOn (s.portOf f.lane) = false from hmac]; simp),
      show (s.bump aPT_RX_FRAMES f.lane).redPeer f.lane = none from hred]
  exact hexec

theorem streamFrame_forwards {f : Frame} (hup : s.laneUp f.lane = true) (hmin : 64 ≤ f.wireLen)
    (hmax : f.wireLen ≤ s.maxFrame (s.portOf f.lane)) (hmac : s.macsecOn (s.portOf f.lane) = false)
    (hred : s.redPeer f.lane = none) (hno : s.classify (s.portOf f.lane) f = none)
    (hfwd : s.fld (aPT_PEER + 4 * s.portOf f.lane) 25 16 ≤ 511)
    (hplain : s.plain (s.fld (aPT_PEER + 4 * s.portOf f.lane) 25 16)) :
    answers (.streamFrame f) s fun t =>
      t.outbox = s.outbox ++ [.frame (s.fld (aPT_PEER + 4 * s.portOf f.lane) 25 16) none (f.body ++ f.tag)] ∧ t.tr = s.tr := by
  refine ⟨_, exec_streamFrame_plain hup hmin hmax hmac hred, ?_⟩
  have htake : (s.bump aPT_RX_FRAMES f.lane).takeFrame (s.portOf f.lane) f =
      (s.bump aPT_RX_FRAMES f.lane).forwardFrame (s.portOf f.lane) f := by
    unfold State.takeFrame
    rw [show (s.bump aPT_RX_FRAMES f.lane).classify (s.portOf f.lane) f = none from hno]
  rw [htake]
  unfold State.forwardFrame
  dsimp only
  rw [show (s.bump aPT_RX_FRAMES f.lane).fld (aPT_PEER + 4 * s.portOf f.lane) 25 16 =
    s.fld (aPT_PEER + 4 * s.portOf f.lane) 25 16 from rfl, if_neg (by omega),
    State.sendLane_plain (s := s.bump aPT_RX_FRAMES f.lane) hplain]
  exact ⟨rfl, rfl⟩

theorem streamFrame_held {f : Frame} (hup : s.laneUp f.lane = true) (hmin : 64 ≤ f.wireLen)
    (hmax : f.wireLen ≤ s.maxFrame (s.portOf f.lane)) (hmac : s.macsecOn (s.portOf f.lane) = false)
    (hred : s.redPeer f.lane = none) {id : Nat} {x : Stream} (hc : s.classify (s.portOf f.lane) f = some (id, x))
    (hroom : (s.takeSe (f.lane / 128) x.cls (ceilDiv f.wireLen 64)).isSome) :
    answers (.streamFrame f) s fun t => ∃ fl : Flight, t.flight s.tr.nextFlight = some fl ∧ fl.frame = f ∧
      fl.stream = id ∧ fl.ctx = x ∧ t.tr.nextFlight = s.tr.nextFlight + 1 ∧
      (f.declaredLen ≠ f.receivedLen → fl.drop = true) := by
  refine ⟨_, exec_streamFrame_plain hup hmin hmax hmac hred, ?_⟩
  obtain ⟨⟨fl, hfl, hf, hid, hx, hn⟩, hdrop⟩ :=
    State.takeFrame_holds (s := s.bump aPT_RX_FRAMES f.lane) hc hroom
  refine ⟨fl, hfl, hf, hid, hx, hn, fun hlen => ?_⟩
  have hd := hdrop hlen
  rw [hfl] at hd
  exact Option.some_inj.mp hd

theorem frameEgress_answers {id : Nat} {f : Flight} (h : s.flight id = some f) (hstage : f.stage = .egress) :
    answers (.frameEgress id) s fun t => t.flight id = none ∧ (f.drop = true → t.outbox = s.outbox) ∧
      (f.drop = false → s.plain f.ctx.outPort →
        t.outbox = s.outbox ++ [.frame f.ctx.outPort (if f.flagged then some f.ctx.flagVid else none) f.bytes]) := by
  have hexec : execFrameEgress id s = .next ((if f.drop then s else s.sendFlight f f.bytes).dropFlight id) := by
    unfold execFrameEgress
    rw [h]
    exact if_neg (not_not.mpr hstage)
  refine ⟨_, hexec, State.flight_dropFlight _ _, fun hd => ?_, fun hd hplain => ?_⟩
  · rw [hd]
    rfl
  · rw [hd]
    exact State.sendFlight_plain hplain _

theorem mgmtLaneFrame_answers {vid : Nat} (bytes : Bytes) (hvid : vid ≠ 0) (hup : s.laneUp (vid - 1) = true)
    (hmac : s.macsecOn (vid - 1) = true) : answers (.mgmtLaneFrame vid bytes) s fun t =>
      t.outbox = s.outbox ++ [.frame (vid - 1) none bytes] ∧
      t.cnt aPT_TX_FRAMES (vid - 1) = (s.cnt aPT_TX_FRAMES (vid - 1) + 1) % 2 ^ 32 := by
  have hexec : execMgmtLaneFrame vid bytes s =
      .next ((s.emit (.frame (vid - 1) none bytes)).bump aPT_TX_FRAMES (vid - 1)) := by
    unfold execMgmtLaneFrame
    exact if_neg (by rw [hup, hmac]; simp [hvid])
  exact ⟨_, hexec, rfl, State.cnt_bumpBy_same _ _ _ _⟩

/-- What is in the outbox stays in it when the host copy is posted. -/
theorem mem_outbox_postCopy {o : Output} (h : o ∈ s.outbox) (inst stream lane : Nat) (frame : Bytes) :
    o ∈ (s.postCopy inst stream lane frame).outbox :=
  (State.postCopy_kept (Kept.now s) s inst stream lane frame (Kept.now_of s)).2.2.2.1.subset h

theorem signedEventRelease_answers {ev : Nat} {f : Flight} (h : s.flight ev = some f) (hsigned : f.signed = true) :
    answers (.signedEventRelease ev) s fun t => t.flight ev = none ∧ (f.drop = true → t.outbox = s.outbox) ∧
      (f.drop = false → s.plain f.ctx.outPort →
        .frame f.ctx.outPort (if f.flagged then some f.ctx.flagVid else none) (f.bytes ++ signedElement f) ∈ t.outbox) := by
  have hexec : execSignedEventRelease ev s = if f.drop = true then .next (s.dropFlight ev) else
      .next (((((s.dropFlight ev).sendFlight f (f.bytes ++ signedElement f)).countStream f.stream 12).bump aST_EVT_SIGNED 0).postCopy
        f.inst f.stream f.ctx.outPort (f.bytes ++ signedElement f)) := by
    unfold execSignedEventRelease
    rw [h]
    dsimp only
    rw [hsigned]
    rfl
  cases hd : f.drop with
  | true =>
    rw [hd] at hexec
    exact ⟨_, hexec, State.flight_dropFlight _ _, fun _ => rfl, nofun⟩
  | false =>
    rw [hd] at hexec
    refine ⟨_, hexec, ?_, nofun, fun _ hplain => mem_outbox_postCopy ?_ _ _ _ _⟩
    · have hleft := ((((FlightsStand.refl (s.dropFlight ev)).sendFlight f (f.bytes ++ signedElement f)).countStream
        f.stream 12).bump aST_EVT_SIGNED 0).trans (flightsStand_postCopy _ f.inst f.stream f.ctx.outPort
          (f.bytes ++ signedElement f))
      exact (hleft.flight ev).trans (State.flight_dropFlight _ _)
    · show _ ∈ (State.countStream _ _ _).outbox
      rw [State.countStream_outbox, State.sendFlight_plain (s := s.dropFlight ev) hplain]
      exact List.mem_append_right _ (List.mem_singleton.mpr rfl)

/-! ### Late events -/

theorem State.dropContext_traffic (s : State) (j : Nat) :
    (s.dropContext j).tr = s.tr ∧ (s.dropContext j).jobs = s.jobs ∧ (s.dropContext j).outbox = s.outbox ∧
      (s.dropContext j).cnts = s.cnts := by
  unfold State.dropContext
  split
  · exact ⟨rfl, rfl, rfl, rfl⟩
  · split
    · exact ⟨rfl, rfl, rfl, rfl⟩
    · dsimp only
      split <;> exact ⟨rfl, rfl, rfl, rfl⟩

theorem State.removeJob_jobs (s : State) (j : Nat) : (s.removeJob j).jobs = tdel s.jobs j :=
  congrArg (tdel · j) (s.dropContext_traffic j).2.1

theorem State.removeJob_tr (s : State) (j : Nat) : (s.removeJob j).tr = s.tr := (s.dropContext_traffic j).1

theorem State.removeJob_outbox (s : State) (j : Nat) : (s.removeJob j).outbox = s.outbox := (s.dropContext_traffic j).2.2.1

theorem State.removeJob_cnts (s : State) (j : Nat) : (s.removeJob j).cnts = s.cnts := (s.dropContext_traffic j).2.2.2

theorem lateLimitExpiry_answers {ev j : Nat} {f : Flight} {b : Job} (h : s.flight ev = some f)
    (hstage : f.stage = .event j) (hj : s.job j = some b) (hfifo : b.phase = .fifo)
    (hlate : f.arrived + f.limit ≤ s.tb.crossings) : answers (.lateLimitExpiry ev) s fun t =>
      t.flight ev = none ∧ t.job j = none ∧ (f.lateDrop = true → t.outbox = s.outbox) := by
  have hexec : execLateLimitExpiry ev s = .next ((s.removeJob j).lateEvent ev) := by
    unfold execLateLimitExpiry
    rw [h]
    dsimp only
    rw [hstage]
    exact if_pos ⟨hlate, by rw [hj, Option.any_some, hfifo]; rfl⟩
  refine ⟨_, hexec, ?_⟩
  have hflight : (s.removeJob j).flight ev = some f := (congrArg (fun x : Traffic => tget x.flights ev) (s.removeJob_tr j)).trans h
  have hgone : (s.removeJob j).job j = none :=
    (congrArg (fun m => tget m j) (s.removeJob_jobs j)).trans (tget_tdel_same _ _)
  have hout := s.removeJob_outbox j
  generalize s.removeJob j = u at hflight hgone hout ⊢
  unfold State.lateEvent
  rw [hflight]
  dsimp -zeta only
  extract_lets v
  have hcount : FlightsStand u ((u.bump aST_EVT_UNSIGNED 0).countStream f.stream 13) :=
    ((FlightsStand.refl u).bump _ _).countStream _ _
  have hvj : v.job j = none := (congrArg (fun m => tget m j) hcount.jobs).trans hgone
  have hvf : v.flight ev = none := State.flight_dropFlight _ _
  split
  · exact ⟨hvf, hvj, fun _ => (State.countStream_outbox _ _ _).trans hout⟩
  next hsent =>
    have hsend := (FlightsStand.refl v).sendFlight f f.bytes
    exact ⟨(hsend.flight ev).trans hvf, (congrArg (fun m => tget m j) hsend.jobs).trans hvj, fun hl => absurd hl hsent⟩

/-- Settles O27: each clause is the lemma on its command. -/
theorem streamTraffic : Obligations.StreamTraffic := by
  unfold Obligations.StreamTraffic
  intro s
  exact ⟨streamFrame_badLength, fun f hup hmin hmax hmac hred => ⟨streamFrame_forwards hup hmin hmax hmac hred,
      fun id x => streamFrame_held hup hmin hmax hmac hred⟩,
    fun id f => frameEgress_answers, fun vid => mgmtLaneFrame_answers, fun ev f => signedEventRelease_answers,
    fun ev f j b => lateLimitExpiry_answers⟩

end Sys2Proof.Machine
end

section
/-! SUPPORT. Lanes, cages and FIFOs: the link list a lane's or a cage's event leaves, and the FIFO a flush empties. -/

namespace Sys2Proof.Machine

variable {s t : State}

/-! ### Lanes -/

theorem laneLinkChange_falls (s : State) (l : Nat) : answers (.laneLinkChange l false) s fun t =>
    l ∉ t.tr.up ∧ ∀ k, k ≠ l → (k ∈ t.tr.up ↔ k ∈ s.tr.up) := by
  refine ⟨_, (rfl : execLaneLinkChange l false s = _), ?_, fun k hk => ?_⟩
  · simp
  · simp [hk]

theorem laneLinkChange_rises {l : Nat} (hl : l < 512) (hspeed : s.speed l ≠ 0) (hready : s.ready (17 + l / 128) = true)
    (hcage : (s.cage (l / 8)).carries l = true) : answers (.laneLinkChange l true) s fun t =>
      l ∈ t.tr.up ∧ ∀ k, k ≠ l → (k ∈ t.tr.up ↔ k ∈ s.tr.up) := by
  have hexec : execLaneLinkChange l true s =
      .next { s with tr := { s.tr with up := s.tr.up.filter (· != l) ++ [l] } } :=
    if_pos ⟨hl, hspeed, hready, hcage⟩
  refine ⟨_, hexec, ?_, fun k hk => ?_⟩
  · simp
  · simp [hk]

/-! ### Cages -/

@[simp] theorem State.cage_setCage_same (s : State) (c : Nat) (x : Cage) : (s.setCage c x).cage c = x :=
  tgetD_tput_same _ _ _ _

theorem State.up_setCage (s : State) (c : Nat) (x : Cage) :
    (s.setCage c x).tr.up = s.tr.up.filter fun l => l / 8 != c || x.carries l := rfl

/-- A cage without a module carries no lane. -/
theorem State.mem_up_setCage_empty {c k : Nat} {x : Cage} (hx : x.present = false) (h : k ∈ (s.setCage c x).tr.up) :
    k / 8 ≠ c ∧ k ∈ s.tr.up := by
  rw [State.up_setCage, List.mem_filter] at h
  simpa [Cage.carries, hx, and_comm] using h

theorem cageOvercurrent_answers {c : Nat} (h : (s.cage c).powered = true) : answers (.cageOvercurrent c) s fun t =>
    t.cage c = { fault := true } ∧ ∀ k ∈ t.tr.up, k / 8 ≠ c ∧ k ∈ s.tr.up := by
  refine ⟨_, (if_neg (by rw [h]; decide) : execCageOvercurrent c s = _), ?_⟩
  obtain ⟨fc, hraise, -⟩ := State.raise_corrected (s.setCage c { fault := true })
    (m := { source := 0x650 + c, access := 0, kind := 0x54, master := 0, address := c, fatal := false }) rfl (fun _ => rfl)
  rw [hraise]
  exact ⟨State.cage_setCage_same s c _, fun k => State.mem_up_setCage_empty rfl⟩

theorem cageModulePresent_answers {c : Nat} (h : (s.cage c).powered = true) (narrow : Bool) :
    answers (.cageModulePresent ⟨c, narrow⟩) s fun t =>
      t.cage c = { powered := true, present := true, narrow := narrow } ∧
      t.tr.up = s.tr.up.filter fun k => k / 8 != c || !narrow || k % 8 < 4 := by
  refine ⟨_, (if_pos h : execCageModulePresent ⟨c, narrow⟩ s = _), State.cage_setCage_same s c _, ?_⟩
  rw [State.up_setCage]
  simp [Cage.carries, Bool.or_assoc]

theorem cageModuleUnplugged_answers (s : State) (c : Nat) : answers (.cageModuleUnplugged c) s fun t =>
    t.cage c = { s.cage c with present := false, narrow := false } ∧ ∀ k ∈ t.tr.up, k / 8 ≠ c ∧ k ∈ s.tr.up :=
  ⟨_, rfl, State.cage_setCage_same s c _, fun _ => State.mem_up_setCage_empty rfl⟩

/-! ### FIFOs -/

/-- A stream SE's FIFO is empty once the flights with items in it are gone. -/
theorem seItems_filtered (se : Nat) (flights : Tab Flight) :
    (((flights.filter fun e => !(e.2.se == se && e.2.items != 0)).filter fun e => e.2.se == se).map fun e => e.2.items).sum =
      0 := by
  rw [List.sum_eq_zero_iff]
  intro n hn
  obtain ⟨e, he, rfl⟩ := List.mem_map.mp hn
  simp only [List.mem_filter, Bool.not_and, Bool.or_eq_true, Bool.not_eq_true', beq_eq_false_iff_ne, bne_eq_false_iff_eq,
    beq_iff_eq] at he
  obtain ⟨⟨-, hse | hitems⟩, hthis⟩ := he
  · exact absurd hthis hse
  · exact hitems

theorem foldl_removeJob_jobs : ∀ (js : List Nat) (s : State),
    (js.foldl State.removeJob s).jobs = s.jobs.filter fun e => !js.contains e.1
  | [], s => by simp
  | j :: js, s => by
    rw [List.foldl_cons, foldl_removeJob_jobs js, State.removeJob_jobs, tdel, List.filter_filter]
    refine List.filter_congr fun e _ => ?_
    by_cases h : e.1 = j <;> simp [h]

theorem foldl_removeJob_cnts : ∀ (js : List Nat) (s : State), (js.foldl State.removeJob s).cnts = s.cnts
  | [], _ => rfl
  | j :: js, s => (foldl_removeJob_cnts js _).trans (s.removeJob_cnts j)

/-- No job a FIFO holds is left once those it held are taken away. -/
theorem filter_jobsWhere_gone (s : State) (p : Job → Bool) :
    ((s.jobs.filter fun e => !(s.jobsWhere p).contains e.1).filter fun e => p e.2) = [] := by
  rw [List.filter_eq_nil_iff]
  intro e he hp
  obtain ⟨hmem, hout⟩ := List.mem_filter.mp he
  have hin : e.1 ∈ s.jobsWhere p := List.mem_map.mpr ⟨e, List.mem_filter.mpr ⟨hmem, hp⟩, rfl⟩
  simp [hin] at hout

theorem State.checkIdle_cnts (s : State) (q : Nat) : (s.checkIdle q).cnts = s.cnts := by
  unfold State.checkIdle
  dsimp only
  split
  · rw [State.postEvent_cnts, State.mirror_cnts]
    rfl
  · rfl

theorem foldl_checkIdle_cnts : ∀ (qs : List Nat) (s : State), (qs.foldl State.checkIdle s).cnts = s.cnts
  | [], _ => rfl
  | q :: qs, s => (foldl_checkIdle_cnts qs _).trans (s.checkIdle_cnts q)

theorem State.emptyFifo_cnts (s : State) (fifo : Nat) : (s.emptyFifo fifo).cnts = s.cnts := by
  unfold State.emptyFifo
  split
  · rfl
  · split
    · rfl
    · exact (foldl_checkIdle_cnts _ _).trans (foldl_removeJob_cnts _ _)

/-- An emptied FIFO holds no item. -/
theorem State.fifoItems_emptyFifo (s : State) (fifo : Nat) : (s.emptyFifo fifo).fifoItems fifo = 0 := by
  unfold State.fifoItems State.emptyFifo
  split
  · exact seItems_filtered fifo s.tr.flights
  · split
    · rfl
    · extract_lets js pairOf qs
      have hidle : QueueTraffic (js.foldl State.removeJob s) (qs.foldl State.checkIdle (js.foldl State.removeJob s)) :=
        QueueTraffic.foldl (fun _ q h => h.checkIdle q) qs (.refl _)
      rw [hidle.jobs, foldl_removeJob_jobs, filter_jobsWhere_gone]
      rfl

/-- What a FIFO holds follows from jobs and flights. -/
theorem fifoItems_of_eq (hjobs : t.jobs = s.jobs) (htr : t.tr = s.tr) (fifo : Nat) : t.fifoItems fifo = s.fifoItems fifo := by
  unfold State.fifoItems State.seItems
  rw [hjobs, htr]

theorem ptFifoFlush_answers {v : Reg} (h : v.toNat % 128 ≤ 87) : answers (.ptFifoFlush v) s fun t =>
    t.fifoItems (v.toNat % 128) = 0 ∧ t.cnt aPT_FIFO_DISCARD (v.toNat % 128) =
      (s.cnt aPT_FIFO_DISCARD (v.toNat % 128) + s.fifoItems (v.toNat % 128)) % 2 ^ 32 := by
  refine ⟨_, (if_neg (by omega) : execPtFifoFlush v s = _), State.fifoItems_emptyFifo _ _, ?_⟩
  unfold State.cnt
  rw [State.emptyFifo_cnts]
  exact State.cnt_bumpBy_same _ _ _ _

theorem fifoPointerMismatch_answers {fifo : Nat} (h : fifo ≤ 87) :
    answers (.fifoPointerMismatch fifo) s fun t => t.fifoItems fifo = 0 := by
  refine ⟨_, (if_neg (by omega) : execFifoPointerMismatch fifo s = _), ?_⟩
  dsimp only
  generalize ((s.bumpBy aPT_FIFO_LOST fifo (s.fifoItems fifo)).bump aPT_FIFO_RESETS fifo) = u
  obtain ⟨fc, htold, -⟩ := State.raise_told (u.emptyFifo fifo)
    (m := { source := 0x480 + fifo, access := 6, kind := 0x20, master := 0, address := s.fifoItems fifo, fatal := false }) rfl
    (fun _ => rfl) (if_pos (show (0x480 + fifo) / 512 ≠ 0 by omega))
  exact (fifoItems_of_eq htold.jobs htold.tr fifo).trans (u.fifoItems_emptyFifo fifo)

/-- Settles O28: each clause is the lemma on its command. -/
theorem lanesCagesAndFifos : Obligations.LanesCagesAndFifos := by
  unfold Obligations.LanesCagesAndFifos
  intro s l c fifo
  exact ⟨laneLinkChange_falls s l, laneLinkChange_rises, cageOvercurrent_answers, cageModulePresent_answers,
    cageModuleUnplugged_answers s c, fun v => ptFifoFlush_answers, fifoPointerMismatch_answers,
    fun v h => ⟨s, (if_pos h : execPtFifoFlush v s = _), rfl⟩, fun h => ⟨s, (if_pos h : execFifoPointerMismatch fifo s = _), rfl⟩⟩

end Sys2Proof.Machine
end

section
/-! SUPPORT. INSTANCE_QUIESCE on a job table that lists one number twice: the abort of the tenant's waiting commands takes
the running command away (R554). -/

namespace Sys2Proof.Machine

/-- An INSTANCE_QUIESCE of instance 1 in a phase. -/
def quiesceJob (inst : Nat) (phase : JobPhase) : Job :=
  { src := .console, inst := inst, opcode := opINSTANCE_QUIESCE, tag := 0, major := 2, minor := 2, flags := 0, handle := 0,
    deadline := 0, params := [⟨0x0004, [1]⟩], paramLen := 0, resultCap := 0, resultAddr := 0, dataLen := 0, frags := [],
    order := 0, seqInQueue := 0, phase := phase }

/-- Instance 1 is ACTIVE, and the job table lists number 0 twice: a running command, and behind it a waiting one of
instance 1. -/
def doubledState : State :=
  { State.reset with insts := [(1, { state := .active })]
                     jobs := [(0, quiesceJob 0 .running), (0, quiesceJob 1 .slow)] }

theorem quiesceJob_runs : runsMp doubledState 0 (quiesceJob 0 .running) opINSTANCE_QUIESCE :=
  ⟨rfl, rfl, rfl, .inl rfl, rfl⟩

/-- The abort of the waiting command ends the number's first job, which is the running command itself. -/
theorem doubledState_loses : ∃ t, exec (.instanceQuiesce 0) doubledState = .next t ∧ t.job 0 = none :=
  ⟨_, rfl, by decide +kernel⟩

/-- Refutes O29: where the job table lists the number of a running INSTANCE_QUIESCE again for a waiting command of the
instance, the quiescing takes the running command away, and the statement has it wait. -/
theorem not_instanceCommands : ¬ Obligations.InstanceCommands := by
  unfold Obligations.InstanceCommands
  intro h
  obtain ⟨-, -, hquiesce, -⟩ := h doubledState 0 (quiesceJob 0 .running) (by decide) (by decide)
  obtain ⟨t, ht, ⟨b, hb, -⟩, -⟩ := hquiesce quiesceJob_runs (by decide) (by decide) (by decide) (by decide) (by decide)
  obtain ⟨u, hu, hgone⟩ := doubledState_loses
  cases hu.symm.trans ht
  rw [hgone] at hb
  cases hb

end Sys2Proof.Machine
end

section
/-! SUPPORT. What resets an instance and what leaves the others' states and the VF numbers alone (R543, R554, R557 to
R559). -/

namespace Sys2Proof.Machine

variable {r s t : State}

theorem QueueTraffic.insts (h : QueueTraffic s t) : t.insts = s.insts := by rw [h]

/-! ### Instances and functions stand -/

/-- Every instance is in its state, and the VF numbers stand. -/
structure InstancesStand (s t : State) : Prop where
  state : ∀ n, (t.inst n).state = (s.inst n).state
  vfEnable : t.pcie.vfEnable = s.pcie.vfEnable
  numVfs : t.pcie.numVfs = s.pcie.numVfs

theorem InstancesStand.refl (s : State) : InstancesStand s s := ⟨fun _ => rfl, rfl, rfl⟩

theorem InstancesStand.trans (h : InstancesStand r s) (g : InstancesStand s t) : InstancesStand r t :=
  ⟨fun n => (g.state n).trans (h.state n), g.vfEnable.trans h.vfEnable, g.numVfs.trans h.numVfs⟩

theorem instancesStand_of_eq (hinsts : t.insts = s.insts) (hpcie : t.pcie = s.pcie) : InstancesStand s t :=
  ⟨fun n => by unfold State.inst; rw [hinsts], by rw [hpcie], by rw [hpcie]⟩

theorem instancesStand_setInst {n : Nat} {x : Instance} (h : x.state = (s.inst n).state) : InstancesStand s (s.setInst n x) :=
  ⟨fun m => by
    by_cases hm : m = n
    · rw [hm, s.inst_setInst_same n x, h]
    · rw [s.inst_setInst_other x hm], rfl, rfl⟩

theorem instancesStand_foldl {α : Type} {f : State → α → State} (hf : ∀ s a, InstancesStand s (f s a)) :
    ∀ (l : List α) (s : State), InstancesStand s (l.foldl f s)
  | [], s => .refl s
  | a :: l, s => (hf s a).trans (instancesStand_foldl hf l _)

theorem QueueTraffic.instancesStand (h : QueueTraffic s t) : InstancesStand s t :=
  ⟨fun n => by unfold State.inst; rw [h.insts], by rw [h], by rw [h]⟩

/-! ### What a reset does before it marks the instance -/

theorem instancesStand_chargeScratch (s : State) (n plus minus : Nat) : InstancesStand s (s.chargeScratch n plus minus) := by
  unfold State.chargeScratch
  split
  · exact .refl s
  · exact instancesStand_setInst rfl

theorem instancesStand_removeJob (s : State) (j : Nat) : InstancesStand s (s.removeJob j) := by
  have hcontext : InstancesStand s (s.dropContext j) := by
    unfold State.dropContext
    split
    · exact .refl s
    · split
      · exact .refl s
      · extract_lets k out u
        have hu : InstancesStand s u := instancesStand_of_eq rfl rfl
        split
        · exact hu.trans (instancesStand_chargeScratch u _ _ _)
        · exact hu
  exact ⟨hcontext.state, hcontext.vfEnable, hcontext.numVfs⟩

theorem instancesStand_unpend (s : State) (k : Nat) : InstancesStand s (s.unpend k) := by
  unfold State.unpend
  dsimp only
  split <;> exact instancesStand_of_eq rfl rfl

theorem instancesStand_resetJob (s : State) (j : Nat) : InstancesStand s (s.resetJob j) := by
  unfold State.resetJob
  split
  · exact .refl s
  · dsimp only
    split
    · exact instancesStand_of_eq rfl rfl
    · split
      · exact instancesStand_of_eq rfl rfl
      · exact (instancesStand_foldl instancesStand_unpend _ _).trans (instancesStand_removeJob _ j)

theorem instancesStand_resetQueues (s : State) (n : Nat) : InstancesStand s (s.resetQueues n) := by
  unfold State.resetQueues
  extract_lets u v
  have hv : InstancesStand s v := (instancesStand_foldl instancesStand_resetJob _ s).trans
    (instancesStand_foldl (f := State.resetPair) (fun _ _ => instancesStand_of_eq rfl rfl) _ u)
  exact ⟨hv.state, hv.vfEnable, hv.numVfs⟩

theorem instancesStand_dropEntries (s : State) (k : Nat) (gone : CacheEntry → Bool) :
    InstancesStand s (s.dropEntries k gone) := by
  unfold State.dropEntries
  dsimp only
  split
  · exact .refl s
  · split <;> exact instancesStand_of_eq rfl rfl

theorem instancesStand_retireEntries (s : State) (holds : Engine → Bool) (hit : CacheEntry → Bool) :
    InstancesStand s (s.retireEntries holds hit) :=
  (instancesStand_foldl (fun s (e : Nat × Engine) => instancesStand_dropEntries s e.1 _) s.engines s).trans
    (instancesStand_of_eq rfl rfl)

theorem instancesStand_checkLows (s : State) : InstancesStand s s.checkLows := by
  obtain ⟨hstate, hvf, hnum⟩ := (lowChecked_checkLows s).traffic.instancesStand
  exact ⟨hstate, hvf, hnum⟩

theorem instancesStand_wipeInstance (s : State) (n : Nat) : InstancesStand s (s.wipeInstance n) := by
  unfold State.wipeInstance
  extract_lets s₁ s₂ s₃ parts s₄ d x keep
  have h₁ : InstancesStand s s₁ :=
    (instancesStand_foldl (f := State.freeSlot) (fun _ _ => instancesStand_of_eq rfl rfl) _ s).trans
      (instancesStand_of_eq rfl rfl)
  have h₂ : InstancesStand s₁ s₂ := instancesStand_retireEntries s₁ _ _
  have h₃ : InstancesStand s₂ s₃ := InstancesStand.trans (s := s₂.discardBlocks fun k => k.inst == n)
    (instancesStand_of_eq rfl rfl) (instancesStand_checkLows _)
  have h₄ : InstancesStand s₃ d.2 := instancesStand_of_eq rfl rfl
  have hx : x.state = (d.2.inst n).state := rfl
  clear_value s₁ s₂ s₃ x d
  exact (((h₁.trans h₂).trans h₃).trans h₄).trans (instancesStand_setInst hx)

/-! ### Resets of an instance -/

/-- A reset makes its instance RESETTING, to become `after`, and leaves the others and the VF numbers. -/
structure ResetOf (s t : State) (n : Nat) (after : InstState) : Prop where
  resetting : (t.inst n).state = .resetting
  after : (t.inst n).after = after
  others : ∀ m, m ≠ n → (t.inst m).state = (s.inst m).state
  vfEnable : t.pcie.vfEnable = s.pcie.vfEnable
  numVfs : t.pcie.numVfs = s.pcie.numVfs

theorem State.resetInstance_resets (s : State) (n : Nat) (after : InstState) (tell : Bool) :
    ResetOf s (s.resetInstance n after tell) n after := by
  have h := (instancesStand_resetQueues s n).trans (instancesStand_wipeInstance _ n)
  unfold State.resetInstance
  generalize (s.resetQueues n).wipeInstance n = u at h ⊢
  exact ⟨congrArg Instance.state (u.inst_setInst_same n _), congrArg Instance.after (u.inst_setInst_same n _),
    fun m hm => (congrArg Instance.state (u.inst_setInst_other _ hm)).trans (h.state m), h.vfEnable, h.numVfs⟩

/-- What an instance becomes again after a function's reset. -/
def Instance.afterReset (x : Instance) : InstState :=
  match x.state with
  | .absent => .absent
  | .active => .active
  | .quiescing => .quiesced
  | .quiesced => .quiesced
  | .resetting => x.after

theorem State.functionReset_absent {n : Nat} (h : (s.inst n).state = .absent) : s.functionReset n = s.bump aIN_FLR_CNT n := by
  unfold State.functionReset
  dsimp only
  rw [h]

theorem State.functionReset_resets {n : Nat} (h : (s.inst n).state ≠ .absent) :
    ResetOf s (s.functionReset n) n (s.inst n).afterReset := by
  have hreset := fun after tell => (s.bump aIN_FLR_CNT n).resetInstance_resets n after tell
  have hs : ∀ {u after}, ResetOf (s.bump aIN_FLR_CNT n) u n after → ResetOf s u n after :=
    fun h => ⟨h.resetting, h.after, h.others, h.vfEnable, h.numVfs⟩
  unfold State.functionReset Instance.afterReset
  dsimp only
  cases hx : (s.inst n).state with
  | absent => exact absurd hx h
  | active => exact hs (hreset _ _)
  | quiescing => exact hs (hreset _ _)
  | quiesced => exact hs (hreset _ _)
  | resetting => exact hs (hreset _ _)

/-- Resetting one function after another keeps the VF numbers. -/
theorem State.functionReset_vfs (s : State) (n : Nat) :
    (s.functionReset n).pcie.vfEnable = s.pcie.vfEnable ∧ (s.functionReset n).pcie.numVfs = s.pcie.numVfs := by
  by_cases h : (s.inst n).state = .absent
  · rw [State.functionReset_absent h]
    exact ⟨rfl, rfl⟩
  · have hr := State.functionReset_resets h
    exact ⟨hr.vfEnable, hr.numVfs⟩

theorem foldl_functionReset_vfs : ∀ (ns : List Nat) (s : State),
    (ns.foldl State.functionReset s).pcie.vfEnable = s.pcie.vfEnable ∧
      (ns.foldl State.functionReset s).pcie.numVfs = s.pcie.numVfs
  | [], _ => ⟨rfl, rfl⟩
  | n :: ns, s => by
    obtain ⟨he, hn⟩ := foldl_functionReset_vfs ns (s.functionReset n)
    obtain ⟨he', hn'⟩ := s.functionReset_vfs n
    exact ⟨he.trans he', hn.trans hn'⟩

/-- A function's reset leaves the state of another instance. -/
theorem State.functionReset_other (s : State) {m n : Nat} (h : m ≠ n) :
    ((s.functionReset n).inst m).state = (s.inst m).state := by
  by_cases hs : (s.inst n).state = .absent
  · rw [State.functionReset_absent hs]
    rfl
  · exact (State.functionReset_resets hs).others m h

/-- A standing instance among those that are reset ends RESETTING. -/
theorem foldl_functionReset_resets {n : Nat} : ∀ (ns : List Nat) (s : State), (s.inst n).state ≠ .absent →
    n ∈ ns ∨ (s.inst n).state = .resetting → ((ns.foldl State.functionReset s).inst n).state = .resetting
  | [], _, _, h => h.resolve_left List.not_mem_nil
  | m :: ns, s, hs, h => by
    by_cases hm : n = m
    · subst hm
      have hr := (State.functionReset_resets hs).resetting
      exact foldl_functionReset_resets ns _ (by rw [hr]; decide) (.inr hr)
    · have hkept := s.functionReset_other hm
      refine foldl_functionReset_resets ns _ (by rwa [hkept]) ?_
      rw [hkept]
      exact h.imp_left fun hn => (List.mem_cons.mp hn).resolve_left hm

/-! ### Commands that wait for an instance -/

theorem endedWith_endJob_again {j i : Nat} {e : Ending} (h : endedWith s j e) : endedWith (s.endJob i e) j e := by
  obtain ⟨b, hj, hend⟩ := h
  by_cases hi : j = i
  · subst hi
    exact endedWith_endJob e hj
  · exact ⟨b, (s.job_endJob_other e hi).trans hj, hend⟩

theorem foldl_endJob_kept {j : Nat} {e : Ending} : ∀ (js : List Nat) (s : State), endedWith s j e →
    endedWith (js.foldl (fun s i => s.endJob i e) s) j e
  | [], _, h => h
  | _ :: js, _, h => foldl_endJob_kept js _ (endedWith_endJob_again h)

theorem foldl_endJob_ends {j : Nat} {e : Ending} : ∀ (js : List Nat) (s : State) (b : Job), s.job j = some b → j ∈ js →
    endedWith (js.foldl (fun s i => s.endJob i e) s) j e
  | [], _, _, _, h => absurd h List.not_mem_nil
  | i :: js, s, b, hb, h => by
    by_cases hi : j = i
    · subst hi
      exact foldl_endJob_kept js _ (endedWith_endJob e hb)
    · exact foldl_endJob_ends js _ b ((s.job_endJob_other e hi).trans hb) ((List.mem_cons.mp h).resolve_left hi)

theorem State.mem_jobsWhere_of_job {j : Nat} {b : Job} {p : Job → Bool} (h : s.job j = some b) (hp : p b = true) :
    j ∈ s.jobsWhere p :=
  List.mem_map.mpr ⟨(j, b), List.mem_filter.mpr ⟨mem_of_tget h, hp⟩, rfl⟩

/-- Each command that waits for an instance ends as they are told. -/
theorem State.endQuiesce_ends {n j : Nat} {resume : Bool} {b : Job} (hj : s.job j = some b) (hw : b.wait = .quiesce n resume)
    (e : Ending) : endedWith (s.endQuiesce n resume e) j e :=
  foldl_endJob_ends _ s b hj (State.mem_jobsWhere_of_job hj (beq_iff_eq.mpr hw))

theorem State.endQuiesce_insts (s : State) (n : Nat) (resume : Bool) (e : Ending) :
    (s.endQuiesce n resume e).insts = s.insts := by
  unfold State.endQuiesce
  generalize s.jobsWhere _ = js
  induction js generalizing s with
  | nil => rfl
  | cons j js ih => exact (ih _).trans (s.endJob_insts j e)

theorem State.becomeQuiesced_inst (s : State) (n : Nat) :
    (s.becomeQuiesced n).inst n = { s.inst n with state := .quiesced, tell := false, disableAsked := false } := by
  unfold State.becomeQuiesced State.inst
  dsimp only
  rw [State.endQuiesce_insts, ((QueueTraffic.refl _).postEvent _ _ _ _ _).insts]
  exact s.inst_setInst_same n _

theorem State.becomeQuiesced_ends {n j : Nat} {b : Job} (hj : s.job j = some b) (hw : b.wait = .quiesce n false) :
    endedWith (s.becomeQuiesced n) j (done [genTlv (s.inst n).gen]) := by
  unfold State.becomeQuiesced
  extract_lets x u
  have hu : u.job j = some b := (job_of_jobs ((QueueTraffic.refl _).postEvent _ _ _ _ _).jobs j).trans hj
  exact State.endQuiesce_ends hu hw _

/-! ### The events -/

theorem instanceQuiesced_answers {n : Nat} (hx : (s.inst n).state = .quiescing) (hq : s.quiet n = true) :
    answers (.instanceQuiesced n) s fun t => (t.inst n).state = .quiesced ∧ (t.inst n).gen = (s.inst n).gen ∧
      ∀ j b, s.job j = some b → b.wait = .quiesce n false → endedWith t j (done [genTlv (s.inst n).gen]) :=
  ⟨_, (if_pos ⟨hx, hq⟩ : execInstanceQuiesced n s = _), by rw [State.becomeQuiesced_inst], by rw [State.becomeQuiesced_inst],
    fun _ _ => State.becomeQuiesced_ends⟩

theorem quiesceWaitExpiry_answers {n : Nat} (hx : (s.inst n).state = .quiescing)
    (hw : (s.inst n).waitUntil ≤ s.tb.crossings) : answers (.quiesceWaitExpiry n) s fun t => t.insts = s.insts ∧
      ∀ j b, s.job j = some b → b.wait = .quiesce n false → endedWith t j (failed stINSTANCE_BUSY) :=
  ⟨_, (if_pos ⟨hx, hw⟩ : execQuiesceWaitExpiry n s = _), s.endQuiesce_insts _ _ _,
    fun _ _ hj hwait => State.endQuiesce_ends hj hwait _⟩

theorem instanceResetDone_answers {n : Nat} (hx : (s.inst n).state = .resetting) : answers (.instanceResetDone n) s fun t =>
    (t.inst n).state = if (s.inst n).tell then .quiesced else (s.inst n).after := by
  have hexec : execInstanceResetDone n s = if (s.inst n).tell then .next (s.becomeQuiesced n)
      else .next (s.setInst n { s.inst n with state := (s.inst n).after }) := if_neg (not_not.mpr hx)
  cases htell : (s.inst n).tell with
  | true => exact ⟨_, hexec.trans (if_pos htell), congrArg Instance.state (s.becomeQuiesced_inst n)⟩
  | false =>
    exact ⟨_, hexec.trans (if_neg (by rw [htell]; decide)), congrArg Instance.state (s.inst_setInst_same n _)⟩

theorem functionLevelReset_answers {n : Nat} (h1 : 1 ≤ n) (h2 : n ≤ 128) : answers (.functionLevelReset n) s fun t =>
    ((s.inst n).state = .absent → t.inst n = s.inst n) ∧ ((s.inst n).state ≠ .absent → (t.inst n).state = .resetting) ∧
    ((s.inst n).state = .active → (t.inst n).after = .active) ∧
    ((s.inst n).state = .quiesced ∨ (s.inst n).state = .quiescing → (t.inst n).after = .quiesced) := by
  refine ⟨_, (if_neg (by omega) : execFunctionLevelReset n s = _), fun h => ?_, fun h => ?_, fun h => ?_, fun h => ?_⟩
  · rw [State.functionReset_absent h]
    rfl
  · exact (State.functionReset_resets h).resetting
  · rw [(State.functionReset_resets (n := n) (by rw [h]; decide)).after, Instance.afterReset, h]
  · have hs : (s.inst n).state ≠ .absent := by rcases h with h | h <;> rw [h] <;> decide
    rw [(State.functionReset_resets hs).after, Instance.afterReset]
    rcases h with h | h <;> rw [h]

theorem State.takeVfs_vfs (s : State) (enable : Bool) (num : Nat) :
    (s.takeVfs enable num).pcie.vfEnable = enable ∧ (s.takeVfs enable num).pcie.numVfs = min num 128 :=
  foldl_functionReset_vfs _ _

/-- A standing instance whose VF goes is reset (R543). -/
theorem State.takeVfs_resets {n num : Nat} {enable : Bool} (h1 : 1 ≤ n) (h2 : n ≤ 128) (hon : s.vfOn n = true)
    (hoff : enable = false ∨ min num 128 < n) (hs : (s.inst n).state ≠ .absent) :
    ((s.takeVfs enable num).inst n).state = .resetting := by
  refine foldl_functionReset_resets _ _ hs (.inl (List.mem_filter.mpr ⟨List.mem_filter.mpr ⟨?_, ?_⟩, ?_⟩))
  · exact List.mem_range.mpr (by omega)
  · rw [hon]
    simp
    omega
  · have hgone : State.vfOn { s with pcie := { s.pcie with vfEnable := enable, numVfs := min num 128 } } n = false := by
      unfold State.vfOn
      rcases hoff with h | h
      · rw [h]
        rfl
      · simp only [Bool.and_eq_false_iff, decide_eq_false_iff_not]
        exact .inr (by omega)
    rw [hgone]
    exact bne_iff_ne.mpr hs

theorem pcieReset_answers (s : State) (n : Nat) : answers .pcieReset s fun t => t.pcie.vfEnable = false ∧
    t.pcie.numVfs = 0 ∧ t.ready 6 = false ∧
    (1 ≤ n → n ≤ 128 → (s.inst n).state ≠ .absent → (t.inst n).state = .resetting) := by
  refine ⟨_, (rfl : execPcieReset s = _), ?_⟩
  unfold State.resetPcie
  extract_lets u v
  have hv : (v.inst n).state = (u.inst n).state := (instancesStand_resetQueues u 0).state n
  obtain ⟨_, _, htraffic⟩ := State.setReady_traffic { v with pcie := {} } 6 false
  refine ⟨htraffic.instancesStand.vfEnable, htraffic.instancesStand.numVfs,
    (State.ready_setReady _ (by decide) _ _).trans (if_pos rfl), ?_⟩
  intro h1 h2 hs
  clear_value v
  have hstands : (n != 0 && (s.inst n).state != .absent) = true :=
    Bool.and_eq_true_iff.mpr ⟨bne_iff_ne.mpr (by omega), bne_iff_ne.mpr hs⟩
  have hmem : n ∈ (List.range 129).filter fun n => n != 0 && (s.inst n).state != .absent :=
    List.mem_filter.mpr ⟨List.mem_range.mpr (Nat.lt_succ_of_le h2), hstands⟩
  have hu : (u.inst n).state = .resetting := 
    foldl_functionReset_resets ((List.range 129).filter fun n => n != 0 && (s.inst n).state != .absent) s hs (.inl hmem)
  exact (htraffic.instancesStand.state n).trans (hv.trans hu)

/-- Settles O31: each clause is the lemma on its command. -/
theorem instanceEvents : Obligations.InstanceEvents := by
  unfold Obligations.InstanceEvents
  intro s n
  refine ⟨instanceQuiesced_answers, quiesceWaitExpiry_answers, instanceResetDone_answers,
    ⟨_, (rfl : execScratchZeroingDone n s = _), s.inst_setInst_same n _⟩, functionLevelReset_answers, fun enable num => ?_,
    fun num => ?_, pcieReset_answers s n⟩
  · obtain ⟨henable, hnum⟩ := s.takeVfs_vfs enable num
    exact ⟨_, (rfl : execVfDisable enable num s = _), henable, hnum, State.takeVfs_resets⟩
  · obtain ⟨henable, hnum⟩ := s.takeVfs_vfs true num
    exact ⟨_, (rfl : execVfEnable num s = _), henable, hnum,
      fun h1 h2 hon hoff hs => State.takeVfs_resets h1 h2 hon (.inr hoff) hs⟩

end Sys2Proof.Machine
end

section
/-! SUPPORT. The check of the TWIN group, and the PAIR_ESTABLISH that it refuses (R588). -/

namespace Sys2Proof.Machine

variable {s : State} {j : Nat} {b : Job}

/-- What R588 refuses of the TWIN group, as a condition on the registers. -/
def TwinBad (w : Nat → Nat) : Prop :=
  bitsAt (w aTW_CTL) 23 16 < 1 ∨ 60 < bitsAt (w aTW_CTL) 23 16 ∨
    (bitsAt (w aTW_CTL) 1 1 = 1 ∧ [0, 1, 2, 3].all (fun k => w (aTW_PEER_IP + 4 * k) == 0) = true)

/-- The check of the group: its two fail codes in their order. -/
theorem twinRefused_eq (w : Nat → Nat) : twinRefused w =
    if bitsAt (w aTW_CTL) 23 16 < 1 ∨ 60 < bitsAt (w aTW_CTL) 23 16 then some (1, aTW_CTL)
    else if bitsAt (w aTW_CTL) 1 1 = 1 ∧ [0, 1, 2, 3].all (fun k => w (aTW_PEER_IP + 4 * k) == 0) = true then
      some (2, aTW_CTL) else none := by
  have hbit : bitAt (w aTW_CTL) 1 = true ↔ bitsAt (w aTW_CTL) 1 1 = 1 := by simp [bitAt, bitsAt]
  have hjoin : bitsAt (w aTW_CTL) 23 16 = 0 ∨ bitsAt (w aTW_CTL) 23 16 > 60 ↔
      bitsAt (w aTW_CTL) 23 16 < 1 ∨ 60 < bitsAt (w aTW_CTL) 23 16 := by omega
  exact if_congr hjoin rfl (if_congr (and_congr_left' hbit) rfl rfl)

theorem twinRefused_isSome {w : Nat → Nat} (h : TwinBad w) : (twinRefused w).isSome := by
  rw [twinRefused_eq]
  split
  · rfl
  next hjoin =>
    obtain ⟨h1, h60⟩ := not_or.mp hjoin
    rw [if_pos ((h.resolve_left h1).resolve_left h60)]
    rfl

/-- A set that holds a refused group is refused. -/
theorem State.setCheck_ne_none {set : BitVec 16} {g : Nat} (hg : g < 16) (hset : set.getLsbD g = true)
    (hbad : s.groupCheck set g ≠ none) : s.setCheck set ≠ none := by
  unfold State.setCheck
  rw [Ne, List.findSome?_eq_none_iff]
  intro hall
  have hmem : g ∈ groupsIn set := List.mem_filter.mpr ⟨List.mem_range.mpr hg, hset⟩
  exact hbad (Option.map_eq_none_iff.mp (hall g hmem))

/-- The registers as a PAIR_ESTABLISH would have them. -/
def State.twinProposed (s : State) (b : Job) (o : Nat) : Nat :=
  (((s.twinWrites b).find? fun w => w.1 == o).map (·.2)).getD (s.reg o)

theorem pairEstablish_refused {d : Node} (h : runsMp s j b opPAIR_ESTABLISH) (hdissolve : b.has 0x0143 = false)
    (hform : b.pairBad = false) (hroom : b.noRoom (tlvLen 64) = false)
    (hnode : tget s.ks.nodes (tlvNat b.params 0x0140 0) = some d) (htype : d.type = 0x30) (hpolicy : bitAt d.policy 10 = true)
    (hbad : TwinBad (s.twinProposed b)) :
    answers (.pairEstablish j) s fun t => endsQuietly s t j (failed stCONFIG_INCONSISTENT) ∧ t.tw = s.tw := by
  refine ⟨_, (runMp_runs _ h : execPairEstablish j s = _), ?_⟩
  dsimp only
  rw [if_neg (by rw [hdissolve]; decide), if_neg (by rw [hroom]; decide), if_neg (by rw [hform]; decide), hnode]
  dsimp only
  rw [if_neg (by rw [htype, hpolicy]; decide)]
  refine if_pos (c := (twinRefused (s.twinProposed b)).isSome = true) (twinRefused_isSome hbad) ▸ ?_
  exact ⟨endsQuietly_failJob h.1 _, State.endJob_tw _ _ _⟩

/-- Settles O54: the group's check, the set that holds it, and the command. -/
theorem twinGroupRefused : Obligations.TwinGroupRefused := by
  unfold Obligations.TwinGroupRefused
  exact ⟨fun s set => ⟨twinRefused_eq _, State.setCheck_ne_none (by decide)⟩,
    fun _ _ _ _ h hdissolve hform hroom hnode htype hpolicy => pairEstablish_refused h hdissolve hform hroom hnode htype hpolicy⟩

end Sys2Proof.Machine
end

section
/-! SUPPORT. A dissolution on a state whose open handshake belongs to the very command that dissolves: the handshake's end
ends the command, and a removal that comes after it takes the ended command away (R557, R576, R577). -/

namespace Sys2Proof.Machine

/-- A running PAIR_ESTABLISH with DISSOLVE, from a queue of instance 1. -/
def dissolveJob : Job :=
  { src := .queue 5, inst := 1, opcode := opPAIR_ESTABLISH, tag := 0, major := 2, minor := 2, flags := 0, handle := 0,
    deadline := 0, params := [⟨0x0143, [1]⟩], paramLen := 0, resultCap := 128, resultAddr := 0, dataLen := 0, frags := [],
    order := 0, seqInQueue := 0, phase := .running }

/-- An INSTANCE_REMOVE of instance 1 whose record is still queued. -/
def queuedRemoval : Job :=
  { dissolveJob with src := .console, inst := 0, opcode := opINSTANCE_REMOVE, params := [⟨0x0004, [1]⟩] }

/-- The MP runs, instance 1 is QUIESCED, the open handshake belongs to the dissolving command, and the removal waits for
its acknowledgement. -/
def dissolvingState : State :=
  { State.reset with mp := { State.reset.mp with state := .run }
                     insts := [(1, { state := .quiesced })]
                     jobs := [(0, dissolveJob), (1, queuedRemoval)]
                     tw := { hs := some { job := some 0, before := .unpaired, node := 0 }
                             queue := [{ mseq := 1, kind := 0x40, body := [], job := some 1 }] } }

theorem dissolveJob_runs : runsMp dissolvingState 0 dissolveJob opPAIR_ESTABLISH := ⟨rfl, rfl, rfl, .inl rfl, rfl⟩

/-- The removal resets the queues of instance 1, and the ended command is a job of one of them. -/
theorem dissolvingState_loses : ∃ t, exec (.pairDissolve 0) dissolvingState = .next t ∧ t.job 0 = none :=
  ⟨_, rfl, by decide +kernel⟩

/-- Refutes O47: where the open handshake names the dissolving command itself and an INSTANCE_REMOVE of the command's
instance waits for its acknowledgement, the command is gone after the dissolution, and the statement has it wait for
its guard. -/
theorem not_twinCommands : ¬ Obligations.TwinCommands := by
  unfold Obligations.TwinCommands
  intro h
  obtain ⟨-, hdissolve, -⟩ := h dissolvingState 0 dissolveJob
  obtain ⟨t, ht, -, -, -, hwaits⟩ := hdissolve dissolveJob_runs rfl (by decide) (by decide)
  obtain ⟨-, b, -, hb, -⟩ := hwaits rfl rfl (by decide)
  obtain ⟨u, hu, hgone⟩ := dissolvingState_loses
  cases hu.symm.trans ht
  rw [hgone] at hb
  cases hb

end Sys2Proof.Machine
end

section
/-! SUPPORT. What a command that the pair lets go on leaves of the pair: its own words, the parity, and the count of
promotions (R574, R576). -/

namespace Sys2Proof.Machine

variable {r s t : State}

/-- The pair's words, the parity and the count of promotions stand. -/
structure PairingStands (s t : State) : Prop where
  tw : t.tw = s.tw
  parity : t.hbs.parity = s.hbs.parity
  promoted : t.cnt aTW_PROMOTE_CNT 0 = s.cnt aTW_PROMOTE_CNT 0

theorem PairingStands.refl (s : State) : PairingStands s s := ⟨rfl, rfl, rfl⟩

theorem PairingStands.trans (h : PairingStands r s) (g : PairingStands s t) : PairingStands r t :=
  ⟨g.tw.trans h.tw, g.parity.trans h.parity, g.promoted.trans h.promoted⟩

theorem pairingStands_of_eq (htw : t.tw = s.tw) (hhbs : t.hbs.parity = s.hbs.parity) (hcnts : t.cnts = s.cnts) :
    PairingStands s t :=
  ⟨htw, hhbs, by unfold State.cnt; rw [hcnts]⟩

theorem pairingStands_foldl {α : Type} {f : State → α → State} (hf : ∀ s a, PairingStands s (f s a)) :
    ∀ (l : List α) (s : State), PairingStands s (l.foldl f s)
  | [], s => .refl s
  | a :: l, s => (hf s a).trans (pairingStands_foldl hf l _)

theorem pairingStands_bump (s : State) {off : Nat} (h : aTW_PROMOTE_CNT ≠ off) : PairingStands s (s.bump off 0) :=
  ⟨rfl, rfl, State.cnt_bumpBy_other _ _ h (by decide) (by decide)⟩

/-! ### Jobs and sets -/

theorem pairingStands_onJob (s : State) (j : Nat) (f : Job → Job) : PairingStands s (s.onJob j f) := by
  obtain ⟨jobs, h⟩ := s.onJob_eq j f
  rw [h]
  exact ⟨rfl, rfl, rfl⟩

theorem pairingStands_endJob (s : State) (j : Nat) (e : Ending) : PairingStands s (s.endJob j e) := pairingStands_onJob s j _

theorem pairingStands_addJob (s : State) (b : Job) : PairingStands s (s.addJob b).2 := by
  unfold State.addJob
  dsimp only
  split <;> exact ⟨rfl, rfl, rfl⟩

theorem pairingStands_setShadows (s : State) (ws : List (Nat × Nat)) :
    PairingStands s (ws.foldl (fun s w => s.setShadow w.1 w.2) s) :=
  pairingStands_foldl (f := fun s w => s.setShadow w.1 w.2) (fun _ _ => ⟨rfl, rfl, rfl⟩) ws s

theorem pairingStands_stageSet (s : State) (j : Nat) (groups : BitVec 16) (writes : List (Nat × Nat)) (after : Ending) :
    PairingStands s (s.stageSet j groups writes after) := by
  unfold State.stageSet
  extract_lets u cfg v
  have hv : PairingStands u v := ⟨rfl, rfl, rfl⟩
  exact ((pairingStands_setShadows s writes).trans hv).trans (pairingStands_onJob v j _)

theorem pairingStands_requestSet (s : State) (x : MpSet) : PairingStands s (s.requestSet x) := by
  unfold State.requestSet
  split
  · extract_lets u
    have hu : PairingStands s u := ⟨rfl, rfl, rfl⟩
    split
    · exact hu.trans (pairingStands_onJob u _ _)
    · exact hu
  · unfold State.stageMp
    extract_lets groups ws u cfg xs v
    have hv : PairingStands s v := (pairingStands_setShadows s ws).trans ⟨rfl, rfl, rfl⟩
    split
    · exact hv.trans (pairingStands_onJob v _ _)
    · exact hv

/-! ### Keys (R458, R464) -/

theorem pairingStands_dropEntries (s : State) (k : Nat) (gone : CacheEntry → Bool) :
    PairingStands s (s.dropEntries k gone) := by
  unfold State.dropEntries
  dsimp only
  split
  · exact .refl s
  · split <;> exact ⟨rfl, rfl, rfl⟩

theorem pairingStands_retireEntries (s : State) (holds : Engine → Bool) (hit : CacheEntry → Bool) :
    PairingStands s (s.retireEntries holds hit) :=
  (pairingStands_foldl (fun s (e : Nat × Engine) => pairingStands_dropEntries s e.1 _) s.engines s).trans ⟨rfl, rfl, rfl⟩

theorem pairingStands_invalidateKey (s : State) (n : Nat) : PairingStands s (s.invalidateKey n) := by
  have hrevoked : PairingStands s (s.revokeUsers n) :=
    PairingStands.trans (s := s.onJobs _) ⟨rfl, rfl, rfl⟩ ((pairingStands_retireEntries _ _ _).trans ⟨rfl, rfl, rfl⟩)
  have hinvalid : PairingStands s (s.invalidate n) := hrevoked.trans ⟨rfl, rfl, rfl⟩
  unfold State.invalidateKey
  obtain ⟨parts, h⟩ := (s.invalidate n).dropCopies_eq (n :: (s.ks.slots.map (·.1)).filter fun k => s.descends n 8 k)
  dsimp only
  rw [h]
  exact hinvalid.trans ⟨rfl, rfl, rfl⟩

/-- Appending a record leaves the parity. -/
theorem pairingStands_appendJournal (s : State) (node kind nextEven nextOdd : Nat) :
    PairingStands s (s.appendJournal node kind nextEven nextOdd) := by
  have hrefresh : ∀ (fuel : Nat) (u : State), PairingStands u (u.refreshAhead fuel) := by
    intro fuel
    induction fuel with
    | zero => exact PairingStands.refl
    | succ fuel ih =>
      intro u
      unfold State.refreshAhead
      split
      · exact PairingStands.trans (s := u.putRecord _) ⟨rfl, rfl, rfl⟩ (ih _)
      · exact .refl u
  exact (hrefresh 4096 s).trans ⟨rfl, rfl, rfl⟩

theorem pairingStands_launchRebuild (s : State) : PairingStands s s.launchRebuild := by
  unfold State.launchRebuild
  split
  · exact .refl s
  · split
    · exact .refl s
    · exact PairingStands.trans (s := s.setHbs _ _) ⟨rfl, rfl, rfl⟩
        (pairingStands_foldl (fun s _ => pairingStands_addJob s _) _ _)

theorem pairingStands_retireHbs (s : State) (node : Nat) : PairingStands s (s.retireHbs node) := by
  unfold State.retireHbs
  split
  · exact .refl s
  next k _ =>
    extract_lets u hbs
    have hu : PairingStands s u := pairingStands_appendJournal s node 6 k.nextEven k.nextOdd
    have hgone : PairingStands u { u with hbs := { hbs with keys := tdel u.hbs.keys node } } := ⟨rfl, rfl, rfl⟩
    exact (hu.trans hgone).trans (pairingStands_launchRebuild _)

theorem pairingStands_storeUpdate (s : State) (u : UpdResult) (counter : Nat) : PairingStands s (s.storeUpdate u counter) := by
  unfold State.storeUpdate
  extract_lets gone s₁ ks s₂ hit s₃
  have h₂ : PairingStands s s₂ := ⟨rfl, rfl, rfl⟩
  exact (h₂.trans (pairingStands_foldl pairingStands_invalidateKey hit s₂)).trans
    (pairingStands_foldl pairingStands_retireHbs gone s₃)

theorem pairingStands_commitUpdate (s : State) (u : UpdResult) (counter : Nat) (job : Option Nat) :
    PairingStands s (s.commitUpdate u counter job) := by
  unfold State.commitUpdate
  extract_lets v
  have hv : PairingStands s v := (pairingStands_storeUpdate s u _).trans (pairingStands_bump _ (by decide))
  split
  · exact hv.trans (pairingStands_requestSet v _)
  · exact hv.trans (pairingStands_endJob v _ _)
  · exact hv

theorem pairingStands_rejectUpdate (s : State) (f : UpdFail) : PairingStands s (s.rejectUpdate f) :=
  PairingStands.trans (s := { s with ks := { s.ks with lastFail := f.code, lastRecord := f.record } }) ⟨rfl, rfl, rfl⟩
    (pairingStands_bump _ (by decide))

/-! ### Instances (R557, R558) -/

theorem pairingStands_removeJob (s : State) (j : Nat) : PairingStands s (s.removeJob j) := by
  have hcontext : PairingStands s (s.dropContext j) := by
    unfold State.dropContext
    split
    · exact .refl s
    · split
      · exact .refl s
      · extract_lets k out u
        have hu : PairingStands s u := ⟨rfl, rfl, rfl⟩
        split
        · refine hu.trans ?_
          unfold State.chargeScratch
          split
          · exact .refl u
          · exact ⟨rfl, rfl, rfl⟩
        · exact hu
  exact hcontext.trans ⟨rfl, rfl, rfl⟩

theorem pairingStands_resetJob (s : State) (j : Nat) : PairingStands s (s.resetJob j) := by
  have hunpend : ∀ (u : State) (k : Nat), PairingStands u (u.unpend k) := by
    intro u k
    unfold State.unpend
    dsimp only
    split <;> exact ⟨rfl, rfl, rfl⟩
  unfold State.resetJob
  split
  · exact .refl s
  · dsimp only
    split
    · exact ⟨rfl, rfl, rfl⟩
    · split
      · exact ⟨rfl, rfl, rfl⟩
      · exact (pairingStands_foldl hunpend _ _).trans (pairingStands_removeJob _ j)

theorem pairingStands_resetQueues (s : State) (n : Nat) : PairingStands s (s.resetQueues n) := by
  unfold State.resetQueues
  extract_lets u v
  have hv : PairingStands s v := (pairingStands_foldl pairingStands_resetJob _ s).trans
    (pairingStands_foldl (f := State.resetPair) (fun _ _ => ⟨rfl, rfl, rfl⟩) _ u)
  exact ⟨hv.tw, hv.parity, hv.promoted⟩

theorem pairingStands_checkLows (s : State) : PairingStands s s.checkLows := by
  have h := lowChecked_checkLows s
  refine pairingStands_of_eq h.tw ?_ h.cnts
  have hhbs := congrArg Hbs.parity h.hbs
  exact hhbs

theorem pairingStands_wipeInstance (s : State) (n : Nat) : PairingStands s (s.wipeInstance n) := by
  unfold State.wipeInstance
  extract_lets s₁ s₂ s₃ parts s₄ d x keep
  have h₁ : PairingStands s s₁ :=
    (pairingStands_foldl (f := State.freeSlot) (fun _ _ => ⟨rfl, rfl, rfl⟩) _ s).trans ⟨rfl, rfl, rfl⟩
  have h₂ : PairingStands s₁ s₂ := pairingStands_retireEntries s₁ _ _
  have h₃ : PairingStands s₂ s₃ := PairingStands.trans (s := s₂.discardBlocks fun k => k.inst == n) ⟨rfl, rfl, rfl⟩
    (pairingStands_checkLows _)
  have h₄ : PairingStands s₃ d.2 := ⟨rfl, rfl, rfl⟩
  have h₅ : ∀ y, PairingStands d.2 (d.2.setInst n y) := fun y => ⟨rfl, rfl, rfl⟩
  exact (((h₁.trans h₂).trans h₃).trans h₄).trans (h₅ _)

theorem pairingStands_removeInstance (s : State) (n : Nat) : PairingStands s (s.removeInstance n) := by
  unfold State.removeInstance
  extract_lets qs u v mine w
  have hu : PairingStands s u := (pairingStands_resetQueues s n).trans (pairingStands_wipeInstance _ n)
  have hv : PairingStands u v := pairingStands_foldl (f := fun s q => s.setPair q {}) (fun _ _ => ⟨rfl, rfl, rfl⟩) qs u
  exact (hu.trans hv).trans ⟨rfl, rfl, rfl⟩

theorem pairingStands_endQuiesce (s : State) (n : Nat) (resume : Bool) (e : Ending) :
    PairingStands s (s.endQuiesce n resume e) := pairingStands_foldl (fun s j => pairingStands_endJob s j e) _ s

/-! ### Commands that go on cleared (R574, R576) -/

section
variable {b : Job} (hb : b.cleared = true)
include hb

theorem mirrorStep_cleared (mode : MirrorMode) : b.mirrorStep mode = .here := if_pos hb

theorem pairingStands_updateApply (s : State) (j : Nat) : PairingStands s (updateApply s j b) := by
  unfold updateApply
  extract_lets m session commit verified
  rw [if_pos hb]
  split
  · exact pairingStands_commitUpdate s _ _ _
  · exact pairingStands_endJob s j _

theorem pairingStands_manifestLoad (s : State) (j : Nat) : PairingStands s (manifestLoad s j b) := by
  unfold manifestLoad
  rw [mirrorStep_cleared hb]
  dsimp only
  split
  · exact pairingStands_endJob s j _
  · split
    · exact pairingStands_endJob s j _
    · split
      · exact pairingStands_endJob s j _
      · rw [if_neg (by decide)]
        exact PairingStands.trans (s := s.loadManifest _) ⟨rfl, rfl, rfl⟩ (pairingStands_endJob _ j _)

theorem pairingStands_manifestActivate (s : State) (j : Nat) : PairingStands s (manifestActivate s j b) := by
  unfold manifestActivate
  rw [mirrorStep_cleared hb]
  dsimp only
  split
  · exact pairingStands_endJob s j _
  · split
    · exact pairingStands_endJob s j _
    · rw [if_neg (by decide)]
      unfold State.armActivation
      extract_lets xs u
      have hu : PairingStands s u := ⟨rfl, rfl, rfl⟩
      exact hu.trans (pairingStands_onJob u j _)

theorem pairingStands_stageShare (s : State) (j : Nat) (create : Bool) : PairingStands s (stageShare s j b create) := by
  unfold stageShare
  rw [mirrorStep_cleared hb]
  dsimp only
  split
  · exact pairingStands_onJob s j _
  · split
    · exact pairingStands_endJob s j _
    · split
      · exact (pairingStands_stageSet s j _ _ _).trans ⟨rfl, rfl, rfl⟩
      · rw [if_neg (by decide)]
        exact pairingStands_stageSet s j _ _ _

theorem pairingStands_instanceGuard (s : State) (j : Nat) {f : State → State} (hf : PairingStands s (f s)) :
    PairingStands s (instanceGuard s j b f) := by
  unfold instanceGuard
  rw [mirrorStep_cleared hb]
  split
  · exact pairingStands_endJob s j _
  · split
    · exact pairingStands_endJob s j _
    · exact hf

theorem pairingStands_instanceCreate (s : State) (j : Nat) : PairingStands s (instanceCreate s j b) := by
  refine pairingStands_instanceGuard hb s j ?_
  split
  · exact pairingStands_endJob s j _
  · exact pairingStands_stageShare hb s j true

theorem pairingStands_instanceShareSet (s : State) (j : Nat) : PairingStands s (instanceShareSet s j b) := by
  refine pairingStands_instanceGuard hb s j ?_
  split
  · exact pairingStands_endJob s j _
  · exact pairingStands_endJob s j _
  · exact pairingStands_stageShare hb s j false

theorem pairingStands_instanceRemove (s : State) (j : Nat) : PairingStands s (instanceRemove s j b) := by
  refine pairingStands_instanceGuard hb s j ?_
  rw [mirrorStep_cleared hb]
  dsimp only
  split
  · exact pairingStands_endJob s j _
  · split
    · exact pairingStands_endJob s j _
    · rw [if_neg (by decide)]
      exact (((pairingStands_endQuiesce s _ _ _).trans (pairingStands_endQuiesce _ _ _ _)).trans
        (pairingStands_removeInstance _ _)).trans (pairingStands_endJob _ j _)

end

/-- A command that the pair lets go on leaves the pair. -/
theorem pairingStands_clearCommand (s : State) (j : Nat) (mirrored : Bool) : PairingStands s (s.clearCommand j mirrored) := by
  unfold State.clearCommand
  have hset := pairingStands_onJob s j fun b => { b with cleared := true, mirrored := mirrored, wait := .no }
  have hcleared : ∀ b, (s.onJob j fun b => { b with cleared := true, mirrored := mirrored, wait := .no }).job j = some b →
      b.cleared = true := by
    intro b hb
    cases hj : s.job j with
    | none =>
      unfold State.onJob at hb
      rw [hj] at hb
      exact absurd (hj.symm.trans hb) nofun
    | some c =>
      rw [State.job_onJob_same _ _ hj] at hb
      cases hb
      rfl
  refine hset.trans ?_
  generalize (s.onJob j fun b => { b with cleared := true, mirrored := mirrored, wait := .no }) = u at hcleared
  unfold State.resumeCommand
  split
  · exact .refl u
  next b hj =>
    have hb := hcleared b hj
    split_ifs
    · exact pairingStands_updateApply hb u j
    · exact pairingStands_manifestLoad hb u j
    · exact pairingStands_manifestActivate hb u j
    · exact pairingStands_instanceCreate hb u j
    · exact pairingStands_instanceShareSet hb u j
    · exact pairingStands_instanceRemove hb u j
    · exact .refl u

theorem pairingStands_endSlotJob (s : State) (j : Nat) (mirrored : Bool) : PairingStands s (s.endSlotJob j mirrored) :=
  (pairingStands_onJob s j _).trans (pairingStands_endJob _ j _)

theorem pairingStands_soloRecord (s : State) (x : PairRecord) : PairingStands s (s.soloRecord x) := by
  unfold State.soloRecord
  split
  · exact .refl s
  · split
    · exact pairingStands_endSlotJob s _ _
    · split
      · exact (pairingStands_rejectUpdate s _).trans (pairingStands_endJob _ _ _)
      · split
        · exact .refl s
        · exact pairingStands_clearCommand s _ _

/-- Dropping the records empties the queue and leaves the rest of the pair. -/
theorem State.dropRecords_stands (s : State) :
    PairingStands { s with tw := { s.tw with queue := [] } } s.dropRecords :=
  pairingStands_foldl pairingStands_soloRecord _ _

theorem pairingStands_settleHbs (s : State) : PairingStands s s.settleHbs := ⟨rfl, rfl, rfl⟩

end Sys2Proof.Machine
end

section
/-! SUPPORT. The frames of the pair: what sending one leaves, what a heartbeat leaves of what was heard, and what each
frame is taken as (R563 to R566). -/

namespace Sys2Proof.Machine

variable {r s t : State}

/-! ### Paths -/

theorem pathCode_ne {p q : TwinPath} (h : p ≠ q) : pathCode p ≠ pathCode q := by
  cases p <;> cases q <;> simp_all [pathCode]

@[simp] theorem State.path_onPath_same (s : State) (p : TwinPath) (f : PairPath → PairPath) :
    (s.onPath p f).path p = f (s.path p) := tgetD_tput_same _ _ _ _

theorem State.path_onPath_other (s : State) {p q : TwinPath} (f : PairPath → PairPath) (h : q ≠ p) :
    (s.onPath p f).path q = s.path q := tgetD_tput_other _ _ _ _ (pathCode_ne h)

theorem path_of_paths (h : t.tw.paths = s.tw.paths) (p : TwinPath) : t.path p = s.path p :=
  congrArg (fun m : Tab PairPath => tgetD m (pathCode p) {}) h

/-! ### Sending -/

/-- Frames and records were sent: beside the outbox only the queue, the numbers sent and the paths' frame counters changed. -/
structure FramesSent (s t : State) : Prop where
  rest : t = { s with
    outbox := t.outbox, tw := { s.tw with paths := t.tw.paths, sent := t.tw.sent, queue := t.tw.queue } }
  path : ∀ p, t.path p = { s.path p with txCtr := (t.path p).txCtr }

theorem FramesSent.refl (s : State) : FramesSent s s := ⟨rfl, fun _ => rfl⟩

theorem FramesSent.trans (h : FramesSent r s) (g : FramesSent s t) : FramesSent r t := by
  obtain ⟨hrest, hpath⟩ := h
  obtain ⟨grest, gpath⟩ := g
  refine ⟨?_, fun p => ?_⟩
  · rw [hrest] at grest
    exact grest
  · rw [gpath p, hpath p]

theorem framesSent_foldl {α : Type} {f : State → α → State} (hf : ∀ s a, FramesSent s (f s a)) :
    ∀ (l : List α) (s : State), FramesSent s (l.foldl f s)
  | [], s => .refl s
  | a :: l, s => (hf s a).trans (framesSent_foldl hf l _)

theorem framesSent_sendFrame (s : State) (p : TwinPath) (kind mseq : Nat) (body : Bytes) :
    FramesSent s (s.sendFrame p kind mseq body) := by
  refine ⟨rfl, fun q => ?_⟩
  have hpath : (s.sendFrame p kind mseq body).path q =
      (s.onPath p fun x => { x with txCtr := (s.path p).txCtr + 1 }).path q := rfl
  rw [hpath]
  by_cases h : q = p
  · rw [h, State.path_onPath_same]
  · rw [State.path_onPath_other _ _ h]

theorem framesSent_sendOnPaths (s : State) (kind mseq : Nat) (body : Bytes) : FramesSent s (s.sendOnPaths kind mseq body) :=
  framesSent_foldl (fun s p => framesSent_sendFrame s p kind mseq body) _ s

theorem framesSent_sendRecord (s : State) (kind : Nat) (body : Bytes) (job : Option Nat) :
    FramesSent s (s.sendRecord kind body job) := by
  unfold State.sendRecord
  extract_lets n go x tw u
  have hu : FramesSent s u := ⟨rfl, fun _ => rfl⟩
  split
  · exact hu.trans (framesSent_sendOnPaths u kind n body)
  · exact hu

/-- A frame that does not go on every path goes out on both pairing links. -/
theorem State.sendOnPaths_outbox {kind : Nat} (h : onEveryPath kind = false) (mseq : Nat) (body : Bytes) :
    ∃ f g, (s.sendOnPaths kind mseq body).outbox = s.outbox ++ [.pairing .plA f, .pairing .plB g] := by
  unfold State.sendOnPaths
  rw [h]
  exact ⟨_, _, List.append_assoc _ _ _⟩

/-! ### What was heard -/

/-- The partner's last heartbeat and each path's last counter stand. -/
structure HearingStands (s t : State) : Prop where
  last : t.tw.lastHb = s.tw.lastHb
  counter : ∀ p, (t.path p).rxCtr = (s.path p).rxCtr

theorem HearingStands.refl (s : State) : HearingStands s s := ⟨rfl, fun _ => rfl⟩

theorem HearingStands.trans (h : HearingStands r s) (g : HearingStands s t) : HearingStands r t :=
  ⟨g.last.trans h.last, fun p => (g.counter p).trans (h.counter p)⟩

theorem hearingStands_of_eq (hlast : t.tw.lastHb = s.tw.lastHb) (hpaths : t.tw.paths = s.tw.paths) : HearingStands s t :=
  ⟨hlast, fun p => congrArg PairPath.rxCtr (path_of_paths hpaths p)⟩

theorem hearingStands_of_tw (h : t.tw = s.tw) : HearingStands s t := hearingStands_of_eq (by rw [h]) (by rw [h])

theorem FramesSent.hearing (h : FramesSent s t) : HearingStands s t :=
  ⟨by rw [h.rest], fun p => by rw [h.path p]⟩

theorem hearingStands_endCastle (s : State) (st : Nat) : HearingStands s (s.endCastle st) := by
  unfold State.endCastle
  split
  · exact .refl s
  · extract_lets tw u
    have hu : HearingStands s u := hearingStands_of_eq rfl rfl
    split
    · exact hu
    · split
      · exact hu.trans (hearingStands_of_tw ((State.endJob_tw _ _ _).trans (State.onJob_tw _ _ _)))
      · exact hu.trans (hearingStands_of_tw (State.endJob_tw _ _ _))

theorem hearingStands_dropRecords (s : State) : HearingStands s s.dropRecords :=
  HearingStands.trans (s := { s with tw := { s.tw with queue := [] } }) (hearingStands_of_eq rfl rfl)
    (hearingStands_of_tw s.dropRecords_stands.tw)

theorem hearingStands_becomeAlone (s : State) : HearingStands s s.becomeAlone := by
  have h : HearingStands s ((s.endCastle stNOT_READY).setPairState .alone 1).dropRecords :=
    ((hearingStands_endCastle s stNOT_READY).trans
      (hearingStands_of_eq (t := (s.endCastle stNOT_READY).setPairState .alone 1) rfl rfl)).trans (hearingStands_dropRecords _)
  exact h.trans (hearingStands_of_eq rfl rfl)

theorem hearingStands_diverge (s : State) : HearingStands s s.diverge :=
  HearingStands.trans (s := { s with tw := { s.tw with state := .diverged, hs := none } }) (hearingStands_of_eq rfl rfl)
    (hearingStands_of_tw ((QueueTraffic.refl _).postEvent _ _ _ _ _).tw)

theorem hearingStands_startSync (s : State) (role : Nat) : HearingStands s (s.startSync role) := by
  unfold State.startSync
  extract_lets h tw u v
  split
  · exact .refl s
  · have hu : HearingStands s u := hearingStands_of_eq rfl rfl
    have hv : FramesSent u v := framesSent_foldl (fun s (e : Nat × HbsKey) => framesSent_sendRecord s _ _ _) _ u
    split
    · exact hu.trans ((hv.trans (framesSent_sendRecord v _ _ _)).trans (framesSent_sendRecord _ _ _ _)).hearing
    · exact hu.trans hv.hearing

theorem hearingStands_hearPaired (s : State) (hb : Heartbeat) (first : Bool) : HearingStands s (s.hearPaired hb first) := by
  unfold State.hearPaired
  split
  · split
    · exact hearingStands_of_eq rfl rfl
    · exact hearingStands_becomeAlone s
  · split
    · split
      · exact .refl s
      · split
        · exact hearingStands_endCastle s _
        · split
          · exact hearingStands_of_eq rfl rfl
          · exact .refl s
    · split
      · exact hearingStands_of_eq rfl rfl
      · exact .refl s

theorem hearingStands_hearRejoining (s : State) (hb : Heartbeat) : HearingStands s (s.hearRejoining hb) := by
  unfold State.hearRejoining
  dsimp only
  split_ifs
  · exact .refl s
  · exact hearingStands_startSync s 2
  · exact hearingStands_diverge s
  · exact hearingStands_startSync s 1
  · exact hearingStands_startSync s 2
  · exact hearingStands_diverge s
  · exact .refl s

theorem hearingStands_hearAlone (s : State) (hb : Heartbeat) : HearingStands s (s.hearAlone hb) := by
  unfold State.hearAlone
  split_ifs
  · exact .refl s
  · exact hearingStands_diverge s
  · exact hearingStands_startSync s 1
  · exact .refl s

/-! ### Frames (R565) -/

/-- A frame that fails its check is counted, and nothing else happens. -/
def AuthFailCounted (s t : State) : Prop :=
  t = { s with cnts := t.cnts } ∧ t.cnt aTW_AUTH_FAIL 0 = (s.cnt aTW_AUTH_FAIL 0 + 1) % 2 ^ 32

theorem authFailCounted_bump (s : State) : AuthFailCounted s (s.bump aTW_AUTH_FAIL 0) := ⟨rfl, State.cnt_bumpBy_same _ _ _ _⟩

section
variable {path : TwinPath} (hservice : s.fc.mstate = .service) (huse : path = .mgmt → s.mgmtPath = true)
include hservice huse

theorem heartbeatReceive_counted {ctr : Nat} {tagOk : Bool} (mseq : Nat) (hb : Heartbeat) (hkey : s.tw.recvKey ≠ [])
    (hbad : tagOk = false ∨ ctr ≤ (s.path path).rxCtr) :
    answers (.heartbeatReceive path ctr mseq tagOk hb) s (AuthFailCounted s) := by
  refine ⟨_, (rfl : execHeartbeatReceive path ctr mseq tagOk hb s = _), ?_⟩
  unfold State.heartbeat
  rw [if_neg (by simp [hkey, hservice]; exact huse), if_pos (by simpa using hbad)]
  exact authFailCounted_bump s

theorem heartbeatReceive_hears {ctr : Nat} {tagOk : Bool} (mseq : Nat) (hb : Heartbeat) (hkey : s.tw.recvKey ≠ [])
    (htag : tagOk = true) (hnew : (s.path path).rxCtr < ctr) :
    answers (.heartbeatReceive path ctr mseq tagOk hb) s fun t => (t.path path).rxCtr = ctr ∧ t.tw.lastHb = some hb := by
  refine ⟨_, (rfl : execHeartbeatReceive path ctr mseq tagOk hb s = _), ?_⟩
  unfold State.heartbeat
  rw [if_neg (by simp [hkey, hservice]; exact huse), if_neg (by simp [htag, hnew])]
  extract_lets first u tw v w
  have hv : (v.path path).rxCtr = ctr ∧ v.tw.lastHb = some hb :=
    ⟨congrArg PairPath.rxCtr (s.path_onPath_same path fun x => { x with rxCtr := ctr, heard := true }), rfl⟩
  have hw : HearingStands v w := by
    unfold w
    split
    · exact hearingStands_hearPaired v hb first
    · exact hearingStands_hearPaired v hb first
    · exact hearingStands_hearAlone v hb
    · exact hearingStands_hearRejoining v hb
    · exact .refl v
  have ht : HearingStands v w.settleHbs := hw.trans (hearingStands_of_tw rfl)
  exact ⟨(ht.counter path).trans hv.1, ht.last.trans hv.2⟩

end

end Sys2Proof.Machine
end

section
/-! SUPPORT and O48. A pairing frame is what its kind says (R565). -/

namespace Sys2Proof.Machine

variable {s t : State} {path : TwinPath}

/-- Under a session's keys a frame is a heartbeat, an acknowledgement or a record (R563 to R565). -/
def State.keyedFrame (s : State) (path : TwinPath) (frame : Bytes) : Result :=
  let n := beNat (slice frame 2 2)
  let kind := leAt frame 1 1
  let ctr := beNat (slice frame 4 8)
  let body := slice frame 16 n
  let iv := frameIv (pathCode path) ctr
  let tagOk := frame.drop (16 + n) == gcmTag s.tw.recvKey iv (frame.take 16) body
  if kind = 1 then .next (s.heartbeat path ctr (tagOk && n == 24) (parseHeartbeat body))
  else if !tagOk then .next (s.bump aTW_AUTH_FAIL 0)
  else if ctr ≤ (s.path path).rxCtr then .next s
  else
    let s := s.onPath path fun x => { x with rxCtr := ctr }
    if kind = 2 then .next (s.takeAck (beNat (body.take 4)) (beNat (slice body 4 2)))
    else .next (s.recordArrives (beNat (slice frame 12 4)) kind (gcmDec s.tw.recvKey iv body))

/-- A frame of the length its header gives, on a path in use, is taken by its kind. -/
theorem execPairingFrame_sized {frame : Bytes} (hservice : s.fc.mstate = .service) (huse : path = .mgmt → s.mgmtPath = true)
    (hlength : frame.length = 32 + beNat (slice frame 2 2)) :
    execPairingFrame path frame s =
      let n := beNat (slice frame 2 2)
      let kind := leAt frame 1 1
      let body := slice frame 16 n
      if kind = 3 then
        if n ≠ 70 then .next s
        else .next (s.takeHello (leAt body 0 1) (leAt body 1 1) (leAt body 2 1) (leAt body 3 1) (beNat (slice body 4 2))
          (slice body 6 32) (slice body 38 32) [])
      else if kind = 4 then .next (s.takeProof body)
      else if kind = 5 then .next (s.takeKeyx body)
      else if s.tw.recvKey = [] then .next s
      else s.keyedFrame path frame := by
  have hpass : ¬(frame.length ≠ 32 + beNat (slice frame 2 2) ∨ s.fc.mstate ≠ .service ∨ (path = .mgmt ∧ !s.mgmtPath)) := by
    simpa [hlength, hservice] using huse
  exact if_neg hpass

theorem keyedFrame_of_kind {frame : Bytes} (hservice : s.fc.mstate = .service) (huse : path = .mgmt → s.mgmtPath = true)
    (hlength : frame.length = 32 + beNat (slice frame 2 2)) (hkind : leAt frame 1 1 < 3 ∨ 5 < leAt frame 1 1)
    (hkey : s.tw.recvKey ≠ []) : execPairingFrame path frame s = s.keyedFrame path frame := by
  rw [execPairingFrame_sized hservice huse hlength]
  dsimp only
  rw [if_neg (by omega), if_neg (by omega), if_neg (by omega), if_neg hkey]

/-- Settles O48: each frame by its kind; the last two clauses are the heartbeat's. -/
theorem pairingFrames : Obligations.PairingFrames := by
  intro s path hservice huse counted
  refine ⟨?_, ?_⟩
  · intro frame n kind ctr mseq body iv tagOk as_ heard hlength
    have hsized := execPairingFrame_sized hservice huse hlength
    refine ⟨fun hkind hn => ?_, fun hkind => ?_, fun hkind => ?_, fun hkind hkey => ?_⟩
    · exact ⟨_, hsized.trans ((if_pos hkind).trans (if_neg (not_not.2 hn))), rfl⟩
    · exact ⟨_, hsized.trans ((if_neg (by omega)).trans (if_pos hkind)), rfl⟩
    · exact ⟨_, hsized.trans ((if_neg (by omega)).trans ((if_neg (by omega)).trans (if_pos hkind))), rfl⟩
    · have hkeyed := keyedFrame_of_kind hservice huse hlength hkind hkey
      have hgood (h : tagOk = true) : ¬(!tagOk) = true := by rw [h]; decide
      refine ⟨fun h => ?_, fun h htag => ?_, fun h htag hold => ?_, fun htag hnew => ⟨fun h => ?_, fun h h2 => ?_⟩⟩
      · exact ⟨_, hkeyed.trans (if_pos h), rfl⟩
      · exact ⟨_, hkeyed.trans ((if_neg h).trans (if_pos (congrArg (!·) htag))), authFailCounted_bump s⟩
      · exact ⟨_, hkeyed.trans ((if_neg h).trans ((if_neg (hgood htag)).trans (if_pos hold))), rfl⟩
      · exact ⟨_, hkeyed.trans ((if_neg (by omega)).trans ((if_neg (hgood htag)).trans
          ((if_neg (Nat.not_le.2 hnew)).trans (if_pos h)))), rfl⟩
      · exact ⟨_, hkeyed.trans ((if_neg h).trans ((if_neg (hgood htag)).trans
          ((if_neg (Nat.not_le.2 hnew)).trans (if_neg h2)))), rfl⟩
  · intro ctr mseq tagOk hb hkey
    exact ⟨fun hbad => heartbeatReceive_counted hservice huse mseq hb hkey hbad,
      fun htag hnew => heartbeatReceive_hears hservice huse mseq hb hkey htag hnew⟩

end Sys2Proof.Machine
end

section
/-! SUPPORT and O49. The handshake of a pairing session (R567, R568, R585). -/

namespace Sys2Proof.Machine

variable {s t : State}

theorem FramesSent.hs (h : FramesSent s t) : t.tw.hs = s.tw.hs := by rw [h.rest]

theorem State.sendOnPaths_length {kind : Nat} (h : onEveryPath kind = false) (mseq : Nat) (body : Bytes) :
    (s.sendOnPaths kind mseq body).outbox.length = s.outbox.length + 2 := by
  obtain ⟨f, g, hout⟩ := s.sendOnPaths_outbox h mseq body
  rw [hout, List.length_append]
  rfl

/-- A HELLO sent marks the handshake, and may give it a nonce. -/
theorem State.sendHello_sends {h : Handshake} (hhs : s.tw.hs = some h) :
    (∃ n, s.sendHello.tw.hs = some { h with nonce := n, sent := true }) ∧ s.sendHello.outbox.length = s.outbox.length + 2 := by
  unfold State.sendHello
  split
  next hnone =>
    rw [hhs] at hnone
    cases hnone
  next h' hh' =>
    cases hhs.symm.trans hh'
    extract_lets d g u tw v
    have hg : ∃ n, g = { h with nonce := n, sent := true } := by
      unfold g
      split
      · exact ⟨_, rfl⟩
      · exact ⟨h.nonce, rfl⟩
    have hv : v.outbox = s.outbox := by
      change u.outbox = s.outbox
      unfold u
      split <;> rfl
    obtain ⟨n, hn⟩ := hg
    refine ⟨⟨n, ((framesSent_sendOnPaths v 3 0 _).hs).trans (congrArg some hn)⟩, ?_⟩
    rw [State.sendOnPaths_length rfl, hv]

/-- A handshake that fails is gone, and its command ends with it. -/
theorem State.failPairing_of_hs {h : Handshake} (hhs : s.tw.hs = some h) (e : Ending) :
    (s.failPairing e).tw = { s.tw with hs := none, state := if s.tw.state = .pairing then h.before else s.tw.state } ∧
      (s.failPairing e).cnts = s.cnts ∧ (s.failPairing e).outbox = s.outbox ∧
      ∀ j b, h.job = some j → s.job j = some b → endedWith (s.failPairing e) j e ∧ otherJobsKept s (s.failPairing e) j := by
  unfold State.failPairing
  split
  next hnone =>
    rw [hhs] at hnone
    cases hnone
  next h' hh' =>
    cases hhs.symm.trans hh'
    extract_lets st tw u
    have hu : u.tw = { s.tw with hs := none, state := st } ∧ u.cnts = s.cnts ∧ u.outbox = s.outbox ∧ u.jobs = s.jobs :=
      ⟨rfl, rfl, rfl, rfl⟩
    clear_value u
    obtain ⟨htw, hcnts, hout, hjobs⟩ := hu
    cases h.job with
    | none =>
      dsimp only
      exact ⟨htw, hcnts, hout, fun _ _ hjob => by cases hjob⟩
    | some i =>
      dsimp only
      refine ⟨(State.endJob_tw (s := u) i e).trans htw, (State.endJob_cnts (s := u) i e).trans hcnts,
        (State.endJob_outbox (s := u) i e).trans hout, ?_⟩
      rintro j b ⟨⟩ hb
      exact ⟨endedWith_endJob (s := u) e ((job_of_jobs hjobs i).trans hb),
        fun k hk => (otherJobsKept_endJob u i e k hk).trans (job_of_jobs hjobs k)⟩

/-- What a new nonce starts again (R567): a handshake that had heard another. -/
def Handshake.heardAnew (h : Handshake) : Handshake :=
  if h.peerNonce = [] then h else { h with nonce := [], sent := false, proved := false, eph := [], syncing := false }

theorem Handshake.heardAnew_keeps (h : Handshake) :
    h.heardAnew.job = h.job ∧ h.heardAnew.node = h.node ∧ h.heardAnew.role = h.role ∧ h.heardAnew.partner = h.partner := by
  unfold Handshake.heardAnew
  split <;> exact ⟨rfl, rfl, rfl, rfl⟩

theorem State.helloBad_heardAnew (h : Handshake) (lo hi fw role rate : Nat) (mid partnerOf : Bytes) :
    s.helloBad h.heardAnew lo hi fw role rate mid partnerOf = s.helloBad h lo hi fw role rate mid partnerOf := by
  obtain ⟨hjob, -, hrole, hpartner⟩ := h.heardAnew_keeps
  unfold State.helloBad
  rw [hjob, hrole, hpartner]

theorem commonPl_of_helloBad {h : Handshake} {lo hi fw role rate : Nat} {mid partnerOf : Bytes}
    (hgood : s.helloBad h lo hi fw role rate mid partnerOf = none) : ∃ v, commonPl lo hi = some v := by
  unfold State.helloBad at hgood
  refine Option.ne_none_iff_exists'.1 fun hnone => ?_
  rw [if_pos (.inl hnone)] at hgood
  cases hgood

/-- The handshake `g` that a HELLO leaves is answered: this module's HELLO, if it has not gone out, and PROOF. -/
def State.answerHello (s : State) (g : Handshake) : State :=
  let s := { s with tw := { s.tw with hs := some g, state := if g.job.isSome then PairState.pairing else s.tw.state } }
  let s := if g.sent then s else s.sendHello
  s.sendOnPaths 4 0 (pairProof (s.pairSecret g.node) s.mid g.peerNonce)

theorem State.answerHello_sends (s : State) (g : Handshake) :
    s.outbox.length + 2 ≤ (s.answerHello g).outbox.length ∧
      ∃ n, (s.answerHello g).tw.hs = some { g with nonce := n, sent := true } := by
  unfold State.answerHello
  extract_lets tw u v
  have hv : s.outbox.length ≤ v.outbox.length ∧ ∃ n, v.tw.hs = some { g with nonce := n, sent := true } := by
    unfold v
    split
    next hsent =>
      refine ⟨le_rfl, g.nonce, ?_⟩
      have hg : { g with sent := true } = g := by rw [← hsent]
      exact congrArg some hg.symm
    next =>
      obtain ⟨hsends, hlength⟩ := State.sendHello_sends (s := u) (h := g) rfl
      exact ⟨by rw [hlength]; exact Nat.le_add_right _ _, hsends⟩
  obtain ⟨hlength, n, hhs⟩ := hv
  refine ⟨?_, n, (framesSent_sendOnPaths v 4 0 _).hs.trans hhs⟩
  rw [State.sendOnPaths_length rfl]
  exact Nat.add_le_add_right hlength 2

section
variable {h : Handshake} (hpair : s.canPair = true) (hhs : s.tw.hs = some h)
include hpair hhs

theorem takeHello_of_hs {lo hi fw role rate : Nat} {mid nonce partnerOf : Bytes} (hnew : h.peerNonce ≠ nonce) :
    s.takeHello lo hi fw role rate mid nonce partnerOf =
      match s.helloBad h lo hi fw role rate mid partnerOf with
      | some st => ({ s with tw := { s.tw with hs := some h.heardAnew } } : State).failPairing (failed st)
      | none => s.answerHello
          { h.heardAnew with peerMid := mid, peerNonce := nonce, peerRole := role, version := (commonPl lo hi).getD 1 } := by
  have hfor : s.handshakeFor = some h := by
    unfold State.handshakeFor
    rw [hhs]
  unfold State.takeHello
  rw [if_neg (by rw [hpair]; decide), hfor, ← State.helloBad_heardAnew]
  dsimp only
  rw [if_neg hnew]
  rfl

theorem hello_accepted {lo hi fw role rate : Nat} {mid nonce partnerOf : Bytes} (hnew : h.peerNonce ≠ nonce)
    (hgood : s.helloBad h lo hi fw role rate mid partnerOf = none) :
    answers (.pairingHandshake (.hello lo hi fw role rate mid nonce partnerOf)) s fun t =>
      s.outbox.length + 2 ≤ t.outbox.length ∧ ∃ g, t.tw.hs = some g ∧ g.peerMid = mid ∧ g.peerNonce = nonce ∧
        g.peerRole = role ∧ commonPl lo hi = some g.version ∧ g.sent = true ∧ g.node = h.node ∧ g.job = h.job := by
  obtain ⟨version, hversion⟩ := commonPl_of_helloBad hgood
  obtain ⟨hjob, hnode, -, -⟩ := h.heardAnew_keeps
  refine ⟨_, (rfl : execPairingHandshake (.hello lo hi fw role rate mid nonce partnerOf) s = _), ?_⟩
  rw [takeHello_of_hs hpair hhs hnew, hgood]
  obtain ⟨hlength, n, hg⟩ := s.answerHello_sends
    { h.heardAnew with peerMid := mid, peerNonce := nonce, peerRole := role, version := (commonPl lo hi).getD 1 }
  refine ⟨hlength, _, hg, rfl, rfl, rfl, ?_, rfl, hnode, hjob⟩
  rw [hversion]
  rfl

theorem hello_refused {lo hi fw role rate st j : Nat} {mid nonce partnerOf : Bytes} {b : Job} (hnew : h.peerNonce ≠ nonce)
    (hbad : s.helloBad h lo hi fw role rate mid partnerOf = some st) (hjob : h.job = some j) (hb : s.job j = some b) :
    answers (.pairingHandshake (.hello lo hi fw role rate mid nonce partnerOf)) s fun t =>
      t.tw.hs = none ∧ endedWith t j (failed st) ∧ otherJobsKept s t j ∧ t.outbox = s.outbox := by
  refine ⟨_, (rfl : execPairingHandshake (.hello lo hi fw role rate mid nonce partnerOf) s = _), ?_⟩
  rw [takeHello_of_hs hpair hhs hnew, hbad]
  obtain ⟨htw, -, hout, hends⟩ :=
    State.failPairing_of_hs (s := { s with tw := { s.tw with hs := some h.heardAnew } }) rfl (failed st)
  obtain ⟨hended, hothers⟩ := hends j b (h.heardAnew_keeps.1.trans hjob) hb
  exact ⟨congrArg Twin.hs htw, hended, hothers, hout⟩

section
variable {response : Bytes} (hheard : h.peerNonce ≠ []) (hopen : h.proved = false)
include hheard hopen

theorem proof_wrong (hwrong : response ≠ pairProof (s.pairSecret h.node) h.peerMid h.nonce) :
    answers (.pairingHandshake (.proof response)) s fun t =>
      t.tw.hs = none ∧ t.cnt aTW_AUTH_FAIL 0 = (s.cnt aTW_AUTH_FAIL 0 + 1) % 2 ^ 32 ∧
      t.tw.state = (if s.tw.state = .pairing then h.before else s.tw.state) ∧
      ∀ j b, h.job = some j → s.job j = some b → endedWith t j { status := stVERIFY_FAIL, verdict := vFail } := by
  refine ⟨_, (rfl : execPairingHandshake (.proof response) s = _), ?_⟩
  unfold State.takeProof
  rw [hhs]
  dsimp only
  rw [if_neg (by simp [hpair, hheard, hopen]), if_pos hwrong]
  obtain ⟨htw, hcnts, -, hends⟩ :=
    State.failPairing_of_hs (s := s.bump aTW_AUTH_FAIL 0) hhs { status := stVERIFY_FAIL, verdict := vFail }
  refine ⟨congrArg Twin.hs htw, ?_, congrArg Twin.state htw, fun j b hjob hb => (hends j b hjob hb).1⟩
  unfold State.cnt
  rw [hcnts]
  exact State.cnt_bumpBy_same _ _ _ _

theorem proof_right (hright : response = pairProof (s.pairSecret h.node) h.peerMid h.nonce) (hversion : h.version ≠ 1) :
    answers (.pairingHandshake (.proof response)) s fun t =>
      t.outbox.length = s.outbox.length + (if s.leadsSession h then 0 else 2) ∧
      ∃ g, t.tw.hs = some g ∧ g.proved = true ∧ g.nonce = h.nonce ∧ g.peerNonce = h.peerNonce := by
  refine ⟨_, (rfl : execPairingHandshake (.proof response) s = _), ?_⟩
  unfold State.takeProof
  rw [hhs]
  dsimp only
  rw [if_neg (by simp [hpair, hheard, hopen]), if_neg (not_not.2 hright), if_neg hversion]
  split
  next hlead' =>
    have hlead : s.leadsSession h = true := hlead'
    rw [if_pos hlead]
    exact ⟨rfl, _, rfl, rfl, rfl, rfl⟩
  next hlead' =>
    have hlead : ¬s.leadsSession h = true := hlead'
    rw [if_neg hlead]
    exact ⟨State.sendOnPaths_length rfl _ _, _, (framesSent_sendOnPaths _ 5 0 _).hs, rfl, rfl, rfl⟩

end

end

theorem keyx_early {h : Handshake} (hhs : s.tw.hs = some h) (k : Bytes)
    (hearly : h.proved = false ∨ h.version = 1 ∨ h.syncing = true) :
    answers (.pairingHandshake (.keyx k)) s fun t => t = s := by
  refine ⟨_, (rfl : execPairingHandshake (.keyx k) s = _), ?_⟩
  unfold State.takeKeyx
  rw [hhs]
  refine if_pos ?_
  rcases hearly with hproved | hversion | hsyncing
  · exact .inr (.inl (by rw [hproved]; rfl))
  · exact .inr (.inr (.inl hversion))
  · exact .inr (.inr (.inr hsyncing))

/-- Settles O49: a HELLO that is accepted or refused, a PROOF that is wrong or right, and a KEYX before its time. -/
theorem pairingHandshake : Obligations.PairingHandshake := by
  intro s h hpair hhs
  refine ⟨fun lo hi fw role rate mid nonce partnerOf hnew => ⟨hello_accepted hpair hhs hnew,
    fun st j b hbad hjob hb => hello_refused hpair hhs hnew hbad hjob hb⟩, fun response hheard hopen =>
    ⟨proof_wrong hpair hhs hheard hopen, proof_right hpair hhs hheard hopen⟩, keyx_early hhs⟩

end Sys2Proof.Machine
end

section
/-! SUPPORT and O50. Records and acknowledgements (R563, R572, R574, R576). -/

namespace Sys2Proof.Machine

variable {r s t : State}

/-! ### What the end of a synchronisation leaves -/

/-- The staged crossing, the last record applied and the records held back stand. -/
structure RecordsStand (s t : State) : Prop where
  staged : t.tw.staged = s.tw.staged
  applied : t.tw.applied = s.tw.applied
  early : t.tw.early = s.tw.early

theorem RecordsStand.refl (s : State) : RecordsStand s s := ⟨rfl, rfl, rfl⟩

theorem RecordsStand.trans (h : RecordsStand r s) (g : RecordsStand s t) : RecordsStand r t :=
  ⟨g.staged.trans h.staged, g.applied.trans h.applied, g.early.trans h.early⟩

theorem recordsStand_of_tw (h : t.tw = s.tw) : RecordsStand s t := ⟨by rw [h], by rw [h], by rw [h]⟩

theorem FramesSent.records (h : FramesSent s t) : RecordsStand s t := ⟨by rw [h.rest], by rw [h.rest], by rw [h.rest]⟩

theorem State.pairEvent_tw (s : State) (code : Nat) (path : Option TwinPath) : (s.pairEvent code path).tw = s.tw :=
  ((QueueTraffic.refl s).postEvent _ _ _ _ _).tw

theorem framesSent_mirrorPending (s : State) : FramesSent s s.mirrorPending := by
  have hkey : ∀ (u : State) (node : Nat) (k : HbsKey), FramesSent u (u.mirrorKey node k) := by
    intro u node k
    unfold State.mirrorKey
    split
    · exact framesSent_sendRecord u _ _ _
    · exact framesSent_sendRecord u _ _ _
    · exact framesSent_sendRecord u _ _ _
    · exact .refl u
  refine framesSent_foldl (fun u (e : Nat × HbsKey) => ?_) _ s
  split
  · exact hkey u _ _
  · exact .refl u

theorem recordsStand_settleSync (s : State) : RecordsStand s s.settleSync := by
  unfold State.settleSync
  split
  · exact .refl s
  next h _ =>
    split
    · exact .refl s
    · extract_lets u tw ks v
      have hv : RecordsStand s v := ⟨rfl, rfl, rfl⟩
      clear_value v
      split
      · exact hv.trans ((recordsStand_of_tw (v.takeParity_taken h.role).tw).trans
          (recordsStand_of_tw (pairingStands_requestSet _ _).tw))
      · exact hv.trans ((framesSent_mirrorPending v).records.trans (recordsStand_of_tw (State.pairEvent_tw _ _ _)))

theorem State.settleSync_of_none (h : s.tw.hs = none) : s.settleSync = s := by
  unfold State.settleSync
  rw [h]

theorem State.castleStep_of_none (h : s.tw.castle = none) : s.castleStep = s := by
  unfold State.castleStep
  rw [h]

/-! ### Records in their order (R563, R574) -/

theorem State.takeNext_none (fuel : Nat) (h : (s.tw.early.find? fun x => x.mseq == s.tw.applied + 1) = none) :
    State.takeNext fuel s = s := by
  cases fuel with
  | zero => rfl
  | succ fuel =>
    unfold State.takeNext
    rw [h]

/-- The record that is next is applied, acknowledged, and the one after it looked for. -/
theorem State.takeNext_some {x : PairRecord} (fuel : Nat)
    (hfind : (s.tw.early.find? fun x => x.mseq == s.tw.applied + 1) = some x)
    (hgo : (mpRecord x.kind && s.mp.state != .run) = false) :
    State.takeNext (fuel + 1) s =
      let u : State := { s with tw := { s.tw with early := s.tw.early.filter fun y => y.mseq != x.mseq, applied := x.mseq } }
      let a := u.takeRecord x.kind x.body
      State.takeNext fuel (a.2.sendAck x.mseq a.1).settleSync := by
  conv_lhs => unfold State.takeNext
  rw [hfind]
  exact if_neg (by rw [hgo]; decide)

/-- A record that is next but must wait for the MP stays held back (R146). -/
theorem State.takeNext_waits {x : PairRecord} (fuel : Nat)
    (hfind : (s.tw.early.find? fun x => x.mseq == s.tw.applied + 1) = some x)
    (hwait : (mpRecord x.kind && s.mp.state != .run) = true) : State.takeNext (fuel + 1) s = s := by
  unfold State.takeNext
  rw [hfind]
  exact if_pos hwait

/-- The record the partner sent with a number, a kind and a body. -/
def arrivedRecord (mseq kind : Nat) (body : Bytes) : PairRecord := { mseq := mseq, kind := kind, body := body }

/-- The state that holds just one record back. -/
def State.holdRecord (s : State) (x : PairRecord) : State := { s with tw := { s.tw with early := [x] } }

theorem State.holdRecord_next (s : State) (kind : Nat) (body : Bytes) :
    ((s.holdRecord (arrivedRecord (s.tw.applied + 1) kind body)).tw.early.find? fun x => x.mseq == s.tw.applied + 1) =
      some (arrivedRecord (s.tw.applied + 1) kind body) := List.find?_cons_of_pos (beq_self_eq_true (s.tw.applied + 1))

section
variable (hkey : s.tw.recvKey ≠ []) (hservice : s.fc.mstate = .service) (hearly : s.tw.early = [])
include hkey hservice hearly

theorem mirrorRecord_again {mseq : Nat} (kind : Nat) (body : Bytes) (hold : mseq ≤ s.tw.applied) :
    answers (.mirrorRecord mseq kind body) s fun t => t = s := by
  refine ⟨_, (rfl : execMirrorRecord mseq kind body s = _), ?_⟩
  unfold State.recordArrives
  rw [if_neg (by simp [hkey, hservice]), if_pos (.inl hold)]
  exact State.takeNext_none _ (by rw [hearly]; rfl)

/-- A record that is new is held, and what is next is taken. -/
theorem recordArrives_new {mseq : Nat} (kind : Nat) (body : Bytes) (hnew : s.tw.applied < mseq) :
    s.recordArrives mseq kind body = State.takeNext 2 (s.holdRecord (arrivedRecord mseq kind body)) := by
  unfold State.recordArrives
  rw [if_neg (by simp [hkey, hservice]), if_neg (by simp [hearly, hnew])]
  dsimp only
  rw [hearly]
  rfl

theorem mirrorRecord_early {mseq : Nat} (kind : Nat) (body : Bytes) (hahead : s.tw.applied + 1 < mseq) :
    answers (.mirrorRecord mseq kind body) s fun t => t = s.holdRecord (arrivedRecord mseq kind body) := by
  refine ⟨_, (rfl : execMirrorRecord mseq kind body s = _), ?_⟩
  rw [recordArrives_new hkey hservice hearly kind body (by omega)]
  refine State.takeNext_none _ ?_
  have hne : (mseq == s.tw.applied + 1) = false := beq_eq_false_iff_ne.2 (by omega)
  exact List.find?_eq_none.2 (by simpa [State.holdRecord, arrivedRecord] using hne)

theorem mirrorRecord_waits {kind : Nat} (body : Bytes) (hmp : mpRecord kind = true) (hdown : s.mp.state ≠ .run) :
    answers (.mirrorRecord (s.tw.applied + 1) kind body) s fun t =>
      t = s.holdRecord (arrivedRecord (s.tw.applied + 1) kind body) := by
  refine ⟨_, (rfl : execMirrorRecord (s.tw.applied + 1) kind body s = _), ?_⟩
  rw [recordArrives_new hkey hservice hearly kind body (Nat.lt_succ_self _)]
  exact State.takeNext_waits 1 (s.holdRecord_next kind body)
    (by rw [Bool.and_eq_true]; exact ⟨hmp, bne_iff_ne.2 hdown⟩)

theorem mirrorRecord_castle (body : Bytes) (hrun : s.mp.state = .run) :
    answers (.mirrorRecord (s.tw.applied + 1) 0x60 body) s fun t =>
      t.tw.staged = some (Stamp.ofBits (beNat (body.take 8))) ∧ t.tw.applied = s.tw.applied + 1 ∧ t.tw.early = [] := by
  refine ⟨_, (rfl : execMirrorRecord (s.tw.applied + 1) 0x60 body s = _), ?_⟩
  have hgo : (mpRecord 0x60 && (s.holdRecord (arrivedRecord (s.tw.applied + 1) 0x60 body)).mp.state != .run) = false := by
    have hmp : (s.holdRecord (arrivedRecord (s.tw.applied + 1) 0x60 body)).mp.state = .run := hrun
    rw [hmp]
    rfl
  rw [recordArrives_new hkey hservice hearly 0x60 body (Nat.lt_succ_self _),
    State.takeNext_some 1 (s.holdRecord_next 0x60 body) hgo]
  extract_lets tw u a
  have ha : a.2.tw.staged = some (Stamp.ofBits (beNat (body.take 8))) ∧ a.2.tw.applied = s.tw.applied + 1 ∧ a.2.tw.early = [] := by
    refine ⟨rfl, rfl, ?_⟩
    change [arrivedRecord (s.tw.applied + 1) 0x60 body].filter (fun x => x.mseq != s.tw.applied + 1) = []
    simp [arrivedRecord]
  clear_value a
  obtain ⟨hstaged, hlast, hheld⟩ := ha
  have hstand : RecordsStand a.2 (a.2.sendAck (s.tw.applied + 1) a.1).settleSync :=
    (framesSent_sendOnPaths a.2 2 0 _).records.trans (recordsStand_settleSync _)
  have hsettled : State.takeNext 1 (a.2.sendAck (s.tw.applied + 1) a.1).settleSync =
      (a.2.sendAck (s.tw.applied + 1) a.1).settleSync :=
    State.takeNext_none _ (by rw [hstand.early, hheld]; rfl)
  have hmseq : (arrivedRecord (s.tw.applied + 1) 0x60 body).mseq = s.tw.applied + 1 := rfl
  rw [hmseq, hsettled]
  exact ⟨hstand.staged.trans hstaged, hstand.applied.trans hlast, hstand.early.trans hheld⟩

end

/-! ### Acknowledgements (R574) -/

/-- A slot command ends as its key store left it, with MIRRORED as told. -/
theorem State.endSlotJob_ends {j : Nat} {b : Job} (hb : s.job j = some b) (mirrored : Bool) :
    (s.endSlotJob j mirrored).tw = s.tw ∧ otherJobsKept s (s.endSlotJob j mirrored) j ∧
      endedWith (s.endSlotJob j mirrored) j (b.after.getD (done [])) ∧
      ((s.endSlotJob j mirrored).job j).map (·.mirrored) = some mirrored := by
  have hset := State.job_onJob_same (j := j) s (fun b => { b with mirrored := mirrored }) hb
  unfold State.endSlotJob
  dsimp only
  rw [hset]
  refine ⟨(State.endJob_tw _ j _).trans (State.onJob_tw _ j _), fun i hi => ?_, endedWith_endJob _ hset, ?_⟩
  · exact (State.job_endJob_other _ _ hi).trans (State.job_onJob_other _ _ hi)
  · rw [State.job_endJob_same _ _ hset]
    rfl

/-- The record with a number is acknowledged: it leaves the queue. -/
def State.acknowledged (s : State) (mseq : Nat) : State :=
  { s with tw := { s.tw with queue := s.tw.queue.filter fun x => x.mseq != mseq, acked := max s.tw.acked mseq } }

theorem State.takeAck_some {mseq : Nat} {x : PairRecord} (status : Nat)
    (hfind : (s.tw.queue.find? fun x => x.mseq == mseq) = some x) :
    s.takeAck mseq status = ((s.acknowledged mseq).ackRecord x status).castleStep.settleSync := by
  unfold State.takeAck
  rw [hfind]
  rfl

theorem mirrorAck_invalidate {mseq j : Nat} {x : PairRecord} {b : Job} {e : Ending} (status : Nat)
    (hfind : (s.tw.queue.find? fun x => x.mseq == mseq) = some x) (hkind : x.kind = 0x51) (hjob : x.job = some j)
    (hb : s.job j = some b) (he : b.after = some e) (hhs : s.tw.hs = none) (hcastle : s.tw.castle = none) :
    answers (.mirrorAck mseq status) s fun t =>
      t.tw = { s.tw with queue := s.tw.queue.filter fun x => x.mseq != mseq, acked := max s.tw.acked mseq } ∧
      otherJobsKept s t j ∧ endedWith t j (if status = stDONE then e else failed status) ∧
      (status = stDONE → (t.job j).map (·.mirrored) = some true) := by
  refine ⟨_, (rfl : execMirrorAck mseq status s = _), ?_⟩
  rw [State.takeAck_some status hfind]
  generalize hu : s.acknowledged mseq = u
  have hub : u.job j = some b := by rw [← hu]; exact hb
  have hutw : u.tw = { s.tw with queue := s.tw.queue.filter fun x => x.mseq != mseq, acked := max s.tw.acked mseq } := by
    rw [← hu]
    rfl
  have huothers : ∀ i, u.job i = s.job i := fun _ => by rw [← hu]; rfl
  have hack : u.ackRecord x status = if status ≠ stDONE then u.failJob j status else u.endSlotJob j true := by
    unfold State.ackRecord
    rw [if_neg (by omega), if_neg (by omega), if_neg (by omega), hjob]
    dsimp only
    rw [if_pos hkind]
  have hends : (u.ackRecord x status).tw = u.tw ∧ otherJobsKept u (u.ackRecord x status) j ∧
      endedWith (u.ackRecord x status) j (if status = stDONE then e else failed status) ∧
      (status = stDONE → ((u.ackRecord x status).job j).map (·.mirrored) = some true) := by
    rw [hack]
    by_cases hdone : status = stDONE
    · rw [if_neg (not_not.2 hdone), if_pos hdone]
      obtain ⟨htw, hothers, hended, hmirrored⟩ := u.endSlotJob_ends hub true
      rw [he] at hended
      exact ⟨htw, hothers, hended, fun _ => hmirrored⟩
    · rw [if_pos hdone, if_neg hdone]
      exact ⟨State.endJob_tw _ _ _, otherJobsKept_endJob u j _, endedWith_endJob _ hub, fun h => absurd h hdone⟩
  obtain ⟨htw, hothers, hended, hmirrored⟩ := hends
  generalize u.ackRecord x status = v at htw hothers hended hmirrored
  have hvtw := htw.trans hutw
  rw [State.castleStep_of_none (by rw [hvtw]; exact hcastle), State.settleSync_of_none (by rw [hvtw]; exact hhs)]
  exact ⟨hvtw, fun i hi => (hothers i hi).trans (huothers i), hended, hmirrored⟩

theorem mirrorAck_unknown {mseq : Nat} (status : Nat) (hnone : ∀ x ∈ s.tw.queue, x.mseq ≠ mseq) :
    answers (.mirrorAck mseq status) s fun t => t = s := by
  refine ⟨_, (rfl : execMirrorAck mseq status s = _), ?_⟩
  have hfind : (s.tw.queue.find? fun x => x.mseq == mseq) = none :=
    List.find?_eq_none.2 fun x hx => by simpa using hnone x hx
  unfold State.takeAck
  rw [hfind]

/-! ### The wait of a slot command in FROZEN (R576) -/

/-- A record of a slot command of job `j`. -/
def PairRecord.slotOf (x : PairRecord) (j : Nat) : Bool := x.job == some j && (x.kind == 0x50 || x.kind == 0x51)

theorem slotRecordTimeout_frozen {j : Nat} {b : Job} {x : PairRecord} (hfrozen : s.tw.state = .frozen) (hx : x ∈ s.tw.queue)
    (hjob : x.job = some j) (hkind : x.kind = 0x50 ∨ x.kind = 0x51) (hb : s.job j = some b)
    (hlate : (b.waitUp.any fun u => s.passed u (s.crossingsNs 2)) = true) :
    answers (.slotRecordTimeout j) s fun t =>
      endedWith t j (b.after.getD (done [])) ∧ (t.job j).map (·.mirrored) = some false ∧ otherJobsKept s t j ∧
      t.tw.queue.map (·.mseq) = s.tw.queue.map (·.mseq) ∧ t.tw.state = .frozen := by
  have hmine : s.tw.queue.any (·.slotOf j) = true :=
    List.any_eq_true.2 ⟨x, hx, by simpa [PairRecord.slotOf, hjob] using hkind⟩
  have hexec : execSlotRecordTimeout j s = .next (({ s with tw := { s.tw with
      queue := s.tw.queue.map fun x => if x.slotOf j then { x with job := none } else x } } : State).endSlotJob j false) := by
    unfold execSlotRecordTimeout
    refine if_neg ?_
    have hlate' : (((s.job j).bind (·.waitUp)).any fun t => s.passed t (s.crossingsNs 2)) = true := by
      rw [hb]
      exact hlate
    rintro (h | h | h)
    · exact h hfrozen
    · exact absurd hmine (by simpa [PairRecord.slotOf] using h)
    · rw [hlate'] at h
      exact absurd h (by decide)
  refine ⟨_, hexec, ?_⟩
  obtain ⟨htw, hothers, hended, hmirrored⟩ := State.endSlotJob_ends (s := { s with tw := { s.tw with
      queue := s.tw.queue.map fun x => if x.slotOf j then { x with job := none } else x } }) (b := b) hb false
  refine ⟨hended, hmirrored, hothers, ?_, (congrArg Twin.state htw).trans hfrozen⟩
  rw [htw]
  dsimp only
  rw [List.map_map]
  refine List.map_congr_left fun y _ => ?_
  dsimp only [Function.comp]
  split <;> rfl

/-- Settles O50: records in their order, the acknowledgement of an invalidation, and the wait in FROZEN. -/
theorem mirroredRecords : Obligations.MirroredRecords := by
  intro s
  refine ⟨fun mseq kind body hkey hservice hearly => ⟨mirrorRecord_again hkey hservice hearly kind body,
    mirrorRecord_early hkey hservice hearly kind body, ?_, ?_⟩, ?_, fun mseq status => mirrorAck_unknown status, ?_⟩
  · rintro rfl rfl hrun
    exact mirrorRecord_castle hkey hservice hearly body hrun
  · rintro rfl hmp hdown
    exact mirrorRecord_waits hkey hservice hearly body hmp hdown
  · intro mseq status x j b e hfind hkind hjob hb he hhs hcastle
    exact mirrorAck_invalidate status hfind hkind hjob hb he hhs hcastle
  · intro j b x hfrozen hx hjob hkind hb hlate
    exact slotRecordTimeout_frozen hfrozen hx hjob hkind hb hlate

end Sys2Proof.Machine
end

section
/-! SUPPORT and O51. The paths at the end of a crossing, and the states and roles that follow from them (R564, R576,
R577, R580). -/

namespace Sys2Proof.Machine

variable {r s t u : State}

theorem queueTraffic_pairEvent (s : State) (code : Nat) (path : Option TwinPath) : QueueTraffic s (s.pairEvent code path) :=
  (QueueTraffic.refl s).postEvent _ _ _ _ _

theorem mgmtPath_of_regs (h : t.regs = s.regs) : t.mgmtPath = s.mgmtPath := by
  unfold State.mgmtPath State.fld State.reg
  rw [h]

/-! ### Judging (R564) -/

/-- What the end of a crossing makes of a path. -/
def PathJudged (x y : PairPath) : Prop :=
  y.heard = false ∧ y.rxCtr = x.rxCtr ∧
    (x.heard = true → y.miss = 0 ∧ y.good = x.good + 1 ∧ (y.up = true ↔ x.up = true ∨ 2 ≤ y.good)) ∧
    (x.heard = false → y.miss = min 255 (x.miss + 1) ∧ y.good = 0 ∧ (y.up = true ↔ x.up = true ∧ y.miss < 3))

/-- Only the paths of the pair changed, beside queue traffic and counters; the registers stand. -/
structure PathsOnly (s t : State) : Prop where
  tw : t.tw = { s.tw with paths := t.tw.paths }
  regs : t.regs = s.regs

theorem PathsOnly.refl (s : State) : PathsOnly s s := ⟨rfl, rfl⟩

theorem PathsOnly.trans (h : PathsOnly r s) (g : PathsOnly s t) : PathsOnly r t := by
  refine ⟨?_, g.regs.trans h.regs⟩
  have htw := g.tw
  rw [h.tw] at htw
  exact htw

theorem QueueTraffic.pathsOnly (h : QueueTraffic s t) : PathsOnly s t := ⟨by rw [h], by rw [h]⟩

/-- A path's counts at the end of a crossing. -/
def PairPath.tallied (x : PairPath) : PairPath :=
  if x.heard then { x with heard := false, miss := 0, good := x.good + 1 }
  else { x with heard := false, miss := min 255 (x.miss + 1), good := 0 }

/-- A path as it stands after the crossing. -/
def PairPath.judged (x : PairPath) : PairPath :=
  if !x.up ∧ x.tallied.good ≥ 2 then { x.tallied with up := true }
  else if x.up ∧ x.tallied.miss ≥ 3 then { x.tallied with up := false }
  else x.tallied

theorem PairPath.judged_judged (x : PairPath) : PathJudged x x.judged := by
  unfold PathJudged PairPath.judged PairPath.tallied
  cases x.heard <;> cases x.up
  · simp
  · by_cases hmiss : 3 ≤ min 255 (x.miss + 1)
    · have hx : 2 ≤ x.miss := by omega
      simp [hmiss, hx]
    · simp [hmiss, Nat.lt_of_not_le hmiss]
  · by_cases hgood : 2 ≤ x.good + 1
    · simp [hgood]
    · simp [hgood]
  · simp

/-- Path `p` is now `x`, and the other paths stand. -/
structure PathSet (s : State) (p : TwinPath) (x : PairPath) (t : State) : Prop where
  same : t.path p = x
  other : ∀ q, q ≠ p → t.path q = s.path q
  only : PathsOnly s t

theorem pathSet_onPath (s : State) (p : TwinPath) (f : PairPath → PairPath) : PathSet s p (f (s.path p)) (s.onPath p f) :=
  ⟨State.path_onPath_same s p f, fun _ hq => State.path_onPath_other s f hq, rfl, rfl⟩

theorem PathSet.onPath {p : TwinPath} {x : PairPath} (h : PathSet s p x t) (f : PairPath → PairPath) :
    PathSet s p (f x) (t.onPath p f) :=
  ⟨by rw [State.path_onPath_same, h.same], fun q hq => (State.path_onPath_other t f hq).trans (h.other q hq),
    h.only.trans ⟨rfl, rfl⟩⟩

theorem PathSet.traffic {p : TwinPath} {x : PairPath} (h : PathSet s p x t) (g : QueueTraffic t u) : PathSet s p x u :=
  ⟨(path_of_paths (congrArg Twin.paths g.tw) p).trans h.same,
    fun q hq => (path_of_paths (congrArg Twin.paths g.tw) q).trans (h.other q hq), h.only.trans g.pathsOnly⟩

theorem pathSet_judgePath (s : State) (p : TwinPath) : PathSet s p (s.path p).judged (s.judgePath p) := by
  unfold State.judgePath
  extract_lets x y v w
  have hv : PathSet s p x.tallied v := pathSet_onPath s p _
  have hw : PathSet s p { x.tallied with up := false } w :=
    (hv.onPath fun z => { z with up := false }).traffic ((QueueTraffic.refl _).bump _ _)
  have hy : y = x.tallied := rfl
  change PathSet s p x.judged _
  rw [hy]
  unfold PairPath.judged
  clear_value w v x
  by_cases hgood : (!x.up) = true ∧ x.tallied.good ≥ 2
  · rw [if_pos hgood, if_pos hgood]
    exact (hv.onPath fun z => { z with up := true }).traffic (queueTraffic_pairEvent _ _ _)
  · rw [if_neg hgood, if_neg hgood]
    by_cases hmiss : x.up = true ∧ x.tallied.miss ≥ 3
    · rw [if_pos hmiss, if_pos hmiss]
      split
      · exact hw.traffic (queueTraffic_pairEvent w _ _)
      · exact hw
    · rw [if_neg hmiss, if_neg hmiss]
      exact hv

/-- The paths in use are judged, each once. -/
theorem judgePaths_judged : ∀ (l : List TwinPath) (s : State), l.Nodup →
    (∀ p ∈ l, (l.foldl State.judgePath s).path p = (s.path p).judged) ∧
      (∀ p, p ∉ l → (l.foldl State.judgePath s).path p = s.path p) ∧ PathsOnly s (l.foldl State.judgePath s)
  | [], s, _ => ⟨nofun, fun _ _ => rfl, .refl s⟩
  | p :: l, s, hnodup => by
    obtain ⟨hp, hl⟩ := List.nodup_cons.1 hnodup
    obtain ⟨hin, hout, honly⟩ := judgePaths_judged l (s.judgePath p) hl
    have hset := pathSet_judgePath s p
    refine ⟨fun q hq => ?_, fun q hq => ?_, hset.only.trans honly⟩
    · rcases List.mem_cons.1 hq with rfl | hq
      · exact (hout q hp).trans hset.same
      · rw [List.foldl_cons, hin q hq, hset.other q fun h => hp (h ▸ hq)]
    · obtain ⟨hne, hnot⟩ := not_or.1 fun h => hq (List.mem_cons.2 h)
      exact (hout q hnot).trans (hset.other q hne)

/-! ### States (R576, R577) -/

theorem State.endCastle_tw (s : State) (st : Nat) : (s.endCastle st).tw = { s.tw with castle := none } := by
  unfold State.endCastle
  split
  next hnone => rw [← hnone]
  next c hc =>
    dsimp only
    split
    · rfl
    · split
      · exact (State.endJob_tw _ _ _).trans (State.onJob_tw _ _ _)
      · exact State.endJob_tw _ _ _

theorem State.becomeAlone_alone (s : State) :
    s.becomeAlone.tw.paths = s.tw.paths ∧ s.becomeAlone.tw.state = .alone ∧ s.becomeAlone.tw.role = 1 := by
  have hpaths : (s.endCastle stNOT_READY).tw.paths = s.tw.paths := by rw [s.endCastle_tw]
  have hdrop := ((s.endCastle stNOT_READY).setPairState .alone 1).dropRecords_stands.tw
  exact ⟨(congrArg Twin.paths hdrop).trans hpaths, congrArg Twin.state hdrop, congrArg Twin.role hdrop⟩

/-- Every path stands but for the counter of frames sent. -/
def PathsHeard (s t : State) : Prop := ∀ p, t.path p = { s.path p with txCtr := (t.path p).txCtr }

theorem pathsHeard_of_paths (h : t.tw.paths = s.tw.paths) : PathsHeard s t := fun p => by rw [path_of_paths h p]

/-- Sending the queued records leaves the paths, the state and the role. -/
theorem State.sendQueued_heard (s : State) :
    PathsHeard s s.sendQueued ∧ s.sendQueued.tw.state = s.tw.state ∧ s.sendQueued.tw.role = s.tw.role := by
  unfold State.sendQueued
  extract_lets rs u tw
  have hu : FramesSent s u := framesSent_foldl (fun v (x : PairRecord) => framesSent_sendOnPaths v x.kind x.mseq x.body) rs s
  have hstate : u.tw.state = s.tw.state ∧ u.tw.role = s.tw.role := by
    rw [hu.rest]
    exact ⟨rfl, rfl⟩
  exact ⟨hu.path, hstate⟩

/-- The state that follows from the judged paths of a pair in PAIRED or FROZEN (R577). -/
def State.judgedPair (s : State) : State :=
  if s.allLost then if s.tw.role = 2 then { s with tw := { s.tw with promote := true } } else s.becomeAlone
  else if s.tw.state = .paired then
    if s.linkUp then s else ({ s with tw := { s.tw with state := .frozen } } : State).pairEvent 0x0262 none
  else if s.linkUp then ({ s with tw := { s.tw with state := .paired } } : State).sendQueued else s

/-- The paths in use. -/
def State.pathsInUse (s : State) : List TwinPath := allPaths.filter fun p => p != .mgmt || s.mgmtPath

theorem State.mem_pathsInUse (p : TwinPath) : p ∈ s.pathsInUse ↔ (p = .mgmt → s.mgmtPath = true) := by
  cases p <;> simp [State.pathsInUse]

/-- PATH_LOSS_CHECK judges the paths in use, then a pair's state. -/
theorem execPathLossCheck_judges (hkey : s.tw.recvKey ≠ []) (hservice : s.fc.mstate = .service) :
    execPathLossCheck s = .next (if s.tw.state = .paired ∨ s.tw.state = .frozen
      then (s.pathsInUse.foldl State.judgePath s).judgedPair else s.pathsInUse.foldl State.judgePath s) := by
  obtain ⟨-, -, honly⟩ := judgePaths_judged s.pathsInUse s (List.Nodup.filter _ (by decide))
  have hstate : (s.pathsInUse.foldl State.judgePath s).tw.state = s.tw.state := by rw [honly.tw]
  unfold execPathLossCheck
  rw [if_neg (by simp [hkey, hservice])]
  have huse : s.pathsInUse = allPaths.filter fun p => p != .mgmt || s.mgmtPath := rfl
  rw [huse] at hstate ⊢
  dsimp only
  generalize List.foldl State.judgePath s (allPaths.filter fun p => p != .mgmt || s.mgmtPath) = u at hstate ⊢
  rw [← hstate]
  unfold State.judgedPair
  cases hst : u.tw.state with
  | paired => cases u.allLost <;> cases u.linkUp <;> simp [hst]
  | frozen => cases u.allLost <;> cases u.linkUp <;> simp [hst]
  | _ => rfl

/-! ### O51 -/

theorem allLost_iff (s : State) : s.allLost = true ↔
    ¬(((s.path .plA).up = true ∨ (s.path .plB).up = true) ∨ s.mgmtPath = true ∧ (s.path .mgmt).up = true) := by
  unfold State.allLost State.linkUp
  cases (s.path .plA).up <;> cases (s.path .plB).up <;> cases s.mgmtPath <;> cases (s.path .mgmt).up <;> decide

theorem linkUp_iff (s : State) : s.linkUp = true ↔ (s.path .plA).up = true ∨ (s.path .plB).up = true := by
  simp [State.linkUp]

/-- What the state of a pair is after its paths were judged. -/
structure PairJudged (s t : State) : Prop where
  heard : PathsHeard s t
  follow : s.allLost = true → s.tw.role = 2 → t.tw.promote = true ∧ t.tw.state = s.tw.state ∧ t.tw.role = 2
  lead : s.allLost = true → s.tw.role ≠ 2 → t.tw.state = .alone ∧ t.tw.role = 1
  link : s.allLost = false → t.tw.role = s.tw.role ∧ t.tw.state = if s.linkUp then .paired else .frozen

theorem State.judgedPair_judged (hstate : s.tw.state = .paired ∨ s.tw.state = .frozen) : PairJudged s s.judgedPair := by
  unfold State.judgedPair
  by_cases hlost : s.allLost = true
  · rw [if_pos hlost]
    have habsurd : ∀ {p : Prop}, s.allLost = false → p := fun h => by rw [hlost] at h; cases h
    split
    next hrole =>
      exact ⟨pathsHeard_of_paths rfl, fun _ _ => ⟨rfl, rfl, hrole⟩, fun _ h => absurd hrole h, habsurd⟩
    next hrole =>
      obtain ⟨hpaths, hstands⟩ := s.becomeAlone_alone
      exact ⟨pathsHeard_of_paths hpaths, fun _ h => absurd h hrole, fun _ _ => hstands, habsurd⟩
  · rw [if_neg hlost]
    split
    next hpaired =>
      split
      next hlink =>
        exact ⟨pathsHeard_of_paths rfl, fun h => absurd h hlost, fun h => absurd h hlost,
          fun _ => ⟨rfl, by rw [if_pos hlink]; exact hpaired⟩⟩
      next hlink =>
        have htw := State.pairEvent_tw { s with tw := { s.tw with state := .frozen } } 0x0262 none
        exact ⟨pathsHeard_of_paths (by rw [htw]), fun h => absurd h hlost, fun h => absurd h hlost,
          fun _ => by rw [htw, if_neg hlink]; exact ⟨rfl, rfl⟩⟩
    next hpaired =>
      have hfrozen := hstate.resolve_left hpaired
      split
      next hlink =>
        obtain ⟨hheard, hst, hrole⟩ := State.sendQueued_heard { s with tw := { s.tw with state := .paired } }
        exact ⟨hheard, fun h => absurd h hlost, fun h => absurd h hlost, fun _ => ⟨hrole, by rw [hst, if_pos hlink]⟩⟩
      next hlink =>
        exact ⟨pathsHeard_of_paths rfl, fun h => absurd h hlost, fun h => absurd h hlost,
          fun _ => ⟨rfl, by rw [if_neg hlink]; exact hfrozen⟩⟩

theorem PathJudged.heard {x y z : PairPath} (h : PathJudged x y) (hz : z = { y with txCtr := z.txCtr }) : PathJudged x z := by
  rw [hz]
  exact h

theorem pathLossCheck_answers (hkey : s.tw.recvKey ≠ []) (hservice : s.fc.mstate = .service) :
    answers .pathLossCheck s fun t =>
      (∀ p : TwinPath, (p = .mgmt → s.mgmtPath = true) → PathJudged (s.path p) (t.path p)) ∧
      let link := (t.path .plA).up = true ∨ (t.path .plB).up = true
      let any := link ∨ s.mgmtPath = true ∧ (t.path .mgmt).up = true
      (s.tw.state = .paired ∨ s.tw.state = .frozen →
        (¬any → s.tw.role = 2 → t.tw.promote = true ∧ t.tw.state = s.tw.state ∧ t.tw.role = 2) ∧
        (¬any → s.tw.role ≠ 2 → t.tw.state = .alone ∧ t.tw.role = 1) ∧
        (any → t.tw.role = s.tw.role ∧ (t.tw.state = .paired ↔ link) ∧ (t.tw.state = .frozen ↔ ¬link))) := by
  refine ⟨_, execPathLossCheck_judges hkey hservice, ?_⟩
  obtain ⟨hin, -, honly⟩ := judgePaths_judged s.pathsInUse s (List.Nodup.filter _ (by decide))
  generalize s.pathsInUse.foldl State.judgePath s = u at hin honly
  have hjudged : ∀ p : TwinPath, (p = .mgmt → s.mgmtPath = true) → PathJudged (s.path p) (u.path p) := fun p hp => by
    rw [hin p ((s.mem_pathsInUse p).2 hp)]
    exact (s.path p).judged_judged
  have hstate : u.tw.state = s.tw.state ∧ u.tw.role = s.tw.role := by
    rw [honly.tw]
    exact ⟨rfl, rfl⟩
  by_cases hpair : s.tw.state = .paired ∨ s.tw.state = .frozen
  · rw [if_pos hpair]
    have h := State.judgedPair_judged (s := u) (by rw [hstate.1]; exact hpair)
    generalize u.judgedPair = t at h
    refine ⟨fun p hp => (hjudged p hp).heard (h.heard p), ?_⟩
    intro link any _
    have hup : ∀ p, (t.path p).up = (u.path p).up := fun p => by rw [h.heard p]
    have hlink : link ↔ u.linkUp = true := by
      rw [linkUp_iff, ← hup, ← hup]
    have hlost : u.allLost = true ↔ ¬any := by
      rw [allLost_iff, mgmtPath_of_regs honly.regs, ← hup, ← hup, ← hup]
    refine ⟨fun hnone hrole => ?_, fun hnone hrole => ?_, fun hany => ?_⟩
    · rw [← hstate.1]
      exact h.follow (hlost.2 hnone) (hstate.2.trans hrole)
    · exact h.lead (hlost.2 hnone) (by rw [hstate.2]; exact hrole)
    · obtain ⟨hrole, hst⟩ := h.link (by rw [← Bool.not_eq_true, hlost]; exact not_not.2 hany)
      refine ⟨hrole.trans hstate.2, ?_⟩
      rw [hst, hlink]
      cases u.linkUp <;> decide
  · rw [if_neg hpair]
    exact ⟨hjudged, fun h => absurd h hpair⟩

theorem promotion_answers (hpromote : s.tw.promote = true) (hguard : s.tb.inGuard = true) (hrole : s.tw.role = 2) :
    answers .promotion s fun t =>
      t.tw.state = .alone ∧ t.tw.role = 1 ∧ t.tw.promote = false ∧ t.tw.staged = none ∧ t.hbs.parity = s.hbs.parity ∧
      t.tw.lastCastle = s.stampIn 1 ∧ t.cnt aTW_PROMOTE_CNT 0 = (s.cnt aTW_PROMOTE_CNT 0 + 1) % 2 ^ 32 := by
  refine ⟨_, (if_neg (by simp [hpromote, hguard, hrole]) : execPromotion s = _), ?_⟩
  have hdrop := (State.changeRole { s with tw := { s.tw with
    promote := false, staged := none, goHeard := false, hs := none } } .alone 1).dropRecords_stands
  generalize (State.changeRole { s with tw := { s.tw with
    promote := false, staged := none, goHeard := false, hs := none } } .alone 1).dropRecords = u at hdrop
  have htw := State.pairEvent_tw (u.settleHbs.bump aTW_PROMOTE_CNT 0) 0x0263 none
  have hhbs := (queueTraffic_pairEvent (u.settleHbs.bump aTW_PROMOTE_CNT 0) 0x0263 none).hbs
  have hcnts : ((u.settleHbs.bump aTW_PROMOTE_CNT 0).pairEvent 0x0263 none).cnts =
      (u.settleHbs.bump aTW_PROMOTE_CNT 0).cnts := State.postEvent_cnts _ _ _ _ _ _
  have hutw : (u.settleHbs.bump aTW_PROMOTE_CNT 0).tw = u.tw := rfl
  rw [hutw, hdrop.tw] at htw
  refine ⟨congrArg Twin.state htw, congrArg Twin.role htw, congrArg Twin.promote htw, congrArg Twin.staged htw, ?_,
    congrArg Twin.lastCastle htw, ?_⟩
  · exact (congrArg Hbs.parity hhbs).trans hdrop.parity
  · unfold State.cnt at *
    rw [hcnts]
    refine (State.cnt_bumpBy_same _ _ _ _).trans ?_
    exact congrArg (fun n => (n + 1) % 2 ^ 32) hdrop.promoted

theorem joinWaitExpiry_answers (hstate : s.tw.state = .rejoining) (hsync : s.tw.hs.any (·.syncing) = false)
    (hlate : s.passed s.tw.silentSince (s.fld aTW_CTL 23 16 * 10 ^ 9) = true) : answers .joinWaitExpiry s fun t =>
      t.tw.state = .alone ∧ t.tw.role = 1 ∧ t.tw.hs = none ∧ t.hbs.parity = s.hbs.parity :=
  ⟨_, (if_neg (by rw [hstate, hsync, hlate]; decide) : execJoinWaitExpiry s = _), rfl, rfl, rfl, rfl⟩

theorem endedWith_endCastle {j st : Nat} (hst : st ≠ stDONE) (h : endedWith s j (failed st)) :
    endedWith (s.endCastle st) j (failed st) := by
  unfold State.endCastle
  split
  · exact h
  next c _ =>
    extract_lets tw u
    have hu : endedWith u j (failed st) := h
    clear_value u
    split
    · exact hu
    next i _ =>
      rw [if_neg hst]
      obtain ⟨b, hb, hended⟩ := hu
      by_cases hij : j = i
      · rw [hij] at hb ⊢
        exact endedWith_endJob _ hb
      · exact ⟨b, (State.job_endJob_other _ _ hij).trans hb, hended⟩

/-- What the wait of a castling comes to, once that of a handshake is over (R579). -/
def State.castleWait (s : State) (n : Nat) : State :=
  if s.tw.castle.any fun c => !c.acked && c.since + c.wait ≤ n then s.endCastle stNOT_READY else s

theorem execPairWaitExpiry_eq (s : State) : execPairWaitExpiry s =
    .next ((if s.tw.hs.any (fun h => h.job.isSome && h.since + h.wait ≤ s.tb.crossings)
      then s.failPairing (failed stNOT_READY) else s).castleWait s.tb.crossings) := rfl

theorem pairWaitExpiry_establish {h : Handshake} {j : Nat} {b : Job} (hhs : s.tw.hs = some h) (hjob : h.job = some j)
    (hb : s.job j = some b) (hlate : h.since + h.wait ≤ s.tb.crossings) : answers .pairWaitExpiry s fun t =>
      t.tw.hs = none ∧ t.tw.state = (if s.tw.state = .pairing then h.before else s.tw.state) ∧
      endedWith t j (failed stNOT_READY) := by
  have hover : (if s.tw.hs.any (fun h => h.job.isSome && h.since + h.wait ≤ s.tb.crossings)
      then s.failPairing (failed stNOT_READY) else s) = s.failPairing (failed stNOT_READY) :=
    if_pos (by simp [hhs, hjob, hlate])
  have hexec : execPairWaitExpiry s = .next ((s.failPairing (failed stNOT_READY)).castleWait s.tb.crossings) := by
    rw [execPairWaitExpiry_eq, hover]
  refine ⟨_, hexec, ?_⟩
  unfold State.castleWait
  obtain ⟨htw, -, -, hends⟩ := State.failPairing_of_hs hhs (failed stNOT_READY)
  obtain ⟨hended, -⟩ := hends j b hjob hb
  generalize s.failPairing (failed stNOT_READY) = u at htw hended
  split
  · refine ⟨?_, ?_, endedWith_endCastle (by decide) hended⟩
    · rw [State.endCastle_tw, htw]
    · rw [State.endCastle_tw, htw]
  · rw [htw]
    exact ⟨rfl, rfl, hended⟩

theorem pairWaitExpiry_castle {c : Castling} {j : Nat} {b : Job} (hhs : s.tw.hs = none) (hcastle : s.tw.castle = some c)
    (hacked : c.acked = false) (hjob : c.job = some j) (hb : s.job j = some b) (hlate : c.since + c.wait ≤ s.tb.crossings) :
    answers .pairWaitExpiry s fun t => t.tw = { s.tw with castle := none } ∧ endsQuietly s t j (failed stNOT_READY) := by
  have hnone : (if s.tw.hs.any (fun h => h.job.isSome && h.since + h.wait ≤ s.tb.crossings)
      then s.failPairing (failed stNOT_READY) else s) = s := if_neg (by simp [hhs])
  have hexec : execPairWaitExpiry s = .next (s.castleWait s.tb.crossings) := by
    rw [execPairWaitExpiry_eq, hnone]
  refine ⟨_, hexec, ?_⟩
  unfold State.castleWait
  rw [if_pos (by simp [hcastle, hacked, hlate]), State.endCastle_fails hcastle hjob (by decide)]
  exact ⟨State.endJob_tw _ _ _, endsQuietly_endJob _ hb rfl ⟨rfl, rfl, rfl, rfl, rfl, rfl, rfl, rfl, rfl⟩⟩

/-- Settles O51: the paths are judged, the follow is promoted, and the waits end. -/
theorem pairPathsAndStates : Obligations.PairPathsAndStates := by
  intro s
  exact ⟨pathLossCheck_answers, promotion_answers, joinWaitExpiry_answers,
    fun h j b hhs hjob hb hlate => pairWaitExpiry_establish hhs hjob hb hlate,
    fun c j b hhs hcastle hacked hjob hb hlate => pairWaitExpiry_castle hhs hcastle hacked hjob hb hlate⟩

end Sys2Proof.Machine
end

section
/-! SUPPORT and O55. A FAULT_LOG_READ whose result area holds the records there are, and not as many as it allows (R622). -/

namespace Sys2Proof.Machine

/-- A running FAULT_LOG_READ of at most one record from the start of the log, with 24 bytes for its results. -/
def logReadJob : Job :=
  { src := .queue 5, inst := 0, opcode := opFAULT_LOG_READ, tag := 0, major := 2, minor := 2, flags := 0, handle := 0,
    deadline := 0, params := [⟨0x0152, [0]⟩, ⟨0x0153, [1]⟩, ⟨0x0154, [0]⟩], paramLen := 0, resultCap := 24, resultAddr := 0,
    dataLen := 0, frags := [], order := 0, seqInQueue := 0, phase := .running }

/-- The command runs, and the log is empty. -/
def logReadState : State := { State.reset with jobs := [(0, logReadJob)] }

theorem logReadJob_runs : runsMp logReadState 0 logReadJob opFAULT_LOG_READ := ⟨rfl, rfl, rfl, .inl rfl, rfl⟩

/-- The room is asked for the greatest number of records, so the command fails. -/
theorem logReadState_fails :
    exec (.faultLogRead 0) logReadState = .next (logReadState.failJob 0 stLIMIT_EXCEEDED) := rfl

/-- Refutes O55: of an empty log FAULT_LOG_READ has no record to answer, and the statement has it end DONE when that
answer fits; the model asks room for the greatest number of records and ends it LIMIT_EXCEEDED. -/
theorem not_faultCommands : ¬ Obligations.FaultCommands := by
  unfold Obligations.FaultCommands
  intro h
  obtain ⟨hread, -⟩ := h logReadState 0 logReadJob
  obtain ⟨t, ht, -, ⟨b, hb, hended, -⟩, -⟩ := hread logReadJob_runs (by decide) (by decide) (by decide) (by decide)
  cases logReadState_fails.symm.trans ht
  obtain ⟨c, hc, hfailed, -⟩ := endedWith_endJob (s := logReadState) (failed stLIMIT_EXCEEDED) logReadJob_runs.1
  cases hc.symm.trans hb
  exact absurd (congrArg (Option.map Ending.status) (hfailed.symm.trans hended)) (by decide)

end Sys2Proof.Machine
end

section
/-! SUPPORT and O56. The counters of the module share one table, keyed by offset and index: the stall counter of a queue
number far above the 2,048 pairs is the counter of the CORRECTED faults (R189, R593). -/

namespace Sys2Proof.Machine

/-- The queue number whose CQ_STALL counter has the key of FC_CNT_CORR. -/
def farQueue : Nat := (aFC_CNT_CORR - aQ_STALL_CNT) * 65536

/-- A waiting command from that queue. -/
def farJob : Job :=
  { src := .queue farQueue, inst := 0, opcode := opSELFTEST, tag := 0, major := 2, minor := 2, flags := 0, handle := 0,
    deadline := 0, params := [], paramLen := 0, resultCap := 0, resultAddr := 0, dataLen := 0, frags := [], order := 0,
    seqInQueue := 0, phase := .fifo }

/-- The queue holds sixteen completions back for a full CQ, and sixteen faults have counted towards the corruption alarm. -/
def crowdedState : State :=
  { State.reset with pw := { State.reset.pw with domains := [(0, .on)] }
                     jobs := [(0, farJob)]
                     pairs := [(farQueue, { enabled := true, hold := List.replicate 16 [] })]
                     fc := { State.reset.fc with dcmTimes := List.replicate 16 0 } }

/-- A corrected fault of the kind that counts towards the corruption alarm. -/
def seventeenthFault : FaultMsg := { source := 512, access := 0, kind := 0x12, master := 0, address := 0, fatal := false }

/-- The alarm ends the command, its completion stalls the queue, and the stall counts a second time. -/
theorem crowdedState_counts : ∃ t, exec (.faultMessage seventeenthFault 0) crowdedState = .next t ∧
    t.cnt aFC_CNT_CORR 0 = 2 := ⟨_, rfl, by decide +kernel⟩

/-- Refutes O56: where a queue number far above the module's pairs stalls as the corruption alarm ends its command, its
stall counter is the very counter of the CORRECTED faults, which one message then raises by two. -/
theorem not_faultCollectionAndRecovery : ¬ Obligations.FaultCollectionAndRecovery := by
  unfold Obligations.FaultCollectionAndRecovery
  intro h
  obtain ⟨hmessage, -⟩ := h.1 crowdedState
  obtain ⟨t, ht, -, -, hcount, -⟩ := hmessage seventeenthFault 0 0 (by decide) (by decide)
  obtain ⟨u, hu, htwice⟩ := crowdedState_counts
  cases hu.symm.trans ht
  have honce := hcount (.inl (by decide))
  exact absurd (htwice.symm.trans honce) (by decide)

end Sys2Proof.Machine
end

section
/-! SUPPORT and O57. What an alarm input does (R614 to R617), and the monitors of supply, fans and temperature (R661, R662,
R665, R667). -/

namespace Sys2Proof.Machine

variable {s t : State}

/-! ### Completions leave the alarms -/

theorem State.sendReply_al (s : State) (b : Job) (e : Ending) (p : Bytes) : (s.sendReply b e p).al = s.al := by
  unfold State.sendReply
  extract_lets u
  have hu : u.al = s.al := by
    unfold u
    split <;> rfl
  split
  · obtain ⟨mp, versions, hv⟩ := u.setVersion_eq b.src b.inst _
    rw [hv]
    exact hu
  · exact hu

theorem State.addJob_al (s : State) (b : Job) : (s.addJob b).2.al = s.al := by
  unfold State.addJob
  dsimp only
  split <;> rfl

theorem State.taskLeft_al (s : State) (b : Job) (e : Ending) : (s.taskLeft b e).al = s.al := by
  unfold State.taskLeft
  split
  · rfl
  · split
    · unfold State.subtreeLeft
      extract_lets u left
      have hu : u.al = s.al := by
        unfold u
        split
        · exact s.addJob_al _
        · rfl
      split <;> exact hu
    · exact State.onJob_al _ _ _

theorem QueueTraffic.al (h : QueueTraffic s t) : t.al = s.al := by rw [h]

theorem State.writeCompletion_al (s : State) (j : Nat) : (s.writeCompletion j).al = s.al := by
  unfold State.writeCompletion
  split
  · rfl
  · split
    · rfl
    next e _ =>
      extract_lets b u
      have hu : u.al = s.al := rfl
      have hdetail : (u.withDetail b e).2.al = s.al := by
        obtain ⟨n, hn⟩ := u.withDetail_eq b e
        rw [hn]
        exact hu
      split
      · split
        · exact ((QueueTraffic.refl u).checkIdle _).al
        · exact hu
      · split
        · split
          · exact (((QueueTraffic.refl u).placeCompletion _ _).checkIdle _).al
          · exact (State.queueCompletion_traffic _ _ _ _).al.trans hdetail
        · exact u.taskLeft_al _ _
        · exact hu
        · exact (State.sendReply_al _ _ _ _).trans hdetail

theorem foldl_al {α : Type} {f : State → α → State} (hf : ∀ s a, (f s a).al = s.al) :
    ∀ (l : List α) (s : State), (l.foldl f s).al = s.al
  | [], _ => rfl
  | a :: l, s => (foldl_al hf l (f s a)).trans (hf s a)

theorem State.endAll_al (s : State) (status : Nat) : (s.endAll status).al = s.al :=
  foldl_al (fun u j => ((u.failJob j status).writeCompletion_al j).trans (State.endJob_al _ _ _)) _ s

theorem State.countErased_al (s : State) : s.countErased.al = s.al :=
  foldl_al (fun u (e : Nat × Job) => by split <;> rfl) s.jobs s

/-! ### Erasing (R616) -/

/-- Entering FAULT leaves the alarms, the key store and the vector units, and the module is not in SERVICE. -/
theorem State.enterFault_leaves (s : State) (kind : Nat) (byAlarm : Bool) :
    (s.enterFault kind byAlarm).al = s.al ∧ (s.enterFault kind byAlarm).ks = s.ks ∧
      (s.enterFault kind byAlarm).lvus = s.lvus ∧ (s.enterFault kind byAlarm).fc.mstate ≠ .service := by
  unfold State.enterFault
  extract_lets fc u v fc' tr tw mp w x
  split
  next hout => exact ⟨rfl, rfl, rfl, hout⟩
  next =>
    have hv : QueueTraffic u v := (QueueTraffic.refl u).postEvent _ _ _ _ _
    have hx : x.al = s.al ∧ x.ks = s.ks ∧ x.lvus = s.lvus ∧ x.fc.mstate = .fault := by
      refine ⟨hv.al, hv.ks, ?_, rfl⟩
      have hlvus : v.lvus = u.lvus := by rw [hv]
      exact hlvus
    clear_value x
    obtain ⟨hal, hks, hlvus, hmstate⟩ := hx
    obtain ⟨lost, us, h⟩ := x.setReadyBits_traffic (x.pw.ready &&& faultBits)
    refine ⟨h.al.trans hal, h.ks.trans hks, ?_, ?_⟩
    · rw [h]
      exact hlvus
    · rw [h.fc]
      dsimp only
      rw [hmstate]
      decide

/-- The keys are gone and the module has left SERVICE. -/
structure KeysErased (s : State) : Prop where
  slots : s.ks.slots = []
  kchk : s.ks.kchk = []
  rkId : s.ks.rkId = []
  rkSeal : s.ks.rkSeal = []
  mstate : s.fc.mstate ≠ .service
  lvus : s.lvus = []

theorem State.alarmErase_erases (s : State) (kind : Nat) : (s.alarmErase kind).al = s.al ∧ KeysErased (s.alarmErase kind) := by
  unfold State.alarmErase
  extract_lets u ks tr v w
  have hw : w.al = s.al ∧ w.ks.slots = [] ∧ w.ks.kchk = [] ∧ w.ks.rkId = [] ∧ w.ks.rkSeal = [] ∧ w.lvus = [] :=
    ⟨(State.endAll_al _ _).trans s.countErased_al, rfl, rfl, rfl, rfl, rfl⟩
  clear_value w
  obtain ⟨hal, hslots, hkchk, hrkId, hrkSeal, hlvus⟩ := hw
  obtain ⟨fal, fks, flvus, fmstate⟩ := ((w.bump aAL_ERASE_CNT 0).bump aKS_ERASE_CNT 0).enterFault_leaves kind true
  exact ⟨fal.trans hal, (congrArg KeyStore.slots fks).trans hslots, (congrArg KeyStore.kchk fks).trans hkchk,
    (congrArg KeyStore.rkId fks).trans hrkId, (congrArg KeyStore.rkSeal fks).trans hrkSeal, fmstate, flvus.trans hlvus⟩

/-! ### Inputs (R614, R615, R617) -/

/-- The alarm latch as an input asserts. -/
def State.alarmNoted (s : State) (input ns : Nat) (record : LogRecord) : State :=
  { s with al := { s.al with
    live := s.al.live ||| BitVec.ofNat 11 (2 ^ input), latch := s.al.latch ||| BitVec.ofNat 11 (2 ^ input),
    last := s.tb.stamp, lastAction := s.alarmAction input, lastInput := input, lastNs := ns, record := some record } }

/-- Only the fault collector's records changed. -/
structure CollectorOnly (s t : State) : Prop where
  rest : t = { s with fc := t.fc }
  mstate : t.fc.mstate = s.fc.mstate

theorem CollectorOnly.refl (s : State) : CollectorOnly s s := ⟨rfl, rfl⟩

theorem CollectorOnly.trans {u : State} (h : CollectorOnly s t) (g : CollectorOnly t u) : CollectorOnly s u := by
  refine ⟨?_, g.mstate.trans h.mstate⟩
  have hrest := g.rest
  rw [h.rest] at hrest
  exact hrest

theorem collectorOnly_logFault (s : State) (cls : Nat) (msg : Bytes) : CollectorOnly s (s.logFault cls msg) := by
  obtain ⟨fc, h, hmstate⟩ := s.logFault_eq cls msg
  rw [h]
  exact ⟨rfl, hmstate⟩

theorem State.keepRecord_eq (s : State) (x : LogRecord) :
    ∃ fc, s.keepRecord x = { s with fc := fc } ∧ fc.mstate = s.fc.mstate := by
  unfold State.keepRecord
  split
  · exact ⟨s.fc, rfl, rfl⟩
  · exact ⟨_, rfl, rfl⟩

theorem collectorOnly_keepRecord (s : State) (x : LogRecord) : CollectorOnly s (s.keepRecord x) := by
  obtain ⟨fc, h, hmstate⟩ := s.keepRecord_eq x
  rw [h]
  exact ⟨rfl, hmstate⟩

/-- What the action of an input does. -/
def State.alarmAct (s : State) (input : Nat) (act : Nat) : State :=
  if act = 0 then s.postEvent 0 0x0273 none input 0
  else if act = 2 then
    { s.alarmErase 0x70 with
      al := { (s.alarmErase 0x70).al with perm := true }, ks := { (s.alarmErase 0x70).ks with roots := .erased, n0 := none } }
  else s.alarmErase 0x70

/-- An input that asserts is latched, the collector records it, and its action follows. -/
theorem State.alarmInput_acts (s : State) (input eraseNs : Nat) : ∃ ns record u,
    CollectorOnly (s.alarmNoted input ns record) u ∧ s.alarmInput input eraseNs = u.alarmAct input (s.alarmAction input) := by
  unfold State.alarmInput
  extract_lets act bit m msg record al u v fc w x y
  have hw : CollectorOnly u w := (collectorOnly_logFault u 3 msg).trans (u := w) ⟨rfl, rfl⟩
  have hx : CollectorOnly u x := by
    unfold x
    split
    · exact hw.trans (collectorOnly_keepRecord w record)
    · exact hw
  have hu : u = s.alarmNoted input (if act = 0 then 0 else min 65535 eraseNs) record := rfl
  rw [hu] at hx
  refine ⟨_, record, x, hx, ?_⟩
  clear hx hw hu
  clear_value x
  unfold State.alarmAct
  rfl

theorem getLsbD_ofNat_pow (i k : Nat) (hi : i ≤ 10) : (BitVec.ofNat 11 (2 ^ i)).getLsbD k = decide (i = k) := by
  rw [BitVec.getLsbD_ofNat, Nat.testBit_two_pow]
  by_cases h : i = k
  · simp [h.symm]
    omega
  · simp [h]

section
variable {i : Nat} (ns : Nat) (hon : s.domain 0 = .on) (hmonitored : s.monitored i = true) (hlive : s.al.live.getLsbD i = false)
include hon hmonitored hlive

theorem alarm_latches : answers (.alarm i ns) s fun t =>
      t.al.live.getLsbD i = true ∧ t.al.latch = s.al.latch ||| BitVec.ofNat 11 (2 ^ i) ∧ t.al.last = s.tb.stamp ∧
      t.al.lastInput = i ∧
      (s.alarmAction i = 0 → t.ks = s.ks ∧ t.fc.mstate = s.fc.mstate ∧ t.al.perm = s.al.perm) ∧
      (s.alarmAction i ≠ 0 → t.ks.slots = [] ∧ t.ks.kchk = [] ∧ t.ks.rkId = [] ∧ t.ks.rkSeal = [] ∧
        t.fc.mstate ≠ .service ∧ t.lvus = []) ∧
      (s.alarmAction i = 2 → t.al.perm = true ∧ t.ks.roots = .erased) := by
  refine ⟨_, (if_neg (by simp [hon, hmonitored, hlive]) : execAlarm i ns s = _), ?_⟩
  have hi : i ≤ 10 := by
    by_contra h
    unfold State.monitored at hmonitored
    rw [if_neg (by omega), if_neg (by omega), decide_eq_true_iff] at hmonitored
    omega
  obtain ⟨lastNs, record, u, hu, hacts⟩ := s.alarmInput_acts i ns
  rw [hacts]
  have hbit : (s.al.live ||| BitVec.ofNat 11 (2 ^ i)).getLsbD i = true := by
    rw [BitVec.getLsbD_or, getLsbD_ofNat_pow i i hi]
    simp
  have hal : u.al = (s.alarmNoted i lastNs record).al := by rw [hu.rest]
  unfold State.alarmAct
  by_cases hlog : s.alarmAction i = 0
  · have hpost := (QueueTraffic.refl u).postEvent 0 0x0273 none i 0
    rw [if_pos hlog]
    refine ⟨?_, ?_, ?_, ?_, fun _ => ⟨?_, ?_, ?_⟩, fun h => absurd hlog h, fun h => by omega⟩
    · rw [hpost.al, hal]
      exact hbit
    · rw [hpost.al, hal]
      rfl
    · rw [hpost.al, hal]
      rfl
    · rw [hpost.al, hal]
      rfl
    · rw [hpost.ks, hu.rest]
      rfl
    · rw [hpost.fc]
      exact hu.mstate
    · rw [hpost.al, hal]
      rfl
  · obtain ⟨herase, hgone⟩ := u.alarmErase_erases 0x70
    have hnoted := herase.trans hal
    rw [if_neg hlog]
    have hlatched : ∀ v : State, v.al.live = (u.alarmErase 0x70).al.live → v.al.latch = (u.alarmErase 0x70).al.latch →
        v.al.last = (u.alarmErase 0x70).al.last → v.al.lastInput = (u.alarmErase 0x70).al.lastInput →
        v.al.live.getLsbD i = true ∧ v.al.latch = s.al.latch ||| BitVec.ofNat 11 (2 ^ i) ∧ v.al.last = s.tb.stamp ∧
          v.al.lastInput = i := fun v hlive hlatch hlast hinput => by
      rw [hlive, hlatch, hlast, hinput, hnoted]
      exact ⟨hbit, rfl, rfl, rfl⟩
    have hkeys : (u.alarmErase 0x70).ks.slots = [] ∧ (u.alarmErase 0x70).ks.kchk = [] ∧
        (u.alarmErase 0x70).ks.rkId = [] ∧ (u.alarmErase 0x70).ks.rkSeal = [] ∧
        (u.alarmErase 0x70).fc.mstate ≠ .service ∧ (u.alarmErase 0x70).lvus = [] :=
      ⟨hgone.slots, hgone.kchk, hgone.rkId, hgone.rkSeal, hgone.mstate, hgone.lvus⟩
    generalize u.alarmErase 0x70 = v at hlatched hkeys
    split
    next hperm =>
      obtain ⟨hl, hla, hlast, hinput⟩ := hlatched
        { v with al := { v.al with perm := true }, ks := { v.ks with roots := .erased, n0 := none } } rfl rfl rfl rfl
      exact ⟨hl, hla, hlast, hinput, fun h => absurd h hlog, fun _ => hkeys, fun _ => ⟨rfl, rfl⟩⟩
    next hperm =>
      obtain ⟨hl, hla, hlast, hinput⟩ := hlatched v rfl rfl rfl rfl
      exact ⟨hl, hla, hlast, hinput, fun h => absurd h hlog, fun _ => hkeys, fun h => absurd h hperm⟩

end

theorem alarmInputClear_answers {i : Nat} (hi : i ≤ 10) : answers (.alarmInputClear i) s fun t =>
    t.al.live.getLsbD i = false ∧ t.al.latch = s.al.latch ∧ ∀ k, k ≠ i → t.al.live.getLsbD k = s.al.live.getLsbD k := by
  refine ⟨_, (rfl : execAlarmInputClear i s = _), ?_, rfl, fun k hk => ?_⟩
  · change (s.al.live &&& ~~~(BitVec.ofNat 11 (2 ^ i))).getLsbD i = false
    rw [BitVec.getLsbD_and, BitVec.getLsbD_not, getLsbD_ofNat_pow i i hi]
    simp
  · change (s.al.live &&& ~~~(BitVec.ofNat 11 (2 ^ i))).getLsbD k = s.al.live.getLsbD k
    rw [BitVec.getLsbD_and, BitVec.getLsbD_not, getLsbD_ofNat_pow i k hi, decide_eq_false (Ne.symm hk)]
    by_cases hin : k < 11
    · simp [hin]
    · simp [hin, BitVec.getLsbD_of_ge s.al.live k (by omega)]

/-! ### Monitors (R612, R661, R665, R667) -/

/-- One CORRECTED fault was counted, and the jobs stand. -/
def CorrectedCounted (s t : State) : Prop :=
  t.cnt aFC_CNT_CORR 0 = (s.cnt aFC_CNT_CORR 0 + 1) % 2 ^ 32 ∧ t.jobs = s.jobs

theorem State.capture_live (s : State) (cls : Nat) (msg : Bytes) : (s.capture cls msg).fc.live = s.fc.live := by
  unfold State.capture
  split <;> rfl

theorem State.logFault_live (s : State) (cls : Nat) (msg : Bytes) : (s.logFault cls msg).fc.live = s.fc.live := by
  unfold State.logFault
  dsimp only
  repeat' split
  all_goals rfl

/-- Collecting a CORRECTED message leaves what is live. -/
theorem State.collect_live (s : State) (m : FaultMsg) : (s.collect m 0).fc.live = s.fc.live := by
  unfold State.collect
  extract_lets msg u v
  have hu : u.fc.live = s.fc.live := State.capture_live _ 0 msg
  rw [if_neg (by decide)]
  unfold v
  split
  · exact hu
  · exact (u.logFault_live 0 msg).trans hu

/-- A CORRECTED fault that no alarm counts is counted once, and leaves the power state and what is live. -/
theorem State.raise_counted (s : State) {m : FaultMsg} (hc : kindClass m.kind m.fatal = some 0)
    (hd : ∀ t : State, t.countDcm m.kind = t) :
    CorrectedCounted s (s.raise m) ∧ (s.raise m).pw = s.pw ∧ (s.raise m).fc.live = s.fc.live := by
  have hlive : (s.raise m).fc.live = s.fc.live := by
    unfold State.raise
    rw [hc]
    dsimp only
    rw [hd, if_pos rfl]
    exact s.collect_live m
  obtain ⟨fc, h, -⟩ := s.raise_corrected hc hd
  refine ⟨⟨?_, ?_⟩, ?_, hlive⟩
  · rw [h]
    exact State.cnt_bumpBy_same _ _ _ _
  · rw [h]
    rfl
  · rw [h]
    rfl

theorem fan_set (fans : Tab Nat) (fan rpm : Nat) : tgetD (tset fans fan rpm) fan 0 = rpm := by
  unfold tgetD
  rw [tget_tset_same]
  rfl

theorem fanChange_answers {fan : Nat} (rpm : Nat) (hfan : fan < 6) (hon : s.domain 1 = .on) :
    answers (.fanChange fan rpm) s fun t =>
      tgetD t.pw.fans fan 0 = rpm ∧ (rpm = 0 → CorrectedCounted s t) ∧ (rpm ≠ 0 → t.cnts = s.cnts) := by
  by_cases hrpm : rpm = 0
  · refine ⟨_, (if_neg (by simp [hfan, hon])).trans (if_pos hrpm), ?_⟩
    obtain ⟨hcounted, hpw, -⟩ := State.raise_counted
      { s with pw := { s.pw with fans := tset s.pw.fans fan rpm } }
      (m := { source := 0x640 + fan, access := 0, kind := 0x52, master := 0, address := rpm, fatal := false }) rfl
      (fun t => show t.countDcm 0x52 = t from if_neg (by decide))
    refine ⟨?_, fun _ => hcounted, fun h => absurd hrpm h⟩
    rw [hpw]
    exact fan_set s.pw.fans fan rpm
  · exact ⟨_, (if_neg (by simp [hfan, hon])).trans (if_neg hrpm), fan_set s.pw.fans fan rpm, fun h => absurd h hrpm,
      fun _ => rfl⟩

theorem tempHigh_answers (deciC : Nat) (hon : s.domain 0 = .on) : answers (.tempHigh deciC) s fun t =>
    (s.inletLimit < deciC → t.fc.live.getLsbD 4 = true ∧ CorrectedCounted s t) ∧
    (deciC ≤ s.inletLimit → t.fc.live.getLsbD 4 = false ∧ t.cnts = s.cnts) := by
  by_cases hhigh : s.inletLimit < deciC
  · refine ⟨_, (if_neg (not_not.2 hon)).trans (if_pos hhigh), fun _ => ?_, fun h => by omega⟩
    obtain ⟨hcounted, -, hlive⟩ := State.raise_counted
      { s with fc := { s.fc with live := s.fc.live ||| 16 } }
      (m := { source := 0x6A0, access := 0, kind := 0x53, master := 0, address := deciC, fatal := false }) rfl
      (fun t => show t.countDcm 0x53 = t from if_neg (by decide))
    refine ⟨?_, hcounted⟩
    rw [hlive]
    simp
  · refine ⟨_, (if_neg (not_not.2 hon)).trans (if_neg hhigh), fun h => absurd h hhigh, fun _ => ⟨?_, rfl⟩⟩
    change (s.fc.live &&& ~~~(16 : BitVec 6)).getLsbD 4 = false
    simp

theorem feedLost_answers (feed : Nat) (u : State) (hjobs : u.jobs = s.jobs) (hcnts : u.cnts = s.cnts)
    (hexec : execFeedLost feed s =
      .next (u.raise { source := 0x630 + feed, access := 0, kind := 0x50, master := 0, address := feed, fatal := false })) :
    answers (.feedLost feed) s fun t => t.pw = u.pw ∧ CorrectedCounted s t := by
  obtain ⟨⟨hcount, hkept⟩, hpw, -⟩ := u.raise_counted
    (m := { source := 0x630 + feed, access := 0, kind := 0x50, master := 0, address := feed, fatal := false }) rfl
    (fun t => show t.countDcm 0x50 = t from if_neg (by decide))
  refine ⟨_, hexec, hpw, ?_, hkept.trans hjobs⟩
  rw [hcount]
  unfold State.cnt
  rw [hcnts]

theorem feedReturn_answers (hA : s.pw.feedA = false) (hB : s.pw.feedB = false) : answers .feedReturn s fun t =>
    t.pw.feedA = !t.pw.feedB ∧ t.pw.rails = true ∧ t.pw.resetCause = 0 ∧ t.jobs = [] ∧ t.ks.slots = [] := by
  refine ⟨_, (if_neg (by simp [hA, hB]) : execFeedReturn s = _), ?_, rfl, rfl, rfl, rfl⟩
  change ((s.drawNat 2).1 == 0) = !((s.drawNat 2).1 == 1)
  have hlt : (s.drawNat 2).1 < 2 := Nat.mod_lt _ (by decide)
  generalize (s.drawNat 2).1 = n at hlt
  have hn : n = 0 ∨ n = 1 := by omega
  rcases hn with rfl | rfl <;> rfl

theorem scrubPass_answers (ddr : Bool) : answers (.scrubPass ddr) s fun t => t = { s with cnts := t.cnts } ∧
    t.cnt (if ddr then aFC_SCRUB_DDR else aFC_SCRUB_SRAM) 0 =
      (s.cnt (if ddr then aFC_SCRUB_DDR else aFC_SCRUB_SRAM) 0 + 1) % 2 ^ 32 :=
  ⟨_, (rfl : execScrubPass ddr s = _), rfl, State.cnt_bumpBy_same _ _ _ _⟩

/-- Settles O57: the lemmas on the alarm inputs, the monitors and the feeds. -/
theorem alarmsAndMonitors : Obligations.AlarmsAndMonitors := by
  intro s reported
  refine ⟨fun i ns hon hmonitored hlive => alarm_latches ns hon hmonitored hlive, fun i hi => alarmInputClear_answers hi,
    fun fan rpm hfan hon => fanChange_answers rpm hfan hon, fun deciC hon => tempHigh_answers deciC hon,
    fun hA => ?_, fun hB => ?_, fun hA hB => ?_, fun hB hA => ?_, feedReturn_answers, scrubPass_answers⟩
  · exact feedLost_answers 0 { s with pw := { s.pw with feedA := false } } rfl rfl (if_neg (by simp [hA]))
  · exact feedLost_answers 1 { s with pw := { s.pw with feedB := false } } rfl rfl (if_neg (by simp [hB]))
  · exact ⟨_, (if_pos (by simp [hA, hB]) : execFeedRestored 0 s = _), rfl⟩
  · have hother : ¬(1 = 0 ∧ (!s.pw.feedA) = true ∧ s.pw.feedB = true) := fun h => absurd h.1 (by decide)
    have hexec : execFeedRestored 1 s = .next { s with pw := { s.pw with feedB := true, psuB := true } } :=
      (if_neg hother).trans (if_pos (by simp [hA, hB]))
    exact ⟨_, hexec, rfl⟩

end Sys2Proof.Machine
end
